-- ==== Sys2Proof/Word.lean ====
section
/-! DEFINITION. Sys2Proof/Word.lean: the types of words, bytes and sparse tables. -/

namespace Sys2Proof

/-- One byte. -/
abbrev Byte := BitVec 8

/-- A run of bytes, lowest address first. -/
abbrev Bytes := List Byte

/-- A 32-bit lane or word. -/
abbrev W32 := BitVec 32

/-- A 64-bit scalar register. -/
abbrev W64 := BitVec 64

/-- A 64-byte descriptor (bit 0 least significant, 00_scope R6). -/
abbrev Desc := BitVec 512

/-- A sparse table: keys strictly rising, one entry a key. A key that is not listed holds the table's default, which
the operation that reads it names. -/
abbrev Table (α : Type) := List (Nat × α)

end Sys2Proof
end

