-- ==== Sys2Proof/Syntax.lean ====
section
/-! DEFINITION. Sys2Proof/Syntax.lean: the commands of the block, one constructor for each row of spec/opcode_table.json,
and the plain data their operands carry. -/

namespace Sys2Proof

/-- Who sends a dictionary request: one role on one endpoint (17_object_dictionary R486, 16_security R452). A session is
named by its number; which context a TENANT reaches follows from the session's requester key. -/
inductive Who where
  | host (function : Nat)
  | bmc (eid : Nat)
  | tenant (session : Nat)
  | attested (session : Nat)
  deriving DecidableEq, Repr

/-- The content of a beat marker (02_beat_and_time R35). -/
structure Marker where
  masterNode : Nat
  masterPriority : Nat
  hops : Nat
  beatNumber : Nat
  edgeSec : Nat
  edgeNs : Nat
  turnaround : Nat
  period : Nat
  epochStart : Nat
  lock : Nat
  deriving DecidableEq, Repr

/-- An error that strikes a stored word of an SRAM of 13_hbm_and_ecc R360. Classes are numbered in the order of R360: 0 facet memory,
1 accumulator tiles, 2 staging bands, 3 collective staging, 4 sub-rings, 5 pool caches, 6 reply cache, 7 spoke buffers; 8 is the
queue records (15_faults_and_recovery R410). `inst` is the facet, 8 * facet + array, the context, 8 * context + pool, the spoke or
the queue; `word` the 64-bit word in it; `double`: two bits are wrong.
(DESIGN CHOICE, notes/assumptions/138, 167, 172.) -/
structure SramFlaw where
  cls : Nat
  inst : Nat := 0
  word : Nat
  double : Bool
  deriving DecidableEq, Repr

/-- An error of a stored HBM sector (13_hbm_and_ecc R358, R365). (DESIGN CHOICE, notes/assumptions/138.) -/
inductive HbmFlaw where
  /-- These bits of the stored data and check bytes are wrong. -/
  | symbols (sector data check : Nat)
  /-- The codeword that reads come to is the one of another address. -/
  | elsewhere (sector : Nat)
  /-- What a sector that nothing has written holds. -/
  | contents (sector : Nat) (bytes : Bytes)
  deriving DecidableEq, Repr

/-- The errors that have struck the memories since the last patrol read, and the stacks whose on-die ECC has corrected one each. -/
structure Flaws where
  hbm : List HbmFlaw := []
  sram : List SramFlaw := []
  onDie : List Nat := []
  deriving DecidableEq, Repr

/-- Which of the two objects of the ledger region a write names (02_beat_and_time R68). -/
inductive LedgerObject where
  | addr
  | entries
  deriving DecidableEq, Repr

/-- A Hupatas packet (11_spokes R309): the fields of its 32-byte header and its payload in plain text. -/
structure Packet where
  version : Nat := 1
  type : Nat
  vc : Nat
  hopLimit : Nat := 12
  src : Nat
  dst : Nat
  ctx : Nat
  srcGen : Nat := 0
  dstGen : Nat := 0
  srcEpoch : Nat := 0
  dstEpoch : Nat := 0
  seq : Nat := 0
  ack : Nat := 0
  first : Bool := true
  last : Bool := true
  retx : Bool := false
  detour : Bool := false
  ackValid : Bool := false
  reserved : Nat := 0
  payload : Bytes := []
  /-- The logical rank that the packet is addressed to, which no field of its header says; none: a node (10_lattices_and_mapping
  R291; DESIGN CHOICE, notes/assumptions/158). -/
  rank : Option Nat := none
  deriving DecidableEq, Repr

/-- What a link header carries beside the block's content (R301): acknowledgement and credit return. -/
structure LinkHeader where
  lack : Option Nat := none
  creditVc : Nat := 0
  creditClass : Nat := 0
  creditCount : Nat := 0
  deriving DecidableEq, Repr

/-- A flit (R301, R302): one of the consecutive flits of a packet, `piece` counting from 0. -/
structure Flit where
  lseq : Nat
  header : LinkHeader := {}
  keyPhase : Bool := false
  piece : Nat
  packet : Packet
  /-- Its 308 bytes as this device sends them; a received flit has been decrypted into `packet`. -/
  payload : Bytes := []
  deriving DecidableEq, Repr

/-- A link block that carries no ordered set (R301). -/
inductive Block where
  | flit (f : Flit)
  | idle (h : LinkHeader)
  deriving DecidableEq, Repr

/-- What the checks of a received codeword and block found (R296, R303): the symbols the FEC corrected, none where it cannot correct
it, and whether the CRC is right. -/
structure BlockCheck where
  fec : Option Nat
  crcOk : Bool
  deriving DecidableEq, Repr

/-- Where a received packet comes from: the front of those the link layer has put together, or a datagram of an Ethernet
chord, whose tag the spoke engine has found right or wrong (R322, R325). -/
inductive PacketFrom where
  | link
  | chord (spoke : Nat) (packet : Packet) (tagOk : Bool)
  deriving DecidableEq, Repr

/-- A TRAINING ordered set (R306): node, device epoch, part variant, mode, lane mask, training step. -/
structure Training where
  node : Nat
  epoch : Nat
  variant : Nat
  mode : Nat
  lanes : Nat
  step : Nat
  deriving DecidableEq, Repr

/-- A HEARTBEAT ordered set (R306). -/
structure Heartbeat where
  masterNode : Nat
  masterPriority : Nat
  hops : Nat
  lock : Nat
  node : Nat
  epoch : Nat
  deriving DecidableEq, Repr

/-- A stream engine's run of a descriptor (06 R197): to its end, or, with `part`, so far that these ranges (address, bytes) of its
planes are written. (DESIGN CHOICE, notes/assumptions/76.) -/
structure StreamRun where
  item : Nat
  part : Option (List (Nat × Nat)) := none
  deriving DecidableEq, Repr

/-- What the attestation of a spoke's peer found (R321): its chain verifies to the vendor root, it is an -E part, its
measurement slots 0-3 equal this device's, it is a -C part fused with the same customer key hash. -/
structure PeerFacts where
  vendorChain : Bool
  engineering : Bool
  sameImages : Bool
  sameCustomer : Bool
  deriving DecidableEq, Repr

/-- An engine instance named by a command of the escalation ladder (15_faults_and_recovery R413). -/
inductive EngineRef where
  | facet (f : Nat)
  | dma (n : Nat)
  | router (slice : Nat)
  | collective (slice : Nat)
  | fabric (slice : Nat)
  | queueManager
  | poolManager
  deriving DecidableEq, Repr

/-- What the check of an image (16_security R444) finds in flash: its 128-byte manifest header as a number, and the outcomes of
the hashes and signatures over it, which the environment supplies. -/
structure ImageFacts where
  header : Nat
  /-- The vendor key's hash is the fused one, and its signature verifies. -/
  vendorHashOk : Bool
  vendorSigOk : Bool
  /-- The ML-DSA block's key hash is the fused and the stated one, and its signature verifies. -/
  mldsaOk : Bool
  /-- The customer block's key hash is the fused one, and its signature verifies. -/
  customerOk : Bool
  /-- The SHA-384 of the image equals IMAGE_DIGEST. -/
  digestOk : Bool
  deriving DecidableEq, Repr

/-- What the start-up self-test found (13_hbm_and_ecc R370), in the fields of SELFTEST_RESULT: failed facets by bit, classes of
shared SRAM, controllers whose ECC loopback failed, failed stacks, and how long it took. -/
structure SelfTest where
  facets : Nat
  shared : Nat
  loopbacks : Nat
  stackFails : Nat
  durationUs : Nat
  deriving DecidableEq, Repr

/-- The endpoint that an SPDM message comes from and its response goes to (16 R449): the DOE mailbox of a PCIe function, or an
MCTP endpoint. -/
inductive SpdmEnd where
  | doe (function : Nat)
  | mctp (eid : Nat)
  deriving DecidableEq, Repr

/-- What a requester proved in mutual authentication (16 R452, R453): the SHA-384 of its leaf public key, and the hash of its
chain's root. -/
structure RequesterProof where
  key : Nat
  root : Nat
  deriving DecidableEq, Repr

/-- An IDE stream (16 R462): the link's, or the selective stream of a function. -/
inductive IdeStream where
  | link
  | selective (function : Nat)
  deriving DecidableEq, Repr

/-- Where a dictionary frame comes from (17_object_dictionary R484, R486): the mailbox of a function, which holds it, an MCTP
endpoint outside a session, or an SPDM session. -/
inductive FrameFrom where
  | mailbox (function : Nat)
  | mctp (eid : Nat) (frame : Bytes)
  | session (number : Nat) (frame : Bytes)
  deriving DecidableEq, Repr

/-- The commands: each changes the state of the device as the rule in its comment says. An operand is what the world
outside the model decides: who writes, what arrives, what a sensor or a check found. (DESIGN CHOICE, notes/assumptions/38.)
(DESIGN CHOICE, notes/assumptions/139.) -/
inductive Instr where
  /-- BEAT_EDGE (R30): The beat period expires: the cadence unit advances BEAT_COUNT and runs everything placed at that beat edge. -/
  | beatEdge
  /-- SLOT_COMPLETE (R55): A slot completes when every one of its descriptors has a completion; at a step's last slot this ends the step. -/
  | slotComplete (ctx slot sinceEdgeNs : Nat)
  /-- LATE_WAIT_TIMEOUT (R64): LATE_TIMEOUT_MS expires under WAIT: the slot's descriptors complete FAILED_TIMEOUT, and the plan is HALTED. -/
  | lateWaitTimeout (ctx slot : Nat)
  /-- BEAT_PERIOD_NS_WRITE (R31): A write of BEAT_PERIOD_NS is accepted only in STOPPED and applies at the next epoch; otherwise it is refused CADENCE_STATE_CONFLICT. -/
  | beatPeriodNsWrite (who : Who) (value : Nat)
  /-- BEAT_EPOCH_START_SEC_WRITE (R33): Writing a TAI second on the master arms a beat-zero epoch; the write is refused while a plan of the master is RUNNING. -/
  | beatEpochStartSecWrite (who : Who) (value : Nat)
  /-- EPOCH_START (R33): At the armed second, the master starts beat 0 of a new beat-zero epoch. -/
  | epochStart
  /-- BEAT_MARKER_RECEIVE (R36): A beat marker arrives on a spoke; the device measures its offset, chooses its upstream spoke, applies the servo, and learns the master candidate and the epoch. -/
  | beatMarkerReceive (spoke : Nat) (marker : Marker) (t1 t4 : Nat) (copies : List Bool)
  /-- CADENCE_LOCK (R39): After 16 consecutive beats within tolerance, the cadence unit returns from ACQUIRING to LOCKED. -/
  | cadenceLock
  /-- UPSTREAM_LOSS (R40): The upstream peer stops sending markers; the device moves to another candidate spoke, or enters HOLDOVER when none remains. -/
  | upstreamLoss
  /-- HOLDOVER_TIMEOUT (R32): After 10 s in HOLDOVER without a new upstream path or master, the cadence unit enters ACQUIRING. -/
  | holdoverTimeout
  /-- HEARTBEAT_SEND (R307): At long beat periods, a spoke sends heartbeats between markers at fixed fractions of the period. -/
  | heartbeatSend (spoke : Nat)
  /-- HEARTBEAT_RECEIVE (R306): A HEARTBEAT ordered set arrives and refreshes the peer's liveness and master information. -/
  | heartbeatReceive (spoke : Nat) (heartbeat : Heartbeat) (copies : List Bool)
  /-- PEER_SILENT (R41): 2 ms pass on a spoke without a marker or heartbeat; the peer is declared silent and lost, and its epoch ends. -/
  | peerSilent (spoke : Nat)
  /-- PPS_EDGE (R43): A rising PPS_IN edge marks a second on the master, or is measured into PPS_OFFSET_NS on other devices; TIME_SECONDS_NEXT is loaded. -/
  | ppsEdge (sinceNs : Nat)
  /-- PPS_LOSS (R45): No PPS edge arrives within 1 s ± 1 ms for two consecutive seconds; the master enters time state HOLDOVER. -/
  | ppsLoss
  /-- PLAN_LOAD (R51): PLAN_CONTROL LOAD checks the plan image and moves the plan to LOADED, or refuses it with a load abort code. -/
  | planLoad (who : Who) (ctx : Nat)
  /-- PLAN_ARM (R51): PLAN_CONTROL ARM checks the plan against the other armed and running plans and moves it to ARMED, or refuses it. -/
  | planArm (who : Who) (ctx : Nat)
  /-- STOP_AT_STEP_END (R52): PLAN_CONTROL STOP_AT_STEP_END requests that the plan stop after the current step. -/
  | stopAtStepEnd (who : Who) (ctx : Nat)
  /-- PLAN_HALT (R52): PLAN_CONTROL HALT lets running slots complete, starts nothing further, and moves the plan to HALTED. -/
  | planHalt (who : Who) (ctx : Nat)
  /-- PLAN_UNLOAD (R52): PLAN_CONTROL UNLOAD moves a plan that is not RUNNING to EMPTY. -/
  | planUnload (who : Who) (ctx : Nat)
  /-- PLAN_FIRST_STEP_WRITE (R53): A write of PLAN_FIRST_STEP is accepted unless the plan is ARMED or RUNNING, when it is refused PLAN_STATE_CONFLICT. -/
  | planFirstStepWrite (who : Who) (ctx value : Nat)
  /-- DROP_LEDGER_REGION_WRITE (R68): A write of DROP_LEDGER_ADDR or DROP_LEDGER_ENTRIES is refused VALUE_RANGE when the ledger region would leave the context's HBM. -/
  | dropLedgerRegionWrite (who : Who) (ctx : Nat) (object : LedgerObject) (value : Nat)
  /-- WINDOW_OUTPUT_SEND (R61): Once a slot's output and its open window both exist, the output leaves, followed by the close marker. -/
  | windowOutputSend (ctx slot : Nat)
  /-- CLOSE_MARKER_RECEIVE (R62): A close marker arrives; the contribution is complete once every record it counts has arrived, and it is classed on time, within grace or late. -/
  | closeMarkerReceive (node vc : Nat)
  /-- THREAD_ISSUE_NEXT (R142): A thread issues its slot's next descriptor once the previous one has completed, or has been accepted for NO_WAIT or HOLD_SRC. -/
  | threadIssueNext (facet thread : Nat)
  /-- FACET_ZERO_DONE (R140): The 4,096-cycle zeroing at a change of context or generation ends, and the slot may start. -/
  | facetZeroDone (facet : Nat)
  /-- THREAD_WAKE (R144): A switched-out thread becomes ready 4 cycles after its awaited reply, tile or frame arrives. -/
  | threadWake (facet thread : Nat)
  /-- VECTOR_FRAME_GRANT (R146): A waiting vector descriptor receives a zeroed frame, in request order. -/
  | vectorFrameGrant (facet : Nat)
  /-- MATMUL (R111): A matrix descriptor with opcode MATMUL is checked, accepted and started; its records and dynamic count are read. -/
  | matmul (item : Nat)
  /-- MAX_INDEX (R123): A matrix descriptor with opcode MAX_INDEX computes the largest product and its K index. -/
  | maxIndex (item : Nat)
  /-- MIN_INDEX (R123): A matrix descriptor with opcode MIN_INDEX computes the smallest product and its K index. -/
  | minIndex (item : Nat)
  /-- K_LOOP_END (R120): A super-tile's K loop ends; each array whose tile overflowed retries with a larger shift, or is marked exhausted. -/
  | kLoopEnd (facet : Nat)
  /-- ACC_TILE_SWAP (R116): Front and back accumulator tiles swap once the back tile is drained or released, and the next super-tile starts. -/
  | accTileSwap (facet : Nat)
  /-- TILE_DRAIN_DONE (R117): A back tile finishes draining to facet memory; the descriptor completes after its last tile. -/
  | tileDrainDone (facet array : Nat)
  /-- RUN_PROGRAM (R149): A vector descriptor RUN_PROGRAM loads its arguments into s1–s7 and runs its element program. -/
  | runProgram (item : Nat)
  /-- TREE_COMBINE (R161): A vector descriptor TREE_COMBINE combines chunk partials through the canonical tree, with realignment and retries. -/
  | treeCombine (item : Nat)
  /-- VPROG_INSN_LIMIT_EXCEEDED (R150): A program exceeds VPROG_INSN_LIMIT instructions; it stops and completes FAILED_TIMEOUT. -/
  | vprogInsnLimitExceeded (facet thread : Nat)
  /-- SADD (R152): Scalar 64-bit wrapping add. -/
  | sadd (facet thread : Nat)
  /-- SADDI (R152): Scalar add of an immediate. -/
  | saddi (facet thread : Nat)
  /-- SSUB (R152): Scalar 64-bit wrapping subtract. -/
  | ssub (facet thread : Nat)
  /-- SMUL (R152): Scalar 64-bit wrapping multiply. -/
  | smul (facet thread : Nat)
  /-- SAND (R152): Scalar bitwise AND. -/
  | sand (facet thread : Nat)
  /-- SOR (R152): Scalar bitwise OR. -/
  | sor (facet thread : Nat)
  /-- SXOR (R152): Scalar bitwise XOR. -/
  | sxor (facet thread : Nat)
  /-- SSHL (R152): Scalar shift left by IMM[5:0]. -/
  | sshl (facet thread : Nat)
  /-- SSHR (R152): Scalar logical shift right. -/
  | sshr (facet thread : Nat)
  /-- SSRA (R152): Scalar arithmetic shift right. -/
  | ssra (facet thread : Nat)
  /-- SLI (R152): Loads a sign-extended immediate into a scalar. -/
  | sli (facet thread : Nat)
  /-- SLUI (R152): Loads an immediate into the upper 32 bits of a scalar. -/
  | slui (facet thread : Nat)
  /-- SFADD (R152): Scalar FP32 add. -/
  | sfadd (facet thread : Nat)
  /-- SFMUL (R152): Scalar FP32 multiply. -/
  | sfmul (facet thread : Nat)
  /-- SFDIV (R152): Scalar FP32 divide, correctly rounded. -/
  | sfdiv (facet thread : Nat)
  /-- SCMPLT (R152): Scalar signed less-than compare. -/
  | scmplt (facet thread : Nat)
  /-- SCMPEQ (R152): Scalar equality compare. -/
  | scmpeq (facet thread : Nat)
  /-- BR (R152): Branches when sa is nonzero. -/
  | br (facet thread : Nat)
  /-- BRZ (R152): Branches when sa is zero. -/
  | brz (facet thread : Nat)
  /-- JMP (R152): Unconditional jump. -/
  | jmp (facet thread : Nat)
  /-- END (R152): Ends the program with OK or OK_ZERO_WORK, committing pending bands and releasing the current tile. -/
  | progEnd (facet thread : Nat)
  /-- SRD (R145): Reads a special register into a scalar. -/
  | srd (facet thread : Nat)
  /-- VEXTR (R152): Extracts one lane of a vector into a scalar. -/
  | vextr (facet thread : Nat)
  /-- FLD (R332): Fabric 8-byte load, cached or uncached; the thread switches out until the reply. -/
  | fld (facet thread : Nat)
  /-- FST (R332): Posted fabric 8-byte store. -/
  | fst (facet thread : Nat)
  /-- FATOM_ADD (R332): Fabric atomic add on INT32, INT64 or FP32. -/
  | fatomAdd (facet thread : Nat)
  /-- FATOM_MIN (R332): Fabric atomic minimum. -/
  | fatomMin (facet thread : Nat)
  /-- FATOM_MAX (R332): Fabric atomic maximum. -/
  | fatomMax (facet thread : Nat)
  /-- FATOM_CAS (R332): Fabric atomic compare-and-swap. -/
  | fatomCas (facet thread : Nat)
  /-- FFENCE (R342): Waits until every earlier FST and FATOM of the thread has a known outcome, and returns the first failure. -/
  | ffence (facet thread : Nat)
  /-- FINV (R344): Invalidates the context's fabric read-cache lines over a range. -/
  | finv (facet thread : Nat)
  /-- SLD (R152): Loads 8 bytes from facet memory into a scalar. -/
  | sld (facet thread : Nat)
  /-- SST (R152): Stores a scalar's 8 bytes to facet memory. -/
  | sst (facet thread : Nat)
  /-- VADD (R152): Lanewise FP32 add. -/
  | vadd (facet thread : Nat)
  /-- VSUB (R152): Lanewise FP32 subtract. -/
  | vsub (facet thread : Nat)
  /-- VMUL (R152): Lanewise FP32 multiply. -/
  | vmul (facet thread : Nat)
  /-- VFMA (R152): Lanewise fused multiply-add. -/
  | vfma (facet thread : Nat)
  /-- VMAX (R152): Lanewise maximum. -/
  | vmax (facet thread : Nat)
  /-- VMIN (R152): Lanewise minimum. -/
  | vmin (facet thread : Nat)
  /-- VDIV (R152): Lanewise divide, correctly rounded. -/
  | vdiv (facet thread : Nat)
  /-- VSQRT (R152): Lanewise square root, correctly rounded. -/
  | vsqrt (facet thread : Nat)
  /-- VRCP (R152): Lanewise reciprocal. -/
  | vrcp (facet thread : Nat)
  /-- VRSQRT (R152): Lanewise reciprocal square root. -/
  | vrsqrt (facet thread : Nat)
  /-- VEXP (R153): Lanewise exponential. -/
  | vexp (facet thread : Nat)
  /-- VLOG (R153): Lanewise logarithm. -/
  | vlog (facet thread : Nat)
  /-- VTANH (R153): Lanewise hyperbolic tangent. -/
  | vtanh (facet thread : Nat)
  /-- VABS (R152): Lanewise absolute value. -/
  | vabs (facet thread : Nat)
  /-- VNEG (R152): Lanewise negation. -/
  | vneg (facet thread : Nat)
  /-- VSEL (R152): Per-lane select under a mask. -/
  | vsel (facet thread : Nat)
  /-- VCMPLT (R152): Lanewise less-than compare into a mask. -/
  | vcmplt (facet thread : Nat)
  /-- VCMPEQ (R152): Lanewise equality compare into a mask. -/
  | vcmpeq (facet thread : Nat)
  /-- VISNAN (R152): Lanewise NaN test into a mask. -/
  | visnan (facet thread : Nat)
  /-- VIADD (R152): Lanewise INT32 wrapping add. -/
  | viadd (facet thread : Nat)
  /-- VCVTI (R152): Converts INT32 lanes to FP32. -/
  | vcvti (facet thread : Nat)
  /-- VCVTF (R152): Converts FP32 lanes to INT32, saturating. -/
  | vcvtf (facet thread : Nat)
  /-- VIOTA (R152): Writes lane index plus a scalar into each lane. -/
  | viota (facet thread : Nat)
  /-- VBCAST (R148): Broadcasts a scalar's low bits to every lane. -/
  | vbcast (facet thread : Nat)
  /-- VCADD (R154): Compensated Neumaier accumulate into a lane pair. -/
  | vcadd (facet thread : Nat)
  /-- VCRED (R154): Compensated tree reduction of lane pairs into a scalar. -/
  | vcred (facet thread : Nat)
  /-- VDADD (R155): FP64 accumulate into a lane pair. -/
  | vdadd (facet thread : Nat)
  /-- VDRED (R155): FP64 tree reduction of lane accumulators into a scalar. -/
  | vdred (facet thread : Nat)
  /-- VRMAX (R152): Lane maximum and its lane into scalars. -/
  | vrmax (facet thread : Nat)
  /-- VRMIN (R152): Lane minimum and its lane into scalars. -/
  | vrmin (facet thread : Nat)
  /-- VRSUM (R152): Uncompensated FP32 tree sum of the lanes. -/
  | vrsum (facet thread : Nat)
  /-- VLD (R157): Loads and decodes 256 elements of a format into FP32 lanes. -/
  | vld (facet thread : Nat)
  /-- VST (R152): Stores 256 lanes as FP32 or INT32. -/
  | vst (facet thread : Nat)
  /-- VSTN (R158): Narrowing store of a vector into a write-path staging band. -/
  | vstn (facet thread : Nat)
  /-- VSCFG (R158): Loads the write-path configuration from three scalars. -/
  | vscfg (facet thread : Nat)
  /-- VSFLUSH (R158): Commits every pending band. -/
  | vsflush (facet thread : Nat)
  /-- VGATHER (R152): Gathers FP32 words by INT32 indices. -/
  | vgather (facet thread : Nat)
  /-- VSCATTER (R152): Scatters FP32 words by INT32 indices; the highest lane wins at equal addresses. -/
  | vscatter (facet thread : Nat)
  /-- VLDM (R152): Loads a mask register from 32 bytes. -/
  | vldm (facet thread : Nat)
  /-- ACCNEXT (R159): Waits for and selects the next held accumulator tile in drain order. -/
  | accnext (facet thread : Nat)
  /-- ACCRD (R159): Reads a quarter of the current held tile into a vector. -/
  | accrd (facet thread : Nat)
  /-- ACCREL (R159): Releases the current held tile to its array. -/
  | accrel (facet thread : Nat)
  /-- XFLD (R163): Loads the HI and LO planes of split master values into a pair. -/
  | xfld (facet thread : Nat)
  /-- XFST (R163): Stores a split master pair to its two planes. -/
  | xfst (facet thread : Nat)
  /-- XFADD (R163): Split master add with one rounding. -/
  | xfadd (facet thread : Nat)
  /-- XFMAD (R163): Split master multiply-add with one rounding. -/
  | xfmad (facet thread : Nat)
  /-- XFMUL (R163): Split master multiply with one rounding. -/
  | xfmul (facet thread : Nat)
  /-- XFRN (R163): Rounds a split master value to the nearest FP32. -/
  | xfrn (facet thread : Nat)
  /-- VDROP (R164): Writes a Philox-derived dropout keep mask. -/
  | vdrop (facet thread : Nat)
  /-- FM_CORRECTED_WRITEBACK (R139): A corrected facet-memory word is written back in the bank's next free cycle. -/
  | fmCorrectedWriteback (word : Nat)
  /-- COPY (R184): Stream DMA COPY moves bytes without conversion. -/
  | copy (run : StreamRun)
  /-- STORE_SPARSE (R180): Stream DMA STORE_SPARSE narrows, compresses and writes a tensor in its form, with its size record. -/
  | storeSparse (run : StreamRun)
  /-- PREDICT_MASK (R191): Stream DMA PREDICT_MASK writes a neuron mask from the proxy scores, the threshold and the guard band. -/
  | predictMask (run : StreamRun)
  /-- ACT_SAVE (R237): Stream DMA ACT_SAVE saves activations in codec mode LOSSLESS, REPACK or MXFP4. -/
  | actSave (run : StreamRun)
  /-- ACT_RESTORE (R241): Stream DMA ACT_RESTORE expands a LOSSLESS saved tensor to dense rows. -/
  | actRestore (run : StreamRun)
  /-- FILL (R366): Stream DMA FILL writes a 32-bit pattern over whole sectors, clearing poison. -/
  | fill (run : StreamRun)
  /-- GATHER (R363): Stream DMA GATHER reads table entries by index through the narrow-access path. -/
  | gather (run : StreamRun)
  /-- ROUTE (R205): Router ROUTE ranks experts, places assignments with capacity and spill, writes the assignment table and flags, and acquires return buffers. -/
  | route (item : Nat)
  /-- CONSUME (R210): Router CONSUME compacts sub-rings in canonical order into expert input planes, arrival lists, counts and visit counts. -/
  | consume (item : Nat)
  /-- RETURN (R214): Router RETURN sends each expert output row back to its source's return slot, followed by close markers. -/
  | return (item : Nat)
  /-- COMBINE (R216): Router COMBINE sums each token's returned outputs in choice-rank order and releases its return buffers. -/
  | combine (item : Nat)
  /-- BWD_ROUTE (R231): Router BWD_ROUTE sends output-gradient rows along the assignments that returned. -/
  | bwdRoute (item : Nat)
  /-- BWD_CONSUME (R232): Router BWD_CONSUME places gradient rows at their forward row positions. -/
  | bwdConsume (item : Nat)
  /-- BWD_RETURN (R234): Router BWD_RETURN sends input-gradient rows with their gate gradients. -/
  | bwdReturn (item : Nat)
  /-- BWD_COMBINE (R235): Router BWD_COMBINE sums input gradients in rank order and writes the gate gradients. -/
  | bwdCombine (item : Nat)
  /-- DISPATCH_RECORD_ARRIVE (R209): A dispatch record arrives at a host; it is checked and placed in its sub-ring slot, or discarded, and the contribution is marked damaged or unplaced. -/
  | dispatchRecordArrive (node vc : Nat)
  /-- RETURN_RECORD_ARRIVE (R215): A return record arrives at its source; it is accepted into the return buffer, or discarded as stale. -/
  | returnRecordArrive (node vc : Nat)
  /-- BWD_DISPATCH_RECORD_ARRIVE (R232): A backward dispatch record arrives and is stored by source position and slot. -/
  | bwdDispatchRecordArrive (node vc : Nat)
  /-- BWD_RETURN_RECORD_ARRIVE (R235): A backward return record arrives and is accepted under the return acceptance rule. -/
  | bwdReturnRecordArrive (node vc : Nat)
  /-- DRAIN_COMPLETE_RECEIVE (R221): A DRAIN_COMPLETE control record arrives and ends the expert's pending placement switch. -/
  | drainCompleteReceive (node vc : Nat)
  /-- ROUTER_CANCEL_WRITE (R219): A write of ROUTER_CANCEL cancels micro-batches: it raises their batch epochs, releases their buffers and cancels their descriptors. -/
  | routerCancelWrite (who : Who) (ctx mask : Nat)
  /-- REDUCE (R260): Collective REDUCE to a root position. -/
  | reduce (item : Nat)
  /-- REDUCE_SCATTER (R260): Collective REDUCE_SCATTER, one reduced shard per position. -/
  | reduceScatter (item : Nat)
  /-- ALL_REDUCE (R260): Collective ALL_REDUCE, direct or in two windows. -/
  | allReduce (item : Nat)
  /-- ALL_GATHER (R260): Collective ALL_GATHER of shards. -/
  | allGather (item : Nat)
  /-- ALL_TO_ALL (R260): Collective ALL_TO_ALL of blocks, including pipeline hand-offs. -/
  | allToAll (item : Nat)
  /-- TOPK_SELECT (R272): Local top-k sparsification of gradient plus residual into a sorted run. -/
  | topkSelect (item : Nat)
  /-- MERGE (R273): Collective MERGE of sorted runs at the root. -/
  | merge (item : Nat)
  /-- MERGE_ALL (R273): Collective MERGE_ALL of sorted runs at every position, as a run or a dense tensor. -/
  | mergeAll (item : Nat)
  /-- COLL_SEND (R260): The SEND phase sends the device's contribution, or a zero-count marker. -/
  | collSend (item : Nat)
  /-- COLL_RELAY (R260): The RELAY phase finishes the first window and sends into the second. -/
  | collRelay (item : Nat)
  /-- COLL_FINISH (R260): The FINISH phase applies grace, completes the tree and writes the output, count and NaN record. -/
  | collFinish (item : Nat)
  /-- CONTRIBUTION_RECORD_ARRIVE (R264): A collective contribution segment arrives and is staged by collective ID and position. -/
  | contributionRecordArrive (node vc : Nat)
  /-- TREE_JOIN (R267): A tree node is joined once both children exist, with realignment and retry. -/
  | treeJoin (ctx window seg col lo size : Nat)
  /-- LATTICE_ROUTE_WRITE (R286): A write of a lattice route table entry, refused ROUTE_ENTRY_FORMAT when malformed. -/
  | latticeRouteWrite (who : Who) (lattice value : Nat)
  /-- RANK_MAP_COMMIT (R289): A write of RANK_MAP_COMMIT commits the staged rank map at once or for step S, or is refused. -/
  | rankMapCommit (who : Who) (ctx value : Nat)
  /-- SPOKE_RESET (R300): SPOKE_CONTROL RESET drops the spoke to training step 1, abandons replay and renegotiates keys. -/
  | spokeReset (who : Who) (spoke : Nat)
  /-- SPOKE_DISABLE (R300): SPOKE_CONTROL DISABLE moves the spoke to DISABLED. -/
  | spokeDisable (who : Who) (spoke : Nat)
  /-- SPOKE_ENABLE (R300): SPOKE_CONTROL ENABLE starts training. -/
  | spokeEnable (who : Who) (spoke : Nat)
  /-- SPOKE_LANE_LOCK (R299): Lane equalisation and clock recovery complete on the spoke's lanes. -/
  | spokeLaneLock (spoke lanes : Nat)
  /-- SPOKE_FEC_LOCK (R299): FEC lock and deskew complete; lanes that failed lock are left out. -/
  | spokeFecLock (spoke lanes : Nat)
  /-- TRAINING_OS_RECEIVE (R281): A TRAINING ordered set arrives; the peer's identity is checked, and the spoke goes to KEYING or HELD. -/
  | trainingOsReceive (spoke : Nat) (os : Training)
  /-- SPOKE_KEYS_INSTALLED (R321): The spoke's SPDM key exchange completes; the spoke goes UP or DEGRADED and markers begin. -/
  | spokeKeysInstalled (spoke : Nat) (peer : PeerFacts)
  /-- SPOKE_TRAINING_TIMEOUT (R299): A training step exceeds its limit, or 500 ms pass without lock; training restarts at step 1. -/
  | spokeTrainingTimeout (spoke : Nat)
  /-- SPOKE_DOWN_RETRAIN (R298): 10 ms after the spoke goes DOWN, training restarts unless the spoke is disabled. -/
  | spokeDownRetrain (spoke : Nat)
  /-- FLIT_RECEIVE (R303): A link block arrives; the CRC is checked, flits are delivered in LSEQ order, and LACK and credits are processed. -/
  | flitReceive (spoke : Nat) (block : Block) (check : BlockCheck) (tagOk : Bool)
  /-- FLIT_TRANSMIT (R304): A packet's flits are sent once credits for its VC and hop class are available, in precedence order. -/
  | flitTransmit (spoke : Nat)
  /-- LINK_RETRY_RECEIVE (R303): A LINK_RETRY ordered set arrives; the sender resends from the named LSEQ. -/
  | linkRetryReceive (spoke lseq : Nat) (copies : List Bool)
  /-- LINK_RETRY_LIMIT (R303): Eight LINK_RETRY requests for one LSEQ without progress put the spoke DOWN. -/
  | linkRetryLimit (spoke : Nat)
  /-- LANE_FAIL (R320): A lane loses lock for 100 ns, or exceeds the uncorrectable codeword rate; DEGRADE is sent with the mask of good lanes. -/
  | laneFail (spoke lane : Nat)
  /-- DEGRADE_RECEIVE (R320): A DEGRADE ordered set arrives; the receiver answers with the intersected mask, or takes the echo and stops the lanes. -/
  | degradeReceive (spoke lanes number : Nat) (echo : Bool) (copies : List Bool)
  /-- LANE_DESKEW_DONE (R320): The remaining lanes are deskewed; traffic resumes with replay. -/
  | laneDeskewDone (spoke : Nat)
  /-- RESET_NOTICE_RECEIVE (R308): A RESET_NOTICE arrives; the sender's epoch ends and its flows are abandoned. -/
  | resetNoticeReceive (spoke node epoch reason : Nat) (copies : List Bool)
  /-- HUP_DATA_RECEIVE (R311): A Hupatas DATA packet arrives; it is authenticated, checked for epoch and generation, deduplicated, forwarded or delivered in order. -/
  | hupDataReceive (source : PacketFrom)
  /-- HUP_ACK_RECEIVE (R312): An ACK packet or a piggybacked ACK updates the flow's acknowledgements and may trigger fast retransmission. -/
  | hupAckReceive (source : PacketFrom)
  /-- HUP_ACK_TIMER (R312): 1 µs after an arrival, the destination acknowledges the flow. -/
  | hupAckTimer (node vc : Nat)
  /-- HUP_CLOSE_RECEIVE (R310): A CLOSE packet carrying a close marker is delivered in its flow. -/
  | hupCloseReceive (source : PacketFrom)
  /-- EPOCH_NOTICE_RECEIVE (R315): An EPOCH_NOTICE teaches a higher peer epoch and ends the old one. -/
  | epochNoticeReceive (source : PacketFrom)
  /-- GEN_NOTICE_RECEIVE (R316): A GEN_NOTICE teaches a peer's new context generation, and RESOLVE requests are sent for outstanding fabric requests. -/
  | genNoticeReceive (source : PacketFrom)
  /-- KEYX_RECEIVE (R321): A KEYX packet carries an SPDM message of spoke key exchange or key update. -/
  | keyxReceive (source : PacketFrom)
  /-- MARKER_PACKET_RECEIVE (R326): On an Ethernet chord, a MARKER packet carries an ordered set. -/
  | markerPacketReceive (source : PacketFrom) (t1 t4 : Nat)
  /-- HUP_RTO_EXPIRY (R313): The retransmission timer expires; the packet is resent with RETX set and the timer doubles. -/
  | hupRtoExpiry (node vc seq : Nat)
  /-- HUP_GIVEUP (R313): HUP_GIVEUP_MS elapses without acknowledgement; the item completes FAILED_TIMEOUT. -/
  | hupGiveup (node vc seq : Nat)
  /-- SPOKE_REKEY_TRIGGER (R323): After 2^40 packets or SPOKE_REKEY_S, the direction starts an SPDM KEY_UPDATE. -/
  | spokeRekeyTrigger (spoke : Nat)
  /-- KEY_PHASE_GRACE_END (R323): 1 ms after the first new-phase packet, the old key phase is no longer accepted. -/
  | keyPhaseGraceEnd (spoke : Nat)
  /-- ETH_LINK_UP (R325): An Ethernet chord's PHY links up; identity exchange follows in CONTROL packets. -/
  | ethLinkUp (spoke : Nat)
  /-- ETH_LINK_DOWN (R326): Loss of PHY link puts an Ethernet chord DOWN. -/
  | ethLinkDown (spoke : Nat)
  /-- GET (R346): Fabric descriptor GET reads remote bytes into local memory in LOAD chunks. -/
  | fabGet (item : Nat)
  /-- PUT (R346): Fabric descriptor PUT writes local bytes remotely in exactly-once chunks. -/
  | fabPut (item : Nat)
  /-- PUBLISH (R347): Fabric descriptor PUBLISH waits for the outcomes of earlier fabric writes of its context. -/
  | publish (item : Nat)
  /-- PUBLISH_CLOSE_SEND (R347): When every covered write has succeeded, PUBLISH sends zero-count close markers and completes. -/
  | publishCloseSend (item : Nat)
  /-- INVALIDATE (R346): Fabric descriptor INVALIDATE removes read-cache lines over a range. -/
  | invalidate (item : Nat)
  /-- FABRIC_LOAD (R334): A LOAD request is performed at the target, and data is returned. -/
  | fabricLoad (node vc : Nat)
  /-- FABRIC_STORE (R337): A STORE request is performed once at the target, with a reply-cache entry. -/
  | fabricStore (node vc : Nat)
  /-- FABRIC_ATOMIC_ADD (R336): An ATOMIC ADD is performed as one read-modify-write at the target. -/
  | fabricAtomicAdd (node vc : Nat)
  /-- FABRIC_ATOMIC_MIN (R336): An ATOMIC MIN is performed at the target. -/
  | fabricAtomicMin (node vc : Nat)
  /-- FABRIC_ATOMIC_MAX (R336): An ATOMIC MAX is performed at the target. -/
  | fabricAtomicMax (node vc : Nat)
  /-- FABRIC_ATOMIC_CAS (R336): An ATOMIC CAS is performed at the target. -/
  | fabricAtomicCas (node vc : Nat)
  /-- FABRIC_PUT_CHUNK (R346): A PUT request chunk is written once at the target. -/
  | fabricPutChunk (node vc : Nat)
  /-- FABRIC_RESOLVE (R339): A RESOLVE is answered from a tombstone or the horizon with APPLIED, NOT_APPLIED or UNKNOWN. -/
  | fabricResolve (node vc : Nat)
  /-- FABRIC_REPLY_RECEIVE (R333): A fabric reply reaches the source; the status and outcome are delivered, and cache lines may be filled. -/
  | fabricReplyReceive (node vc : Nat)
  /-- FABRIC_BUSY_RESEND (R337): 10 µs after a BUSY reply, the request is resent under the same FSEQ. -/
  | fabricBusyResend (node fseq : Nat)
  /-- FABRIC_REPLY_TIMEOUT (R338): No reply arrives within FABRIC_REPLY_TIMEOUT_MS of acknowledgement; the request is resent, or fails UNKNOWN at the limit. -/
  | fabricReplyTimeout (node fseq : Nat)
  /-- TOMBSTONE_EXPIRY (R339): A tombstone expires FABRIC_TOMBSTONE_MS after its context reset. -/
  | tombstoneExpiry (node epoch fseq : Nat)
  /-- HBM_REGION_WRITE (R356): A write of HBM_REGION sets a context's region, or is refused. -/
  | hbmRegionWrite (who : Who) (ctx base size : Nat)
  /-- HBM_UNIT_WRITTEN_WRITE (R367): Declares a unit written, setting its written-map bit. -/
  | hbmUnitWrittenWrite (who : Who) (unit : Nat)
  /-- HBM_RETIRED_PAGES_WRITE (R369): Writes a page into the retired list, or is refused RETIRE_FORMAT. -/
  | hbmRetiredPagesWrite (who : Who) (entry page : Nat) (flashOk : Bool)
  /-- MERGE_IDLE_WRITEBACK (R362): A merge-buffer entry idle for 2 µs is written back by read-modify-write. -/
  | mergeIdleWriteback (sector : Nat)
  /-- PATROL_SCRUB_READ (R368): The base-rate scrub reads a sector per pseudo-channel per µs, correcting it or poisoning it. -/
  | patrolScrubRead (pseudoChannel : Nat) (flaws : Flaws)
  /-- FLIP_MASK_ARM (R371): ECC_FLIP_MASK CONTROL ARM arms a one-shot flip of a codeword, or is refused. -/
  | flipMaskArm (who : Who)
  /-- FLIP_MASK_DISARM (R372): ECC_FLIP_MASK CONTROL DISARM returns STATUS to IDLE. -/
  | flipMaskDisarm (who : Who)
  /-- QUEUE_CREATE (R376): A write of a queue record creates a queue, or is refused. -/
  | queueCreate (who : Who) (record : Desc)
  /-- QUEUE_PAUSE (R378): QUEUE_CONTROL PAUSE stops acceptance. -/
  | queuePause (who : Who) (queue : Nat)
  /-- QUEUE_RESUME (R378): QUEUE_CONTROL RESUME returns a paused queue to ACTIVE. -/
  | queueResume (who : Who) (queue : Nat)
  /-- QUEUE_RESET (R378): QUEUE_CONTROL RESET skips unaccepted descriptors and returns the queue to ACTIVE. -/
  | queueReset (who : Who) (queue : Nat)
  /-- QUEUE_DESTROY (R376): QUEUE_CONTROL DESTROY removes a queue without outstanding items. -/
  | queueDestroy (who : Who) (queue : Nat)
  /-- SQ_TAIL_DOORBELL (R380): A submission doorbell advances SQ_TAIL, is discarded, or puts the queue in ERROR. -/
  | sqTailDoorbell (function queue size value : Nat)
  /-- CQ_HEAD_DOORBELL (R379): A completion doorbell advances CQ_HEAD, or is discarded. -/
  | cqHeadDoorbell (function queue size value : Nat)
  /-- DESCRIPTOR_ACCEPT (R382): Once the descriptor is read, a completion entry is reserved and in-flight room exists, the queue manager accepts and starts the descriptor. -/
  | descriptorAccept (queue : Nat)
  /-- ITEM_COMPLETION (R386): An accepted item finishes; its single completion entry is written, or placed in the summary store. -/
  | itemCompletion (item stampNs : Nat)
  /-- SUMMARY_FLUSH (R390): When the ring has room, summary-store ranges and held step-end records are written in order. -/
  | summaryFlush (ctx : Nat)
  /-- DEFERRED_CQ_WRITE (R380): A completion for a facet-memory ring is written at the first beat in which the facet serves the context. -/
  | deferredCqWrite (queue : Nat)
  /-- IRQ_HOLDOFF_EXPIRY (R400): At the end of the interrupt hold-off, one MSI-X interrupt covers the entries written. -/
  | irqHoldoffExpiry (queue : Nat)
  /-- QM_NOP (R388): Queue manager NOP descriptor. -/
  | qmNop (item : Nat)
  /-- DOORBELL (R388): Queue manager DOORBELL descriptor advances another queue's SQ_TAIL. -/
  | doorbell (item : Nat)
  /-- BARRIER (R384): A BARRIER starts when every earlier descriptor of its queue has completed, and blocks later starts. -/
  | barrier (item : Nat)
  /-- ACQUIRE (R395): Acquires a pool buffer under quotas and writes its handle. -/
  | acquire (item : Nat)
  /-- RELEASE (R397): Frees a buffer when the acting requester owns it. -/
  | release (item : Nat)
  /-- TRANSFER (R397): Moves a buffer's ownership to another requester under quotas. -/
  | transfer (item : Nat)
  /-- POOL_CONFIG_WRITE (R392): Rebuilds the pools whose records change, or is refused. -/
  | poolConfigWrite (who : Who) (ctx first : Nat) (records : List Nat)
  /-- POOL_REQUESTER_WRITE (R395): Binds a requester or sets its quotas, or is refused. -/
  | poolRequesterWrite (who : Who) (requester context : Nat) (min max : List Nat)
  /-- CONTEXT_RESET (R411): A context reset raises the generation, pauses queues, releases buffers and begins withdrawal. -/
  | contextReset (who : Who) (ctx : Nat)
  /-- ESCALATION_STEP_TIMEOUT (R413): An engine instance has not finished its escalation step in time and moves to the next step. -/
  | escalationStepTimeout (ctx : Nat) (inst : EngineRef) (cleared : Bool)
  /-- FACET_RESET_DONE (R413): A facet reset and its self-test finish, and the facet is zeroed. -/
  | facetResetDone (facet : Nat) (passed vertexOk : Bool)
  /-- CONTEXT_WITHDRAWN (R412): Every engine has reported the context gone and every completion is placed; the context is ACTIVE again with its plan LOADED. -/
  | contextWithdrawn (ctx : Nat)
  /-- FACET_FATAL_FAULT (R419): An uncorrectable control-state error or a clock-gate check failure resets the facet's context and starts facet reset. -/
  | facetFatalFault (facet cause thread : Nat)
  /-- THREAD_STALL_TIMEOUT (R419): A thread that neither issues nor waits for 10 ms is a FACET_FATAL fault. -/
  | threadStallTimeout (facet thread : Nat)
  /-- DEVICE_FATAL_FAULT (R420): A fault requiring a device reset starts the reset sequence with reason 1 and a crash dump. -/
  | deviceFatalFault (cause detail : Nat)
  /-- WARM (R420): DEVICE_RESET WARM starts a device reset without a crash dump. -/
  | warm (who : Who)
  /-- WARM_WITH_DUMP (R420): DEVICE_RESET WARM_WITH_DUMP starts a device reset with a crash dump. -/
  | warmWithDump (who : Who)
  /-- MGMT_WATCHDOG_EXPIRY (R420): The management controller's watchdog expires after 1 s and resets the device with reason 3. -/
  | mgmtWatchdogExpiry
  /-- PEER_LOST_WRITE (R409): Software declares a node lost, ending its epoch. -/
  | peerLostWrite (who : Who) (node : Nat)
  /-- ERROR_FLASH_COPY (R404): A fatal record is copied into the flash ring within 5 ms. -/
  | errorFlashCopy
  /-- ERROR_FLASH_CLEAR (R440): Erases the flash copies of fatal records. -/
  | errorFlashClear (who : Who)
  /-- FACET_RETIRED_WRITE (R418): The BMC clears bits of FACET_RETIRED for the next reset. -/
  | facetRetiredWrite (who : Who) (bits : Nat) (flashOk : Bool)
  /-- CRASH_DUMP_CLEAR (R439): Returns CRASH_DUMP_STATE to EMPTY. -/
  | crashDumpClear (who : Who)
  /-- BOOT_ENTRY (R502): Every PLL has locked; the device enters BOOT and starts self-test, the epoch raise and PCIe training. -/
  | bootEntry (qualifyMs : Nat)
  /-- SELFTEST_DONE (R370): Start-up self-test of SRAMs, ECC loopback and stacks completes, retiring facets or entering FAULT. -/
  | selftestDone (result : SelfTest)
  /-- LOADER_CHECKED (R444): The boot ROM finishes checking the loader and writes slots 0 and 6, or falls back to the other copy. -/
  | loaderChecked (image : ImageFacts)
  /-- IMAGES_CHECKED (R444): The loader finishes checking firmware, microcode and router tables, and writes slots 1–3. -/
  | imagesChecked (firmware microcode router : ImageFacts)
  /-- MEASURED_ENTRY (R445): FLASH objects are loaded, slots 5 and 4 are written, and the device enters MEASURED. -/
  | measuredEntry (bootMs : Nat)
  /-- ENGINES_INITIALISED (R492): Engines are initialised; the device enters READY, DEGRADED or FAULT. -/
  | enginesInitialised (readyMs : Nat)
  /-- BOOT_STEP_TIMEOUT (R445): A boot step limit expires; the device falls back to the other copy or enters FAULT. -/
  | bootStepTimeout
  /-- GET_VERSION (R449): SPDM GET_VERSION request. -/
  | getVersion (endpoint : SpdmEnd)
  /-- GET_CAPABILITIES (R449): SPDM GET_CAPABILITIES request. -/
  | getCapabilities (endpoint : SpdmEnd)
  /-- NEGOTIATE_ALGORITHMS (R449): SPDM NEGOTIATE_ALGORITHMS request. -/
  | negotiateAlgorithms (endpoint : SpdmEnd) (common : Bool)
  /-- GET_DIGESTS (R451): SPDM GET_DIGESTS request. -/
  | getDigests (endpoint : SpdmEnd)
  /-- GET_CERTIFICATE (R451): SPDM GET_CERTIFICATE request for a certificate slot. -/
  | getCertificate (endpoint : SpdmEnd) (slot : Nat)
  /-- CHALLENGE (R449): SPDM CHALLENGE, signed with the identity key. -/
  | challenge (endpoint : SpdmEnd) (slot : Nat)
  /-- GET_MEASUREMENTS (R450): SPDM GET_MEASUREMENTS, returning the slots and the security state record. -/
  | getMeasurements (endpoint : SpdmEnd) (index : Nat) (signed : Bool)
  /-- KEY_EXCHANGE (R449): SPDM KEY_EXCHANGE opening a secured session. -/
  | keyExchange (endpoint : SpdmEnd)
  /-- SPDM_FINISH (R449): SPDM FINISH completing session establishment. -/
  | spdmFinish (endpoint : SpdmEnd) (session : Nat) (verified : Bool) (proof : Option RequesterProof)
  /-- KEY_UPDATE (R449): SPDM KEY_UPDATE of session keys. -/
  | keyUpdate (endpoint : SpdmEnd) (session : Nat)
  /-- SPDM_HEARTBEAT (R449): SPDM HEARTBEAT keeping a session alive. -/
  | spdmHeartbeat (endpoint : SpdmEnd) (session : Nat)
  /-- END_SESSION (R458): SPDM END_SESSION ends a session and may release SESSION-retained contexts. -/
  | endSession (endpoint : SpdmEnd) (session : Nat)
  /-- SET_CERTIFICATE (R451): SPDM SET_CERTIFICATE installs a customer chain in slot 1 on -C parts. -/
  | setCertificate (endpoint : SpdmEnd) (slot : Nat) (sameKey : Bool)
  /-- SPDM_HEARTBEAT_TIMEOUT (R449): Three heartbeat periods pass without a message; the session ends. -/
  | spdmHeartbeatTimeout (session : Nat)
  /-- IDE_KM_REQUEST (R462): An IDE_KM message over DOE programs or refreshes IDE stream keys. -/
  | ideKmRequest (endpoint : SpdmEnd) (session : Nat) (stream : IdeStream) (secure : Bool)
  /-- CONTEXT_CLAIM (R455): Claims a FREE context for the session's requester key. -/
  | contextClaim (session ctx : Nat)
  /-- CONTEXT_KEY (R456): Delivers the XTS key pair and moves the context to KEYED. -/
  | contextKey (who : Who) (ctx key : Nat)
  /-- CONTEXT_TRANSFER_KEY (R456): Delivers a transfer key, incrementing KEY_ID and resetting the counters. -/
  | contextTransferKey (who : Who) (ctx key : Nat)
  /-- CONTEXT_KEY_NEXT (R459): Starts key rotation, moving the context to ROTATING. -/
  | contextKeyNext (who : Who) (ctx key : Nat)
  /-- CONTEXT_RELEASE (R457): Returns a context to FREE, erasing its keys and resetting it. -/
  | contextRelease (who : Who) (ctx : Nat)
  /-- SEC_FUSE_SVN (R469): SEC_FUSE_COMMIT SVN blows an SVN fuse, or is refused FUSE_REFUSED. -/
  | secFuseSvn (who : Who) (arg : Nat)
  /-- SEC_FUSE_REVOKE (R469): SEC_FUSE_COMMIT REVOKE revokes a vendor key. -/
  | secFuseRevoke (who : Who) (arg : Nat)
  /-- SEC_FUSE_SIG_POLICY (R469): SEC_FUSE_COMMIT SIG_POLICY sets the dual-signature policy. -/
  | secFuseSigPolicy (who : Who)
  /-- DEBUG_UNLOCK (R466): Requests debug unlock at the next reset on -E parts, or is refused. -/
  | debugUnlock (who : Who) (value : Nat)
  /-- JTAG_INSTRUCTION_LOAD (R466): A JTAG instruction is loaded; EXTEST, CLAMP, HIGHZ and INTEST zeroise the device. -/
  | jtagInstructionLoad (drives : Bool)
  /-- ZEROISE_TRIGGER (R467): A glitch detector trip, an entropy health failure or a key-store error zeroises every key and enters FAULT. -/
  | zeroiseTrigger
  /-- SEAL_SUBMIT_INBOUND (R537): Submitting an inbound slot opens the sealed chunk and writes its plaintext, or rejects it. -/
  | sealSubmitInbound (function value irq header : Nat) (payload : Bytes) (tag : Nat)
  /-- SEAL_SUBMIT_OUTBOUND (R537): Submitting an outbound slot reads context memory and seals it into the slot. -/
  | sealSubmitOutbound (function value irq header : Nat)
  /-- DICT_READ (R479): Dictionary READ frame: expedited answer, or opening of a segmented read. -/
  | dictRead (source : FrameFrom)
  /-- DICT_WRITE (R479): Dictionary WRITE frame: expedited write, or opening of a segmented write. -/
  | dictWrite (source : FrameFrom) (flashOk : Bool)
  /-- DICT_INFO (R478): Dictionary INFO frame returning the object's information word. -/
  | dictInfo (source : FrameFrom)
  /-- DICT_SEGMENT (R480): Dictionary SEGMENT frame moving one segment; the last applies a write. -/
  | dictSegment (source : FrameFrom) (flashOk : Bool)
  /-- DICT_ABORT (R480): Dictionary ABORT frame closes the transfer with nothing applied. -/
  | dictAbort (source : FrameFrom)
  /-- SEGMENT_TIMEOUT (R483): A segmented transfer idle for 1 s is closed. -/
  | segmentTimeout (requester : Nat)
  /-- PENDING_ACTION_DONE (R481): An action answered PENDING finishes, and its final response becomes available. -/
  | pendingActionDone (image : ImageFacts)
  /-- REGISTER_WRITE (R473): A write of an object without its own row is checked and applied at its apply time. -/
  | registerWrite (who : Who) (index sub first count : Nat) (value : Bytes) (flashOk : Bool)
  /-- MBX_CONTROL_GO (R485): GO submits the mailbox request frame, or sets OVERRUN while BUSY. -/
  | mbxControlGo (function value irq : Nat) (frame : Bytes)
  /-- MBX_STATUS_CLEAR (R485): A write-one-to-clear of OVERRUN in MBX_STATUS. -/
  | mbxStatusClear (function value : Nat)
  /-- FW_UPDATE_BEGIN (R495): Starts receiving an image into the non-running copy. -/
  | fwUpdateBegin (who : Who) (kind copy length : Nat)
  /-- FW_UPDATE_DATA (R495): Appends image bytes. -/
  | fwUpdateData (who : Who) (piece : Bytes)
  /-- FW_UPDATE_FINISH (R495): Checks the received image under the genuineness rules, answered PENDING. -/
  | fwUpdateFinish (who : Who)
  /-- FW_UPDATE_CANCEL (R495): Returns the update state to IDLE. -/
  | fwUpdateCancel (who : Who)
  /-- SET_PREFERRED (R495): Makes a fully genuine copy preferred by rewriting the older boot header. -/
  | setPreferred (who : Who) (copy : Nat) (flashOk : Bool)
  /-- FLASH_RESTORE_DEFAULTS (R496): Erases the FLASH object values at the next reset. -/
  | flashRestoreDefaults (who : Who) (value : Nat)
  /-- SET_ENDPOINT_ID (R539): MCTP control Set Endpoint ID. -/
  | setEndpointId (eid : Nat)
  /-- GET_ENDPOINT_ID (R539): MCTP control Get Endpoint ID. -/
  | getEndpointId (eid : Nat)
  /-- GET_MCTP_VERSION_SUPPORT (R539): MCTP control Get MCTP Version Support. -/
  | getMctpVersionSupport (eid : Nat)
  /-- GET_MESSAGE_TYPE_SUPPORT (R539): MCTP control Get Message Type Support. -/
  | getMessageTypeSupport (eid : Nat)
  /-- GET_VENDOR_DEFINED_MSG_SUPPORT (R484): MCTP control Get Vendor Defined Message Support, returning the vendor ID. -/
  | getVendorDefinedMsgSupport (eid : Nat)
  /-- ENTDAA (R539): I3C ENTDAA dynamic address assignment. -/
  | entdaa (address : Nat)
  /-- SETDASA (R539): I3C SETDASA from the static address. -/
  | setdasa (static address : Nat)
  /-- PWRGD_RISE (R520): PWRGD rises: the straps are latched and the device enters REF_QUALIFY. -/
  | pwrgdRise (refqSel mgmtMode smbAddr : Nat)
  /-- PWRGD_FALL (R521): PWRGD falls with rails good: orderly power-down. -/
  | pwrgdFall
  /-- SYS_RESET_N_LOW (R522): SYS_RESET_N low starts a device reset and holds before BOOT. -/
  | sysResetNLow
  /-- SYS_RESET_N_RISE (R522): SYS_RESET_N rises and BOOT proceeds. -/
  | sysResetNRise
  /-- PERST_N_LOW (R523): PERST_N low resets the host interface, or the device under scope DEVICE. -/
  | perstNLow
  /-- PERST_N_RISE (R523): PERST_N rises and the endpoint trains. -/
  | perstNRise
  /-- THERM_N_LOW (R519): THERM_N held low: duty is cut to 1,200 MHz equivalent, and quads switch to 1,200 MHz. -/
  | thermNLow
  /-- THERM_N_HIGH (R519): THERM_N released: its 1,200 MHz ceiling is removed. -/
  | thermNHigh
  /-- REF_QUALIFY_DONE (R502): The reference qualification count ends and every PLL starts. -/
  | refQualifyDone
  /-- PLL_LOCK_TIMEOUT (R502): A PLL fails to lock within 2 ms; the PLLs stop and the count restarts. -/
  | pllLockTimeout
  /-- REF_LOST (R525): No REFCLK edge for 50 ns: record, RESET_NOTICE, self-refresh, clocks stop, REF_QUALIFY. -/
  | refLost
  /-- PLL_LOCK_LOSS (R524): A core PLL loses lock and the device resets, or an SPLL loses lock and its spoke retrains. -/
  | pllLockLoss (pll : Nat)
  /-- RAIL_FAULT (R510): A rail outside tolerance for 10 µs starts a device reset with reason 2. -/
  | railFault (rail : Nat)
  /-- THERMAL_SAMPLE (R518): Every 5 µs sensors are sampled; throttle points and trips are evaluated. -/
  | thermalSample (temps : List Int)
  /-- THERMAL_CEILING_RAISE (R518): Every 1 ms a cleared die thermal ceiling is raised one step. -/
  | thermalCeilingRaise (die : Nat)
  /-- POWER_TICK (R515): Every 100 µs the power manager adjusts cap and current ceilings and duty. -/
  | powerTick (watts meanSecond peakSecond : Nat) (amps : List Nat) (rails : List Nat)
  /-- OVERCURRENT (R516): Die current above 1,400 A for 500 ns sets duty 8/16 for 100 µs. -/
  | overcurrent (die : Nat)
  /-- OVERCURRENT_HOLD_END (R516): The 100 µs overcurrent duty hold ends. -/
  | overcurrentHoldEnd (die : Nat)
  /-- QUAD_CLOCK_SWITCH (R505): A facet-quad domain stops, switches frequency and restarts, clear of beat edges. -/
  | quadClockSwitch (quad : Nat)
  /-- AVS_REPLY (R511): A regulator answers an AVSBus command and a raised voltage is confirmed. -/
  | avsReply (die mv deciAmps : Nat)
  /-- AVS_TIMEOUT (R513): A regulator fails three consecutive commands; AVS FAILED and the die is limited to 1,200 MHz. -/
  | avsTimeout (die unanswered : Nat)
  /-- CLKOBS_WRITE (R507): Sets up or frees a clock observation output, subject to ownership. -/
  | clkobsWrite (who : Who) (enable : Bool) (source div pin : Nat)
  /-- AUXIO_CONFIG_WRITE (R547): Places a function on an AUXIO pin under the ownership order and timer allocation. -/
  | auxioConfigWrite (who : Who) (pin function polarity width param : Nat) (flashOk : Bool)
  /-- TRIG_IN_EDGE (R546): A TRIG_IN edge is logged and may freeze the trace buffer. -/
  | trigInEdge (pin : Nat) (rising : Bool)
  /-- PPS_OUT_PULSE (R546): A PPS_OUT pin pulses at each whole second of the time counter. -/
  | ppsOutPulse (pin : Nat)
  /-- TRACE_CONFIG_WRITE (R549): Sets the trace holder and restarts capture. -/
  | traceConfigWrite (who : Who) (holder freezeAfter : Nat)
  /-- FAULT_OUT_CLEAR (R546): Releases FAULT_OUT. -/
  | faultOutClear (who : Who)
  /-- ALARM_CLEAR (R539): Clears alarm classes and releases ALERT_N when none remain. -/
  | alarmClear (who : Who) (classes : Nat)
  /-- VF_ENABLE_WRITE (R536): A configuration write enabling, disabling or resizing the VFs. -/
  | vfEnableWrite (count : Nat)
  /-- POWER_STATE_WRITE (R536): A function enters or leaves D3hot; in D3hot, doorbells and sealed accesses are discarded. -/
  | powerStateWrite (function : Nat) (d3hot : Bool)
  /-- MAINT_UNIT_DUE (R555): An activity interval or condition makes a maintenance unit due and queues it. -/
  | maintUnitDue (activity resource : Nat)
  /-- MAINT_UNIT_START (R554): The arbiter starts a queued unit when its resources are free and it fits the window. -/
  | maintUnitStart (activity resource durationNs : Nat)
  /-- MAINT_UNIT_DONE (R561): A maintenance unit ends DONE or FAILED, and a history entry is added. -/
  | maintUnitDone (activity resource durationNs : Nat) (passed vertexOk : Bool)
  /-- MAINT_OVERDUE (R560): A unit queued too long without a window writes record 0x034 once. -/
  | maintOverdue (activity resource : Nat)
  /-- SPOKE_RETUNE_REQUEST (R555): Queues retune units for a spoke's lanes. -/
  | spokeRetuneRequest (who : Who) (spoke : Nat)
  /-- POWER_LOSS (R420): The rails fall without PWRGD falling first, or fall after an orderly power-down; the device enters OFF and loses always-on SRAM, keys and HBM contents without sending anything. -/
  | powerLoss
  /-- REFCLK_EDGES_PRESENT (R502): Edges appear on REFCLK, or return after a loss, and the reference qualification count starts. -/
  | refclkEdgesPresent
  /-- PCIE_LINK_UP (R533): PCIe link training completes, and configuration space becomes served. -/
  | pcieLinkUp (rate width : Nat) (flit : Bool)
  /-- CONTEXT_RESET_DEFERRED_START (R407): A context reset held back because another reset of the same context began less than 1 ms earlier starts once that millisecond has passed. -/
  | contextResetDeferredStart (ctx : Nat)
  deriving DecidableEq, Repr

end Sys2Proof
end

