-- ==== Sys2Proof/Decode.lean ====
section
/-! DEFINITION. Sys2Proof/Decode.lean: the command a word spells by the bits of spec/opcode_table.json. No row of that
table gives bits (every row's list of fields is empty), so no word spells a command. -/

namespace Sys2Proof

/-- The command that a word of the table spells: none, because the table gives no row any bits. -/
def decodeTableWord (_nbits _w : Nat) : Option Instr := none

end Sys2Proof
end

