-- ==== Sys2Proof/Config.lean ====
section
/-! DEFINITION. Sys2Proof/Config.lean: what an implementation fixes, and the free values. A free value is an opaque
constant: nothing in Lean can evaluate it, and every statement holds whatever it is. -/

namespace Sys2Proof.Config

/-- A fresh value the spec leaves open, as a natural number; the reader takes it modulo what the field holds. The
argument is the state's counter of values already taken (DESIGN CHOICE, notes/assumptions/2). -/
opaque freeNat : Nat → Nat

/-- Result of VRCP on a lane (05_vector_engine_and_sequencer R152: within 1 ulp of the exact value). -/
opaque rcpUlp : Nat → Nat

/-- Result of VRSQRT on a lane (05 R152: within 1 ulp). -/
opaque rsqrtUlp : Nat → Nat

/-- Result of VEXP on a lane (05 R153: within 2 ulp). -/
opaque expApprox : Nat → Nat

/-- Result of VLOG on a lane (05 R153: within 2 ulp). -/
opaque logApprox : Nat → Nat

/-- Result of VTANH on a lane (05 R153: within 2 ulp). -/
opaque tanhApprox : Nat → Nat

/-- Which of the block sizes 16, 32, 64, 128 a block-scaled vector load decodes under, modulo 4
(05_vector_engine_and_sequencer R157 gives none; DESIGN CHOICE, notes/assumptions/19). -/
opaque vldBlock : Nat

/-- The numbers of the causes in error records that the source does not give (15_faults_and_recovery R405: records 0x060,
0x061 and 0x070); the argument is the model's own name for the cause (DESIGN CHOICE, notes/assumptions/7). -/
opaque causeCode : Nat → Nat

/-- A byte of a crash dump whose place or content the source does not give (15_faults_and_recovery R438); the arguments are
the capture and the offset in the dump. -/
opaque dumpByte : Nat → Nat → BitVec 8

/-- The fused voltage of the part at a facet frequency in MHz, in microvolts (18_clocks_power_reset R512).
(DESIGN CHOICE, notes/assumptions/91.) -/
opaque partVoltage : Nat → Nat

/-- The number by which BOOT_STATUS and FW_UPDATE_STATUS name a check of an image (16_security R445, R469,
17_object_dictionary R495 give none); the argument is the model's own: 1 to 6 the conditions of R444 in their order, 7 a time
limit (DESIGN CHOICE, notes/assumptions/7). -/
opaque checkCode : Nat → Nat

/-- One 16-byte block of AES-256-XTS under a key pair and a sector's tweak, enciphered or deciphered (16_security R460); the arguments
are the key pair, the tweak, which block of the sector, and the block. -/
opaque xtsEncrypt : Nat → Nat → Nat → Nat → Nat
opaque xtsDecrypt : Nat → Nat → Nat → Nat → Nat

/-- Bank and row of a byte of a pseudo-channel, as record 0x010 packs them (13_hbm_and_ecc R359 gives no map; DESIGN CHOICE,
notes/assumptions/84). -/
opaque bankRow : Nat → Nat

/-- The symbol syndrome of an error pattern of data and check bytes, as record 0x010 packs it (13 R359 gives no code; DESIGN CHOICE,
notes/assumptions/84). -/
opaque syndrome : Nat → Nat → Nat

/-- The pattern in a lane of a committed staging row that no instruction stored (05_vector_engine_and_sequencer R158 gives none): a function
of the descriptor's place in the plan and its facet, of the step, and of row and K position, so that a replayed step finds it again
(00_scope R8, R9; DESIGN CHOICE, notes/assumptions/14). -/
opaque openLane : Nat → Nat → Nat → Nat → BitVec 32

/-- The set of the fabric read cache of a line of a context, generation and fabric address (12_fabric_memory R343 gives no map; DESIGN
CHOICE, notes/assumptions/82). -/
opaque cacheSet : Nat → Nat → Nat → Nat

/-- SHA-384 of bytes, as a number whose byte 0 is the first byte of the digest. -/
opaque sha384 : List (BitVec 8) → Nat

/-- Byte `i` of the AES-256-GCM key stream under a key and a 96-bit nonce (16_security R463). -/
opaque gcmStream : Nat → Nat → Nat → BitVec 8

/-- The 128-bit AES-256-GCM tag under a key and a nonce, of additional data and ciphertext (16_security R463). -/
opaque gcmTag : Nat → Nat → List (BitVec 8) → List (BitVec 8) → Nat

/-- What the network layer of an Ethernet chord leaves open (11_spokes R324): MAC addresses, of this end (0) and of the next hop (1); the
source port as a hash of source, destination and VC; the IPv6 flow label and hop limit. -/
opaque macAddress : Nat → Nat → Nat
opaque udpPort : Nat → Nat → Nat → Nat
opaque flowLabel : Nat → Nat
opaque ipHopLimit : Nat

/-- The OTP fields CUSTOMER_KEY_HASH, SERVICE_ANCHOR_HASH and ROM_DIGEST of the part (16_security R441). -/
opaque customerKeyHash : Nat
opaque serviceAnchorHash : Nat
opaque romDigest : Nat

end Sys2Proof.Config
end

