-- ==== Sys2Proof/Machine/Bits.lean ====
section
/-! DEFINITION. Sys2Proof/Machine/Bits.lean: bit fields, byte order, sign extension, saturation and sparse tables. -/

namespace Sys2Proof.Machine

/-- Bits [lo + len - 1 : lo] of a word (00_scope: NAME[msb:lsb]). -/
def field (w lo len : Nat) : Nat := (w >>> lo) % 2 ^ len

/-- One bit of a word. -/
def bit (w n : Nat) : Bool := w.testBit n

/-- A field placed at bit `lo`, cut to `len` bits. -/
def place (v lo len : Nat) : Nat := (v % 2 ^ len) <<< lo

/-- 1 for true, 0 for false (17_object_dictionary R471, BOOL). -/
def ofBool (b : Bool) : Nat := if b then 1 else 0

/-- `n` bytes of a number, least significant first (00_scope R6). -/
def leBytes : Nat → Nat → Bytes
  | 0, _ => []
  | n + 1, v => BitVec.ofNat 8 v :: leBytes n (v / 256)

/-- The number that bytes spell, least significant first (00_scope R6). -/
def ofLE : Bytes → Nat
  | [] => 0
  | b :: bs => b.toNat + 256 * ofLE bs

/-- Two's-complement reading of the low `w` bits. -/
def toInt (w v : Nat) : Int :=
  if bit v (w - 1) then (v % 2 ^ w : Int) - 2 ^ w else (v % 2 ^ w : Int)

/-- The low `w` bits of an integer in two's complement. -/
def ofInt (w : Nat) (v : Int) : Nat := (v % (2 ^ w : Int)).toNat

/-- Sign extension of the low `w` bits to a wider word of `n` bits. -/
def sext (w n v : Nat) : Nat := ofInt n (toInt w v)

/-- A sum that holds at the largest value of `bytes` bytes (03_formats_and_scaling R104). -/
def satAdd (bytes a b : Nat) : Nat := min (a + b) (256 ^ bytes - 1)

/-- Rounds up to a multiple. -/
def alignUp (n a : Nat) : Nat := (n + a - 1) / a * a

/-- The first power of two that is not below `n`, from 1 upward, at most 2^k. -/
def powCeil : Nat → Nat → Nat → Nat
  | 0, p, _ => p
  | k + 1, p, n => if n ≤ p then p else powCeil k (2 * p) n

/-- Whether a number is a power of two (at most 2^63). -/
def isPow2 (n : Nat) : Bool := n != 0 && n &&& (n - 1) == 0

/-- Serial arithmetic on 32-bit indices (14_queues_and_pools R377): how far `b` lies ahead of `a`. -/
def ahead (a b : Nat) : Nat := (b + 2 ^ 32 - a) % 2 ^ 32

/-- `b` lies behind `a` in serial arithmetic. -/
def behind (a b : Nat) : Bool := decide (2 ^ 31 ≤ ahead a b)

section tables
variable {α : Type}

/-- Entry `k` of a table, or `d` where it is not listed. -/
def tget (d : α) (t : Table α) (k : Nat) : α :=
  match t with
  | [] => d
  | (j, v) :: r => if j = k then v else tget d r k

/-- Entry `k` of a table, if it is listed. -/
def tfind (t : Table α) (k : Nat) : Option α :=
  match t with
  | [] => none
  | (j, v) :: r => if j = k then some v else tfind r k

/-- The table with entry `k` set to `v`, keys kept rising. -/
def tset (t : Table α) (k : Nat) (v : α) : Table α :=
  match t with
  | [] => [(k, v)]
  | (j, w) :: r => if k < j then (k, v) :: (j, w) :: r else if k = j then (k, v) :: r else (j, w) :: tset r k v

/-- The table without entry `k`. -/
def terase (t : Table α) (k : Nat) : Table α := t.filter (fun e => e.1 != k)

/-- The keys of a table. -/
def tkeys (t : Table α) : List Nat := t.map (·.1)

/-- The values of a table. -/
def tvals (t : Table α) : List α := t.map (·.2)

end tables

/-- A number put into a rising list without repeats. -/
def nsInsert (l : List Nat) (n : Nat) : List Nat :=
  match l with
  | [] => [n]
  | m :: r => if n < m then n :: m :: r else if n = m then m :: r else m :: nsInsert r n

/-- A number taken out of a rising list. -/
def nsErase (l : List Nat) (n : Nat) : List Nat := l.filter (· != n)

/-- The element of a list at `i`, replaced. -/
def lset {α : Type} (l : List α) (i : Nat) (v : α) : List α := l.set i v

/-- The numbers from `a` up to but not including `b`. -/
def range2 (a b : Nat) : List Nat := (List.range (b - a)).map (· + a)

/-- The positions of the set bits of a word, below `n`. -/
def bitsOf (n w : Nat) : List Nat := (List.range n).filter (fun i => bit w i)

/-- A value put into an ordered list, before the first it is not after. -/
def insertBy {α : Type} (le : α → α → Bool) (x : α) : List α → List α
  | [] => [x]
  | y :: ys => if le x y then x :: y :: ys else y :: insertBy le x ys

/-- A list in order; equal elements keep theirs. -/
def sortBy {α : Type} (le : α → α → Bool) (l : List α) : List α := l.foldr (insertBy le) []

/-- The last `n` elements of a list. -/
def keepLast {α : Type} (n : Nat) (l : List α) : List α := l.drop (l.length - n)

end Sys2Proof.Machine
end

