-- ==== Sys2Proof/Machine/State.lean ====
section
/-! DEFINITION. Sys2Proof/Machine/State.lean: everything the spec gives the block, as plain data; the value after reset
of each field is the default written beside it. -/

namespace Sys2Proof.Machine

/-- The status of a completion (14_queues_and_pools R387). -/
inductive Status where
  | ok
  | okZeroWork
  | droppedLate
  | cancelled
  | failedPeerReset
  | failedContextReset
  | failedUncorrectable
  | failedTimeout
  | failedQuota
  | failedProtection
  | scaleExhausted
  deriving DecidableEq, Repr

/-- What a completion says of a fabric item's effect at its target (12_fabric_memory R333, 14 R386). -/
inductive FabOutcome where
  | notApplied
  | applied
  | unknown
  deriving DecidableEq, Repr

/-- What the cadence unit holds beside its objects (02_beat_and_time R30-R45). -/
structure Cadence where
  /-- Period in force, ns (R31: a written value waits for the next beat-zero epoch); reset 40,000 as the object. -/
  period : Nat := 40000
  /-- Consecutive beats with the offset within tolerance (R39), saturating at 16; reset 0. -/
  goodRun : Nat := 0
  /-- The armed epoch second, from BEAT_EPOCH_START_SEC or a marker (R33); reset none. -/
  armed : Option Nat := none
  /-- Frequency correction in parts per billion, within 200,000 (R38); reset 0. -/
  servoPpb : Int := 0
  /-- The last marker received on each spoke whose peer is not silent (R35, R36); reset none. -/
  peers : Table Marker := []
  /-- When the last marker came on each spoke, ns since second 0 (R35 TURNAROUND); reset none. -/
  arrivals : Table Nat := []
  /-- The time counter at the last beat edge, ns since second 0 (R33); reset 0. -/
  edge : Nat := 0
  /-- Nanoseconds counted by beat edges since boot was entered (17_object_dictionary R496 UPTIME_MS); reset 0. -/
  up : Nat := 0
  /-- `up` when the device entered its state (IN_STATE_MS, 17 R496); reset 0. -/
  entered : Nat := 0
  /-- Seconds of the time counter, 48 bits (R42); reset 0. -/
  sec : Nat := 0
  /-- Nanoseconds of the time counter, 0-999,999,999 (R42); reset 0. -/
  ns : Nat := 0
  /-- TIME_SECONDS_NEXT awaiting the next PPS edge (R43); reset none. -/
  secondsNext : Option Nat := none
  /-- A PPS edge has been seen (R45); reset false. -/
  ppsSeen : Bool := false
  /-- The time counter at the last PPS edge, ns since second 0 (19_pins_and_interfaces R545). -/
  ppsLast : Nat := 0
  deriving DecidableEq, Repr

/-- The header of a beat plan (02_beat_and_time R47), each field as a number. -/
structure PlanHeader where
  magic : Nat
  version : Nat
  context : Nat
  stepBeats : Nat
  slotCount : Nat
  windowCount : Nat
  facetSetCount : Nat
  rankEntries : Nat
  slotOff : Nat
  windowOff : Nat
  facetSetOff : Nat
  rankOff : Nat
  resvOff : Nat
  opOff : Nat
  planId : Nat
  resvEntries : Nat
  /-- The reserved bits of the header, all together. -/
  reserved : Nat
  deriving DecidableEq, Repr

/-- A slot entry (02_beat_and_time R48). -/
structure Slot where
  opClass : Nat
  grace : Nat
  resync : Bool
  winIn : Nat
  winOut : Nat
  facetSet : Nat
  start : Nat
  deadline : Nat
  opDesc : Nat
  opCount : Nat
  phase : Nat
  layer : Nat
  microBatch : Nat
  reserved : Nat
  deriving DecidableEq, Repr

/-- An exchange-window entry (02_beat_and_time R49). -/
structure Window where
  opens : Nat
  length : Nat
  vc : Nat
  sourceCount : Nat
  sourceList : Nat
  tag : Nat
  reserved : Nat
  deriving DecidableEq, Repr

/-- A reservation entry (02_beat_and_time R568). -/
structure Resv where
  resource : Nat
  inst : Nat
  maint : Bool
  first : Nat
  beats : Nat
  amount : Nat
  reserved : Nat
  deriving DecidableEq, Repr

/-- A loaded plan image (02_beat_and_time R47-R50, R568); `base` is its offset in the context's memory. -/
structure PlanImage where
  base : Nat
  header : PlanHeader
  slots : List Slot
  windows : List Window
  facetSets : List Nat
  ranks : List Nat
  resvs : List Resv
  deriving DecidableEq, Repr

/-- Where a slot of the open step stands (02_beat_and_time R54-R58). -/
inductive SlotPhase where
  | waiting
  | running
  | complete
  deriving DecidableEq, Repr

/-- One slot of the open step. -/
structure SlotRun where
  phase : SlotPhase := .waiting
  /-- Step in which it started. -/
  step : Nat := 0
  /-- Order of its start among all slots of the device (12 R347). -/
  serial : Nat := 0
  /-- The facets of its set, one bit each (R50). -/
  facets : Nat := 0
  /-- Beat at which it started. -/
  startBeat : Nat := 0
  /-- Deadline edge moved by the slip in force at its start (R55, R562). -/
  deadlineBeat : Nat := 0
  /-- Counted as a beat overrun (R55). -/
  overrun : Bool := false
  /-- End of the slot: time counter, ns since second 0 (R562). -/
  endNs : Option Nat := none
  /-- Start of the slot: time counter, ns since second 0 (R562). -/
  startNs : Nat := 0
  deriving DecidableEq, Repr

/-- How a contribution stands at the consuming device (02_beat_and_time R62-R66). -/
inductive Arrival where
  | incomplete
  | onTime
  | withinGrace
  | late
  | droppedLate
  deriving DecidableEq, Repr

/-- One source's contribution to a window of the open step (02_beat_and_time R61, R62). -/
structure Contribution where
  records : Nat := 0
  /-- Count of the close marker, once it has arrived. -/
  closed : Option Nat := none
  absent : Bool := false
  arrival : Arrival := .incomplete
  deriving DecidableEq, Repr

/-- One phase record (20_maintenance_and_telemetry R563). -/
structure PhaseRec where
  slots : Nat := 0
  busyNs : Nat := 0
  minSlack : Int := 2147483647
  overruns : Nat := 0
  deriving DecidableEq, Repr

/-- A context's plan and the step it is running (02_beat_and_time R47-R69). PLAN_STATE, STEP_NUMBER and PLAN_SLIP_BEATS
are objects. -/
structure Plan where
  image : Option PlanImage := none
  /-- PLAN_START_BEAT and PLAN_FIRST_STEP as ARM took them (R53). -/
  startBeat : Nat := 0
  firstStep : Nat := 0
  /-- Slots of the open step that have started, by slot index (R54-R58); those of a former plan that still run stand at
  65536 and above. -/
  slots : Table SlotRun := []
  /-- The next slot of the open step to start: slots start in table order (R48, R56). -/
  next : Nat := 0
  /-- Slots below this index fell due while starts were held: they start at the first edge at which they can (R56). -/
  forced : Nat := 0
  /-- The slot whose start the summary store holds up, counted once (14_queues_and_pools R390). -/
  stalled : Option Nat := none
  /-- A step of the plan is open; the plan has opened one since ARM (R53). -/
  opened : Bool := false
  ran : Bool := false
  /-- Edge at which the open step opened, and its planned edge (R53). -/
  openBeat : Nat := 0
  /-- Planned edge of the open step (R53). -/
  plannedBeat : Nat := 0
  /-- Deadline edge at which the present hold began (R56); none when nothing is held. -/
  holdSince : Option Nat := none
  /-- The slot that fell due while starts were held and its input was not complete (R60). -/
  waited : Option Nat := none
  /-- The slot whose start counts slip once, from its planned edge: an overrun and a grace wait met on it (R60). -/
  fromPlanned : Option Nat := none
  /-- Contributions by key (STEP_LOW * 4096 + window) * 16384 + source rank (R61, 09_collectives R258). -/
  contribs : Table Contribution := []
  /-- Windows of the open step that met close + G (R64). -/
  judged : List Nat := []
  /-- Beat overruns of the open step (R55, R59). -/
  overruns : Nat := 0
  /-- Largest slip of the open step (R59). -/
  maxSlip : Nat := 0
  /-- Ledger entries written in the open step (R59, R67). -/
  ledgerCount : Nat := 0
  /-- Ledger entries taken for replay in the open step (R69), each 128 bits. -/
  replay : List Nat := []
  /-- STOP_AT_STEP_END requested (R52). -/
  stopReq : Bool := false
  /-- Mirror PUTs of the open step: how many completed OK, bytes, first failing status (R427, R428). -/
  mirrorOk : Nat := 0
  mirrorBytes : Nat := 0
  mirrorFail : Option Nat := none
  /-- The open step's mirror slot has had its commit record invalidated (R427). -/
  mirrorOpened : Bool := false
  /-- That invalidation is on its way; the write of the commit record of the open step is on its way (R427, R428). -/
  mirrorOpening : Bool := false
  mirrorClosing : Bool := false
  /-- Phase records and slack histogram of the step in progress (20 R563), phases 0-6 and buckets 0-15. -/
  phases : Table PhaseRec := []
  slack : Table Nat := []
  /-- Counters as they stood at the step's opening (20 R565), key object key. -/
  snapshot : Table Nat := []
  /-- Rows consumed by layer and local slot in the step in progress, and in the last completed step (20 R565, R567). -/
  tokens : Table Nat := []
  tokensLast : Table Nat := []
  /-- Ns in the step in which each facet had a slot of the context running (20 R565 type 3). -/
  facetBusy : Table Nat := []
  /-- Time, ns since second 0, from which a facet has had a slot of the context running without a break (20 R565). -/
  busySince : Table Nat := []
  /-- Ledger entries of the open step by KIND (20 R565 type 11). -/
  ledgerKinds : Table Nat := []
  /-- Experts marked unavailable to this device's router in the open step, by global expert ID (07_expert_routing R222). -/
  unavailable : List Nat := []
  /-- Late and within-grace counts of each source rank in the step (15 R436). -/
  lateCount : Table Nat := []
  graceCount : Table Nat := []
  deriving DecidableEq, Repr

/-- An output tile of an array (04_matrix_engine R116-R123): its 32 x 32 words row by row, its index words, its tag. -/
structure AccTile where
  array : Nat
  /-- Tile row and tile column in the output. -/
  row : Nat
  col : Nat
  /-- Rows of it that lie in the output. -/
  rows : Nat := 32
  vals : List Nat := []
  idx : List Nat := []
  tag : Nat := 0
  /-- The tile is not written: an N-masked tile under ACC_IN (R127). -/
  skip : Bool := false
  deriving DecidableEq, Repr

/-- A tile in its array's back accumulator, to be drained or held for the vector engine (R116-R118). -/
structure BackTile where
  item : Nat
  superTile : Nat
  tile : AccTile
  hold : Bool
  /-- A held tile that ACCNEXT has made current (05 R159). -/
  taken : Bool := false
  deriving DecidableEq, Repr

/-- The matrix descriptor whose K loop runs on a facet's arrays (R111-R131). -/
structure MatRun where
  item : Nat
  superTile : Nat := 0
  /-- Outer exponents read at acceptance (R131). -/
  tExpA : Int := 0
  tExpB : Int := 0
  /-- A record or the count word was uncorrectable (R128, R134). -/
  bad : Bool := false
  /-- The bits of the mask, and which runs of 32 of them came from an uncorrectable word (R127). -/
  mask : List Bool := []
  maskBad : List Bool := []
  /-- Rows and K positions that run (R128). -/
  m : Nat
  k : Nat
  /-- Tiles loaded for accumulation in place (R119), by array. -/
  loaded : Table AccTile := []
  loadedBad : List Nat := []
  /-- Results of the super-tile's K loop, once it has ended. -/
  tiles : Option (List AccTile) := none
  deriving DecidableEq, Repr

/-- The write-path configuration of VSCFG (05 R158). -/
structure VCfg where
  data : Nat
  scale : Nat
  tag : Nat
  fmt : Nat
  block : Nat
  classG : Bool
  k : Nat
  m : Nat
  record : Nat
  deriving DecidableEq, Repr

/-- A staging band of 32 rows x 256 K positions (R158): stored lanes of stored rows, each a pattern and whether it is
poisoned. -/
structure Band where
  cfg : VCfg
  row : Nat
  k : Nat
  /-- The descriptor whose program opened it, its context, step and place in the plan. -/
  item : Nat
  ctx : Nat
  step : Nat
  place : Nat
  /-- Which of the engine's two staging buffers it occupies. -/
  buf : Nat := 0
  rows : Table (Table (Nat × Bool)) := []
  /-- Tag of the array tile that was current when a lane was stored, by row * 256 + lane; lanes without one are not listed
  (03_formats_and_scaling R97). -/
  shifts : Table Nat := []
  deriving DecidableEq, Repr

/-- What a switched-out thread waits for (R144); `ready`: it has come, and the thread becomes ready 4 cycles later. -/
inductive Wait where
  | no
  | frame
  | tile
  | store
  | reply (serial : Nat)
  | fence (sd : Nat)
  | ready
  deriving DecidableEq, Repr

/-- A running element program and its vector frame (R146, R149). -/
structure Program where
  item : Nat
  base : Nat
  pc : Nat := 0
  count : Nat := 0
  /-- The vector frame is given. -/
  framed : Bool := false
  /-- Vector registers that are not all zero: 256 lanes each; poisoned lanes; mask registers p1-p7. -/
  v : Table (List Nat) := []
  vp : Table Nat := []
  p : Table Nat := []
  cfg : Option VCfg := none
  /-- The descriptor is a TREE_COMBINE: it executes no instruction (R160). -/
  combine : Bool := false
  /-- The matrix item whose held tiles it reads, and the array of the current tile. -/
  held : Option Nat := none
  cur : Option Nat := none
  /-- Remote accesses that failed and have not succeeded since: kind and address, status (R167). -/
  failing : List (Nat × Nat × Status) := []
  deriving DecidableEq, Repr

/-- A thread of a facet sequencer (R142-R145): it carries one slot. -/
structure Thread where
  ctx : Nat
  gen : Nat
  step : Nat
  slot : Nat
  layer : Nat := 0
  microBatch : Nat := 0
  /-- Order of the slot's start among all slots of the device (12 R347). -/
  serial : Nat := 0
  /-- The thread's items in operation-table order, and how many have been issued. -/
  items : List Nat
  /-- Their positions in the slot and their descriptors. -/
  descs : List (Nat × Nat) := []
  issued : Nat := 0
  prog : Option Program := none
  wait : Wait := .no
  /-- Its FST and FATOM requests without an outcome, as the fabric's serial numbers; how many of them are FST; those that have
  failed, with the status code, in issue order (12_fabric_memory R332, R342). -/
  posted : List Nat := []
  stores : List Nat := []
  fails : Table Nat := []
  deriving DecidableEq, Repr

/-- One facet: its sequencer, vector engine and arrays (04_matrix_engine, 05). -/
structure Facet where
  /-- Threads T0-T15 that hold a slot; reset none. -/
  threads : Table Thread := []
  /-- Scalar registers of the threads, key thread * 64 + register, and those that are poisoned (R142, R166). -/
  regs : Table Nat := []
  regPoison : List Nat := []
  /-- Threads that wait for a vector frame, in request order (R146). -/
  frameQueue : List Nat := []
  /-- The descriptor on the arrays; tiles in the back accumulators in drain order. -/
  mat : Option MatRun := none
  back : List BackTile := []
  /-- Pending bands of the write path, oldest first, at most two (R158). -/
  bands : List Band := []
  /-- Context and generation of the facet's previous slot; none after a self-test (R140). -/
  owner : Option (Nat × Nat) := none
  /-- The zeroing at a change of owner is in progress (R140). -/
  zeroing : Bool := false
  deriving DecidableEq, Repr

/-- Who waits for a packet's acknowledgement or failure (11_spokes R313): nobody, an item, or a fabric request
of this device named by its target node and FSEQ (12_fabric_memory R335). -/
inductive Sender where
  | none
  | item (n : Nat)
  | request (node fseq : Nat)
  deriving DecidableEq, Repr

/-- A packet of a flow that no cumulative acknowledgement covers (R311-R313). -/
structure Unacked where
  packet : Packet
  sender : Sender := .none
  /-- It has been handed to a spoke: at most 256 of a flow are (R311). -/
  sent : Bool := false
  /-- A selective acknowledgement shows it held (R312). -/
  sacked : Bool := false
  /-- It has been resent because three later packets were held (R313). -/
  fast : Bool := false
  /-- The spoke it last left by. -/
  via : Option Nat := Option.none
  deriving DecidableEq, Repr

/-- The sending side of a flow (R311). -/
structure TxFlow where
  next : Nat := 0
  /-- In SEQ order. -/
  unacked : List Unacked := []
  deriving DecidableEq, Repr

/-- The receiving side of a flow (R311, R312). -/
structure RxFlow where
  /-- Next SEQ to deliver: one more than the cumulative acknowledgement. -/
  next : Nat := 0
  /-- Packets in the reorder window. -/
  held : List Packet := []
  /-- Bytes of a record whose last packet has not been delivered (R310). -/
  building : Bytes := []
  /-- Arrivals since the last acknowledgement (R312). -/
  arrivals : Nat := 0
  deriving DecidableEq, Repr

/-- A record or close marker that the transport has delivered and its consumer has not yet taken. -/
structure Delivered where
  node : Nat
  vc : Nat
  ctx : Nat
  /-- The source's epoch as the packet carried it (12 R337). -/
  epoch : Nat := 0
  close : Bool
  bytes : Bytes
  /-- The sending descriptor's operand was poisoned on this device (own deliveries only). -/
  poison : Bool := false
  deriving DecidableEq, Repr

/-- One spoke beside its objects (R298-R323). -/
structure Spoke where
  /-- Training step 1-4 while TRAINING or KEYING; reset 0 (R299). -/
  step : Nat := 0
  /-- Next LSEQ to send, next LSEQ expected (R301, R303). -/
  txLseq : Nat := 0
  rxLseq : Nat := 0
  /-- The replay buffer, oldest first, at most 1,024 flits (R303). -/
  replay : List Flit := []
  /-- A LINK_RETRY has been sent and the expected flit has not come; how many have named it (R303). -/
  retrying : Bool := false
  asked : Nat := 0
  /-- A flit has been taken in order: LACK means something (R301). KEY_PHASE of the packet whose flits are coming. -/
  lackValid : Bool := false
  packetPhase : Bool := false
  /-- LSEQ of the last LINK_RETRY received and how many named it without progress (R303). -/
  retryLseq : Nat := 0
  retryCount : Nat := 0
  /-- Packets routed to this spoke, oldest first (R304, R317). -/
  waiting : List Packet := []
  /-- The packet part of whose flits have been sent, and the next piece (R302). -/
  sending : Option (Packet × Nat) := none
  /-- That packet as it crosses the hop: header, payload under the link key, tag (R302, R322). -/
  sealed : Bytes := []
  /-- Credits held at the far end by VC * 12 + class, in 64-byte units (R304). -/
  credits : Table Nat := []
  /-- Credits to return to the far end, in the same form. -/
  owed : Table Nat := []
  /-- Units of the input buffer's shared part in use, and of each pair's reserved part, in the same form (R304). -/
  shared : Nat := 0
  held : Table Nat := []
  /-- The DEGRADE proposal that awaits its echo: lane mask and number (R320). -/
  proposal : Option (Nat × Nat) := none
  proposalNumber : Nat := 0
  /-- Lanes that have failed (R320). -/
  failedLanes : Nat := 0
  /-- Lanes that have passed a retune and wait for the exchange that readmits them (R320, 20 R557). -/
  readmit : Nat := 0
  /-- Traffic pauses for deskew (R320). -/
  paused : Bool := false
  /-- Key and salt of each direction (R321); none before keys are installed. -/
  txKey : Option (Nat × Nat) := none
  rxKey : Option (Nat × Nat) := none
  /-- KEY_PHASE in use in each direction (R323). -/
  txPhase : Bool := false
  rxPhase : Bool := false
  /-- The key that the far end's KEY_UPDATE has agreed and its next new-phase packet puts in use; the key before it, while the old
  phase is still accepted; a KEY_UPDATE of this end is in progress (R323). -/
  rxNext : Option (Nat × Nat) := none
  rxOld : Option (Nat × Nat) := none
  rekeying : Bool := false
  /-- Packets sent under the present key: the counter of the nonce (R322, R323). -/
  sentPackets : Nat := 0
  /-- Times, ns since second 0, of the last authentication failures, newest first, at most fifteen (R322). -/
  authTimes : List Nat := []
  /-- Heartbeats sent since a beat edge: its beat number, and how many (R307). -/
  heartbeats : Nat × Nat := (0, 0)
  deriving DecidableEq, Repr

/-- The transport beside its objects (R309-R319). -/
structure Hupatas where
  /-- Flows by node * 8 + VC (R311). -/
  tx : Table TxFlow := []
  rx : Table RxFlow := []
  /-- Epoch known of each node (R315), generation known of each node * 16 + context (R316). -/
  peerEpoch : Table Nat := []
  peerGen : Table Nat := []
  /-- Packets that the link layer has put together and nobody has received: spoke and packet. -/
  arrived : List (Nat × Packet) := []
  /-- Records and close markers delivered and not yet taken, oldest first. -/
  inbox : List Delivered := []
  /-- Packets for which no spoke is usable (R327). -/
  stuck : List Packet := []
  /-- Millisecond of the last notice to each node (R315, R316). -/
  noticed : Table Nat := []
  /-- Second of the last record 0x041 (R318). -/
  hopLogged : Option Nat := none
  /-- Bytes begun to send in a beat by spoke group * 8 + VC, and the beat (R305). -/
  beatBytes : Table Nat := []
  beatOf : Nat := 0
  /-- Packets that came by an Ethernet chord and go on to another node: they stand in the chord's input buffer until they leave
  (R325). -/
  transit : List (Nat × Packet) := []
  deriving DecidableEq, Repr

/-- What a fabric request of this device is for (12_fabric_memory R332-R347). -/
inductive FabFor where
  /-- FLD of a thread: registers for the value and the status; a cached one fills a line. -/
  | load (facet thread sd sb : Nat) (fill : Bool)
  | store (facet thread item : Nat)
  | atomic (facet thread sd : Nat)
  /-- A chunk of a GET or PUT descriptor: offset in the descriptor's range. -/
  | chunk (item offset : Nat)
  /-- The mirror's commit record of a context: 0 invalidated, 1 written (15 R427, R428). -/
  | mirror (ctx part : Nat)
  /-- A RESOLVE: the FSEQ it asks about (R339). -/
  | resolve (fseq : Nat)
  deriving DecidableEq, Repr

/-- A request of this device without an outcome (R334, R335). -/
structure FabReq where
  serial : Nat
  node : Nat
  vc : Nat := 4
  fseq : Nat := 0
  ctx : Nat
  gen : Nat
  op : Nat
  aop : Nat := 0
  ty : Nat := 0
  off : Nat
  operand : Nat := 0
  compare : Nat := 0
  data : Bytes := []
  /-- Fabric address as issued. -/
  addr : Nat := 0
  why : FabFor
  /-- Order of the issuing slot's start and position of the descriptor in it (R347); none from a queue. -/
  issuer : Option (Nat × Nat) := none
  /-- The FINV count of the context when a fill was sent (R344). -/
  finv : Nat := 0
  retries : Nat := 0
  acked : Bool := false
  /-- A BUSY reply has come; it is resent 10 µs later (R337). -/
  busy : Bool := false
  /-- The target context's generation as it was sent with (R316), and a RESOLVE is out for it (R339). -/
  dstGen : Nat := 0
  resolving : Bool := false
  /-- Its context has been reset: its reply is dropped (R340). -/
  dead : Bool := false
  deriving DecidableEq, Repr

/-- A reply-cache entry (R337), a tombstone once its context has been reset (R339). -/
structure FabEntry where
  node : Nat
  epoch : Nat
  fseq : Nat
  op : Nat
  status : Nat
  outcome : Nat
  value : Nat
  ctx : Nat
  gen : Nat
  tomb : Bool := false
  deriving DecidableEq, Repr

/-- A tombstone horizon (R339), and the highest FSEQ seen of a source in a context. -/
structure FabMark where
  node : Nat
  epoch : Nat
  ctx : Nat
  fseq : Nat
  deriving DecidableEq, Repr

/-- A line of the fabric read cache (R343). -/
structure FabLine where
  ctx : Nat
  gen : Nat
  addr : Nat
  bytes : Bytes
  deriving DecidableEq, Repr

/-- The fabric memory agent beside its objects (R329-R349). -/
structure Fabric where
  /-- Next FSEQ to each node (R335); reset 0. -/
  next : Table Nat := []
  /-- Requests sent without an outcome, and those beyond the limit of 4,096 to a target, in issue order. -/
  reqs : List FabReq := []
  waiting : List FabReq := []
  serial : Nat := 0
  entries : List FabEntry := []
  horizons : List FabMark := []
  seen : List FabMark := []
  /-- Lines, oldest first, at most 131,072. -/
  lines : List FabLine := []
  /-- How many FINVs, resets and commits have emptied each context's lines. -/
  finvs : Table Nat := []
  /-- Failed FST, FATOM, GET and PUT of each context in its generation: issuer and status (R347). -/
  fails : Table (List (Nat × Nat × Status)) := []
  /-- What the chunks of a GET or PUT item have come to so far (R346, R348). -/
  outs : Table (List (Status × FabOutcome)) := []
  /-- Mirror PUT items that wait for their slot's commit record to be invalidated (15 R427). -/
  parked : List Nat := []
  deriving DecidableEq, Repr

/-- Addressed bytes in one canonical form: addresses strictly rising, no listed byte zero, which is what an unlisted
address reads as (DESIGN CHOICE, notes/assumptions/3). -/
structure Memory where
  cells : List Host.Cell := []
  deriving DecidableEq, Repr

/-- A merge-buffer entry: one sector's new bytes by offset (13_hbm_and_ecc R362). -/
structure MergeEntry where
  sector : Nat
  bytes : Table Byte
  /-- The items that wrote into it (R373). -/
  writers : List Nat := []
  deriving DecidableEq, Repr

/-- The HBM memory system beside its objects (13_hbm_and_ecc). (DEDUCED, notes/assumptions/79.) -/
structure Hbm where
  /-- Every byte of P, 0-383,999,999,999 (R353); reset nothing listed. -/
  mem : Memory := {}
  /-- Sectors (P div 32) that hold the poison pattern (R359); reset none. -/
  poison : List Nat := []
  /-- Sectors stored with DATA_MASK and CHECK_MASK applied, or with a natural error (R371): (data, check). -/
  flips : Table (Nat × Nat) := []
  /-- Sectors at which reads come to the codeword of another address (R358); reset none. -/
  elsewhere : List Nat := []
  /-- Sectors that have been written since their contents became arbitrary (R365); reset none. -/
  known : List Nat := []
  /-- The merge buffers of all channels, oldest entry first (R362); reset empty. -/
  merge : List MergeEntry := []
  /-- Units whose written-map bit is set (R367); reset none. -/
  written : List Nat := []
  /-- Next scrub sector of each pseudo-channel (R368); reset 0. -/
  scrub : Table Nat := []
  /-- Pseudo-channels that have completed the scrub pass in progress (R368). -/
  scrubDone : List Nat := []
  /-- ECC_FLIP_MASK is armed (R371); reset false. -/
  armed : Bool := false
  deriving DecidableEq, Repr

/-- The facet memories and what protects them (05_vector_engine_and_sequencer R137-R141). Facet f, byte a is at
f * 0x200000 + a. -/
structure FacetMem where
  /-- Reset: zero (R140). -/
  mem : Memory := {}
  /-- 64-bit words (address div 8) that are poisoned (R139). -/
  poison : List Nat := []
  /-- Words stored with a flip mask: (data, check) (13 R371). -/
  flips : Table (Nat × Nat) := []
  /-- Corrected words whose write-back waits for a free cycle of the bank (R139): (address div 8). -/
  corrected : List Nat := []
  /-- Errors in the other SRAMs of 13 R360 that no read has met, and words there that are poisoned; reset none. -/
  flaws : List SramFlaw := []
  dead : List SramFlaw := []
  deriving DecidableEq, Repr

/-- Where an accepted item came from (14_queues_and_pools R382, R389): a queue and descriptor index, or a plan slot,
the descriptor's index in the operation table and the facet (0xFF: not run by a facet). -/
inductive Origin where
  | queued (queue index : Nat)
  | planned (slot index facet : Nat)
  deriving DecidableEq, Repr

/-- How far an accepted item has come. -/
inductive ItemPhase where
  | accepted
  | running
  | done (status : Status) (outcome : FabOutcome)
  deriving DecidableEq, Repr

/-- An accepted item: it gets exactly one completion (00_scope R12). -/
structure Item where
  ctx : Nat
  /-- Generation of the context at acceptance (R382, 15 R407). -/
  gen : Nat
  origin : Origin
  /-- The 64-byte descriptor. -/
  desc : Nat
  /-- Step of a planned item, its position in its slot, and whether its thread has issued it (05 R142). -/
  step : Nat := 0
  pos : Nat := 0
  issued : Bool := false
  phase : ItemPhase := .accepted
  /-- Statuses met so far (04_matrix_engine R135 decides which is reported). -/
  met : List Status := []
  deriving DecidableEq, Repr

/-- A queue's indices and state (14_queues_and_pools R375-R378). -/
structure Queue where
  /-- The 64-byte queue record. -/
  record : Nat
  /-- 1 ACTIVE, 2 PAUSED, 3 ERROR (0 ABSENT is a queue that is not listed). -/
  state : Nat := 1
  errorCode : Nat := 0
  sqHead : Nat := 0
  sqTail : Nat := 0
  cqHead : Nat := 0
  cqTail : Nat := 0
  skipped : Nat := 0
  /-- Doorbells not all of whose descriptors are accepted: SQ_TAIL as each left it, and its place in the order of arrival, oldest first; and
  the descriptors accepted in this round of shares (R385). -/
  bells : List (Nat × Nat) := []
  served : Nat := 0
  /-- Completion entries not yet written because the facet does not serve the context (R380), oldest first: 16-byte
  entries without PHASE. -/
  deferred : List Nat := []
  /-- An interrupt hold-off is running, and an entry was written during it (R375, R400). -/
  holdoff : Bool := false
  holdoffHit : Bool := false
  deriving DecidableEq, Repr

/-- A place of a context's summary store (14_queues_and_pools R390): a range of plan items of one slot, step and status,
or a held step-end record (its two entries without PHASE). -/
inductive Place where
  | range (slot step status first last count : Nat)
  | stepEnd (a b : Nat)
  deriving DecidableEq, Repr

/-- One pool of a context (14_queues_and_pools R392-R395). Its record is POOL_CONFIG; its state table lies in the
context's memory. (DESIGN CHOICE, notes/assumptions/77.) -/
structure Pool where
  /-- Free handles in the on-chip cache, oldest first; and the place of the first handle of the free ring and how many it holds (R392,
  R394). -/
  cache : List Nat := []
  ringHead : Nat := 0
  ringCount : Nat := 0
  /-- Handles withheld because their word was poisoned (R400). -/
  withheld : Nat := 0
  /-- Indexes of the buffers that are held. -/
  held : List Nat := []
  deriving DecidableEq, Repr

/-- Output of a slot that waits for its window to open (02_beat_and_time R61). -/
structure Outgoing where
  ctx : Nat
  step : Nat
  slot : Nat
  window : Nat
  /-- The virtual channel it leaves on; none: the window's. -/
  vc : Option Nat := none
  /-- The item that completes when every packet is acknowledged; none after a cancellation. -/
  item : Option Nat
  /-- Records in send order: logical rank and bytes. -/
  recs : List (Nat × Bytes) := []
  /-- Control records that follow the close markers and are not counted by them (07_expert_routing R221). -/
  after : List (Nat × Bytes) := []
  /-- Ranks that get a close marker; none: those of the window's rank list. -/
  ranks : Option (List Nat) := none
  /-- The close markers carry the ABSENT flag (08_backward_and_training R244). -/
  absent : Bool := false
  deriving DecidableEq, Repr

/-- A sub-ring of a dispatch window on its host: one local expert, one source (07_expert_routing R209, 08 R232). -/
structure SubRing where
  ctx : Nat
  step : Nat
  window : Nat
  loc : Nat
  source : Nat
  /-- The pool buffer's handle, and its offset in the context's memory. -/
  handle : Nat := 0
  base : Nat := 0
  filled : List Nat := []
  damaged : Bool := false
  unplaced : Bool := false
  deriving DecidableEq, Repr

/-- The return buffer of a token (R208). -/
structure RetBuf where
  ctx : Nat
  layer : Nat
  microBatch : Nat
  token : Nat
  handle : Nat
  base : Nat
  deriving DecidableEq, Repr

/-- A layer's rows at one local slot of a host in the open step: those CONSUME or BWD_CONSUME formed, and for BWD_CONSUME
those that received a gradient record (08 R234). -/
structure HostRows where
  ctx : Nat
  bwd : Bool
  layer : Nat
  microBatch : Nat
  loc : Nat
  rows : Nat
  got : List Nat := []
  deriving DecidableEq, Repr

/-- An expert whose placement switch is outstanding on this source (R221). -/
structure Switching where
  ctx : Nat
  expert : Nat
  oldHost : Nat
  oldEpoch : Nat
  /-- DRAIN_COMPLETE has arrived, or is not expected any more (R225). -/
  drained : Bool := false
  deriving DecidableEq, Repr

/-- The expert router beside its objects (07_expert_routing). -/
structure Router where
  rings : List SubRing := []
  /-- Sources whose contribution to a window is damaged without a local expert: (context, step, window, source). -/
  strays : List (Nat × Nat × Nat × Nat) := []
  /-- Local slots whose queue has been compacted: (context, step, window, local slot). -/
  consumed : List (Nat × Nat × Nat × Nat) := []
  rows : List HostRows := []
  bufs : List RetBuf := []
  /-- Micro-batches cancelled in the open step, one bit each, by context (R219). -/
  cancelled : Table Nat := []
  switching : List Switching := []
  deriving DecidableEq, Repr

/-- A part of a contribution that a node of a collective has joined: its position and rank, its elements and tag bytes, and its
units that had an uncorrectable word (09_collectives R267). -/
structure CollLeaf where
  pos : Nat
  rank : Nat
  bytes : Bytes
  tags : List Nat
  spoiled : List Nat := []
  deriving DecidableEq, Repr

/-- A staged part of a collective: the values of one segment at a node of the tree over positions `lo` to `lo + size - 1`
(09_collectives R266, R267). In fast sequential mode `size` 0 marks the segment's accumulator (R268). -/
structure CollNode where
  ctx : Nat
  step : Nat
  window : Nat
  seg : Nat
  col : Nat
  lo : Nat
  size : Nat := 1
  /-- Staging buffer: handle, and offset in the context's memory; none: the bytes are held here. -/
  buf : Option (Nat × Nat) := none
  bytes : Bytes := []
  /-- Length of the staged bytes. -/
  len : Nat
  /-- The tag byte of each unit of a tagged segment. -/
  tags : List Nat := []
  /-- Of a joined node: exhausted units, the sources its elements carry by element (R274), the lowest rank present. -/
  exhausted : List Nat := []
  srcs : Table Nat := []
  low : Nat
  /-- Units of which a word was uncorrectable when it was joined (R277). -/
  spoiled : List Nat := []
  /-- Of a joined node: the parts it joins, so that one of them can be dropped (02_beat_and_time R66). -/
  leaves : List CollLeaf := []
  deriving DecidableEq, Repr

/-- What is known of a source's contribution beside its data: VISITS, and that it is a zero-count marker (R264, R265). -/
structure CollFrom where
  ctx : Nat
  step : Nat
  window : Nat
  rank : Nat
  visits : Nat
  marker : Bool
  deriving DecidableEq, Repr

/-- A damaged contribution: the segment it would have touched, if it is one of the collective (R277). -/
structure CollBad where
  ctx : Nat
  step : Nat
  window : Nat
  rank : Nat
  seg : Option (Nat × Nat)
  deriving DecidableEq, Repr

/-- A phase of a collective that has begun in the open step: its descriptor with PHASE 0 (R263). -/
structure CollPhase where
  ctx : Nat
  step : Nat
  window : Nat
  phase : Nat
  desc : Nat
  deriving DecidableEq, Repr

/-- The collective engine beside its objects (09_collectives). -/
structure Coll where
  nodes : List CollNode := []
  sources : List CollFrom := []
  bad : List CollBad := []
  phases : List CollPhase := []
  /-- Descriptors that have passed their checks and whose phase has not run. -/
  begun : List Nat := []
  deriving DecidableEq, Repr

/-- An error record (15_faults_and_recovery R403). -/
structure ErrRec where
  seq : Nat
  cls : Nat
  sub : Nat
  inst : Nat
  code : Nat
  ctx : Nat
  gen : Nat
  epoch : Nat
  sec : Nat
  ns : Nat
  beat : Nat
  step : Nat
  slot : Nat
  status : Nat
  info0 : Nat
  info1 : Nat
  info2 : Nat
  deriving DecidableEq, Repr

/-- The error log and its flash copy (15_faults_and_recovery R404). -/
structure ErrLog where
  /-- The ring of 4,096 records, oldest first. -/
  ring : List ErrRec := []
  nextSeq : Nat := 0
  overwritten : Nat := 0
  suppressed : Nat := 0
  /-- CORRECTED triples (SUBSYSTEM, INSTANCE, CODE packed): time of the last record in ns, events suppressed since. -/
  limited : Table (Nat × Nat) := []
  /-- Fatal records that wait for their flash copy. -/
  toFlash : List ErrRec := []
  /-- ERROR_FLASH_LOG: the last 64 fatal records in flash, oldest first. -/
  flash : List ErrRec := []
  deriving DecidableEq, Repr


/-- One engine instance on the escalation ladder: its step 1-5 (15 R413). -/
structure Rung where
  inst : EngineRef
  step : Nat := 1
  deriving DecidableEq, Repr

/-- A context reset in progress (15 R411-R413). -/
structure Withdrawal where
  rungs : List Rung := []
  /-- Time counter at the start, ns since second 0 (record 0x063). -/
  startNs : Nat := 0
  /-- Items completed so far (record 0x063). -/
  items : Nat := 0
  /-- The reset belongs to a return to FREE (16_security R457). -/
  toFree : Bool := false
  deriving DecidableEq, Repr

/-- What the management controller keeps of resets (15 R404-R422, R438). -/
structure Recovery where
  /-- Copies of the device epoch in always-on SRAM and in flash (R406); reset 0: no boot yet. -/
  epochAon : Nat := 0
  epochFlash : Nat := 0
  /-- Context resets in progress by context (R411). -/
  active : Table Withdrawal := []
  /-- Last start of a context reset by context, ns since second 0 (R407). -/
  lastReset : Table Nat := []
  /-- Resets held back because another of the same context started within the millisecond (R407): cause, and whether it
  belongs to a return to FREE, by context. -/
  deferred : Table (Nat × Bool) := []
  /-- Nodes that are lost, with the epoch that ended (R409, R315). -/
  lost : Table Nat := []
  /-- Nodes whose epoch has ended since the context's rank map took effect, by context (R423, 07_expert_routing R222). -/
  ended : Table (List Nat) := []
  /-- A device reset has begun and boot has not been entered again: its reason (R421). -/
  resetting : Option Nat := none
  /-- The facet waits for its reset to finish (R413 step 3): cleared by FACET_RESET_DONE. -/
  facetResets : List Nat := []
  /-- Bytes of the crash dump, at offsets of the crash-dump region (R438). -/
  dump : Memory := {}
  /-- Which capture it is: the state's counter of free values when it began (R438). -/
  dumpId : Nat := 0
  /-- Capture in progress (R438). -/
  capturing : Bool := false
  deriving DecidableEq, Repr

/-- What an SPDM responder answers (16_security R449-R451). -/
inductive SpdmMsg where
  /-- SPDM versions, as 0xMm for M.m. -/
  | version (versions : List Nat)
  /-- CERT, CHAL, MEAS with signature, MEAS_FRESH, KEY_EX, MUT_AUTH, ENCRYPT, MAC, KEY_UPD, HBEAT, CHUNK, and SET_CERT where
  true. -/
  | capabilities (setCert : Bool)
  /-- ECDSA P-384, SHA-384, ECDHE secp384r1, AES-256-GCM, SPDM key schedule. -/
  | algorithms
  /-- The certificate slots that hold a chain. -/
  | digests (slots : List Nat)
  | certificate (slot : Nat)
  | challengeAuth (slot : Nat)
  /-- Records (index, value), the security state record as OpaqueData, whether signed. -/
  | measurements (records : List (Nat × Nat)) (record : Nat) (signed : Bool)
  | keyExchange (session : Nat)
  | finish (session : Nat)
  | keyUpdated (session : Nat)
  | heartbeat (session : Nat)
  | ended (session : Nat)
  | certificateSet
  | ideKm (stream : IdeStream)
  /-- An error; InvalidRequest where true, else one whose code is not in the source. -/
  | error (invalidRequest : Bool)
  deriving DecidableEq, Repr

/-- What the management port answers to an MCTP control command (19_pins_and_interfaces R539). -/
inductive MctpMsg where
  | endpointIdSet (eid : Nat)
  | endpointId (eid : Nat)
  | versions
  | messageTypes (types : List Nat)
  | vendorId
  deriving DecidableEq, Repr

/-- An ordered set (11_spokes R306). -/
inductive OrderedSet where
  | training (t : Training)
  | marker (m : Marker)
  | heartbeat (h : Heartbeat)
  | resetNotice (node epoch reason : Nat)
  | linkRetry (lseq : Nat)
  | degrade (lanes number : Nat) (echo : Bool)
  deriving DecidableEq, Repr

/-- What the device puts out, in order: the model's own record of every effect that leaves the block. -/
inductive Emit where
  /-- The outcome of a write of an object: 0 or an abort code (17 R489). -/
  | answer (who : Who) (key code : Nat)
  /-- A response frame of the dictionary: header and segment data (17 R477). -/
  | frame (who : Who) (header : Nat) (data : Bytes)
  /-- One MSI-X message: function and vector (14 R375, 17 R485, 19 R537). -/
  | msix (function vector : Nat)
  /-- A link block of a native spoke and its 320 bytes; a datagram of an Ethernet chord and its frame (11 R301, R325). -/
  | block (spoke : Nat) (b : Block) (wire : Bytes)
  | datagram (spoke : Nat) (p : Packet) (frame : Bytes)
  /-- An ordered set, as a copy on each lane of a mask, and the bytes of its block (11 R306). -/
  | orderedSet (spoke lanes : Nat) (set : OrderedSet) (wire : Bytes)
  /-- The in-band interrupt of I3C mode as ALERT_N is asserted (19 R539). -/
  | inBand
  /-- A pulse on AUXIO pin, of a width in ns (19 R546). -/
  | pulse (pin widthNs : Nat)
  /-- A voltage written to a core rail's regulator over AVSBus, by die, in mV (18 R511). -/
  | avs (die mv : Nat)
  /-- An SPDM response (16_security R449). -/
  | spdm (to_ : SpdmEnd) (m : SpdmMsg)
  /-- A response to an MCTP control command (19 R539). -/
  | mctpControl (eid : Nat) (m : MctpMsg)
  /-- An advisory non-fatal error of a function, logged through AER (19 R537). -/
  | advisory (function : Nat)
  deriving DecidableEq, Repr

/-- An open SPDM session (16_security R449, R453). -/
structure Session where
  /-- Requester key: SHA-384 of the leaf public key proved in mutual authentication; none without it (R453). -/
  key : Option Nat := none
  /-- The requester chain ends at an ATTESTED anchor (R452), and at SERVICE_ANCHOR_HASH (R466). -/
  attested : Bool := false
  service : Bool := false
  /-- FINISH has completed the session's establishment (R449). -/
  established : Bool := false
  /-- The PCIe function whose DOE mailbox carries it; none over MCTP (R449). -/
  doe : Option Nat := none
  /-- Contexts released from under the session, which it has not claimed again (R468). -/
  released : List Nat := []
  /-- How often KEY_UPDATE has changed the session's keys (R449). -/
  updates : Nat := 0
  deriving DecidableEq, Repr

/-- The keys of a tenant context (R456, R459, R463). -/
structure ContextKeys where
  /-- AES-256-XTS key pair in force, the one that a rotation moves to, and the transfer key: none erased. -/
  xts : Option Nat := none
  next : Option Nat := none
  transfer : Option Nat := none
  /-- Transfer KEY_ID; reset 0. -/
  keyId : Nat := 0
  /-- Highest COUNTER accepted under the transfer key; COUNTER of the next outbound chunk. -/
  received : Option Nat := none
  sent : Nat := 0
  deriving DecidableEq, Repr

/-- A slot of a function's sealed window (19_pins_and_interfaces R537). -/
structure SealSlot where
  /-- 0 EMPTY, 1 SUBMITTED, 2 DONE, 3 REJECTED. -/
  state : Nat := 0
  reason : Nat := 0
  /-- The chunk: header, ciphertext, tag. -/
  header : Nat := 0
  payload : Bytes := []
  tag : Nat := 0
  deriving DecidableEq, Repr

/-- An image in use (R443, R448, R469). -/
structure Running where
  svn : Nat := 0
  keyIndex : Nat := 0
  mldsa : Bool := false
  deriving DecidableEq, Repr

/-- How far boot has come (R445). -/
structure BootRun where
  /-- The step of R445 that runs: 1 self-test, 3 loader, 4 images, 5 objects, 7 engines, 0 none. -/
  step : Nat := 0
  copy : Nat := 0
  /-- The other copy has failed. -/
  fallback : Bool := false
  deriving DecidableEq, Repr

/-- The root of trust beside its objects (16_security). -/
structure Security where
  /-- Open SPDM sessions by number; reset none. -/
  sessions : Table Session := []
  /-- Number of the next session (the model's own). -/
  nextSession : Nat := 0
  /-- Keys by context; reset none. -/
  keys : Table ContextKeys := []
  /-- The context 0 key, drawn at boot (R442, R445); reset none. -/
  serviceKey : Option Nat := none
  /-- A customer chain is installed in certificate slot 1 (R451); reset none. -/
  customerChain : Bool := false
  /-- IDE streams in secure state (R462): the link's, and selective ones by function. -/
  ideLink : Bool := false
  ideSelective : List Nat := []
  /-- Sealed-window slots by function * 128 + slot (19 R537); reset EMPTY. -/
  seals : Table SealSlot := []
  /-- DEBUG_STATE UNLOCKED (R448, R466); reset LOCKED. -/
  unlocked : Bool := false
  /-- Whether the JTAG instruction register holds one of EXTEST, CLAMP, HIGHZ and INTEST (R466, R467). -/
  jtagDrives : Bool := false
  boot : BootRun := {}
  /-- The images in use by kind - 1 (R443). -/
  images : Table Running := []
  deriving DecidableEq, Repr

/-- One boot header (19_pins_and_interfaces R541). -/
structure BootHeader where
  seq : Nat := 0
  /-- 0 A, 1 B. -/
  preferred : Nat := 0
  /-- Eight flash offsets, entry 4 * copy + kind - 1. -/
  manifestOff : List Nat := []
  /-- MAGIC and CRC are right. -/
  valid : Bool := false
  deriving DecidableEq, Repr

/-- The QSPI flash (17_object_dictionary R475, 19 R541). (DESIGN CHOICE, notes/assumptions/113.) -/
structure Flash where
  /-- The flash object store by object key (R475); reset empty. -/
  store : Table (List Nat) := []
  /-- FLASH_RESTORE_DEFAULTS awaits the next reset (17 R496). -/
  restore : Bool := false
  /-- The two copies of the boot header (19 R541). -/
  header0 : BootHeader := {}
  header1 : BootHeader := {}
  /-- Images known to be genuine, bit 4 * copy + kind - 1 (17 R495). -/
  genuine : Nat := 0
  /-- Bytes of the images written by firmware updates, manifest and image together, by 4 * copy + kind - 1 (17 R495, 19 R542);
  0 where not listed. -/
  lengths : Table Nat := []
  /-- Last object whose flash write failed (17 R496); reset 0xFFFF. -/
  lastFailed : Nat := 0xFFFF
  deriving DecidableEq, Repr

/-- An open segmented transfer (17_object_dictionary R480). -/
structure Transfer where
  /-- Its requester. -/
  who : Who
  write : Bool
  /-- The header of its initiation. -/
  header : Nat
  /-- Value bytes in all; of a write those that have come, of a read those still to be sent. -/
  total : Nat
  data : Bytes := []
  /-- The toggle that the next segment carries. -/
  toggle : Bool := false
  deriving DecidableEq, Repr

/-- The last request frame of a requester and its response (R482). -/
structure Kept where
  request : Bytes
  header : Nat
  data : Bytes := []
  /-- The action still runs (R481). -/
  pending : Bool := false
  deriving DecidableEq, Repr

/-- The mailbox window of a function (R485). -/
structure Mailbox where
  /-- REQ_HEADER and REQ_DATA as submitted. -/
  request : Bytes := []
  /-- RSP_HEADER and RSP_DATA; reset 0. -/
  header : Nat := 0
  data : Bytes := []
  /-- MBX_IRQ; reset 0x7FF. -/
  irq : Nat := 0x7FF
  ready : Bool := false
  busy : Bool := false
  overrun : Bool := false
  deriving DecidableEq, Repr

/-- The dictionary beside its objects (17_object_dictionary). -/
structure Dict where
  /-- Open transfers and kept frames by requester number; reset none. -/
  transfers : Table Transfer := []
  kept : Table Kept := []
  /-- The last transfer of a requester that was closed under it: its TRANSFER_ID and the code its next frame meets (R483,
  R489). -/
  closed : Table (Nat × Nat) := []
  mailboxes : Table Mailbox := []
  /-- Copies of the objects held for each requester, by requester number * 2^24 + object key (R486). -/
  copies : Table (List Nat) := []
  /-- Bytes that the update in progress announced (R495). -/
  updateLength : Nat := 0
  /-- Requester whose FW_UPDATE FINISH runs (R481, R495). -/
  updater : Option Nat := none
  deriving DecidableEq, Repr

/-- Clocks, rails and throttling beside their objects (18_clocks_power_reset). -/
structure Power where
  /-- SYS_RESET_N, PERST_N and THERM_N are low (R519, R522); reset not. -/
  sysReset : Bool := false
  perst : Bool := false
  therm : Bool := false
  /-- Edges are present on REFCLK (R502). -/
  edges : Bool := false
  /-- The qualification count runs, or has ended and the PLLs are starting (R502). -/
  counting : Bool := false
  /-- An orderly power-down has begun (R521). -/
  down : Bool := false
  /-- The device's cap ceiling in MHz, its duty in sixteenths, and the ticks in a row below 98% of the cap (R515). -/
  capMHz : Nat := 2100
  capDuty : Nat := 16
  below : Nat := 0
  unreachable : Bool := false
  /-- Thermal and current ceilings in MHz by die (R516, R518); 2,100 where not listed. -/
  thermal : Table Nat := []
  current : Table Nat := []
  /-- Dies whose hottest sensor is past the throttle point, and the I/O die past its own (R518). -/
  hot : List Nat := []
  iodHot : Bool := false
  /-- Refresh doubled and bandwidth halved, by stack: 0 neither, 1 the first, 2 both (R518); 0 where not listed. -/
  stackHot : Table Nat := []
  /-- Sensors at or above their trip point at the last sample (R519). -/
  tripping : List Nat := []
  /-- Dies in an overcurrent hold (R516). -/
  hold : List Nat := []
  /-- Confirmed core voltage in mV by die, 750 where not listed, and the voltage written and not yet confirmed (R511, R512). -/
  volts : Table Nat := []
  asked : Table Nat := []
  /-- Quads that have switched since the last tick (R506). -/
  switched : List Nat := []
  deriving DecidableEq, Repr

/-- An entry of the trace buffer (19_pins_and_interfaces R549): indices, statuses and times, never data. -/
inductive TraceEntry where
  | slotStart (ctx slot beat : Nat)
  | slotEnd (ctx slot beat : Nat)
  | completion (ctx slot facet status : Nat)
  | error (code seq : Nat)
  | trigger (source edge beat : Nat)
  deriving DecidableEq, Repr

/-- The trace buffer (19 R549). Its holder, FREEZE_AFTER and frozen state are TRACE_CONFIG. -/
structure Trace where
  /-- Newest last, at most 32,768 entries of 32 bytes; reset empty. -/
  entries : List TraceEntry := []
  /-- Entries still to come before the buffer is frozen: none while no event has come, 0 when frozen. -/
  countdown : Option Nat := none
  /-- A write has made FAULT the holder, so TRIGGER, which ranks lower, is refused (R549, R547). -/
  claimed : Bool := false
  deriving DecidableEq, Repr

/-- Who holds a cadence timer (R548): an AUXIO pin's function, or an internal trigger. -/
inductive TimerHolder where
  | pin (p : Nat)
  | internal (i : Nat)
  deriving DecidableEq, Repr

/-- Pins and interfaces beside their objects (19_pins_and_interfaces). -/
structure Pins where
  trace : Trace := {}
  /-- AUXIO pins whose FAULT_OUT is asserted, in the always-on domain (R546); reset none. -/
  faultOut : List Nat := []
  /-- PCIe functions in D3hot (R536); reset none. -/
  d3hot : List Nat := []
  /-- Timers T0-T7 that are held (R548); reset none. -/
  timers : Table TimerHolder := []
  deriving DecidableEq, Repr

/-- A due maintenance unit (20_maintenance_and_telemetry R555, R559). -/
structure MaintUnit where
  activity : Nat
  resource : Nat
  dueBeat : Nat
  /-- Record 0x034 has been written for it (R560). -/
  overdue : Bool := false
  deriving DecidableEq, Repr

/-- A unit that runs (R554). -/
structure MaintRun where
  activity : Nat
  resource : Nat
  startBeat : Nat
  startNs : Nat
  deriving DecidableEq, Repr

/-- The maintenance arbiter beside its objects (20 R553-R561). (DESIGN CHOICE, notes/assumptions/109.) -/
structure Maint where
  /-- Units that wait, oldest first. -/
  queue : List MaintUnit := []
  running : List MaintRun := []
  /-- MAINT_HISTORY: the last 256 entries of 128 bits, oldest first (R561). -/
  history : List Nat := []
  /-- Open windows: context * 65536 + slot index (R553). -/
  windows : List Nat := []
  /-- Recalibrations of each stack that have failed in a row (R558). -/
  recalFails : Table Nat := []
  /-- Units that have ended DONE and FAILED since the device reset, by activity (R565 type 10). -/
  done : Table Nat := []
  failed : Table Nat := []
  deriving DecidableEq, Repr

/-- Why the block stops with a fault. -/
inductive Fault where
  /-- No command raises it: the device itself answers an access outside an address space, with a status, a record or an abort
  code. -/
  | addressSpace
  deriving DecidableEq, Repr

/-- Why a command has no meaning. -/
inductive Refusal where
  /-- Raised by an arm of the dispatch that has no meaning: safe. -/
  | notModelled (mnemonic : String)
  /-- Raised for an access to the vendor test range, whose contents the manual does not publish (17 R494): safe. -/
  | vendorTestRange
  deriving DecidableEq, Repr

/-- The state of the device. (DESIGN CHOICE, notes/assumptions/5.) -/
structure State where
  /-- The commands waiting, first in, first out (the model's own). -/
  pending : List Instr := []
  /-- How many free values have been taken (the model's own). -/
  freeCtr : Nat := 0
  /-- The registers of the object dictionary by key index * 256 + sub, each a list of its fields; an object that is not
  listed holds its default (17 R470-R475). -/
  objs : Table (List Nat) := []
  cad : Cadence := {}
  plans : Table Plan := []
  items : Table Item := []
  nextItem : Nat := 0
  hbm : Hbm := {}
  fm : FacetMem := {}
  queues : Table Queue := []
  summary : Table (List Place) := []
  pools : Table Pool := []
  log : ErrLog := {}
  rcv : Recovery := {}
  sec : Security := {}
  dict : Dict := {}
  power : Power := {}
  flash : Flash := {}
  maint : Maint := {}
  /-- Written values that await the next beat, the context's next step, or the next device reset, by object key (17 R473):
  the whole value as it will stand; reset none. -/
  waitBeat : Table (List Nat) := []
  waitStep : Table (List Nat) := []
  waitReset : Table (List Nat) := []
  pins : Pins := {}
  facets : Table Facet := []
  spokes : Table Spoke := []
  hup : Hupatas := {}
  fab : Fabric := {}
  /-- Maps whose commit is pending, by context (10_lattices_and_mapping R290). -/
  maps : Table (List Nat) := []
  router : Router := {}
  outgoing : List Outgoing := []
  coll : Coll := {}
  /-- How many slots have started on the device (the model's own order of starts, 12 R347). -/
  slotSerial : Nat := 0
  /-- What has left the device, oldest first (the model's own). -/
  out : List Emit := []
  deriving DecidableEq, Repr

/-- Objects whose value at reset is not their type's default: context 0 holds the first 64 units of HBM (HBM_REGION, 13 R356,
R374), its fabric addresses are physical (FABRIC_ADDR_MODE, 12 R349), and it reads KEYED (CONTEXT_KEY_STATE, 16 R454). -/
def resetObjs : Table (List Nat) := [(0x400100, [0, 64]), (0x430000, [1]), (0x801500, [2])]

/-- The device right after reset: every field at the value written beside it. -/
def State.reset : State := { objs := resetObjs }

end Sys2Proof.Machine
end

