-- ==== Sys2Proof/Machine/Flags.lean ====
section
/-! DEFINITION. Sys2Proof/Machine/Flags.lean: completion statuses, their order, and the outcome codes. -/

namespace Sys2Proof.Machine

/-- The code of a status (14_queues_and_pools R387). -/
def Status.code : Status → Nat
  | .ok => 0 | .okZeroWork => 1 | .droppedLate => 2 | .cancelled => 3 | .failedPeerReset => 4
  | .failedContextReset => 5 | .failedUncorrectable => 6 | .failedTimeout => 7 | .failedQuota => 8
  | .failedProtection => 9 | .scaleExhausted => 10

/-- The place of a status in the order of 04_matrix_engine R135: the lowest is reported. -/
def Status.rank : Status → Nat
  | .failedContextReset => 1 | .cancelled => 2 | .failedPeerReset => 3 | .failedTimeout => 4
  | .failedProtection => 5 | .failedUncorrectable => 6 | .failedQuota => 7 | .scaleExhausted => 8
  | .droppedLate => 9 | .okZeroWork => 10 | .ok => 11

/-- The first of two statuses in the order of R135. -/
def Status.first (a b : Status) : Status := if a.rank ≤ b.rank then a else b

/-- The status an item reports when these apply (R135). -/
def Status.report (l : List Status) : Status := l.foldl Status.first .ok

/-- The OUTCOME field of a completion (14 R386). -/
def FabOutcome.code : FabOutcome → Nat
  | .notApplied => 0 | .applied => 1 | .unknown => 2

end Sys2Proof.Machine
end

