-- ==== Sys2Proof/Machine/Objects.lean ====
section
/-! DEFINITION. Sys2Proof/Machine/Objects.lean: the object dictionary's tables (17_object_dictionary R470-R476 and the
object table that closes each chapter of spec/), one definition for each object.
(DESIGN CHOICE, notes/assumptions/4.)
(DESIGN CHOICE, notes/assumptions/138.) -/

namespace Sys2Proof.Machine

/-- The types of an object (17_object_dictionary R471). -/
inductive ObjType where
  | u8 | u16 | u32 | u64 | i32 | f32 | bool | octets | string | record | array
  deriving DecidableEq, Repr

/-- The type code of R471, as an INFO word carries it. -/
def ObjType.code : ObjType → Nat
  | .u8 => 0x01 | .u16 => 0x02 | .u32 => 0x03 | .u64 => 0x04 | .i32 => 0x05 | .f32 => 0x06
  | .bool => 0x07 | .octets => 0x08 | .string => 0x09 | .record => 0x0A | .array => 0x0B

/-- Access of one role to an object (17_object_dictionary R472). -/
inductive Access where
  | none | const | ro | rw | wo
  deriving DecidableEq, Repr

/-- The access code of the information word (R478). -/
def Access.code : Access → Nat
  | .none => 0 | .const => 1 | .ro => 2 | .rw => 3 | .wo => 4

/-- When a written value takes effect (17_object_dictionary R473). -/
inductive Apply where
  | immediate | nextBeat | nextStep | nextReset
  deriving DecidableEq, Repr

/-- The apply code of the information word (R478). -/
def Apply.code : Apply → Nat
  | .immediate => 0 | .nextBeat => 1 | .nextStep => 2 | .nextReset => 3

/-- One row of an object table: where the object lies, its type, the widths in bytes of the fields of one element,
how many elements it has, the fields of its default (fields beyond the list hold `fill`), who may reach it, when a
write takes effect, whether it is held in flash, whether slot 5 measures it (R476) and whether each dictionary
requester has a copy of its own (R486). -/
structure ObjDef where
  name : String
  index : Nat
  lo : Nat
  hi : Nat
  ty : ObjType
  elem : List Nat
  count : Nat
  dflt : List Nat := []
  fill : Nat := 0
  access : Access × Access × Access × Access
  apply : Apply := .immediate
  flash : Bool := false
  measured : Bool := false
  perRequester : Bool := false
  deriving DecidableEq, Repr

/-- The key of instance `sub` of an object in the register table; a sub-index has 8 bits (17_object_dictionary R470).
(DESIGN CHOICE, notes/assumptions/135.) -/
def ObjDef.key (o : ObjDef) (sub : Nat) : Nat := o.index * 256 + sub % 256

/-- How many fields a value of the object has. -/
def ObjDef.fields (o : ObjDef) : Nat := o.elem.length * o.count

/-- Size of the whole value in bytes (R471: no padding). -/
def ObjDef.size (o : ObjDef) : Nat := o.elem.sum * o.count

/-- The default of field `i`. -/
def ObjDef.defaultField (o : ObjDef) (i : Nat) : Nat := o.dflt.getD i o.fill

/-- The whole default value. -/
def ObjDef.default (o : ObjDef) : List Nat := (List.range o.fields).map o.defaultField

namespace Obj

/-- `PART_NUMBER` 0x1000:01 (00_scope R2). -/
def PART_NUMBER : ObjDef :=
  { name := "PART_NUMBER", index := 0x1000, lo := 0x01, hi := 0x01, ty := .string, elem := [1], count := 8, dflt := [75, 83, 76, 45, 57, 48, 50, 48],
    access := (.const, .const, .const, .const), apply := .immediate }

/-- `PART_VARIANT` 0x1000:02 (00_scope R2). -/
def PART_VARIANT : ObjDef :=
  { name := "PART_VARIANT", index := 0x1000, lo := 0x02, hi := 0x02, ty := .u8, elem := [1], count := 1,
    access := (.const, .const, .const, .const), apply := .immediate }

/-- `STEPPING` 0x1000:03 (00_scope R2). -/
def STEPPING : ObjDef :=
  { name := "STEPPING", index := 0x1000, lo := 0x03, hi := 0x03, ty := .u8, elem := [1], count := 1,
    access := (.const, .const, .const, .const), apply := .immediate }

/-- `SERIAL_NUMBER` 0x1000:04 (17_object_dictionary R496). -/
def SERIAL_NUMBER : ObjDef :=
  { name := "SERIAL_NUMBER", index := 0x1000, lo := 0x04, hi := 0x04, ty := .string, elem := [1], count := 16,
    access := (.const, .const, .const, .const), apply := .immediate }

/-- `DICT_VERSION` 0x1000:05 (17_object_dictionary R496). -/
def DICT_VERSION : ObjDef :=
  { name := "DICT_VERSION", index := 0x1000, lo := 0x05, hi := 0x05, ty := .u16, elem := [2], count := 1, dflt := [256],
    access := (.const, .const, .const, .const), apply := .immediate }

/-- `DEVICE_STATE` 0x1001:00 (17_object_dictionary R496). -/
def DEVICE_STATE : ObjDef :=
  { name := "DEVICE_STATE", index := 0x1001, lo := 0x00, hi := 0x00, ty := .u8, elem := [1], count := 1,
    access := (.ro, .ro, .ro, .ro), apply := .immediate }

/-- `DEVICE_STATE_INFO` 0x1002:00 (17_object_dictionary R496). -/
def DEVICE_STATE_INFO : ObjDef :=
  { name := "DEVICE_STATE_INFO", index := 0x1002, lo := 0x00, hi := 0x00, ty := .record, elem := [1, 1, 1, 1, 4, 4], count := 1,
    access := (.ro, .ro, .ro, .ro), apply := .immediate }

/-- `UPTIME_MS` 0x1003:00 (17_object_dictionary R496). -/
def UPTIME_MS : ObjDef :=
  { name := "UPTIME_MS", index := 0x1003, lo := 0x00, hi := 0x00, ty := .u64, elem := [8], count := 1,
    access := (.ro, .ro, .ro, .ro), apply := .immediate }

/-- `DICT_STATS` 0x1010:00 (17_object_dictionary R496). -/
def DICT_STATS : ObjDef :=
  { name := "DICT_STATS", index := 0x1010, lo := 0x00, hi := 0x00, ty := .record, elem := [8, 8, 8, 8, 8, 1], count := 1,
    access := (.ro, .none, .ro, .ro), apply := .immediate }

/-- `FW_UPDATE_CONTROL` 0x1020:00 (17_object_dictionary R496). -/
def FW_UPDATE_CONTROL : ObjDef :=
  { name := "FW_UPDATE_CONTROL", index := 0x1020, lo := 0x00, hi := 0x00, ty := .record, elem := [1, 1, 1, 4], count := 1,
    access := (.wo, .none, .wo, .none), apply := .immediate }

/-- `FW_UPDATE_DATA` 0x1021:00 (17_object_dictionary R496). -/
def FW_UPDATE_DATA : ObjDef :=
  { name := "FW_UPDATE_DATA", index := 0x1021, lo := 0x00, hi := 0x00, ty := .octets, elem := [1], count := 4096,
    access := (.wo, .none, .wo, .none), apply := .immediate }

/-- `FW_UPDATE_STATUS` 0x1022:00 (17_object_dictionary R496). -/
def FW_UPDATE_STATUS : ObjDef :=
  { name := "FW_UPDATE_STATUS", index := 0x1022, lo := 0x00, hi := 0x00, ty := .record, elem := [1, 1, 1, 4, 1, 1, 1], count := 1,
    access := (.ro, .none, .ro, .ro), apply := .immediate }

/-- `FLASH_STORE_INFO` 0x1030:00 (17_object_dictionary R496). -/
def FLASH_STORE_INFO : ObjDef :=
  { name := "FLASH_STORE_INFO", index := 0x1030, lo := 0x00, hi := 0x00, ty := .record, elem := [2, 4, 4, 4, 2], count := 1,
    access := (.ro, .none, .ro, .ro), apply := .immediate }

/-- `FLASH_RESTORE_DEFAULTS` 0x1031:00 (17_object_dictionary R496). -/
def FLASH_RESTORE_DEFAULTS : ObjDef :=
  { name := "FLASH_RESTORE_DEFAULTS", index := 0x1031, lo := 0x00, hi := 0x00, ty := .u8, elem := [1], count := 1,
    access := (.none, .none, .wo, .none), apply := .nextReset }

/-- `REFQ_SEL` 0x2001:00 (18_clocks_power_reset R527). -/
def REFQ_SEL : ObjDef :=
  { name := "REFQ_SEL", index := 0x2001, lo := 0x00, hi := 0x00, ty := .u8, elem := [1], count := 1,
    access := (.ro, .ro, .ro, .ro), apply := .immediate }

/-- `REF_STATUS` 0x2002:00 (18_clocks_power_reset R527). -/
def REF_STATUS : ObjDef :=
  { name := "REF_STATUS", index := 0x2002, lo := 0x00, hi := 0x00, ty := .record, elem := [4, 4], count := 1,
    access := (.ro, .none, .ro, .ro), apply := .immediate }

/-- `PLL_STATUS` 0x2003:00–28 (18_clocks_power_reset R527). -/
def PLL_STATUS : ObjDef :=
  { name := "PLL_STATUS", index := 0x2003, lo := 0x00, hi := 0x28, ty := .u8, elem := [1], count := 1,
    access := (.ro, .none, .ro, .ro), apply := .immediate }

/-- `CLOCK_DOMAIN_INFO` 0x2004:00–7F (18_clocks_power_reset R527). -/
def CLOCK_DOMAIN_INFO : ObjDef :=
  { name := "CLOCK_DOMAIN_INFO", index := 0x2004, lo := 0x00, hi := 0x7F, ty := .record, elem := [1, 1, 4, 1, 8], count := 1,
    access := (.ro, .none, .ro, .ro), apply := .immediate }

/-- `CLKOBS` 0x2005:00 (18_clocks_power_reset R527). -/
def CLKOBS : ObjDef :=
  { name := "CLKOBS", index := 0x2005, lo := 0x00, hi := 0x00, ty := .record, elem := [1, 1, 1, 1], count := 1,
    access := (.rw, .none, .rw, .ro), apply := .immediate }

/-- `FACET_CLOCK_LIMIT_MHZ` 0x2010:00 (18_clocks_power_reset R527). -/
def FACET_CLOCK_LIMIT_MHZ : ObjDef :=
  { name := "FACET_CLOCK_LIMIT_MHZ", index := 0x2010, lo := 0x00, hi := 0x00, ty := .u16, elem := [2], count := 1, dflt := [1900],
    access := (.rw, .ro, .rw, .ro), apply := .immediate }

/-- `FACET_CLOCK_NOW` 0x2011:00–01 (18_clocks_power_reset R527). -/
def FACET_CLOCK_NOW : ObjDef :=
  { name := "FACET_CLOCK_NOW", index := 0x2011, lo := 0x00, hi := 0x01, ty := .record, elem := [2, 1], count := 1,
    access := (.ro, .ro, .ro, .ro), apply := .immediate }

/-- `AVS_STATUS` 0x2012:00–01 (18_clocks_power_reset R527). -/
def AVS_STATUS : ObjDef :=
  { name := "AVS_STATUS", index := 0x2012, lo := 0x00, hi := 0x01, ty := .record, elem := [2, 2, 1, 4], count := 1,
    access := (.ro, .none, .ro, .ro), apply := .immediate }

/-- `POWER_CAP_W` 0x2020:00 (18_clocks_power_reset R527). -/
def POWER_CAP_W : ObjDef :=
  { name := "POWER_CAP_W", index := 0x2020, lo := 0x00, hi := 0x00, ty := .u16, elem := [2], count := 1, dflt := [2000],
    access := (.rw, .ro, .rw, .ro), apply := .immediate }

/-- `POWER_NOW` 0x2021:00 (18_clocks_power_reset R527). -/
def POWER_NOW : ObjDef :=
  { name := "POWER_NOW", index := 0x2021, lo := 0x00, hi := 0x00, ty := .record, elem := [2, 2, 2], count := 1,
    access := (.ro, .ro, .ro, .ro), apply := .immediate }

/-- `RAIL_STATUS` 0x2022:00 (18_clocks_power_reset R527). -/
def RAIL_STATUS : ObjDef :=
  { name := "RAIL_STATUS", index := 0x2022, lo := 0x00, hi := 0x00, ty := .array, elem := [2, 4], count := 12,
    access := (.ro, .none, .ro, .ro), apply := .immediate }

/-- `THROTTLE_STATUS` 0x2023:00 (18_clocks_power_reset R527). -/
def THROTTLE_STATUS : ObjDef :=
  { name := "THROTTLE_STATUS", index := 0x2023, lo := 0x00, hi := 0x00, ty := .record, elem := [1, 2, 2, 8], count := 1,
    access := (.ro, .ro, .ro, .ro), apply := .immediate }

/-- `THERMAL_NOW` 0x2024:00 (18_clocks_power_reset R527). -/
def THERMAL_NOW : ObjDef :=
  { name := "THERMAL_NOW", index := 0x2024, lo := 0x00, hi := 0x00, ty := .array, elem := [4], count := 11,
    access := (.ro, .ro, .ro, .ro), apply := .immediate }

/-- `THERMAL_THROTTLE_C` 0x2025:00 (18_clocks_power_reset R527). -/
def THERMAL_THROTTLE_C : ObjDef :=
  { name := "THERMAL_THROTTLE_C", index := 0x2025, lo := 0x00, hi := 0x00, ty := .u8, elem := [1], count := 1, dflt := [100],
    access := (.ro, .none, .rw, .ro), apply := .immediate }

/-- `THERMAL_TRIP_COUNT` 0x2026:00 (18_clocks_power_reset R527). -/
def THERMAL_TRIP_COUNT : ObjDef :=
  { name := "THERMAL_TRIP_COUNT", index := 0x2026, lo := 0x00, hi := 0x00, ty := .u32, elem := [4], count := 1,
    access := (.ro, .none, .ro, .ro), apply := .immediate }

/-- `PERST_SCOPE` 0x2030:00 (18_clocks_power_reset R527). -/
def PERST_SCOPE : ObjDef :=
  { name := "PERST_SCOPE", index := 0x2030, lo := 0x00, hi := 0x00, ty := .u8, elem := [1], count := 1,
    access := (.ro, .none, .rw, .ro), apply := .nextReset, flash := true, measured := true }

/-- `BEAT_PERIOD_NS` 0x3001:00 (02_beat_and_time R73). -/
def BEAT_PERIOD_NS : ObjDef :=
  { name := "BEAT_PERIOD_NS", index := 0x3001, lo := 0x00, hi := 0x00, ty := .u32, elem := [4], count := 1, dflt := [40000],
    access := (.rw, .ro, .rw, .ro), apply := .immediate }

/-- `BEAT_COUNT` 0x3002:00 (02_beat_and_time R73). -/
def BEAT_COUNT : ObjDef :=
  { name := "BEAT_COUNT", index := 0x3002, lo := 0x00, hi := 0x00, ty := .u64, elem := [8], count := 1,
    access := (.ro, .ro, .ro, .ro), apply := .immediate }

/-- `CADENCE_STATE` 0x3003:00 (02_beat_and_time R73). -/
def CADENCE_STATE : ObjDef :=
  { name := "CADENCE_STATE", index := 0x3003, lo := 0x00, hi := 0x00, ty := .u8, elem := [1], count := 1,
    access := (.ro, .ro, .ro, .ro), apply := .immediate }

/-- `BEAT_MASTER_PRIORITY` 0x3004:00 (02_beat_and_time R73). -/
def BEAT_MASTER_PRIORITY : ObjDef :=
  { name := "BEAT_MASTER_PRIORITY", index := 0x3004, lo := 0x00, hi := 0x00, ty := .u8, elem := [1], count := 1,
    access := (.rw, .ro, .rw, .ro), apply := .immediate }

/-- `BEAT_MASTER_NODE` 0x3005:00 (02_beat_and_time R73). -/
def BEAT_MASTER_NODE : ObjDef :=
  { name := "BEAT_MASTER_NODE", index := 0x3005, lo := 0x00, hi := 0x00, ty := .u16, elem := [2], count := 1,
    access := (.ro, .ro, .ro, .ro), apply := .immediate }

/-- `BEAT_OFFSET_NS` 0x3006:00 (02_beat_and_time R73). -/
def BEAT_OFFSET_NS : ObjDef :=
  { name := "BEAT_OFFSET_NS", index := 0x3006, lo := 0x00, hi := 0x00, ty := .i32, elem := [4], count := 1,
    access := (.ro, .ro, .ro, .ro), apply := .immediate }

/-- `BEAT_UPSTREAM_SPOKE` 0x3007:00 (02_beat_and_time R73). -/
def BEAT_UPSTREAM_SPOKE : ObjDef :=
  { name := "BEAT_UPSTREAM_SPOKE", index := 0x3007, lo := 0x00, hi := 0x00, ty := .u8, elem := [1], count := 1, dflt := [255],
    access := (.ro, .ro, .ro, .ro), apply := .immediate }

/-- `BEAT_EPOCH_START_SEC` 0x3008:00 (02_beat_and_time R73). -/
def BEAT_EPOCH_START_SEC : ObjDef :=
  { name := "BEAT_EPOCH_START_SEC", index := 0x3008, lo := 0x00, hi := 0x00, ty := .u64, elem := [8], count := 1,
    access := (.rw, .ro, .rw, .ro), apply := .immediate }

/-- `BEAT_ALIGN_LIMIT_NS` 0x3009:00 (02_beat_and_time R73). -/
def BEAT_ALIGN_LIMIT_NS : ObjDef :=
  { name := "BEAT_ALIGN_LIMIT_NS", index := 0x3009, lo := 0x00, hi := 0x00, ty := .u16, elem := [2], count := 1, dflt := [1000],
    access := (.rw, .ro, .rw, .ro), apply := .immediate }

/-- `TIME_NOW` 0x3010:00 (02_beat_and_time R73). -/
def TIME_NOW : ObjDef :=
  { name := "TIME_NOW", index := 0x3010, lo := 0x00, hi := 0x00, ty := .record, elem := [8, 4], count := 1,
    access := (.ro, .ro, .ro, .ro), apply := .immediate }

/-- `TIME_SECONDS_NEXT` 0x3011:00 (02_beat_and_time R73). -/
def TIME_SECONDS_NEXT : ObjDef :=
  { name := "TIME_SECONDS_NEXT", index := 0x3011, lo := 0x00, hi := 0x00, ty := .u64, elem := [8], count := 1,
    access := (.wo, .none, .wo, .none), apply := .immediate }

/-- `TIME_STATE` 0x3012:00 (02_beat_and_time R73). -/
def TIME_STATE : ObjDef :=
  { name := "TIME_STATE", index := 0x3012, lo := 0x00, hi := 0x00, ty := .u8, elem := [1], count := 1,
    access := (.ro, .ro, .ro, .ro), apply := .immediate }

/-- `PPS_OFFSET_NS` 0x3013:00 (02_beat_and_time R73). -/
def PPS_OFFSET_NS : ObjDef :=
  { name := "PPS_OFFSET_NS", index := 0x3013, lo := 0x00, hi := 0x00, ty := .i32, elem := [4], count := 1,
    access := (.ro, .ro, .ro, .ro), apply := .immediate }

/-- `PPS_DELAY_NS` 0x3014:00 (02_beat_and_time R73). -/
def PPS_DELAY_NS : ObjDef :=
  { name := "PPS_DELAY_NS", index := 0x3014, lo := 0x00, hi := 0x00, ty := .u16, elem := [2], count := 1,
    access := (.rw, .ro, .rw, .ro), apply := .immediate }

/-- `LATE_POLICY` 0x3020:00–0F (02_beat_and_time R73). -/
def LATE_POLICY : ObjDef :=
  { name := "LATE_POLICY", index := 0x3020, lo := 0x00, hi := 0x0F, ty := .u8, elem := [1], count := 1,
    access := (.rw, .rw, .ro, .ro), apply := .nextStep }

/-- `LATE_TIMEOUT_MS` 0x3021:00–0F (02_beat_and_time R73). -/
def LATE_TIMEOUT_MS : ObjDef :=
  { name := "LATE_TIMEOUT_MS", index := 0x3021, lo := 0x00, hi := 0x0F, ty := .u32, elem := [4], count := 1, dflt := [100],
    access := (.rw, .rw, .ro, .ro), apply := .nextStep }

/-- `REPLAY_MODE` 0x3022:00–0F (02_beat_and_time R73). -/
def REPLAY_MODE : ObjDef :=
  { name := "REPLAY_MODE", index := 0x3022, lo := 0x00, hi := 0x0F, ty := .bool, elem := [1], count := 1,
    access := (.rw, .rw, .ro, .ro), apply := .nextStep }

/-- `DROP_LEDGER_ADDR` 0x3023:00–0F (02_beat_and_time R73). -/
def DROP_LEDGER_ADDR : ObjDef :=
  { name := "DROP_LEDGER_ADDR", index := 0x3023, lo := 0x00, hi := 0x0F, ty := .u64, elem := [8], count := 1,
    access := (.rw, .rw, .ro, .ro), apply := .nextStep }

/-- `DROP_LEDGER_ENTRIES` 0x3024:00–0F (02_beat_and_time R73). -/
def DROP_LEDGER_ENTRIES : ObjDef :=
  { name := "DROP_LEDGER_ENTRIES", index := 0x3024, lo := 0x00, hi := 0x0F, ty := .u32, elem := [4], count := 1, dflt := [4096],
    access := (.rw, .rw, .ro, .ro), apply := .nextStep }

/-- `PLAN_ADDR` 0x3025:00–0F (02_beat_and_time R73). -/
def PLAN_ADDR : ObjDef :=
  { name := "PLAN_ADDR", index := 0x3025, lo := 0x00, hi := 0x0F, ty := .u64, elem := [8], count := 1,
    access := (.rw, .rw, .ro, .ro), apply := .immediate }

/-- `PLAN_START_BEAT` 0x3026:00–0F (02_beat_and_time R73). -/
def PLAN_START_BEAT : ObjDef :=
  { name := "PLAN_START_BEAT", index := 0x3026, lo := 0x00, hi := 0x0F, ty := .u64, elem := [8], count := 1,
    access := (.rw, .rw, .ro, .ro), apply := .immediate }

/-- `PLAN_CONTROL` 0x3027:00–0F (02_beat_and_time R73). -/
def PLAN_CONTROL : ObjDef :=
  { name := "PLAN_CONTROL", index := 0x3027, lo := 0x00, hi := 0x0F, ty := .u8, elem := [1], count := 1,
    access := (.wo, .wo, .none, .none), apply := .immediate }

/-- `PLAN_STATE` 0x3028:00–0F (02_beat_and_time R73). -/
def PLAN_STATE : ObjDef :=
  { name := "PLAN_STATE", index := 0x3028, lo := 0x00, hi := 0x0F, ty := .u8, elem := [1], count := 1,
    access := (.ro, .ro, .ro, .ro), apply := .immediate }

/-- `STEP_NUMBER` 0x3029:00–0F (02_beat_and_time R73). -/
def STEP_NUMBER : ObjDef :=
  { name := "STEP_NUMBER", index := 0x3029, lo := 0x00, hi := 0x0F, ty := .u32, elem := [4], count := 1,
    access := (.ro, .ro, .ro, .ro), apply := .immediate }

/-- `PLAN_SLIP_BEATS` 0x302A:00–0F (02_beat_and_time R73). -/
def PLAN_SLIP_BEATS : ObjDef :=
  { name := "PLAN_SLIP_BEATS", index := 0x302A, lo := 0x00, hi := 0x0F, ty := .u32, elem := [4], count := 1,
    access := (.ro, .ro, .ro, .ro), apply := .immediate }

/-- `PLAN_STATUS_QUEUE` 0x302B:00–0F (02_beat_and_time R73). -/
def PLAN_STATUS_QUEUE : ObjDef :=
  { name := "PLAN_STATUS_QUEUE", index := 0x302B, lo := 0x00, hi := 0x0F, ty := .u16, elem := [2], count := 1,
    access := (.rw, .rw, .ro, .ro), apply := .nextStep }

/-- `PLAN_FIRST_STEP` 0x302C:00–0F (02_beat_and_time R73). -/
def PLAN_FIRST_STEP : ObjDef :=
  { name := "PLAN_FIRST_STEP", index := 0x302C, lo := 0x00, hi := 0x0F, ty := .u32, elem := [4], count := 1,
    access := (.rw, .rw, .ro, .ro), apply := .immediate }

/-- `HBM_REGION` 0x4001:00–0F (13_hbm_and_ecc R374). -/
def HBM_REGION : ObjDef :=
  { name := "HBM_REGION", index := 0x4001, lo := 0x00, hi := 0x0F, ty := .record, elem := [2, 2], count := 1,
    access := (.rw, .ro, .rw, .ro), apply := .immediate }

/-- `HBM_UNIT_WRITTEN` 0x4002:00 (13_hbm_and_ecc R374). -/
def HBM_UNIT_WRITTEN : ObjDef :=
  { name := "HBM_UNIT_WRITTEN", index := 0x4002, lo := 0x00, hi := 0x00, ty := .u16, elem := [2], count := 1,
    access := (.wo, .wo, .none, .none), apply := .immediate }

/-- `HBM_WRITTEN_MAP` 0x4003:00 (13_hbm_and_ecc R374). -/
def HBM_WRITTEN_MAP : ObjDef :=
  { name := "HBM_WRITTEN_MAP", index := 0x4003, lo := 0x00, hi := 0x00, ty := .octets, elem := [1], count := 2861,
    access := (.ro, .ro, .ro, .ro), apply := .immediate }

/-- `HBM_RETIRED_PAGES` 0x4004:00 (13_hbm_and_ecc R374). -/
def HBM_RETIRED_PAGES : ObjDef :=
  { name := "HBM_RETIRED_PAGES", index := 0x4004, lo := 0x00, hi := 0x00, ty := .array, elem := [8], count := 1024, fill := 0xFFFFFFFFFFFFFFFF,
    access := (.rw, .none, .rw, .ro), apply := .immediate, flash := true }

/-- `HBM_CORRECTED_COUNT` 0x4005:00–FF (13_hbm_and_ecc R374). -/
def HBM_CORRECTED_COUNT : ObjDef :=
  { name := "HBM_CORRECTED_COUNT", index := 0x4005, lo := 0x00, hi := 0xFF, ty := .u64, elem := [8], count := 1,
    access := (.ro, .none, .ro, .ro), apply := .immediate }

/-- `HBM_UNCORRECTABLE_COUNT` 0x4006:00–FF (13_hbm_and_ecc R374). -/
def HBM_UNCORRECTABLE_COUNT : ObjDef :=
  { name := "HBM_UNCORRECTABLE_COUNT", index := 0x4006, lo := 0x00, hi := 0xFF, ty := .u64, elem := [8], count := 1,
    access := (.ro, .none, .ro, .ro), apply := .immediate }

/-- `HBM_POISON_READ_COUNT` 0x4007:00–FF (13_hbm_and_ecc R374). -/
def HBM_POISON_READ_COUNT : ObjDef :=
  { name := "HBM_POISON_READ_COUNT", index := 0x4007, lo := 0x00, hi := 0xFF, ty := .u64, elem := [8], count := 1,
    access := (.ro, .none, .ro, .ro), apply := .immediate }

/-- `HBM_ONDIE_CORRECTED_COUNT` 0x4008:00–07 (13_hbm_and_ecc R374). -/
def HBM_ONDIE_CORRECTED_COUNT : ObjDef :=
  { name := "HBM_ONDIE_CORRECTED_COUNT", index := 0x4008, lo := 0x00, hi := 0x07, ty := .u64, elem := [8], count := 1,
    access := (.ro, .none, .ro, .ro), apply := .immediate }

/-- `HBM_MERGE_RMW_COUNT` 0x4009:00–0F (13_hbm_and_ecc R374). -/
def HBM_MERGE_RMW_COUNT : ObjDef :=
  { name := "HBM_MERGE_RMW_COUNT", index := 0x4009, lo := 0x00, hi := 0x0F, ty := .u64, elem := [8], count := 1,
    access := (.ro, .none, .ro, .ro), apply := .immediate }

/-- `HBM_MERGE_FULL_COUNT` 0x400A:00–0F (13_hbm_and_ecc R374). -/
def HBM_MERGE_FULL_COUNT : ObjDef :=
  { name := "HBM_MERGE_FULL_COUNT", index := 0x400A, lo := 0x00, hi := 0x0F, ty := .u64, elem := [8], count := 1,
    access := (.ro, .none, .ro, .ro), apply := .immediate }

/-- `HBM_SCRUB_PASSES` 0x400B:00 (13_hbm_and_ecc R374). -/
def HBM_SCRUB_PASSES : ObjDef :=
  { name := "HBM_SCRUB_PASSES", index := 0x400B, lo := 0x00, hi := 0x00, ty := .u64, elem := [8], count := 1,
    access := (.ro, .none, .ro, .ro), apply := .immediate }

/-- `SRAM_CORRECTED_COUNT` 0x400C:00–0F (13_hbm_and_ecc R374). -/
def SRAM_CORRECTED_COUNT : ObjDef :=
  { name := "SRAM_CORRECTED_COUNT", index := 0x400C, lo := 0x00, hi := 0x0F, ty := .u64, elem := [8], count := 1,
    access := (.ro, .none, .ro, .ro), apply := .immediate }

/-- `SRAM_UNCORRECTABLE_COUNT` 0x400D:00–0F (13_hbm_and_ecc R374). -/
def SRAM_UNCORRECTABLE_COUNT : ObjDef :=
  { name := "SRAM_UNCORRECTABLE_COUNT", index := 0x400D, lo := 0x00, hi := 0x0F, ty := .u64, elem := [8], count := 1,
    access := (.ro, .none, .ro, .ro), apply := .immediate }

/-- `HBM_BYTES` 0x400E:00–07 (13_hbm_and_ecc R374). -/
def HBM_BYTES : ObjDef :=
  { name := "HBM_BYTES", index := 0x400E, lo := 0x00, hi := 0x07, ty := .array, elem := [8], count := 2,
    access := (.ro, .none, .ro, .ro), apply := .immediate }

/-- `ECC_INJECT_ALLOW` 0x4010:00–0F (13_hbm_and_ecc R374). -/
def ECC_INJECT_ALLOW : ObjDef :=
  { name := "ECC_INJECT_ALLOW", index := 0x4010, lo := 0x00, hi := 0x0F, ty := .bool, elem := [1], count := 1,
    access := (.rw, .rw, .ro, .ro), apply := .immediate }

/-- `ECC_FLIP_TARGET` 0x4020:01 (13_hbm_and_ecc R374). -/
def ECC_FLIP_TARGET : ObjDef :=
  { name := "ECC_FLIP_TARGET", index := 0x4020, lo := 0x01, hi := 0x01, ty := .u8, elem := [1], count := 1,
    access := (.rw, .none, .rw, .ro), apply := .immediate }

/-- `ECC_FLIP_FACET` 0x4020:02 (13_hbm_and_ecc R374). -/
def ECC_FLIP_FACET : ObjDef :=
  { name := "ECC_FLIP_FACET", index := 0x4020, lo := 0x02, hi := 0x02, ty := .u8, elem := [1], count := 1,
    access := (.rw, .none, .rw, .ro), apply := .immediate }

/-- `ECC_FLIP_ADDRESS` 0x4020:03 (13_hbm_and_ecc R374). -/
def ECC_FLIP_ADDRESS : ObjDef :=
  { name := "ECC_FLIP_ADDRESS", index := 0x4020, lo := 0x03, hi := 0x03, ty := .u64, elem := [8], count := 1,
    access := (.rw, .none, .rw, .ro), apply := .immediate }

/-- `ECC_FLIP_DATA_MASK` 0x4020:04 (13_hbm_and_ecc R374). -/
def ECC_FLIP_DATA_MASK : ObjDef :=
  { name := "ECC_FLIP_DATA_MASK", index := 0x4020, lo := 0x04, hi := 0x04, ty := .octets, elem := [1], count := 32,
    access := (.rw, .none, .rw, .ro), apply := .immediate }

/-- `ECC_FLIP_CHECK_MASK` 0x4020:05 (13_hbm_and_ecc R374). -/
def ECC_FLIP_CHECK_MASK : ObjDef :=
  { name := "ECC_FLIP_CHECK_MASK", index := 0x4020, lo := 0x05, hi := 0x05, ty := .u32, elem := [4], count := 1,
    access := (.rw, .none, .rw, .ro), apply := .immediate }

/-- `ECC_FLIP_CONTROL` 0x4020:06 (13_hbm_and_ecc R374). -/
def ECC_FLIP_CONTROL : ObjDef :=
  { name := "ECC_FLIP_CONTROL", index := 0x4020, lo := 0x06, hi := 0x06, ty := .u8, elem := [1], count := 1,
    access := (.wo, .none, .wo, .none), apply := .immediate }

/-- `ECC_FLIP_STATUS` 0x4020:07 (13_hbm_and_ecc R374). -/
def ECC_FLIP_STATUS : ObjDef :=
  { name := "ECC_FLIP_STATUS", index := 0x4020, lo := 0x07, hi := 0x07, ty := .u8, elem := [1], count := 1,
    access := (.ro, .ro, .ro, .ro), apply := .immediate }

/-- `SELFTEST_RESULT` 0x4030:00 (13_hbm_and_ecc R374). -/
def SELFTEST_RESULT : ObjDef :=
  { name := "SELFTEST_RESULT", index := 0x4030, lo := 0x00, hi := 0x00, ty := .record, elem := [1, 24, 4, 2, 1, 4], count := 1,
    access := (.ro, .ro, .ro, .ro), apply := .immediate }

/-- `FABRIC_ADDR_MODE` 0x4300:00–0F (12_fabric_memory R352). -/
def FABRIC_ADDR_MODE : ObjDef :=
  { name := "FABRIC_ADDR_MODE", index := 0x4300, lo := 0x00, hi := 0x0F, ty := .u8, elem := [1], count := 1,
    access := (.rw, .rw, .ro, .ro), apply := .nextStep }

/-- `FABRIC_REPLY_TIMEOUT_MS` 0x4301:00 (12_fabric_memory R352). -/
def FABRIC_REPLY_TIMEOUT_MS : ObjDef :=
  { name := "FABRIC_REPLY_TIMEOUT_MS", index := 0x4301, lo := 0x00, hi := 0x00, ty := .u32, elem := [4], count := 1, dflt := [10],
    access := (.rw, .none, .rw, .ro), apply := .immediate }

/-- `FABRIC_RETRY_LIMIT` 0x4302:00 (12_fabric_memory R352). -/
def FABRIC_RETRY_LIMIT : ObjDef :=
  { name := "FABRIC_RETRY_LIMIT", index := 0x4302, lo := 0x00, hi := 0x00, ty := .u8, elem := [1], count := 1, dflt := [3],
    access := (.rw, .none, .rw, .ro), apply := .immediate }

/-- `FABRIC_TOMBSTONE_MS` 0x4303:00 (12_fabric_memory R352). -/
def FABRIC_TOMBSTONE_MS : ObjDef :=
  { name := "FABRIC_TOMBSTONE_MS", index := 0x4303, lo := 0x00, hi := 0x00, ty := .u32, elem := [4], count := 1, dflt := [1000],
    access := (.rw, .none, .rw, .ro), apply := .immediate }

/-- `FABRIC_RCACHE_ENTRIES` 0x4304:00 (12_fabric_memory R352). -/
def FABRIC_RCACHE_ENTRIES : ObjDef :=
  { name := "FABRIC_RCACHE_ENTRIES", index := 0x4304, lo := 0x00, hi := 0x00, ty := .u32, elem := [4], count := 1, dflt := [1048576],
    access := (.ro, .none, .rw, .ro), apply := .nextReset, flash := true, measured := true }

/-- `FABRIC_RETRY_COUNT` 0x4310:00–0F (12_fabric_memory R352). -/
def FABRIC_RETRY_COUNT : ObjDef :=
  { name := "FABRIC_RETRY_COUNT", index := 0x4310, lo := 0x00, hi := 0x0F, ty := .u64, elem := [8], count := 1,
    access := (.ro, .ro, .ro, .ro), apply := .immediate }

/-- `FABRIC_DUP_REPLY_COUNT` 0x4311:00 (12_fabric_memory R352). -/
def FABRIC_DUP_REPLY_COUNT : ObjDef :=
  { name := "FABRIC_DUP_REPLY_COUNT", index := 0x4311, lo := 0x00, hi := 0x00, ty := .u64, elem := [8], count := 1,
    access := (.ro, .none, .ro, .ro), apply := .immediate }

/-- `FABRIC_BUSY_COUNT` 0x4312:00 (12_fabric_memory R352). -/
def FABRIC_BUSY_COUNT : ObjDef :=
  { name := "FABRIC_BUSY_COUNT", index := 0x4312, lo := 0x00, hi := 0x00, ty := .u64, elem := [8], count := 1,
    access := (.ro, .none, .ro, .ro), apply := .immediate }

/-- `FABRIC_UNKNOWN_COUNT` 0x4313:00–0F (12_fabric_memory R352). -/
def FABRIC_UNKNOWN_COUNT : ObjDef :=
  { name := "FABRIC_UNKNOWN_COUNT", index := 0x4313, lo := 0x00, hi := 0x0F, ty := .u64, elem := [8], count := 1,
    access := (.ro, .ro, .ro, .ro), apply := .immediate }

/-- `FABRIC_PROTECTION_COUNT` 0x4314:00–0F (12_fabric_memory R352). -/
def FABRIC_PROTECTION_COUNT : ObjDef :=
  { name := "FABRIC_PROTECTION_COUNT", index := 0x4314, lo := 0x00, hi := 0x0F, ty := .u64, elem := [8], count := 1,
    access := (.ro, .ro, .ro, .ro), apply := .immediate }

/-- `FABRIC_CACHE_HITS` 0x4315:00–0F (12_fabric_memory R352). -/
def FABRIC_CACHE_HITS : ObjDef :=
  { name := "FABRIC_CACHE_HITS", index := 0x4315, lo := 0x00, hi := 0x0F, ty := .u64, elem := [8], count := 1,
    access := (.ro, .ro, .ro, .ro), apply := .immediate }

/-- `FABRIC_CACHE_MISSES` 0x4316:00–0F (12_fabric_memory R352). -/
def FABRIC_CACHE_MISSES : ObjDef :=
  { name := "FABRIC_CACHE_MISSES", index := 0x4316, lo := 0x00, hi := 0x0F, ty := .u64, elem := [8], count := 1,
    access := (.ro, .ro, .ro, .ro), apply := .immediate }

/-- `SPOKE_STATE` 0x5001:00–11 (11_spokes R328). -/
def SPOKE_STATE : ObjDef :=
  { name := "SPOKE_STATE", index := 0x5001, lo := 0x00, hi := 0x11, ty := .u8, elem := [1], count := 1,
    access := (.ro, .ro, .ro, .ro), apply := .immediate }

/-- `SPOKE_CONTROL` 0x5002:00–11 (11_spokes R328). -/
def SPOKE_CONTROL : ObjDef :=
  { name := "SPOKE_CONTROL", index := 0x5002, lo := 0x00, hi := 0x11, ty := .u8, elem := [1], count := 1,
    access := (.wo, .none, .wo, .none), apply := .immediate }

/-- `SPOKE_LANES_ACTIVE` 0x5003:00–11 (11_spokes R328). -/
def SPOKE_LANES_ACTIVE : ObjDef :=
  { name := "SPOKE_LANES_ACTIVE", index := 0x5003, lo := 0x00, hi := 0x11, ty := .u8, elem := [1], count := 1,
    access := (.ro, .ro, .ro, .ro), apply := .immediate }

/-- `SPOKE_MODE` 0x5004:0E–11 (11_spokes R328). -/
def SPOKE_MODE : ObjDef :=
  { name := "SPOKE_MODE", index := 0x5004, lo := 0x0E, hi := 0x11, ty := .u8, elem := [1], count := 1,
    access := (.ro, .ro, .rw, .ro), apply := .nextReset, flash := true, measured := true }

/-- `SPOKE_ASYM_NS` 0x5005:00–11 (11_spokes R328). -/
def SPOKE_ASYM_NS : ObjDef :=
  { name := "SPOKE_ASYM_NS", index := 0x5005, lo := 0x00, hi := 0x11, ty := .i32, elem := [4], count := 1,
    access := (.rw, .ro, .rw, .ro), apply := .immediate }

/-- `SPOKE_PEER_POLICY` 0x5006:00 (11_spokes R328). -/
def SPOKE_PEER_POLICY : ObjDef :=
  { name := "SPOKE_PEER_POLICY", index := 0x5006, lo := 0x00, hi := 0x00, ty := .u8, elem := [1], count := 1,
    access := (.ro, .none, .rw, .ro), apply := .nextReset, flash := true, measured := true }

/-- `SPOKE_REKEY_S` 0x5007:00 (11_spokes R328). -/
def SPOKE_REKEY_S : ObjDef :=
  { name := "SPOKE_REKEY_S", index := 0x5007, lo := 0x00, hi := 0x00, ty := .u32, elem := [4], count := 1, dflt := [3600],
    access := (.rw, .none, .rw, .ro), apply := .immediate }

/-- `HUP_RTO_MIN_NS` 0x5008:00 (11_spokes R328). -/
def HUP_RTO_MIN_NS : ObjDef :=
  { name := "HUP_RTO_MIN_NS", index := 0x5008, lo := 0x00, hi := 0x00, ty := .u32, elem := [4], count := 1, dflt := [20000],
    access := (.rw, .none, .rw, .ro), apply := .immediate }

/-- `HUP_GIVEUP_MS` 0x5009:00 (11_spokes R328). -/
def HUP_GIVEUP_MS : ObjDef :=
  { name := "HUP_GIVEUP_MS", index := 0x5009, lo := 0x00, hi := 0x00, ty := .u32, elem := [4], count := 1, dflt := [100],
    access := (.rw, .none, .rw, .ro), apply := .immediate }

/-- `SPOKE_ETH_CONFIG` 0x500A:0E–11 (11_spokes R328). -/
def SPOKE_ETH_CONFIG : ObjDef :=
  { name := "SPOKE_ETH_CONFIG", index := 0x500A, lo := 0x0E, hi := 0x11, ty := .record, elem := [16, 16, 2, 2, 1, 1, 1, 1, 1, 1, 1, 1, 2, 1, 4], count := 1, dflt := [0, 0, 0, 48300, 0, 0, 0, 0, 0, 0, 0, 0, 0, 255, 4194304],
    access := (.rw, .none, .rw, .ro), apply := .nextReset, flash := true }

/-- `SPOKE_TX_BYTES` 0x5010:00–11 (11_spokes R328). -/
def SPOKE_TX_BYTES : ObjDef :=
  { name := "SPOKE_TX_BYTES", index := 0x5010, lo := 0x00, hi := 0x11, ty := .array, elem := [8], count := 8,
    access := (.ro, .none, .ro, .ro), apply := .immediate }

/-- `SPOKE_RX_BYTES` 0x5011:00–11 (11_spokes R328). -/
def SPOKE_RX_BYTES : ObjDef :=
  { name := "SPOKE_RX_BYTES", index := 0x5011, lo := 0x00, hi := 0x11, ty := .array, elem := [8], count := 8,
    access := (.ro, .none, .ro, .ro), apply := .immediate }

/-- `SPOKE_FEC_CORRECTED` 0x5012:00–11 (11_spokes R328). -/
def SPOKE_FEC_CORRECTED : ObjDef :=
  { name := "SPOKE_FEC_CORRECTED", index := 0x5012, lo := 0x00, hi := 0x11, ty := .u64, elem := [8], count := 1,
    access := (.ro, .none, .ro, .ro), apply := .immediate }

/-- `SPOKE_FEC_UNCORRECTED` 0x5013:00–11 (11_spokes R328). -/
def SPOKE_FEC_UNCORRECTED : ObjDef :=
  { name := "SPOKE_FEC_UNCORRECTED", index := 0x5013, lo := 0x00, hi := 0x11, ty := .u64, elem := [8], count := 1,
    access := (.ro, .none, .ro, .ro), apply := .immediate }

/-- `SPOKE_REPLAY_COUNT` 0x5014:00–11 (11_spokes R328). -/
def SPOKE_REPLAY_COUNT : ObjDef :=
  { name := "SPOKE_REPLAY_COUNT", index := 0x5014, lo := 0x00, hi := 0x11, ty := .u64, elem := [8], count := 1,
    access := (.ro, .none, .ro, .ro), apply := .immediate }

/-- `SPOKE_DEGRADE_COUNT` 0x5015:00–11 (11_spokes R328). -/
def SPOKE_DEGRADE_COUNT : ObjDef :=
  { name := "SPOKE_DEGRADE_COUNT", index := 0x5015, lo := 0x00, hi := 0x11, ty := .u64, elem := [8], count := 1,
    access := (.ro, .none, .ro, .ro), apply := .immediate }

/-- `SPOKE_AUTH_FAIL_COUNT` 0x5016:00–11 (11_spokes R328). -/
def SPOKE_AUTH_FAIL_COUNT : ObjDef :=
  { name := "SPOKE_AUTH_FAIL_COUNT", index := 0x5016, lo := 0x00, hi := 0x11, ty := .u64, elem := [8], count := 1,
    access := (.ro, .none, .ro, .ro), apply := .immediate }

/-- `SPOKE_PEER_REFUSED_COUNT` 0x5017:00–11 (11_spokes R328). -/
def SPOKE_PEER_REFUSED_COUNT : ObjDef :=
  { name := "SPOKE_PEER_REFUSED_COUNT", index := 0x5017, lo := 0x00, hi := 0x11, ty := .u64, elem := [8], count := 1,
    access := (.ro, .none, .ro, .ro), apply := .immediate }

/-- `SPOKE_ETH_DROP_COUNT` 0x5018:0E–11 (11_spokes R328). -/
def SPOKE_ETH_DROP_COUNT : ObjDef :=
  { name := "SPOKE_ETH_DROP_COUNT", index := 0x5018, lo := 0x0E, hi := 0x11, ty := .u64, elem := [8], count := 1,
    access := (.ro, .none, .ro, .ro), apply := .immediate }

/-- `HUP_RETX_COUNT` 0x5020:00 (11_spokes R328). -/
def HUP_RETX_COUNT : ObjDef :=
  { name := "HUP_RETX_COUNT", index := 0x5020, lo := 0x00, hi := 0x00, ty := .u64, elem := [8], count := 1,
    access := (.ro, .none, .ro, .ro), apply := .immediate }

/-- `HUP_DUP_DISCARD_COUNT` 0x5021:00 (11_spokes R328). -/
def HUP_DUP_DISCARD_COUNT : ObjDef :=
  { name := "HUP_DUP_DISCARD_COUNT", index := 0x5021, lo := 0x00, hi := 0x00, ty := .u64, elem := [8], count := 1,
    access := (.ro, .none, .ro, .ro), apply := .immediate }

/-- `HUP_STALE_DISCARD_COUNT` 0x5022:00 (11_spokes R328). -/
def HUP_STALE_DISCARD_COUNT : ObjDef :=
  { name := "HUP_STALE_DISCARD_COUNT", index := 0x5022, lo := 0x00, hi := 0x00, ty := .u64, elem := [8], count := 1,
    access := (.ro, .none, .ro, .ro), apply := .immediate }

/-- `HUP_HOP_DISCARD_COUNT` 0x5023:00 (11_spokes R328). -/
def HUP_HOP_DISCARD_COUNT : ObjDef :=
  { name := "HUP_HOP_DISCARD_COUNT", index := 0x5023, lo := 0x00, hi := 0x00, ty := .u64, elem := [8], count := 1,
    access := (.ro, .none, .ro, .ro), apply := .immediate }

/-- `HUP_REROUTE_COUNT` 0x5024:00 (11_spokes R328). -/
def HUP_REROUTE_COUNT : ObjDef :=
  { name := "HUP_REROUTE_COUNT", index := 0x5024, lo := 0x00, hi := 0x00, ty := .u64, elem := [8], count := 1,
    access := (.ro, .none, .ro, .ro), apply := .immediate }

/-- `HUP_FORMAT_DISCARD_COUNT` 0x5025:00 (11_spokes R328). -/
def HUP_FORMAT_DISCARD_COUNT : ObjDef :=
  { name := "HUP_FORMAT_DISCARD_COUNT", index := 0x5025, lo := 0x00, hi := 0x00, ty := .u64, elem := [8], count := 1,
    access := (.ro, .none, .ro, .ro), apply := .immediate }

/-- `NODE_NUMBER` 0x5100:00 (10_lattices_and_mapping R295). -/
def NODE_NUMBER : ObjDef :=
  { name := "NODE_NUMBER", index := 0x5100, lo := 0x00, hi := 0x00, ty := .u16, elem := [2], count := 1, dflt := [65535],
    access := (.ro, .ro, .rw, .ro), apply := .nextReset, flash := true }

/-- `SPOKE_PEER` 0x5101:00–11 (10_lattices_and_mapping R295). -/
def SPOKE_PEER : ObjDef :=
  { name := "SPOKE_PEER", index := 0x5101, lo := 0x00, hi := 0x11, ty := .u16, elem := [2], count := 1, dflt := [65535],
    access := (.ro, .ro, .ro, .ro), apply := .immediate }

/-- `TOPO_MISWIRE_COUNT` 0x5102:00 (10_lattices_and_mapping R295). -/
def TOPO_MISWIRE_COUNT : ObjDef :=
  { name := "TOPO_MISWIRE_COUNT", index := 0x5102, lo := 0x00, hi := 0x00, ty := .u64, elem := [8], count := 1,
    access := (.ro, .none, .ro, .ro), apply := .immediate }

/-- `LATTICE_ROUTE` 0x5104:00 (10_lattices_and_mapping R295). -/
def LATTICE_ROUTE : ObjDef :=
  { name := "LATTICE_ROUTE", index := 0x5104, lo := 0x00, hi := 0x00, ty := .array, elem := [8], count := 256, fill := 0xFF00FFFFFFFFFFFF,
    access := (.rw, .ro, .rw, .ro), apply := .immediate }

/-- `RANK_MAP_STAGED` 0x5110:00–0F (10_lattices_and_mapping R295). -/
def RANK_MAP_STAGED : ObjDef :=
  { name := "RANK_MAP_STAGED", index := 0x5110, lo := 0x00, hi := 0x0F, ty := .array, elem := [2], count := 16384,
    access := (.rw, .ro, .ro, .ro), apply := .immediate }

/-- `RANK_MAP_ACTIVE` 0x5111:00–0F (10_lattices_and_mapping R295). -/
def RANK_MAP_ACTIVE : ObjDef :=
  { name := "RANK_MAP_ACTIVE", index := 0x5111, lo := 0x00, hi := 0x0F, ty := .array, elem := [2], count := 16384,
    access := (.ro, .ro, .ro, .ro), apply := .immediate }

/-- `RANK_MAP_COMMIT` 0x5112:00–0F (10_lattices_and_mapping R295). -/
def RANK_MAP_COMMIT : ObjDef :=
  { name := "RANK_MAP_COMMIT", index := 0x5112, lo := 0x00, hi := 0x0F, ty := .u32, elem := [4], count := 1,
    access := (.wo, .none, .none, .none), apply := .immediate }

/-- `RANK_MAP_PENDING_STEP` 0x5113:00–0F (10_lattices_and_mapping R295). -/
def RANK_MAP_PENDING_STEP : ObjDef :=
  { name := "RANK_MAP_PENDING_STEP", index := 0x5113, lo := 0x00, hi := 0x0F, ty := .u32, elem := [4], count := 1, dflt := [4294967295],
    access := (.ro, .ro, .ro, .ro), apply := .immediate }

/-- `LOCAL_RANK` 0x5114:00–0F (10_lattices_and_mapping R295). -/
def LOCAL_RANK : ObjDef :=
  { name := "LOCAL_RANK", index := 0x5114, lo := 0x00, hi := 0x0F, ty := .u16, elem := [2], count := 1, dflt := [65535],
    access := (.ro, .ro, .ro, .ro), apply := .immediate }

/-- `TOPO_UNMAPPED_DISCARD_COUNT` 0x5115:00–0F (10_lattices_and_mapping R295). -/
def TOPO_UNMAPPED_DISCARD_COUNT : ObjDef :=
  { name := "TOPO_UNMAPPED_DISCARD_COUNT", index := 0x5115, lo := 0x00, hi := 0x0F, ty := .u64, elem := [8], count := 1,
    access := (.ro, .ro, .ro, .ro), apply := .immediate }

/-- `QUEUE_CREATE` 0x6001:00 (14_queues_and_pools R401). -/
def QUEUE_CREATE : ObjDef :=
  { name := "QUEUE_CREATE", index := 0x6001, lo := 0x00, hi := 0x00, ty := .record, elem := [64], count := 1,
    access := (.wo, .wo, .none, .none), apply := .immediate }

/-- `QUEUE_CONTROL` 0x6002:00 (14_queues_and_pools R401). -/
def QUEUE_CONTROL : ObjDef :=
  { name := "QUEUE_CONTROL", index := 0x6002, lo := 0x00, hi := 0x00, ty := .record, elem := [2, 1], count := 1,
    access := (.wo, .wo, .none, .none), apply := .immediate }

/-- `QUEUE_SELECT` 0x6003:00 (14_queues_and_pools R401). -/
def QUEUE_SELECT : ObjDef :=
  { name := "QUEUE_SELECT", index := 0x6003, lo := 0x00, hi := 0x00, ty := .u16, elem := [2], count := 1,
    access := (.rw, .rw, .rw, .none), apply := .immediate, perRequester := true }

/-- `QUEUE_STATE` 0x6004:00 (14_queues_and_pools R401). -/
def QUEUE_STATE : ObjDef :=
  { name := "QUEUE_STATE", index := 0x6004, lo := 0x00, hi := 0x00, ty := .record, elem := [64, 1, 1, 4, 4, 4, 4, 2, 8], count := 1,
    access := (.ro, .ro, .ro, .none), apply := .immediate }

/-- `DOORBELL_DISCARD_COUNT` 0x6005:00 (14_queues_and_pools R401). -/
def DOORBELL_DISCARD_COUNT : ObjDef :=
  { name := "DOORBELL_DISCARD_COUNT", index := 0x6005, lo := 0x00, hi := 0x00, ty := .u64, elem := [8], count := 1,
    access := (.ro, .none, .ro, .ro), apply := .immediate }

/-- `QUEUE_ERROR_COUNT` 0x6006:00–0F (14_queues_and_pools R401). -/
def QUEUE_ERROR_COUNT : ObjDef :=
  { name := "QUEUE_ERROR_COUNT", index := 0x6006, lo := 0x00, hi := 0x0F, ty := .u64, elem := [8], count := 1,
    access := (.ro, .ro, .ro, .ro), apply := .immediate }

/-- `CQ_SUMMARY_COUNT` 0x6007:00–0F (14_queues_and_pools R401). -/
def CQ_SUMMARY_COUNT : ObjDef :=
  { name := "CQ_SUMMARY_COUNT", index := 0x6007, lo := 0x00, hi := 0x0F, ty := .u64, elem := [8], count := 1,
    access := (.ro, .ro, .ro, .ro), apply := .immediate }

/-- `CQ_STALL_COUNT` 0x6008:00–0F (14_queues_and_pools R401). -/
def CQ_STALL_COUNT : ObjDef :=
  { name := "CQ_STALL_COUNT", index := 0x6008, lo := 0x00, hi := 0x0F, ty := .u64, elem := [8], count := 1,
    access := (.ro, .ro, .ro, .ro), apply := .immediate }

/-- `CQ_SUMMARY_PENDING` 0x6009:00–0F (14_queues_and_pools R401). -/
def CQ_SUMMARY_PENDING : ObjDef :=
  { name := "CQ_SUMMARY_PENDING", index := 0x6009, lo := 0x00, hi := 0x0F, ty := .u16, elem := [2], count := 1,
    access := (.ro, .ro, .ro, .ro), apply := .immediate }

/-- `POOL_CONFIG` 0x6020:00–0F (14_queues_and_pools R401). -/
def POOL_CONFIG : ObjDef :=
  { name := "POOL_CONFIG", index := 0x6020, lo := 0x00, hi := 0x0F, ty := .array, elem := [32], count := 8,
    access := (.rw, .rw, .ro, .ro), apply := .immediate }

/-- `POOL_REQUESTER` 0x6021:00–3F (14_queues_and_pools R401). -/
def POOL_REQUESTER : ObjDef :=
  { name := "POOL_REQUESTER", index := 0x6021, lo := 0x00, hi := 0x3F, ty := .record, elem := [1, 4, 4, 4, 4, 4, 4, 4, 4, 4, 4, 4, 4, 4, 4, 4, 4], count := 1, dflt := [255],
    access := (.rw, .rw, .ro, .ro), apply := .immediate }

/-- `POOL_ENGINE_REQUESTER` 0x6022:00–0F (14_queues_and_pools R401). -/
def POOL_ENGINE_REQUESTER : ObjDef :=
  { name := "POOL_ENGINE_REQUESTER", index := 0x6022, lo := 0x00, hi := 0x0F, ty := .u8, elem := [1], count := 1, dflt := [255],
    access := (.rw, .rw, .ro, .ro), apply := .nextStep }

/-- `POOL_FREE` 0x6023:00–0F (14_queues_and_pools R401). -/
def POOL_FREE : ObjDef :=
  { name := "POOL_FREE", index := 0x6023, lo := 0x00, hi := 0x0F, ty := .array, elem := [4], count := 8,
    access := (.ro, .ro, .ro, .ro), apply := .immediate }

/-- `POOL_HELD` 0x6024:00–3F (14_queues_and_pools R401). -/
def POOL_HELD : ObjDef :=
  { name := "POOL_HELD", index := 0x6024, lo := 0x00, hi := 0x3F, ty := .array, elem := [4], count := 8,
    access := (.ro, .ro, .ro, .ro), apply := .immediate }

/-- `POOL_EXHAUSTED_COUNT` 0x6025:00–0F (14_queues_and_pools R401). -/
def POOL_EXHAUSTED_COUNT : ObjDef :=
  { name := "POOL_EXHAUSTED_COUNT", index := 0x6025, lo := 0x00, hi := 0x0F, ty := .array, elem := [8, 8], count := 8,
    access := (.ro, .ro, .ro, .ro), apply := .immediate }

/-- `POOL_FOREIGN_FREE_COUNT` 0x6026:00–0F (14_queues_and_pools R401). -/
def POOL_FOREIGN_FREE_COUNT : ObjDef :=
  { name := "POOL_FOREIGN_FREE_COUNT", index := 0x6026, lo := 0x00, hi := 0x0F, ty := .u64, elem := [8], count := 1,
    access := (.ro, .ro, .ro, .ro), apply := .immediate }

/-- `POOL_STALE_HANDLE_COUNT` 0x6027:00–0F (14_queues_and_pools R401). -/
def POOL_STALE_HANDLE_COUNT : ObjDef :=
  { name := "POOL_STALE_HANDLE_COUNT", index := 0x6027, lo := 0x00, hi := 0x0F, ty := .u64, elem := [8], count := 1,
    access := (.ro, .ro, .ro, .ro), apply := .immediate }

/-- `CONTEXT_RESET` 0x6100:00–0F (15_faults_and_recovery R440). -/
def CONTEXT_RESET : ObjDef :=
  { name := "CONTEXT_RESET", index := 0x6100, lo := 0x00, hi := 0x0F, ty := .u8, elem := [1], count := 1,
    access := (.wo, .wo, .none, .none), apply := .immediate }

/-- `CONTEXT_GENERATION` 0x6101:00–0F (15_faults_and_recovery R440). -/
def CONTEXT_GENERATION : ObjDef :=
  { name := "CONTEXT_GENERATION", index := 0x6101, lo := 0x00, hi := 0x0F, ty := .u16, elem := [2], count := 1,
    access := (.ro, .ro, .ro, .ro), apply := .immediate }

/-- `CONTEXT_STATE` 0x6102:00–0F (15_faults_and_recovery R440). -/
def CONTEXT_STATE : ObjDef :=
  { name := "CONTEXT_STATE", index := 0x6102, lo := 0x00, hi := 0x0F, ty := .u8, elem := [1], count := 1,
    access := (.ro, .ro, .ro, .ro), apply := .immediate }

/-- `CONTEXT_RESET_COUNT` 0x6103:00–0F (15_faults_and_recovery R440). -/
def CONTEXT_RESET_COUNT : ObjDef :=
  { name := "CONTEXT_RESET_COUNT", index := 0x6103, lo := 0x00, hi := 0x0F, ty := .u64, elem := [8], count := 1,
    access := (.ro, .ro, .ro, .ro), apply := .immediate }

/-- `NARROW_RETRY_BINADES` 0x7001:00–0F (03_formats_and_scaling R104). -/
def NARROW_RETRY_BINADES : ObjDef :=
  { name := "NARROW_RETRY_BINADES", index := 0x7001, lo := 0x00, hi := 0x0F, ty := .u8, elem := [1], count := 1, dflt := [4],
    access := (.rw, .rw, .ro, .ro), apply := .nextStep }

/-- `ACC_RETRY_SHIFT` 0x7002:00–0F (03_formats_and_scaling R104). -/
def ACC_RETRY_SHIFT : ObjDef :=
  { name := "ACC_RETRY_SHIFT", index := 0x7002, lo := 0x00, hi := 0x0F, ty := .u8, elem := [1], count := 1, dflt := [8],
    access := (.rw, .rw, .ro, .ro), apply := .nextStep }

/-- `SCALE_UNDERFLOW_COUNT` 0x7003:00–0F (03_formats_and_scaling R104). -/
def SCALE_UNDERFLOW_COUNT : ObjDef :=
  { name := "SCALE_UNDERFLOW_COUNT", index := 0x7003, lo := 0x00, hi := 0x0F, ty := .u64, elem := [8], count := 1,
    access := (.ro, .ro, .ro, .ro), apply := .immediate }

/-- `SAT_COUNT` 0x7004:00–0F (03_formats_and_scaling R104). -/
def SAT_COUNT : ObjDef :=
  { name := "SAT_COUNT", index := 0x7004, lo := 0x00, hi := 0x0F, ty := .u64, elem := [8], count := 1,
    access := (.ro, .ro, .ro, .ro), apply := .immediate }

/-- `NARROW_RETRY_COUNT` 0x7005:00–0F (03_formats_and_scaling R104). -/
def NARROW_RETRY_COUNT : ObjDef :=
  { name := "NARROW_RETRY_COUNT", index := 0x7005, lo := 0x00, hi := 0x0F, ty := .u64, elem := [8], count := 1,
    access := (.ro, .ro, .ro, .ro), apply := .immediate }

/-- `SCALE_EXHAUSTED_COUNT` 0x7006:00–0F (03_formats_and_scaling R104). -/
def SCALE_EXHAUSTED_COUNT : ObjDef :=
  { name := "SCALE_EXHAUSTED_COUNT", index := 0x7006, lo := 0x00, hi := 0x0F, ty := .u64, elem := [8], count := 1,
    access := (.ro, .ro, .ro, .ro), apply := .immediate }

/-- `NAN_BLOCK_COUNT` 0x7007:00–0F (03_formats_and_scaling R104). -/
def NAN_BLOCK_COUNT : ObjDef :=
  { name := "NAN_BLOCK_COUNT", index := 0x7007, lo := 0x00, hi := 0x0F, ty := .u64, elem := [8], count := 1,
    access := (.ro, .ro, .ro, .ro), apply := .immediate }

/-- `ACC_RETRY_COUNT` 0x7008:00–0F (04_matrix_engine R136). -/
def ACC_RETRY_COUNT : ObjDef :=
  { name := "ACC_RETRY_COUNT", index := 0x7008, lo := 0x00, hi := 0x0F, ty := .u64, elem := [8], count := 1,
    access := (.ro, .ro, .ro, .ro), apply := .immediate }

/-- `ACC_EXHAUSTED_COUNT` 0x7009:00–0F (04_matrix_engine R136). -/
def ACC_EXHAUSTED_COUNT : ObjDef :=
  { name := "ACC_EXHAUSTED_COUNT", index := 0x7009, lo := 0x00, hi := 0x0F, ty := .u64, elem := [8], count := 1,
    access := (.ro, .ro, .ro, .ro), apply := .immediate }

/-- `MATRIX_REFUSED_COUNT` 0x700A:00–0F (04_matrix_engine R136). -/
def MATRIX_REFUSED_COUNT : ObjDef :=
  { name := "MATRIX_REFUSED_COUNT", index := 0x700A, lo := 0x00, hi := 0x0F, ty := .u64, elem := [8], count := 1,
    access := (.ro, .ro, .ro, .ro), apply := .immediate }

/-- `CONTEXT_SEED` 0x700B:00–0F (05_vector_engine_and_sequencer R168). -/
def CONTEXT_SEED : ObjDef :=
  { name := "CONTEXT_SEED", index := 0x700B, lo := 0x00, hi := 0x0F, ty := .u32, elem := [4], count := 1,
    access := (.wo, .rw, .none, .none), apply := .nextStep }

/-- `VPROG_INSN_LIMIT` 0x700C:00–0F (05_vector_engine_and_sequencer R168). -/
def VPROG_INSN_LIMIT : ObjDef :=
  { name := "VPROG_INSN_LIMIT", index := 0x700C, lo := 0x00, hi := 0x0F, ty := .u32, elem := [4], count := 1, dflt := [1073741824],
    access := (.rw, .rw, .ro, .ro), apply := .nextStep }

/-- `VECTOR_REFUSED_COUNT` 0x700D:00–0F (05_vector_engine_and_sequencer R168). -/
def VECTOR_REFUSED_COUNT : ObjDef :=
  { name := "VECTOR_REFUSED_COUNT", index := 0x700D, lo := 0x00, hi := 0x0F, ty := .u64, elem := [8], count := 1,
    access := (.ro, .ro, .ro, .ro), apply := .immediate }

/-- `TREE_REALIGN_INEXACT_COUNT` 0x700E:00–0F (05_vector_engine_and_sequencer R168). -/
def TREE_REALIGN_INEXACT_COUNT : ObjDef :=
  { name := "TREE_REALIGN_INEXACT_COUNT", index := 0x700E, lo := 0x00, hi := 0x0F, ty := .u64, elem := [8], count := 1,
    access := (.ro, .ro, .ro, .ro), apply := .immediate }

/-- `TREE_RETRY_COUNT` 0x700F:00–0F (05_vector_engine_and_sequencer R168). -/
def TREE_RETRY_COUNT : ObjDef :=
  { name := "TREE_RETRY_COUNT", index := 0x700F, lo := 0x00, hi := 0x0F, ty := .u64, elem := [8], count := 1,
    access := (.ro, .ro, .ro, .ro), apply := .immediate }

/-- `SPARSE_FALLBACK_COUNT` 0x7010:00–0F (06_sparsity R198). -/
def SPARSE_FALLBACK_COUNT : ObjDef :=
  { name := "SPARSE_FALLBACK_COUNT", index := 0x7010, lo := 0x00, hi := 0x0F, ty := .u64, elem := [8], count := 1,
    access := (.ro, .ro, .ro, .ro), apply := .immediate }

/-- `PRUNE_COUNT` 0x7011:00–0F (06_sparsity R198). -/
def PRUNE_COUNT : ObjDef :=
  { name := "PRUNE_COUNT", index := 0x7011, lo := 0x00, hi := 0x0F, ty := .u64, elem := [8], count := 1,
    access := (.ro, .ro, .ro, .ro), apply := .immediate }

/-- `SPARSE_MALFORMED_COUNT` 0x7012:00–0F (06_sparsity R198). -/
def SPARSE_MALFORMED_COUNT : ObjDef :=
  { name := "SPARSE_MALFORMED_COUNT", index := 0x7012, lo := 0x00, hi := 0x0F, ty := .u64, elem := [8], count := 1,
    access := (.ro, .ro, .ro, .ro), apply := .immediate }

/-- `SPARSE_REFUSED_COUNT` 0x7013:00–0F (06_sparsity R198). -/
def SPARSE_REFUSED_COUNT : ObjDef :=
  { name := "SPARSE_REFUSED_COUNT", index := 0x7013, lo := 0x00, hi := 0x0F, ty := .u64, elem := [8], count := 1,
    access := (.ro, .ro, .ro, .ro), apply := .immediate }

/-- `PREDICTOR_ENABLE` 0x7014:00–0F (06_sparsity R198). -/
def PREDICTOR_ENABLE : ObjDef :=
  { name := "PREDICTOR_ENABLE", index := 0x7014, lo := 0x00, hi := 0x0F, ty := .octets, elem := [1], count := 32,
    access := (.rw, .rw, .ro, .ro), apply := .nextStep }

/-- `PREDICTOR_THRESHOLD` 0x7015:00–0F (06_sparsity R198). -/
def PREDICTOR_THRESHOLD : ObjDef :=
  { name := "PREDICTOR_THRESHOLD", index := 0x7015, lo := 0x00, hi := 0x0F, ty := .octets, elem := [1], count := 1024,
    access := (.rw, .rw, .ro, .ro), apply := .nextStep }

/-- `PREDICTOR_GUARD` 0x7016:00–0F (06_sparsity R198). -/
def PREDICTOR_GUARD : ObjDef :=
  { name := "PREDICTOR_GUARD", index := 0x7016, lo := 0x00, hi := 0x0F, ty := .octets, elem := [1], count := 1024,
    access := (.rw, .rw, .ro, .ro), apply := .nextStep }

/-- `PREDICTOR_STATS_ADDR` 0x7017:00–0F (06_sparsity R198). -/
def PREDICTOR_STATS_ADDR : ObjDef :=
  { name := "PREDICTOR_STATS_ADDR", index := 0x7017, lo := 0x00, hi := 0x0F, ty := .u64, elem := [8], count := 1, dflt := [18446744073709551615],
    access := (.rw, .rw, .ro, .ro), apply := .nextStep }

/-- `ROUTER_BATCH_EPOCH` 0x7020:00–0F (07_expert_routing R226). -/
def ROUTER_BATCH_EPOCH : ObjDef :=
  { name := "ROUTER_BATCH_EPOCH", index := 0x7020, lo := 0x00, hi := 0x0F, ty := .octets, elem := [1], count := 64,
    access := (.ro, .ro, .ro, .ro), apply := .immediate }

/-- `ROUTER_CANCEL` 0x7021:00–0F (07_expert_routing R226). -/
def ROUTER_CANCEL : ObjDef :=
  { name := "ROUTER_CANCEL", index := 0x7021, lo := 0x00, hi := 0x0F, ty := .u64, elem := [8], count := 1,
    access := (.wo, .wo, .none, .none), apply := .immediate }

/-- `ROUTER_UNAVAIL_ACTION` 0x7022:00–0F (07_expert_routing R226). -/
def ROUTER_UNAVAIL_ACTION : ObjDef :=
  { name := "ROUTER_UNAVAIL_ACTION", index := 0x7022, lo := 0x00, hi := 0x0F, ty := .u8, elem := [1], count := 1,
    access := (.rw, .rw, .ro, .ro), apply := .nextStep }

/-- `ROUTER_SPILL_COUNT` 0x7023:00–0F (07_expert_routing R226). -/
def ROUTER_SPILL_COUNT : ObjDef :=
  { name := "ROUTER_SPILL_COUNT", index := 0x7023, lo := 0x00, hi := 0x0F, ty := .u64, elem := [8], count := 1,
    access := (.ro, .ro, .ro, .ro), apply := .immediate }

/-- `ROUTER_DROP_COUNT` 0x7024:00–0F (07_expert_routing R226). -/
def ROUTER_DROP_COUNT : ObjDef :=
  { name := "ROUTER_DROP_COUNT", index := 0x7024, lo := 0x00, hi := 0x0F, ty := .u64, elem := [8], count := 1,
    access := (.ro, .ro, .ro, .ro), apply := .immediate }

/-- `ROUTER_EXIT_COUNT` 0x7025:00–0F (07_expert_routing R226). -/
def ROUTER_EXIT_COUNT : ObjDef :=
  { name := "ROUTER_EXIT_COUNT", index := 0x7025, lo := 0x00, hi := 0x0F, ty := .u64, elem := [8], count := 1,
    access := (.ro, .ro, .ro, .ro), apply := .immediate }

/-- `ROUTER_NAN_TOKEN_COUNT` 0x7026:00–0F (07_expert_routing R226). -/
def ROUTER_NAN_TOKEN_COUNT : ObjDef :=
  { name := "ROUTER_NAN_TOKEN_COUNT", index := 0x7026, lo := 0x00, hi := 0x0F, ty := .u64, elem := [8], count := 1,
    access := (.ro, .ro, .ro, .ro), apply := .immediate }

/-- `ROUTER_STALE_COUNT` 0x7027:00–0F (07_expert_routing R226). -/
def ROUTER_STALE_COUNT : ObjDef :=
  { name := "ROUTER_STALE_COUNT", index := 0x7027, lo := 0x00, hi := 0x0F, ty := .u64, elem := [8], count := 1,
    access := (.ro, .ro, .ro, .ro), apply := .immediate }

/-- `ROUTER_PROTOCOL_COUNT` 0x7028:00–0F (07_expert_routing R226). -/
def ROUTER_PROTOCOL_COUNT : ObjDef :=
  { name := "ROUTER_PROTOCOL_COUNT", index := 0x7028, lo := 0x00, hi := 0x0F, ty := .u64, elem := [8], count := 1,
    access := (.ro, .ro, .ro, .ro), apply := .immediate }

/-- `ROUTER_UNAVAILABLE_COUNT` 0x7029:00–0F (07_expert_routing R226). -/
def ROUTER_UNAVAILABLE_COUNT : ObjDef :=
  { name := "ROUTER_UNAVAILABLE_COUNT", index := 0x7029, lo := 0x00, hi := 0x0F, ty := .u64, elem := [8], count := 1,
    access := (.ro, .ro, .ro, .ro), apply := .immediate }

/-- `ROUTER_REFUSED_COUNT` 0x702A:00–0F (07_expert_routing R226). -/
def ROUTER_REFUSED_COUNT : ObjDef :=
  { name := "ROUTER_REFUSED_COUNT", index := 0x702A, lo := 0x00, hi := 0x0F, ty := .u64, elem := [8], count := 1,
    access := (.ro, .ro, .ro, .ro), apply := .immediate }

/-- `ROUTER_DRAIN_PENDING` 0x702B:00–0F (07_expert_routing R226). -/
def ROUTER_DRAIN_PENDING : ObjDef :=
  { name := "ROUTER_DRAIN_PENDING", index := 0x702B, lo := 0x00, hi := 0x0F, ty := .u32, elem := [4], count := 1,
    access := (.ro, .ro, .ro, .ro), apply := .immediate }

/-- `CODEC_IN_BYTES` 0x7030:00–0F (08_backward_and_training R256). -/
def CODEC_IN_BYTES : ObjDef :=
  { name := "CODEC_IN_BYTES", index := 0x7030, lo := 0x00, hi := 0x0F, ty := .u64, elem := [8], count := 1,
    access := (.ro, .ro, .ro, .ro), apply := .immediate }

/-- `CODEC_OUT_BYTES` 0x7031:00–0F (08_backward_and_training R256). -/
def CODEC_OUT_BYTES : ObjDef :=
  { name := "CODEC_OUT_BYTES", index := 0x7031, lo := 0x00, hi := 0x0F, ty := .u64, elem := [8], count := 1,
    access := (.ro, .ro, .ro, .ro), apply := .immediate }

/-- `CODEC_RESTORE_BYTES` 0x7032:00–0F (08_backward_and_training R256). -/
def CODEC_RESTORE_BYTES : ObjDef :=
  { name := "CODEC_RESTORE_BYTES", index := 0x7032, lo := 0x00, hi := 0x0F, ty := .u64, elem := [8], count := 1,
    access := (.ro, .ro, .ro, .ro), apply := .immediate }

/-- `PIPE_ABSENT_MASK` 0x7033:00–0F (08_backward_and_training R256). -/
def PIPE_ABSENT_MASK : ObjDef :=
  { name := "PIPE_ABSENT_MASK", index := 0x7033, lo := 0x00, hi := 0x0F, ty := .u64, elem := [8], count := 1,
    access := (.ro, .ro, .ro, .ro), apply := .immediate }

/-- `PIPE_ABSENT_ADDR` 0x7034:00–0F (08_backward_and_training R256). -/
def PIPE_ABSENT_ADDR : ObjDef :=
  { name := "PIPE_ABSENT_ADDR", index := 0x7034, lo := 0x00, hi := 0x0F, ty := .u64, elem := [8], count := 1, dflt := [18446744073709551615],
    access := (.rw, .rw, .ro, .ro), apply := .nextStep }

/-- `CANONICAL_REDUCTION` 0x7040:00–0F (09_collectives R279). -/
def CANONICAL_REDUCTION : ObjDef :=
  { name := "CANONICAL_REDUCTION", index := 0x7040, lo := 0x00, hi := 0x0F, ty := .bool, elem := [1], count := 1, dflt := [1],
    access := (.rw, .rw, .ro, .ro), apply := .nextStep }

/-- `COLL_NAN_ELEMENT_COUNT` 0x7041:00–0F (09_collectives R279). -/
def COLL_NAN_ELEMENT_COUNT : ObjDef :=
  { name := "COLL_NAN_ELEMENT_COUNT", index := 0x7041, lo := 0x00, hi := 0x0F, ty := .u64, elem := [8], count := 1,
    access := (.ro, .ro, .ro, .ro), apply := .immediate }

/-- `COLL_RETRY_COUNT` 0x7042:00–0F (09_collectives R279). -/
def COLL_RETRY_COUNT : ObjDef :=
  { name := "COLL_RETRY_COUNT", index := 0x7042, lo := 0x00, hi := 0x0F, ty := .u64, elem := [8], count := 1,
    access := (.ro, .ro, .ro, .ro), apply := .immediate }

/-- `COLL_EXHAUSTED_COUNT` 0x7043:00–0F (09_collectives R279). -/
def COLL_EXHAUSTED_COUNT : ObjDef :=
  { name := "COLL_EXHAUSTED_COUNT", index := 0x7043, lo := 0x00, hi := 0x0F, ty := .u64, elem := [8], count := 1,
    access := (.ro, .ro, .ro, .ro), apply := .immediate }

/-- `COLL_REALIGN_INEXACT_COUNT` 0x7044:00–0F (09_collectives R279). -/
def COLL_REALIGN_INEXACT_COUNT : ObjDef :=
  { name := "COLL_REALIGN_INEXACT_COUNT", index := 0x7044, lo := 0x00, hi := 0x0F, ty := .u64, elem := [8], count := 1,
    access := (.ro, .ro, .ro, .ro), apply := .immediate }

/-- `COLL_DISCARD_COUNT` 0x7045:00–0F (09_collectives R279). -/
def COLL_DISCARD_COUNT : ObjDef :=
  { name := "COLL_DISCARD_COUNT", index := 0x7045, lo := 0x00, hi := 0x0F, ty := .u64, elem := [8], count := 1,
    access := (.ro, .ro, .ro, .ro), apply := .immediate }

/-- `COLL_REFUSED_COUNT` 0x7046:00–0F (09_collectives R279). -/
def COLL_REFUSED_COUNT : ObjDef :=
  { name := "COLL_REFUSED_COUNT", index := 0x7046, lo := 0x00, hi := 0x0F, ty := .u64, elem := [8], count := 1,
    access := (.ro, .ro, .ro, .ro), apply := .immediate }

/-- `COLL_ZERO_MARKER_COUNT` 0x7047:00–0F (09_collectives R279). -/
def COLL_ZERO_MARKER_COUNT : ObjDef :=
  { name := "COLL_ZERO_MARKER_COUNT", index := 0x7047, lo := 0x00, hi := 0x0F, ty := .u64, elem := [8], count := 1,
    access := (.ro, .ro, .ro, .ro), apply := .immediate }

/-- `BOOT_STATUS` 0x8001:00 (16_security R469). -/
def BOOT_STATUS : ObjDef :=
  { name := "BOOT_STATUS", index := 0x8001, lo := 0x00, hi := 0x00, ty := .record, elem := [1, 1, 1, 1, 4], count := 1,
    access := (.ro, .ro, .ro, .ro), apply := .immediate }

/-- `MEASUREMENT` 0x8002:00–0F (16_security R469). -/
def MEASUREMENT : ObjDef :=
  { name := "MEASUREMENT", index := 0x8002, lo := 0x00, hi := 0x0F, ty := .octets, elem := [1], count := 48,
    access := (.ro, .ro, .ro, .ro), apply := .immediate }

/-- `SEC_FUSES` 0x8003:00 (16_security R469). -/
def SEC_FUSES : ObjDef :=
  { name := "SEC_FUSES", index := 0x8003, lo := 0x00, hi := 0x00, ty := .record, elem := [1, 1, 1, 1, 1, 1, 1], count := 1,
    access := (.ro, .ro, .ro, .ro), apply := .immediate }

/-- `SEC_FUSE_COMMIT` 0x8004:00 (16_security R469). -/
def SEC_FUSE_COMMIT : ObjDef :=
  { name := "SEC_FUSE_COMMIT", index := 0x8004, lo := 0x00, hi := 0x00, ty := .record, elem := [1, 1], count := 1,
    access := (.none, .none, .wo, .none), apply := .immediate }

/-- `SEC_ATTESTED_ANCHORS` 0x8005:00 (16_security R469). -/
def SEC_ATTESTED_ANCHORS : ObjDef :=
  { name := "SEC_ATTESTED_ANCHORS", index := 0x8005, lo := 0x00, hi := 0x00, ty := .array, elem := [48], count := 4,
    access := (.ro, .none, .rw, .ro), apply := .nextReset, flash := true, measured := true }

/-- `CONTEXT_OWNER` 0x8010:00–0F; sub 00 is absent (16_security R469). -/
def CONTEXT_OWNER : ObjDef :=
  { name := "CONTEXT_OWNER", index := 0x8010, lo := 0x01, hi := 0x0F, ty := .octets, elem := [1], count := 48,
    access := (.ro, .ro, .ro, .ro), apply := .immediate }

/-- `CONTEXT_CLAIM` 0x8011:00–0F; sub 00 is absent (16_security R469). -/
def CONTEXT_CLAIM : ObjDef :=
  { name := "CONTEXT_CLAIM", index := 0x8011, lo := 0x01, hi := 0x0F, ty := .u8, elem := [1], count := 1,
    access := (.none, .wo, .none, .none), apply := .immediate }

/-- `CONTEXT_KEY` 0x8012:00–0F; sub 00 is absent (16_security R469). -/
def CONTEXT_KEY : ObjDef :=
  { name := "CONTEXT_KEY", index := 0x8012, lo := 0x01, hi := 0x0F, ty := .octets, elem := [1], count := 64,
    access := (.none, .wo, .none, .none), apply := .immediate }

/-- `CONTEXT_KEY_NEXT` 0x8013:00–0F; sub 00 is absent (16_security R469). -/
def CONTEXT_KEY_NEXT : ObjDef :=
  { name := "CONTEXT_KEY_NEXT", index := 0x8013, lo := 0x01, hi := 0x0F, ty := .octets, elem := [1], count := 64,
    access := (.none, .wo, .none, .none), apply := .immediate }

/-- `CONTEXT_TRANSFER_KEY` 0x8014:00–0F; sub 00 is absent (16_security R469). -/
def CONTEXT_TRANSFER_KEY : ObjDef :=
  { name := "CONTEXT_TRANSFER_KEY", index := 0x8014, lo := 0x01, hi := 0x0F, ty := .octets, elem := [1], count := 32,
    access := (.none, .wo, .none, .none), apply := .immediate }

/-- `CONTEXT_KEY_STATE` 0x8015:00–0F (16_security R469). -/
def CONTEXT_KEY_STATE : ObjDef :=
  { name := "CONTEXT_KEY_STATE", index := 0x8015, lo := 0x00, hi := 0x0F, ty := .u8, elem := [1], count := 1,
    access := (.ro, .ro, .ro, .ro), apply := .immediate }

/-- `CONTEXT_KEY_RETENTION` 0x8016:00–0F; sub 00 is absent (16_security R469). -/
def CONTEXT_KEY_RETENTION : ObjDef :=
  { name := "CONTEXT_KEY_RETENTION", index := 0x8016, lo := 0x01, hi := 0x0F, ty := .u8, elem := [1], count := 1,
    access := (.ro, .rw, .none, .none), apply := .immediate }

/-- `CONTEXT_RELEASE` 0x8017:00–0F; sub 00 is absent (16_security R469). -/
def CONTEXT_RELEASE : ObjDef :=
  { name := "CONTEXT_RELEASE", index := 0x8017, lo := 0x01, hi := 0x0F, ty := .u8, elem := [1], count := 1,
    access := (.wo, .wo, .none, .none), apply := .immediate }

/-- `CONTEXT_FUNCTION` 0x8018:00–0F (16_security R469). -/
def CONTEXT_FUNCTION : ObjDef :=
  { name := "CONTEXT_FUNCTION", index := 0x8018, lo := 0x00, hi := 0x0F, ty := .u8, elem := [1], count := 1,
    access := (.rw, .ro, .ro, .none), apply := .immediate }

/-- `KEY_ROTATE_CURSOR` 0x8019:00–0F (16_security R469). -/
def KEY_ROTATE_CURSOR : ObjDef :=
  { name := "KEY_ROTATE_CURSOR", index := 0x8019, lo := 0x00, hi := 0x0F, ty := .u16, elem := [2], count := 1,
    access := (.ro, .ro, .ro, .ro), apply := .immediate }

/-- `SEAL_REJECT_COUNT` 0x801A:00–0F (16_security R469). -/
def SEAL_REJECT_COUNT : ObjDef :=
  { name := "SEAL_REJECT_COUNT", index := 0x801A, lo := 0x00, hi := 0x0F, ty := .u64, elem := [8], count := 1,
    access := (.ro, .ro, .ro, .ro), apply := .immediate }

/-- `DEBUG_UNLOCK` 0x8020:00 (16_security R469). -/
def DEBUG_UNLOCK : ObjDef :=
  { name := "DEBUG_UNLOCK", index := 0x8020, lo := 0x00, hi := 0x00, ty := .u8, elem := [1], count := 1,
    access := (.none, .none, .none, .wo), apply := .nextReset }

/-- `SEC_SESSION_COUNT` 0x8021:00 (16_security R469). -/
def SEC_SESSION_COUNT : ObjDef :=
  { name := "SEC_SESSION_COUNT", index := 0x8021, lo := 0x00, hi := 0x00, ty := .u8, elem := [1], count := 1,
    access := (.ro, .ro, .ro, .ro), apply := .immediate }

/-- `ZEROISE_COUNT` 0x8022:00 (16_security R469). -/
def ZEROISE_COUNT : ObjDef :=
  { name := "ZEROISE_COUNT", index := 0x8022, lo := 0x00, hi := 0x00, ty := .u64, elem := [8], count := 1,
    access := (.ro, .none, .ro, .ro), apply := .immediate }

/-- `TELEMETRY_QUEUE` 0x9001:00–0F (20_maintenance_and_telemetry R567). -/
def TELEMETRY_QUEUE : ObjDef :=
  { name := "TELEMETRY_QUEUE", index := 0x9001, lo := 0x00, hi := 0x0F, ty := .u16, elem := [2], count := 1, dflt := [65535],
    access := (.rw, .rw, .ro, .ro), apply := .nextStep }

/-- `TELEMETRY_MASK` 0x9002:00–0F (20_maintenance_and_telemetry R567). -/
def TELEMETRY_MASK : ObjDef :=
  { name := "TELEMETRY_MASK", index := 0x9002, lo := 0x00, hi := 0x0F, ty := .u32, elem := [4], count := 1,
    access := (.rw, .rw, .ro, .ro), apply := .nextStep }

/-- `TELEMETRY_DROP_COUNT` 0x9003:00–0F (20_maintenance_and_telemetry R567). -/
def TELEMETRY_DROP_COUNT : ObjDef :=
  { name := "TELEMETRY_DROP_COUNT", index := 0x9003, lo := 0x00, hi := 0x0F, ty := .u64, elem := [8], count := 1,
    access := (.ro, .ro, .ro, .ro), apply := .immediate }

/-- `PHASE_TIMING` 0x9010:00–0F (20_maintenance_and_telemetry R567). -/
def PHASE_TIMING : ObjDef :=
  { name := "PHASE_TIMING", index := 0x9010, lo := 0x00, hi := 0x0F, ty := .array, elem := [4, 8, 4, 4], count := 7,
    access := (.ro, .ro, .ro, .ro), apply := .immediate }

/-- `SLOT_SLACK_HIST` 0x9011:00–0F (20_maintenance_and_telemetry R567). -/
def SLOT_SLACK_HIST : ObjDef :=
  { name := "SLOT_SLACK_HIST", index := 0x9011, lo := 0x00, hi := 0x0F, ty := .array, elem := [4], count := 16,
    access := (.ro, .ro, .ro, .ro), apply := .immediate }

/-- `EXPERT_TOKEN_LAYER` 0x9020:00 (20_maintenance_and_telemetry R567). -/
def EXPERT_TOKEN_LAYER : ObjDef :=
  { name := "EXPERT_TOKEN_LAYER", index := 0x9020, lo := 0x00, hi := 0x00, ty := .u8, elem := [1], count := 1,
    access := (.rw, .rw, .rw, .none), apply := .immediate, perRequester := true }

/-- `EXPERT_TOKEN_COUNT` 0x9021:00–0F (20_maintenance_and_telemetry R567). -/
def EXPERT_TOKEN_COUNT : ObjDef :=
  { name := "EXPERT_TOKEN_COUNT", index := 0x9021, lo := 0x00, hi := 0x0F, ty := .array, elem := [4], count := 512,
    access := (.ro, .ro, .ro, .ro), apply := .immediate }

/-- `DEVICE_EPOCH` 0xA001:00 (15_faults_and_recovery R440). -/
def DEVICE_EPOCH : ObjDef :=
  { name := "DEVICE_EPOCH", index := 0xA001, lo := 0x00, hi := 0x00, ty := .u32, elem := [4], count := 1,
    access := (.ro, .ro, .ro, .ro), apply := .immediate }

/-- `ERROR_LOG_INFO` 0xA002:00 (15_faults_and_recovery R440). -/
def ERROR_LOG_INFO : ObjDef :=
  { name := "ERROR_LOG_INFO", index := 0xA002, lo := 0x00, hi := 0x00, ty := .record, elem := [4, 4, 8, 8, 1], count := 1,
    access := (.ro, .ro, .ro, .ro), apply := .immediate }

/-- `ERROR_LOG_SELECT` 0xA003:00 (15_faults_and_recovery R440). -/
def ERROR_LOG_SELECT : ObjDef :=
  { name := "ERROR_LOG_SELECT", index := 0xA003, lo := 0x00, hi := 0x00, ty := .u32, elem := [4], count := 1,
    access := (.rw, .rw, .rw, .rw), apply := .immediate, perRequester := true }

/-- `ERROR_LOG_RECORD` 0xA004:00 (15_faults_and_recovery R440). -/
def ERROR_LOG_RECORD : ObjDef :=
  { name := "ERROR_LOG_RECORD", index := 0xA004, lo := 0x00, hi := 0x00, ty := .octets, elem := [1], count := 64,
    access := (.ro, .ro, .ro, .ro), apply := .immediate }

/-- `ERROR_FLASH_LOG` 0xA005:00 (15_faults_and_recovery R440). -/
def ERROR_FLASH_LOG : ObjDef :=
  { name := "ERROR_FLASH_LOG", index := 0xA005, lo := 0x00, hi := 0x00, ty := .array, elem := [64], count := 64,
    access := (.ro, .none, .ro, .ro), apply := .immediate, flash := true }

/-- `ERROR_FLASH_CLEAR` 0xA006:00 (15_faults_and_recovery R440). -/
def ERROR_FLASH_CLEAR : ObjDef :=
  { name := "ERROR_FLASH_CLEAR", index := 0xA006, lo := 0x00, hi := 0x00, ty := .u8, elem := [1], count := 1,
    access := (.none, .none, .wo, .none), apply := .immediate }

/-- `FACET_RETIRED` 0xA010:00 (15_faults_and_recovery R440). -/
def FACET_RETIRED : ObjDef :=
  { name := "FACET_RETIRED", index := 0xA010, lo := 0x00, hi := 0x00, ty := .octets, elem := [1], count := 24,
    access := (.ro, .ro, .rw, .ro), apply := .nextReset, flash := true }

/-- `FACET_RETIRE_LIMIT` 0xA011:00 (15_faults_and_recovery R440). -/
def FACET_RETIRE_LIMIT : ObjDef :=
  { name := "FACET_RETIRE_LIMIT", index := 0xA011, lo := 0x00, hi := 0x00, ty := .u8, elem := [1], count := 1, dflt := [8],
    access := (.ro, .none, .rw, .ro), apply := .nextReset, flash := true, measured := true }

/-- `DEVICE_RESET` 0xA020:00 (15_faults_and_recovery R440). -/
def DEVICE_RESET : ObjDef :=
  { name := "DEVICE_RESET", index := 0xA020, lo := 0x00, hi := 0x00, ty := .u8, elem := [1], count := 1,
    access := (.wo, .none, .wo, .none), apply := .immediate }

/-- `RESET_RECORD` 0xA021:00 (15_faults_and_recovery R440). -/
def RESET_RECORD : ObjDef :=
  { name := "RESET_RECORD", index := 0xA021, lo := 0x00, hi := 0x00, ty := .record, elem := [1, 4, 8, 4, 8, 4, 2, 8, 1], count := 1,
    access := (.ro, .none, .ro, .ro), apply := .immediate }

/-- `RESET_QUEUE_RANGES` 0xA022:00 (15_faults_and_recovery R440). -/
def RESET_QUEUE_RANGES : ObjDef :=
  { name := "RESET_QUEUE_RANGES", index := 0xA022, lo := 0x00, hi := 0x00, ty := .array, elem := [2, 4, 4], count := 2048,
    access := (.ro, .none, .ro, .none), apply := .immediate }

/-- `PEER_LOST` 0xA023:00 (15_faults_and_recovery R440). -/
def PEER_LOST : ObjDef :=
  { name := "PEER_LOST", index := 0xA023, lo := 0x00, hi := 0x00, ty := .u16, elem := [2], count := 1,
    access := (.wo, .none, .wo, .none), apply := .immediate }

/-- `PEER_LOSS_COUNT` 0xA024:00 (15_faults_and_recovery R440). -/
def PEER_LOSS_COUNT : ObjDef :=
  { name := "PEER_LOSS_COUNT", index := 0xA024, lo := 0x00, hi := 0x00, ty := .u64, elem := [8], count := 1,
    access := (.ro, .none, .ro, .ro), apply := .immediate }

/-- `CRASH_DUMP_STATE` 0xA030:00 (15_faults_and_recovery R440). -/
def CRASH_DUMP_STATE : ObjDef :=
  { name := "CRASH_DUMP_STATE", index := 0xA030, lo := 0x00, hi := 0x00, ty := .u8, elem := [1], count := 1,
    access := (.ro, .none, .ro, .ro), apply := .immediate }

/-- `CRASH_DUMP_SELECT` 0xA031:00 (15_faults_and_recovery R440). -/
def CRASH_DUMP_SELECT : ObjDef :=
  { name := "CRASH_DUMP_SELECT", index := 0xA031, lo := 0x00, hi := 0x00, ty := .u32, elem := [4], count := 1,
    access := (.rw, .none, .rw, .none), apply := .immediate, perRequester := true }

/-- `CRASH_DUMP_DATA` 0xA032:00 (15_faults_and_recovery R440). -/
def CRASH_DUMP_DATA : ObjDef :=
  { name := "CRASH_DUMP_DATA", index := 0xA032, lo := 0x00, hi := 0x00, ty := .octets, elem := [1], count := 4096,
    access := (.ro, .none, .ro, .none), apply := .immediate }

/-- `CRASH_DUMP_CLEAR` 0xA033:00 (15_faults_and_recovery R440). -/
def CRASH_DUMP_CLEAR : ObjDef :=
  { name := "CRASH_DUMP_CLEAR", index := 0xA033, lo := 0x00, hi := 0x00, ty := .u8, elem := [1], count := 1,
    access := (.wo, .none, .wo, .none), apply := .immediate }

/-- `CRASH_DUMP_SKIPPED` 0xA034:00 (15_faults_and_recovery R440). -/
def CRASH_DUMP_SKIPPED : ObjDef :=
  { name := "CRASH_DUMP_SKIPPED", index := 0xA034, lo := 0x00, hi := 0x00, ty := .u64, elem := [8], count := 1,
    access := (.ro, .none, .ro, .ro), apply := .immediate }

/-- `MIRROR_CONFIG` 0xA040:00–0F (15_faults_and_recovery R440). -/
def MIRROR_CONFIG : ObjDef :=
  { name := "MIRROR_CONFIG", index := 0xA040, lo := 0x00, hi := 0x0F, ty := .record, elem := [1, 1, 2, 8, 8], count := 1,
    access := (.rw, .rw, .ro, .ro), apply := .nextStep }

/-- `MIRROR_STATUS` 0xA041:00–0F (15_faults_and_recovery R440). -/
def MIRROR_STATUS : ObjDef :=
  { name := "MIRROR_STATUS", index := 0xA041, lo := 0x00, hi := 0x0F, ty := .record, elem := [4, 4, 4, 8], count := 1, dflt := [4294967295, 4294967295, 4294967295, 0],
    access := (.ro, .ro, .ro, .ro), apply := .immediate }

/-- `STRAGGLER_THRESHOLD` 0xA050:00–0F (15_faults_and_recovery R440). -/
def STRAGGLER_THRESHOLD : ObjDef :=
  { name := "STRAGGLER_THRESHOLD", index := 0xA050, lo := 0x00, hi := 0x0F, ty := .u16, elem := [2], count := 1, dflt := [4],
    access := (.rw, .rw, .ro, .ro), apply := .nextStep }

/-- `STRAGGLER_REPORT` 0xA051:00–0F (15_faults_and_recovery R440). -/
def STRAGGLER_REPORT : ObjDef :=
  { name := "STRAGGLER_REPORT", index := 0xA051, lo := 0x00, hi := 0x0F, ty := .array, elem := [2, 2, 2, 4], count := 16,
    access := (.ro, .ro, .ro, .ro), apply := .immediate }

/-- `MAINT_ENABLE` 0xB000:00 (20_maintenance_and_telemetry R567). -/
def MAINT_ENABLE : ObjDef :=
  { name := "MAINT_ENABLE", index := 0xB000, lo := 0x00, hi := 0x00, ty := .u8, elem := [1], count := 1, dflt := [126],
    access := (.rw, .ro, .rw, .ro), apply := .immediate }

/-- `HBM_RECAL_INTERVAL_MS` 0xB001:00 (20_maintenance_and_telemetry R567). -/
def HBM_RECAL_INTERVAL_MS : ObjDef :=
  { name := "HBM_RECAL_INTERVAL_MS", index := 0xB001, lo := 0x00, hi := 0x00, ty := .u32, elem := [4], count := 1, dflt := [1000],
    access := (.rw, .none, .rw, .ro), apply := .immediate }

/-- `FACET_TEST_INTERVAL_S` 0xB002:00 (20_maintenance_and_telemetry R567). -/
def FACET_TEST_INTERVAL_S : ObjDef :=
  { name := "FACET_TEST_INTERVAL_S", index := 0xB002, lo := 0x00, hi := 0x00, ty := .u32, elem := [4], count := 1, dflt := [86400],
    access := (.rw, .none, .rw, .ro), apply := .immediate }

/-- `THERMAL_CAL_INTERVAL_S` 0xB003:00 (20_maintenance_and_telemetry R567). -/
def THERMAL_CAL_INTERVAL_S : ObjDef :=
  { name := "THERMAL_CAL_INTERVAL_S", index := 0xB003, lo := 0x00, hi := 0x00, ty := .u32, elem := [4], count := 1, dflt := [86400],
    access := (.rw, .none, .rw, .ro), apply := .immediate }

/-- `SCRUB_BOOST_GBPS` 0xB004:00 (20_maintenance_and_telemetry R567). -/
def SCRUB_BOOST_GBPS : ObjDef :=
  { name := "SCRUB_BOOST_GBPS", index := 0xB004, lo := 0x00, hi := 0x00, ty := .u32, elem := [4], count := 1, dflt := [1000],
    access := (.rw, .none, .rw, .ro), apply := .immediate }

/-- `SPOKE_RETUNE_REQUEST` 0xB005:00 (20_maintenance_and_telemetry R567). -/
def SPOKE_RETUNE_REQUEST : ObjDef :=
  { name := "SPOKE_RETUNE_REQUEST", index := 0xB005, lo := 0x00, hi := 0x00, ty := .u8, elem := [1], count := 1,
    access := (.wo, .none, .wo, .none), apply := .immediate }

/-- `MAINT_FACET_TEST` 0xB006:00–0F (20_maintenance_and_telemetry R567). -/
def MAINT_FACET_TEST : ObjDef :=
  { name := "MAINT_FACET_TEST", index := 0xB006, lo := 0x00, hi := 0x0F, ty := .bool, elem := [1], count := 1,
    access := (.rw, .rw, .ro, .ro), apply := .nextStep }

/-- `MAINT_PENDING` 0xB007:00 (20_maintenance_and_telemetry R567). -/
def MAINT_PENDING : ObjDef :=
  { name := "MAINT_PENDING", index := 0xB007, lo := 0x00, hi := 0x00, ty := .array, elem := [1, 2, 8], count := 64,
    access := (.ro, .none, .ro, .ro), apply := .immediate }

/-- `MAINT_HISTORY` 0xB008:00 (20_maintenance_and_telemetry R567). -/
def MAINT_HISTORY : ObjDef :=
  { name := "MAINT_HISTORY", index := 0xB008, lo := 0x00, hi := 0x00, ty := .array, elem := [16], count := 256,
    access := (.ro, .none, .ro, .ro), apply := .immediate }

/-- `MAINT_OVERDUE_COUNT` 0xB009:00 (20_maintenance_and_telemetry R567). -/
def MAINT_OVERDUE_COUNT : ObjDef :=
  { name := "MAINT_OVERDUE_COUNT", index := 0xB009, lo := 0x00, hi := 0x00, ty := .u64, elem := [8], count := 1,
    access := (.ro, .none, .ro, .ro), apply := .immediate }

/-- `AUXIO_CONFIG` 0xB100:00–07 (19_pins_and_interfaces R552). -/
def AUXIO_CONFIG : ObjDef :=
  { name := "AUXIO_CONFIG", index := 0xB100, lo := 0x00, hi := 0x07, ty := .record, elem := [1, 1, 4, 8], count := 1,
    access := (.rw, .none, .rw, .ro), apply := .immediate, flash := true, measured := true }

/-- `AUXIO_STATE` 0xB101:00–07 (19_pins_and_interfaces R552). -/
def AUXIO_STATE : ObjDef :=
  { name := "AUXIO_STATE", index := 0xB101, lo := 0x00, hi := 0x07, ty := .record, elem := [1, 1, 1, 1], count := 1, dflt := [255, 0, 255, 255],
    access := (.ro, .none, .ro, .ro), apply := .immediate }

/-- `GPIO_OUT` 0xB102:00 (19_pins_and_interfaces R552). -/
def GPIO_OUT : ObjDef :=
  { name := "GPIO_OUT", index := 0xB102, lo := 0x00, hi := 0x00, ty := .u8, elem := [1], count := 1,
    access := (.rw, .none, .rw, .none), apply := .immediate }

/-- `GPIO_IN` 0xB103:00 (19_pins_and_interfaces R552). -/
def GPIO_IN : ObjDef :=
  { name := "GPIO_IN", index := 0xB103, lo := 0x00, hi := 0x00, ty := .u8, elem := [1], count := 1,
    access := (.ro, .none, .ro, .ro), apply := .immediate }

/-- `TIMER_STATE` 0xB104:00–07 (19_pins_and_interfaces R552). -/
def TIMER_STATE : ObjDef :=
  { name := "TIMER_STATE", index := 0xB104, lo := 0x00, hi := 0x07, ty := .record, elem := [1, 1], count := 1,
    access := (.ro, .none, .ro, .ro), apply := .immediate }

/-- `TRIG_INTERNAL` 0xB105:00–03 (19_pins_and_interfaces R552). -/
def TRIG_INTERNAL : ObjDef :=
  { name := "TRIG_INTERNAL", index := 0xB105, lo := 0x00, hi := 0x03, ty := .record, elem := [1, 8], count := 1,
    access := (.rw, .none, .rw, .none), apply := .immediate }

/-- `TRIG_LOG` 0xB106:00 (19_pins_and_interfaces R552). -/
def TRIG_LOG : ObjDef :=
  { name := "TRIG_LOG", index := 0xB106, lo := 0x00, hi := 0x00, ty := .array, elem := [1, 1, 8, 8, 4], count := 64,
    access := (.ro, .none, .ro, .ro), apply := .immediate }

/-- `TRACE_CONFIG` 0xB107:00 (19_pins_and_interfaces R552). -/
def TRACE_CONFIG : ObjDef :=
  { name := "TRACE_CONFIG", index := 0xB107, lo := 0x00, hi := 0x00, ty := .record, elem := [1, 4, 1], count := 1, dflt := [0, 4096, 0],
    access := (.rw, .none, .rw, .ro), apply := .immediate }

/-- `TRACE_SELECT` 0xB108:00 (19_pins_and_interfaces R552). -/
def TRACE_SELECT : ObjDef :=
  { name := "TRACE_SELECT", index := 0xB108, lo := 0x00, hi := 0x00, ty := .u32, elem := [4], count := 1,
    access := (.rw, .none, .rw, .none), apply := .immediate, perRequester := true }

/-- `TRACE_DATA` 0xB109:00 (19_pins_and_interfaces R552). -/
def TRACE_DATA : ObjDef :=
  { name := "TRACE_DATA", index := 0xB109, lo := 0x00, hi := 0x00, ty := .octets, elem := [1], count := 4096,
    access := (.ro, .none, .ro, .none), apply := .immediate }

/-- `FAULT_OUT_CLEAR` 0xB10A:00 (19_pins_and_interfaces R552). -/
def FAULT_OUT_CLEAR : ObjDef :=
  { name := "FAULT_OUT_CLEAR", index := 0xB10A, lo := 0x00, hi := 0x00, ty := .u8, elem := [1], count := 1,
    access := (.wo, .none, .wo, .none), apply := .immediate }

/-- `STRAP_STATUS` 0xB110:00 (19_pins_and_interfaces R552). -/
def STRAP_STATUS : ObjDef :=
  { name := "STRAP_STATUS", index := 0xB110, lo := 0x00, hi := 0x00, ty := .record, elem := [1, 1, 1], count := 1,
    access := (.ro, .ro, .ro, .ro), apply := .immediate }

/-- `MGMT_PORT_INFO` 0xB111:00 (19_pins_and_interfaces R552). -/
def MGMT_PORT_INFO : ObjDef :=
  { name := "MGMT_PORT_INFO", index := 0xB111, lo := 0x00, hi := 0x00, ty := .record, elem := [1, 1, 1, 1, 4, 8], count := 1,
    access := (.ro, .none, .ro, .ro), apply := .immediate }

/-- `ALARM_STATUS` 0xB112:00 (19_pins_and_interfaces R552). -/
def ALARM_STATUS : ObjDef :=
  { name := "ALARM_STATUS", index := 0xB112, lo := 0x00, hi := 0x00, ty := .record, elem := [2, 4, 1], count := 1,
    access := (.ro, .none, .ro, .ro), apply := .immediate }

/-- `ALARM_CLEAR` 0xB113:00 (19_pins_and_interfaces R552). -/
def ALARM_CLEAR : ObjDef :=
  { name := "ALARM_CLEAR", index := 0xB113, lo := 0x00, hi := 0x00, ty := .u16, elem := [2], count := 1,
    access := (.wo, .none, .wo, .none), apply := .immediate }

/-- `PCIE_LINK_STATUS` 0xB120:00 (19_pins_and_interfaces R552). -/
def PCIE_LINK_STATUS : ObjDef :=
  { name := "PCIE_LINK_STATUS", index := 0xB120, lo := 0x00, hi := 0x00, ty := .record, elem := [1, 1, 1, 8, 1, 2], count := 1,
    access := (.ro, .none, .ro, .ro), apply := .immediate }

/-- `PPS_IN_INFO` 0xB121:00 (19_pins_and_interfaces R552). -/
def PPS_IN_INFO : ObjDef :=
  { name := "PPS_IN_INFO", index := 0xB121, lo := 0x00, hi := 0x00, ty := .record, elem := [8, 8, 8, 4], count := 1,
    access := (.ro, .ro, .ro, .ro), apply := .immediate }

/-- `MA_ISSUE_CYCLES` 0xC400:00–BF (04_matrix_engine R136). -/
def MA_ISSUE_CYCLES : ObjDef :=
  { name := "MA_ISSUE_CYCLES", index := 0xC400, lo := 0x00, hi := 0xBF, ty := .u64, elem := [8], count := 1,
    access := (.ro, .none, .ro, .ro), apply := .immediate }

/-- `MA_SKIP_CYCLES` 0xC401:00–BF (04_matrix_engine R136). -/
def MA_SKIP_CYCLES : ObjDef :=
  { name := "MA_SKIP_CYCLES", index := 0xC401, lo := 0x00, hi := 0xBF, ty := .u64, elem := [8], count := 1,
    access := (.ro, .none, .ro, .ro), apply := .immediate }

/-- `MA_RETRY_CYCLES` 0xC402:00–BF (04_matrix_engine R136). -/
def MA_RETRY_CYCLES : ObjDef :=
  { name := "MA_RETRY_CYCLES", index := 0xC402, lo := 0x00, hi := 0xBF, ty := .u64, elem := [8], count := 1,
    access := (.ro, .none, .ro, .ro), apply := .immediate }

/-- `FM_CORRECTED_COUNT` 0xC403:00–BF (05_vector_engine_and_sequencer R168). -/
def FM_CORRECTED_COUNT : ObjDef :=
  { name := "FM_CORRECTED_COUNT", index := 0xC403, lo := 0x00, hi := 0xBF, ty := .u64, elem := [8], count := 1,
    access := (.ro, .none, .ro, .ro), apply := .immediate }

/-- `FM_UNCORRECTABLE_COUNT` 0xC404:00–BF (05_vector_engine_and_sequencer R168). -/
def FM_UNCORRECTABLE_COUNT : ObjDef :=
  { name := "FM_UNCORRECTABLE_COUNT", index := 0xC404, lo := 0x00, hi := 0xBF, ty := .u64, elem := [8], count := 1,
    access := (.ro, .none, .ro, .ro), apply := .immediate }

/-- `VE_ISSUE_CYCLES` 0xC405:00–BF (05_vector_engine_and_sequencer R168). -/
def VE_ISSUE_CYCLES : ObjDef :=
  { name := "VE_ISSUE_CYCLES", index := 0xC405, lo := 0x00, hi := 0xBF, ty := .u64, elem := [8], count := 1,
    access := (.ro, .none, .ro, .ro), apply := .immediate }

/-- `SEQ_SWITCH_COUNT` 0xC406:00–BF (05_vector_engine_and_sequencer R168). -/
def SEQ_SWITCH_COUNT : ObjDef :=
  { name := "SEQ_SWITCH_COUNT", index := 0xC406, lo := 0x00, hi := 0xBF, ty := .u64, elem := [8], count := 1,
    access := (.ro, .none, .ro, .ro), apply := .immediate }

/-- `FM_ZERO_COUNT` 0xC407:00–BF (05_vector_engine_and_sequencer R168). -/
def FM_ZERO_COUNT : ObjDef :=
  { name := "FM_ZERO_COUNT", index := 0xC407, lo := 0x00, hi := 0xBF, ty := .u64, elem := [8], count := 1,
    access := (.ro, .none, .ro, .ro), apply := .immediate }

/-- `FACET_BUSY_NS` 0xC408:00–BF (20_maintenance_and_telemetry R567). -/
def FACET_BUSY_NS : ObjDef :=
  { name := "FACET_BUSY_NS", index := 0xC408, lo := 0x00, hi := 0xBF, ty := .u64, elem := [8], count := 1,
    access := (.ro, .none, .ro, .ro), apply := .immediate }

/-- Part 0 of the table of every object. -/
def table0 : List ObjDef :=   [PART_NUMBER, PART_VARIANT, STEPPING, SERIAL_NUMBER, DICT_VERSION, DEVICE_STATE,
   DEVICE_STATE_INFO, UPTIME_MS, DICT_STATS, FW_UPDATE_CONTROL, FW_UPDATE_DATA, FW_UPDATE_STATUS,
   FLASH_STORE_INFO, FLASH_RESTORE_DEFAULTS, REFQ_SEL, REF_STATUS, PLL_STATUS, CLOCK_DOMAIN_INFO, CLKOBS,
   FACET_CLOCK_LIMIT_MHZ, FACET_CLOCK_NOW, AVS_STATUS, POWER_CAP_W, POWER_NOW, RAIL_STATUS, THROTTLE_STATUS,
   THERMAL_NOW, THERMAL_THROTTLE_C, THERMAL_TRIP_COUNT, PERST_SCOPE, BEAT_PERIOD_NS, BEAT_COUNT,
   CADENCE_STATE, BEAT_MASTER_PRIORITY, BEAT_MASTER_NODE, BEAT_OFFSET_NS, BEAT_UPSTREAM_SPOKE,
   BEAT_EPOCH_START_SEC, BEAT_ALIGN_LIMIT_NS, TIME_NOW]

/-- Part 1 of the table of every object. -/
def table1 : List ObjDef :=   [TIME_SECONDS_NEXT, TIME_STATE, PPS_OFFSET_NS, PPS_DELAY_NS, LATE_POLICY,
   LATE_TIMEOUT_MS, REPLAY_MODE, DROP_LEDGER_ADDR, DROP_LEDGER_ENTRIES, PLAN_ADDR, PLAN_START_BEAT,
   PLAN_CONTROL, PLAN_STATE, STEP_NUMBER, PLAN_SLIP_BEATS, PLAN_STATUS_QUEUE, PLAN_FIRST_STEP, HBM_REGION,
   HBM_UNIT_WRITTEN, HBM_WRITTEN_MAP, HBM_RETIRED_PAGES, HBM_CORRECTED_COUNT, HBM_UNCORRECTABLE_COUNT,
   HBM_POISON_READ_COUNT, HBM_ONDIE_CORRECTED_COUNT, HBM_MERGE_RMW_COUNT, HBM_MERGE_FULL_COUNT,
   HBM_SCRUB_PASSES, SRAM_CORRECTED_COUNT, SRAM_UNCORRECTABLE_COUNT, HBM_BYTES, ECC_INJECT_ALLOW,
   ECC_FLIP_TARGET, ECC_FLIP_FACET, ECC_FLIP_ADDRESS, ECC_FLIP_DATA_MASK, ECC_FLIP_CHECK_MASK,
   ECC_FLIP_CONTROL, ECC_FLIP_STATUS, SELFTEST_RESULT]

/-- Part 2 of the table of every object. -/
def table2 : List ObjDef :=   [FABRIC_ADDR_MODE, FABRIC_REPLY_TIMEOUT_MS, FABRIC_RETRY_LIMIT,
   FABRIC_TOMBSTONE_MS, FABRIC_RCACHE_ENTRIES, FABRIC_RETRY_COUNT, FABRIC_DUP_REPLY_COUNT, FABRIC_BUSY_COUNT,
   FABRIC_UNKNOWN_COUNT, FABRIC_PROTECTION_COUNT, FABRIC_CACHE_HITS, FABRIC_CACHE_MISSES, SPOKE_STATE,
   SPOKE_CONTROL, SPOKE_LANES_ACTIVE, SPOKE_MODE, SPOKE_ASYM_NS, SPOKE_PEER_POLICY, SPOKE_REKEY_S,
   HUP_RTO_MIN_NS, HUP_GIVEUP_MS, SPOKE_ETH_CONFIG, SPOKE_TX_BYTES, SPOKE_RX_BYTES, SPOKE_FEC_CORRECTED,
   SPOKE_FEC_UNCORRECTED, SPOKE_REPLAY_COUNT, SPOKE_DEGRADE_COUNT, SPOKE_AUTH_FAIL_COUNT,
   SPOKE_PEER_REFUSED_COUNT, SPOKE_ETH_DROP_COUNT, HUP_RETX_COUNT, HUP_DUP_DISCARD_COUNT,
   HUP_STALE_DISCARD_COUNT, HUP_HOP_DISCARD_COUNT, HUP_REROUTE_COUNT, HUP_FORMAT_DISCARD_COUNT, NODE_NUMBER,
   SPOKE_PEER, TOPO_MISWIRE_COUNT]

/-- Part 3 of the table of every object. -/
def table3 : List ObjDef :=   [LATTICE_ROUTE, RANK_MAP_STAGED, RANK_MAP_ACTIVE, RANK_MAP_COMMIT,
   RANK_MAP_PENDING_STEP, LOCAL_RANK, TOPO_UNMAPPED_DISCARD_COUNT, QUEUE_CREATE, QUEUE_CONTROL, QUEUE_SELECT,
   QUEUE_STATE, DOORBELL_DISCARD_COUNT, QUEUE_ERROR_COUNT, CQ_SUMMARY_COUNT, CQ_STALL_COUNT,
   CQ_SUMMARY_PENDING, POOL_CONFIG, POOL_REQUESTER, POOL_ENGINE_REQUESTER, POOL_FREE, POOL_HELD,
   POOL_EXHAUSTED_COUNT, POOL_FOREIGN_FREE_COUNT, POOL_STALE_HANDLE_COUNT, CONTEXT_RESET, CONTEXT_GENERATION,
   CONTEXT_STATE, CONTEXT_RESET_COUNT, NARROW_RETRY_BINADES, ACC_RETRY_SHIFT, SCALE_UNDERFLOW_COUNT,
   SAT_COUNT, NARROW_RETRY_COUNT, SCALE_EXHAUSTED_COUNT, NAN_BLOCK_COUNT, ACC_RETRY_COUNT,
   ACC_EXHAUSTED_COUNT, MATRIX_REFUSED_COUNT, CONTEXT_SEED, VPROG_INSN_LIMIT]

/-- Part 4 of the table of every object. -/
def table4 : List ObjDef :=   [VECTOR_REFUSED_COUNT, TREE_REALIGN_INEXACT_COUNT, TREE_RETRY_COUNT,
   SPARSE_FALLBACK_COUNT, PRUNE_COUNT, SPARSE_MALFORMED_COUNT, SPARSE_REFUSED_COUNT, PREDICTOR_ENABLE,
   PREDICTOR_THRESHOLD, PREDICTOR_GUARD, PREDICTOR_STATS_ADDR, ROUTER_BATCH_EPOCH, ROUTER_CANCEL,
   ROUTER_UNAVAIL_ACTION, ROUTER_SPILL_COUNT, ROUTER_DROP_COUNT, ROUTER_EXIT_COUNT, ROUTER_NAN_TOKEN_COUNT,
   ROUTER_STALE_COUNT, ROUTER_PROTOCOL_COUNT, ROUTER_UNAVAILABLE_COUNT, ROUTER_REFUSED_COUNT,
   ROUTER_DRAIN_PENDING, CODEC_IN_BYTES, CODEC_OUT_BYTES, CODEC_RESTORE_BYTES, PIPE_ABSENT_MASK,
   PIPE_ABSENT_ADDR, CANONICAL_REDUCTION, COLL_NAN_ELEMENT_COUNT, COLL_RETRY_COUNT, COLL_EXHAUSTED_COUNT,
   COLL_REALIGN_INEXACT_COUNT, COLL_DISCARD_COUNT, COLL_REFUSED_COUNT, COLL_ZERO_MARKER_COUNT, BOOT_STATUS,
   MEASUREMENT, SEC_FUSES, SEC_FUSE_COMMIT]

/-- Part 5 of the table of every object. -/
def table5 : List ObjDef :=   [SEC_ATTESTED_ANCHORS, CONTEXT_OWNER, CONTEXT_CLAIM, CONTEXT_KEY,
   CONTEXT_KEY_NEXT, CONTEXT_TRANSFER_KEY, CONTEXT_KEY_STATE, CONTEXT_KEY_RETENTION, CONTEXT_RELEASE,
   CONTEXT_FUNCTION, KEY_ROTATE_CURSOR, SEAL_REJECT_COUNT, DEBUG_UNLOCK, SEC_SESSION_COUNT, ZEROISE_COUNT,
   TELEMETRY_QUEUE, TELEMETRY_MASK, TELEMETRY_DROP_COUNT, PHASE_TIMING, SLOT_SLACK_HIST, EXPERT_TOKEN_LAYER,
   EXPERT_TOKEN_COUNT, DEVICE_EPOCH, ERROR_LOG_INFO, ERROR_LOG_SELECT, ERROR_LOG_RECORD, ERROR_FLASH_LOG,
   ERROR_FLASH_CLEAR, FACET_RETIRED, FACET_RETIRE_LIMIT, DEVICE_RESET, RESET_RECORD, RESET_QUEUE_RANGES,
   PEER_LOST, PEER_LOSS_COUNT, CRASH_DUMP_STATE, CRASH_DUMP_SELECT, CRASH_DUMP_DATA, CRASH_DUMP_CLEAR,
   CRASH_DUMP_SKIPPED]

/-- Part 6 of the table of every object. -/
def table6 : List ObjDef :=   [MIRROR_CONFIG, MIRROR_STATUS, STRAGGLER_THRESHOLD, STRAGGLER_REPORT,
   MAINT_ENABLE, HBM_RECAL_INTERVAL_MS, FACET_TEST_INTERVAL_S, THERMAL_CAL_INTERVAL_S, SCRUB_BOOST_GBPS,
   SPOKE_RETUNE_REQUEST, MAINT_FACET_TEST, MAINT_PENDING, MAINT_HISTORY, MAINT_OVERDUE_COUNT, AUXIO_CONFIG,
   AUXIO_STATE, GPIO_OUT, GPIO_IN, TIMER_STATE, TRIG_INTERNAL, TRIG_LOG, TRACE_CONFIG, TRACE_SELECT,
   TRACE_DATA, FAULT_OUT_CLEAR, STRAP_STATUS, MGMT_PORT_INFO, ALARM_STATUS, ALARM_CLEAR, PCIE_LINK_STATUS,
   PPS_IN_INFO, MA_ISSUE_CYCLES, MA_SKIP_CYCLES, MA_RETRY_CYCLES, FM_CORRECTED_COUNT, FM_UNCORRECTABLE_COUNT,
   VE_ISSUE_CYCLES, SEQ_SWITCH_COUNT, FM_ZERO_COUNT, FACET_BUSY_NS]

/-- Every object of the tables, in increasing index and sub. -/
def table : List ObjDef :=
  table0 ++ table1 ++ table2 ++ table3 ++ table4 ++ table5 ++ table6

end Obj

end Sys2Proof.Machine
end

