-- ==== Sys2Proof/Machine/Ops.lean ====
section
/-! DEFINITION. Sys2Proof/Machine/Ops.lean: the named operations over the state: registers, free values, the error log,
HBM, facet memory, and the spaces of a context. -/

namespace Sys2Proof.Machine

/-- The outcome of one command. -/
abbrev Res := Host.Outcome State Fault Refusal

/-! ### One part of the state replaced -/

/-- The HBM replaced. -/
def State.setHbm (s : State) (x : Hbm) : State := { s with hbm := x }

/-- Facet memory replaced. -/
def State.setFm (s : State) (x : FacetMem) : State := { s with fm := x }

/-- The recovery record replaced. -/
def State.setRcv (s : State) (x : Recovery) : State := { s with rcv := x }

/-- The transport replaced. -/
def State.setHup (s : State) (x : Hupatas) : State := { s with hup := x }

/-- The error log replaced. -/
def State.setLog (s : State) (x : ErrLog) : State := { s with log := x }

/-- The pins replaced. -/
def State.setPins (s : State) (x : Pins) : State := { s with pins := x }

/-- The root of trust replaced. -/
def State.setSec (s : State) (x : Security) : State := { s with sec := x }

/-- The dictionary replaced. -/
def State.setDict (s : State) (x : Dict) : State := { s with dict := x }

/-- Clocks and rails replaced. -/
def State.setPower (s : State) (x : Power) : State := { s with power := x }

/-- The flash replaced. -/
def State.setFlash (s : State) (x : Flash) : State := { s with flash := x }

/-- The maintenance arbiter replaced. -/
def State.setMaint (s : State) (x : Maint) : State := { s with maint := x }

/-- The items replaced. -/
def State.setItems (s : State) (x : Table Item) : State := { s with items := x }

/-- The queues replaced. -/
def State.setQueues (s : State) (x : Table Queue) : State := { s with queues := x }

/-- The facets replaced. -/
def State.setFacets (s : State) (x : Table Facet) : State := { s with facets := x }

/-- The outputs that wait for their window replaced. -/
def State.setOutgoing (s : State) (x : List Outgoing) : State := { s with outgoing := x }

/-- The pending maps replaced. -/
def State.setMaps (s : State) (x : Table (List Nat)) : State := { s with maps := x }

/-! ### Registers -/

/-- Every field of an object's value. -/
def State.fields (s : State) (o : ObjDef) (sub : Nat) : List Nat :=
  match tfind s.objs (o.key sub) with
  | some l => (List.range o.fields).map (fun i => l.getD i (o.defaultField i))
  | none => o.default

/-- Field `i` of an object's value. -/
def State.regF (s : State) (o : ObjDef) (sub i : Nat) : Nat :=
  match tfind s.objs (o.key sub) with
  | some l => l.getD i (o.defaultField i)
  | none => o.defaultField i

/-- The value of a scalar object, or the first field of another. -/
def State.reg (s : State) (o : ObjDef) (sub : Nat := 0) : Nat := s.regF o sub 0

/-- The listed fields of an object with field `i` set, padded with defaults up to it. -/
def setField (o : ObjDef) (l : List Nat) (i v : Nat) : List Nat :=
  if i < l.length then l.set i v
  else l ++ (range2 l.length i).map o.defaultField ++ [v]

/-- Field `i` of an object written by the device. -/
def State.setRegF (s : State) (o : ObjDef) (sub i v : Nat) : State :=
  { s with objs := tset s.objs (o.key sub) (setField o (tget [] s.objs (o.key sub)) i v) }

/-- A scalar object written by the device. -/
def State.setReg (s : State) (o : ObjDef) (sub v : Nat) : State := s.setRegF o sub 0 v

/-- Every field of an object written. -/
def State.setFields (s : State) (o : ObjDef) (sub : Nat) (l : List Nat) : State :=
  { s with objs := tset s.objs (o.key sub) l }

/-- An object put back to its default. -/
def State.clearReg (s : State) (o : ObjDef) (sub : Nat) : State :=
  { s with objs := terase s.objs (o.key sub) }

/-- The width in bytes of field `i`. -/
def ObjDef.width (o : ObjDef) (i : Nat) : Nat := o.elem.getD (i % o.elem.length) 8

/-- A counter advanced; it holds at its largest value (03_formats_and_scaling R104). -/
def State.bumpF (s : State) (o : ObjDef) (sub i n : Nat) : State :=
  s.setRegF o sub i (satAdd (o.width i) (s.regF o sub i) n)

/-- A scalar counter advanced by `n`. -/
def State.bump (s : State) (o : ObjDef) (sub : Nat) (n : Nat := 1) : State := s.bumpF o sub 0 n

/-- A FLASH object's value is made durable in the flash object store (17_object_dictionary R475). -/
def State.flashPut (s : State) (o : ObjDef) (sub : Nat) (l : List Nat) : State :=
  (s.setFlash { s.flash with store := tset s.flash.store (o.key sub) l })

/-- The flash object store could not be written: the index is kept for FLASH_STORE_INFO (17 R496). -/
def State.flashFailed (s : State) (o : ObjDef) : State := (s.setFlash { s.flash with lastFailed := o.index })

/-! ### Free values and output -/

/-- A fresh value the spec leaves open, below `n`. -/
def State.fresh (s : State) (n : Nat) : Nat := Config.freeNat s.freeCtr % n

/-- The state after one free value has been taken. -/
def State.took (s : State) : State := { s with freeCtr := s.freeCtr + 1 }

/-- Something leaves the device. (DESIGN CHOICE, notes/assumptions/39.) -/
def State.emit (s : State) (e : Emit) : State := { s with out := s.out ++ [e] }

/-- The outcome of a write of an object goes to its requester: 0 or an abort code (17_object_dictionary R489). -/
def State.answer (s : State) (who : Who) (o : ObjDef) (sub code : Nat) : State := s.emit (.answer who (o.key sub) code)

/-! ### Contexts, plans, time -/

/-- A context's plan record. -/
def State.plan (s : State) (c : Nat) : Plan := tget {} s.plans c

/-- A context's plan record replaced. -/
def State.setPlan (s : State) (c : Nat) (p : Plan) : State := { s with plans := tset s.plans c p }

/-- The time counter as nanoseconds since second 0 (02_beat_and_time R42). -/
def State.now (s : State) : Nat := 1000000000 * s.cad.sec + s.cad.ns

/-- The beat counter (02 R30). -/
def State.beat (s : State) : Nat := s.reg Obj.BEAT_COUNT

/-- A context's generation tag (15 R407). -/
def State.gen (s : State) (c : Nat) : Nat := s.reg Obj.CONTEXT_GENERATION c

/-- The device epoch (15 R406). -/
def State.epoch (s : State) : Nat := s.reg Obj.DEVICE_EPOCH

/-- PLAN_STATE values (02 R73). -/
def planEmpty : Nat := 0
def planLoaded : Nat := 1
def planArmed : Nat := 2
def planRunning : Nat := 3
def planHalted : Nat := 4
def planStopped : Nat := 5

/-- A context's plan state (02 R52). -/
def State.planState (s : State) (c : Nat) : Nat := s.reg Obj.PLAN_STATE c

/-- The facets of a facet set, as a 192-bit word (02 R50). -/
def PlanImage.facetsOf (im : PlanImage) (sl : Slot) : Nat := im.facetSets.getD sl.facetSet 0

/-- A slot of a plan is running on the facet (02 R26, R54). -/
def Plan.runsOn (p : Plan) (f : Nat) : Bool := p.slots.any (fun e => e.2.phase == .running && bit e.2.facets f)

/-- The facet serves the context in the present beat: a slot of it runs there, and the zeroing that delays its start is over
(02 R26, 05 R140, R141). -/
def State.facetServes (s : State) (f c : Nat) : Bool := (s.plan c).runsOn f && !(tget {} s.facets f).zeroing

/-- The context the facet serves, if any. -/
def State.servedBy (s : State) (f : Nat) : Option Nat := (tkeys s.plans).find? (fun c => s.facetServes f c)

/-! ### The error log -/

/-- The class of an event code (15_faults_and_recovery R405, 20 R560). -/
def codeClass (code : Nat) : Nat :=
  if code < 0x010 then 0 else if code < 0x030 then 2 else if code < 0x060 then 1
  else if code < 0x070 then 3 else if code < 0x080 then 4 else if code < 0x090 then 5 else 6

/-- The codes that raise ALERT_N (15 R402, R405, 20 R560). -/
def codeAlarm (code : Nat) : Bool :=
  [0x030, 0x031, 0x033, 0x034].contains code || decide (3 ≤ codeClass code)

/-- What a caller says of an event. -/
structure Event where
  code : Nat
  sub : Nat
  inst : Nat := 0xFF
  ctx : Nat := 0
  slot : Nat := 0xFFFF
  status : Nat := 0xFF
  info0 : Nat := 0
  info1 : Nat := 0
  info2 : Nat := 0
  deriving DecidableEq, Repr

/-- The record of an event at the present state (15 R403). -/
def Event.record (e : Event) (s : State) : ErrRec :=
  { seq := s.log.nextSeq, cls := codeClass e.code, sub := e.sub, inst := e.inst, code := e.code, ctx := e.ctx,
    gen := s.gen e.ctx, epoch := s.epoch, sec := s.cad.sec, ns := s.cad.ns, beat := s.beat,
    step := if s.planState e.ctx = planRunning ∨ s.planState e.ctx = planHalted then s.reg Obj.STEP_NUMBER e.ctx else 0xFFFFFFFF,
    slot := e.slot, status := e.status, info0 := e.info0, info1 := e.info1, info2 := e.info2 }

/-- The triple by which CORRECTED records are limited (15 R404). -/
def Event.triple (e : Event) : Nat := 32768 * (256 * e.sub + e.inst) + e.code

/-- A record added to the ring of 4,096, the oldest overwritten (15 R404); a fatal one waits for its flash copy. -/
def ErrLog.add (l : ErrLog) (r : ErrRec) : ErrLog :=
  let ring := l.ring ++ [r]
  let beyond := decide (4096 < ring.length)
  { l with
    ring := if beyond then ring.tail else ring
    overwritten := if beyond then l.overwritten + 1 else l.overwritten
    nextSeq := (l.nextSeq + 1) % 2 ^ 32
    toFlash := if r.cls = 4 ∨ r.cls = 6 then l.toFlash ++ [r] else l.toFlash }

/-- An entry put into the trace buffer unless it is frozen (19_pins_and_interfaces R549). -/
def State.trace (s : State) (e : TraceEntry) : State :=
  let t := s.pins.trace
  match t.countdown with
  | some 0 => s
  | some (n + 1) =>
    let s := (s.setPins { s.pins with trace := { t with entries := keepLast 32768 (t.entries ++ [e]), countdown := some n } })
    if n = 0 then s.setRegF Obj.TRACE_CONFIG 0 2 1 else s
  | none => (s.setPins { s.pins with trace := { t with entries := keepLast 32768 (t.entries ++ [e]) } })

/-- The holder of the trace buffer starts to freeze it: FREEZE_AFTER entries after its event (19 R549). -/
def State.freezeTrace (s : State) (holder : Nat) : State :=
  if s.regF Obj.TRACE_CONFIG 0 0 = holder ∧ s.pins.trace.countdown = none then
    let n := s.regF Obj.TRACE_CONFIG 0 1
    let s := (s.setPins { s.pins with trace := { s.pins.trace with countdown := some n } })
    if n = 0 then s.setRegF Obj.TRACE_CONFIG 0 2 1 else s
  else s

/-- The pins that carry FAULT_OUT for a class (19 R546): PARAM holds a bit for each class, 0 meaning DEVICE_FATAL only. -/
def State.faultOutPins (s : State) (cls : Nat) : List Nat :=
  (List.range 8).filter (fun p => s.regF Obj.AUXIO_STATE p 0 == 2 &&
    (let m := s.regF Obj.AUXIO_CONFIG p 3; bit (if m = 0 then 64 else m) cls))

/-- The alarms of a record: ALERT_N with its class pending (15 R402, 19 R539), an in-band interrupt in I3C mode as it is asserted,
and FAULT_OUT. -/
def State.alarm (s : State) (r : ErrRec) : State :=
  let s := if codeAlarm r.code then
      let pend := s.regF Obj.ALARM_STATUS 0 0
      let s := if pend = 0 then s.setRegF Obj.ALARM_STATUS 0 1 r.seq else s
      let s := if s.regF Obj.ALARM_STATUS 0 2 = 0 ∧ s.regF Obj.STRAP_STATUS 0 1 = 0 then s.emit .inBand else s
      (s.setRegF Obj.ALARM_STATUS 0 0 (pend ||| (1 <<< r.cls))).setRegF Obj.ALARM_STATUS 0 2 1
    else s
  (s.setPins { s.pins with faultOut := (s.faultOutPins r.cls).foldl nsInsert s.pins.faultOut })

/-- A record is written: ring, alarm, trace (15 R404, 19 R549). -/
def State.writeRecord (s : State) (r : ErrRec) : State :=
  let s := (s.setLog (s.log.add r))
  let s := (s.alarm r).trace (.error r.code r.seq)
  if r.cls = 4 ∨ r.cls = 6 then s.freezeTrace 0 else s

/-- An event is recorded, with the rate limit of CORRECTED records: one in a second for each triple (15 R404). (DESIGN CHOICE,
notes/assumptions/84.) -/
def State.log! (s : State) (e : Event) : State :=
  if codeClass e.code = 0 then
    let last := tfind s.log.limited e.triple
    let within := match last with | some (t, _) => decide (t ≤ s.now) && decide (s.now < t + 1000000000) | none => false
    let (t, n) := last.getD (0, 0)
    if within then
      s.setLog { s.log with suppressed := s.log.suppressed + 1, limited := tset s.log.limited e.triple (t, n + 1) }
    else
      let r := { e with info2 := n }.record s
      (s.setLog { s.log with limited := tset s.log.limited e.triple (s.now, 0) }).writeRecord r
  else s.writeRecord (e.record s)

/-! ### Addressed bytes -/

/-- The byte at an address; an unlisted address reads 0 (DESIGN CHOICE, notes/assumptions/3). -/
def Memory.get (m : Memory) (a : Nat) : Byte := tget 0 m.cells a

/-- A cell list with one byte written, kept in canonical form. -/
def putCell (l : List Host.Cell) (a : Nat) (b : Byte) : List Host.Cell :=
  match l with
  | [] => if b = 0 then [] else [(a, b)]
  | (k, c) :: r =>
    if a < k then (if b = 0 then (k, c) :: r else (a, b) :: (k, c) :: r)
    else if a = k then (if b = 0 then r else (a, b) :: r)
    else (k, c) :: putCell r a b

/-- One byte written; writing 0 removes the entry. -/
def Memory.put (m : Memory) (a : Nat) (b : Byte) : Memory := ⟨putCell m.cells a b⟩

/-- `n` bytes from an address. -/
def Memory.getN (m : Memory) (a : Nat) : Nat → Bytes
  | 0 => []
  | n + 1 => m.get a :: m.getN (a + 1) n

/-- Bytes written from an address up. -/
def Memory.putN (m : Memory) (a : Nat) : Bytes → Memory
  | [] => m
  | b :: bs => (m.put a b).putN (a + 1) bs

/-- The bytes of a half-open range forgotten: they read as unlisted. -/
def Memory.drop (m : Memory) (lo hi : Nat) : Memory :=
  ⟨m.cells.filter (fun c => !(decide (lo ≤ c.1) && decide (c.1 < hi)))⟩

/-- The addresses of a cell list strictly rise, starting above a bound, and no listed byte is 0. -/
def cellsWf : Option Nat → List Host.Cell → Bool
  | _, [] => true
  | lo, (k, b) :: r => (match lo with | none => true | some j => decide (j < k)) && (b != 0) && cellsWf (some k) r

/-- The canonical form of a memory. -/
def Memory.wf (m : Memory) : Bool := cellsWf none m.cells

/-! ### HBM -/

/-- Sectors of 32 bytes, granules of 128, units of 16 MiB (13_hbm_and_ecc R353-R355). -/
def unitBytes : Nat := 16777216
def hbmBytes : Nat := 384000000000
def hbmUnits : Nat := 22888
def dumpUnit : Nat := 22884

/-- The pseudo-channel index of a physical address (13 R354). -/
def hbmPc (p : Nat) : Nat :=
  let g := p / 128
  let l := g % 512
  let q := g / 512
  Nat.xor l (Nat.xor (field q 0 9) (Nat.xor (field q 9 9) (field q 18 5)))

/-- Stack, channel in the stack and pseudo-channel of a pseudo-channel index (13 R354). -/
def pcStack (pc : Nat) : Nat := field pc 0 3
def pcChannel (pc : Nat) : Nat := field pc 3 5
def pcPseudo (pc : Nat) : Nat := field pc 8 1

/-- Channel number 32 * stack + channel (13 R374). -/
def hbmChannel (p : Nat) : Nat := 32 * pcStack (hbmPc p) + pcChannel (hbmPc p)

/-- Controller 2s or 2s + 1 (13 R353). -/
def hbmController (p : Nat) : Nat := 2 * pcStack (hbmPc p) + pcChannel (hbmPc p) / 16

/-- The byte of the pseudo-channel a physical address lies at (13 R354). -/
def hbmPcByte (p : Nat) : Nat := 128 * (p / 128 / 512) + p % 128

/-- The page of a physical address is retired (13 R369). -/
def State.pageRetired (s : State) (p : Nat) : Bool :=
  match tfind s.objs (Obj.HBM_RETIRED_PAGES.key 0) with
  | none => false
  | some l => l.contains (p - p % 4096)

/-- How many 8-bit symbols of a flipped codeword are in error (13 R358). -/
def symbolErrors (d k : Nat) : Nat :=
  ((List.range 32).filter (fun i => field d (8 * i) 8 != 0)).length
    + ((List.range 4).filter (fun i => field k (8 * i) 8 != 0)).length

/-- The context whose region holds a physical address (13 R359), 0 when none does. -/
def State.regionOf (s : State) (p : Nat) : Nat :=
  ((List.range 16).find? (fun c =>
    let b := unitBytes * s.regF Obj.HBM_REGION c 0
    decide (b ≤ p) && decide (p < b + unitBytes * s.regF Obj.HBM_REGION c 1))).getD 0

/-- The context whose region holds a sector enciphers it under its key, context 0 under the key drawn at boot, and one in rotation under its
new key in the units below the cursor (16_security R456, R459, R460); a region without a key counts as key 0. -/
def State.xtsKey (s : State) (c sector : Nat) : Nat :=
  let k := tget ({} : ContextKeys) s.sec.keys c
  let turned := decide (sector * 32 / unitBytes < s.regF Obj.HBM_REGION c 0 + s.reg Obj.KEY_ROTATE_CURSOR c)
  (if c = 0 then s.sec.serviceKey else match k.next with | some n => if turned then some n else k.xts | none => k.xts).getD 0

/-- The tweak of a sector (16_security R460). -/
def xtsTweak (c sector : Nat) : Nat := place c 124 4 + place sector 0 34

/-- What the DRAM cells of a sector hold of its 32 bytes (00_scope R15, 16_security R460): the model keeps the plaintext, and this is the
ciphertext of it; the crash-dump region is not encrypted (16 R461). (DESIGN CHOICE, notes/assumptions/149.) -/
def State.dramSector (s : State) (sector : Nat) (plain : Bytes) : Nat :=
  let c := s.regionOf (sector * 32)
  let w := ofLE plain
  let cipher := fun (j : Nat) => Config.xtsEncrypt (s.xtsKey c sector) (xtsTweak c sector) j (field w (128 * j) 128)
  if dumpUnit ≤ sector * 32 / unitBytes then w else place (cipher 0) 0 128 + place (cipher 1) 128 128

/-- The plaintext of a sector whose ciphertext has been changed by a mask that no check reveals: a 16-byte block that the mask spares keeps
its bytes, another deciphers to what the cipher gives (13 R371, 16 R460). -/
def State.garble (s : State) (sector : Nat) (plain : Bytes) (mask : Nat) : Bytes :=
  let c := s.regionOf (sector * 32)
  let w := Nat.xor (s.dramSector sector plain) mask
  if dumpUnit ≤ sector * 32 / unitBytes then leBytes 32 w
  else (List.range 2).flatMap (fun j =>
    if field mask (128 * j) 128 = 0 then (plain.drop (16 * j)).take 16
    else leBytes 16 (Config.xtsDecrypt (s.xtsKey c sector) (xtsTweak c sector) j (field w (128 * j) 128)))

/-- The number of a class of stored data in records 0x001 and 0x011: the classes of SRAM in R360's order, and 8 for HBM (15 R405;
DESIGN CHOICE, notes/assumptions/84). -/
def hbmClass : Nat := 8

/-- An uncorrectable sector is found (13 R359): poison pattern, count and record 0x010, which carries the page, the place in the stacks,
the syndrome and the requester, a subsystem of 01_device_and_step R17. -/
def State.hbmUncorrectable (s : State) (sector requester : Nat) : State :=
  let p := sector * 32
  let pc := hbmPc p
  let (d, k) := tget (0, 0) s.hbm.flips sector
  let s := (s.setHbm { s.hbm with poison := nsInsert s.hbm.poison sector, flips := terase s.hbm.flips sector,
                                  elsewhere := nsErase s.hbm.elsewhere sector, mem := s.hbm.mem.drop p (p + 32) })
  let s := s.bump Obj.HBM_UNCORRECTABLE_COUNT (hbmChannel p)
  s.log! { code := 0x010, sub := 5, inst := hbmController p, ctx := s.regionOf p, info0 := p,
           info1 := place (p / 4096) 36 28 + place (pcStack pc) 33 3 + place (pcChannel pc) 28 5 + place (pcPseudo pc) 27 1
             + place (Config.bankRow (hbmPcByte p)) 8 19 + place (Config.syndrome d k) 0 8,
           info2 := requester }

/-- What a read of one sector's cells meets, merge entry and page retirement apart (13 R358, R359): true when it is poisoned. -/
def State.checkSector (s : State) (sector requester : Nat) : Bool × State :=
  let p := sector * 32
  if s.hbm.poison.contains sector then (true, s.bump Obj.HBM_POISON_READ_COUNT (hbmChannel p))
  else if s.hbm.elsewhere.contains sector then (true, s.hbmUncorrectable sector requester)
  else match tfind s.hbm.flips sector with
    | none => (false, s)
    | some (d, k) =>
      if symbolErrors d k ≤ 1 then
        (false, (s.bump Obj.HBM_CORRECTED_COUNT (hbmChannel p)).log!
          { code := 0x001, sub := 5, inst := hbmController p, ctx := s.regionOf p, info0 := p, info1 := hbmClass })
      else (true, s.hbmUncorrectable sector requester)

/-- The armed flip mask names this sector (13 R371). -/
def State.flipHits (s : State) (sector : Nat) : Bool :=
  s.hbm.armed && s.reg Obj.ECC_FLIP_TARGET 1 == 0 && s.reg Obj.ECC_FLIP_ADDRESS 3 == sector * 32

/-- The bits of DATA_MASK, byte 0 lowest. -/
def State.flipData (s : State) : Nat :=
  (List.range 32).foldl (fun a i => a + place (s.regF Obj.ECC_FLIP_DATA_MASK 4 i) (8 * i) 8) 0

/-- A whole sector stored: its poison and flips are gone, and an armed flip mask that names it fires (13 R359, R371). Three
or more symbols flipped are taken as another codeword, whose plaintext follows from the ciphertext, or as a detected error, as a free
value decides. -/
def State.storeSector (s : State) (sector : Nat) (bytes : Bytes) : State :=
  let p := sector * 32
  let s := (s.setHbm { s.hbm with mem := s.hbm.mem.putN p bytes, poison := nsErase s.hbm.poison sector,
                                  flips := terase s.hbm.flips sector, elsewhere := nsErase s.hbm.elsewhere sector,
                                  known := nsInsert s.hbm.known sector })
  if s.flipHits sector then
    let d := s.flipData
    let k := s.reg Obj.ECC_FLIP_CHECK_MASK 5
    let n := symbolErrors d k
    let s := (s.setHbm { s.hbm with armed := false })
    let s := s.setReg Obj.ECC_FLIP_STATUS 7 2
    if n = 0 then s
    else if n ≤ 2 then (s.setHbm { s.hbm with flips := tset s.hbm.flips sector (d, k) })
    else if s.fresh 2 = 0 then
      (s.setHbm { s.hbm with flips := tset s.hbm.flips sector (d, k) }).took
    else
      (s.setHbm { s.hbm with mem := s.hbm.mem.putN p (s.garble sector bytes d) }).took
  else s

/-- An item meets a failure, also when it has finished and its completion has not been written. -/
def Item.failing (it : Item) (st : Status) : Item :=
  { it with met := it.met ++ [st], phase := match it.phase with | .done x oc => .done (x.first st) oc | x => x }

/-- A failure of an access that an item has made comes to be known. -/
def State.failLate (s : State) (n : Nat) (st : Status) : State :=
  match tfind s.items n with
  | none => s
  | some it => s.setItems (tset s.items n (it.failing st))

/-- An item whose write has been lost completes FAILED_UNCORRECTABLE if it has not completed (13 R373). -/
def State.failWriter (s : State) (n : Nat) : State := s.failLate n .failedUncorrectable

/-- A sector with some of its bytes replaced. -/
def overlay (old : Bytes) (t : Table Byte) : Bytes := (List.range 32).map (fun i => tget (old.getD i 0) t i)

/-- A merge entry leaves the buffer by a read-modify-write (13 R362), for `requester`: the sector's bytes as merged, or poison, when the
write is not performed and its writers fail (R359, R373). A page retired since does not matter (R373). -/
def State.mergeBack (s : State) (e : MergeEntry) (requester : Nat := 5) : (Bytes × Bool) × State :=
  let s := (s.setHbm { s.hbm with merge := s.hbm.merge.filter (fun x => x.sector != e.sector) })
  let s := s.bump Obj.HBM_MERGE_RMW_COUNT (hbmController (e.sector * 32))
  match s.checkSector e.sector requester with
  | (true, s) => ((List.replicate 32 0, true), e.writers.foldl State.failWriter s)
  | (false, s) =>
    let b := overlay (s.hbm.mem.getN (e.sector * 32) 32) e.bytes
    ((b, false), s.storeSector e.sector b)

/-- The merge entry of a sector, if one is pending. -/
def State.mergeEntry (s : State) (sector : Nat) : Option MergeEntry := s.hbm.merge.find? (fun e => e.sector == sector)

/-- One sector is read: its 32 bytes and whether they are poisoned. A retired page fails without reaching DRAM (13 R369); a pending merge
entry is written back, and the read served from the merged sector (R362). -/
def State.readSector (s : State) (sector requester : Nat) : (Bytes × Bool) × State :=
  match s.mergeEntry sector with
  | some e =>
    let r := s.mergeBack e requester
    if r.2.pageRetired (sector * 32) then ((List.replicate 32 0, true), r.2) else r
  | none =>
    if s.pageRetired (sector * 32) then ((List.replicate 32 0, true), s)
    else
      let r := s.checkSector sector requester
      ((r.2.hbm.mem.getN (sector * 32) 32, r.1), r.2)

/-- What an access gives its requester. -/
structure Got where
  bytes : Bytes := []
  poison : Bool := false
  protection : Bool := false
  deriving DecidableEq, Repr

/-- The sectors that `n` bytes from `p` touch. -/
def sectorsOf (p n : Nat) : List Nat := if n = 0 then [] else range2 (p / 32) ((p + n - 1) / 32 + 1)

/-- The part of a sector that lies in a half-open range of addresses: its first byte in the sector, and its length. -/
def sectorPart (lo hi sector : Nat) : Nat × Nat :=
  (max lo (sector * 32) - sector * 32, min hi (sector * 32 + 32) - max lo (sector * 32))

/-- Bytes that have crossed to or from a stack are counted, unless the page is retired (13 R369, R374). -/
def State.countBytes (s : State) (sector dir n : Nat) : State :=
  if s.pageRetired (sector * 32) then s else s.bumpF Obj.HBM_BYTES (pcStack (hbmPc (sector * 32))) dir n

/-- Sectors read one after another: what of them lies in [lo, hi), and whether any is poisoned. -/
def State.readSectors (s : State) (requester lo hi : Nat) : List Nat → Got × State
  | [] => ({}, s)
  | k :: ks =>
    let r := s.readSector k requester
    let (o, n) := sectorPart lo hi k
    let q := (r.2.countBytes k 0 n).readSectors requester lo hi ks
    ({ bytes := (r.1.1.drop o).take n ++ q.1.bytes, poison := r.1.2 || q.1.poison }, q.2)

/-- `n` bytes of physical HBM are read (13 R361). -/
def State.hbmRead (s : State) (p n requester : Nat) : Got × State := s.readSectors requester p (p + n) (sectorsOf p n)

/-- Bytes merged into a sector's entry (13 R362). -/
def mergeInto (t : Table Byte) (o : Nat) : Bytes → Table Byte
  | [] => t
  | b :: bs => mergeInto (tset t o b) (o + 1) bs

/-- How many merge entries of a channel are pending. -/
def State.mergeCount (s : State) (ch : Nat) : Nat :=
  (s.hbm.merge.filter (fun e => hbmChannel (e.sector * 32) == ch)).length

/-- A sector that a read-modify-write would find uncorrectable. -/
def State.sectorLost (s : State) (sector : Nat) : Bool :=
  s.hbm.poison.contains sector || s.hbm.elsewhere.contains sector
    || (match tfind s.hbm.flips sector with | some (d, k) => decide (1 < symbolErrors d k) | none => false)

/-- A sector's share of a write enters its merge entry, for item `who` where one makes it (13 R362): an entry whose mask is full is written
without a read. A part of a sector that is uncorrectable is not written, and the sector is found so at once (R359; DEDUCED,
notes/assumptions/79); nor is a part of a retired page (R369). The answer is false for a write that is not performed. -/
def State.writePart (s : State) (sector o : Nat) (bytes : Bytes) (who : Option Nat := none) : Bool × State :=
  let p := sector * 32
  if s.pageRetired p then (false, s)
  else
    let old := s.mergeEntry sector
    let t := mergeInto (match old with | some e => e.bytes | none => []) o bytes
    if t.length = 32 then
      let s := (s.setHbm { s.hbm with merge := s.hbm.merge.filter (fun x => x.sector != sector) })
      let s := if old.isSome then s.bump Obj.HBM_MERGE_FULL_COUNT (hbmController p) else s
      (true, s.storeSector sector (tvals t))
    else if s.sectorLost sector then
      (false, match old with
        | some e => (s.mergeBack e).2
        | none => (s.checkSector sector 5).2)
    else
      let w := match who with | some n => [n] | none => []
      match old with
      | some _ =>
        let m := s.hbm.merge.map (fun x => if x.sector = sector then { x with bytes := t, writers := x.writers ++ w } else x)
        (true, (s.setHbm { s.hbm with merge := m }))
      | none =>
        let s := if s.mergeCount (hbmChannel p) < 64 then s
          else match s.hbm.merge.find? (fun e => hbmChannel (e.sector * 32) == hbmChannel p) with
            | some e => (s.mergeBack e).2
            | none => s
        (true, (s.setHbm { s.hbm with merge := s.hbm.merge ++ [⟨sector, t, w⟩] }))

/-- The sectors of a write, one after another. -/
def State.writeSectors (s : State) (p : Nat) (bytes : Bytes) (who : Option Nat) : List Nat → Bool × State
  | [] => (true, s)
  | k :: ks =>
    let (o, n) := sectorPart p (p + bytes.length) k
    let r := s.writePart k o ((bytes.drop (k * 32 + o - p)).take n) who
    let q := (r.2.countBytes k 1 n).writeSectors p bytes who ks
    (r.1 && q.1, q.2)

/-- Bytes are written to physical HBM (13 R361, R362); false when a part of them is lost (R359, R369). -/
def State.hbmWrite (s : State) (p : Nat) (bytes : Bytes) (who : Option Nat := none) : Bool × State :=
  s.writeSectors p bytes who (sectorsOf p bytes.length)

/-- Bytes from `p` stored over what their sectors hold, sector by sector, without the merge buffer. -/
def State.storeParts (s : State) (p : Nat) (b : Bytes) : List Nat → State
  | [] => s
  | k :: ks =>
    let (o, n) := sectorPart p (p + b.length) k
    let t := mergeInto [] o ((b.drop (k * 32 + o - p)).take n)
    ((s.storeSector k (overlay (s.hbm.mem.getN (k * 32) 32) t)).countBytes k 1 n).storeParts p b ks

/-- `n` bytes are replaced by what `f` makes of them, if anything, in one indivisible read-modify-write of their sectors (13 R361), which an
armed flip mask may meet (R371): what was read. With an uncorrectable sector nothing is written. -/
def State.hbmUpdate (s : State) (p n requester : Nat) (f : Bytes → Option Bytes) : Got × State :=
  let r := s.hbmRead p n requester
  if r.1.poison then r
  else match f r.1.bytes with
    | some b => (r.1, r.2.storeParts p b (sectorsOf p n))
    | none => r

/-! ### Facet memory -/

/-- Bytes of one facet memory, and its place in the aperture (05_vector_engine_and_sequencer R137, R141). -/
def facetBytes : Nat := 0x200000
def apertureBase : Nat := 0xFF00000000
def apertureEnd : Nat := 0xFF18000000

/-- How many bits of a flipped 64-bit word with 8 check bits are in error. -/
def bitErrors (d k : Nat) : Nat := (bitsOf 64 d).length + (bitsOf 8 k).length

/-- The slot of the context that runs on the facet, the lowest where there are several; all ones when none does. -/
def State.slotOn (s : State) (f c : Nat) : Nat :=
  match (s.plan c).slots.find? (fun e => e.2.phase == .running && bit e.2.facets f) with
  | some e => e.1 % 65536
  | none => 0xFFFF

/-- One 64-bit word of facet memory is read (05 R139): true when it is poisoned. The record carries the facet, the address, the context and
the slot. -/
def State.checkWord (s : State) (w : Nat) : Bool × State :=
  let f := w * 8 / facetBytes
  if s.fm.poison.contains w then (true, s)
  else match tfind s.fm.flips w with
    | none => (false, s)
    | some (d, k) =>
      let c := (s.servedBy f).getD 0
      let e : Event := { code := 0x001, sub := 3, inst := f, ctx := c, slot := s.slotOn f c, info0 := w * 8 % facetBytes }
      if bitErrors d k ≤ 1 then
        let s := (s.bump Obj.FM_CORRECTED_COUNT f).bump Obj.SRAM_CORRECTED_COUNT 0
        let s := (s.setFm { s.fm with corrected := nsInsert s.fm.corrected w })
        (false, s.log! e)
      else
        let s := (s.bump Obj.FM_UNCORRECTABLE_COUNT f).bump Obj.SRAM_UNCORRECTABLE_COUNT 0
        let s := (s.setFm { s.fm with poison := nsInsert s.fm.poison w, flips := terase s.fm.flips w })
        (true, s.log! { e with code := 0x011 })

/-- The subsystem of an SRAM class of R360 (01_device_and_step R17), and the instance of it that a record names. -/
def sramSub (cls : Nat) : Nat := [3, 1, 2, 8, 7, 12, 10, 9, 11].getD cls 16
def flawInstance (x : SramFlaw) : Nat := if x.cls = 1 then x.inst / 8 else x.inst

/-- A flaw is met by a read: a single bit is corrected and counted, a double one counted and its word poisoned (13 R360). -/
def State.meetFlaw (s : State) (ctx slot : Nat) (x : SramFlaw) : State :=
  let e : Event := { code := 0x001, sub := sramSub x.cls, inst := flawInstance x, ctx := ctx, slot := slot, info0 := 8 * x.word, info1 := x.cls }
  let s := s.setFm { s.fm with flaws := s.fm.flaws.filter (fun y => y != x) }
  if x.double then
    ((s.setFm { s.fm with dead := s.fm.dead ++ [x] }).bump Obj.SRAM_UNCORRECTABLE_COUNT x.cls).log! { e with code := 0x011 }
  else (s.bump Obj.SRAM_CORRECTED_COUNT x.cls).log! e

/-- The flaw lies in words `lo` up to `hi` of an instance of an SRAM class. -/
def flawIn (x : SramFlaw) (cls inst lo hi : Nat) : Bool :=
  x.cls == cls && x.inst == inst && decide (lo ≤ x.word) && decide (x.word < hi)

/-- An engine reads words of one instance of an SRAM class (13 R360): those that are poisoned. -/
def State.sramRead (s : State) (cls inst lo hi ctx slot : Nat) : List Nat × State :=
  let s := (s.fm.flaws.filter (fun x => flawIn x cls inst lo hi)).foldl (fun s x => s.meetFlaw ctx slot x) s
  ((s.fm.dead.filter (fun x => flawIn x cls inst lo hi)).map (fun x => x.word), s)

/-- An engine writes words of one instance of an SRAM class anew: their flaws and poison are gone. -/
def State.sramWrote (s : State) (cls inst lo hi : Nat) : State :=
  let other := fun (x : SramFlaw) => !(flawIn x cls inst lo hi)
  s.setFm { s.fm with flaws := s.fm.flaws.filter other, dead := s.fm.dead.filter other }

/-- Words read one after another; true when any is poisoned. -/
def State.checkWords (s : State) : List Nat → Bool × State
  | [] => (false, s)
  | w :: ws =>
    let r := s.checkWord w
    let q := r.2.checkWords ws
    (r.1 || q.1, q.2)

/-- The 64-bit words that `n` bytes from `a` touch. -/
def wordsOf (a n : Nat) : List Nat := if n = 0 then [] else range2 (a / 8) ((a + n - 1) / 8 + 1)

/-- `n` bytes of facet memory are read; an address beyond it is refused (05 R137, R139). -/
def State.fmRead (s : State) (f a n : Nat) : Got × State :=
  if facetBytes < a + n then ({ bytes := List.replicate n 0, protection := true }, s)
  else
    let b := facetBytes * f + a
    let r := s.checkWords (wordsOf b n)
    ({ bytes := r.2.fm.mem.getN b n, poison := r.1 }, r.2)

/-- The armed flip mask names this word of facet memory, and the writer may fire it (13 R371, R372). -/
def State.flipHitsWord (s : State) (w c : Nat) : Bool :=
  s.hbm.armed && s.reg Obj.ECC_FLIP_TARGET 1 == 1
    && facetBytes * s.reg Obj.ECC_FLIP_FACET 2 + s.reg Obj.ECC_FLIP_ADDRESS 3 == w * 8
    && (c == 0 || s.reg Obj.ECC_INJECT_ALLOW c == 1)

/-- A word has been written: a whole-word write clears its poison and flips; a narrower one is a read-modify-write, which counts and
corrects a single-bit error and leaves the word of a double one poisoned; a flip mask may fire (05 R139, 13 R371). -/
def State.wroteWord (s : State) (c w : Nat) (whole : Bool) : State :=
  let s := if whole then
      (s.setFm { s.fm with poison := nsErase s.fm.poison w, flips := terase s.fm.flips w,
                           corrected := nsErase s.fm.corrected w })
    else
      let r := s.checkWord w
      if r.1 then r.2
      else (r.2.setFm { r.2.fm with flips := terase r.2.fm.flips w, corrected := nsErase r.2.fm.corrected w })
  if s.flipHitsWord w c then
    let d := s.flipData % 2 ^ 64
    let k := s.reg Obj.ECC_FLIP_CHECK_MASK 5
    let n := bitErrors d k
    let s := (s.setHbm { s.hbm with armed := false })
    let s := s.setReg Obj.ECC_FLIP_STATUS 7 2
    if n = 0 then s
    else if n ≤ 2 ∨ s.fresh 2 = 0 then
      (s.setFm { s.fm with flips := tset s.fm.flips w (d, k) }).took
    else
      (s.setFm { s.fm with mem := s.fm.mem.putN (w * 8) (leBytes 8 (Nat.xor (ofLE (s.fm.mem.getN (w * 8) 8)) d)) }).took
  else s

/-- The words of a write, one after another. -/
def State.wroteWords (s : State) (c b n : Nat) : List Nat → State
  | [] => s
  | w :: ws => (s.wroteWord c w (decide (b ≤ w * 8) && decide (w * 8 + 8 ≤ b + n))).wroteWords c b n ws

/-- Bytes are written to facet memory by context `c` (05 R139); false when they lie outside it. -/
def State.fmWrite (s : State) (c f a : Nat) (bytes : Bytes) : Bool × State :=
  if facetBytes < a + bytes.length then (false, s)
  else
    let b := facetBytes * f + a
    let s := (s.setFm { s.fm with mem := s.fm.mem.putN b bytes })
    (true, s.wroteWords c b bytes.length (wordsOf b bytes.length))

/-- A facet's memory is zeroed (05 R140). -/
def State.fmZero (s : State) (f : Nat) : State :=
  let lo := facetBytes * f
  let hi := lo + facetBytes
  let out := fun w => !(decide (lo ≤ w * 8) && decide (w * 8 < hi))
  let other := fun (x : SramFlaw) => !(x.cls == 1 && x.inst / 8 == f) && !(x.cls == 2 && x.inst == f)
  (s.setFm { mem := s.fm.mem.drop lo hi, poison := s.fm.poison.filter out, flips := s.fm.flips.filter (fun e => out e.1),
             corrected := s.fm.corrected.filter out, flaws := s.fm.flaws.filter other, dead := s.fm.dead.filter other })

/-! ### The space of a context -/

/-- The HBM of a context can be accessed: its key is in place (16_security R454). -/
def State.keyed (s : State) (c : Nat) : Bool := c == 0 || decide (2 ≤ s.reg Obj.CONTEXT_KEY_STATE c)

/-- Size of a context's region in bytes (13 R356). -/
def State.regionSize (s : State) (c : Nat) : Nat := unitBytes * s.regF Obj.HBM_REGION c 1

/-- The range lies in the context's region. -/
def State.inRegion (s : State) (c o n : Nat) : Bool := decide (o + n ≤ s.regionSize c)

/-- The physical address of an offset of a context's region (13 R356). -/
def State.phys (s : State) (c o : Nat) : Nat := unitBytes * s.regF Obj.HBM_REGION c 0 + o

/-- The parts of `n` bytes of the aperture from its byte `a` on: facet, address in it, length (05 R141). -/
def apertureParts (a n : Nat) : List (Nat × Nat × Nat) :=
  if n = 0 then []
  else (range2 (a / facetBytes) ((a + n - 1) / facetBytes + 1)).map (fun f =>
    let lo := max a (facetBytes * f)
    (f, lo - facetBytes * f, min (a + n) (facetBytes * f + facetBytes) - lo))

/-- The range of the aperture exists, and every facet it touches serves the context (05 R141). -/
def State.apertureServes (s : State) (c o n : Nat) : Bool :=
  decide (o + n ≤ apertureEnd) && (apertureParts (o - apertureBase) n).all (fun x => s.facetServes x.1 c)

/-- The bytes lie in the context's space: its region, or facets of the aperture that serve it (05 R141, 13 R356). -/
def State.inSpace (s : State) (c o n : Nat) : Bool :=
  if apertureBase ≤ o then s.apertureServes c o n else s.inRegion c o n && s.keyed c

/-- Parts of facet memories read one after another. -/
def State.fmReads (s : State) : List (Nat × Nat × Nat) → Got × State
  | [] => ({}, s)
  | x :: xs =>
    let r := s.fmRead x.1 x.2.1 x.2.2
    let q := r.2.fmReads xs
    ({ bytes := r.1.bytes ++ q.1.bytes, poison := r.1.poison || q.1.poison, protection := r.1.protection || q.1.protection }, q.2)

/-- Parts of facet memories written one after another. -/
def State.fmWrites (s : State) (c : Nat) (bytes : Bytes) : List (Nat × Nat × Nat) → State
  | [] => s
  | x :: xs => (s.fmWrite c x.1 x.2.1 (bytes.take x.2.2)).2.fmWrites c (bytes.drop x.2.2) xs

/-- `n` bytes at an offset of a context's space are read: HBM region, or the facet aperture under 05 R141; anything else is
refused. -/
def State.ctxRead (s : State) (c o n : Nat) (requester : Nat := 0) : Got × State :=
  let no : Got × State := ({ bytes := List.replicate n 0, protection := true }, s)
  if apertureBase ≤ o then
    if s.apertureServes c o n then s.fmReads (apertureParts (o - apertureBase) n) else no
  else if s.inRegion c o n && s.keyed c then s.hbmRead (s.phys c o) n requester
  else no

/-- How a write to a context's space ended. -/
inductive Put where
  | done
  | lost
  | refused
  deriving DecidableEq, Repr

/-- Bytes are written at an offset of a context's space, for item `who` where one makes the write (13 R356, R373, 05 R141). -/
def State.ctxWrite (s : State) (c o : Nat) (bytes : Bytes) (who : Option Nat := none) : Put × State :=
  if apertureBase ≤ o then
    if s.apertureServes c o bytes.length then (.done, s.fmWrites c bytes (apertureParts (o - apertureBase) bytes.length))
    else (.refused, s)
  else if s.inRegion c o bytes.length && s.keyed c then
    match s.hbmWrite (s.phys c o) bytes who with
    | (true, s) => (.done, s)
    | (false, s) => (.lost, s)
  else (.refused, s)

/-- Bytes read from a buffer of a context that an SRAM of a class holds on chip, whose words count from the start of the context's space:
the words that are poisoned there (13 R360; DESIGN CHOICE, notes/assumptions/167). -/
def State.bufferRead (s : State) (cls c o n : Nat) : List Nat × State := s.sramRead cls c (o / 8) ((o + n + 7) / 8) c 0xFFFF

/-- Bytes written to such a buffer. -/
def State.bufferWrite (s : State) (cls c o : Nat) (b : Bytes) : State :=
  ((s.ctxWrite c o b).2).sramWrote cls c (o / 8) ((o + b.length + 7) / 8)

/-- `n` bytes at an offset of a context's space are replaced by what `f` makes of them, if anything, in one indivisible access (13 R361):
what was read. -/
def State.ctxUpdate (s : State) (c o n : Nat) (f : Bytes → Option Bytes) (requester : Nat := 0) : Got × State :=
  if apertureBase ≤ o then
    let g := s.ctxRead c o n requester
    if g.1.protection || g.1.poison then g
    else match f g.1.bytes with
      | some b => (g.1, (g.2.ctxWrite c o b).2)
      | none => g
  else if s.inRegion c o n && s.keyed c then s.hbmUpdate (s.phys c o) n requester f
  else ({ bytes := List.replicate n 0, protection := true }, s)

/-- The status a write's outcome gives the item that made it (14 R387). -/
def Put.status : Put → Status
  | .done => .ok
  | .lost => .failedUncorrectable
  | .refused => .failedProtection

/-- The status a read's outcome gives the item that made it. -/
def Got.status (g : Got) : Status :=
  if g.protection then .failedProtection else if g.poison then .failedUncorrectable else .ok

/-- The number a read found, little-endian (00_scope R6). -/
def Got.num (g : Got) : Nat := ofLE g.bytes

end Sys2Proof.Machine
end

