-- ==== Sys2Proof/Machine/Access.lean ====
section
/-! DEFINITION. Sys2Proof/Machine/Access.lean: abort codes, and which requester reaches which instance. -/

namespace Sys2Proof.Machine

namespace Abort

/-- The dictionary's own abort codes (17_object_dictionary R489). -/
def FRAME_FORMAT : Nat := 0x0A000001
def ROLE_AMBIGUOUS : Nat := 0x0A000002
def OBJECT_ABSENT : Nat := 0x0A000003
def SUB_ABSENT : Nat := 0x0A000004
/-- Codes of 11_spokes R328. -/
def SPOKE_NOT_CHORD : Nat := 0x0A500001
def ETH_CONFIG_FORMAT : Nat := 0x0A500002
def ACCESS_DENIED : Nat := 0x0A000005
def DEVICE_STATE : Nat := 0x0A000006
def WRITE_NOT_PERMITTED : Nat := 0x0A000007
def READ_NOT_PERMITTED : Nat := 0x0A000008
def LENGTH_MISMATCH : Nat := 0x0A000009
def VALUE_RANGE : Nat := 0x0A00000A
def TOGGLE_ERROR : Nat := 0x0A00000B
def NO_TRANSFER : Nat := 0x0A00000C
def SEGMENT_TIMEOUT : Nat := 0x0A00000D
def TRANSFER_ABORTED : Nat := 0x0A00000E
def BUSY : Nat := 0x0A00000F
def FLASH_FAILED : Nat := 0x0A000010
def RESOURCE_OWNED : Nat := 0x0A000011
def INTERNAL : Nat := 0x0A000012
/-- Firmware update (17 R495). -/
def UPDATE_STATE : Nat := 0x0A100001
def UPDATE_COPY_IN_USE : Nat := 0x0A100002
def UPDATE_NOT_GENUINE : Nat := 0x0A100003
/-- Plans and cadence (02_beat_and_time R31, R51). -/
def PLAN_FORMAT : Nat := 0x0A300001
def PLAN_TOO_LARGE : Nat := 0x0A300002
def PLAN_ORDER : Nat := 0x0A300003
def PLAN_FACET_CONFLICT : Nat := 0x0A300004
def PLAN_THREAD_LIMIT : Nat := 0x0A300005
def PLAN_WINDOW : Nat := 0x0A300006
def PLAN_RESERVATION : Nat := 0x0A300007
def PLAN_START_PAST : Nat := 0x0A300008
def PLAN_STATE_CONFLICT : Nat := 0x0A300009
def CADENCE_STATE_CONFLICT : Nat := 0x0A30000A
/-- HBM and ECC (13_hbm_and_ecc R356, R369, R372). -/
def REGION_RANGE : Nat := 0x0A400001
def REGION_OVERLAP : Nat := 0x0A400002
def REGION_STATE : Nat := 0x0A400003
def INJECT_NOT_ALLOWED : Nat := 0x0A400004
def RETIRE_FORMAT : Nat := 0x0A400005
def INJECT_FORMAT : Nat := 0x0A400006
/-- Queues and pools (14_queues_and_pools R376, R392). -/
def QUEUE_FORMAT : Nat := 0x0A600001
def QUEUE_EXISTS : Nat := 0x0A600002
def QUEUE_RANGE : Nat := 0x0A600003
def QUEUE_STATE : Nat := 0x0A600004
def QUEUE_NOT_OWNED : Nat := 0x0A600005
def POOL_FORMAT : Nat := 0x0A600011
def POOL_IN_USE : Nat := 0x0A600012
def QUOTA_OVERCOMMIT : Nat := 0x0A600013
/-- Security (16_security R455-R469). -/
def CONTEXT_OWNED : Nat := 0x0A800001
def NOT_OWNER : Nat := 0x0A800002
def KEY_STATE : Nat := 0x0A800003
def KEY_FORMAT : Nat := 0x0A800004
def DEBUG_NOT_PERMITTED : Nat := 0x0A800005
def FUSE_REFUSED : Nat := 0x0A800006

end Abort

/-- A 48-byte value held as bytes, read as one number. -/
def State.ownerKey (s : State) (c : Nat) : Nat :=
  ofLE ((s.fields Obj.CONTEXT_OWNER c).map (BitVec.ofNat 8))

/-- The session is the owner of context `c` (16_security R452, R453). -/
def State.tenantOf (s : State) (session c : Nat) : Bool :=
  match tfind s.sec.sessions session with
  | some x => (match x.key with | some k => k == s.ownerKey c && k != 0 && x.established | none => false)
  | none => false

/-- The requester reaches the per-context instance `c` (02_beat_and_time R73, 16 R452, R465). -/
def State.reaches (s : State) (who : Who) (c : Nat) : Bool :=
  match who with
  | .host f => f == 0 || s.reg Obj.CONTEXT_FUNCTION c == f
  | .bmc _ => true
  | .tenant n => s.tenantOf n c
  | .attested n => (match tfind s.sec.sessions n with | some x => x.attested | none => false)

/-- The requester acts in the TENANT role. -/
def Who.isTenant : Who → Bool
  | .tenant _ => true
  | _ => false

/-- The access a role has to an object by its table (17 R472). -/
def ObjDef.roleAccess (o : ObjDef) : Who → Access
  | .host _ => o.access.1
  | .tenant _ => o.access.2.1
  | .bmc _ => o.access.2.2.1
  | .attested _ => o.access.2.2.2

/-- DEVICE_STATE values (17 R491). -/
def dsOff : Nat := 0
def dsRefQualify : Nat := 1
def dsBoot : Nat := 2
def dsMeasured : Nat := 3
def dsReady : Nat := 4
def dsRunning : Nat := 5
def dsDegraded : Nat := 6
def dsFault : Nat := 7

/-- The device state (17 R491). -/
def State.devState (s : State) : Nat := s.reg Obj.DEVICE_STATE

/-- Every engine serves: READY, RUNNING or DEGRADED, and no device reset runs (17 R491, R493, 15 R421). -/
def State.serving (s : State) : Bool :=
  (s.devState == dsReady || s.devState == dsRunning || s.devState == dsDegraded) && s.rcv.resetting.isNone

/-- The bytes of an object's value: its fields little-endian, in order, without padding (17 R471). -/
def ObjDef.bytes (o : ObjDef) (l : List Nat) : Bytes :=
  (List.range o.fields).flatMap (fun i => leBytes (o.width i) (l.getD i (o.defaultField i)))

/-! ### Values that await their apply time (17 R473, R474) -/

/-- A FLASH object's write reaches the flash object store (17 R475). -/
def State.durable (s : State) (o : ObjDef) (sub : Nat) (l : List Nat) : State := if o.flash then s.flashPut o sub l else s

/-- A value that has passed its checks is stored: in effect at once, or waiting for the object's apply time. It replaces a value
still waiting (17 R473). (DEDUCED, notes/assumptions/136.) -/
def State.store (s : State) (o : ObjDef) (sub : Nat) (l : List Nat) : State :=
  let s := s.durable o sub l
  match o.apply with
  | .immediate => s.setFields o sub l
  | .nextBeat => if s.reg Obj.CADENCE_STATE = 0 then { s.setFields o sub l with waitBeat := terase s.waitBeat (o.key sub) }
      else { s with waitBeat := tset s.waitBeat (o.key sub) l }
  | .nextStep => if s.planState sub = planRunning then { s with waitStep := tset s.waitStep (o.key sub) l }
      else { s.setFields o sub l with waitStep := terase s.waitStep (o.key sub) }
  | .nextReset => { s with waitReset := tset s.waitReset (o.key sub) l }

/-- A written value that awaits its apply time (17 R473). -/
def State.waiting (s : State) (o : ObjDef) (sub : Nat) : Option (List Nat) :=
  match o.apply with
  | .immediate => none
  | .nextBeat => tfind s.waitBeat (o.key sub)
  | .nextStep => tfind s.waitStep (o.key sub)
  | .nextReset => tfind s.waitReset (o.key sub)

/-- The value most recently written (17 R474), in effect or not. -/
def State.written (s : State) (o : ObjDef) (sub : Nat) : List Nat := (s.waiting o sub).getD (s.fields o sub)

/-- A written value awaits its apply time (17 R474 PENDING). -/
def State.awaits (s : State) (o : ObjDef) (sub : Nat) : Bool := (s.waiting o sub).isSome

/-- Waiting values put into effect. -/
def putAll (t : Table (List Nat)) : List (Nat × List Nat) → Table (List Nat)
  | [] => t
  | (k, l) :: r => putAll (tset t k l) r

/-- The values that await a beat take effect at the edge (17 R473). -/
def State.applyBeat (s : State) : State := { s with objs := putAll s.objs s.waitBeat, waitBeat := [] }

/-- The values that await a step of context `c` take effect (17 R473). -/
def State.applyStep (s : State) (c : Nat) : State :=
  { s with objs := putAll s.objs (s.waitStep.filter (fun e => e.1 % 256 == c)),
           waitStep := s.waitStep.filter (fun e => e.1 % 256 != c) }

/-- The index lies in a range of 17 R493. -/
def statusRange (i : Nat) : Bool :=
  (decide (0x1000 ≤ i) && decide (i ≤ 0x10FF)) || (decide (0x8000 ≤ i) && decide (i ≤ 0x80FF))
    || (decide (0xA000 ≤ i) && decide (i ≤ 0xA0FF))

/-- Whether the dictionary serves an access to an object in the present device state (17_object_dictionary R493). -/
def State.served (s : State) (who : Who) (o : ObjDef) (write : Bool) : Bool :=
  let st := s.devState
  let ident := decide (0x1000 ≤ o.index) && decide (o.index ≤ 0x1003)
  if s.serving then true
  else if st = dsBoot then
    (match who with | .host _ => true | .bmc _ => true | _ => false) && !write && ident
  else if st = dsMeasured then
    match who with
    | .tenant _ => write && o.index == Obj.CONTEXT_CLAIM.index
    | _ => statusRange o.index || o.flash
  else if st = dsFault then
    if s.regF Obj.DEVICE_STATE_INFO 0 2 = 5 then
      match who with
      | .bmc _ => (!write && (ident || o.index == Obj.BOOT_STATUS.index)) || (decide (0x1020 ≤ o.index) && decide (o.index ≤ 0x1022))
      | _ => false
    else
      match who with
      | .host _ => faultServed
      | .bmc _ => faultServed
      | _ => false
  else false
where
  faultServed : Bool :=
    if write then [Obj.DEVICE_RESET.index, Obj.CRASH_DUMP_SELECT.index, Obj.CRASH_DUMP_CLEAR.index].contains o.index
    else statusRange o.index

/-- The number of a dictionary requester: one role on one endpoint. -/
def Who.number : Who → Nat
  | .host f => f
  | .bmc e => 256 + e
  | .tenant n => 65536 + 2 * n
  | .attested n => 65537 + 2 * n

/-- The requester's transfer closes with nothing applied; its next frame that names it meets the code (R483, R489). -/
def State.closeTransfer (s : State) (r code : Nat) : State :=
  match tfind s.dict.transfers r with
  | none => s
  | some t => (s.setDict { s.dict with transfers := terase s.dict.transfers r
                                       closed := tset s.dict.closed r (field t.header 232 8, code) })

/-- Open transfers whose object is no longer served close with DEVICE_STATE (17 R493). -/
def State.closeUnserved (s : State) : State :=
  s.dict.transfers.foldl (fun (s : State) e =>
    let index := field e.2.header 216 16
    if Obj.table.any (fun o => o.index == index && s.served e.2.who o e.2.write) then s
    else s.closeTransfer e.1 Abort.DEVICE_STATE) s

/-- The device enters a state, with the cause code of DEVICE_STATE_INFO (17 R492, R496). -/
def State.goTo (s : State) (state cause : Nat) : State :=
  let old := s.devState
  let s := { s with cad := { s.cad with entered := s.cad.up } }
  let i := s.fields Obj.DEVICE_STATE_INFO 0
  ((s.setReg Obj.DEVICE_STATE 0 state).setFields Obj.DEVICE_STATE_INFO 0 [state, old, cause, i.getD 3 0, 0, i.getD 5 0]).closeUnserved

/-- The device changes state, unless it is in that state (17 R492). -/
def State.enter (s : State) (state cause : Nat) : State := if s.devState = state then s else s.goTo state cause

/-- The code that refuses a requester an instance it does not reach: NOT_OWNER in a session that lost the context to a release
and has not claimed it again (16 R468), else ACCESS_DENIED (17 R489). (DEDUCED, notes/assumptions/112.) -/
def State.notReached (s : State) (who : Who) (c : Nat) : Nat :=
  match who with
  | .tenant n => (match tfind s.sec.sessions n with
    | some x => if x.released.contains c then Abort.NOT_OWNER else Abort.ACCESS_DENIED
    | none => Abort.ACCESS_DENIED)
  | _ => Abort.ACCESS_DENIED

/-- The code that refuses a sub that an object does not have: SPOKE_MODE and SPOKE_ETH_CONFIG of a spoke that is no chord have one
of their own (11_spokes R328). -/
def absentSub (index sub : Nat) : Nat :=
  if (index = Obj.SPOKE_MODE.index ∨ index = Obj.SPOKE_ETH_CONFIG.index) ∧ sub < 14 then Abort.SPOKE_NOT_CHORD else Abort.SUB_ABSENT

/-- The usual checks of a row that writes an object: the requester's access, the instance, and the device state
(17 R490 checks 5 to 7). 0 when all pass. -/
def State.rowChecks (s : State) (who : Who) (o : ObjDef) (sub : Nat) (perContext : Bool) : Nat :=
  if sub < o.lo ∨ o.hi < sub then absentSub o.index sub
  else match o.roleAccess who with
    | .none => Abort.ACCESS_DENIED
    | a =>
      if perContext && !(s.reaches who sub) then s.notReached who sub
      else if !(s.served who o true) then Abort.DEVICE_STATE
      else match a with
        | .rw => 0
        | .wo => 0
        | _ => Abort.WRITE_NOT_PERMITTED

/-- Some transport answers: not while the device is OFF or qualifies its reference, nor while a device reset runs (17 R491,
18_clocks_power_reset R522). -/
def State.answers (s : State) : Bool := s.rcv.resetting.isNone && decide (dsBoot ≤ s.devState)

/-- A row that writes an object: where the usual checks pass, `act` gives the owner's code and the new state; the answer
goes to the requester. A refused write changes nothing (17 R490); where no transport answers, nothing happens. -/
def State.row (s : State) (who : Who) (o : ObjDef) (sub : Nat) (perContext : Bool)
    (act : State → Nat × State) : State :=
  let code := s.rowChecks who o sub perContext
  if s.answers = false then s
  else if code = 0 then
    let r := act s
    r.2.answer who o sub r.1
  else s.answer who o sub code

end Sys2Proof.Machine
end

