-- ==== Sys2Proof/Machine/Complete.lean ====
section
/-! DEFINITION. Sys2Proof/Machine/Complete.lean: accepted items, completion rings, the summary store and interrupts
(14_queues_and_pools R375-R391, R400). -/

namespace Sys2Proof.Machine

/-! ### The queue record (14 R375) -/

def qrQueue (r : Nat) : Nat := field r 496 16
def qrContext (r : Nat) : Nat := field r 492 4
def qrClass (r : Nat) : Nat := field r 490 2
def qrSqLog (r : Nat) : Nat := field r 486 4
def qrCqLog (r : Nat) : Nat := field r 482 4
def qrSqFacet (r : Nat) : Bool := bit r 481
def qrCqFacet (r : Nat) : Bool := bit r 480
def qrFacet (r : Nat) : Nat := field r 472 8
def qrFunction (r : Nat) : Nat := field r 468 4
def qrInflight (r : Nat) : Nat := field r 460 8
def qrRequester (r : Nat) : Nat := field r 454 6
def qrTarget (r : Nat) : Nat := field r 438 16
def qrVector (r : Nat) : Nat := field r 427 11
def qrHoldoff (r : Nat) : Nat := field r 416 11
def qrSqBase (r : Nat) : Nat := field r 376 40
def qrCqBase (r : Nat) : Nat := field r 336 40
def qrReserved (r : Nat) : Nat := field r 0 336

/-- Entries of the rings (14 R375). -/
def sqSize (r : Nat) : Nat := 2 ^ (6 + qrSqLog r)
def cqSize (r : Nat) : Nat := 2 ^ (6 + qrCqLog r)

/-- Offsets of the rings in the context's space: HBM, or the facet aperture (14 R375). -/
def sqOffset (r : Nat) : Nat :=
  if qrSqFacet r then apertureBase + facetBytes * qrFacet r + qrSqBase r else qrSqBase r
def cqOffset (r : Nat) : Nat :=
  if qrCqFacet r then apertureBase + facetBytes * qrFacet r + qrCqBase r else qrCqBase r

/-- A queue that exists. -/
def State.queue? (s : State) (q : Nat) : Option Queue := tfind s.queues q

/-- A queue's record replaced. -/
def State.setQueue (s : State) (q : Nat) (x : Queue) : State := (s.setQueues (tset s.queues q x))

/-- The queue whose ring receives a queue's completions (14 R375 CQ_TARGET). -/
def State.ringOf (s : State) (q : Nat) : Nat :=
  match s.queue? q with | some x => qrTarget x.record | none => q

/-- An item comes from this queue and lacks a completion. -/
def Item.fromQueue (it : Item) (q : Nat) : Bool :=
  match it.origin with | .queued j _ => j == q | _ => false

/-- Completions of a queue's items that wait for their facet (14 R380): entries of KIND QUEUED (R386). -/
def State.deferredOf (s : State) (q : Nat) : Nat :=
  match s.queue? (s.ringOf q) with
  | some x => (x.deferred.filter (fun e => field e 123 4 == 0 && field e 96 16 == q)).length
  | none => 0

/-- Accepted items of a queue without a completion (14 R382): one that waits to be written is none yet. -/
def State.inflight (s : State) (q : Nat) : Nat :=
  ((tvals s.items).filter (fun it => it.fromQueue q)).length + s.deferredOf q

/-- Reserved entries of a ring: items of every queue that targets it, without a completion (14 R382). -/
def State.reserved (s : State) (ring : Nat) : Nat :=
  ((tvals s.items).filter (fun it =>
    match it.origin with | .queued j _ => s.ringOf j == ring | _ => false)).length

/-- Entries of a ring that are neither written and unconsumed nor reserved nor waiting to be written. -/
def State.room (s : State) (ring : Nat) : Nat :=
  match s.queue? ring with
  | none => 0
  | some x => cqSize x.record - (ahead x.cqHead x.cqTail + s.reserved ring + x.deferred.length)

/-! ### Interrupts -/

/-- The function exists: PF 0, or a VF that is enabled (19_pins_and_interfaces R536). -/
def State.functionExists (s : State) (f : Nat) : Bool := f == 0 || decide (f ≤ s.regF Obj.PCIE_LINK_STATUS 0 4)

/-- A function raises an MSI-X vector, unless it is 0x7FF, the function does not exist, or PERST_N is low (14 R375, 19 R536,
18_clocks_power_reset R523). (DESIGN CHOICE, notes/assumptions/78.) -/
def State.interrupt (s : State) (f v : Nat) : State :=
  if v = 0x7FF ∨ s.functionExists f = false ∨ s.power.perst = true then s else s.emit (.msix f v)

/-- An entry has been written to a queue's ring: interrupt, or note it for the end of the hold-off (14 R375, R400). -/
def State.ringInterrupt (s : State) (ring : Nat) : State :=
  match s.queue? ring with
  | none => s
  | some x =>
    if x.holdoff then s.setQueue ring { x with holdoffHit := true }
    else
      let s := s.interrupt (qrFunction x.record) (qrVector x.record)
      if qrHoldoff x.record = 0 then s else s.setQueue ring { x with holdoff := true }

/-! ### Writing entries -/

/-- A queue enters ERROR with a code: count and record 0x023 (14 R380). One that is in ERROR does not enter it. -/
def State.queueError (s : State) (q code : Nat) : State :=
  match s.queue? q with
  | none => s
  | some x =>
    if x.state = 3 then s else
    let c := qrContext x.record
    let s := s.setQueue q { x with state := 3, errorCode := code }
    let s := s.bump Obj.QUEUE_ERROR_COUNT c
    s.log! { code := 0x023, sub := 11, ctx := c, info0 := q, info1 := x.sqHead + place code 32 8 }

/-- One 16-byte entry is written at CQ_TAIL, PHASE set from the completion index (14 R386). A facet-memory ring that the
facet does not serve now keeps the entry for later (R380); a ring that cannot be reached otherwise loses it. -/
def State.writeEntry (s : State) (ring e : Nat) : State :=
  match s.queue? ring with
  | none => s
  | some x =>
    let n := cqSize x.record
    let c := qrContext x.record
    if qrCqFacet x.record && (!x.deferred.isEmpty || !(s.facetServes (qrFacet x.record) c)) then
      s.setQueue ring { x with deferred := x.deferred ++ [e] }
    else
      let j := x.cqTail
      let w := e % 2 ^ 127 + (if j / n % 2 = 0 then 2 ^ 127 else 0)
      match s.ctxWrite c (cqOffset x.record + j % n * 16) (leBytes 16 w) with
      | (.refused, s) => s.queueError ring 3
      | (_, s) => (s.setQueue ring { x with cqTail := (j + 1) % 2 ^ 32 }).ringInterrupt ring

/-- A completion entry without PHASE (14 R386). -/
def entryWord (kind status outcome queue seq stamp stepLow facet : Nat) : Nat :=
  place kind 123 4 + place status 115 8 + place outcome 113 2 + place queue 96 16 + place seq 64 32
    + place stamp 32 32 + place stepLow 16 16 + place facet 8 8

/-- A SUMMARY entry of a range of plan items (14 R386, R390). -/
def summaryWord (slot step status first last count : Nat) : Nat :=
  entryWord 2 status 0 slot first count step 0 + (last - first) % 2 ^ 16

/-! ### The summary store (14 R390) -/

/-- The ring that takes a context's plan completions now: the queue PLAN_STATUS_QUEUE names, if it is an ACTIVE queue of
the context (14 R389). -/
def State.planRing (s : State) (c : Nat) : Option Nat :=
  let q := s.reg Obj.PLAN_STATUS_QUEUE c
  match s.queue? q with
  | some x => if qrContext x.record = c ∧ x.state = 1 then some (qrTarget x.record) else none
  | none => none

/-- The summary store of a context. -/
def State.places (s : State) (c : Nat) : List Place := tget [] s.summary c

/-- The summary store replaced; CQ_SUMMARY_PENDING counts its ranges (14 R401). Entries after the 256th are those that stay with their
engines until a place frees (R390). -/
def State.setPlaces (s : State) (c : Nat) (l : List Place) : State :=
  let s := { s with summary := tset s.summary c l }
  s.setReg Obj.CQ_SUMMARY_PENDING c
    ((l.take 256).filter (fun p => match p with | .range .. => true | _ => false)).length

/-- A plan completion extends the most recently opened place, or opens a new one (14 R390). -/
def addPlace (l : List Place) (slot step status index : Nat) : List Place :=
  match l.getLast? with
  | some (.range sl st sta first last count) =>
    if sl = slot ∧ st = step ∧ sta = status ∧ (last = index ∨ last + 1 = index) ∧ index - first ≤ 65535 then
      l.dropLast ++ [.range sl st sta first index (count + 1)]
    else l ++ [.range slot step status index index 1]
  | _ => l ++ [.range slot step status index index 1]

/-- A place is written to the ring (14 R390). -/
def State.writePlace (s : State) (c ring : Nat) : Place → State
  | .range slot step status first last count =>
    (s.writeEntry ring (summaryWord slot step status first last count)).bump Obj.CQ_SUMMARY_COUNT c
  | .stepEnd a b => (s.writeEntry ring a).writeEntry ring b

/-- How many entries a place needs. -/
def Place.need : Place → Nat
  | .range .. => 1
  | .stepEnd .. => 2

/-- As many places as the ring has room for are written, in the order they opened (14 R390). -/
def State.flushPlaces (s : State) (c ring : Nat) : List Place → State
  | [] => s.setPlaces c []
  | p :: ps =>
    if p.need ≤ s.room ring then (s.writePlace c ring p).flushPlaces c ring ps else s.setPlaces c (p :: ps)

/-- The summary store is written out as far as its ring has room (14 R390). -/
def State.flushSummary (s : State) (c : Nat) : State :=
  match s.planRing c with
  | none => s
  | some ring => s.flushPlaces c ring (s.places c)

/-- A planned item's completion goes to its ring, or to the summary store (14 R389, R390). -/
def State.planCompletion (s : State) (c slot index facet step stamp : Nat) (status : Status) : State :=
  let e := entryWord 1 status.code 0 slot index stamp (step % 2 ^ 16) facet
  match s.planRing c with
  | some ring =>
    if (s.places c).isEmpty ∧ 1 ≤ s.room ring then s.writeEntry ring e
    else s.setPlaces c (addPlace (s.places c) slot step status.code index)
  | none => s.setPlaces c (addPlace (s.places c) slot step status.code index)

/-- The step-end record of a context (02 R59, 14 R389). -/
def State.stepEndRecord (s : State) (c step planId overruns maxSlip ledger stamp : Nat) : State :=
  let a := place 3 123 4 + place (min overruns 0xFFFF) 96 16 + place step 64 32 + place planId 0 64
  let b := place 4 123 4 + place maxSlip 64 32 + place stamp 32 32 + place ledger 0 32
  match s.planRing c with
  | some ring =>
    if (s.places c).isEmpty ∧ 2 ≤ s.room ring then (s.writeEntry ring a).writeEntry ring b
    else s.setPlaces c (s.places c ++ [.stepEnd a b])
  | none => s.setPlaces c (s.places c ++ [.stepEnd a b])

/-- Every place of the summary store is in use, so the context's slot starts are held (14 R390). -/
def State.storeFull (s : State) (c : Nat) : Bool := decide (256 ≤ (s.places c).length)

/-! ### Items -/

/-- An accepted item. -/
def State.item? (s : State) (n : Nat) : Option Item := tfind s.items n

/-- An item replaced. -/
def State.setItem (s : State) (n : Nat) (it : Item) : State := (s.setItems (tset s.items n it))

/-- A new item is accepted (00_scope R12); its number is the state's next. -/
def State.acceptItem (s : State) (it : Item) : State :=
  { s with items := tset s.items s.nextItem it, nextItem := s.nextItem + 1 }

/-- The opcode of a descriptor. -/
def descOpcode (d : Nat) : Nat := field d 504 8

/-- A status applies to an item (04 R135). -/
def Item.meet (it : Item) (st : Status) : Item :=
  match st with
  | .ok => it
  | _ => { it with met := it.met ++ [st] }

/-- A status applies to the item numbered `n`. -/
def State.meet (s : State) (n : Nat) (st : Status) : State :=
  match s.item? n with
  | some it => s.setItem n (it.meet st)
  | none => s

/-- The item has finished: it reports the first of its statuses in the order of R135. -/
def State.finish (s : State) (n : Nat) (outcome : FabOutcome := .notApplied) : State :=
  match s.item? n with
  | some it =>
    (match it.phase with
     | .done .. => s
     | _ => s.setItem n { it with phase := .done (Status.report it.met) outcome })
  | none => s

/-- The item meets a status and finishes. -/
def State.finishWith (s : State) (n : Nat) (st : Status) (outcome : FabOutcome := .notApplied) : State :=
  (s.meet n st).finish n outcome

/-- The item runs. (DESIGN CHOICE, notes/assumptions/40.) -/
def State.start (s : State) (n : Nat) : State :=
  match s.item? n with
  | some it => (match it.phase with | .accepted => s.setItem n { it with phase := .running } | _ => s)
  | none => s

/-- The item has a status already. -/
def Item.isDone (it : Item) : Bool := match it.phase with | .done .. => true | _ => false

/-- Items of a queue that come before descriptor index `i` (14 R384). -/
def Item.earlier (it : Item) (q i : Nat) : Bool :=
  match it.origin with | .queued j k => j == q && behind i k | _ => false

/-- The item has not started. -/
def Item.waits (it : Item) : Bool := match it.phase with | .accepted => true | _ => false

/-- An item may start. A queued one: every earlier item of its queue has started, no earlier BARRIER of it lacks its completion, and for a
BARRIER no earlier item does (14 R384). A planned one: its thread has issued it (05 R142). -/
def State.mayStart (s : State) (it : Item) : Bool :=
  match it.origin with
  | .planned .. => it.issued
  | .queued q i =>
    (tvals s.items).all (fun x =>
      !(x.earlier q i) || (!x.waits && descOpcode x.desc != 0x82 && descOpcode it.desc != 0x82))

/-- A command about an accepted, unfinished item with one of these opcodes that may start; any other command of the kind
finds nothing to do (DESIGN CHOICE, notes/assumptions/6). -/
def State.withItem (s : State) (n : Nat) (ops : List Nat) (act : Item → State → State) : State :=
  match s.item? n with
  | none => s
  | some it =>
    if it.isDone = false ∧ ops.contains (descOpcode it.desc) = true ∧ s.mayStart it = true then act it (s.start n) else s

/-- The item was refused by a check: record 0x020 and FAILED_PROTECTION (15 R405). -/
def State.refuse (s : State) (n sub check : Nat) : State :=
  match s.item? n with
  | none => s
  | some it =>
    let pos := match it.origin with | .queued _ i => i | .planned _ i _ => i
    let slot := match it.origin with | .planned sl _ _ => sl | _ => 0xFFFF
    let inst := match it.origin with | .planned _ _ f => f | _ => 0xFF
    let s := s.log! { code := 0x020, sub := sub, inst := inst, ctx := it.ctx, slot := slot, status := Status.failedProtection.code,
                      info0 := check, info1 := place (descOpcode it.desc) 32 8 + pos }
    s.finishWith n .failedProtection

/-- An item's writes have exhausted their retries: it counts once (03_formats_and_scaling R95, R104). -/
def State.exhaust (s : State) (n : Nat) : State :=
  match s.item? n with
  | none => s
  | some it =>
    if it.met.contains .scaleExhausted then s
    else (s.bump Obj.SCALE_EXHAUSTED_COUNT it.ctx).meet n .scaleExhausted

/-- The facet and slot of a planned item. -/
def Item.facet (it : Item) : Nat := match it.origin with | .planned _ _ f => f | _ => 0xFF
def Item.slot (it : Item) : Nat := match it.origin with | .planned sl _ _ => sl | _ => 0xFFFF

/-- The item comes from a plan slot. -/
def Item.isPlanned (it : Item) : Bool := match it.origin with | .planned .. => true | _ => false

/-- What the mirror keeps of a planned item that completes in a slot with PHASE CHECKPOINT_MIRROR: its PUTs, and the step of a
FINISH of an ALL_REDUCE (15_faults_and_recovery R427-R429). -/
def State.mirrorNote (s : State) (it : Item) (st : Status) : State :=
  let p := s.plan it.ctx
  let here := it.isPlanned && (match p.image with
    | some im => (match im.slots[it.slot]? with | some sl => sl.phase == 5 | none => false)
    | none => false)
  if here then
    let op := descOpcode it.desc
    if op = 0x61 then
      match st with
      | .ok => s.setPlan it.ctx { p with mirrorOk := p.mirrorOk + 1, mirrorBytes := p.mirrorBytes + field it.desc 464 32 }
      | _ => s.setPlan it.ctx { p with mirrorFail := some (p.mirrorFail.getD st.code) }
    else if op = 0x52 ∧ field it.desc 502 2 = 2 ∧ st = .ok then s.setRegF Obj.MIRROR_STATUS it.ctx 2 it.step
    else s
  else s

/-- The single completion entry of a finished item is written (14 R386, R389); the item is then gone. `stamp` is the
nanoseconds field of the time counter. -/
def State.completeItem (s : State) (n stamp : Nat) : State :=
  match s.item? n with
  | none => s
  | some it =>
    match it.phase with
    | .done st oc =>
      let s := (s.setItems (terase s.items n)).mirrorNote it st
      let s := (match tfind s.rcv.active it.ctx with
        | some w => (s.setRcv { s.rcv with active := tset s.rcv.active it.ctx { w with items := w.items + 1 } })
        | none => s)
      (match it.origin with
       | .queued q i =>
         (s.writeEntry (s.ringOf q) (entryWord 0 st.code oc.code q i stamp 0 0xFF)).trace (.completion it.ctx 0xFFFF 0xFF st.code)
       | .planned sl i f => (s.planCompletion it.ctx sl i f it.step stamp st).trace (.completion it.ctx sl f st.code))
    | _ => s

/-- Step of the escalation ladder at which an instance stands for a context in reset; 1 unless it has moved on (15 R413). -/
def Withdrawal.stepOf (w : Withdrawal) (i : EngineRef) : Nat :=
  match w.rungs.find? (fun r => r.inst == i) with | some r => r.step | none => 1

/-- The item was on a facet that is at step 2, 3 or 4 of the ladder: it completes when the facet leaves the step (15 R417). -/
def State.onLadder (s : State) (n : Nat) : Bool :=
  match s.item? n with
  | some it => (match tfind s.rcv.active it.ctx with | some w => decide (2 ≤ w.stepOf (.facet it.facet)) | none => false)
  | none => false

end Sys2Proof.Machine
end

