-- ==== Sys2Proof/Machine/Plan.lean ====
section
/-! DEFINITION. Sys2Proof/Machine/Plan.lean: beat plans: the image, the checks of LOAD and ARM, and the plan states
(02_beat_and_time R47-R53, R68, R568, R569). -/

namespace Sys2Proof.Machine

/-! ### The image (R47-R50, R568) -/

/-- The 64-byte header (R47); the field maps number bit 0 as the least significant bit of the little-endian bytes. -/
def headerOf (w : Nat) : PlanHeader :=
  { magic := field w 480 32, version := field w 464 16, context := field w 456 8, stepBeats := field w 424 24,
    slotCount := field w 384 32, windowCount := field w 368 16, facetSetCount := field w 352 16,
    rankEntries := field w 320 32, slotOff := field w 288 32, windowOff := field w 256 32,
    facetSetOff := field w 224 32, rankOff := field w 192 32, resvOff := field w 160 32, opOff := field w 128 32,
    planId := field w 64 64, resvEntries := field w 32 32,
    reserved := field w 448 8 + field w 416 8 + field w 0 32 }

/-- A slot entry of 32 bytes (R48). -/
def slotOf (w : Nat) : Slot :=
  { opClass := field w 248 8, grace := field w 244 4, resync := bit w 243, winIn := field w 228 12,
    winOut := field w 216 12, facetSet := field w 204 12, start := field w 168 24, deadline := field w 152 16,
    opDesc := field w 96 32, opCount := field w 64 32, phase := field w 60 4, layer := field w 52 8,
    microBatch := field w 46 6,
    reserved := field w 240 3 + field w 192 12 + field w 128 24 + field w 0 46 }

/-- An exchange-window entry of 16 bytes (R49). -/
def windowOf (w : Nat) : Window :=
  { opens := field w 104 24, length := field w 88 16, vc := field w 85 3, sourceCount := field w 64 16,
    sourceList := field w 32 32, tag := field w 16 16, reserved := field w 80 5 + field w 0 16 }

/-- A reservation entry of 16 bytes (R568). -/
def resvOf (w : Nat) : Resv :=
  { resource := field w 120 8, inst := field w 112 8, maint := bit w 111, first := field w 80 24, beats := field w 64 16,
    amount := field w 0 64, reserved := field w 104 7 }

/-- `n` entries of `size` bytes. -/
def entriesOf (size : Nat) : Nat → Bytes → List Nat
  | 0, _ => []
  | n + 1, bs => ofLE (bs.take size) :: entriesOf size n (bs.drop size)

/-- A table of `n` entries of `size` bytes read from the context's memory; true when a word of it is poisoned. -/
def State.readTable (s : State) (c off size n : Nat) : List Nat × Bool × State :=
  let (g, s) := s.ctxRead c off (size * n) 14
  (entriesOf size n g.bytes, g.poison || g.protection, s)

/-- The table lies in the context's memory (R51). -/
def State.tableInside (s : State) (c base off bytes : Nat) : Bool := s.inRegion c (base + off) bytes

/-- What LOAD reads: the image, or none where the header or a table cannot be read. The words of the operation table are read at
the start of the slot that names them and not here (DESIGN CHOICE, notes/assumptions/144). -/
def State.readImage (s : State) (c base : Nat) : Option PlanImage × State :=
  if s.inRegion c base 64 = false then (none, s)
  else
    let (g, s) := s.ctxRead c base 64 14
    if g.poison || g.protection then (none, s)
    else
      let h := headerOf g.num
      let inside := s.tableInside c base h.slotOff (32 * h.slotCount) && s.tableInside c base h.windowOff (16 * h.windowCount)
        && s.tableInside c base h.facetSetOff (32 * h.facetSetCount) && s.tableInside c base h.rankOff (2 * h.rankEntries)
        && s.tableInside c base h.resvOff (16 * h.resvEntries)
      if inside = false then (none, s)
      else
        let (sl, b1, s) := s.readTable c (base + h.slotOff) 32 h.slotCount
        let (wi, b2, s) := s.readTable c (base + h.windowOff) 16 h.windowCount
        let (fs, b3, s) := s.readTable c (base + h.facetSetOff) 32 h.facetSetCount
        let (ra, b4, s) := s.readTable c (base + h.rankOff) 2 h.rankEntries
        let (re, b5, s) := s.readTable c (base + h.resvOff) 16 h.resvEntries
        if b1 || b2 || b3 || b4 || b5 then (none, s)
        else (some { base := base, header := h, slots := sl.map slotOf, windows := wi.map windowOf, facetSets := fs,
                     ranks := ra, resvs := re.map resvOf }, s)

/-! ### Capacities (R569, 13_hbm_and_ecc R357) -/

/-- The fraction F of an access pattern in thousandths (13 R357). -/
def hbmFraction (p : Nat) : Nat := [920, 840, 580, 330, 83, 42].getD p 0

/-- Capacity of one stack for a pattern: one eighth of floor(F * 16,384 * P / 4,096), rounded down. -/
def hbmStackCap (period p : Nat) : Nat := 16384 * hbmFraction p * period / 1000 / 4096 / 8

/-- Spokes of a group: rows 0-6, columns 7-13, chords 14-17. -/
def groupSpokes (g : Nat) : List Nat := if g = 0 then List.range 7 else if g = 1 then range2 7 14 else range2 14 18

/-- Active lanes of a group (11_spokes R305). -/
def State.groupLanes (s : State) (g : Nat) : Nat := 
  (groupSpokes g).foldl (fun a p => a + (bitsOf 4 (s.reg Obj.SPOKE_LANES_ACTIVE p)).length) 0

/-- MIN of the context's engine requester for a pool. -/
def State.engineMin (s : State) (c p : Nat) : Nat :=
  let r := s.reg Obj.POOL_ENGINE_REQUESTER c
  if r < 64 ∧ s.regF Obj.POOL_REQUESTER r 0 = c then s.regF Obj.POOL_REQUESTER r (1 + p) else 0

/-- Capacity per beat of an instance other than HBM (R569). A spoke group's instances share their group's capacity. -/
def State.capacity (s : State) (c resource inst : Nat) : Nat :=
  let p := s.cad.period
  match resource with
  | 0x02 => 12000 * p / 4096
  | 0x03 => 4000 * p / 4096
  | 0x04 => 875 * 50 * s.groupLanes (inst % 16) * p / 1000 / 4096
  | 0x05 => p
  | 0x06 => 6400 * p / 4096
  | 0x07 => 65536 * p / 10 / 4096
  | 0x08 => 4 * p / 10 / 1024
  | 0x09 => 2 * p / 10
  | 0x0A => s.engineMin c inst
  | _ => 0

/-- A reservation entry follows R568 and R569. -/
def resvGood (steps : Nat) (r : Resv) : Bool :=
  let i := r.inst
  r.reserved == 0 && r.beats != 0 && decide (r.first + r.beats ≤ steps) &&
    match r.resource with
    | 0x01 => (decide (i / 16 ≤ 7) || i / 16 == 15) && decide (i % 16 ≤ 5)
    | 0x02 => decide (i ≤ 1)
    | 0x03 => decide (i ≤ 3)
    | 0x04 => decide (i % 16 ≤ 2) && decide (1 ≤ i / 16) && decide (i / 16 ≤ 5)
    | 0x05 => decide (i ≤ 3)
    | 0x06 => i == 0xFF
    | 0x07 => i == 0xFF
    | 0x08 => decide (i ≤ 3)
    | 0x09 => i == 0xFF
    | 0x0A => decide (i ≤ 7)
    | _ => false

/-- One claim on an instance in one beat: context, resource, instance, amount. -/
structure Claim where
  ctx : Nat
  resource : Nat
  inst : Nat
  amount : Nat
  deriving DecidableEq, Repr

/-- The claims of an image at a beat offset of its step (R568). -/
def PlanImage.claimsAt (im : PlanImage) (c o : Nat) : List Claim :=
  (im.resvs.filter (fun r => decide (r.first ≤ o) && decide (o < r.first + r.beats))).map
    (fun r => ⟨c, r.resource, r.inst, r.amount⟩)

/-- A common multiple of the one-stack capacities of the patterns. -/
def State.stackUnit (s : State) : Nat := (List.range 6).foldl (fun a k => a * max (hbmStackCap s.cad.period k) 1) 1

/-- The claims on one stack (R569): the sum of AMOUNT / capacity, in 1 / (8 * stackUnit). -/
def State.stackSum (s : State) (l : List Claim) (stack : Nat) : Nat :=
  l.foldl (fun a x =>
    if x.resource = 1 ∧ (x.inst / 16 = stack ∨ x.inst / 16 = 15) then
      a + x.amount * (if x.inst / 16 = 15 then 1 else 8) * (s.stackUnit / max (hbmStackCap s.cad.period (x.inst % 16)) 1)
    else a) 0

/-- The claims on one stack exceed it (R569). -/
def State.stackOver (s : State) (l : List Claim) (stack : Nat) : Bool := decide (8 * s.stackUnit < s.stackSum l stack)

/-- The claim falls on the same capacity as resource `r`, instance `i` of context `c`. -/
def Claim.shares (x : Claim) (c r i : Nat) : Bool :=
  x.resource == r && (if r = 4 then x.inst % 16 == i % 16 else if r = 10 then x.inst == i && x.ctx == c else x.inst == i)

/-- Some instance is claimed beyond its capacity (R569). -/
def State.beyond (s : State) (l : List Claim) : Bool :=
  (List.range 8).any (s.stackOver l)
    || l.any (fun x => x.resource != 1 &&
      decide (s.capacity x.ctx x.resource x.inst
        < (l.filter (fun y => y.shares x.ctx x.resource x.inst)).foldl (fun a y => a + y.amount) 0))

/-! ### LOAD (R51) -/

/-- The beats of a slot: START_OFFSET up to the deadline edge. -/
def Slot.finish (sl : Slot) : Nat := sl.start + sl.deadline

/-- A reserved field or code of a slot is nonzero, or its counts and indices break R47 and R48. -/
def State.slotBad (s : State) (c : Nat) (im : PlanImage) (sl : Slot) : Bool :=
  sl.reserved != 0 || decide (7 < sl.opClass) || decide (7 ≤ sl.phase)
    || (sl.opCount == 0 && sl.opClass != 0 && sl.opClass != 7)
    || decide (im.header.facetSetCount ≤ sl.facetSet)
    || !(s.inRegion c (im.base + im.header.opOff + 64 * sl.opDesc) (64 * sl.opCount))

/-- PLAN_FORMAT of a readable image. -/
def State.planBad (s : State) (c : Nat) (im : PlanImage) : Bool :=
  let h := im.header
  h.magic != 0x9020504C || h.version != 0x0100 || h.context != c || h.reserved != 0
    || h.slotOff % 32 != 0 || h.windowOff % 16 != 0 || h.facetSetOff % 32 != 0 || h.rankOff % 2 != 0
    || h.resvOff % 16 != 0 || h.opOff % 64 != 0
    || h.stepBeats == 0 || h.slotCount == 0 || h.facetSetCount == 0
    || im.slots.any (s.slotBad c im) || im.windows.any (fun w => w.reserved != 0)
    || im.facetSets.any (fun f => f / 2 ^ 192 != 0) || im.ranks.any (fun r => r / 2 ^ 14 != 0)
    || im.resvs.any (fun r => !(resvGood h.stepBeats r))

/-- PLAN_TOO_LARGE. -/
def planLarge (h : PlanHeader) : Bool :=
  decide (65536 < h.slotCount) || decide (4095 < h.windowCount) || decide (4095 < h.facetSetCount)
    || decide (1048576 < h.resvEntries)

/-- Adjacent entries stand in order of START_OFFSET. -/
def sortedSlots : List Slot → Bool
  | [] => true
  | [_] => true
  | a :: b :: r => decide (a.start ≤ b.start) && sortedSlots (b :: r)

/-- PLAN_ORDER. -/
def planOrder (im : PlanImage) : Bool :=
  let n := im.header.stepBeats
  !(sortedSlots im.slots) || im.slots.any (fun sl => decide (n ≤ sl.start) || sl.deadline == 0 || decide (n < sl.finish))

/-- PLAN_THREAD_LIMIT: more than 16 slots overlap on one facet. Overlap can only rise where a slot starts. -/
def planThreads (im : PlanImage) : Bool :=
  im.slots.any (fun a => (List.range 192).any (fun f => bit (im.facetsOf a) f &&
    decide (16 < (im.slots.filter (fun b => decide (b.start ≤ a.start) && decide (a.start < b.finish) && bit (im.facetsOf b) f)).length)))

/-- Two equal numbers stand in a list. -/
def hasDup : List Nat → Bool
  | [] => false
  | a :: r => r.contains a || hasDup r

/-- The slots that consume window `w`, with their indices. -/
def PlanImage.consumers (im : PlanImage) (w : Nat) : List (Nat × Slot) :=
  ((List.range im.slots.length).zip im.slots).filter (fun e => e.2.winIn == w)

/-- Close edge of a window: OPEN + LENGTH (R49). -/
def Window.close (w : Window) : Nat := w.opens + w.length

/-- PLAN_WINDOW. -/
def planWindow (im : PlanImage) : Bool :=
  let n := im.header.windowCount
  im.slots.any (fun sl => (sl.winIn != 0xFFF && decide (n ≤ sl.winIn)) || (sl.winOut != 0xFFF && decide (n ≤ sl.winOut)))
    || ((List.range im.windows.length).zip im.windows).any (fun e =>
        let cs := im.consumers e.1
        cs.any (fun x => decide (x.2.start < e.2.close)) || cs.any (fun x => cs.any (fun y => x.2.grace != y.2.grace)))
    || im.windows.any (fun w => w.vc == 7 || w.length == 0 || w.sourceCount == 0 || decide (16384 < w.sourceCount)
        || decide (im.header.rankEntries < w.sourceList + w.sourceCount))
    || hasDup (im.windows.map (·.tag))

/-- PLAN_RESERVATION at LOAD: claims only rise where an entry begins. -/
def State.planOver (s : State) (c : Nat) (im : PlanImage) : Bool := im.resvs.any (fun r => s.beyond (im.claimsAt c r.first))

/-- The first code of R51 that refuses an image at LOAD, 0 when none does. -/
def State.loadRefusal (s : State) (c : Nat) (im : PlanImage) : Nat :=
  if s.planBad c im then Abort.PLAN_FORMAT
  else if planLarge im.header then Abort.PLAN_TOO_LARGE
  else if planOrder im then Abort.PLAN_ORDER
  else if planThreads im then Abort.PLAN_THREAD_LIMIT
  else if planWindow im then Abort.PLAN_WINDOW
  else if s.planOver c im then Abort.PLAN_RESERVATION
  else if s.planState c = planEmpty ∨ s.planState c = planLoaded ∨ s.planState c = planStopped then 0
  else Abort.PLAN_STATE_CONFLICT

/-- The per-context counters that LOAD sets to 0 and a context reset clears (03_formats_and_scaling R104). -/
def contextCounters : List ObjDef :=
  [Obj.SCALE_UNDERFLOW_COUNT, Obj.SAT_COUNT, Obj.NARROW_RETRY_COUNT, Obj.SCALE_EXHAUSTED_COUNT, Obj.NAN_BLOCK_COUNT,
   Obj.ACC_RETRY_COUNT, Obj.ACC_EXHAUSTED_COUNT, Obj.MATRIX_REFUSED_COUNT, Obj.VECTOR_REFUSED_COUNT,
   Obj.TREE_REALIGN_INEXACT_COUNT, Obj.TREE_RETRY_COUNT, Obj.SPARSE_FALLBACK_COUNT, Obj.PRUNE_COUNT,
   Obj.SPARSE_MALFORMED_COUNT, Obj.SPARSE_REFUSED_COUNT, Obj.ROUTER_SPILL_COUNT, Obj.ROUTER_DROP_COUNT,
   Obj.ROUTER_EXIT_COUNT, Obj.ROUTER_NAN_TOKEN_COUNT, Obj.ROUTER_STALE_COUNT, Obj.ROUTER_PROTOCOL_COUNT,
   Obj.ROUTER_UNAVAILABLE_COUNT, Obj.ROUTER_REFUSED_COUNT, Obj.ROUTER_DRAIN_PENDING, Obj.CODEC_IN_BYTES, Obj.CODEC_OUT_BYTES,
   Obj.CODEC_RESTORE_BYTES, Obj.COLL_NAN_ELEMENT_COUNT, Obj.COLL_RETRY_COUNT, Obj.COLL_EXHAUSTED_COUNT,
   Obj.COLL_REALIGN_INEXACT_COUNT, Obj.COLL_DISCARD_COUNT, Obj.COLL_REFUSED_COUNT, Obj.COLL_ZERO_MARKER_COUNT,
   Obj.TOPO_UNMAPPED_DISCARD_COUNT, Obj.FABRIC_RETRY_COUNT, Obj.FABRIC_UNKNOWN_COUNT, Obj.FABRIC_PROTECTION_COUNT,
   Obj.FABRIC_CACHE_HITS, Obj.FABRIC_CACHE_MISSES, Obj.TELEMETRY_DROP_COUNT]

/-- Those counters of a context set to 0. -/
def State.clearCounters (s : State) (c : Nat) : State := contextCounters.foldl (fun s o => s.clearReg o c) s

/-- A key for a slot of a former plan: its index beyond the indices of the present one. -/
def formerKey (t : Table SlotRun) (k : Nat) : Nat :=
  k % 65536 + 65536 * ((range2 1 (t.length + 2)).find? (fun j => (tfind t (k % 65536 + 65536 * j)).isNone)).getD 1

/-- The slots that still run, as slots of a former plan (R60). -/
def Plan.former (p : Plan) : Table SlotRun :=
  (p.slots.filter (fun e => e.2.phase == .running)).foldl (fun t e =>
    tset t (if e.1 < 65536 then formerKey p.slots e.1 else e.1) e.2) []

/-- A fresh plan record: slots of the former plan that still run stay (R60), and so do the token counts of the last
completed step (20_maintenance_and_telemetry R567). -/
def kept (p : Plan) (im : Option PlanImage) : Plan :=
  { image := im, slots := p.former, tokensLast := p.tokensLast, busySince := p.busySince }

/-- ROUTER_DRAIN_PENDING starts at 0 with a loaded plan (07_expert_routing R226): the placement switches noted under the plan
before are over. -/
def State.forgetSwitches (s : State) (c : Nat) : State :=
  { s with router := { s.router with switching := s.router.switching.filter (fun x => x.ctx != c) } }

/-- PLAN_CONTROL LOAD (R51, R52): a refused LOAD leaves the loaded plan untouched; what the read found stands (R359). -/
def State.planLoad (s : State) (c : Nat) : Nat × State :=
  match s.readImage c (s.reg Obj.PLAN_ADDR c) with
  | (none, s) => (Abort.PLAN_FORMAT, s)
  | (some im, s) =>
    let code := s.loadRefusal c im
    if code = 0 then
      (0, (((s.setPlan c (kept (s.plan c) (some im))).setReg Obj.PLAN_STATE c planLoaded).clearCounters c).forgetSwitches c)
    else (code, s)

/-! ### ARM (R51) -/

/-- A plan placed on absolute beats: its context, image and start beat. -/
structure Placed where
  ctx : Nat
  image : PlanImage
  start : Nat
  deriving DecidableEq, Repr

/-- The other plans of the device that are ARMED or RUNNING. -/
def State.others (s : State) (c : Nat) : List Placed :=
  (List.range 16).filterMap (fun x =>
    if x ≠ c ∧ (s.planState x = planArmed ∨ s.planState x = planRunning) then
      (s.plan x).image.map (fun im => ⟨x, im, (s.plan x).startBeat⟩)
    else none)

/-- Beyond this many beats two plans are compared as if all their slots fell in one beat. -/
def lcmLimit : Nat := 16777215

/-- Two slots claim a common beat when their plans repeat every n and m beats: `d` is how far, modulo their greatest common
divisor, the second stands after the first. -/
def beatsMeet (g d a b : Nat) : Bool := decide (d % g < a) || decide ((g - d % g) % g < b)

/-- PLAN_FACET_CONFLICT with one other plan. -/
def facetConflict (p q : Placed) : Bool :=
  let n := p.image.header.stepBeats
  let m := q.image.header.stepBeats
  let g := Nat.gcd n m
  p.image.slots.any (fun a => q.image.slots.any (fun b =>
    (p.image.facetsOf a &&& q.image.facetsOf b) != 0 &&
      (decide (lcmLimit < Nat.lcm n m)
        || beatsMeet g ((q.start + b.start) + g * (p.start + a.start) - (p.start + a.start)) a.deadline b.deadline)))

/-- Claims of a placed plan at an absolute beat at or after its start. -/
def Placed.claims (p : Placed) (t : Nat) : List Claim := p.image.claimsAt p.ctx ((t - p.start) % p.image.header.stepBeats)

/-- Every way of taking one beat offset from each plan, as lists of claims. -/
def offsetChoices : List Placed → List (List Claim)
  | [] => [[]]
  | p :: r => (offsetChoices r).flatMap (fun l => p.image.resvs.map (fun e => p.image.claimsAt p.ctx e.first ++ l) ++ [l])

/-- PLAN_RESERVATION at ARM: this plan and every ARMED or RUNNING plan together. Of three plans or more, L is the least common
multiple of all their STEP_BEATS (DESIGN CHOICE, notes/assumptions/146). -/
def State.armOver (s : State) (p : Placed) (others : List Placed) : Bool :=
  let ps := p :: others
  let l := ps.foldl (fun a q => Nat.lcm a q.image.header.stepBeats) 1
  let t0 := ps.foldl (fun a q => max a q.start) 0
  if lcmLimit < l then (offsetChoices ps).any s.beyond
  else (List.range l).any (fun t => s.beyond (ps.flatMap (fun q => q.claims (t0 + t))))

/-- The first code of R51 that refuses ARM, 0 when none does. -/
def State.armRefusal (s : State) (c : Nat) : Nat :=
  match (s.plan c).image with
  | none => Abort.PLAN_STATE_CONFLICT
  | some im =>
    let p : Placed := ⟨c, im, s.reg Obj.PLAN_START_BEAT c⟩
    if (s.others c).any (facetConflict p) then Abort.PLAN_FACET_CONFLICT
    else if s.armOver p (s.others c) then Abort.PLAN_RESERVATION
    else if p.start < s.beat + 4 then Abort.PLAN_START_PAST
    else if s.planState c = planLoaded then 0
    else Abort.PLAN_STATE_CONFLICT

/-- PLAN_CONTROL ARM (R51-R53). -/
def State.planArm (s : State) (c : Nat) : Nat × State :=
  let code := s.armRefusal c
  if code = 0 then
    let p := { kept (s.plan c) (s.plan c).image with startBeat := s.reg Obj.PLAN_START_BEAT c,
                                                     firstStep := s.reg Obj.PLAN_FIRST_STEP c }
    (0, (s.setPlan c p).setReg Obj.PLAN_STATE c planArmed)
  else (code, s)

/-! ### Entering and leaving RUNNING -/

/-- Some slot of the context runs on the device. -/
def State.slotsRunning (s : State) (c : Nat) : Bool := (tvals (s.plan c).slots).any (fun r => r.phase == .running)

/-- Some plan of the device is RUNNING. -/
def State.anyRunning (s : State) : Bool := (List.range 16).any (fun c => s.planState c == planRunning)

/-- The device state follows the plans: READY and RUNNING (17_object_dictionary R492). (DEDUCED, notes/assumptions/51.) -/
def State.followPlans (s : State) : State :=
  if s.devState = dsReady ∧ s.anyRunning = true then s.enter dsRunning 2
  else if s.devState = dsRunning ∧ s.anyRunning = false then s.enter dsReady 3
  else s

/-- Values that wait for a step of a plan that has left RUNNING take effect once no slot of the context runs (17 R473). -/
def State.settle (s : State) (c : Nat) : State :=
  if s.planState c ≠ planRunning ∧ s.slotsRunning c = false then s.applyStep c else s

/-- A plan takes another state; windows of the maintenance arbiter close with RUNNING (20 R560). -/
def State.planTo (s : State) (c state : Nat) : State :=
  let s := s.setReg Obj.PLAN_STATE c state
  let s := if state = planRunning then s
    else (s.setMaint { s.maint with windows := s.maint.windows.filter (fun w => w / 65536 != c) })
  (s.followPlans).settle c

/-- Causes of a plan halt for record 0x060: the numbers are not in the source (DESIGN CHOICE, notes/assumptions/7). -/
def haltCommand : Nat := 0
def haltFail : Nat := 1
def haltTimeout : Nat := 2
def haltEpoch : Nat := 3

/-- The plan is HALTED: running slots complete, nothing further starts; record 0x060 (R52, R60, 15 R405). -/
def State.haltPlan (s : State) (c cause slot : Nat) : State :=
  if s.planState c = planRunning then
    let s := s.log! { code := 0x060, sub := 14, ctx := c, slot := slot, info0 := Config.causeCode cause, info1 := slot }
    s.planTo c planHalted
  else s

/-- PLAN_CONTROL HALT: from RUNNING only (R52). -/
def State.planHalt (s : State) (c : Nat) : Nat × State :=
  if s.planState c = planRunning then (0, s.haltPlan c haltCommand 0xFFFF) else (Abort.PLAN_STATE_CONFLICT, s)

/-- PLAN_CONTROL STOP_AT_STEP_END: from RUNNING only (R52); between two steps the plan stops at once. -/
def State.planStop (s : State) (c : Nat) : Nat × State :=
  if s.planState c ≠ planRunning then (Abort.PLAN_STATE_CONFLICT, s)
  else if (s.plan c).opened then (0, s.setPlan c { s.plan c with stopReq := true })
  else (0, s.planTo c planStopped)

/-- PLAN_CONTROL UNLOAD: from any state but RUNNING (R52). -/
def State.planUnload (s : State) (c : Nat) : Nat × State :=
  if s.planState c = planRunning then (Abort.PLAN_STATE_CONFLICT, s)
  else (0, (s.setPlan c (kept (s.plan c) none)).planTo c planEmpty)

/-- A write of PLAN_CONTROL (R73): 1 LOAD, 2 ARM, 3 STOP_AT_STEP_END, 4 HALT, 5 UNLOAD. -/
def State.planControl (s : State) (c v : Nat) : Nat × State :=
  match v with
  | 1 => s.planLoad c
  | 2 => s.planArm c
  | 3 => s.planStop c
  | 4 => s.planHalt c
  | 5 => s.planUnload c
  | _ => (Abort.VALUE_RANGE, s)

/-- PLAN_LOAD (R51). -/
def execPlanLoad (who : Who) (ctx : Nat) (s : State) : Res :=
  .next (s.row who Obj.PLAN_CONTROL ctx true (fun s => s.planControl ctx 1))

/-- PLAN_ARM (R51). -/
def execPlanArm (who : Who) (ctx : Nat) (s : State) : Res :=
  .next (s.row who Obj.PLAN_CONTROL ctx true (fun s => s.planControl ctx 2))

/-- STOP_AT_STEP_END (R52). -/
def execStopAtStepEnd (who : Who) (ctx : Nat) (s : State) : Res :=
  .next (s.row who Obj.PLAN_CONTROL ctx true (fun s => s.planControl ctx 3))

/-- PLAN_HALT (R52). -/
def execPlanHalt (who : Who) (ctx : Nat) (s : State) : Res :=
  .next (s.row who Obj.PLAN_CONTROL ctx true (fun s => s.planControl ctx 4))

/-- PLAN_UNLOAD (R52). -/
def execPlanUnload (who : Who) (ctx : Nat) (s : State) : Res :=
  .next (s.row who Obj.PLAN_CONTROL ctx true (fun s => s.planControl ctx 5))

/-- A write of PLAN_FIRST_STEP: refused while ARMED or RUNNING (R53). -/
def State.firstStep (s : State) (c v : Nat) : Nat × State :=
  if s.planState c = planArmed ∨ s.planState c = planRunning then (Abort.PLAN_STATE_CONFLICT, s)
  else (0, s.store Obj.PLAN_FIRST_STEP c [v % 2 ^ 32])

/-- PLAN_FIRST_STEP_WRITE (R53). -/
def execPlanFirstStepWrite (who : Who) (ctx value : Nat) (s : State) : Res :=
  .next (s.row who Obj.PLAN_FIRST_STEP ctx true (fun s => s.firstStep ctx value))

/-- The ledger region that an address and an entry count give lies in the context's region (R68). -/
def State.ledgerInside (s : State) (c addr entries : Nat) : Bool := decide (addr + 4 * entries * 16 ≤ s.regionSize c)

/-- A write of DROP_LEDGER_ADDR or DROP_LEDGER_ENTRIES (R68). -/
def State.ledgerWrite (s : State) (c : Nat) (o : LedgerObject) (v : Nat) : Nat × State :=
  match o with
  | .addr =>
    if v % 16 ≠ 0 ∨ s.ledgerInside c v ((s.written Obj.DROP_LEDGER_ENTRIES c).getD 0 0) = false then (Abort.VALUE_RANGE, s)
    else (0, s.store Obj.DROP_LEDGER_ADDR c [v])
  | .entries =>
    if v < 1024 ∨ 65536 < v ∨ isPow2 v = false ∨ s.ledgerInside c ((s.written Obj.DROP_LEDGER_ADDR c).getD 0 0) v = false then
      (Abort.VALUE_RANGE, s)
    else (0, s.store Obj.DROP_LEDGER_ENTRIES c [v])

/-- The object a ledger write names. -/
def LedgerObject.obj : LedgerObject → ObjDef
  | .addr => Obj.DROP_LEDGER_ADDR
  | .entries => Obj.DROP_LEDGER_ENTRIES

/-- DROP_LEDGER_REGION_WRITE (R68). -/
def execDropLedgerRegionWrite (who : Who) (ctx : Nat) (object : LedgerObject) (value : Nat) (s : State) : Res :=
  .next (s.row who (LedgerObject.obj object) ctx true (fun s => s.ledgerWrite ctx object value))

end Sys2Proof.Machine
end

