-- ==== Sys2Proof/Machine/Wire.lean ====
section
/-! DEFINITION. Sys2Proof/Machine/Wire.lean: what leaves on a spoke, byte by byte: packet headers and their sealing, link blocks,
ordered sets, and the datagrams of an Ethernet chord (00_scope R6, R15, 11_spokes R301, R302, R306, R309, R322, R324, R325). -/

namespace Sys2Proof.Machine

/-- `n` bytes of a number, most significant first (00_scope R6). -/
def beBytes (n v : Nat) : Bytes := (leBytes n v).reverse

/-- The number that bytes spell, most significant first. -/
def ofBE (bs : Bytes) : Nat := ofLE bs.reverse

/-! ### Packets (R309, R322) -/

/-- The 256 bits of a packet's header. -/
def packetHeader (k : Packet) : Nat :=
  place k.version 252 4 + place k.type 248 4 + place k.vc 245 3 + place k.hopLimit 240 5 + place k.src 226 14 + place k.dst 212 14
    + place k.ctx 208 4 + place k.srcGen 192 16 + place k.dstGen 176 16 + place k.srcEpoch 144 32 + place k.dstEpoch 112 32
    + place k.seq 80 32 + place k.ack 48 32 + place k.payload.length 35 13 + place (ofBool k.first) 34 1
    + place (ofBool k.last) 33 1 + place (ofBool k.retx) 32 1 + place (ofBool k.detour) 31 1 + place (ofBool k.ackValid) 30 1
    + place k.reserved 0 30

/-- The packet that 32 header bytes and a payload spell. -/
def packetAt (head payload : Bytes) : Packet :=
  let w := ofBE head
  { version := field w 252 4, type := field w 248 4, vc := field w 245 3, hopLimit := field w 240 5, src := field w 226 14,
    dst := field w 212 14, ctx := field w 208 4, srcGen := field w 192 16, dstGen := field w 176 16, srcEpoch := field w 144 32,
    dstEpoch := field w 112 32, seq := field w 80 32, ack := field w 48 32, first := bit w 34, last := bit w 33, retx := bit w 32,
    detour := bit w 31, ackValid := bit w 30, reserved := field w 0 30, payload := payload }

/-- The nonce of a packet: the salt of its direction, then the direction's counter. -/
def linkNonce (salt n : Nat) : Nat := salt % 2 ^ 32 * 2 ^ 64 + n % 2 ^ 64

/-- A payload under a link key. -/
def linkCipher (key nonce : Nat) (b : Bytes) : Bytes :=
  ((List.range b.length).zip b).map (fun (e : Nat × Byte) => e.2 ^^^ Config.gcmStream key nonce e.1)

/-- A packet as it crosses a hop: its header, its payload encrypted, its tag over both, for which HOP_LIMIT counts as 0. -/
def sealedPacket (key : Nat × Nat) (n : Nat) (k : Packet) : Bytes :=
  let nonce := linkNonce key.2 n
  let body := linkCipher key.1 nonce k.payload
  beBytes 32 (packetHeader k) ++ body
    ++ beBytes 16 (Config.gcmTag key.1 nonce (beBytes 32 (packetHeader { k with hopLimit := 0 })) body % 2 ^ 128)

/-- A packet before keys are installed: in plain text, with a tag that no key gives. -/
def plainPacket (tag : Nat) (k : Packet) : Bytes := beBytes 32 (packetHeader k) ++ k.payload ++ beBytes 16 tag

/-! ### Link blocks (R301, R302) -/

/-- BLOCK_TYPE codes. -/
def btFlit : Nat := 0
def btOrderedSet : Nat := 1
def btIdle : Nat := 2

/-- The 64 bits of a link header. -/
def linkWord (type lseq : Nat) (h : LinkHeader) (start phase : Bool) : Nat :=
  place type 60 4 + place lseq 48 12 + place (h.lack.getD 0) 36 12 + place (ofBool h.lack.isSome) 35 1 + place h.creditVc 32 3
    + place h.creditClass 28 4 + place h.creditCount 16 12 + place (ofBool start) 15 1 + place (ofBool phase) 14 1

/-- CRC-32C, bit by bit and byte by byte. -/
def crcBit (c : BitVec 32) : BitVec 32 := if c.getLsbD 0 then (c >>> 1) ^^^ 0x82F63B78#32 else c >>> 1
def crcByte (c : BitVec 32) (b : Byte) : BitVec 32 := (List.range 8).foldl (fun c _ => crcBit c) (c ^^^ b.zeroExtend 32)
def crc32c (b : Bytes) : Nat := (~~~ (b.foldl crcByte 0xFFFFFFFF#32)).toNat

/-- A payload padded with zeros to the 308 bytes of a block. -/
def pad308 (b : Bytes) : Bytes := b ++ List.replicate (308 - b.length) 0

/-- A link block: header, 308 bytes, CRC over both. -/
def linkBlock (head : Nat) (payload : Bytes) : Bytes :=
  let b := beBytes 8 head ++ pad308 payload
  b ++ beBytes 4 (crc32c b)

/-- The bytes of a packet that its flit `i` carries. -/
def flitPart (b : Bytes) (i : Nat) : Bytes := pad308 ((b.drop (308 * i)).take 308)

/-- A block on the line: PKT_START and KEY_PHASE stand in a packet's first flit. -/
def blockWire : Block → Bytes
  | .flit f => linkBlock (linkWord btFlit f.lseq f.header (f.piece == 0) (f.piece == 0 && f.keyPhase)) f.payload
  | .idle h => linkBlock (linkWord btIdle 0 h false false) []

/-! ### Ordered sets (R306) -/

/-- The 264 bits of a marker (02_beat_and_time R35). -/
def markerWord (m : Marker) : Nat :=
  place m.masterNode 250 14 + place m.masterPriority 242 8 + place m.hops 234 8 + place m.beatNumber 186 48
    + place m.edgeSec 138 48 + place m.edgeNs 106 32 + place m.turnaround 74 32 + place m.period 50 24
    + place m.epochStart 2 48 + place m.lock 0 2

/-- The marker that 264 bits spell. -/
def markerAt (w : Nat) : Marker :=
  { masterNode := field w 250 14, masterPriority := field w 242 8, hops := field w 234 8, beatNumber := field w 186 48,
    edgeSec := field w 138 48, edgeNs := field w 106 32, turnaround := field w 74 32, period := field w 50 24,
    epochStart := field w 2 48, lock := field w 0 2 }

/-- The content of an ordered set from OS_TYPE on, and how many bits it has. -/
def setBits : OrderedSet → Nat × Nat
  | .training t =>
    (place 0x01 64 8 + place t.node 50 14 + place t.epoch 18 32 + place t.variant 10 8 + place t.mode 8 2 + place t.lanes 4 4
      + place t.step 0 4, 72)
  | .marker m => (place 0x02 264 8 + markerWord m, 272)
  | .heartbeat h =>
    (place 0x03 78 8 + place h.masterNode 64 14 + place h.masterPriority 56 8 + place h.hops 48 8 + place h.lock 46 2
      + place h.node 32 14 + place h.epoch 0 32, 86)
  | .resetNotice node epoch reason => (place 0x04 54 8 + place node 40 14 + place epoch 8 32 + place reason 0 8, 62)
  | .linkRetry lseq => (place 0x05 12 8 + place lseq 0 12, 20)
  | .degrade lanes number echo => (place 0x06 13 8 + place lanes 9 4 + place number 1 8 + place (ofBool echo) 0 1, 21)

/-- The content in whole bytes, most significant bit first, the rest zero. -/
def setContent (o : OrderedSet) : Bytes :=
  let (w, n) := setBits o
  let k := (n + 7) / 8
  beBytes k (w * 2 ^ (8 * k - n))

/-- An ordered-set block: the content and, except in TRAINING, its tag. -/
def setWire (o : OrderedSet) (tag : Bytes) : Bytes := linkBlock (linkWord btOrderedSet 0 {} false false) (setContent o ++ tag)

/-! ### Datagrams of an Ethernet chord (R324-R326) -/

/-- What of SPOKE_ETH_CONFIG a datagram needs (R328). -/
structure EthPath where
  spoke : Nat
  localIp : Nat
  peerIp : Nat
  port : Nat
  dscp : Nat
  vlan : Nat
  deriving DecidableEq, Repr

/-- The 16-bit ones' complement sum of bytes, most significant first. -/
def inetSum : Nat → Bytes → Nat
  | a, x :: y :: r => let v := a + x.toNat * 256 + y.toNat; inetSum (v % 65536 + v / 65536) r
  | a, [x] => let v := a + x.toNat * 256; v % 65536 + v / 65536
  | a, [] => a

/-- The UDP header and payload between two addresses, with the checksum over the pseudo-header. -/
def udpBytes (e : EthPath) (sport : Nat) (b : Bytes) : Bytes :=
  let n := b.length + 8
  let head := beBytes 2 sport ++ beBytes 2 e.port ++ beBytes 2 n
  let pseudo := beBytes 16 e.localIp ++ beBytes 16 e.peerIp ++ beBytes 4 n ++ beBytes 4 17
  let sum := 65535 - inetSum 0 (pseudo ++ head ++ b)
  head ++ beBytes 2 (if sum = 0 then 65535 else sum) ++ b

/-- The IPv6 packet of a datagram: no extension header, the DSCP of its VC. -/
def ipv6Bytes (e : EthPath) (sport : Nat) (b : Bytes) : Bytes :=
  let u := udpBytes e sport b
  beBytes 4 (place 6 28 4 + place e.dscp 22 6 + place (Config.flowLabel e.spoke) 0 20) ++ beBytes 2 u.length ++ beBytes 1 17
    ++ beBytes 1 (Config.ipHopLimit % 256) ++ beBytes 16 e.localIp ++ beBytes 16 e.peerIp ++ u

/-- The Ethernet frame without its check sequence: addresses, one VLAN tag or none, and the IPv6 packet. The source port spreads
flows over equal paths. (PRESUMED, notes/assumptions/157.) -/
def ethFrame (e : EthPath) (k : Packet) (b : Bytes) : Bytes :=
  beBytes 6 (Config.macAddress e.spoke 1) ++ beBytes 6 (Config.macAddress e.spoke 0)
    ++ (if e.vlan = 0 then [] else beBytes 2 0x8100 ++ beBytes 2 e.vlan) ++ beBytes 2 0x86DD
    ++ ipv6Bytes e (Config.udpPort k.src k.dst k.vc % 65536) b

end Sys2Proof.Machine
end

