-- ==== Sys2Proof/Machine/Transport.lean ====
section
/-! DEFINITION. Sys2Proof/Machine/Transport.lean: nodes, rank maps, routing, and the sending side of the Hupatas transport
(10_lattices_and_mapping R280-R291, 11_spokes R309-R319).
(DEDUCED, notes/assumptions/80.)
(DESIGN CHOICE, notes/assumptions/81.) -/

namespace Sys2Proof.Machine

/-! ### Nodes and ranks -/

/-- This device's physical node (10 R284). -/
def State.node (s : State) : Nat := s.reg Obj.NODE_NUMBER

/-- Lattice, row and column of a node (R280). -/
def latticeOf (n : Nat) : Nat := n / 64
def rowOf (n : Nat) : Nat := field n 3 3
def colOf (n : Nat) : Nat := field n 0 3

/-- The row spoke from column c to column d, the column spoke from row r to row q (R280). -/
def rowSpoke (c d : Nat) : Nat := if d < c then d else d - 1
def colSpoke (r q : Nat) : Nat := 7 + (if q < r then q else q - 1)

/-- The node a row or column spoke of a node leads to, and the peer's spoke that leads back (R280). -/
def spokePeer (n p : Nat) : Nat :=
  if p < 7 then latticeOf n * 64 + rowOf n * 8 + (if p < colOf n then p else p + 1)
  else latticeOf n * 64 + (if p - 7 < rowOf n then p - 7 else p - 6) * 8 + colOf n
def spokeBack (n p : Nat) : Nat :=
  let q := spokePeer n p
  if p < 7 then rowSpoke (colOf q) (colOf n) else colSpoke (rowOf q) (rowOf n)

/-- The node of a logical rank under a context's active map (R288, R291). -/
def State.nodeOfRank (s : State) (c rank : Nat) : Option Nat :=
  let e := s.regF Obj.RANK_MAP_ACTIVE c rank
  if bit e 15 then some (field e 0 14) else none

/-- A node is lost to this device (15_faults_and_recovery R409). -/
def State.nodeLost (s : State) (n : Nat) : Bool := (tfind s.rcv.lost n).isSome

/-! ### Spokes -/

/-- A spoke's record. -/
def State.spoke (s : State) (p : Nat) : Spoke := tget {} s.spokes p
def State.setSpoke (s : State) (p : Nat) (x : Spoke) : State := { s with spokes := tset s.spokes p x }

/-- SPOKE_STATE values (11 R298). -/
def spDisabled : Nat := 0
def spTraining : Nat := 1
def spKeying : Nat := 2
def spUp : Nat := 3
def spDegraded : Nat := 4
def spDown : Nat := 5
def spHeld : Nat := 6

def State.spokeState (s : State) (p : Nat) : Nat := s.reg Obj.SPOKE_STATE p

/-- The spoke carries traffic. -/
def State.spokeUp (s : State) (p : Nat) : Bool := s.spokeState p == spUp || s.spokeState p == spDegraded

/-- The spoke carries traffic, or key exchange alone (11 R298). -/
def State.linkUp (s : State) (p : Nat) : Bool := s.spokeUp p || s.spokeState p == spKeying

/-- The chord is an Ethernet port (11 R324). -/
def State.ethernet (s : State) (p : Nat) : Bool := decide (14 ≤ p) && s.reg Obj.SPOKE_MODE p == 1

/-- Routing may choose the spoke: VC5 avoids one under retune (20_maintenance_and_telemetry R559). -/
def State.usable (s : State) (p vc : Nat) : Bool :=
  s.spokeUp p && !(vc == 5 && s.maint.running.any (fun r => r.activity == 2 && r.resource / 4 == p))

/-- The hop class of a packet: the hops it has taken (R304). -/
def hopClassOf (k : Packet) : Nat := min (12 - k.hopLimit) 11

/-- Credits a packet needs, in 64-byte units, and flits it takes (R302, R304). -/
def packetUnits (k : Packet) : Nat := (48 + k.payload.length + 63) / 64
def packetFlits (k : Packet) : Nat := (48 + k.payload.length + 307) / 308

/-- Free credits on a spoke for a packet. -/
def State.creditsFor (s : State) (p vc cls : Nat) : Nat := tget 0 (s.spoke p).credits (vc * 12 + cls)

/-- The usable spoke of a list with the most free credits; ties go to the lower number (R317). -/
def State.bestSpoke (s : State) (vc cls : Nat) (l : List Nat) : Option Nat :=
  (l.filter (fun p => s.usable p vc)).foldl (fun b p =>
    match b with
    | none => some p
    | some q => if s.creditsFor q vc cls < s.creditsFor p vc cls ∨ (s.creditsFor q vc cls = s.creditsFor p vc cls ∧ p < q) then some p
        else some q) none

/-- The minimal next hops inside a lattice (R282, R317). -/
def minimalHops (me dst : Nat) : List Nat :=
  if rowOf me = rowOf dst then [rowSpoke (colOf me) (colOf dst)]
  else if colOf me = colOf dst then [colSpoke (rowOf me) (rowOf dst)]
  else [rowSpoke (colOf me) (colOf dst), colSpoke (rowOf me) (rowOf dst)]

/-- Spoke hops between two positions of one lattice. -/
def hopsBetween (a b : Nat) : Nat :=
  (if rowOf a = rowOf b then 0 else 1) + (if colOf a = colOf b then 0 else 1)

/-- The next spoke toward a node of this lattice, and whether it is a detour (R317). -/
def State.hopInLattice (s : State) (k : Packet) (dst : Nat) : Option (Nat × Bool) :=
  match s.bestSpoke k.vc (hopClassOf k) (minimalHops s.node dst) with
  | some p => some (p, k.detour)
  | none =>
    if k.detour then none
    else (s.bestSpoke k.vc (hopClassOf k) (List.range 14)).map (fun p => (p, true))

/-! ### The lattice route table (R286) -/

def rtNext (e : Nat) : Nat := field e 56 8
def rtCount (e : Nat) : Nat := field e 52 4
def rtExit (e n : Nat) : Nat := field e (6 * n) 6

/-- The route entry of a destination lattice. -/
def State.route (s : State) (lat : Nat) : Nat := s.regF Obj.LATTICE_ROUTE 0 lat

/-- A node can be reached by the tables (R287): its own lattice, or an entry with exits. -/
def State.routable (s : State) (dst : Nat) : Bool :=
  latticeOf dst == latticeOf s.node || rtCount (s.route (latticeOf dst)) != 0

/-- The listed exit to take: fewest hops, then most free credits toward it, then the lower index (R317). -/
def State.chooseExit (s : State) (k : Packet) (e : Nat) : Option Nat :=
  let base := latticeOf s.node * 64
  let credit : Nat → Nat := fun x => match s.hopInLattice k x with
    | some (p, _) => s.creditsFor p k.vc (hopClassOf k)
    | none => 0
  ((List.range (rtCount e)).map (fun n => base + rtExit e n)).foldl (fun b x =>
    match b with
    | none => some x
    | some y => if hopsBetween s.node x < hopsBetween s.node y
        ∨ (hopsBetween s.node x = hopsBetween s.node y ∧ credit y < credit x) then some x else some y) none

/-- The next spoke of a packet (R317). -/
def State.nextHop (s : State) (k : Packet) : Option (Nat × Bool) :=
  if latticeOf k.dst = latticeOf s.node then s.hopInLattice k k.dst
  else
    let e := s.route (latticeOf k.dst)
    let exits := (List.range (rtCount e)).map (fun n => latticeOf s.node * 64 + rtExit e n)
    if exits.contains s.node then
      (s.bestSpoke k.vc (hopClassOf k) ((range2 14 18).filter (fun p =>
        let q := s.reg Obj.SPOKE_PEER p
        q != 0xFFFF && latticeOf q == rtNext e))).map (fun p => (p, k.detour))
    else match s.chooseExit k e with
      | some x => s.hopInLattice k x
      | none => none

/-- A packet is handed to the spoke its next hop names, or waits for one to come up (R317, R327). -/
def State.dispatch (s : State) (k : Packet) : Option Nat × State :=
  match s.nextHop k with
  | some (p, d) =>
    let x := s.spoke p
    (some p, s.setSpoke p { x with waiting := x.waiting ++ [{ k with detour := d }] })
  | none => (none, (s.setHup { s.hup with stuck := s.hup.stuck ++ [k] }))

/-- Packets for which no spoke was usable are tried again. -/
def State.retryStuck (s : State) : State :=
  let l := s.hup.stuck
  l.foldl (fun s k => (s.dispatch k).2) (s.setHup { s.hup with stuck := [] })

/-- A packet of another node takes its next hop, one hop the fewer; at the limit it is discarded and counted, and the first
such discard of a second is logged (R318). -/
def State.forward (s : State) (k : Packet) : State :=
  if k.hopLimit ≤ 1 then
    let s := s.bump Obj.HUP_HOP_DISCARD_COUNT 0
    if s.hup.hopLogged = some s.cad.sec then s
    else (s.setHup { s.hup with hopLogged := some s.cad.sec }).log!
      { code := 0x041, sub := 9, ctx := k.ctx, info0 := k.dst, info1 := k.src }
  else (s.dispatch { k with hopLimit := k.hopLimit - 1 }).2

/-! ### Flows: the sending side (R311-R313) -/

def flowKey (node vc : Nat) : Nat := node * 8 + vc

def State.txFlow (s : State) (node vc : Nat) : TxFlow := tget {} s.hup.tx (flowKey node vc)
def State.setTx (s : State) (node vc : Nat) (f : TxFlow) : State :=
  (s.setHup { s.hup with tx := tset s.hup.tx (flowKey node vc) f })
def State.rxFlow (s : State) (node vc : Nat) : RxFlow := tget {} s.hup.rx (flowKey node vc)
def State.setRx (s : State) (node vc : Nat) (f : RxFlow) : State :=
  (s.setHup { s.hup with rx := tset s.hup.rx (flowKey node vc) f })

/-- Known epoch of a node; known generation of a node's context (R315, R316). -/
def State.peerEpoch (s : State) (node : Nat) : Nat := tget 0 s.hup.peerEpoch node
/-- The epoch a packet to a node is sent to (R309): 0 while the one known has ended and no other is. -/
def State.liveEpoch (s : State) (node : Nat) : Nat :=
  match tfind s.rcv.lost node with
  | some e => if s.peerEpoch node ≤ e then 0 else s.peerEpoch node
  | none => s.peerEpoch node
def State.knownGen (s : State) (node c : Nat) : Option Nat := tfind s.hup.peerGen (node * 16 + c)
def State.peerGen (s : State) (node c : Nat) : Nat := (s.knownGen node c).getD 0

/-- The cumulative acknowledgement that a packet to a node carries for the reverse flow: the last SEQ delivered
(DEDUCED, notes/assumptions/8). -/
def State.ackFields (s : State) (k : Packet) : Packet :=
  let f := s.rxFlow k.dst k.vc
  match tfind s.hup.rx (flowKey k.dst k.vc) with
  | none => k
  | some _ => { k with ackValid := true, ack := (f.next + 2 ^ 32 - 1) % 2 ^ 32 }

/-- A packet that this device numbers in a flow (R311). -/
def isNumbered (k : Packet) : Bool := k.type == 0 || k.type == 2 || k.type == 3

/-- Two packets are one packet of a flow. -/
def samePacket (a b : Packet) : Bool :=
  a.src == b.src && a.dst == b.dst && a.vc == b.vc && a.seq == b.seq && isNumbered a && isNumbered b

/-- An Ethernet chord may take a packet: with those of this device's that have left by it and are not acknowledged it stays within
the in-flight bytes of SPOKE_ETH_CONFIG (R325). -/
def State.chordRoom (s : State) (p : Nat) (k : Packet) : Bool :=
  if s.ethernet p && k.src == s.node && isNumbered k then
    let out := fun (u : Unacked) => u.via == some p && !((s.spoke p).waiting.any (samePacket u.packet))
    let used := (tvals s.hup.tx).foldl (fun a f => (f.unacked.filter out).foldl (fun a u => a + 48 + u.packet.payload.length) a) 0
    decide (used + 48 + k.payload.length ≤ s.regF Obj.SPOKE_ETH_CONFIG p 14)
  else true

/-- The packets of a flow that may leave now: the first 256 that no acknowledgement covers (R311). -/
def State.pump (s : State) (node vc : Nat) : Nat → State
  | 0 => s
  | fuel + 1 =>
    let f := s.txFlow node vc
    match (f.unacked.take 256).find? (fun u => !u.sent) with
    | none => s
    | some u =>
      let (via, s) := s.dispatch (s.ackFields u.packet)
      let l := f.unacked.map (fun x => if x.packet.seq = u.packet.seq then { x with sent := true, via := via } else x)
      (s.setTx node vc { f with unacked := l }).pump node vc fuel

/-- A packet to another node is put into its flow (R309, R311): the source fills in its own and the known peer's epochs and
generations. -/
def State.enqueue (s : State) (node vc : Nat) (k : Packet) (who : Sender) : State :=
  let f := s.txFlow node vc
  let k := { k with src := s.node, dst := node, vc := vc, srcGen := s.gen k.ctx, dstGen := s.peerGen node k.ctx,
                    srcEpoch := s.epoch, dstEpoch := s.liveEpoch node, seq := f.next }
  s.setTx node vc { next := (f.next + 1) % 2 ^ 32, unacked := f.unacked ++ [{ packet := k, sender := who }] }

/-- The pieces of a record: 4,096 bytes each but the last (R310). -/
def piecesOf : Nat → Bytes → List Bytes
  | 0, _ => []
  | fuel + 1, bs => if bs.length ≤ 4096 then [bs] else bs.take 4096 :: piecesOf fuel (bs.drop 4096)

/-- The DATA packets of a record put into a flow. -/
def State.enqueuePieces (s : State) (node vc c : Nat) (who : Sender) (rank : Option Nat) (first : Bool) : List Bytes → State
  | [] => s
  | [b] => s.enqueue node vc
      { type := 0, vc := vc, src := 0, dst := node, ctx := c, first := first, last := true, payload := b, rank := rank } who
  | b :: bs =>
    (s.enqueue node vc
      { type := 0, vc := vc, src := 0, dst := node, ctx := c, first := first, last := false, payload := b, rank := rank } who).enqueuePieces
      node vc c who rank false bs

/-- A record is sent to a node, for a rank that it holds or for the node itself (R310): to another node through its flow; to this
device it is delivered at once. -/
def State.sendRecord (s : State) (node vc c : Nat) (bytes : Bytes) (who : Sender) (rank : Option Nat := none) : State :=
  if node = s.node then
    (s.setHup { s.hup with inbox := s.hup.inbox ++ [{ node := node, vc := vc, ctx := c, epoch := s.epoch, close := false, bytes := bytes }] })
  else (s.enqueuePieces node vc c who rank true (piecesOf (bytes.length / 4096 + 1) bytes)).pump node vc 256

/-- The payload of a CLOSE packet (R310). -/
def closePayload (step tag rank count : Nat) (absent : Bool) : Bytes :=
  beBytes 16 (place step 96 32 + place tag 80 16 + place rank 66 14 + place count 32 32 + ofBool absent)

/-- A close marker is sent to a node (02_beat_and_time R61, R310). -/
def State.sendClose (s : State) (node vc c step tag rank count : Nat) (absent : Bool) (who : Sender) (dest : Option Nat := none) : State :=
  let b := closePayload step tag rank count absent
  if node = s.node then
    (s.setHup { s.hup with inbox := s.hup.inbox ++ [{ node := node, vc := vc, ctx := c, epoch := s.epoch, close := true, bytes := b }] })
  else (s.enqueue node vc { type := 2, vc := vc, src := 0, dst := node, ctx := c, payload := b, rank := dest } who).pump node vc 256

/-- A CONTROL packet: 1 EPOCH_NOTICE, 2 GEN_NOTICE (R310). -/
def State.sendControl (s : State) (node c code value : Nat) : State :=
  if node = s.node then s
  else (s.enqueue node 0 { type := 3, vc := 0, src := 0, dst := node, ctx := c, payload := beBytes 8 (place code 48 16 + place value 0 32) } .none).pump node 0 256

/-- Packets of an item that wait for an acknowledgement (09_collectives R277). -/
def State.unackedOf (s : State) (who : Sender) : Bool :=
  s.hup.tx.any (fun e => e.2.unacked.any (fun u => u.sender == who))

/-- Every flow with a node is abandoned in both directions and starts again at SEQ 0 (R315); the senders whose packets are
lost. -/
def State.dropFlows (s : State) (node : Nat) : List Sender × State :=
  let lost := (s.hup.tx.filter (fun e => e.1 / 8 == node)).flatMap (fun e => e.2.unacked.map (·.sender))
  let out := fun (e : Nat × TxFlow) => e.1 / 8 != node
  (lost, (s.setHup { s.hup with tx := s.hup.tx.filter out, rx := s.hup.rx.filter (fun e => e.1 / 8 != node) }))

/-- At a context reset GEN_NOTICE goes to every node of the active rank map but this one (R316). -/
def State.genNotices (s : State) (c : Nat) : State :=
  match tfind s.objs (Obj.RANK_MAP_ACTIVE.key c) with
  | none => s
  | some l => ((l.filter (fun e => bit e 15)).map (fun e => field e 0 14)).foldl (fun s n => s.sendControl n c 2 (s.gen c)) s

end Sys2Proof.Machine
end

