-- ==== Sys2Proof/Machine/Exchange.lean ====
section
/-! DEFINITION. Sys2Proof/Machine/Exchange.lean: exchange windows: contributions and their close markers, the drop ledger, and
a slot's output (02_beat_and_time R61-R69, 08_backward_and_training R244). -/

namespace Sys2Proof.Machine

/-! ### Windows of a plan -/

/-- The ranks of a window's source list, in order (R49). -/
def PlanImage.sources (im : PlanImage) (w : Window) : List Nat := (im.ranks.drop w.sourceList).take w.sourceCount

/-- The window that carries a tag, with its index (R49, R51: tags are distinct). -/
def PlanImage.windowOfTag (im : PlanImage) (tag : Nat) : Option (Nat × Window) :=
  ((List.range im.windows.length).zip im.windows).find? (fun e => e.2.tag == tag)

/-- Grace of a window: that of its consuming slots (R48, R51). -/
def PlanImage.graceOf (im : PlanImage) (w : Nat) : Nat :=
  match im.consumers w with
  | e :: _ => e.2.grace
  | [] => 0

/-- Window `w` of a context's plan. -/
def State.window? (s : State) (c w : Nat) : Option Window :=
  match (s.plan c).image with
  | some im => im.windows[w]?
  | none => none

/-- The source ranks of window `w` of a context's plan. -/
def State.windowSources (s : State) (c w : Nat) : List Nat :=
  match (s.plan c).image with
  | some im => (match im.windows[w]? with | some x => im.sources x | none => [])
  | none => []

/-- This device's logical rank in a context; 0xFFFF for none (10 R289). -/
def State.rank (s : State) (c : Nat) : Nat := s.reg Obj.LOCAL_RANK c

/-- The step of a context that is open now. -/
def State.openStep (s : State) (c : Nat) : Option Nat := if (s.plan c).opened then some (s.reg Obj.STEP_NUMBER c) else none

/-- The contributions a device takes belong to its open step, or to the step that opens next (R61, R62). -/
def State.takesStep (s : State) (c stepLow : Nat) : Bool :=
  let now := s.reg Obj.STEP_NUMBER c
  match s.openStep c with
  | some n => stepLow == n % 65536 || stepLow == (n + 1) % 65536
  | none =>
    if s.planState c = planArmed then stepLow == (s.plan c).firstStep % 65536
    else s.planState c == planRunning && stepLow == (now + 1) % 65536

/-! ### Contributions (R61-R66) -/

def contribKey (step w rank : Nat) : Nat := 16384 * (4096 * (step % 65536) + w) + rank

def State.contrib (s : State) (c step w rank : Nat) : Contribution := tget {} (s.plan c).contribs (contribKey step w rank)
def State.setContrib (s : State) (c step w rank : Nat) (x : Contribution) : State :=
  let p := s.plan c
  s.setPlan c { p with contribs := tset p.contribs (contribKey step w rank) x }

/-- How a contribution that completes now stands (R62): by the close edge of its window and the grace, counted from the edge at
which the step opened. -/
def State.standing (s : State) (c step w : Nat) : Arrival :=
  let p := s.plan c
  match s.openStep c, s.window? c w, p.image with
  | some n, some x, some im =>
    if n % 65536 ≠ step % 65536 then .onTime
    else if s.beat < p.openBeat + x.close then .onTime
    else if s.beat < p.openBeat + x.close + im.graceOf w then .withinGrace
    else .late
  | _, _, _ => .onTime

/-- A contribution whose close marker and records have all come is complete (R62). -/
def State.judgeContrib (s : State) (c step w rank : Nat) : State :=
  let x := s.contrib c step w rank
  match x.arrival, x.closed with
  | .incomplete, some n =>
    if n ≤ x.records then
      let a := s.standing c step w
      let s := s.setContrib c step w rank { x with arrival := a }
      if a = .withinGrace then
        let p := s.plan c
        s.setPlan c { p with graceCount := tset p.graceCount rank (tget 0 p.graceCount rank + 1) }
      else s
    else s
  | _, _ => s

/-- The contribution has been dropped (R64, R66). -/
def State.contribDropped (s : State) (c step w rank : Nat) : Bool := (s.contrib c step w rank).arrival == .droppedLate

/-- The contribution is complete and was not dropped. -/
def Contribution.complete (x : Contribution) : Bool :=
  match x.arrival with | .onTime => true | .withinGrace => true | .late => true | _ => false

/-- A record of a contribution has come: false when it belongs to a dropped one and is discarded (R66). -/
def State.contribRecord (s : State) (c step w rank : Nat) : Bool × State :=
  let x := s.contrib c step w rank
  if x.arrival = .droppedLate then (false, s)
  else (true, (s.setContrib c step w rank { x with records := x.records + 1 }).judgeContrib c step w rank)

/-- Some source of a window was dropped. -/
def State.anyDropped (s : State) (c step w : Nat) : Bool := (s.windowSources c w).any (fun r => s.contribDropped c step w r)

/-! ### Absent micro-batches (08 R244) -/

/-- A micro-batch becomes absent: the mask is published and written at PIPE_ABSENT_ADDR. -/
def State.markAbsent (s : State) (c mb : Nat) : State :=
  let m := s.reg Obj.PIPE_ABSENT_MASK c ||| (1 <<< mb)
  let s := s.setReg Obj.PIPE_ABSENT_MASK c m
  let a := s.reg Obj.PIPE_ABSENT_ADDR c
  if a = 2 ^ 64 - 1 then s else (s.ctxWrite c a (leBytes 8 m)).2

/-- The micro-batch is absent in the step. -/
def State.isAbsent (s : State) (c mb : Nat) : Bool := bit (s.reg Obj.PIPE_ABSENT_MASK c) mb

/-- The descriptors of a slot, as the operation table holds them (R48); an unreadable one reads 0. -/
def State.opDescs (s : State) (c requester : Nat) (im : PlanImage) (sl : Slot) : List Nat → List Nat × State
  | [] => ([], s)
  | i :: is =>
    let (g, s) := s.ctxRead c (im.base + im.header.opOff + 64 * (sl.opDesc + i)) 64 requester
    let r := s.opDescs c requester im sl is
    ((if g.poison || g.protection then 0 else g.num) :: r.1, r.2)

/-- The descriptors of the slots of one class that consume a window. -/
def State.windowDescs (s : State) (c w cls requester : Nat) : List Nat × State :=
  match (s.plan c).image with
  | none => ([], s)
  | some im =>
    ((im.consumers w).filter (fun e => e.2.opClass == cls)).foldl (fun (a : List Nat × State) e =>
      let (l, s) := a.2.opDescs c requester im e.2 (List.range e.2.opCount)
      (a.1 ++ l, s)) ([], s)

/-- A collective descriptor that finishes a hand-off: ALL_TO_ALL with PIPE_HANDOFF, PHASE FINISH (09_collectives R262). -/
def finishesHandoff (d : Nat) : Bool := descOpcode d == 0x54 && bit d 489 && field d 502 2 == 2

/-- The micro-batches of the hand-offs that a window brings become absent: those their descriptors name. -/
def State.markHandoffs (s : State) (c w : Nat) : State :=
  let (l, s) := s.windowDescs c w 4 8
  (l.filter finishesHandoff).foldl (fun s d => s.markAbsent c (field d 483 6)) s

/-- A complete contribution of the open step whose close marker carried ABSENT makes its hand-off's micro-batch absent. -/
def State.followAbsent (s : State) (c step w rank : Nat) : State :=
  let x := s.contrib c step w rank
  match s.openStep c with
  | some n => if x.absent && x.complete && n % 65536 == step % 65536 then s.markHandoffs c w else s
  | none => s

/-! ### Close markers -/

/-- What comes for a contribution that has been dropped is discarded and counted: in the counter of discarded records of the
engine that consumes the window (R66). (DESIGN CHOICE, notes/assumptions/154.) -/
def State.countLateRecord (s : State) (c w : Nat) : State :=
  let router : Bool := match (s.plan c).image with | some im => (im.consumers w).any (fun e => e.2.opClass == 3) | none => false
  s.bump (if router then Obj.ROUTER_STALE_COUNT else Obj.COLL_DISCARD_COUNT) c

/-- A close marker of (step, tag) from a rank (R61, 11_spokes R310). -/
def State.closeArrive (s : State) (c step tag rank count : Nat) (absent : Bool) : State :=
  match (s.plan c).image with
  | none => s
  | some im =>
    match im.windowOfTag tag with
    | none => s
    | some (w, x) =>
      if s.takesStep c (step % 65536) && (im.sources x).contains rank then
        let k := s.contrib c step w rank
        if k.arrival = .droppedLate then s.countLateRecord c w
        else if k.closed.isSome = true then s
        else ((s.setContrib c step w rank { k with closed := some count, absent := absent }).judgeContrib c step w rank).followAbsent c step w rank
      else s

/-- The first delivered entry of a flow that a predicate picks, taken out. -/
def State.takeInbox (s : State) (node vc : Nat) (want : Delivered → Bool) : Option (Delivered × State) :=
  let here := fun (d : Delivered) => d.node == node && d.vc == vc && want d
  match s.hup.inbox.findIdx? here with
  | none => none
  | some i => (s.hup.inbox[i]?).map (fun d => (d, (s.setHup { s.hup with inbox := s.hup.inbox.eraseIdx i })))

/-- A delivered record belongs to the collective engine: its collective ID names a window whose consuming slots are the engine's,
and its reserved bits are zero (09_collectives R264). -/
def State.collectivesRecord (s : State) (d : Delivered) : Bool :=
  let w := ofLE (d.bytes.take 32)
  !d.close && d.vc != 4 && d.vc != 5 && field w 0 103 == 0 &&
    (match (s.plan d.ctx).image with
     | some im =>
       (match im.windowOfTag (field w 240 16) with
        | some (k, _) => (im.consumers k).any (fun e => e.2.opClass == 4)
        | none => false)
     | none => false)

/-- CLOSE_MARKER_RECEIVE (R62): the first close marker that a flow has delivered. -/
def execCloseMarkerReceive (node vc : Nat) (s : State) : Res :=
  .next (match s.takeInbox node vc (fun d => d.close) with
    | some (d, s) =>
      let w := ofBE d.bytes
      s.closeArrive d.ctx (field w 96 32) (field w 80 16) (field w 66 14) (field w 32 32) (bit w 0)
    | none => s)

/-! ### The drop ledger (R67, R68) -/

/-- A ledger entry. -/
def ledgerWord (kind window slot source expert beatOff step : Nat) : Nat :=
  place kind 124 4 + place window 112 12 + place slot 96 16 + place source 80 16 + place expert 56 24 + place beatOff 32 24
    + place step 0 32

/-- Entries a step's ledger holds, and the offset of entry `i` of a step. -/
def State.ledgerSize (s : State) (c : Nat) : Nat := s.reg Obj.DROP_LEDGER_ENTRIES c
def State.ledgerAt (s : State) (c step i : Nat) : Nat := s.reg Obj.DROP_LEDGER_ADDR c + (step % 4 * s.ledgerSize c + i) * 16

/-- There is room for one more entry of the open step, inside the context's memory (R68). -/
def State.ledgerRoom (s : State) (c step : Nat) : Bool :=
  decide ((s.plan c).ledgerCount < s.ledgerSize c) && s.inRegion c (s.ledgerAt c step (s.plan c).ledgerCount) 16

/-- An entry written after those of the step so far (R67). -/
def State.ledgerPut (s : State) (c step kind window slot source expert beatOff : Nat) : State :=
  let p := s.plan c
  let s := (s.ctxWrite c (s.ledgerAt c step p.ledgerCount) (leBytes 16 (ledgerWord kind window slot source expert beatOff step))).2
  s.setPlan c { p with ledgerCount := p.ledgerCount + 1, ledgerKinds := tset p.ledgerKinds kind (tget 0 p.ledgerKinds kind + 1) }

/-- The zero entry that ends a step's entries (R67). -/
def State.ledgerEnd (s : State) (c step : Nat) : State :=
  if s.ledgerRoom c step then (s.ctxWrite c (s.ledgerAt c step (s.plan c).ledgerCount) (leBytes 16 0)).2 else s

/-! ### A slot's output (R61) -/

/-- Output staged until its window opens. -/
def State.stage (s : State) (o : Outgoing) : State := (s.setOutgoing (s.outgoing ++ [o]))

/-- The window's open edge has come in its step. (DEDUCED, notes/assumptions/48.) -/
def State.windowOpen (s : State) (o : Outgoing) : Bool :=
  match s.window? o.ctx o.window with
  | some w => s.openStep o.ctx == some o.step && decide ((s.plan o.ctx).openBeat + w.opens ≤ s.beat)
  | none => false

/-- A packet is not sent because no route leads to its node: a record names the destination node (10 R287). Its CODE is open
(DESIGN CHOICE, notes/assumptions/29). -/
def State.noRoute (s : State) (c node : Nat) (item : Option Nat) : State :=
  let s := (s.log! { code := s.fresh 32768, sub := 9, ctx := c, status := Status.failedProtection.code, info0 := node }).took
  match item with
  | some n =>
    (match s.item? n with
     | some it =>
       let s := if descOpcode it.desc = 0x62 ∧ it.met.contains .failedProtection = false then s.bump Obj.FABRIC_PROTECTION_COUNT it.ctx else s
       s.meet n .failedProtection
     | none => s)
  | none => s

/-- One record to a rank under the active map. A rank without a mapping, or whose lattice has no route, fails the item
(10 R286, R291). -/
def State.sendToRank (s : State) (c vc rank : Nat) (bytes : Bytes) (item : Option Nat) : State :=
  match s.nodeOfRank c rank with
  | some node =>
    if s.routable node then s.sendRecord node vc c bytes (match item with | some n => .item n | none => .none) (some rank)
    else s.noRoute c node item
  | none => (match item with | some n => s.meet n .failedProtection | none => s)

/-- One close marker to a rank. -/
def State.closeToRank (s : State) (c vc step tag rank count : Nat) (absent : Bool) (item : Option Nat) : State :=
  match s.nodeOfRank c rank with
  | some node =>
    if s.routable node then
      s.sendClose node vc c step tag (s.rank c) count absent (match item with | some n => .item n | none => .none) (some rank)
    else s.noRoute c node item
  | none => (match item with | some n => s.meet n .failedProtection | none => s)

/-- Records sent in order. -/
def State.sendRecords (s : State) (c vc : Nat) (item : Option Nat) : List (Nat × Bytes) → State
  | [] => s
  | (r, b) :: l => (s.sendToRank c vc r b item).sendRecords c vc item l

/-- An item whose last packet has been acknowledged has finished. -/
def State.sentAll (s : State) (n : Nat) : State :=
  if s.unackedOf (.item n) || s.outgoing.any (fun o => o.item == some n) then s else s.finish n

/-- The output leaves: its records, a close marker to every rank with the records sent to it, then what follows. -/
def State.sendOutput (s : State) (o : Outgoing) : State :=
  match s.window? o.ctx o.window with
  | none => s
  | some w =>
    let vc := o.vc.getD w.vc
    let s := s.sendRecords o.ctx vc o.item o.recs
    let ranks := o.ranks.getD (s.windowSources o.ctx o.window)
    let s := ranks.foldl (fun s r =>
      s.closeToRank o.ctx vc o.step w.tag r ((o.recs.filter (fun e => e.1 == r)).length) o.absent o.item) s
    let s := s.sendRecords o.ctx vc o.item o.after
    match o.item with
    | some n => s.sentAll n
    | none => s

/-- WINDOW_OUTPUT_SEND (R61): the oldest output of the slot whose window is open leaves. -/
def execWindowOutputSend (ctx slot : Nat) (s : State) : Res :=
  .next (match s.outgoing.findIdx? (fun o => o.ctx == ctx && o.slot == slot && s.windowOpen o) with
    | some i =>
      (match s.outgoing[i]? with
       | some o => (s.setOutgoing (s.outgoing.eraseIdx i)).sendOutput o
       | none => s)
    | none => s)

/-- The window and its index that a planned item's slot consumes or produces. -/
def State.slotWindows (s : State) (it : Item) : Option Nat × Option Nat :=
  match (s.plan it.ctx).image with
  | some im =>
    (match im.slots[it.slot]? with
     | some sl => (if sl.winIn = 0xFFF then none else some sl.winIn, if sl.winOut = 0xFFF then none else some sl.winOut)
     | none => (none, none))
  | none => (none, none)

end Sys2Proof.Machine
end

