-- ==== Sys2Proof/Machine/Pool.lean ====
section
/-! DEFINITION. Sys2Proof/Machine/Pool.lean: buffer pools, quotas and ownership (14_queues_and_pools R392-R399). -/

namespace Sys2Proof.Machine

/-! ### Records (14 R392, R393) -/

def prBase (r : Nat) : Nat := field r 216 40
def prCount (r : Nat) : Nat := field r 192 24
def prRing (r : Nat) : Nat := field r 152 40
def prTable (r : Nat) : Nat := field r 112 40
def prReserved (r : Nat) : Nat := field r 0 112

/-- Bytes of a buffer of pool `p`: 256 * 4^p. -/
def poolSize (p : Nat) : Nat := 256 * 4 ^ p

/-- A handle: POOL [31:29], GEN [28:24], INDEX [23:0] (14 R393). -/
def handleOf (pool gen index : Nat) : Nat := place pool 29 3 + place gen 24 5 + place index 0 24
def hPool (h : Nat) : Nat := field h 29 3
def hGen (h : Nat) : Nat := field h 24 5
def hIndex (h : Nat) : Nat := field h 0 24

/-- A state-table entry: HELD [15], OWNER [14:9], GEN [8:4] (14 R393). -/
def entryOf (held : Bool) (owner gen : Nat) : Nat := place (ofBool held) 15 1 + place owner 9 6 + place gen 4 5
def eHeld (e : Nat) : Bool := bit e 15
def eOwner (e : Nat) : Nat := field e 9 6
def eGen (e : Nat) : Nat := field e 4 5

/-- A context's pool record and pool. -/
def State.poolRec (s : State) (c p : Nat) : Nat := s.regF Obj.POOL_CONFIG c p
def State.pool (s : State) (c p : Nat) : Pool := tget {} s.pools (c * 8 + p)
def State.setPool (s : State) (c p : Nat) (x : Pool) : State := { s with pools := tset s.pools (c * 8 + p) x }

/-- The free buffers of a pool: cache and ring (14 R395). -/
def Pool.freeCount (x : Pool) : Nat := x.cache.length + x.ringCount

/-- Entries of a pool's free ring (14 R392). -/
def ringCap (r : Nat) : Nat := powCeil 24 1 (prCount r)

/-- The context a requester is bound to (0xFF: unbound), its MIN and MAX, and what it holds (14 R395). -/
def State.reqContext (s : State) (r : Nat) : Nat := s.regF Obj.POOL_REQUESTER r 0
def State.reqMin (s : State) (r p : Nat) : Nat := s.regF Obj.POOL_REQUESTER r (1 + p)
def State.reqMax (s : State) (r p : Nat) : Nat := s.regF Obj.POOL_REQUESTER r (9 + p)
def State.reqHeld (s : State) (r p : Nat) : Nat := s.regF Obj.POOL_HELD r p

/-- The requesters of a context. -/
def State.requesters (s : State) (c : Nat) : List Nat := (List.range 64).filter (fun r => s.reqContext r == c)

/-- State-table entry of a buffer, read from the context's memory through the pool's cache; none when its word is poisoned in either (14 R400,
13_hbm_and_ecc R360). -/
def State.bufEntry (s : State) (c p i : Nat) : Option Nat × State :=
  let (g, s) := s.ctxRead c (prTable (s.poolRec c p) + 2 * i) 2 12
  let (dead, s) := s.sramRead 5 (8 * c + p) (i / 4) (i / 4 + 1) c 0xFFFF
  if g.poison || g.protection || !dead.isEmpty then (none, s) else (some g.num, s)

/-- State-table entry of a buffer, written to the context's memory. -/
def State.setBufEntry (s : State) (c p i e : Nat) : State := (s.ctxWrite c (prTable (s.poolRec c p) + 2 * i) (leBytes 2 e)).2

/-! ### Quotas (14 R395) -/

/-- The guarantees of the other requesters of the context that are not yet used, `o`'s charge given up if named. -/
def State.owed (s : State) (c p r : Nat) (giveUp : Option Nat) : Nat :=
  ((s.requesters c).filter (· != r)).foldl (fun a x =>
    a + (s.reqMin x p - (s.reqHeld x p - (if giveUp = some x then 1 else 0)))) 0

/-- How an acquisition or transfer is decided. -/
inductive Quota where
  | grant
  | limit
  | exhausted
  deriving DecidableEq, Repr

/-- R395: an acquisition by requester `r` of context `c` from pool `p`. -/
def State.acquireQuota (s : State) (c r p : Nat) : Quota :=
  if s.reqMax r p ≤ s.reqHeld r p then .limit
  else if s.reqHeld r p < s.reqMin r p ∨ s.owed c p r none < (s.pool c p).freeCount then .grant
  else .exhausted

/-- R397: a transfer from owner `o` to requester `n`. -/
def State.transferQuota (s : State) (c o n p : Nat) : Quota :=
  if s.reqMax n p ≤ s.reqHeld n p then .limit
  else if s.reqHeld n p < s.reqMin n p ∨ s.owed c p n (some o) ≤ (s.pool c p).freeCount then .grant
  else .exhausted

/-- A failed acquisition is counted (14 R395, R401). -/
def State.countQuota (s : State) (c p : Nat) : Quota → State
  | .grant => s
  | .limit => s.bumpF Obj.POOL_EXHAUSTED_COUNT c (2 * p) 1
  | .exhausted => s.bumpF Obj.POOL_EXHAUSTED_COUNT c (2 * p + 1) 1

/-- Handles that cannot be used are withheld and counted (14 R400). -/
def State.withhold (s : State) (c p n : Nat) : State :=
  if n = 0 then s
  else
    let x := s.pool c p
    (s.setPool c p { x with withheld := x.withheld + n }).bump Obj.POOL_STALE_HANDLE_COUNT c n

/-- `n` handles go from the free ring to the cache, a sector of the ring at a time (14 R394). A word that is poisoned or cannot be read, or
that names no buffer of the pool, is withheld (R400). -/
def State.ringTake (s : State) (c p n : Nat) : Nat → State
  | 0 => s
  | fuel + 1 =>
    let x := s.pool c p
    let r := s.poolRec c p
    let m := min (8 - x.ringHead % 8) (min (ringCap r - x.ringHead) n)
    if n = 0 ∨ m = 0 then s
    else
      let (g, s) := s.ctxRead c (prRing r + 4 * x.ringHead) (4 * m) 12
      let hs := if g.poison || g.protection then [] else (List.range m).map (fun i => ofLE ((g.bytes.drop (4 * i)).take 4))
      let good := hs.filter (fun h => hPool h == p && decide (hIndex h < prCount r))
      let s := s.setPool c p { x with cache := x.cache ++ good, ringHead := (x.ringHead + m) % ringCap r, ringCount := x.ringCount - m }
      (s.withhold c p (m - good.length)).ringTake c p (n - m) fuel

/-- With fewer than 128 handles in the cache, it is refilled from the ring, as far as it goes without a spill (14 R394). (DESIGN CHOICE,
notes/assumptions/169.) -/
def State.refill (s : State) (c p : Nat) : State :=
  let x := s.pool c p
  if x.cache.length < 128 then s.ringTake c p (min x.ringCount (448 - x.cache.length)) 449 else s

/-- With more than 448 handles in the cache, the oldest 256 go to the ring (14 R394). -/
def State.spill (s : State) (c p : Nat) : State :=
  let x := s.pool c p
  if x.cache.length ≤ 448 then s
  else
    let r := s.poolRec c p
    let k := (x.ringHead + x.ringCount) % ringCap r
    let out := x.cache.take 256
    let here := out.take (ringCap r - k)
    let s := s.setPool c p { x with cache := x.cache.drop 256, ringCount := x.ringCount + 256 }
    let s := (s.ctxWrite c (prRing r + 4 * k) (here.flatMap (leBytes 4))).2
    if here.length = out.length then s
    else (s.ctxWrite c (prRing r) ((out.drop here.length).flatMap (leBytes 4))).2

/-- A free handle whose state-table word can be read: which of the cache is a free value, because the manual lets it depend on timing (14
R394); one with a poisoned word is withheld and counted (R400). -/
def State.takeHandle (s : State) (c p r : Nat) : Nat → Option Nat × State
  | 0 => (none, s)
  | fuel + 1 =>
    let s := s.refill c p
    let x := s.pool c p
    match x.cache[s.fresh (max x.cache.length 1)]? with
    | none => (none, s)
    | some h =>
      let s := s.took
      let x := { x with cache := x.cache.filter (· != h) }
      match s.bufEntry c p (hIndex h) with
      | (none, s) => ((s.setPool c p x).withhold c p 1).takeHandle c p r fuel
      | (some _, s) =>
        let s := s.setPool c p { x with held := nsInsert x.held (hIndex h) }
        let s := s.setBufEntry c p (hIndex h) (entryOf true r (hGen h))
        (some h, s.bumpF Obj.POOL_HELD r p 1)

/-- Requester `r` of context `c` acquires a buffer of pool `p`: the handle, or none with the failure counted (14 R395). -/
def State.poolAcquire (s : State) (c r p : Nat) : Option Nat × State :=
  match s.acquireQuota c r p with
  | .grant =>
    match s.takeHandle c p r (s.pool c p).freeCount with
    | (some h, s) => (some h, s)
    | (none, s) => (none, s.countQuota c p .exhausted)
  | q => (none, s.countQuota c p q)

/-- An engine of a context acquires a buffer of pool `p` (14 R395): charged to POOL_ENGINE_REQUESTER, which must be bound
to the context. -/
def State.engineAcquire (s : State) (c p : Nat) : Option Nat × State :=
  let r := s.reg Obj.POOL_ENGINE_REQUESTER c
  if r < 64 ∧ s.reqContext r = c then s.poolAcquire c r p else (none, s.countQuota c p .limit)

/-- A buffer goes back to the cache with GEN + 1 (14 R393, R394, R397). -/
def State.freeBuffer (s : State) (c p i gen owner : Nat) : State :=
  let x := s.pool c p
  let g := (gen + 1) % 32
  let s := s.setPool c p { x with cache := x.cache ++ [handleOf p g i], held := nsErase x.held i }
  let s := s.spill c p
  let s := s.setBufEntry c p i (entryOf false 0 g)
  s.setRegF Obj.POOL_HELD owner p (s.reqHeld owner p - 1)

/-- What a handle names (14 R397, rows 1 to 3 of its table). -/
inductive HandleIs where
  | stale
  | foreign (owner : Nat)
  | owned (owner : Nat)
  deriving DecidableEq, Repr

/-- The handle is looked up for acting requester `r` (14 R397). -/
def State.lookHandle (s : State) (c h r : Nat) : HandleIs × State :=
  let p := hPool h
  let i := hIndex h
  if prCount (s.poolRec c p) ≤ i then (.stale, s)
  else
    match s.bufEntry c p i with
    | (none, s) => (.stale, s)
    | (some e, s) =>
      if eGen e ≠ hGen h ∨ eHeld e = false then (.stale, s)
      else if eOwner e = r then (.owned r, s)
      else (.foreign (eOwner e), s)

/-- A free or transfer is rejected: record 0x022 with the handle, the acting requester and the owner (14 R397). -/
def State.poolReject (s : State) (n : Nat) (it : Item) (h acting owner : Nat) (st : Status) : State :=
  (s.log! { code := 0x022, sub := 12, ctx := it.ctx, status := st.code, info0 := h, info1 := place acting 8 8 + owner }).finishWith n st

/-- The requester of the queue an item came from. -/
def State.itemRequester (s : State) (it : Item) : Nat :=
  match it.origin with
  | .queued q _ => (match s.queue? q with | some x => qrRequester x.record | none => 0xFF)
  | .planned .. => s.reg Obj.POOL_ENGINE_REQUESTER it.ctx

def qdSize (d : Nat) : Nat := field d 424 32
def qdAddr (d : Nat) : Nat := field d 384 40
def qdHandle (d : Nat) : Nat := field d 352 32
def qdNewOwner (d : Nat) : Nat := field d 346 6

/-- The smallest pool whose size is at least `n` (14 R394), if any. -/
def poolFor (n : Nat) : Option Nat := (List.range 8).find? (fun p => decide (n ≤ poolSize p))

/-- ACQUIRE (14 R388, R394, R395). -/
def State.acquire (s : State) (n : Nat) (it : Item) : State :=
  let d := it.desc
  let r := s.itemRequester it
  if qdSize d = 0 ∨ qdAddr d % 4 ≠ 0 ∨ s.reqContext r ≠ it.ctx ∨ s.inSpace it.ctx (qdAddr d) 4 = false then
    s.finishWith n .failedProtection
  else
    match poolFor (qdSize d) with
    | none => ((s.ctxWrite it.ctx (qdAddr d) (leBytes 4 0xFFFFFFFF) (some n)).2).finishWith n .failedProtection
    | some p =>
      match s.poolAcquire it.ctx r p with
      | (some h, s) =>
        let (w, s) := s.ctxWrite it.ctx (qdAddr d) (leBytes 4 h) (some n)
        s.finishWith n w.status
      | (none, s) => ((s.ctxWrite it.ctx (qdAddr d) (leBytes 4 0xFFFFFFFF) (some n)).2).finishWith n .failedQuota

/-- RELEASE (14 R397). -/
def State.release (s : State) (n : Nat) (it : Item) : State :=
  let h := qdHandle it.desc
  let r := s.itemRequester it
  match s.lookHandle it.ctx h r with
  | (.stale, s) => (s.bump Obj.POOL_STALE_HANDLE_COUNT it.ctx).poolReject n it h r 0xFF .failedProtection
  | (.foreign o, s) => (s.bump Obj.POOL_FOREIGN_FREE_COUNT it.ctx).poolReject n it h r o .failedProtection
  | (.owned o, s) => (s.freeBuffer it.ctx (hPool h) (hIndex h) (hGen h) o).finish n

/-- TRANSFER (14 R397): rows of the table in order. -/
def State.transfer (s : State) (n : Nat) (it : Item) : State :=
  let h := qdHandle it.desc
  let p := hPool h
  let r := s.itemRequester it
  let new := qdNewOwner it.desc
  if s.reqContext r ≠ it.ctx then s.finishWith n .failedProtection
  else
    match s.lookHandle it.ctx h r with
    | (.stale, s) => (s.bump Obj.POOL_STALE_HANDLE_COUNT it.ctx).poolReject n it h r 0xFF .failedProtection
    | (.foreign o, s) => (s.bump Obj.POOL_FOREIGN_FREE_COUNT it.ctx).poolReject n it h r o .failedProtection
    | (.owned o, s) =>
      if s.reqContext new ≠ it.ctx then
        (s.bump Obj.POOL_STALE_HANDLE_COUNT it.ctx).poolReject n it h r o .failedProtection
      else if new = o then s.finish n
      else
        match s.transferQuota it.ctx o new p with
        | .grant =>
          let s := s.setBufEntry it.ctx p (hIndex h) (entryOf true new (hGen h))
          let s := s.setRegF Obj.POOL_HELD o p (s.reqHeld o p - 1)
          (s.bumpF Obj.POOL_HELD new p 1).finish n
        | q => (s.countQuota it.ctx p q).poolReject n it h r o .failedQuota

/-- ACQUIRE (14 R395). -/
def execAcquire (item : Nat) (s : State) : Res := .next (s.withItem item [0x83] (fun it s => s.acquire item it))

/-- RELEASE (14 R397). -/
def execRelease (item : Nat) (s : State) : Res := .next (s.withItem item [0x84] (fun it s => s.release item it))

/-- TRANSFER (14 R397). -/
def execTransfer (item : Nat) (s : State) : Res := .next (s.withItem item [0x85] (fun it s => s.transfer item it))

/-! ### Configuration -/

/-- The planes of a pool: buffers, free ring, state table, as (offset, bytes) (14 R392). -/
def poolPlanes (r p : Nat) : List (Nat × Nat) :=
  if prCount r = 0 then []
  else [(prBase r, prCount r * poolSize p), (prRing r, 4 * ringCap r), (prTable r, 2 * prCount r)]

/-- Two ranges overlap. -/
def overlaps (a b : Nat × Nat) : Bool := decide (a.1 < b.1 + b.2) && decide (b.1 < a.1 + a.2)

/-- A record is malformed on its own (14 R392 POOL_FORMAT). -/
def State.poolBad (s : State) (c p r : Nat) : Bool :=
  prReserved r != 0 || prBase r % poolSize p != 0 || prRing r % 32 != 0 || prTable r % 32 != 0
    || (poolPlanes r p).any (fun x => !(s.inRegion c x.1 x.2))

/-- The planes of pool `p` under the new records meet those of another pool. -/
def planesOverlap (recs : List Nat) (p : Nat) : Bool :=
  let mine := poolPlanes (recs.getD p 0) p
  (List.range 8).any (fun q => q != p && (poolPlanes (recs.getD q 0) q).any (fun b => mine.any (overlaps b)))

/-- MIN of all the context's requesters for a pool (14 R395). -/
def State.minSum (s : State) (c p : Nat) : Nat := (s.requesters c).foldl (fun a x => a + s.reqMin x p) 0

/-- A pool is rebuilt from its record (14 R392): every handle free with GEN 0, state table zeroed. -/
def State.poolRebuild (s : State) (c p r : Nat) : State :=
  let n := prCount r
  let hs := (List.range n).map (handleOf p 0)
  let s := s.setRegF Obj.POOL_CONFIG c p r
  let s := s.setPool c p { ringCount := n }
  if n = 0 then s
  else
    let s := (s.ctxWrite c (prRing r) (hs.flatMap (leBytes 4))).2
    ((s.ctxWrite c (prTable r) (List.replicate (2 * n) 0)).2).sramWrote 5 (8 * c + p) 0 (n / 4 + 1)

/-- A write of POOL_CONFIG from element `first` (14 R392): the first code that applies, or the pools whose records change
are rebuilt. -/
def State.poolConfig (s : State) (c first : Nat) (recs : List Nat) : Nat × State :=
  let new := (List.range 8).map (fun p => if first ≤ p ∧ p < first + recs.length then recs.getD (p - first) 0 else s.poolRec c p)
  let changed := (List.range 8).filter (fun p => new.getD p 0 != s.poolRec c p)
  if first + recs.length > 8 then (Abort.LENGTH_MISMATCH, s)
  else if changed.any (fun p => s.poolBad c p (new.getD p 0) || planesOverlap new p) then (Abort.POOL_FORMAT, s)
  else if changed.any (fun p => !(s.pool c p).held.isEmpty) then (Abort.POOL_IN_USE, s)
  else if changed.any (fun p => decide (prCount (new.getD p 0) < s.minSum c p)) then (Abort.QUOTA_OVERCOMMIT, s)
  else (0, changed.foldl (fun s p => s.poolRebuild c p (new.getD p 0)) s)

/-- POOL_CONFIG write (14 R392). -/
def execPoolConfigWrite (who : Who) (ctx first : Nat) (records : List Nat) (s : State) : Res :=
  .next (s.row who Obj.POOL_CONFIG ctx true (fun s => s.poolConfig ctx first records))

/-- A write of POOL_REQUESTER (14 R395): a requester that holds a buffer keeps its context, and the guarantees of a
context never exceed a pool. -/
def State.poolRequester (s : State) (who : Who) (r ctx : Nat) (mn mx : List Nat) : Nat × State :=
  let old := s.reqContext r
  let denied := match who with
    | .tenant n => !(s.tenantOf n old) || (ctx != 0xFF && !(s.tenantOf n ctx))
    | _ => false
  let t := s.setFields Obj.POOL_REQUESTER r
    (ctx :: ((List.range 8).map (fun i => mn.getD i 0 % 2 ^ 32) ++ (List.range 8).map (fun i => mx.getD i 0 % 2 ^ 32)))
  if denied then (Abort.ACCESS_DENIED, s)
  else if 15 < ctx ∧ ctx ≠ 0xFF then (Abort.VALUE_RANGE, s)
  else if ctx ≠ old ∧ (List.range 8).any (fun p => decide (0 < s.reqHeld r p)) = true then (Abort.POOL_IN_USE, s)
  else if ctx ≠ 0xFF ∧ (List.range 8).any (fun p => decide (prCount (s.poolRec ctx p) < t.minSum ctx p)) = true then
    (Abort.QUOTA_OVERCOMMIT, s)
  else (0, t)

/-- POOL_REQUESTER write (14 R395). -/
def execPoolRequesterWrite (who : Who) (requester context : Nat) (min max : List Nat) (s : State) : Res :=
  .next (s.row who Obj.POOL_REQUESTER requester false (fun s => s.poolRequester who requester context min max))

/-- Every held buffer of a pool is released and its GEN raised (14 R399). -/
def State.poolRelease (s : State) (c p : Nat) : State :=
  (s.pool c p).held.foldl (fun s i =>
    match s.bufEntry c p i with
    | (some e, s) => s.freeBuffer c p i (eGen e) (eOwner e)
    | (none, s) =>
      let x := s.pool c p
      (s.setPool c p { x with held := nsErase x.held i }).withhold c p 1) s

/-- A context reset releases every buffer the context's requesters hold (14 R399). -/
def State.poolsReset (s : State) (c : Nat) : State :=
  let s := (List.range 8).foldl (fun s p => s.poolRelease c p) s
  (s.requesters c).foldl (fun s r => s.setFields Obj.POOL_HELD r []) s

end Sys2Proof.Machine
end

