-- ==== Sys2Proof/Machine/Float.lean ====
section
/-! DEFINITION. Sys2Proof/Machine/Float.lean: exact values and the floating-point formats: decoding, rounding to nearest
even, and the operations of the vector engine (03_formats_and_scaling R74-R79, R101-R103).
(DEDUCED, notes/assumptions/73.) -/

namespace Sys2Proof.Machine

/-- An exact value: a NaN, an infinity, or (-1)^neg * m * 2^e. -/
inductive FVal where
  | nan
  | inf (neg : Bool)
  | fin (neg : Bool) (m : Nat) (e : Int)
  deriving DecidableEq, Repr

/-- m * 2^k rounded to an integer, to nearest, ties to even (R78). -/
def rne (m : Nat) (k : Int) : Nat :=
  if 0 ≤ k then m * 2 ^ k.toNat
  else
    let d := 2 ^ (-k).toNat
    let q := m / d
    let r := m % d
    if 2 * r < d then q else if d < 2 * r then q + 1 else q + q % 2

/-- m * 2^k rounded toward zero. -/
def rtz (m : Nat) (k : Int) : Nat := if 0 ≤ k then m * 2 ^ k.toNat else m / 2 ^ (-k).toNat

/-- Position of the leading bit of m * 2^e: the e with 2^e at most the value (m nonzero). -/
def leadExp (m : Nat) (e : Int) : Int := (m.log2 : Int) + e

/-- The layout of a floating-point format (R74, R75). -/
structure Fmt where
  expBits : Nat
  manBits : Nat
  bias : Nat
  deriving DecidableEq, Repr

def fmtFP32 : Fmt := ⟨8, 23, 127⟩
def fmtFP64 : Fmt := ⟨11, 52, 1023⟩
def fmtBF16 : Fmt := ⟨8, 7, 127⟩
def fmtFP16 : Fmt := ⟨5, 10, 15⟩
def fmtE4M3 : Fmt := ⟨4, 3, 7⟩
def fmtE5M2 : Fmt := ⟨5, 2, 15⟩
def fmtE2M3 : Fmt := ⟨2, 3, 1⟩
def fmtE3M2 : Fmt := ⟨3, 2, 3⟩
def fmtE2M1 : Fmt := ⟨2, 1, 1⟩

/-- Exponent of the least place of the subnormals. -/
def Fmt.minExp (f : Fmt) : Int := 1 - (f.bias : Int) - f.manBits

/-- The sign bit of a pattern. -/
def Fmt.neg (f : Fmt) (w : Nat) : Bool := bit w (f.expBits + f.manBits)

/-- The value of a pattern by R75, special encodings apart. -/
def Fmt.value (f : Fmt) (w : Nat) : FVal :=
  let ex := field w f.manBits f.expBits
  let m := field w 0 f.manBits
  if ex = 0 then .fin (f.neg w) m f.minExp
  else .fin (f.neg w) (2 ^ f.manBits + m) (f.minExp + ex - 1)

/-- The value of a pattern of a format with IEEE infinities and NaNs. -/
def Fmt.ieee (f : Fmt) (w : Nat) : FVal :=
  if field w f.manBits f.expBits = 2 ^ f.expBits - 1 then
    if field w 0 f.manBits = 0 then .inf (f.neg w) else .nan
  else f.value w

/-- The magnitude bits of m * 2^e in a format, rounded to nearest even with the format's exponent unbounded above: the
pattern grows past the format's codes when the value is too large. -/
def Fmt.round (f : Fmt) (m : Nat) (e : Int) : Nat :=
  if m = 0 then 0
  else
    let q := max (leadExp m e - f.manBits) f.minExp
    let n := rne m (e - q)
    -- n counts units of 2^q; adding the exponent field carries into it when n reaches 2^(manBits+1)
    n + (q - f.minExp).toNat * 2 ^ f.manBits

/-- A sign put before magnitude bits. -/
def Fmt.sign (f : Fmt) (neg : Bool) (mag : Nat) : Nat := mag + (if neg then 2 ^ (f.expBits + f.manBits) else 0)

/-- The pattern of infinity, and the fixed NaN (R79). -/
def Fmt.infMag (f : Fmt) : Nat := (2 ^ f.expBits - 1) * 2 ^ f.manBits
def Fmt.nanPat (f : Fmt) : Nat := f.infMag + 2 ^ (f.manBits - 1)

/-- A value rounded into an IEEE format (R78, R79): a magnitude beyond the range becomes infinity. -/
def Fmt.encode (f : Fmt) : FVal → Nat
  | .nan => f.nanPat
  | .inf n => f.sign n f.infMag
  | .fin n m e => f.sign n (min (f.round m e) f.infMag)

/-! ### Exact operations on values -/

/-- The value with its sign set. -/
def FVal.withSign (n : Bool) : FVal → FVal
  | .nan => .nan
  | .inf _ => .inf n
  | .fin _ m e => .fin n m e

def FVal.negate : FVal → FVal
  | .nan => .nan
  | .inf n => .inf (!n)
  | .fin n m e => .fin (!n) m e

def FVal.abs (x : FVal) : FVal := x.withSign false

def FVal.isNan : FVal → Bool
  | .nan => true
  | _ => false

def FVal.isFinite : FVal → Bool
  | .fin .. => true
  | _ => false

/-- The signed integer of a finite value in units of 2^q, q at most its exponent. -/
def scaled (n : Bool) (m : Nat) (e q : Int) : Int :=
  let v : Int := ((m * 2 ^ (e - q).toNat : Nat) : Int)
  if n then -v else v

/-- An integer times 2^q as a value; an exact zero carries the given sign. -/
def ofScaled (v q : Int) (zneg : Bool) : FVal :=
  if v = 0 then .fin zneg 0 q else .fin (decide (v < 0)) v.natAbs q

/-- The exact sum. An exact zero from unlike signs is +0. -/
def FVal.add : FVal → FVal → FVal
  | .nan, _ => .nan
  | _, .nan => .nan
  | .inf a, .inf b => if a = b then .inf a else .nan
  | .inf a, _ => .inf a
  | _, .inf b => .inf b
  | .fin a m e, .fin b k f =>
    let q := min e f
    ofScaled (scaled a m e q + scaled b k f q) q (a && b)

def FVal.sub (x y : FVal) : FVal := x.add y.negate

/-- The exact product; infinity times zero is NaN. -/
def FVal.mul : FVal → FVal → FVal
  | .nan, _ => .nan
  | _, .nan => .nan
  | .inf a, .inf b => .inf (a != b)
  | .inf a, .fin b m _ => if m = 0 then .nan else .inf (a != b)
  | .fin a m _, .inf b => if m = 0 then .nan else .inf (a != b)
  | .fin a m e, .fin b k f => .fin (a != b) (m * k) (e + f)

/-- x * 2^k, exactly. -/
def FVal.scale (k : Int) : FVal → FVal
  | .fin n m e => .fin n m (e + k)
  | v => v

/-- The quotient to at least `p` leading bits with a sticky last bit, so that any rounding to fewer than p bits is right. -/
def FVal.div (p : Nat) : FVal → FVal → FVal
  | .nan, _ => .nan
  | _, .nan => .nan
  | .inf _, .inf _ => .nan
  | .inf a, .fin b _ _ => .inf (a != b)
  | .fin a _ _, .inf b => .fin (a != b) 0 0
  | .fin a m e, .fin b k f =>
    if k = 0 then (if m = 0 then .nan else .inf (a != b))
    else
      let sh := p + 2 + k.log2
      let q := m * 2 ^ sh / k
      let r := m * 2 ^ sh % k
      .fin (a != b) (2 * q + (if r = 0 then 0 else 1)) (e - f - sh - 1)

/-- Integer square root by bits, from bit `n` down. -/
def isqrt : Nat → Nat → Nat → Nat
  | 0, v, r => if (r + 1) * (r + 1) ≤ v then r + 1 else r
  | n + 1, v, r => isqrt n v (if (r + 2 ^ (n + 1)) * (r + 2 ^ (n + 1)) ≤ v then r + 2 ^ (n + 1) else r)

/-- The square root to at least `p` leading bits with a sticky last bit. -/
def FVal.sqrt (p : Nat) : FVal → FVal
  | .nan => .nan
  | .inf n => if n then .nan else .inf false
  | .fin n m e =>
    if m = 0 then .fin n 0 0
    else if n then .nan
    else
      let sh := 2 * (p + 2) + (if e % 2 = 0 then 0 else 1)
      let v := m * 2 ^ sh
      let r := isqrt (v.log2 / 2 + 1) v 0
      .fin false (2 * r + (if r * r = v then 0 else 1)) ((e - sh) / 2 - 1)

/-- x < y of two values that are no NaN. -/
def FVal.lt : FVal → FVal → Bool
  | .nan, _ => false
  | _, .nan => false
  | .inf a, .inf b => a && !b
  | .inf a, _ => a
  | _, .inf b => !b
  | .fin a m e, .fin b k f =>
    let q := min e f
    decide (scaled a m e q < scaled b k f q)

/-- x = y of two values that are no NaN; +0 and -0 are equal. -/
def FVal.eq : FVal → FVal → Bool
  | .nan, _ => false
  | _, .nan => false
  | .inf a, .inf b => a == b
  | .inf _, _ => false
  | _, .inf _ => false
  | .fin a m e, .fin b k f =>
    let q := min e f
    decide (scaled a m e q = scaled b k f q)

/-! ### FP32 and FP64 operations on patterns (R78, 05_vector_engine_and_sequencer R152) -/

def f32 (w : Nat) : FVal := fmtFP32.ieee w
def toF32 (v : FVal) : Nat := fmtFP32.encode v
def f64 (w : Nat) : FVal := fmtFP64.ieee w
def toF64 (v : FVal) : Nat := fmtFP64.encode v

/-- The FP32 NaN (R79). -/
def nan32 : Nat := 0x7FC00000

def fAdd (a b : Nat) : Nat := toF32 ((f32 a).add (f32 b))
def fSub (a b : Nat) : Nat := toF32 ((f32 a).sub (f32 b))
def fMul (a b : Nat) : Nat := toF32 ((f32 a).mul (f32 b))
def fFma (a b c : Nat) : Nat := toF32 (((f32 a).mul (f32 b)).add (f32 c))
def fDiv (a b : Nat) : Nat := toF32 ((f32 a).div 32 (f32 b))
def fSqrt (a : Nat) : Nat := toF32 ((f32 a).sqrt 32)
def dAdd (a b : Nat) : Nat := toF64 ((f64 a).add (f64 b))

/-- Lanewise maximum: NaN in either input gives NaN; equal values give the first (05 R152). -/
def fMax (a b : Nat) : Nat :=
  if (f32 a).isNan || (f32 b).isNan then nan32 else if (f32 a).lt (f32 b) then b else a

/-- Lanewise minimum. -/
def fMin (a b : Nat) : Nat :=
  if (f32 a).isNan || (f32 b).isNan then nan32 else if (f32 b).lt (f32 a) then b else a

/-- The canonical form of an FP32 result that is a NaN (R79). -/
def canon32 (w : Nat) : Nat := if (f32 w).isNan then nan32 else w

/-- An integer as a value. -/
def FVal.ofInt (v : Int) : FVal := ofScaled v 0 false

/-- A value rounded to nearest even and saturated into INT32; NaN gives 0 (05 R152 VCVTF). -/
def toInt32 : FVal → Nat
  | .nan => 0
  | .inf n => if n then 0x80000000 else 0x7FFFFFFF
  | .fin n m e =>
    let v := rne m e
    if n then ofInt 32 (-(min v 2147483648 : Int)) else min v 0x7FFFFFFF

/-! ### Split master values (R101-R103) -/

/-- The value of a split master pair: HI and 32 further fraction bits. -/
def splitVal (hi lo : Nat) : FVal :=
  match f32 hi with
  | .fin n m e => .fin n (2 ^ 32 * m + lo) (e - 32)
  | v => v

/-- The layout of a split master value: 8 exponent bits and 55 fraction bits. -/
def fmtSplit : Fmt := ⟨8, 55, 127⟩

/-- A value rounded once to nearest even at fraction bit 55, as (HI, LO) (R103). -/
def toSplit : FVal → Nat × Nat
  | .nan => (nan32, 0)
  | .inf n => (fmtFP32.sign n fmtFP32.infMag, 0)
  | .fin n m e =>
    let w := fmtSplit.sign n (min (fmtSplit.round m e) fmtSplit.infMag)
    (w / 2 ^ 32, w % 2 ^ 32)

/-! ### Element formats (R74-R77) -/

/-- The layout of an element format by its code, where it is a floating-point one. -/
def fmtOf (code : Nat) : Fmt :=
  match code with
  | 0x00 => fmtFP32 | 0x01 => fmtBF16 | 0x02 => fmtFP16 | 0x03 => fmtE4M3 | 0x04 => fmtE5M2
  | 0x05 => fmtE2M3 | 0x06 => fmtE3M2 | 0x07 => fmtE2M1 | 0x0C => fmtFP64 | _ => fmtFP32

/-- Bits of one element (R77). -/
def elemBits (code : Nat) : Nat :=
  match code with
  | 0x00 => 32 | 0x01 => 16 | 0x02 => 16 | 0x03 => 8 | 0x04 => 8 | 0x05 => 6 | 0x06 => 6 | 0x07 => 4
  | 0x08 => 8 | 0x09 => 8 | 0x0A => 32 | 0x0C => 64 | _ => 32

/-- The format carries block scales (R74). -/
def blockScaled (code : Nat) : Bool := decide (3 ≤ code) && decide (code ≤ 8)

/-- The format is one of the 16-bit ones. -/
def is16 (code : Nat) : Bool := code == 1 || code == 2

/-- Bytes of a row of `n` elements: packed, ending on a whole storage unit (R77). -/
def rowBytes (code n : Nat) : Nat :=
  match code with
  | 0x05 => (n + 3) / 4 * 3
  | 0x06 => (n + 3) / 4 * 3
  | 0x07 => (n + 1) / 2
  | _ => n * elemBits code / 8

/-- The value of an element code before scales (R75, R76). -/
def elemValue (code w : Nat) : FVal :=
  match code with
  | 0x00 => fmtFP32.ieee w
  | 0x01 => fmtBF16.ieee w
  | 0x02 => fmtFP16.ieee w
  | 0x03 => if w % 128 = 0x7F then .nan else fmtE4M3.value w
  | 0x04 => fmtE5M2.ieee w
  | 0x05 => fmtE2M3.value w
  | 0x06 => fmtE3M2.value w
  | 0x07 => fmtE2M1.value w
  | 0x08 => ofScaled (toInt 8 w) (-6) false
  | 0x09 => FVal.ofInt (toInt 8 w)
  | 0x0A => FVal.ofInt (toInt 32 w)
  | 0x0C => fmtFP64.ieee w
  | _ => .nan

/-- Element `i` of a packed row, counting from the row's first storage unit (R77). -/
def elemAt (code : Nat) (row : Bytes) (i : Nat) : Nat :=
  match code with
  | 0x05 => field (ofLE ((row.drop (i / 4 * 3)).take 3)) (i % 4 * 6) 6
  | 0x06 => field (ofLE ((row.drop (i / 4 * 3)).take 3)) (i % 4 * 6) 6
  | 0x07 => field ((row.getD (i / 2) 0).toNat) (i % 2 * 4) 4
  | _ => ofLE ((row.drop (i * (elemBits code / 8))).take (elemBits code / 8))

/-- Element codes packed into a row of storage units (R77). -/
def packRow (code : Nat) (l : List Nat) : Bytes :=
  let w := elemBits code
  leBytes (rowBytes code l.length) (l.reverse.foldl (fun a x => a * 2 ^ w + x % 2 ^ w) 0)

/-- A block scale's exponent e - 127, or none for the NaN scale 0xFF (R80, R82). -/
def scaleExp (e : Nat) : Option Int := if e = 0xFF then none else some ((e : Int) - 127)

/-- The value of a stored element under its block scale and outer exponent (R82). -/
def storedValue (code w scale : Nat) (outer : Int) : FVal :=
  match scaleExp scale with
  | none => if blockScaled code then .nan else (elemValue code w).scale outer
  | some k => if blockScaled code then (elemValue code w).scale (k + outer) else (elemValue code w).scale outer

/-! ### Choosing a scale and narrowing (R83-R100) -/

/-- E_fmt (R84). -/
def efmt (code : Nat) : Int :=
  match code with
  | 0x07 => 2 | 0x05 => 2 | 0x06 => 4 | 0x03 => 8 | 0x04 => 15 | 0x08 => 0 | 0x02 => 15 | 0x01 => 127 | _ => 0

/-- The threshold of R84 as m * 2^e, and whether equality is allowed. -/
def threshold (code : Nat) : Nat × Int × Bool :=
  match code with
  | 0x07 => (7, 0, false)
  | 0x05 => (31, -2, false)
  | 0x06 => (30, 0, false)
  | 0x03 => (464, 0, true)
  | 0x04 => (61440, 0, false)
  | 0x08 => (255, -7, false)
  | 0x02 => (65520, 0, false)
  | _ => (511, 119, false)

/-- m * 2^e stays below the format's threshold. -/
def below (code m : Nat) (e : Int) : Bool :=
  let (t, f, eq) := threshold code
  let x := FVal.fin false m e
  let y := FVal.fin false t f
  x.lt y || (eq && x.eq y)

/-- The smallest integer c with m * 2^e at most 2^c (m nonzero). -/
def ceilLog2 (m : Nat) (e : Int) : Int :=
  let c := leadExp m e
  if m = 2 ^ m.log2 then c else c + 1

/-- The smallest k for which a * 2^-k stays below the threshold, searched from one below the likely answer (R84). -/
def chooseK (code m : Nat) (e : Int) : Int :=
  let k0 := ceilLog2 m e - efmt code - 1
  if below code m (e - k0) then k0
  else if below code m (e - (k0 + 1)) then k0 + 1
  else if below code m (e - (k0 + 2)) then k0 + 2
  else k0 + 3

/-- The largest finite value's magnitude code of a format (R75, R76). -/
def maxCode (code : Nat) : Nat :=
  match code with
  | 0x07 => 0x7 | 0x05 => 0x1F | 0x06 => 0x1F | 0x03 => 0x7E | 0x04 => 0x7B | 0x08 => 127 | 0x02 => 0x7BFF | 0x01 => 0x7F7F
  | _ => 0x7F7FFFFF

/-- A signed magnitude code as an element code. -/
def signCode (code : Nat) (neg : Bool) (mag : Nat) : Nat :=
  if code = 8 then (if neg then ofInt 8 (-(mag : Int)) else mag) else (fmtOf code).sign neg mag

/-- The largest finite value with a sign. -/
def saturated (code : Nat) (neg : Bool) : Nat := signCode code neg (maxCode code)

/-- Magnitude code of m * 2^e in a format, rounded under R78, before any limit. -/
def magCode (code m : Nat) (e : Int) : Nat := if code = 8 then rne m (e + 6) else (fmtOf code).round m e

/-- A finite value narrowed: its element code, and whether it had to be saturated. -/
def narrowFin (code : Nat) (neg : Bool) (m : Nat) (e : Int) : Nat × Bool :=
  let mag := magCode code m e
  if maxCode code < mag then (saturated code neg, true) else (signCode code neg mag, false)

/-- The fixed NaN of a narrow format that has one (R79). -/
def nanCode (code : Nat) : Nat :=
  match code with
  | 0x01 => 0x7FC0 | 0x02 => 0x7E00 | 0x03 => 0x7F | 0x04 => 0x7F | _ => nan32

/-- The format has no NaN: a NaN takes its whole block (R86). -/
def nanlessFmt (code : Nat) : Bool := decide (5 ≤ code) && decide (code ≤ 8)

/-- What a block of values became: its scale byte, its element codes and what is counted. -/
structure Narrowed where
  scale : Nat := 127
  codes : List Nat := []
  sat : Nat := 0
  under : Nat := 0
  nanBlocks : Nat := 0
  deriving DecidableEq, Repr

/-- The largest finite magnitude of a list, as (m, e); none when it is 0 (R83). -/
def amaxOf (l : List FVal) : Option (Nat × Int) :=
  l.foldl (fun a x =>
    match x with
    | .fin _ m e =>
      if m = 0 then a
      else match a with
        | none => some (m, e)
        | some (k, f) => if (FVal.fin false k f).lt (.fin false m e) then some (m, e) else a
    | _ => a) none

/-- The block is written with scale 0xFF: a NaN, or under class G an infinity, in a format without NaN (R86, R99). -/
def nanBlock (code : Nat) (classG : Bool) (l : List FVal) : Bool :=
  nanlessFmt code && l.any (fun x => match x with | .nan => true | .inf _ => classG | _ => false)

/-- The k of a block-scaled block (R83); none when the block chooses no scale. -/
def blockK (code : Nat) (classG : Bool) (l : List FVal) : Option Int :=
  if nanBlock code classG l then none else (amaxOf l).map (fun a => chooseK code a.1 a.2)

/-- The block overflows on narrowing (R87): `l` holds the values after the outer scale. -/
def blockOverflows (code : Nat) (classG : Bool) (l : List FVal) : Bool :=
  if is16 code then l.any (fun x => match x with | .fin _ m e => m != 0 && !(below code m e) | _ => false)
  else match blockK code classG l with
    | some k => decide (127 < k)
    | none => false

/-- One element of a block narrowed at exponent k: code, saturations, NaNs counted (R96, R99). -/
def narrowElem (code : Nat) (classG : Bool) (k : Int) : FVal → Nat × Nat × Nat
  | .nan => (nanCode code, 0, 0)
  | .inf n =>
    if code = 4 ∨ is16 code = true then ((fmtOf code).sign n (fmtOf code).infMag, 0, 0)
    else if classG then (nanCode code, 0, 1)
    else (saturated code n, 1, 0)
  | .fin n m e =>
    let (c, s) := narrowFin code n m (e - k)
    (c, if s then 1 else 0, 0)

/-- A block narrowed (R83-R86, R96, R99). -/
def narrowBlock (code : Nat) (classG : Bool) (l : List FVal) : Narrowed :=
  if nanBlock code classG l then { scale := 0xFF, codes := l.map (fun _ => 0), nanBlocks := 1 }
  else
    let k? := if is16 code then none else blockK code classG l
    let k : Int := match k? with
      | some k => if k < -127 then -127 else if 127 < k then 127 else k
      | none => if is16 code then 0 else -127
    let es := l.map (narrowElem code classG k)
    { scale := if is16 code then 127 else (k + 127).toNat
      codes := es.map (·.1)
      sat := es.foldl (fun a x => a + x.2.1) 0
      under := match k? with | some k => if k < -127 then 1 else 0 | none => 0
      nanBlocks := es.foldl (fun a x => a + x.2.2) 0 }

/-- A scale tile written (R94-R98): rows of blocks of values before any scaling. -/
structure TileOut where
  /-- TILE_SHIFT of the tile. -/
  shift : Nat := 0
  /-- Rows of narrowed blocks. -/
  rows : List (List Narrowed) := []
  retries : Nat := 0
  exhausted : Bool := false
  deriving DecidableEq, Repr

/-- The tile's values after the outer scale at a shift. -/
def outerScaled (tExp : Int) (shift : Nat) (rows : List (List (List FVal))) : List (List (List FVal)) :=
  rows.map (fun r => r.map (fun b => b.map (fun x => x.scale (-(tExp + shift)))))

/-- Some block of the tile overflows. -/
def tileOverflows (code : Nat) (classG : Bool) (rows : List (List (List FVal))) : Bool :=
  rows.any (fun r => r.any (blockOverflows code classG))

/-- The tile written at a shift. -/
def tileAt (code : Nat) (classG : Bool) (tExp : Int) (shift : Nat) (rows : List (List (List FVal))) : List (List Narrowed) :=
  (outerScaled tExp shift rows).map (fun r => r.map (narrowBlock code classG))

/-- The tries of a class G tile (R95): at most three further ones, none above 255. -/
def tileTries (code : Nat) (tExp : Int) (binades : Nat) (rows : List (List (List FVal))) : Nat → Nat → Nat → TileOut
  | 0, shift, n =>
    { shift := shift, rows := tileAt code true tExp shift rows, retries := n,
      exhausted := tileOverflows code true (outerScaled tExp shift rows) }
  | fuel + 1, shift, n =>
    if tileOverflows code true (outerScaled tExp shift rows) = false then
      { shift := shift, rows := tileAt code true tExp shift rows, retries := n }
    else if 255 < shift + binades then
      { shift := shift, rows := tileAt code true tExp shift rows, retries := n, exhausted := true }
    else tileTries code tExp binades rows fuel (shift + binades) (n + 1)

/-- A scale tile written by a write path (R94-R100): `shift` is the shift its source carries (R97), `tags` whether the tensor
has a tag plane (R98). -/
def writeTile (code : Nat) (classG : Bool) (tExp : Int) (binades shift : Nat) (tags : Bool) (rows : List (List (List FVal))) : TileOut :=
  if tags then
    if classG then tileTries code tExp binades rows 3 shift 0
    else { shift := shift, rows := tileAt code false tExp shift rows }
  else
    { shift := 0, rows := tileAt code classG tExp 0 rows,
      exhausted := classG && tileOverflows code true (outerScaled tExp 0 rows) }

/-- What a tile counts: saturations, underflowed blocks, NaN blocks. -/
def TileOut.sats (t : TileOut) : Nat := t.rows.foldl (fun a r => r.foldl (fun a b => a + b.sat) a) 0
def TileOut.unders (t : TileOut) : Nat := t.rows.foldl (fun a r => r.foldl (fun a b => a + b.under) a) 0
def TileOut.nans (t : TileOut) : Nat := t.rows.foldl (fun a r => r.foldl (fun a b => a + b.nanBlocks) a) 0

end Sys2Proof.Machine
end

