-- ==== Sys2Proof/Machine/Numerics.lean ====
section
/-! DEFINITION. Sys2Proof/Machine/Numerics.lean: tensor scale records, and what a write path counts
(03_formats_and_scaling R88-R92, R95, R104).
(DEDUCED, notes/assumptions/86.) -/

namespace Sys2Proof.Machine

/-! ### The tensor scale record (R88), 96 bytes little-endian -/

def srLastStep (w : Nat) : Nat := field w 672 32
def srRetry (w : Nat) : Nat := field w 640 32
def srSat (w : Nat) : Nat := field w 608 32
def srAmax (w : Nat) : Nat := field w 576 32
def srHead (w : Nat) : Nat := field w 568 8
def srFilled (w : Nat) : Nat := field w 560 8
def srMode (w : Nat) : Bool := bit w 552
def srFormat (w : Nat) : Nat := field w 544 8
def srMargin (w : Nat) : Nat := field w 536 8
def srHistoryLen (w : Nat) : Nat := field w 528 8
def srTExp (w : Nat) : Int := toInt 16 (field w 512 16)
def srHistory (w n : Nat) : Nat := field w (32 * n) 32

/-- A field of a word replaced. -/
def putField (w lo len v : Nat) : Nat := w - place (field w lo len) lo len + place v lo len

/-- The larger of two FP32 magnitudes, by their patterns. -/
def maxMag (a b : Nat) : Nat := max (a % 2 ^ 31) (b % 2 ^ 31)

/-- The largest of the last `n` history entries before HEAD. -/
def lastMax (w : Nat) : Nat → Nat → Nat
  | 0, _ => 0
  | n + 1, h => maxMag (srHistory w ((h + 15) % 16)) (lastMax w n ((h + 15) % 16))

/-- The outer exponent that the history gives (R90). -/
def historyTExp (w : Nat) : Option Int :=
  let n := min (srHistoryLen w) (srFilled w)
  match f32 (lastMax w n (srHead w)) with
  | .fin _ m e =>
    if m = 0 then none
    else some (max (-127) (min 127 (ceilLog2 m e + srMargin w - efmt (srFormat w))))
  | _ => none

/-- The fold at the first write of step `k` (R90). -/
def foldRecord (w k : Nat) : Nat :=
  if srLastStep w = k then w
  else
    let w := if srLastStep w = 0xFFFFFFFF then w
      else
        let h := srHead w % 16
        let w := putField w (32 * h) 32 (srAmax w)
        let w := putField w 568 8 ((h + 1) % 16)
        putField w 560 8 (min (srFilled w + 1) 16)
    let w := if srMode w && decide (0 < srFilled w) then
        (match historyTExp w with | some t => putField w 512 16 (ofInt 16 t) | none => w)
      else w
    putField (putField w 576 32 0) 672 32 k

/-- A magnitude folded into STEP_AMAX: rounded to FP32, at most the largest finite value (R89). -/
def foldAmax (w : Nat) (a : FVal) : Nat := putField w 576 32 (maxMag (srAmax w) (min (toF32 a.abs) 0x7F7FFFFF))

/-- Retries and saturations added to a record's saturating counts (R88). -/
def addRecordCounts (w retries sats : Nat) : Nat :=
  putField (putField w 640 32 (satAdd 4 (srRetry w) retries)) 608 32 (satAdd 4 (srSat w) sats)

/-- A tensor scale record read from the context's memory; none when a word of it is uncorrectable or cannot be reached. -/
def State.readRecord (s : State) (c off requester : Nat) : Option Nat × State :=
  let (g, s) := s.ctxRead c off 96 requester
  if g.poison || g.protection then (none, s) else (some g.num, s)

/-- A record replaced by what `f` makes of it in one indivisible access (R89, 13_hbm_and_ecc R361): what it held, or none as above. -/
def State.foldInto (s : State) (c off requester : Nat) (f : Nat → Option Nat) : Option Nat × State :=
  let (g, s) := s.ctxUpdate c off 96 (fun b => (f (ofLE b)).map (leBytes 96)) requester
  if g.poison || g.protection then (none, s) else (some g.num, s)

/-- What a descriptor takes from the record it names: the outer exponent, or that the record cannot be used. -/
structure Outer where
  tExp : Int := 0
  bad : Bool := false
  deriving DecidableEq, Repr

/-- The outer exponent of a tensor that is read: no record gives 0 (R88). -/
def State.outerOf (s : State) (c : Nat) (rec : Option Nat) (requester : Nat) : Outer × State :=
  match rec with
  | none => ({}, s)
  | some off =>
    match s.readRecord c off requester with
    | (some w, s) => ({ tExp := srTExp w }, s)
    | (none, s) => ({ bad := true }, s)

/-- The outer exponent of a tensor that a planned slot writes in step `k`: its first write of the step folds the record
(R90). -/
def State.beginWrite (s : State) (c : Nat) (rec : Option Nat) (k requester : Nat) : Outer × State :=
  match rec with
  | none => ({}, s)
  | some off =>
    match s.foldInto c off requester (fun w => if foldRecord w k = w then none else some (foldRecord w k)) with
    | (none, s) => ({ bad := true }, s)
    | (some w, s) => ({ tExp := srTExp (foldRecord w k) }, s)

/-- The largest finite magnitude of a list of values, 0 when there is none. -/
def amaxVal (l : List FVal) : FVal :=
  match amaxOf l with
  | some (m, e) => .fin false m e
  | none => .fin false 0 0

/-- What a write path counts for one scale tile: the context's counters (R104) and, for a planned write, the record's
(R88, R89, R92). -/
def State.countTile (s : State) (c : Nat) (rec : Option Nat) (planned : Bool) (amax : FVal) (t : TileOut) (requester : Nat) : State :=
  let s := s.bump Obj.NARROW_RETRY_COUNT c t.retries
  let s := s.bump Obj.SAT_COUNT c t.sats
  let s := s.bump Obj.SCALE_UNDERFLOW_COUNT c t.unders
  let s := s.bump Obj.NAN_BLOCK_COUNT c t.nans
  match rec with
  | none => s
  | some off =>
    if planned then (s.foldInto c off requester (fun w => some (addRecordCounts (foldAmax w amax) t.retries t.sats))).2 else s

end Sys2Proof.Machine
end

