-- ==== Sys2Proof/Machine/Facet.lean ====
section
/-! DEFINITION. Sys2Proof/Machine/Facet.lean: facets, the threads of a facet sequencer, and Philox (05_vector_engine_and_sequencer
R137-R144, R164). -/

namespace Sys2Proof.Machine

/-- A facet's record. -/
def State.facet (s : State) (f : Nat) : Facet := tget {} s.facets f
def State.setFacet (s : State) (f : Nat) (x : Facet) : State := (s.setFacets (tset s.facets f x))

/-- A thread that holds a slot. -/
def State.thread? (s : State) (f t : Nat) : Option Thread := tfind (s.facet f).threads t
def State.setThread (s : State) (f t : Nat) (th : Thread) : State :=
  let x := s.facet f
  s.setFacet f { x with threads := tset x.threads t th }

/-- The thread that holds item `n`, with its number. -/
def State.threadOf (s : State) (f n : Nat) : Option (Nat × Thread) :=
  (s.facet f).threads.find? (fun e => e.2.items.contains n)

/-- A matrix descriptor, a vector descriptor, by opcode (04 R129, 05 R149). -/
def isMatrix (op : Nat) : Bool := decide (0x10 ≤ op) && decide (op ≤ 0x12)
def isVector (op : Nat) : Bool := op == 0x20 || op == 0x21

/-- NO_WAIT and HOLD_SRC of a vector descriptor (05 R149). -/
def vdNoWait (d : Nat) : Bool := bit d 503
def vdHoldSrc (d : Nat) : Nat := field d 500 3

/-- A descriptor that its thread issues as soon as the one before has been accepted (05 R142). -/
def issuesEarly (d : Nat) : Bool := isVector (descOpcode d) && (vdNoWait d || vdHoldSrc d != 0)

/-- The item before the next one lets it be issued (05 R142). -/
def State.previousAllows (s : State) (prev : Nat) (desc : Nat) : Bool :=
  match s.item? prev with
  | none => true
  | some p => p.isDone || (issuesEarly desc && (match p.phase with | .accepted => false | _ => true))

/-- A facet of the thread's slot is being zeroed, which delays the slot's start (05 R140). -/
def State.slotZeroing (s : State) (th : Thread) : Bool :=
  (s.plan th.ctx).slots.any (fun e => e.2.serial == th.serial && (bitsOf 192 e.2.facets).any (fun f => (s.facet f).zeroing))

/-- THREAD_ISSUE_NEXT: the thread issues its slot's next descriptor (05 R142). -/
def State.issueNext (s : State) (f t : Nat) : State :=
  match s.thread? f t with
  | none => s
  | some th =>
    if (s.facet f).zeroing || s.slotZeroing th then s
    else match th.items[th.issued]? with
      | none => s
      | some n =>
        match s.item? n with
        | none => s.setThread f t { th with issued := th.issued + 1 }
        | some it =>
          if th.issued = 0 ∨ s.previousAllows (th.items.getD (th.issued - 1) 0) it.desc = true then
            (s.setItem n { it with issued := true }).setThread f t { th with issued := th.issued + 1 }
          else s

/-- THREAD_ISSUE_NEXT (05 R142). -/
def execThreadIssueNext (facet thread : Nat) (s : State) : Res := .next (s.issueNext facet thread)

/-- A facet is zeroed: its memory, accumulator tiles, frames, staging buffers and scalar registers (05 R140). -/
def State.zeroFacet (s : State) (f : Nat) : State :=
  let s := (s.fmZero f).bump Obj.FM_ZERO_COUNT f
  let x := s.facet f
  s.setFacet f { x with regs := [], regPoison := [], frameQueue := [], mat := none, back := [], bands := [], zeroing := false }

/-- FACET_ZERO_DONE (05 R140): the zeroing at a change of owner ends. -/
def execFacetZeroDone (facet : Nat) (s : State) : Res :=
  .next (if (s.facet facet).zeroing then s.zeroFacet facet else s)

/-- THREAD_WAKE (05 R144): 4 cycles after what it awaited has come, a thread is ready again. -/
def execThreadWake (facet thread : Nat) (s : State) : Res :=
  .next (match s.thread? facet thread with
    | some th => if th.wait = .ready then s.setThread facet thread { th with wait := .no } else s
    | none => s)

/-- What a thread awaits has come (05 R144). -/
def State.arrive (s : State) (f t : Nat) : State :=
  match s.thread? f t with
  | some th => s.setThread f t { th with wait := .ready }
  | none => s

/-- A thread is switched out (05 R144). -/
def State.switchOut (s : State) (f t : Nat) (w : Wait) : State :=
  match s.thread? f t with
  | some th => (s.setThread f t { th with wait := w }).bump Obj.SEQ_SWITCH_COUNT f
  | none => s

/-- Threads that wait for a tile of matrix item `n` see that one is ready, or that none remains (05 R144, R159). -/
def State.tileReady (s : State) (f n : Nat) : State :=
  (s.facet f).threads.foldl (fun s (e : Nat × Thread) =>
    if e.2.wait = .tile ∧ (match e.2.prog with | some p => p.held == some n | none => false) = true then s.arrive f e.1 else s) s

/-! ### Philox-4x32-10 (05 R164) -/

/-- One round: four counter words and the key. -/
def philoxRound (c : Nat × Nat × Nat × Nat) (k0 k1 : Nat) : Nat × Nat × Nat × Nat :=
  let a := 0xD2511F53 * c.1
  let b := 0xCD9E8D57 * c.2.2.1
  (Nat.xor (Nat.xor (b / 2 ^ 32) c.2.1) k0, b % 2 ^ 32, Nat.xor (Nat.xor (a / 2 ^ 32) c.2.2.2) k1, a % 2 ^ 32)

/-- `n` rounds with the key incremented between them. -/
def philoxRounds : Nat → Nat × Nat × Nat × Nat → Nat → Nat → Nat × Nat × Nat × Nat
  | 0, c, _, _ => c
  | n + 1, c, k0, k1 => philoxRounds n (philoxRound c k0 k1) ((k0 + 0x9E3779B9) % 2 ^ 32) ((k1 + 0xBB67AE85) % 2 ^ 32)

/-- The four output words for a key and a counter. -/
def philox (k0 k1 c0 c1 c2 c3 : Nat) : List Nat :=
  let r := philoxRounds 10 (c0, c1, c2, c3) k0 k1
  [r.1, r.2.1, r.2.2.1, r.2.2.2]

end Sys2Proof.Machine
end

