-- ==== Sys2Proof/Machine/Operand.lean ====
section
/-! DEFINITION. Sys2Proof/Machine/Operand.lean: reading operands of the arrays in every form of R125: dense rows, 2:4, block
tiles, bitmaps and index lists (04_matrix_engine R107, 06_sparsity R170-R177, R187). -/

namespace Sys2Proof.Machine

/-- Where a stored operand lies in facet memory: byte addresses of its planes. -/
structure TLoc where
  fmt : Nat
  form : Nat
  block : Nat
  rows : Nat
  k : Nat
  data : Nat
  scale : Option Nat := none
  tag : Option Nat := none
  meta_ : Nat := 0
  deriving DecidableEq, Repr

/-- Width of a scale tile along K (03 R94). -/
def tileWidth (fmt block : Nat) : Nat := if blockScaled fmt then max 32 block else 32

/-- Columns of sparse tiles, and the dense length of one (06 R170). -/
def TLoc.tilesK (l : TLoc) : Nat := (l.k + 31) / 32
def denseLen (fmt : Nat) : Nat := rowBytes fmt 1024

/-- Row pitches of the data plane, the scale plane and the 2:4 metadata (04 R107, 06 R176). -/
def TLoc.pitch (l : TLoc) : Nat := alignUp (rowBytes l.fmt (if l.form = 1 then l.k / 2 else l.k)) 32
def TLoc.scalePitch (l : TLoc) : Nat := alignUp ((l.k + l.block - 1) / l.block) 32
def TLoc.metaPitch (l : TLoc) : Nat := alignUp ((l.k + 7) / 8) 32

/-- An element is zero when its code decodes to +0 or -0 (06 R170). -/
def zeroCode (fmt w : Nat) : Bool := match elemValue fmt w with | .fin _ m _ => m == 0 | _ => false

/-! ### The tile directory (06 R171) -/

def deForm (e : Nat) : Nat := field e 126 2
def deNnz (e : Nat) : Nat := field e 115 11
def deLen (e : Nat) : Nat := field e 103 12
def deOff (e : Nat) : Nat := field e 71 32
def deRows (e : Nat) : Nat := field e 39 32
def deCols (e : Nat) : Nat := field e 7 32

/-- A word with the listed bits set. -/
def bitsWord (l : List Nat) : Nat := l.foldl (fun a n => a ||| (1 <<< n)) 0

/-- A tile's positions as a table: row * 32 + K position, element code. -/
abbrev TileMap := Table Nat

/-- The rows and K positions of a tile that hold an element. -/
def TileMap.rowBits (t : TileMap) : Nat := bitsWord ((tkeys t).map (· / 32))
def TileMap.colBits (t : TileMap) : Nat := bitsWord ((tkeys t).map (· % 32))

/-- The nonzero elements of a dense tile's payload (06 R174). -/
def denseTile (fmt : Nat) (b : Bytes) : TileMap :=
  (List.range 1024).filterMap (fun i =>
    let w := elemAt fmt (b.drop (i / 32 * rowBytes fmt 32)) (i % 32)
    if zeroCode fmt w then none else some (i, w))

/-- Bytes that `n` packed elements take. -/
def packedBytes (fmt n : Nat) : Nat := (n * elemBits fmt + 7) / 8

/-- Row record `r` of a bitmap payload (06 R172). -/
def rowRecord (b : Bytes) (r : Nat) : Nat := ofLE ((b.drop (16 + 8 * r)).take 8)

/-- A bitmap payload, if it is well formed (06 R172, R187). -/
def bitmapTile (fmt nnz : Nat) (b : Bytes) : Option TileMap :=
  let vals := b.drop 272
  let go := (List.range 32).foldl (fun (a : Option (Nat × TileMap)) r =>
    match a with
    | none => none
    | some (n, t) =>
      let rr := rowRecord b r
      let ks := bitsOf 32 (field rr 32 32)
      if field rr 8 8 = ks.length ∧ field rr 16 16 = n then
        some (n + ks.length, t ++ ((List.range ks.length).map (fun i => (r * 32 + ks.getD i 0, elemAt fmt vals (n + i)))))
      else none) (some (0, []))
  match go with
  | some (n, t) => if n = nnz ∧ b.length = 272 + packedBytes fmt nnz then some t else none
  | none => none

/-- Numbers strictly increase. -/
def strictlyRising : List Nat → Bool
  | a :: b :: r => decide (a < b) && strictlyRising (b :: r)
  | _ => true

/-- An index-list payload, if it is well formed (06 R173, R187). -/
def indexTile (fmt nnz : Nat) (b : Bytes) : Option TileMap :=
  let idx := (List.range nnz).map (fun i => ofLE ((b.drop (2 * i)).take 2))
  if strictlyRising idx && idx.all (fun i => decide (i < 1024)) && b.length == 2 * nnz + packedBytes fmt nnz then
    some ((List.range nnz).map (fun i => (idx.getD i 0, elemAt fmt (b.drop (2 * nnz)) i)))
  else none

/-- A tile's elements from its directory entry and payload (06 R171-R174), none when it is malformed (R187). -/
def tileOf (fmt e : Nat) (b : Bytes) : Option TileMap :=
  let t := if deForm e = 3 then none
    else if deNnz e = 0 ∧ deLen e = 0 then some []
    else match deForm e with
      | 0 => if deLen e = denseLen fmt then some (denseTile fmt b) else none
      | 1 => bitmapTile fmt (deNnz e) b
      | _ => indexTile fmt (deNnz e) b
  match t with
  | none => none
  | some t => if TileMap.rowBits t = deRows e ∧ TileMap.colBits t = deCols e then some t else none

/-! ### Bands of 32 rows -/

/-- What an operand gives for K positions k0 up to k1 of 32 rows: element codes by row, scale bytes by row, tags, rows with
an uncorrectable word, and whether the whole band read one or a malformed tile. -/
structure BandRead where
  codes : List (List Nat) := []
  scales : List (List Nat) := []
  tags : List Nat := []
  poison : List Bool := []
  badTags : Bool := false
  malformed : List Nat := []
  deriving DecidableEq, Repr

/-- One row of dense codes. -/
def State.readDenseRow (s : State) (f : Nat) (l : TLoc) (r k0 k1 : Nat) : (List Nat × Bool) × State :=
  let b0 := rowBytes l.fmt k0
  let (g, s) := s.fmRead f (l.data + r * l.pitch + b0) (rowBytes l.fmt k1 - b0)
  (((List.range (k1 - k0)).map (elemAt l.fmt g.bytes), g.poison || g.protection), s)

/-- One row of a 2:4 operand, expanded (06 R176). -/
def State.readPairRow (s : State) (f : Nat) (l : TLoc) (r k0 k1 : Nat) : (List Nat × Bool) × State :=
  let g0 := k0 / 4
  let n := (k1 + 3) / 4 - g0
  let b0 := rowBytes l.fmt (2 * g0)
  let (g, s) := s.fmRead f (l.data + r * l.pitch + b0) (rowBytes l.fmt (2 * (g0 + n)) - b0)
  let (m, s) := s.fmRead f (l.meta_ + r * l.metaPitch + g0 / 2) ((g0 + n + 1) / 2 - g0 / 2)
  let codes := (List.range n).flatMap (fun i =>
    let q := g0 + i
    let nib := field ((m.bytes.getD (q / 2 - g0 / 2) 0).toNat) (4 * (q % 2)) 4
    let a := elemAt l.fmt g.bytes (2 * i)
    let b := elemAt l.fmt g.bytes (2 * i + 1)
    (List.range 4).map (fun p => if p = field nib 2 2 then b else if p = field nib 0 2 then a else 0))
  ((codes.take (k1 - k0), g.poison || m.poison || g.protection || m.protection), s)

/-- Rows read one after another. -/
def State.readRows (s : State) (read : State → Nat → (List Nat × Bool) × State) : List Nat → List (List Nat × Bool) × State
  | [] => ([], s)
  | r :: rs =>
    let x := read s r
    let y := x.2.readRows read rs
    (x.1 :: y.1, y.2)

/-- A tile of a compressed operand: its elements, whether a word was uncorrectable, whether it is malformed. -/
structure TileRead where
  elems : TileMap := []
  poison : Bool := false
  malformed : Bool := false
  deriving DecidableEq, Repr

/-- One tile read in the operand's form: BLOCK_TILE by its presence bit (06 R175), the others by the directory. -/
def State.readTile (s : State) (f : Nat) (l : TLoc) (i j : Nat) : TileRead × State :=
  if l.form = 2 then
    let (p, s) := s.fmRead f (l.meta_ + 32 * i * ((l.tilesK + 255) / 256) + j / 8) 1
    if bit p.num (j % 8) then
      let d := denseLen l.fmt
      let (g, s) := s.fmRead f (l.data + (i * l.tilesK + j) * d) d
      ({ elems := denseTile l.fmt g.bytes, poison := p.poison || g.poison }, s)
    else ({ poison := p.poison }, s)
  else
    let (e, s) := s.fmRead f (l.meta_ + 16 * (i * l.tilesK + j)) 16
    let (g, s) := s.fmRead f (l.data + deOff e.num) (deLen e.num)
    match tileOf l.fmt e.num g.bytes with
    | some t => if g.protection then ({ poison := e.poison, malformed := !e.poison }, s) else ({ elems := t, poison := e.poison || g.poison }, s)
    | none => ({ poison := e.poison || g.poison, malformed := !(e.poison || g.poison) }, s)

/-- Tiles of a band read one after another. -/
def State.readTiles (s : State) (f : Nat) (l : TLoc) (i : Nat) : List Nat → List (Nat × TileRead) × State
  | [] => ([], s)
  | j :: js =>
    let x := s.readTile f l i j
    let y := x.2.readTiles f l i js
    ((j, x.1) :: y.1, y.2)

/-- The codes of 32 rows of a band, in the operand's form. -/
def State.readCodes (s : State) (f : Nat) (l : TLoc) (i k0 k1 : Nat) : BandRead × State :=
  let rows := range2 (32 * i) (min (32 * i + 32) l.rows)
  if k1 ≤ k0 then ({ codes := rows.map (fun _ => []), poison := rows.map (fun _ => false) }, s)
  else if l.form ≤ 1 then
    let (rs, s) := s.readRows (fun s r => if l.form = 0 then s.readDenseRow f l r k0 k1 else s.readPairRow f l r k0 k1) rows
    ({ codes := rs.map (·.1), poison := rs.map (·.2) }, s)
  else
    let (ts, s) := s.readTiles f l i (range2 (k0 / 32) ((k1 + 31) / 32))
    let bad := ts.any (fun t => t.2.poison)
    let codeAt : Nat → Nat → Nat := fun r k =>
      match ts.find? (fun t => t.1 == k / 32) with
      | some t => tget 0 t.2.elems (r % 32 * 32 + k % 32)
      | none => 0
    ({ codes := rows.map (fun r => (range2 k0 k1).map (codeAt r)), poison := rows.map (fun _ => bad),
       malformed := (ts.filter (fun t => t.2.malformed)).map (·.1) }, s)

/-- Bytes as numbers. -/
def byteNats (b : Bytes) : List Nat := b.map (fun x => x.toNat)

/-- One row's scale bytes for blocks b0 up to b1 (04 R107). -/
def State.readScaleRow (s : State) (f : Nat) (l : TLoc) (b0 b1 r : Nat) : (List Nat × Bool) × State :=
  match l.scale with
  | none => (([], false), s)
  | some a =>
    let (g, s) := s.fmRead f (a + r * l.scalePitch + b0) (b1 - b0)
    ((byteNats g.bytes, g.poison || g.protection), s)

/-- A band's tags for K positions k0 up to k1 (03 R94). -/
def State.readTags (s : State) (f : Nat) (l : TLoc) (i k0 k1 : Nat) : (List Nat × Bool) × State :=
  match l.tag with
  | none => (([], false), s)
  | some a =>
    let w := tileWidth l.fmt l.block
    let n := (l.k + w - 1) / w
    let (g, s) := s.fmRead f (a + i * n + k0 / w) ((k1 + w - 1) / w - k0 / w)
    ((byteNats g.bytes, g.poison || g.protection), s)

/-- A band of an operand: codes, scale bytes and tags (04 R107, 03 R94). -/
def State.readBand (s : State) (f : Nat) (l : TLoc) (i k0 k1 : Nat) : BandRead × State :=
  let (b, s) := s.readCodes f l i k0 k1
  if k1 ≤ k0 then (b, s)
  else
    let rows := range2 (32 * i) (min (32 * i + 32) l.rows)
    let (sc, s) := s.readRows (fun s r => s.readScaleRow f l (k0 / l.block) ((k1 + l.block - 1) / l.block) r) rows
    let (tg, s) := s.readTags f l i k0 k1
    ({ b with scales := sc.map (fun x => x.1), tags := tg.1, badTags := tg.2,
              poison := List.zipWith (fun a (x : List Nat × Bool) => a || x.2) b.poison sc }, s)

/-- Tag of K position k of a band read from k0 on. -/
def BandRead.tagAt (b : BandRead) (fmt block k0 k : Nat) : Nat :=
  let w := tileWidth fmt block
  b.tags.getD (k / w - k0 / w) 0

/-- One row ready for the cells: element values, and the exponent each block's sum is scaled by, none for NaN. In the 16-bit
formats, which have no block scale, a position's tag is taken into its value, since a block may span several tag tiles
(DEDUCED, notes/assumptions/9). -/
structure OpRow where
  vals : List FVal := []
  exps : List (Option Int) := []
  poison : Bool := false
  deriving DecidableEq, Repr

/-- The rows of a band for the cells. -/
def BandRead.rows (b : BandRead) (fmt block k0 k1 : Nat) : List OpRow :=
  let b0 := k0 / block
  let b1 := (k1 + block - 1) / block
  (List.range b.codes.length).map (fun i =>
    let codes := b.codes.getD i []
    let sc := b.scales.getD i []
    { vals := (List.range codes.length).map (fun n =>
        let v := elemValue fmt (codes.getD n 0)
        if is16 fmt then v.scale (b.tagAt fmt block k0 (k0 + n)) else v)
      exps := (List.range (b1 - b0)).map (fun n =>
        if blockScaled fmt then (scaleExp (sc.getD n 127)).map (· + (b.tagAt fmt block k0 ((b0 + n) * block) : Int)) else some 0)
      poison := b.poison.getD i false || b.badTags })

end Sys2Proof.Machine
end

