-- ==== Sys2Proof/Machine/Matrix.lean ====
section
/-! DEFINITION. Sys2Proof/Machine/Matrix.lean: the matrix engine: descriptors, block accumulation, the canonical chunk tree,
retries, max and min with index, the sampled audit, and the tiles (04_matrix_engine R105-R136, 06_sparsity R194-R196).
(DEDUCED, notes/assumptions/71.)
(DESIGN CHOICE, notes/assumptions/72.) -/

namespace Sys2Proof.Machine

/-! ### The descriptor (R129) -/

def mdAFmt (d : Nat) : Nat := field d 496 8
def mdBFmt (d : Nat) : Nat := field d 488 8
def mdBlock (d : Nat) : Nat := 16 * 2 ^ field d 486 2
def mdShape (d : Nat) : Nat := field d 484 2
def mdChunkFirst (d : Nat) : Nat := field d 481 3
def mdChunkLog (d : Nat) : Nat := field d 479 2
def mdAccIn (d : Nat) : Bool := bit d 478
def mdHold (d : Nat) : Bool := bit d 477
def mdASparse (d : Nat) : Nat := field d 474 3
def mdBSparse (d : Nat) : Nat := field d 471 3
def mdMaskMode (d : Nat) : Nat := field d 469 2
def mdAudit (d : Nat) : Nat := field d 465 4
def mdM (d : Nat) : Nat := field d 448 16 + 1
def mdN (d : Nat) : Nat := field d 432 16 + 1
def mdK (d : Nat) : Nat := field d 412 20 + 1
def mdATagged (d : Nat) : Bool := bit d 411
def mdBTagged (d : Nat) : Bool := bit d 410
def mdOutTagged (d : Nat) : Bool := bit d 409
def mdDyn (d : Nat) : Nat := field d 407 2
def mdAAddr (d : Nat) : Nat := 32 * field d 384 16
def mdAScale (d : Nat) : Nat := 32 * field d 368 16
def mdATag (d : Nat) : Nat := 32 * field d 352 16
def mdAMeta (d : Nat) : Nat := 32 * field d 336 16
def mdBAddr (d : Nat) : Nat := 32 * field d 320 16
def mdBScale (d : Nat) : Nat := 32 * field d 304 16
def mdBTag (d : Nat) : Nat := 32 * field d 288 16
def mdBMeta (d : Nat) : Nat := 32 * field d 272 16
def mdOut (d : Nat) : Nat := 32 * field d 256 16
def mdOutTag (d : Nat) : Nat := 32 * field d 240 16
def mdIdx (d : Nat) : Nat := 32 * field d 224 16
def mdDynAddr (d : Nat) : Nat := 32 * field d 208 16
def mdMask (d : Nat) : Nat := 32 * field d 192 16
def mdARec (d : Nat) : Nat := field d 157 35
def mdBRec (d : Nat) : Nat := field d 122 35
def mdReserved (d : Nat) : Bool := field d 0 122 != 0 || field d 400 7 != 0 || bit d 464

/-- A record field: bits [39:5] of an HBM offset, all ones for none. -/
def recordOf (r : Nat) : Option Nat := if r = 2 ^ 35 - 1 then none else some (32 * r)

/-- Tiles of a super-tile: rows and columns (R106). -/
def shapeH (d : Nat) : Nat := match mdShape d with | 0 => 2 | 1 => 4 | 2 => 1 | _ => 8
def shapeW (d : Nat) : Nat := match mdShape d with | 0 => 4 | 1 => 2 | 2 => 8 | _ => 1

/-- The operand pair is accepted (R108). -/
def pairOk (a b : Nat) : Bool := (blockScaled a && blockScaled b) || (a == b && (is16 a || a == 9))

/-- Where operands A and B lie. -/
def mdLocA (d : Nat) : TLoc :=
  { fmt := mdAFmt d, form := mdASparse d, block := mdBlock d, rows := mdM d, k := mdK d, data := mdAAddr d,
    scale := if blockScaled (mdAFmt d) then some (mdAScale d) else none,
    tag := if mdATagged d then some (mdATag d) else none, meta_ := mdAMeta d }
def mdLocB (d : Nat) : TLoc :=
  { fmt := mdBFmt d, form := mdBSparse d, block := mdBlock d, rows := mdN d, k := mdK d, data := mdBAddr d,
    scale := if blockScaled (mdBFmt d) then some (mdBScale d) else none,
    tag := if mdBTagged d then some (mdBTag d) else none, meta_ := mdBMeta d }

/-- Row pitch of the output and index planes (R107). -/
def mdOutPitch (d : Nat) : Nat := alignUp (4 * mdN d) 32

/-- Columns and rows of output tiles. -/
def mdTileCols (d : Nat) : Nat := (mdN d + 31) / 32
def mdTileRows (d : Nat) : Nat := (mdM d + 31) / 32

/-! ### Checks (R130) -/

/-- A run of bytes of facet memory. -/
structure Plane where
  lo : Nat
  len : Nat
  deriving DecidableEq, Repr

def Plane.inside (p : Plane) : Bool := decide (p.lo + p.len ≤ facetBytes)
def Plane.meets (p q : Plane) : Bool := p.len != 0 && q.len != 0 && decide (p.lo < q.lo + q.len) && decide (q.lo < p.lo + p.len)

/-- The planes of an operand whose extent the descriptor gives. Where a compressed operand's payloads lie its directory says
(TLoc.payloads). -/
def TLoc.planes (l : TLoc) : List Plane :=
  let rowsOf := fun pitch n => (l.rows - 1) * pitch + n
  let w := tileWidth l.fmt l.block
  let tiles := (l.rows + 31) / 32
  (match l.form with
   | 0 => [⟨l.data, rowsOf l.pitch (rowBytes l.fmt l.k)⟩]
   | 1 => [⟨l.data, rowsOf l.pitch (rowBytes l.fmt (l.k / 2))⟩, ⟨l.meta_, rowsOf l.metaPitch ((l.k + 7) / 8)⟩]
   | 2 => [⟨l.data, tiles * l.tilesK * denseLen l.fmt⟩, ⟨l.meta_, 32 * tiles * ((l.tilesK + 255) / 256)⟩]
   | _ => [⟨l.meta_, 16 * tiles * l.tilesK⟩])
  ++ (match l.scale with | some a => [⟨a, rowsOf l.scalePitch ((l.k + l.block - 1) / l.block)⟩] | none => [])
  ++ (match l.tag with | some a => [⟨a, tiles * ((l.k + w - 1) / w)⟩] | none => [])

/-- Where the payloads of bitmaps and index lists lie, as the directory says when the descriptor is accepted: they are part of the data
plane that no output may overlap (R130 check 0x07). One that extends beyond facet memory is no payload but makes its tile malformed (06
R187), and an uncorrectable entry names none. -/
def State.payloads (s : State) (f : Nat) (l : TLoc) : List Plane × State :=
  if l.form < 3 then ([], s)
  else
    (List.range ((l.rows + 31) / 32 * l.tilesK)).foldl (fun (p : List Plane × State) i =>
      let (g, s) := p.2.fmRead f (l.meta_ + 16 * i) 16
      let x : Plane := ⟨l.data + deOff g.num, deLen g.num⟩
      (if g.poison || g.protection || !x.inside then p.1 else p.1 ++ [x], s)) ([], s)

/-- Planes that are read, the output loaded for accumulation apart. -/
def mdInputs (d : Nat) : List Plane :=
  (mdLocA d).planes ++ (mdLocB d).planes
  ++ (if mdDyn d = 0 then [] else [⟨mdDynAddr d, 4⟩])
  ++ (match mdMaskMode d with
      | 1 => [⟨mdMask d, (mdN d + 7) / 8⟩]
      | 2 => [⟨mdMask d, (mdK d + 7) / 8⟩]
      | _ => [])

/-- Planes that are written. -/
def mdOutputs (d : Nat) : List Plane :=
  let n := (mdM d - 1) * mdOutPitch d + 4 * mdN d
  (if mdHold d && !(mdAccIn d) then [] else [⟨mdOut d, n⟩])
  ++ (if mdOutTagged d && !(mdHold d && !(mdAccIn d)) then [⟨mdOutTag d, mdTileRows d * mdTileCols d⟩] else [])
  ++ (if descOpcode d = 0x10 then [] else [⟨mdIdx d, n⟩])

/-- Checks 0x01 to 0x07 of R130: the first that fails, 0 when none does. -/
def matrixCheck (d : Nat) : Nat :=
  let op := descOpcode d
  let int8 := mdAFmt d == 9 || mdBFmt d == 9
  if isMatrix op = false ∨ mdReserved d = true then 0x01
  else if pairOk (mdAFmt d) (mdBFmt d) = false then 0x02
  else if int8 = true ∧ 131071 < mdK d then 0x03
  else if mdChunkFirst d % 2 ^ mdChunkLog d ≠ 0 then 0x04
  else if 4 < mdASparse d ∨ 4 < mdBSparse d ∨ mdASparse d = 1 ∨ mdMaskMode d = 3 ∨ (0 < mdAudit d ∧ mdAudit d < 4) ∨ 12 < mdAudit d
      ∨ mdDyn d = 3 then 0x05
  else if (op ≠ 0x10 ∧ (mdAccIn d = true ∨ mdASparse d ≠ 0 ∨ mdBSparse d ≠ 0 ∨ mdMaskMode d ≠ 0 ∨ mdHold d = true))
      ∨ (int8 = true ∧ (mdAccIn d = true ∨ (recordOf (mdARec d)).isSome = true ∨ (recordOf (mdBRec d)).isSome = true
        ∨ mdATagged d = true ∨ mdBTagged d = true ∨ mdOutTagged d = true)) then 0x06
  else if (mdInputs d ++ mdOutputs d).all Plane.inside = false
      ∨ (mdOutputs d).any (fun o => (mdInputs d).any o.meets) = true then 0x07
  else 0

/-- A named record: its outer exponent, whether it is uncorrectable, and whether check 0x08 fails. -/
structure RecordRead where
  tExp : Int := 0
  bad : Bool := false
  refused : Bool := false
  deriving DecidableEq, Repr

/-- A tensor scale record read at acceptance (R130 check 0x08, R131). -/
def State.acceptRecord (s : State) (c : Nat) (rec : Option Nat) (fmt requester : Nat) : RecordRead × State :=
  match rec with
  | none => ({}, s)
  | some off =>
    if s.inRegion c off 96 then
      match s.readRecord c off requester with
      | (some w, s) => ({ tExp := srTExp w, refused := srFormat w != fmt }, s)
      | (none, s) => ({ bad := true }, s)
    else ({ refused := true }, s)

/-! ### Accumulation (R109-R115) -/

/-- Sum of a block's products (R109, R110): exact, or in the 16-bit formats each product truncated 63 places below the
largest one's exponent. -/
def blockSum (trunc : Bool) (ps : List FVal) : FVal :=
  let zero := FVal.fin false 0 0
  if trunc then
    match amaxOf ps with
    | none => ps.foldl FVal.add zero
    | some (m, e) =>
      let q := leadExp m e - 63
      (ps.map (fun x => match x with | .fin n a f => FVal.fin n (rtz a (f - q)) q | v => v)).foldl FVal.add zero
  else ps.foldl FVal.add zero

/-- A FP32 result is infinite. -/
def isInf32 (w : Nat) : Bool := match f32 w with | .inf _ => true | _ => false

/-- A value held by a cell: its pattern, and whether an addition has overflowed from finite inputs (R120). -/
structure Cell where
  val : Nat := 0
  beyond : Bool := false
  deriving DecidableEq, Repr

/-- One rounded addition: a zero result is +0, since an accumulator never holds -0 (R111; DEDUCED, notes/assumptions/10). -/
def Cell.add (a : Cell) (x : FVal) : Cell :=
  let r := toF32 ((f32 a.val).add x)
  { val := if r = 0x80000000 then 0 else r, beyond := a.beyond || (isInf32 r && (f32 a.val).isFinite && x.isFinite) }

/-- The join of two subtrees, earlier chunks on the left (R114). -/
def Cell.join (a b : Cell) : Cell :=
  let r := a.add (f32 b.val)
  { r with beyond := r.beyond || b.beyond }

/-- What every cell of a descriptor shares. -/
structure CellCtx where
  block : Nat
  trunc : Bool
  canonical : Bool
  /-- Positions of a canonical chunk (R113), chunks selected, positions that exist. -/
  chunkLen : Nat
  first : Nat
  log : Nat
  /-- First position read, and one beyond the last. -/
  k0 : Nat
  k1 : Nat
  /-- TA + TB of the records. -/
  outer : Int
  /-- K positions that the mask clears (R127). -/
  cleared : List Nat
  deriving DecidableEq, Repr

/-- A value of a row at K position k, +0 where it is masked. -/
def CellCtx.at_ (x : CellCtx) (r : OpRow) (k : Nat) : FVal :=
  if x.cleared.contains k then .fin false 0 0 else r.vals.getD (k - x.k0) (.fin false 0 0)

/-- Products of block b for a row of A and a column of B. -/
def CellCtx.products (x : CellCtx) (a b : OpRow) (n : Nat) : List FVal :=
  (range2 (n * x.block) (min (n * x.block + x.block) x.k1)).map (fun k => (x.at_ a k).mul (x.at_ b k))

/-- The mask clears every position of block n (06 R177). -/
def CellCtx.allCleared (x : CellCtx) (n : Nat) : Bool :=
  (range2 (n * x.block) (min (n * x.block + x.block) x.k1)).all x.cleared.contains

/-- The scaled sum of block n (R111). A block whose codes of one operand are all zero and whose other operand holds a NaN or an infinity
counts as zero under R126 and gives NaN under R110; the model computes every block that is not masked, as R112 says skipping changes no
bits, so it gives NaN (DESIGN CHOICE, notes/assumptions/152). -/
def CellCtx.blockTerm (x : CellCtx) (a b : OpRow) (n : Nat) : FVal :=
  if x.allCleared n then .fin false 0 0
  else match a.exps.getD (n - x.k0 / x.block) (some 0), b.exps.getD (n - x.k0 / x.block) (some 0) with
    | some p, some q => (blockSum x.trunc (x.products a b n)).scale (p + q + x.outer)
    | _, _ => .nan

/-- The blocks of canonical chunk j that exist (R113). -/
def CellCtx.chunkBlocks (x : CellCtx) (j : Nat) : List Nat :=
  let lo := j * x.chunkLen
  let hi := min (lo + x.chunkLen) x.k1
  if hi ≤ lo then [] else range2 (lo / x.block) ((hi + x.block - 1) / x.block)

/-- Blocks added in increasing K order (R111). -/
def CellCtx.sumBlocks (x : CellCtx) (a b : OpRow) (shift : Nat) (start : Cell) (l : List Nat) : Cell :=
  l.foldl (fun c n => c.add ((x.blockTerm a b n).scale (-(shift : Int)))) start

/-- The subtree of 2^level chunks from chunk j (R114). -/
def CellCtx.tree (x : CellCtx) (a b : OpRow) (shift : Nat) : Nat → Nat → Cell
  | 0, j => x.sumBlocks a b shift {} (x.chunkBlocks j)
  | n + 1, j => (x.tree a b shift n j).join (x.tree a b shift n (j + 2 ^ n))

/-- The chunk result of one cell (R114, R115). -/
def CellCtx.result (x : CellCtx) (a b : OpRow) (shift : Nat) : Cell :=
  if x.canonical then x.tree a b shift x.log x.first
  else x.sumBlocks a b shift {} ((range2 x.first (x.first + 2 ^ x.log)).flatMap x.chunkBlocks)

/-- The exact INT32 sum of an INT8 cell (R109). -/
def CellCtx.intResult (x : CellCtx) (a b : OpRow) : Nat :=
  let v := (range2 x.k0 x.k1).foldl (fun (t : FVal) k => t.add ((x.at_ a k).mul (x.at_ b k))) (.fin false 0 0)
  match v with
  | .fin n m e => ofInt 32 (scaled n m e 0)
  | _ => 0

/-- Accumulation in place: round(v * 2^(old - shift) + r) (R119). -/
def inPlace (v old shift : Nat) (r : Cell) : Cell :=
  let w := toF32 (((f32 v).scale ((old : Int) - shift)).add (f32 r.val))
  { val := w, beyond := r.beyond || (isInf32 w && (f32 v).isFinite && (f32 r.val).isFinite) }

/-! ### Max and min with index (R123, R124) -/

/-- Candidate against the present winner: NaN over every number, larger (smaller) wins, the earlier on a tie. -/
def beats (min_ : Bool) (x w : FVal) : Bool :=
  if w.isNan then false else if x.isNan then true else if min_ then x.lt w else w.lt x

/-- The winner and its K index over positions k0 up to k1. -/
def CellCtx.extreme (x : CellCtx) (min_ : Bool) (a b : OpRow) : Nat × Nat :=
  let prod := fun k =>
    match a.exps.getD (k / x.block - x.k0 / x.block) (some 0), b.exps.getD (k / x.block - x.k0 / x.block) (some 0) with
    | some p, some q => ((x.at_ a k).mul (x.at_ b k)).scale (p + q + x.outer)
    | _, _ => FVal.nan
  match (range2 x.k0 x.k1).foldl (fun (w : Option (FVal × Nat)) k =>
    match w with
    | none => some (prod k, k)
    | some (v, i) => if beats min_ (prod k) v then some (prod k, k) else some (v, i)) none with
  | some (v, i) => (toF32 v, i)
  | none => (if min_ then 0x7F800000 else 0xFF800000, 0xFFFFFFFF)

/-! ### One tile -/

/-- What a tile's K loop uses. -/
structure TileIn where
  x : CellCtx
  op : Nat
  int8 : Bool
  rowsA : List OpRow
  rowsB : List OpRow
  /-- Columns whose result is computed: those the N mask keeps (R127). -/
  live : List Bool
  /-- The loaded tile of accumulation in place (R119). -/
  loaded : Option AccTile
  deriving DecidableEq, Repr

/-- The cells of a tile at a shift, 32 x 32 by rows; cells beyond the operands hold 0. -/
def TileIn.cells (t : TileIn) (shift : Nat) : List Cell :=
  (List.range 1024).map (fun i =>
    match t.rowsA[i / 32]?, t.rowsB[i % 32]? with
    | some a, some b =>
      let r : Cell := if t.live.getD (i % 32) false then
          (if t.int8 then { val := t.x.intResult a b } else t.x.result a b shift)
        else {}
      (match t.loaded with
       | some l => inPlace (l.vals.getD i 0) l.tag shift r
       | none => r)
    | _, _ => {})

/-- How a tile's K loop ended. -/
structure TileOutcome where
  cells : List Cell
  shift : Nat
  retries : Nat := 0
  exhausted : Bool := false
  deriving DecidableEq, Repr

/-- The attempts of a tile (R120-R122): at most `fuel` further ones, each raising the shift by s. -/
def TileIn.attempt (t : TileIn) (tagged : Bool) (s : Nat) : Nat → Nat → Nat → TileOutcome
  | 0, shift, n =>
    let cs := t.cells shift
    { cells := cs, shift := shift, retries := n, exhausted := cs.any (fun c => c.beyond) }
  | fuel + 1, shift, n =>
    let cs := t.cells shift
    if cs.any (fun c => c.beyond) = false then { cells := cs, shift := shift, retries := n }
    else if tagged = false ∨ 255 < shift + s then { cells := cs, shift := shift, retries := n, exhausted := true }
    else t.attempt tagged s fuel (shift + s) (n + 1)

/-! ### Tiles of a super-tile -/

/-- Super-tiles of a run: columns, and how many (R106). -/
def superCols (d : Nat) : Nat := (mdN d + 32 * shapeW d - 1) / (32 * shapeW d)
def MatRun.superCount (r : MatRun) (d : Nat) : Nat := (r.m + 32 * shapeH d - 1) / (32 * shapeH d) * superCols d

/-- The array, tile row and tile column of the tiles of super-tile i that lie in the output (R106). -/
def MatRun.tilesAt (r : MatRun) (d i : Nat) : List (Nat × Nat × Nat) :=
  ((List.range 8).map (fun a => (a, i / superCols d * shapeH d + a / shapeW d, i % superCols d * shapeW d + a % shapeW d))).filter
    (fun t => decide (32 * t.2.1 < r.m) && decide (32 * t.2.2 < mdN d))

/-- Words of an output tile row by row: the address of row n of a tile, and how many of its columns exist. -/
def outRow (d base row col n : Nat) : Nat := base + (32 * row + n) * mdOutPitch d + 128 * col
def outCols (d col : Nat) : Nat := min 32 (mdN d - 32 * col)

/-- A tile row read, word by word. -/
def wordsLE (n : Nat) (b : Bytes) : List Nat := (List.range n).map (fun i => ofLE ((b.drop (4 * i)).take 4))

/-- The output tile loaded for accumulation in place, and whether a word of it was uncorrectable (R119). -/
def State.loadTile (s : State) (f d m row col : Nat) (array : Nat) : (AccTile × Bool) × State :=
  let (tg, s) := if mdOutTagged d then s.fmRead f (mdOutTag d + row * mdTileCols d + col) 1 else ({}, s)
  let rows := min 32 (m - 32 * row)
  let rec go (s : State) : Nat → Nat → List Nat → Bool → (List Nat × Bool) × State
    | 0, _, l, b => ((l, b), s)
    | fuel + 1, n, l, b =>
      let (g, s) := s.fmRead f (outRow d (mdOut d) row col n) (4 * outCols d col)
      go s fuel (n + 1) (l ++ wordsLE 32 g.bytes) (b || g.poison)
  let ((l, b), s) := go s rows 0 [] false
  (({ array := array, row := row, col := col, vals := l, tag := tg.num }, b || tg.poison), s)

/-- Columns of a tile that are computed (R127). -/
def MatRun.live (r : MatRun) (d col : Nat) : List Bool :=
  (List.range (outCols d col)).map (fun j => mdMaskMode d != 1 || r.mask.getD (32 * col + j) true)

/-- A word of the mask that the K loop of a tile reads was uncorrectable. -/
def MatRun.maskLost (r : MatRun) (d col : Nat) : Bool :=
  match mdMaskMode d with
  | 1 => r.maskBad.getD col false
  | 2 => r.maskBad.any id
  | _ => false

/-- A tile whose mask bits are all clear: it is not computed (R127). -/
def MatRun.masked (r : MatRun) (d col : Nat) : Bool := !(r.live d col).any id && !(r.maskLost d col) && !r.bad

/-- The mask read when the descriptor starts: its bits, and the runs of 32 that read an uncorrectable word (R127). -/
def State.readMask (s : State) (f d : Nat) : (List Bool × List Bool) × State :=
  let n := match mdMaskMode d with | 1 => mdN d | 2 => mdK d | _ => 0
  let (p, s) := (List.range ((n + 31) / 32)).foldl (fun (p : (Bytes × List Bool) × State) i =>
    let (g, s) := p.2.fmRead f (mdMask d + 4 * i) (min 4 ((n + 7) / 8 - 4 * i))
    ((p.1.1 ++ g.bytes, p.1.2 ++ [g.poison]), s)) (([], []), s)
  (((List.range n).map (fun i => bit ((p.1.getD (i / 8) 0).toNat) (i % 8)), p.2), s)

/-- The tiles of a super-tile loaded, but those that are not computed (R119, R127); without ACC_IN nothing is. -/
def State.loadTiles (s : State) (f d : Nat) (r : MatRun) : MatRun × State :=
  if mdAccIn d then
    ((r.tilesAt d r.superTile).filter (fun t => !(r.masked d t.2.2))).foldl (fun (p : MatRun × State) t =>
      let ((x, b), s) := p.2.loadTile f d p.1.m t.2.1 t.2.2 t.1
      ({ p.1 with loaded := tset p.1.loaded t.1 x, loadedBad := if b then nsInsert p.1.loadedBad t.1 else p.1.loadedBad }, s))
      ({ r with loaded := [], loadedBad := [] }, s)
  else ({ r with loaded := [], loadedBad := [] }, s)

/-! ### Accepting a descriptor (R128, R130, R131) -/

/-- A descriptor is refused: counted and logged (R130). -/
def State.refuseMatrix (s : State) (n c code : Nat) : State := (s.bump Obj.MATRIX_REFUSED_COUNT c).refuse n 1 code

/-- The count word of a dynamic dimension: its value, none without one, or uncorrectable. -/
def State.dynCount (s : State) (f d : Nat) : (Option Nat × Bool) × State :=
  if mdDyn d = 0 then ((none, false), s)
  else
    let (g, s) := s.fmRead f (mdDynAddr d) 4
    if g.poison then ((none, true), s) else ((some g.num, false), s)

/-- The descriptor starts on the arrays of its facet. -/
def State.startMatrix (s : State) (n : Nat) (it : Item) : State :=
  let d := it.desc
  let f := it.facet
  if matrixCheck d ≠ 0 then s.refuseMatrix n it.ctx (matrixCheck d)
  else
    let (pa, s) := s.payloads f (mdLocA d)
    let (pb, s) := s.payloads f (mdLocB d)
    let meets := (mdOutputs d).any (fun o => (pa ++ pb).any o.meets)
    let (ra, s) := s.acceptRecord it.ctx (recordOf (mdARec d)) (mdAFmt d) 1
    let (rb, s) := s.acceptRecord it.ctx (recordOf (mdBRec d)) (mdBFmt d) 1
    if meets then s.refuseMatrix n it.ctx 0x07
    else if ra.refused || rb.refused then s.refuseMatrix n it.ctx 0x08
    else
      let ((count, badCount), s) := s.dynCount f d
      let bad := ra.bad || rb.bad || badCount
      let s := if bad then s.meet n .failedUncorrectable else s
      if mdDyn d = 1 ∧ count = some 0 then s.finishWith n .okZeroWork
      else
        let s := if mdDyn d = 2 ∧ count = some 0 then s.meet n .okZeroWork else s
        let ((mask, maskBad), s) := s.readMask f d
        let run : MatRun :=
          { item := n, tExpA := ra.tExp, tExpB := rb.tExp, bad := bad, mask := mask, maskBad := maskBad,
            m := if mdDyn d = 1 then min (mdM d) (count.getD (mdM d)) else mdM d,
            k := if mdDyn d = 2 then min (mdK d) (count.getD (mdK d)) else mdK d }
        let (run, s) := s.loadTiles f d run
        s.setFacet f { s.facet f with mat := some run }

/-- A matrix descriptor reaches its engine, which takes it when its arrays are free (05 R143). -/
def State.matrixStart (s : State) (n op : Nat) : State :=
  match s.item? n with
  | none => s
  | some it => if (s.facet it.facet).mat.isSome then s else s.withItem n [op] (fun it s => s.startMatrix n it)

/-- MATMUL (R111). -/
def execMatmul (item : Nat) (s : State) : Res := .next (s.matrixStart item 0x10)

/-- MAX_INDEX (R123). -/
def execMaxIndex (item : Nat) (s : State) : Res := .next (s.matrixStart item 0x11)

/-- MIN_INDEX (R123). -/
def execMinIndex (item : Nat) (s : State) : Res := .next (s.matrixStart item 0x12)

/-! ### The end of a K loop -/

/-- What a super-tile's K loop read: bands by tile row of A and tile column of B. -/
structure SuperRead where
  a : Table BandRead := []
  b : Table BandRead := []
  deriving DecidableEq, Repr

/-- Bands read one after another. -/
def State.readBands (s : State) (f : Nat) (l : TLoc) (k0 k1 : Nat) : List Nat → Table BandRead × State
  | [] => ([], s)
  | i :: is =>
    let x := s.readBand f l i k0 k1
    let y := x.2.readBands f l k0 k1 is
    (tset y.1 i x.1, y.2)

/-- First position of the selected chunks, and one beyond the last that exists (R113, R128). -/
def mdChunkLen (d : Nat) : Nat := mdBlock d * (((mdK d + mdBlock d - 1) / mdBlock d + 7) / 8)
def mdFrom (d : Nat) : Nat := mdChunkFirst d * mdChunkLen d
def MatRun.upTo (r : MatRun) (d : Nat) : Nat := min r.k ((mdChunkFirst d + 2 ^ mdChunkLog d) * mdChunkLen d)

/-- The operand bytes of a super-tile read (R107): those of the tiles that are computed (R127) or audited. -/
def State.readSuper (s : State) (f d : Nat) (r : MatRun) (picks : Nat → Nat → Bool) : SuperRead × State :=
  let ts := (r.tilesAt d r.superTile).filter (fun t => !(r.masked d t.2.2) || picks t.2.1 t.2.2)
  let k1 := r.upTo d
  let (a, s) := s.readBands f { mdLocA d with rows := r.m } (mdFrom d) k1 ((ts.map (fun t => t.2.1)).foldl nsInsert [])
  let (b, s) := s.readBands f (mdLocB d) (mdFrom d) k1 ((ts.map (fun t => t.2.2)).foldl nsInsert [])
  ({ a := a, b := b }, s)

/-- The cells' shared context for a run (R109-R115). -/
def State.cellCtx (s : State) (d : Nat) (it : Item) (r : MatRun) : CellCtx :=
  { block := mdBlock d, trunc := is16 (mdAFmt d), canonical := s.reg Obj.CANONICAL_REDUCTION it.ctx == 1,
    chunkLen := mdChunkLen d, first := mdChunkFirst d, log := mdChunkLog d, k0 := mdFrom d, k1 := r.upTo d,
    outer := r.tExpA + r.tExpB,
    cleared := if mdMaskMode d = 2 then (range2 (mdFrom d) (r.upTo d)).filter (fun k => !(r.mask.getD k true)) else [] }

/-- The rows of a band for the cells of a run. -/
def SuperRead.opA (sr : SuperRead) (d : Nat) (r : MatRun) (i : Nat) : List OpRow :=
  (tget {} sr.a i).rows (mdAFmt d) (mdBlock d) (mdFrom d) (r.upTo d)
def SuperRead.opB (sr : SuperRead) (d : Nat) (r : MatRun) (j : Nat) : List OpRow :=
  (tget {} sr.b j).rows (mdBFmt d) (mdBlock d) (mdFrom d) (r.upTo d)

/-- What a tile that read an uncorrectable word or a malformed tile is written with (R134, 06 R187). -/
def badTile (d : Nat) (array row col rows tag : Nat) (idx : Nat) : AccTile :=
  { array := array, row := row, col := col, rows := rows, vals := List.replicate 1024 (if mdAFmt d = 9 ∧ descOpcode d = 0x10 then 0x80000000 else nan32),
    idx := if descOpcode d = 0x10 then [] else List.replicate 1024 idx, tag := tag }

/-- The front tile and, in canonical mode, the chunk stack of an array are read as its K loop ends (R116, 13 R360): whether a word of them
was uncorrectable. The five tiles of an array are words 0 to 2559 of its instance: front, back, chunk stack. -/
def State.frontLost (s : State) (it : Item) (array : Nat) : Bool × State :=
  let a := 8 * it.facet + array
  let (x, s) := s.sramRead 1 a 0 512 it.ctx it.slot
  let (y, s) := if s.reg Obj.CANONICAL_REDUCTION it.ctx = 1 then s.sramRead 1 a 1024 2560 it.ctx it.slot else ([], s)
  (!(x ++ y).isEmpty, (s.sramWrote 1 a 0 512).sramWrote 1 a 1024 2560)

/-- One array's tile at the end of the K loop, and how many retries it took. A tile that the mask clears wholly is not computed: it is left
alone under ACC_IN and written +0 otherwise (R127). A tile that read an uncorrectable word, a malformed tile or a lost accumulator word meets
every status that applies (R134, 06 R187); the spec gives no tag byte for it, and the model writes t_old, 0 without ACC_IN (DESIGN CHOICE,
notes/assumptions/150). -/
def State.tileResult (s : State) (n d : Nat) (it : Item) (r : MatRun) (sr : SuperRead) (t : Nat × Nat × Nat) : (AccTile × Nat) × State :=
  let (array, row, col) := t
  let rows := min 32 (r.m - 32 * row)
  let live := r.live d col
  let loaded := tfind r.loaded array
  let rowsA := sr.opA d r row
  let rowsB := sr.opB d r col
  let old := match loaded with | some l => l.tag | none => 0
  if r.masked d col then
    if mdAccIn d then (({ array := array, row := row, col := col, rows := 0, skip := true }, 0), s)
    else (({ array := array, row := row, col := col, rows := rows, vals := List.replicate 1024 0 }, 0), s)
  else
  let (lost, s) := s.frontLost it array
  let malformed := !((tget {} sr.a row).malformed.isEmpty && (tget {} sr.b col).malformed.isEmpty)
  let poison := lost || r.bad || r.maskLost d col || r.loadedBad.contains array || rowsA.any (fun x => x.poison)
    || (List.zipWith (fun (x : OpRow) l => x.poison && l) rowsB live).any id
  if poison || malformed then
    let s := if poison then s.meet n .failedUncorrectable else s
    let s := if malformed then s.meet n .failedProtection else s
    (((badTile d array row col rows old (s.fresh (2 ^ 32))), 0), s.took)
  else
    let x := s.cellCtx d it r
    if descOpcode d = 0x10 then
      let tin : TileIn := { x := x, op := descOpcode d, int8 := mdAFmt d == 9, rowsA := rowsA, rowsB := rowsB, live := live, loaded := loaded }
      let o := tin.attempt (mdOutTagged d) (s.reg Obj.ACC_RETRY_SHIFT it.ctx) 3 old 0
      let s := s.bump Obj.ACC_RETRY_COUNT it.ctx o.retries
      let s := if o.exhausted then (s.bump Obj.ACC_EXHAUSTED_COUNT it.ctx).meet n .scaleExhausted else s
      (({ array := array, row := row, col := col, rows := rows, vals := o.cells.map (fun c => c.val), tag := o.shift }, o.retries), s)
    else
      let w := (List.range 1024).map (fun i =>
        match rowsA[i / 32]?, rowsB[i % 32]? with
        | some a, some b => x.extreme (descOpcode d == 0x12) a b
        | _, _ => (0, 0))
      (({ array := array, row := row, col := col, rows := rows, vals := w.map (fun p => p.1), idx := w.map (fun p => p.2) }, 0), s)

/-- The tiles of a super-tile, array by array, and the most retries of one of them. -/
def State.tileResults (s : State) (n d : Nat) (it : Item) (r : MatRun) (sr : SuperRead) : List (Nat × Nat × Nat) → (List AccTile × Nat) × State
  | [] => (([], 0), s)
  | t :: ts =>
    let x := s.tileResult n d it r sr t
    let y := x.2.tileResults n d it r sr ts
    ((x.1.1 :: y.1.1, max x.1.2 y.1.2), y.2)

/-- The malformed tiles a K loop read: counted and logged with their row and column of tiles (06 R187). -/
def State.countMalformed (s : State) (it : Item) (t : Table BandRead) : State :=
  t.foldl (fun s (e : Nat × BandRead) => e.2.malformed.foldl (fun s j =>
    (s.bump Obj.SPARSE_MALFORMED_COUNT it.ctx).log!
      { code := 0x021, sub := 1, inst := it.facet, ctx := it.ctx, slot := it.slot,
        status := Status.failedProtection.code, info0 := place e.1 32 32 + j, info1 := it.pos }) s) s

/-! ### Cycles (R126, R132, R136) -/

/-- Quarter cycles per K position: c of R108 times f of R132 times 4. -/
def quarterRate (d : Nat) : Nat :=
  let c := if mdAFmt d = 7 ∧ mdBFmt d = 7 then 2 else if is16 (mdAFmt d) then 8 else 4
  if mdBSparse d = 1 then c / 2 else c

/-- A K-block of a band holds no element that counts (R126, 06 R177). -/
def zeroBlock (x : CellCtx) (b : BandRead) (n : Nat) : Bool :=
  x.allCleared n ||
    ((range2 (n * x.block) (min (n * x.block + x.block) x.k1)).all (fun k =>
        x.cleared.contains k || b.codes.all (fun r => r.getD (k - x.k0) 0 == 0))
      && b.scales.all (fun r => r.getD (n - x.k0 / x.block) 0 != 0xFF))

/-- The K-blocks of a super-tile that are issued (R126). -/
def issuedBlocks (d : Nat) (r : MatRun) (sr : SuperRead) (x : CellCtx) : List Nat :=
  let all := if x.k1 ≤ x.k0 then [] else range2 (x.k0 / x.block) ((x.k1 + x.block - 1) / x.block)
  if descOpcode d ≠ 0x10 then all
  else all.filter (fun n => (r.tilesAt d r.superTile).any (fun t =>
    (r.live d t.2.2).any id && !(zeroBlock x (tget {} sr.a t.2.1) n) && !(zeroBlock x (tget {} sr.b t.2.2) n)))

/-- Cycles counted for a super-tile: issued, saved, repeated (R136). MA_ISSUE_CYCLES counts the first K loop and MA_RETRY_CYCLES its
repeats; the spec does not say whether the first counts the repeats too (DESIGN CHOICE, notes/assumptions/151). -/
def State.countCycles (s : State) (d : Nat) (it : Item) (r : MatRun) (sr : SuperRead) (retries : Nat) : State :=
  let x := s.cellCtx d it r
  let k := x.block * (issuedBlocks d r sr x).length
  let ceil4 := fun n => (n + 3) / 4
  let issue := ceil4 (quarterRate d * k)
  let q := if descOpcode d = 0x10 ∧ x.canonical = true then 16 else 0
  let full := min (mdChunkLen d * 2 ^ mdChunkLog d) (mdK d - mdFrom d)
  let whole := ceil4 ((if mdBSparse d = 1 then 2 else 1) * quarterRate d * alignUp full x.block)
  let s := s.bump Obj.MA_ISSUE_CYCLES it.facet issue
  let s := if descOpcode d = 0x10 then s.bump Obj.MA_SKIP_CYCLES it.facet (whole - issue) else s
  s.bump Obj.MA_RETRY_CYCLES it.facet (retries * max (issue + q) 64)

/-! ### The sampled audit (06 R194, R195) -/

/-- A gate descriptor: N mask with an audit rate. -/
def isGate (d : Nat) : Bool := descOpcode d == 0x10 && mdMaskMode d == 1 && mdAudit d != 0

/-- Layer and micro-batch of the slot that an item belongs to. -/
def State.slotLayer (s : State) (f n : Nat) : Nat × Nat :=
  match s.threadOf f n with
  | some (_, th) => (th.layer, th.microBatch)
  | none => (0, 0)

/-- The candidate tile is audited (R194). -/
def State.auditPicks (s : State) (d n : Nat) (it : Item) (row col : Nat) : Bool :=
  let (layer, mb) := s.slotLayer it.facet n
  let w := (philox (it.step % 2 ^ 32) (s.reg Obj.CONTEXT_SEED it.ctx) (row * mdTileCols d + col) (it.slot % 65536)
    (place mb 16 6 + place layer 0 16) (0x80000000 + it.pos % 2 ^ 31)).getD 0 0
  w % 2 ^ mdAudit d == 0

/-- A FP32 entry of a per-layer object held as bytes (06 R198). -/
def State.layerF32 (s : State) (o : ObjDef) (c layer : Nat) : Nat :=
  (List.range 4).foldl (fun a i => a + place (s.regF o c (4 * layer + i)) (8 * i) 8) 0

/-- What one audited tile adds to the statistics: elements by mask bit and by comparison (R195). -/
structure AuditSum where
  audited : Nat := 0
  elements : Nat := 0
  misses : Nat := 0
  keptElems : Nat := 0
  overkept : Nat := 0
  skipped : Nat := 0
  computed : Nat := 0
  deriving DecidableEq, Repr

/-- One element compared with the threshold. -/
def AuditSum.element (a : AuditSum) (clear : Bool) (theta z : FVal) : AuditSum :=
  let above := z.isNan || theta.lt z
  if clear then { a with elements := a.elements + 1, misses := a.misses + ofBool above }
  else { a with keptElems := a.keptElems + 1, overkept := a.overkept + ofBool (!above) }

/-- The audit of one tile of a gate descriptor. -/
def State.auditTile (s : State) (d n : Nat) (it : Item) (r : MatRun) (sr : SuperRead) (tag : Nat) (row col : Nat) (a : AuditSum) : AuditSum :=
  let live := r.live d col
  let a := if live.any id then { a with computed := a.computed + 1 } else { a with skipped := a.skipped + 1 }
  if live.all id ∨ s.auditPicks d n it row col = false then a
  else
    let theta := f32 (s.layerF32 Obj.PREDICTOR_THRESHOLD it.ctx (s.slotLayer it.facet n).1)
    let rowsA := sr.opA d r row
    let rowsB := sr.opB d r col
    let tin : TileIn := { x := s.cellCtx d it r, op := 0x10, int8 := mdAFmt d == 9, rowsA := rowsA, rowsB := rowsB,
                          live := live.map (fun _ => true), loaded := none }
    let cells := tin.cells tag
    (List.range 1024).foldl (fun a i =>
      if i / 32 < rowsA.length ∧ i % 32 < rowsB.length then
        let v := (cells.getD i {}).val
        let z := if mdAFmt d = 9 then FVal.ofInt (toInt 32 v) else (f32 v).scale tag
        a.element (!(live.getD (i % 32) true)) theta z
      else a) { a with audited := a.audited + 1 }

/-- The record of a layer's statistics with an audit's results added (R195), each count modulo 2^64. -/
def AuditSum.addTo (a : AuditSum) (w : Nat) : Nat :=
  let add := fun (w lo n : Nat) => putField w lo 64 ((field w lo 64 + n) % 2 ^ 64)
  add (add (add (add (add (add (add w 448 a.audited) 384 a.elements) 320 a.misses) 256 a.keptElems) 192 a.overkept) 128 a.skipped) 64 a.computed

/-- The audits of a super-tile of a gate descriptor added to the layer's record; an address of all ones discards them. -/
def State.audit (s : State) (d n : Nat) (it : Item) (r : MatRun) (sr : SuperRead) (tiles : List AccTile) : State :=
  if isGate d then
    let a := tiles.foldl (fun a t => s.auditTile d n it r sr t.tag t.row t.col a) {}
    let base := s.reg Obj.PREDICTOR_STATS_ADDR it.ctx
    if base = 2 ^ 64 - 1 then s
    else
      let off := base + 64 * (s.slotLayer it.facet n).1
      (s.ctxUpdate it.ctx off 64 (fun b => some (leBytes 64 (a.addTo (ofLE b)))) 1).2
  else s

/-- The K loop of the facet's super-tile ends (R120): every array's tile is final, retries included. -/
def State.kLoopEnd (s : State) (f : Nat) : State :=
  match (s.facet f).mat with
  | none => s
  | some r =>
    match r.tiles, s.item? r.item with
    | none, some it =>
      let d := it.desc
      let (sr, s) := s.readSuper f d r (fun row col => isGate d && s.auditPicks d r.item it row col)
      let ((tiles, retries), s) := s.tileResults r.item d it r sr (r.tilesAt d r.superTile)
      let s := (s.countMalformed it sr.a).countMalformed it sr.b
      let s := (s.countCycles d it r sr retries).audit d r.item it r sr tiles
      s.setFacet f { s.facet f with mat := some { r with tiles := some tiles } }
    | _, _ => s

/-- K_LOOP_END (R120). -/
def execKLoopEnd (facet : Nat) (s : State) : Res := .next (s.kLoopEnd facet)

/-! ### Swapping, draining, holding (R116-R118) -/

/-- No tile of item n is left on the arrays or in the back accumulators. -/
def State.matrixDone (s : State) (f n : Nat) : Bool :=
  (match (s.facet f).mat with | some r => r.item != n | none => true) && (s.facet f).back.all (fun (b : BackTile) => b.item != n)

/-- Front and back tiles swap, once every back tile has been drained or released; the next super-tile starts (R116). -/
def State.tileSwap (s : State) (f : Nat) : State :=
  match (s.facet f).mat with
  | none => s
  | some r =>
    match r.tiles, s.item? r.item with
    | some ts, some it =>
      if (s.facet f).back.isEmpty then
        let d := it.desc
        let hold := mdHold d
        let back := (ts.filter (fun t => !t.skip)).map (fun t => ({ item := r.item, superTile := r.superTile, tile := t, hold := hold } : BackTile))
        let last := decide (r.superCount d ≤ r.superTile + 1)
        let s := s.setFacet f { s.facet f with back := back }
        let s := if last then s.setFacet f { s.facet f with mat := none }
          else
            let (r, s) := s.loadTiles f d { r with superTile := r.superTile + 1, tiles := none }
            s.setFacet f { s.facet f with mat := some r }
        let s := if last && (hold || back.isEmpty) then s.finish r.item else s
        if hold then s.tileReady f r.item else s
      else s
    | _, _ => s

/-- ACC_TILE_SWAP (R116). -/
def execAccTileSwap (facet : Nat) (s : State) : Res := .next (s.tileSwap facet)

/-- Rows of words written to a plane (R107). -/
def State.writeTileRows (s : State) (c f d base row col rows : Nat) (l : List Nat) : Nat → State
  | 0 => s
  | k + 1 =>
    let s := s.writeTileRows c f d base row col rows l k
    if k < rows then
      (s.fmWrite c f (outRow d base row col k) (((List.range (outCols d col)).map (fun j => leBytes 4 (l.getD (32 * k + j) 0))).flatten)).2
    else s

/-- A tile drains to the output, index and tag planes (R117). -/
def State.drain (s : State) (f : Nat) (it : Item) (t : AccTile) : State :=
  let d := it.desc
  let s := s.writeTileRows it.ctx f d (mdOut d) t.row t.col t.rows t.vals 32
  let s := if descOpcode d = 0x10 then s else s.writeTileRows it.ctx f d (mdIdx d) t.row t.col t.rows t.idx 32
  if mdOutTagged d then (s.fmWrite it.ctx f (mdOutTag d + t.row * mdTileCols d + t.col) [BitVec.ofNat 8 t.tag]).2 else s

/-- The oldest back tile, if it is this array's and drains, is written; the descriptor completes after its last (R117). One with an
uncorrectable word is written as R134 says. -/
def State.drainDone (s : State) (f array : Nat) : State :=
  match (s.facet f).back with
  | [] => s
  | b :: bs =>
    if b.hold = false ∧ b.tile.array = array then
      match s.item? b.item with
      | none => s.setFacet f { s.facet f with back := bs }
      | some it =>
        let (dead, s) := s.sramRead 1 (8 * f + array) 512 1024 it.ctx it.slot
        let (tile, s) := if dead.isEmpty then (b.tile, s)
          else ({ badTile it.desc array b.tile.row b.tile.col b.tile.rows b.tile.tag (s.fresh (2 ^ 32)) with skip := b.tile.skip },
                (s.meet b.item .failedUncorrectable).took)
        let s := (s.drain f it tile).sramWrote 1 (8 * f + array) 512 1024
        let s := s.setFacet f { s.facet f with back := bs }
        if s.matrixDone f b.item then s.finish b.item else s
    else s

/-- TILE_DRAIN_DONE (R117). -/
def execTileDrainDone (facet array : Nat) (s : State) : Res := .next (s.drainDone facet array)

end Sys2Proof.Machine
end

