-- ==== Sys2Proof/Machine/Program.lean ====
section
/-! DEFINITION. Sys2Proof/Machine/Program.lean: element programs: registers, fetch, the next instruction, the ways a program
ends, and the write-path bands (05_vector_engine_and_sequencer R142-R151, R157, R158, R166, R167). -/

namespace Sys2Proof.Machine

/-! ### Scalar registers (R142) -/

/-- Scalar register r of a thread: s0 reads 0. Register numbers wrap at 64 (DESIGN CHOICE, notes/assumptions/12). -/
def State.sget (s : State) (f t r : Nat) : Nat :=
  if r % 64 = 0 then 0 else tget 0 (s.facet f).regs (t * 64 + r % 64) % 2 ^ 64

/-- The register is poisoned (R166). -/
def State.spoisoned (s : State) (f t r : Nat) : Bool := r % 64 != 0 && (s.facet f).regPoison.contains (t * 64 + r % 64)

/-- A scalar register written; s0 discards it. -/
def State.sset (s : State) (f t r v : Nat) (poison : Bool := false) : State :=
  if r % 64 = 0 then s
  else
    let x := s.facet f
    let k := t * 64 + r % 64
    s.setFacet f { x with regs := tset x.regs k (v % 2 ^ 64),
                          regPoison := if poison then nsInsert x.regPoison k else nsErase x.regPoison k }

/-! ### Vector and mask registers (R146, R147) -/

/-- Bits of a mask register that are all ones. -/
def allLanes : Nat := 2 ^ 256 - 1

/-- Vector register r: 256 lanes. -/
def Program.vget (p : Program) (r : Nat) : List Nat := tget (List.replicate 256 0) p.v (r % 32)

/-- Lanes of vector register r that are poisoned. -/
def Program.vpoison (p : Program) (r : Nat) : Nat := tget 0 p.vp (r % 32)

/-- Mask register r: p0 reads all ones. -/
def Program.pget (p : Program) (r : Nat) : Nat := if r % 8 = 0 then allLanes else tget 0 p.p (r % 8)

/-- A mask register written; p0 discards it. -/
def Program.pput (p : Program) (r v : Nat) : Program :=
  if r % 8 = 0 then p else { p with p := tset p.p (r % 8) (v % 2 ^ 256) }

/-- Lanes of a vector register written where the mask has a bit (R147), with the poison of what they were computed from. -/
def Program.vput (p : Program) (r mask : Nat) (vals : List Nat) (poison : Nat) : Program :=
  let old := p.vget r
  let new := (List.range 256).zipWith (fun l (x : Nat × Nat) => if bit mask l then x.1 % 2 ^ 32 else x.2) (vals.zip old)
  { p with v := tset p.v (r % 32) new,
           vp := tset p.vp (r % 32) ((p.vpoison r &&& Nat.xor mask allLanes) ||| (poison &&& mask)) }

/-! ### Instruction words (R151) -/

def iOp (w : Nat) : Nat := field w 56 8
def iSD (w : Nat) : Nat := field w 50 6
def iSA (w : Nat) : Nat := field w 44 6
def iSB (w : Nat) : Nat := field w 38 6
def iImm (w : Nat) : Nat := field w 0 32
def iVD (w : Nat) : Nat := field w 51 5
def iVA (w : Nat) : Nat := field w 46 5
def iVB (w : Nat) : Nat := field w 41 5
def iVC (w : Nat) : Nat := field w 36 5
def iPM (w : Nat) : Nat := field w 33 3
def iSBEn (w : Nat) : Bool := bit w 32
def iVSB (w : Nat) : Nat := field w 26 6
def iMSA (w : Nat) : Nat := field w 45 6
def iMFmt (w : Nat) : Nat := field w 40 5
def iMPM (w : Nat) : Nat := field w 37 3
def iOff (w : Nat) : Nat := field w 0 21

/-- The opcode is one of R152. -/
def opDefined (op : Nat) : Bool :=
  (decide (0x01 ≤ op) && decide (op ≤ 0x1E)) || (decide (0x30 ≤ op) && decide (op ≤ 0x47))
    || (decide (0x50 ≤ op) && decide (op ≤ 0x56)) || (decide (0x60 ≤ op) && decide (op ≤ 0x6A))
    || (decide (0x70 ≤ op) && decide (op ≤ 0x75)) || op == 0x78

/-- A format code VLD decodes: every code of R74 but SPLIT64, which lies in two planes. -/
def vldFmt (c : Nat) : Bool := decide (c ≤ 0x0A) || c == 0x0C

/-- The word is an instruction of R152. A pair with an odd first register, an atomic operation or type that R152 does not
give, a format its opcode does not take and a quarter above 3 are reserved encodings (DEDUCED, notes/assumptions/13). Fields that the
opcode does not use are not looked at: R151 wants them zero and does not say what a program with others does, and the model runs it as if
they were (DESIGN CHOICE, notes/assumptions/13). -/
def insnDefined (w : Nat) : Bool :=
  let op := iOp w
  opDefined op &&
    (match op with
     | 0x1A => decide (field w 0 4 ≤ 3) && decide (field w 4 4 ≤ 2)
     | 0x50 => iVD w % 2 == 0
     | 0x51 => iVA w % 2 == 0
     | 0x52 => iVD w % 2 == 0
     | 0x53 => iVA w % 2 == 0
     | 0x60 => vldFmt (iMFmt w)
     | 0x61 => iMFmt w == 0x00 || iMFmt w == 0x0A
     | 0x69 => decide (iVA w ≤ 3)
     | 0x70 => iVD w % 2 == 0
     | 0x71 => iVD w % 2 == 0
     | 0x72 => iVD w % 2 == 0 && iVA w % 2 == 0
     | 0x73 => iVD w % 2 == 0 && iVA w % 2 == 0
     | 0x74 => iVD w % 2 == 0 && iVA w % 2 == 0
     | 0x75 => iVA w % 2 == 0
     | _ => true)

/-! ### Fetch -/

/-- The program of a thread. -/
def State.prog? (s : State) (f t : Nat) : Option Program :=
  match s.thread? f t with | some th => th.prog | none => none

/-- A thread's program replaced. -/
def State.setProg (s : State) (f t : Nat) (p : Program) : State :=
  match s.thread? f t with
  | some th => s.setThread f t { th with prog := some p }
  | none => s

/-- Address of the next instruction in facet memory (R149, R151). -/
def Program.address (p : Program) : Nat := p.base + 8 * p.pc

/-- The instructions a program of the context may execute (R150). -/
def State.insnLimit (s : State) (c : Nat) : Nat := s.reg Obj.VPROG_INSN_LIMIT c

/-- The thread runs a program that may execute its next instruction now: its frame is given, nothing is awaited, and the
limit is not reached. -/
def State.fetch (s : State) (f t : Nat) : Option (Program × Nat) :=
  match s.thread? f t with
  | none => none
  | some th =>
    match th.prog with
    | none => none
    | some p =>
      if p.framed = true ∧ p.combine = false ∧ th.wait = .no ∧ p.count < s.insnLimit th.ctx ∧ p.address + 8 ≤ facetBytes then
        some (p, ofLE (s.fm.mem.getN (facetBytes * f + p.address) 8))
      else none

/-! ### The write path's bands (R158) -/

/-- The write-path values of one row of a band, blocks of the K range of a scale tile: lanes that were stored, as exact
values; poisoned lanes are NaN (R166). A lane of a stored row below K that was never stored holds an open value, which its place
determines (DESIGN CHOICE, notes/assumptions/14). -/
def Band.rowVals (b : Band) (f r k0 k1 : Nat) : List FVal :=
  match tfind b.rows r with
  | none => []
  | some l => (range2 k0 k1).map (fun k =>
      match tfind l (k - b.k) with
      | some (w, p) => if p then .nan else f32 w
      | none => f32 (Config.openLane (256 * b.place + f) b.step (b.row + r) k).toNat)

/-- The shift that the source of a scale tile carries: the largest tag of the array tiles that were current when its lanes were stored. The
lanes hold the values that the program stored, so that the tile decodes to them whatever the shift (03_formats_and_scaling R97, R98; DESIGN
CHOICE, notes/assumptions/153). -/
def Band.sourceShift (b : Band) (k0 k1 : Nat) : Nat :=
  b.shifts.foldl (fun a e => if k0 ≤ b.k + e.1 % 256 ∧ b.k + e.1 % 256 < k1 then max a e.2 else a) 0

/-- First word of a staging buffer in its SRAM: a word holds two lanes of a row (13_hbm_and_ecc R360). -/
def Band.word (b : Band) (r : Nat) : Nat := 4096 * b.buf + 128 * r

/-- A band whose lanes in uncorrectable words are poisoned (13 R360, R166). -/
def Band.spoil (b : Band) (dead : List Nat) : Band :=
  { b with rows := b.rows.map (fun (e : Nat × Table (Nat × Bool)) =>
      (e.1, e.2.map (fun (x : Nat × Nat × Bool) => (x.1, x.2.1, x.2.2 || dead.contains (b.word e.1 + x.1 / 2))))) }

/-- A list cut into pieces of n. -/
def chunks {α : Type} (n : Nat) : Nat → List α → List (List α)
  | 0, _ => []
  | fuel + 1, l => match l with
    | [] => []
    | _ => l.take n :: chunks n fuel (l.drop n)

/-- One scale tile of a band written: data, scales and the tag (R158, 03 R94-R100). -/
def State.commitTile (s : State) (f : Nat) (b : Band) (outer : Outer) (k0 k1 : Nat) : State :=
  let g := b.cfg
  let c := b.ctx
  let rows := (tkeys b.rows).filter (fun r => decide (b.row + r < g.m))
  let vals := rows.map (fun r => chunks g.block 256 ((b.rowVals f r k0 k1).map (fun v => if outer.bad then FVal.nan else v)))
  let w := tileWidth g.fmt g.block
  let tags := g.tag != 0xFFFF
  let o := if outer.bad then { rows := tileAt g.fmt g.classG 0 0 vals : TileOut }
    else writeTile g.fmt g.classG outer.tExp (s.reg Obj.NARROW_RETRY_BINADES c) (b.sourceShift k0 k1) tags vals
  let rec? := if outer.bad then none else if g.record = 2 ^ 35 - 1 then none else some (32 * g.record)
  let s := s.countTile c rec? true (amaxVal vals.flatten.flatten) o 2
  let s := if o.exhausted then s.exhaust b.item else s
  let pitch := alignUp (rowBytes g.fmt g.k) 32
  let spitch := alignUp ((g.k + g.block - 1) / g.block) 32
  let s := (rows.zip o.rows).foldl (fun s (e : Nat × List Narrowed) =>
    let r := b.row + e.1
    let s := (s.fmWrite c f (32 * g.data + r * pitch + rowBytes g.fmt k0) (packRow g.fmt (e.2.flatMap (fun x => x.codes)))).2
    if blockScaled g.fmt then
      (s.fmWrite c f (32 * g.scale + r * spitch + k0 / g.block) (e.2.map (fun x => BitVec.ofNat 8 x.scale))).2
    else s) s
  if tags then
    (s.fmWrite c f (32 * g.tag + b.row / 32 * ((g.k + w - 1) / w) + k0 / w) [BitVec.ofNat 8 o.shift]).2
  else s

/-- A band is committed (R158): its scale tiles in K order, under the outer exponent of the record folded for the step. -/
def State.commitBand (s : State) (f : Nat) (b : Band) : State :=
  let g := b.cfg
  let (outer, s) := s.beginWrite b.ctx (if g.record = 2 ^ 35 - 1 then none else some (32 * g.record)) b.step 2
  let (dead, s) := s.sramRead 2 f (b.word 0) (b.word 32) b.ctx (b.place / 65536)
  let s := if outer.bad || !dead.isEmpty then s.meet b.item .failedUncorrectable else s
  let b := b.spoil dead
  let w := tileWidth g.fmt g.block
  (List.range ((min g.k (b.k + 256) - b.k + w - 1) / w)).foldl (fun s i =>
    s.commitTile f b outer (b.k + i * w) (min (b.k + i * w + w) (min g.k (b.k + 256)))) s

/-- Bands committed, oldest first. -/
def State.commitBands (s : State) (f : Nat) (l : List Band) : State := l.foldl (fun s b => s.commitBand f b) s

/-- The facet's bands replaced. -/
def State.setBands (s : State) (f : Nat) (l : List Band) : State := s.setFacet f { s.facet f with bands := l }

/-- The bands that a program has opened leave the engine; those of other resident programs stay (DEDUCED, notes/assumptions/69). -/
def State.dropBands (s : State) (f n : Nat) : State := s.setBands f ((s.facet f).bands.filter (fun b => b.item != n))

/-- The bands that a program has opened are committed (R158). -/
def State.flushBands (s : State) (f n : Nat) : State :=
  (s.commitBands f ((s.facet f).bands.filter (fun b => b.item == n))).dropBands f n

/-! ### How a program ends -/

/-- The current held tile of a program is released to its array (R159). -/
def State.releaseTile (s : State) (f : Nat) (p : Program) : State :=
  match p.held, p.cur with
  | some m, some a =>
    let x := s.facet f
    s.setFacet f { x with back := x.back.filter (fun b => !(b.item == m && b.tile.array == a && b.taken)) }
  | _, _ => s

/-- The program is over: frame freed, held tile released, bands it has not committed discarded, remote failures that stand apply (R146,
R159, R167), and the descriptor finishes. -/
def State.leaveProgram (s : State) (f t : Nat) (p : Program) : State :=
  match s.thread? f t with
  | none => s
  | some th =>
    let s := s.releaseTile f p
    let s := s.setThread f t { th with prog := none, wait := .no }
    let s := p.failing.foldl (fun s (x : Nat × Nat × Status) => s.meet p.item x.2.2) s
    (s.dropBands f p.item).finish p.item

/-- A program stops with a status: its pending bands are discarded (R150, R167). -/
def State.stopProgram (s : State) (f t : Nat) (st : Status) : State :=
  match s.thread? f t with
  | none => s
  | some th =>
    match th.prog with
    | none => s
    | some p => ((s.bump Obj.VECTOR_REFUSED_COUNT th.ctx).meet p.item st).leaveProgram f t p

/-- END (R152, R158): every pending band is committed, then the program is over. -/
def State.endProgram (s : State) (f t : Nat) (zeroWork : Bool) : State :=
  match s.thread? f t with
  | none => s
  | some th =>
    match th.prog with
    | none => s
    | some p =>
      let s := s.flushBands f p.item
      let s := if zeroWork then s.meet p.item .okZeroWork else s
      s.leaveProgram f t p

/-- The instruction the program has reached is checked: an address beyond facet memory or a reserved opcode stops it (R150),
and so does an uncorrectable instruction word (DEDUCED, notes/assumptions/15). -/
def State.reach (s : State) (f t : Nat) : State :=
  match s.prog? f t with
  | none => s
  | some p =>
    if facetBytes < p.address + 8 then s.stopProgram f t .failedProtection
    else
      let (g, s) := s.fmRead f p.address 8
      if g.poison then s.stopProgram f t .failedUncorrectable
      else if insnDefined g.num then s else s.stopProgram f t .failedProtection

/-- An instruction has been executed: it counts, and the program goes on at `pc`. -/
def State.goto (s : State) (f t pc : Nat) : State :=
  match s.prog? f t with
  | none => s
  | some p => (s.setProg f t { p with pc := pc, count := p.count + 1 }).reach f t

/-- The thread's next instruction, if it has this opcode, is executed by `act`, which gets its program and word. Any other
command of the kind finds nothing to do (DESIGN CHOICE, notes/assumptions/6). -/
def State.onInsn (s : State) (f t op : Nat) (act : Program → Nat → State → State) : State :=
  match s.fetch f t with
  | some (p, w) => if iOp w = op ∧ insnDefined w = true then act p w s else s
  | none => s

/-- An instruction that goes on to the next; one that has stopped the program leaves it so. -/
def State.insn (s : State) (f t op : Nat) (act : Program → Nat → State → State) : State :=
  s.onInsn f t op (fun p w s => (act p w s).goto f t (p.pc + 1))

/-- A vector instruction: it also counts the cycles it holds the issue slot (R146, R168). -/
def State.vinsn (s : State) (f t op issue : Nat) (act : Program → Nat → State → State) : State :=
  s.insn f t op (fun p w s => act p w (s.bump Obj.VE_ISSUE_CYCLES f issue))

end Sys2Proof.Machine
end

