-- ==== Sys2Proof/Machine/Stream.lean ====
section
/-! DEFINITION. Sys2Proof/Machine/Stream.lean: the stream DMA: COPY, STORE_SPARSE, PREDICT_MASK, the codec, FILL and GATHER
(06_sparsity R170-R193, 08_backward_and_training R237-R241, 13_hbm_and_ecc R363-R367).
(DEDUCED, notes/assumptions/75.)
(DESIGN CHOICE, notes/assumptions/76.) -/

namespace Sys2Proof.Machine

/-! ### The descriptor (06 R178) -/

def sdSrcFmt (d : Nat) : Nat := field d 496 8
def sdDstFmt (d : Nat) : Nat := field d 488 8
def sdBlockCode (d : Nat) : Nat := field d 486 2
def sdBlock (d : Nat) : Nat := 16 * 2 ^ sdBlockCode d
def sdForm (d : Nat) : Nat := field d 483 3
def sdClassG (d : Nat) : Bool := bit d 482
def sdGroup (d : Nat) : Bool := bit d 481
def sdTagged (d : Nat) : Bool := bit d 480
def sdDyn (d : Nat) : Bool := bit d 479
def sdM (d : Nat) : Nat := field d 452 20 + 1
def sdK (d : Nat) : Nat := field d 432 20 + 1
def sdLength (d : Nat) : Nat := field d 432 40 + 1
def sdSrc (d : Nat) : Nat := field d 392 40
def sdPitch (d : Nat) : Nat := field d 368 24
def sdData (d : Nat) : Nat := field d 328 40
def sdScale (d : Nat) : Nat := field d 288 40
def sdTag (d : Nat) : Nat := field d 248 40
def sdMeta (d : Nat) : Nat := field d 208 40
def sdAux (d : Nat) : Nat := field d 168 40
def sdCount (d : Nat) : Nat := field d 128 40
def sdSize (d : Nat) : Nat := field d 88 40
def sdRec (d : Nat) : Option Nat := recordOf (field d 53 35)
def sdLayer (d : Nat) : Nat := field d 45 8
def sdReserved (d : Nat) : Bool := field d 472 7 != 0 || field d 0 45 != 0

/-- A descriptor with nothing but these fields (low bit, length). -/
def onlyFields (d : Nat) (l : List (Nat × Nat)) : Bool := l.foldl (fun d (e : Nat × Nat) => putField d e.1 e.2 0) d == 0

/-- A size record is asked for. -/
def sdSized (d : Nat) : Bool := sdSize d != 2 ^ 40 - 1

/-- Row pitches of a dense tensor's data and scale planes (04_matrix_engine R107). -/
def dataPitch (fmt k : Nat) : Nat := alignUp (rowBytes fmt k) 32
def scalePitch (block k : Nat) : Nat := alignUp ((k + block - 1) / block) 32

/-! ### Planes and checks (06 R179) -/

/-- Rows of a plane at a pitch. -/
def rowsPlane (base rows pitch n : Nat) : Plane := ⟨base, (rows - 1) * pitch + n⟩

/-- The count word, where the descriptor has one. -/
def countPlane (d : Nat) : List Plane := if sdDyn d then [⟨sdCount d, 4⟩] else []

/-- The planes of scales and tags of a stored tensor. -/
def sidePlanes (d : Nat) : List Plane :=
  let w := tileWidth (sdDstFmt d) (sdBlock d)
  (if blockScaled (sdDstFmt d) then [rowsPlane (sdScale d) (sdM d) (scalePitch (sdBlock d) (sdK d)) ((sdK d + sdBlock d - 1) / sdBlock d)] else [])
  ++ (if sdTagged d then [⟨sdTag d, (sdM d + 31) / 32 * ((sdK d + w - 1) / w)⟩] else [])

/-- Where a size record goes. -/
def sizePlane (d : Nat) : List Plane := if sdSized d then [⟨sdSize d, 8⟩] else []

/-- Data and metadata planes of a stored tensor in its form (06 R171-R176); the room of R181 for compressed payloads. -/
def formPlanes (d : Nat) : List Plane :=
  let tm := (sdM d + 31) / 32
  let tk := (sdK d + 31) / 32
  let fmt := sdDstFmt d
  match sdForm d with
  | 0 => [rowsPlane (sdData d) (sdM d) (dataPitch fmt (sdK d)) (rowBytes fmt (sdK d))]
  | 1 => [rowsPlane (sdData d) (sdM d) (dataPitch fmt (sdK d / 2)) (rowBytes fmt (sdK d / 2)),
          rowsPlane (sdMeta d) (sdM d) (alignUp ((sdK d + 7) / 8) 32) ((sdK d + 7) / 8)]
  | 2 => [⟨sdData d, tm * tk * denseLen fmt⟩, ⟨sdMeta d, 32 * tm * ((tk + 255) / 256)⟩]
  | _ => [⟨sdData d, tm * tk * denseLen fmt⟩, ⟨sdMeta d, 16 * tm * tk⟩]

/-- Bytes of one source element. -/
def srcSize (fmt : Nat) : Nat := elemBits fmt / 8

/-- Rows and columns of the tensor a codec descriptor saves: TRANSPOSE exchanges them (08 R237). -/
def sdSaved (d m : Nat) : Nat × Nat := if sdGroup d then (sdK d, m) else (m, sdK d)

/-- Bands of a saved tensor (08 R240). -/
def bandCols (k : Nat) : Nat := (k + 255) / 256

/-- The planes a descriptor reads, its count word apart, and those it writes. -/
def streamPlanes (d : Nat) : List Plane × List Plane :=
  let rows := rowsPlane (sdSrc d) (sdM d) (sdPitch d) (sdK d * srcSize (sdSrcFmt d))
  let (sm, sk) := sdSaved d (sdM d)
  match descOpcode d with
  | 0x30 => ([⟨sdSrc d, sdLength d⟩], [⟨sdData d, sdLength d⟩])
  | 0x31 => ([rows],
      formPlanes d ++ sidePlanes d ++ sizePlane d ++ (if sdGroup d then [⟨sdAux d, 4 * sdM d⟩] else []))
  | 0x32 => ([rows], [⟨sdAux d, alignUp ((sdK d + 7) / 8) 32⟩])
  | 0x33 => ([rows],
      (if sdForm d = 0 then
        [⟨sdData d, sm * sk * srcSize (sdSrcFmt d)⟩, ⟨sdMeta d, 16 * ((sm + 31) / 32) * bandCols sk⟩]
      else [rowsPlane (sdData d) sm (dataPitch (sdDstFmt d) sk) (rowBytes (sdDstFmt d) sk),
            rowsPlane (sdScale d) sm (scalePitch (sdBlock d) sk) ((sk + sdBlock d - 1) / sdBlock d)]) ++ sizePlane d)
  | 0x34 => ([⟨sdMeta d, 16 * ((sm + 31) / 32) * bandCols sk⟩],
      [rowsPlane (sdData d) sm (sdPitch d) (sk * srcSize (sdSrcFmt d))])
  | 0x35 => ([], [⟨sdData d, sdLength d⟩])
  | _ => ([⟨sdMeta d, 4 * sdM d⟩, rowsPlane (sdSrc d) (sdK d) (sdPitch d) (4 * 2 ^ sdBlockCode d)],
      [⟨sdData d, sdM d * (4 * 2 ^ sdBlockCode d)⟩])

/-- A plane lies in the context's memory: its region, or the facet aperture (13 R356, 05 R141). -/
def State.planeInside (s : State) (c : Nat) (p : Plane) : Bool :=
  p.len == 0 || (if apertureBase ≤ p.lo then decide (p.lo + p.len ≤ apertureEnd) else s.inRegion c p.lo p.len)

/-- Check 0x04 (06 R179). A SRC_PITCH that is no multiple of 4 fails it too (DEDUCED, notes/assumptions/20). -/
def State.planesFail (s : State) (c d : Nat) : Bool :=
  let (ins, outs) := streamPlanes d
  !((ins ++ countPlane d ++ outs).all (s.planeInside c)) || outs.any (fun o => ins.any o.meets)
    || (descOpcode d != 0x30 && descOpcode d != 0x35 && descOpcode d != 0x36 && sdPitch d % 4 != 0)
    || (descOpcode d == 0x31 && (match sdRec d with | some o => !(s.inRegion c o 96) | none => false))

/-- A source format (06 R178). -/
def srcFmtOk (f : Nat) : Bool := decide (f ≤ 2)

/-- The combinations that ACT_SAVE and ACT_RESTORE accept (08 R237, R238, R241). -/
def codecOk (d : Nat) : Bool :=
  if descOpcode d = 0x34 then srcFmtOk (sdSrcFmt d) && sdForm d == 0
  else
    srcFmtOk (sdSrcFmt d) && sdLayer d == 0 && sdAux d == 0 && !(sdTagged d) &&
      (match sdForm d with
       | 0 => sdDstFmt d == sdSrcFmt d
       | 1 => decide (3 ≤ sdDstFmt d) && decide (sdDstFmt d ≤ 6) && !(sdClassG d) && (sdRec d).isNone
       | 2 => sdDstFmt d == 7 && !(sdClassG d) && (sdRec d).isNone
       | _ => false)

/-- The field rules of GATHER (13 R363). -/
def gatherOk (d : Nat) : Bool :=
  onlyFields d ([(504, 8), (486, 2), (479, 1), (432, 40), (392, 40), (368, 24), (328, 40), (208, 40), (45, 8)] ++ (if sdDyn d then [(128, 40)] else []))
    && sdBlockCode d != 3 && sdSrc d % 32 == 0 && sdPitch d % (4 * 2 ^ sdBlockCode d) == 0
    && decide (sdSrc d < apertureBase)

/-- The rules of FILL (13 R366). -/
def fillOk (d : Nat) : Bool :=
  onlyFields d [(504, 8), (432, 40), (392, 32), (328, 40)] && sdLength d % 32 == 0 && sdData d % 32 == 0

/-- The checks of R179 but 0x05, in table order; 0 when none fails. -/
def State.streamCheck (s : State) (c d : Nat) : Nat :=
  let op := descOpcode d
  if sdReserved d then 0x01
  else if (op = 0x31 ∧ (srcFmtOk (sdSrcFmt d) = false ∨ sdDstFmt d = 0 ∨ 8 < sdDstFmt d)) ∨ (op = 0x32 ∧ sdSrcFmt d ≠ 0) then 0x02
  else if 4 < sdForm d ∨ (op = 0x31 ∧ ((sdForm d = 1 ∧ sdK d % 4 ≠ 0) ∨ (sdGroup d = true ∧ (sdForm d = 1 ∨ sdForm d = 2)))) then 0x03
  else if s.planesFail c d then 0x04
  else if op = 0x30 ∧ onlyFields d [(504, 8), (479, 1), (432, 40), (392, 40), (328, 40), (128, 40)] = false then 0x06
  else if (op = 0x33 ∨ op = 0x34) ∧ codecOk d = false then 0x07
  else if op = 0x36 ∧ gatherOk d = false then 0x08
  else if op = 0x35 ∧ fillOk d = false then 0x09
  else 0

/-- A descriptor is refused (06 R179). -/
def State.refuseStream (s : State) (n c code : Nat) : State := (s.bump Obj.SPARSE_REFUSED_COUNT c).refuse n 6 code

/-! ### Reading and writing the context's memory -/

/-- Bytes read for item `n`, which meets what the access meets (06 R197). -/
def State.sRead (s : State) (n c o len : Nat) : Bytes × State :=
  let (g, s) := s.ctxRead c o len 6
  (g.bytes, match g.status with | .ok => s | st => s.meet n st)

/-- Bytes written for item `n`. -/
def State.sWrite (s : State) (n c o : Nat) (b : Bytes) : State :=
  match s.ctxWrite c o b (some n) with
  | (.done, s) => s
  | (p, s) => s.meet n p.status

/-- A byte that cannot be read, or lies in an uncorrectable sector or word; asked after the read that found it so. -/
def State.byteBad (s : State) (c o : Nat) : Bool :=
  if apertureBase ≤ o then
    !(decide (o < apertureEnd) && s.facetServes ((o - apertureBase) / facetBytes) c) || s.fm.poison.contains ((o - apertureBase) / 8)
  else !(s.inRegion c o 1 && s.keyed c) || s.hbm.poison.contains (s.phys c o / 32) || s.pageRetired (s.phys c o)

/-- Some of `n` bytes from `o` are bad. -/
def State.anyBad (s : State) (c o n : Nat) : Bool := (List.range n).any (fun i => s.byteBad c (o + i))

/-- The sector, or the facet-memory word, of a destination byte is written poisoned (06 R197, 13 R359, 05 R139). -/
def State.markByte (s : State) (c o : Nat) : State :=
  if apertureBase ≤ o then
    if o < apertureEnd ∧ s.facetServes ((o - apertureBase) / facetBytes) c = true then
      (s.setFm { s.fm with poison := nsInsert s.fm.poison ((o - apertureBase) / 8) })
    else s
  else if (s.inRegion c o 1 && s.keyed c) && !(s.pageRetired (s.phys c o)) then
    let k := s.phys c o / 32
    (s.setHbm { s.hbm with mem := s.hbm.mem.drop (k * 32) (k * 32 + 32), poison := nsInsert s.hbm.poison k,
                           flips := terase s.hbm.flips k, merge := s.hbm.merge.filter (fun e => e.sector != k) })
  else s

/-- The destination bytes at these offsets are marked. -/
def State.markBytes (s : State) (c : Nat) : List Nat → State
  | [] => s
  | o :: os => (s.markByte c o).markBytes c os

/-- The dynamic count: min(U32, field value); an uncorrectable one counts as the field value and spoils everything (06 R197). -/
def State.streamCount (s : State) (n c d limit : Nat) : (Nat × Bool) × State :=
  if sdDyn d then
    let (b, s) := s.sRead n c (sdCount d) 4
    if s.anyBad c (sdCount d) 4 then ((limit, true), s) else ((min (ofLE b) limit, false), s)
  else ((limit, false), s)

/-- One row of source patterns; elements from uncorrectable words are the format's NaN (06 R197). -/
def State.srcRow (s : State) (n c fmt base k : Nat) : List Nat × State :=
  let e := srcSize fmt
  let (b, s) := s.sRead n c base (k * e)
  ((List.range k).map (fun i => if s.anyBad c (base + i * e) e then nanCode fmt else elemAt fmt b i), s)

/-- Source rows one after another. -/
def State.srcRows (s : State) (n c d : Nat) : List Nat → List (List Nat) × State
  | [] => ([], s)
  | r :: rs =>
    let x := s.srcRow n c (sdSrcFmt d) (sdSrc d + r * sdPitch d) (sdK d)
    let y := x.2.srcRows n c d rs
    (x.1 :: y.1, y.2)

/-- The source of a descriptor: patterns of `m` rows, all NaN when the count was uncorrectable. -/
def State.source (s : State) (n c d m : Nat) (spoiled : Bool) : List (List Nat) × State :=
  let (rows, s) := s.srcRows n c d (List.range m)
  (if spoiled then rows.map (fun r => r.map (fun _ => nanCode (sdSrcFmt d))) else rows, s)

/-! ### COPY, FILL and GATHER -/

/-- Bytes moved without conversion; poison moves with them (06 R184, R197). -/
def State.copyBytes (s : State) (n c src dst len : Nat) (spoiled : Bool) : State :=
  let (b, s) := s.sRead n c src len
  let bad := (List.range len).filter (fun i => spoiled || s.byteBad c (src + i))
  (s.sWrite n c dst b).markBytes c (bad.map (fun i => dst + i))

/-- A COPY runs. -/
def State.runCopy (s : State) (n : Nat) (it : Item) : State :=
  let ((len, bad), s) := s.streamCount n it.ctx it.desc (sdLength it.desc)
  if len = 0 then s.meet n .okZeroWork else s.copyBytes n it.ctx (sdSrc it.desc) (sdData it.desc) len bad

/-- The units of HBM that a fill covers wholly are marked written (13 R367). -/
def State.coverUnits (s : State) (c o len : Nat) : State :=
  if apertureBase ≤ o then s
  else
    let p := s.phys c o
    (range2 ((p + unitBytes - 1) / unitBytes) ((p + len) / unitBytes)).foldl
      (fun s u => (s.setHbm { s.hbm with written := nsInsert s.hbm.written u })) s

/-- A FILL runs (13 R366). -/
def State.runFill (s : State) (n : Nat) (it : Item) : State :=
  let w := leBytes 4 (field it.desc 392 32)
  let len := sdLength it.desc
  (s.sWrite n it.ctx (sdData it.desc) ((List.replicate (len / 4) w).flatten)).coverUnits it.ctx (sdData it.desc) len

/-- One entry of a GATHER's index list: where its element lies in the table, none for one whose bytes are zero, and whether they are marked
(13 R363, 06 R197). -/
def State.gatherIndex (s : State) (n c d i : Nat) : (Option Nat × Bool) × State :=
  let a := sdMeta d + 4 * i
  let (b, s) := s.sRead n c a 4
  if s.anyBad c a 4 then ((none, true), s)
  else if sdK d ≤ ofLE b then ((none, false), s.meet n .failedProtection)
  else ((some (sdSrc d + ofLE b * sdPitch d), false), s)

/-- Entries of the index list one after another. -/
def State.gatherIndexes (s : State) (n c d : Nat) : List Nat → List (Option Nat × Bool) × State
  | [] => ([], s)
  | i :: is =>
    let x := s.gatherIndex n c d i
    let y := x.2.gatherIndexes n c d is
    (x.1 :: y.1, y.2)

/-- The sectors, at 32-byte offsets of the context's space, that the elements of a window touch, each once (13 R364). -/
def windowSectors (size : Nat) (l : List (Option Nat × Bool)) : List Nat :=
  l.foldl (fun a e => match e.1 with
    | some o => (range2 (o / 32) ((o + size - 1) / 32 + 1)).foldl nsInsert a
    | none => a) []

/-- A window of at most 4,096 elements is gathered: its sectors are read once each, then the elements are taken from them in index-list
order (13 R364). Sectors that lie past the context's region in part are read up to its end. -/
def State.gatherWindow (s : State) (n c d : Nat) (is : List Nat) : (Bytes × List Bool) × State :=
  let size := 4 * 2 ^ sdBlockCode d
  let (l, s) := s.gatherIndexes n c d is
  let (t, s) := (windowSectors size l).foldl (fun (x : Table Bytes × State) k =>
    let len := min 32 (x.2.regionSize c - 32 * k)
    let y := x.2.sRead n c (32 * k) len
    (tset x.1 k (y.1 ++ List.replicate (32 - len) 0), y.2)) (([] : Table Bytes), s)
  let elem := fun (e : Option Nat × Bool) => match e.1 with
    | some o =>
      let b := (range2 (o / 32) ((o + size - 1) / 32 + 1)).flatMap (fun k => tget (List.replicate 32 0) t k)
      ((b.drop (o % 32)).take size, (List.range size).map (fun j => s.byteBad c (o + j)))
    | none => (List.replicate size 0, List.replicate size e.2)
  (((l.map elem).flatMap (fun e => e.1), (l.map elem).flatMap (fun e => e.2)), s)

/-- The elements of a GATHER in index-list order, window by window. -/
def State.gatherAll (s : State) (n c d : Nat) : List (List Nat) → (Bytes × List Bool) × State
  | [] => (([], []), s)
  | is :: r =>
    let x := s.gatherWindow n c d is
    let y := x.2.gatherAll n c d r
    ((x.1.1 ++ y.1.1, x.1.2 ++ y.1.2), y.2)

/-- A GATHER runs. -/
def State.runGather (s : State) (n : Nat) (it : Item) : State :=
  let d := it.desc
  let ((m, spoiled), s) := s.streamCount n it.ctx d (sdM d)
  if m = 0 then s.meet n .okZeroWork
  else
    let ((b, bad), s) := s.gatherAll n it.ctx d (chunks 4096 m (List.range m))
    (s.sWrite n it.ctx (sdData d) b).markBytes it.ctx
      (((List.range b.length).filter (fun i => spoiled || bad.getD i false)).map (fun i => sdData d + i))

/-! ### Encoding a tensor (06 R180) -/

/-- What every tile of a store shares. -/
structure EncCfg where
  fmt : Nat
  block : Nat
  classG : Bool
  tagged : Bool
  tExp : Int
  /-- The record cannot be used: every element is NaN (03_formats_and_scaling R88). -/
  bad : Bool
  record : Option Nat
  planned : Bool
  /-- The form is a sparse one, whose zeros readers see as +0 (06 R170). -/
  sparse : Bool := false
  deriving DecidableEq, Repr

/-- An encoded tensor: codes and scale bytes by row, tags by band. -/
structure Encoded where
  codes : List (List Nat) := []
  scales : List (List Nat) := []
  tags : List (List Nat) := []
  deriving DecidableEq, Repr

/-- One scale tile encoded and counted (03 R94-R100, R104). The source of a stream store has no tag plane, so that its shift is 0 (06 R178;
DESIGN CHOICE, notes/assumptions/153). -/
def State.encodeTile (s : State) (n c : Nat) (e : EncCfg) (rows : List (List FVal)) : TileOut × State :=
  let vals := rows.map (fun r => chunks e.block r.length (if e.bad then r.map (fun _ => FVal.nan) else r))
  let o := if e.bad then { rows := tileAt e.fmt e.classG 0 0 vals : TileOut }
    else writeTile e.fmt e.classG e.tExp (s.reg Obj.NARROW_RETRY_BINADES c) 0 e.tagged vals
  let s := s.countTile c (if e.bad then none else e.record) e.planned (amaxVal vals.flatten.flatten) o 6
  (o, if o.exhausted then s.exhaust n else s)

/-- The scale tiles of a band from column tile 0 up. -/
def State.encodeTiles (s : State) (n c : Nat) (e : EncCfg) (band : List (List FVal)) : List Nat → List TileOut × State
  | [] => ([], s)
  | j :: js =>
    let w := tileWidth e.fmt e.block
    let x := s.encodeTile n c e (band.map (fun r => (r.drop (j * w)).take w))
    let y := x.2.encodeTiles n c e band js
    (x.1 :: y.1, y.2)

/-- In a sparse form a code that decodes to zero is stored as +0; a dense tensor keeps -0 (06 R170, R180, 03 R99; DEDUCED,
notes/assumptions/21). -/
def EncCfg.store (e : EncCfg) (w : Nat) : Nat := if e.sparse && zeroCode e.fmt w then 0 else w

/-- The bands of a tensor of K columns, encoded in row order. -/
def State.encodeBands (s : State) (n c k : Nat) (e : EncCfg) : List (List (List FVal)) → Encoded × State
  | [] => ({}, s)
  | band :: bs =>
    let w := tileWidth e.fmt e.block
    let (ts, s) := s.encodeTiles n c e band (List.range ((k + w - 1) / w))
    let rowOf := fun (r : Nat) => ts.flatMap (fun t => t.rows.getD r [])
    let (y, s) := s.encodeBands n c k e bs
    ({ codes := (List.range band.length).map (fun r => (rowOf r).flatMap (fun b => b.codes.map e.store)) ++ y.codes
       scales := (List.range band.length).map (fun r => (rowOf r).map (fun b => b.scale)) ++ y.scales
       tags := ts.map (fun t => t.shift) :: y.tags }, s)

/-- Rows cut into bands of 32. -/
def State.encode (s : State) (n c k : Nat) (e : EncCfg) (rows : List (List FVal)) : Encoded × State :=
  s.encodeBands n c k e (chunks 32 rows.length rows)

/-! ### Row order and 2:4 pruning (06 R182, R183) -/

/-- Nonzero codes of a row encoded alone: class A, at T_EXP, no retry. -/
def groupingCount (e : EncCfg) (row : List FVal) : Nat :=
  match tileAt e.fmt false e.tExp 0 [chunks e.block row.length row] with
  | r :: _ => (r.flatMap (fun b => b.codes.filter (fun w => !(zeroCode e.fmt w)))).length
  | [] => 0

/-- Source rows by grouping count, higher first, ties to the lower row. -/
def groupOrder (counts : List Nat) : List Nat :=
  sortBy (fun a b => decide (counts.getD b 0 ≤ counts.getD a 0)) (List.range counts.length)

/-- |a| < |b|, a NaN above every number. -/
def magLt (a b : FVal) : Bool := if b.isNan then !a.isNan else if a.isNan then false else a.abs.lt b.abs

/-- The two kept positions of a group of four, the first below the second. -/
def keptOf (g : List FVal) : List Nat :=
  (List.range 4).filter (fun p =>
    ((List.range 4).filter (fun q =>
      let x := g.getD p (.fin false 0 0)
      let y := g.getD q (.fin false 0 0)
      magLt x y || (decide (q < p) && !(magLt y x)))).length < 2)

/-- A nonzero value. -/
def FVal.nonzero : FVal → Bool
  | .fin _ m _ => m != 0
  | _ => true

/-- A row pruned: dropped elements are +0. -/
def pruneRow (row : List FVal) : List FVal :=
  (chunks 4 row.length row).flatMap (fun g => (List.range g.length).map (fun p => if (keptOf g).contains p then g.getD p (.fin false 0 0) else .fin false 0 0))

/-- How many nonzero elements a row loses. -/
def pruneCount (row : List FVal) : Nat := ((List.zip row (pruneRow row)).filter (fun e => e.1.nonzero && !e.2.nonzero)).length

/-- The kept positions of a row's groups. -/
def keptRow (row : List FVal) : List (List Nat) := (chunks 4 row.length row).map keptOf

/-! ### Payloads (06 R171-R175) -/

/-- The nonzero codes of tile (i, j). -/
def tileCodes (fmt : Nat) (codes : List (List Nat)) (i j : Nat) : TileMap :=
  (List.range 1024).filterMap (fun p =>
    let w := (codes.getD (32 * i + p / 32) []).getD (32 * j + p % 32) 0
    if zeroCode fmt w then none else some (p, w))

/-- A tile's 32 rows of 32 elements, packed (06 R174). -/
def densePayload (fmt : Nat) (t : TileMap) : Bytes :=
  (List.range 32).flatMap (fun r => packRow fmt ((List.range 32).map (fun k => tget 0 t (32 * r + k))))

/-- Values packed as one array. -/
def packValues (fmt : Nat) (l : List Nat) : Bytes :=
  let w := elemBits fmt
  leBytes (packedBytes fmt l.length) (l.reverse.foldl (fun a x => a * 2 ^ w + x % 2 ^ w) 0)

/-- A BITMAP32 payload (06 R172). -/
def bitmapPayload (fmt : Nat) (t : TileMap) : Bytes :=
  let rows := (List.range 32).map (fun r => t.filter (fun e => e.1 / 32 == r))
  let n := fun (r : Nat) => (rows.getD r []).length
  let plan := (List.range 32).foldl (fun a r => a + place ((n r * elemBits fmt + 127) / 128) (4 * r) 4) 0
  let off := fun (r : Nat) => (List.range r).foldl (fun a q => a + n q) 0
  leBytes 16 plan
    ++ (List.range 32).flatMap (fun r =>
        leBytes 8 (place (bitsWord ((tkeys (rows.getD r [])).map (fun p => p % 32))) 32 32 + place (off r) 16 16 + place (n r) 8 8))
    ++ packValues fmt (tvals t)

/-- An INDEX_LIST payload (06 R173). -/
def indexPayload (fmt : Nat) (t : TileMap) : Bytes := (tkeys t).flatMap (leBytes 2) ++ packValues fmt (tvals t)

/-- A tile's form, payload: the store's form, or DENSE where that would be shorter than the payload (06 R181). -/
def tilePayload (fmt form : Nat) (t : TileMap) : Nat × Bytes :=
  if t.isEmpty then (form - 2, [])
  else
    let b := if form = 3 then bitmapPayload fmt t else indexPayload fmt t
    if denseLen fmt < b.length then (0, densePayload fmt t) else (form - 2, b)

/-- A directory entry (06 R171). -/
def dirEntry (form off len : Nat) (t : TileMap) : Nat :=
  place form 126 2 + place t.length 115 11 + place len 103 12 + place off 71 32 + place (TileMap.rowBits t) 39 32 + place (TileMap.colBits t) 7 32

/-- Progress of a compressed store: bytes of the data plane used, tiles written DENSE. -/
structure Packed where
  used : Nat := 0
  dense : Nat := 0
  deriving DecidableEq, Repr

/-- One tile stored with its directory entry (06 R180, R181). -/
def State.storeTile (s : State) (n c d : Nat) (codes : List (List Nat)) (tk : Nat) (p : Packed) (t : Nat) : Packed × State :=
  let m := tileCodes (sdDstFmt d) codes (t / tk) (t % tk)
  let (form, b) := tilePayload (sdDstFmt d) (sdForm d) m
  let s := if b.isEmpty then s else s.sWrite n c (sdData d + p.used) b
  let s := s.sWrite n c (sdMeta d + 16 * t) (leBytes 16 (dirEntry form p.used b.length m))
  let fell := decide (form = 0)
  ({ used := p.used + b.length, dense := p.dense + ofBool fell }, if fell then s.bump Obj.SPARSE_FALLBACK_COUNT c else s)

/-- Tiles stored in row-major order. -/
def State.storeTiles (s : State) (n c d : Nat) (codes : List (List Nat)) (tk : Nat) (p : Packed) : List Nat → Packed × State
  | [] => (p, s)
  | t :: ts =>
    let x := s.storeTile n c d codes tk p t
    x.2.storeTiles n c d codes tk x.1 ts

/-- Rows written at a pitch. -/
def State.writeRows (s : State) (n c base pitch : Nat) : Nat → List Bytes → State
  | _, [] => s
  | r, b :: bs => (s.sWrite n c (base + r * pitch) b).writeRows n c base pitch (r + 1) bs

/-- BLOCK_TILE: present tiles in their slots, and the presence bitmap (06 R175). -/
def State.storeBlockTiles (s : State) (n c d : Nat) (e : Encoded) (tm tk : Nat) : State :=
  let fmt := sdDstFmt d
  let bs := sdBlock d
  let present := fun (t : Nat) =>
    let i := t / tk
    let j := t % tk
    !(tileCodes fmt e.codes i j).isEmpty ||
      (blockScaled fmt && ((range2 (32 * i) (32 * i + 32)).any (fun r =>
        (range2 (32 * j / bs) ((32 * j + 32 + bs - 1) / bs)).any (fun b => (e.scales.getD r []).getD b 0 == 0xFF))))
  let s := ((List.range (tm * tk)).filter present).foldl (fun s t =>
    s.sWrite n c (sdData d + t * denseLen fmt) (densePayload fmt (tileCodes fmt e.codes (t / tk) (t % tk)))) s
  s.writeRows n c (sdMeta d) (32 * ((tk + 255) / 256)) 0
    ((List.range tm).map (fun i => leBytes ((tk + 7) / 8) (bitsWord ((List.range tk).filter (fun j => present (i * tk + j))))))

/-- The data and metadata planes of a store in its form; the answer is the size record without saturation (06 R180, R181). -/
def State.storeData (s : State) (n c d m : Nat) (e : Encoded) (kept : List (List (List Nat))) : Packed × State :=
  let fmt := sdDstFmt d
  let k := sdK d
  let tm := (m + 31) / 32
  let tk := (k + 31) / 32
  match sdForm d with
  | 0 => ({ used := m * dataPitch fmt k }, s.writeRows n c (sdData d) (dataPitch fmt k) 0 (e.codes.map (packRow fmt)))
  | 1 =>
    let keptCodes := List.zipWith (fun (row : List Nat) (ks : List (List Nat)) =>
      (List.range ks.length).flatMap (fun g => (ks.getD g []).map (fun p => row.getD (4 * g + p) 0))) e.codes kept
    let nib := fun (p : List Nat) => p.getD 0 0 + 4 * p.getD 1 0
    let metaRow := fun (ks : List (List Nat)) =>
      (List.range ((k + 7) / 8)).map (fun i => BitVec.ofNat 8 (nib (ks.getD (2 * i) []) + 16 * nib (ks.getD (2 * i + 1) [])))
    let s := s.writeRows n c (sdData d) (dataPitch fmt (k / 2)) 0 (keptCodes.map (packRow fmt))
    ({ used := m * dataPitch fmt (k / 2) }, s.writeRows n c (sdMeta d) (alignUp ((k + 7) / 8) 32) 0 (kept.map metaRow))
  | 2 => ({ used := tm * tk * denseLen fmt }, s.storeBlockTiles n c d e tm tk)
  | _ => s.storeTiles n c d e.codes tk {} (List.range (tm * tk))

/-- Scale and tag planes of a store. -/
def State.storeSides (s : State) (n c d : Nat) (e : Encoded) : State :=
  let fmt := sdDstFmt d
  let s := if blockScaled fmt then
      s.writeRows n c (sdScale d) (scalePitch (sdBlock d) (sdK d)) 0 (e.scales.map (fun r => r.map (BitVec.ofNat 8)))
    else s
  if sdTagged d then
    let w := tileWidth fmt (sdBlock d)
    s.writeRows n c (sdTag d) ((sdK d + w - 1) / w) 0 (e.tags.map (fun r => r.map (BitVec.ofNat 8)))
  else s

/-- The size record (06 R181). -/
def State.writeSize (s : State) (n c d : Nat) (p : Packed) : State :=
  if sdSized d then s.sWrite n c (sdSize d) (leBytes 8 (min p.used (2 ^ 32 - 1) + place p.dense 32 32)) else s

/-- A STORE_SPARSE runs over its source rows (06 R180). -/
def State.runStore (s : State) (n : Nat) (it : Item) : State :=
  let d := it.desc
  let c := it.ctx
  let ((m, spoiled), s) := s.streamCount n c d (sdM d)
  if m = 0 then (s.writeSize n c d {}).meet n .okZeroWork
  else
    let (outer, s) := if it.isPlanned then s.beginWrite c (sdRec d) it.step 6 else s.outerOf c (sdRec d) 6
    let s := if outer.bad then s.meet n .failedUncorrectable else s
    let e : EncCfg := { fmt := sdDstFmt d, block := sdBlock d, classG := sdClassG d, tagged := sdTagged d, tExp := outer.tExp,
                        bad := outer.bad, record := sdRec d, planned := it.isPlanned, sparse := sdForm d != 0 }
    let (codes, s) := s.source n c d m spoiled
    let vals := codes.map (fun r => r.map (elemValue (sdSrcFmt d)))
    let vals := if outer.bad then vals.map (fun r => r.map (fun _ => FVal.nan)) else vals
    let order := if sdGroup d then groupOrder (vals.map (groupingCount e)) else List.range m
    let vals := order.map (fun r => vals.getD r [])
    let kept := if sdForm d = 1 then vals.map keptRow else []
    let s := if sdForm d = 1 then s.bump Obj.PRUNE_COUNT c (vals.foldl (fun a r => a + pruneCount r) 0) else s
    let (enc, s) := s.encode n c (sdK d) e (if sdForm d = 1 then vals.map pruneRow else vals)
    let (p, s) := s.storeData n c d m enc kept
    let s := s.storeSides n c d enc
    let s := if sdGroup d then s.sWrite n c (sdAux d) (order.flatMap (leBytes 4)) else s
    s.writeSize n c d p

/-! ### PREDICT_MASK (06 R191) -/

/-- Neuron j is computed: the predictor is off for the layer, or some row lies above the bound or is NaN. -/
def neuronKept (off : Bool) (bound : FVal) (rows : List (List Nat)) (j : Nat) : Bool :=
  off || rows.any (fun r => let x := f32 (r.getD j 0); x.isNan || bound.lt x)

/-- A PREDICT_MASK runs. -/
def State.runPredict (s : State) (n : Nat) (it : Item) : State :=
  let d := it.desc
  let c := it.ctx
  let ((m, spoiled), s) := s.streamCount n c d (sdM d)
  let k := sdK d
  if m = 0 then (s.sWrite n c (sdAux d) (List.replicate (alignUp ((k + 7) / 8) 32) 0)).meet n .okZeroWork
  else
    let (rows, s) := s.source n c d m spoiled
    let off := !(bit (s.regF Obj.PREDICTOR_ENABLE c (sdLayer d / 8)) (sdLayer d % 8))
    let bound := (f32 (s.layerF32 Obj.PREDICTOR_THRESHOLD c (sdLayer d))).sub (f32 (s.layerF32 Obj.PREDICTOR_GUARD c (sdLayer d)))
    s.sWrite n c (sdAux d) (leBytes (alignUp ((k + 7) / 8) 32) (bitsWord ((List.range k).filter (neuronKept off bound rows))))

/-! ### The codec (08 R237-R241) -/

/-- Rows and columns exchanged. -/
def transposeRows (k : Nat) (rows : List (List Nat)) : List (List Nat) := (List.range k).map (fun j => rows.map (fun r => r.getD j 0))

/-- One row of a band: its code and stored bytes (08 R240). -/
def codeRow (e : Nat) (row : List Nat) : Nat × Bytes :=
  let nz := (List.range 256).filter (fun i => row.getD i 0 != 0)
  if nz.isEmpty then (0, [])
  else if 32 + nz.length * e < 256 * e then (1, leBytes 32 (bitsWord nz) ++ nz.flatMap (fun i => leBytes e (row.getD i 0)))
  else (2, (List.range 256).flatMap (fun i => leBytes e (row.getD i 0)))

/-- A band's directory entry and payload at an offset. -/
def codeBand (e off : Nat) (rows : List (List Nat)) : Nat × Bytes :=
  let rs := (List.range 32).map (fun r => codeRow e (rows.getD r []))
  let b := rs.flatMap (fun x => x.2)
  ((List.range 32).foldl (fun a r => a + place ((rs.getD r (0, [])).1) (64 + 2 * r) 2) 0 + place off 24 40 + place b.length 0 24, b)

/-- Bands saved in order from offset 0; the answer is the bytes used. -/
def State.saveBands (s : State) (n c d : Nat) (e k : Nat) (rows : List (List Nat)) (used : Nat) : List Nat → Nat × State
  | [] => (used, s)
  | t :: ts =>
    let i := t / bandCols k
    let j := t % bandCols k
    let (w, b) := codeBand e used ((range2 (32 * i) (32 * i + 32)).map (fun r => ((rows.getD r []).drop (256 * j)).take 256))
    let s := if b.isEmpty then s else s.sWrite n c (sdData d + used) b
    let s := s.sWrite n c (sdMeta d + 16 * t) (leBytes 16 w)
    s.saveBands n c d e k rows (used + b.length) ts

/-- An ACT_SAVE runs. -/
def State.runSave (s : State) (n : Nat) (it : Item) : State :=
  let d := it.desc
  let c := it.ctx
  let e := srcSize (sdSrcFmt d)
  let ((m, spoiled), s) := s.streamCount n c d (sdM d)
  if m = 0 then s.meet n .okZeroWork
  else
    let (rows, s) := s.source n c d m spoiled
    let s := s.bump Obj.CODEC_IN_BYTES c (m * sdK d * e)
    let rows := if sdGroup d then transposeRows (sdK d) rows else rows
    let (sm, sk) := sdSaved d m
    if sdForm d = 0 then
      let (used, s) := s.saveBands n c d e sk rows 0 (List.range ((sm + 31) / 32 * bandCols sk))
      (s.bump Obj.CODEC_OUT_BYTES c used).writeSize n c d { used := used }
    else
      let fmt := sdDstFmt d
      let cfg : EncCfg := { fmt := fmt, block := sdBlock d, classG := false, tagged := false, tExp := 0, bad := false, record := none, planned := it.isPlanned }
      let (x, s) := s.encode n c sk cfg (rows.map (fun r => r.map (elemValue (sdSrcFmt d))))
      let s := s.writeRows n c (sdData d) (dataPitch fmt sk) 0 (x.codes.map (packRow fmt))
      let s := s.writeRows n c (sdScale d) (scalePitch (sdBlock d) sk) 0 (x.scales.map (fun r => r.map (BitVec.ofNat 8)))
      let s := s.bump Obj.CODEC_OUT_BYTES c (sm * (rowBytes fmt sk + (sk + sdBlock d - 1) / sdBlock d))
      s.writeSize n c d { used := sm * dataPitch fmt sk }

/-- Rows of a band read back: 256 patterns each with whether it is bad; malformed when the row codes and LENGTH disagree. -/
structure BandBack where
  rows : List (List (Nat × Bool)) := []
  malformed : Bool := false
  deriving DecidableEq, Repr

/-- `n` elements of e bytes from payload bytes. -/
def takeElems (e n : Nat) (l : List (Byte × Bool)) : List (Nat × Bool) :=
  (List.range n).map (fun i =>
    let x := (l.drop (i * e)).take e
    (ofLE (x.map (fun b => b.1)), x.any (fun b => b.2)))

/-- Rows decoded one after another from a payload; after a bitmap that is bad the rest of the band is bad. -/
def backRows (e : Nat) : List Nat → List (Byte × Bool) → BandBack
  | [], l => { malformed := !l.isEmpty }
  | 0 :: cs, l => let x := backRows e cs l; { x with rows := List.replicate 256 (0, false) :: x.rows }
  | 1 :: cs, l =>
    if l.length < 32 then { malformed := true }
    else if (l.take 32).any (fun b => b.2) then { rows := List.replicate (cs.length + 1) (List.replicate 256 (0, true)) }
    else
      let nz := bitsOf 256 (ofLE ((l.take 32).map (fun b => b.1)))
      let rest := l.drop 32
      if rest.length < nz.length * e then { malformed := true }
      else
        let vals := takeElems e nz.length rest
        let x := backRows e cs (rest.drop (nz.length * e))
        { x with rows := (List.range 256).map (fun i => if nz.contains i then vals.getD (nz.findIdx (· == i)) (0, false) else (0, false)) :: x.rows }
  | 2 :: cs, l =>
    if l.length < 256 * e then { malformed := true }
    else let x := backRows e cs (l.drop (256 * e)); { x with rows := takeElems e 256 l :: x.rows }
  | _ :: _, _ => { malformed := true }

/-- One band read through its directory entry (08 R241). -/
def State.readBack (s : State) (n c d e t : Nat) : BandBack × State :=
  let a := sdMeta d + 16 * t
  let (g, s) := s.sRead n c a 16
  let all := fun (x : Nat × Bool) => List.replicate 32 (List.replicate 256 x)
  if s.anyBad c a 16 then ({ rows := all (0, true) }, s)
  else
    let w := ofLE g
    let o := sdSrc d + field w 24 40
    let len := field w 0 24
    let codes := (List.range 32).map (fun r => field w (64 + 2 * r) 2)
    let nan : BandBack := { rows := all (nanCode (sdSrcFmt d), false), malformed := true }
    if codes.contains 3 || decide (32768 < len) || !(s.planeInside c ⟨o, len⟩) then (nan, s)
    else
      let (b, s) := s.sRead n c o len
      let x := backRows e codes (List.zip b ((List.range len).map (fun i => s.byteBad c (o + i))))
      (if x.malformed then nan else x, s)

/-- One band restored: rows below M, columns below K; bad elements mark their destination (06 R197). -/
def State.restoreBand (s : State) (n : Nat) (it : Item) (spoiled : Bool) (sm sk t : Nat) : State :=
  let d := it.desc
  let c := it.ctx
  let e := srcSize (sdSrcFmt d)
  let i := t / bandCols sk
  let j := t % bandCols sk
  let (x, s) := s.readBack n c d e t
  let s := if x.malformed then
      ((s.bump Obj.SPARSE_MALFORMED_COUNT c).meet n .failedProtection).log!
        { code := 0x021, sub := 6, ctx := c, slot := it.slot, status := Status.failedProtection.code,
          info0 := place i 32 32 + j, info1 := it.pos }
    else s
  let cols := min 256 (sk - 256 * j)
  (List.range (min 32 (sm - 32 * i))).foldl (fun s r =>
    let row := (x.rows.getD r []).take cols
    let o := sdData d + (32 * i + r) * sdPitch d + 256 * j * e
    let s := (s.sWrite n c o (row.flatMap (fun v => leBytes e v.1))).bump Obj.CODEC_RESTORE_BYTES c (cols * e)
    s.markBytes c (((List.range (cols * e)).filter (fun b => spoiled || (row.getD (b / e) (0, false)).2)).map (fun b => o + b))) s

/-- An ACT_RESTORE runs. -/
def State.runRestore (s : State) (n : Nat) (it : Item) : State :=
  let d := it.desc
  let ((m, spoiled), s) := s.streamCount n it.ctx d (sdM d)
  if m = 0 then s.meet n .okZeroWork
  else
    let (sm, sk) := sdSaved d m
    (List.range ((sm + 31) / 32 * bandCols sk)).foldl (fun s t => s.restoreBand n it spoiled sm sk t) s

/-! ### The commands -/

/-- The record that a STORE_SPARSE names has another format (06 R179 check 0x05). An uncorrectable one is judged later. -/
def State.recordDiffers (s : State) (c d : Nat) : Bool × State :=
  match sdRec d with
  | none => (false, s)
  | some o =>
    match s.readRecord c o 6 with
    | (some w, s) => (srFormat w != sdDstFmt d, s)
    | (none, s) => (false, s)

/-- The planes that hold what a descriptor writes before its size record. -/
def dataPlanes (d : Nat) : List Plane := (streamPlanes d).2.filter (fun p => !((sizePlane d).contains p))

/-- What a descriptor has written so far: of the state `done` in which it has ended, the bytes of the ranges that lie in its planes, with
their poison (06 R197; DESIGN CHOICE, notes/assumptions/76). -/
def State.writtenSoFar (s done : State) (n : Nat) (it : Item) (l : List (Nat × Nat)) : State :=
  l.foldl (fun s (e : Nat × Nat) =>
    if (dataPlanes it.desc).any (fun p => decide (p.lo ≤ e.1) && decide (e.1 + e.2 ≤ p.lo + p.len)) then
      let g := done.ctxRead it.ctx e.1 e.2 6
      (s.sWrite n it.ctx e.1 g.1.bytes).markBytes it.ctx (((List.range e.2).filter (fun i => g.2.byteBad it.ctx (e.1 + i))).map (fun i => e.1 + i))
    else s) s

/-- A stream DMA descriptor is checked, then run to its end (06 R179, R197). With a part it does not end: it runs on, having written those
ranges of its planes. -/
def State.stream (s : State) (n : Nat) (part : Option (List (Nat × Nat))) (op : Nat) (run : State → Nat → Item → State) : State :=
  s.withItem n [op] (fun it s =>
    let code := s.streamCheck it.ctx it.desc
    if code ≠ 0 then s.refuseStream n it.ctx code
    else
      let (differs, s) := if op = 0x31 then s.recordDiffers it.ctx it.desc else (false, s)
      if differs then s.refuseStream n it.ctx 0x05
      else match part with
        | none => (run s n it).finish n
        | some l => s.writtenSoFar (run s n it) n it l)

/-- COPY (06 R184). -/
def execCopy (run : StreamRun) (s : State) : Res := .next (s.stream run.item run.part 0x30 State.runCopy)

/-- STORE_SPARSE (06 R180). -/
def execStoreSparse (run : StreamRun) (s : State) : Res := .next (s.stream run.item run.part 0x31 State.runStore)

/-- PREDICT_MASK (06 R191). -/
def execPredictMask (run : StreamRun) (s : State) : Res := .next (s.stream run.item run.part 0x32 State.runPredict)

/-- ACT_SAVE (08 R237). -/
def execActSave (run : StreamRun) (s : State) : Res := .next (s.stream run.item run.part 0x33 State.runSave)

/-- ACT_RESTORE (08 R241). -/
def execActRestore (run : StreamRun) (s : State) : Res := .next (s.stream run.item run.part 0x34 State.runRestore)

/-- FILL (13 R366). -/
def execFill (run : StreamRun) (s : State) : Res := .next (s.stream run.item run.part 0x35 State.runFill)

/-- GATHER (13 R363). -/
def execGather (run : StreamRun) (s : State) : Res := .next (s.stream run.item run.part 0x36 State.runGather)

end Sys2Proof.Machine
end

