-- ==== Sys2Proof/Machine/Router.lean ====
section
/-! DEFINITION. Sys2Proof/Machine/Router.lean: the expert router's forward operations, cancellation and placement switches
(07_expert_routing R199-R226). -/

namespace Sys2Proof.Machine

/-! ### The descriptor (R200, 08_backward_and_training R229) -/

def rdLayer (d : Nat) : Nat := field d 496 8
def rdMicro (d : Nat) : Nat := field d 490 6
def rdTopK (d : Nat) : Nat := field d 487 3 + 1
def rdSpill (d : Nat) : Nat := field d 485 2
def rdNorm (d : Nat) : Bool := bit d 484
def rdBlockCode (d : Nat) : Nat := field d 482 2
def rdBlock (d : Nat) : Nat := 16 * 2 ^ rdBlockCode d
def rdFmt (d : Nat) : Nat := field d 474 8
def rdHidden (d : Nat) : Nat := field d 460 14 + 1
def rdTokens (d : Nat) : Nat := field d 444 16 + 1
def rdExperts (d : Nat) : Nat := field d 430 14 + 1
def rdFirst (d : Nat) : Nat := field d 421 9
def rdCount (d : Nat) : Nat := field d 412 9 + 1
def rdAddr (d n : Nat) : Nat := field d (360 - 40 * n) 40

/-- How many of the address fields an opcode uses, ADDR_0 up; none for a reserved opcode. -/
def rdUsed (op : Nat) : Option Nat :=
  match op with
  | 0x40 => some 7 | 0x41 => some 2 | 0x42 => some 1 | 0x43 => some 3
  | 0x44 => some 4 | 0x45 => some 1 | 0x46 => some 1 | 0x47 => some 4
  | _ => none

/-- The operation sends (R199, 08 R229): its window is WIN_OUT. -/
def routerSends (op : Nat) : Bool := op == 0x40 || op == 0x42 || op == 0x44 || op == 0x46

/-- A backward operation. -/
def routerBack (op : Nat) : Bool := decide (0x44 ≤ op)

/-! ### Sizes and rows (R207) -/

/-- Scale bytes of a payload. -/
def payScales (fmt block n : Nat) : Nat := if blockScaled fmt then (n + block - 1) / block else 0

/-- SLOT_BYTES: header, payload and scales, padded to 16 bytes. -/
def slotBytes (fmt block n : Nat) : Nat := alignUp (32 + rowBytes fmt n + payScales fmt block n) 16

/-- RET_BYTES: a BF16 row without scales (R208, R214). -/
def retBytes (n : Nat) : Nat := slotBytes 1 16 n

/-- Bytes padded with zeros to a multiple of 16. -/
def pad16 (b : Bytes) : Bytes := b ++ List.replicate (alignUp b.length 16 - b.length) 0

/-- A row of one value as it is stored: its data and its scales. -/
def uniformRow (fmt block n : Nat) (v : FVal) : Bytes × Bytes :=
  let b := narrowBlock fmt false (List.replicate block v)
  (packRow fmt (List.replicate n (b.codes.headD 0)), List.replicate (payScales fmt block n) (BitVec.ofNat 8 b.scale))

/-- A payload whose elements are NaN (R224). -/
def nanBody (fmt block n : Nat) : Bytes := let r := uniformRow fmt block n .nan; r.1 ++ r.2

/-- The header of a token record (R207). -/
structure TokenHeader where
  expert : Nat
  source : Nat
  kind : Nat
  token : Nat := 0
  slot : Nat := 0
  micro : Nat
  layer : Nat
  batch : Nat := 0
  epoch : Nat
  rank : Nat := 0
  spill : Nat := 0
  block : Nat := 0
  fmt : Nat := 0
  len : Nat := 1
  back : Bool := false
  weight : Nat := 0
  step : Nat
  tag : Nat
  deriving DecidableEq, Repr

/-- The 256 bits of a header. -/
def TokenHeader.word (h : TokenHeader) : Nat :=
  place h.expert 232 24 + place h.source 218 14 + place h.kind 216 2 + place h.token 200 16 + place h.slot 184 16
    + place h.micro 178 6 + place h.layer 170 8 + place h.batch 162 8 + place h.epoch 146 16 + place h.rank 143 3
    + place h.spill 141 2 + place h.block 139 2 + place h.fmt 131 8 + place (h.len - 1) 117 14 + place (ofBool h.back) 116 1
    + place h.weight 64 32 + place h.step 48 16 + place h.tag 32 16

/-- The header that 256 bits spell. -/
def headerAt (w : Nat) : TokenHeader :=
  { expert := field w 232 24, source := field w 218 14, kind := field w 216 2, token := field w 200 16, slot := field w 184 16,
    micro := field w 178 6, layer := field w 170 8, batch := field w 162 8, epoch := field w 146 16, rank := field w 143 3,
    spill := field w 141 2, block := field w 139 2, fmt := field w 131 8, len := field w 117 14 + 1, back := bit w 116,
    weight := field w 64 32, step := field w 48 16, tag := field w 32 16 }

/-- A record's bytes. -/
def tokenRecord (h : TokenHeader) (body : Bytes) : Bytes := pad16 (leBytes 32 h.word ++ body)

/-- The header of a record's bytes. -/
def recordHeader (b : Bytes) : TokenHeader := headerAt (ofLE (b.take 32))

/-! ### Table entries -/

/-- An assignment (R212). -/
def aState (w : Nat) : Nat := field w 102 2
def aExpert (w : Nat) : Nat := field w 104 24
def aSpill (w : Nat) : Nat := field w 100 2
def aHost (w : Nat) : Nat := field w 86 14
def aSlot (w : Nat) : Nat := field w 70 16
def aEpoch (w : Nat) : Nat := field w 54 16
def aWeight (w : Nat) : Nat := field w 0 32
def assignWord (expert state spill host slot epoch weight : Nat) : Nat :=
  place expert 104 24 + place state 102 2 + place spill 100 2 + place host 86 14 + place slot 70 16 + place epoch 54 16
    + place weight 0 32

/-- STATE values. -/
def asSent : Nat := 1
def asReturned : Nat := 2
def asLost : Nat := 3

/-- Token flags (R213). -/
def tfExited : Nat := 1
def tfNan : Nat := 2
def tfDropped : Nat := 4
def tfPartial : Nat := 8

/-- An arrival entry (R210). -/
def avSource (w : Nat) : Nat := field w 50 14
def avToken (w : Nat) : Nat := field w 34 16
def avSlot (w : Nat) : Nat := field w 18 16
def avRank (w : Nat) : Nat := field w 15 3
def avSpill (w : Nat) : Nat := field w 13 2
def avBatch (w : Nat) : Nat := field w 5 8
def arrivalWord (h : TokenHeader) : Nat :=
  place h.source 50 14 + place h.token 34 16 + place h.slot 18 16 + place h.rank 15 3 + place h.spill 13 2 + place h.batch 5 8

/-- A local expert entry (R209). -/
def leData (w : Nat) : Nat := field w 472 40
def leScale (w : Nat) : Nat := field w 432 40
def leArrivals (w : Nat) : Nat := field w 392 40
def leCounts (w : Nat) : Nat := field w 352 40
def leOut (w : Nat) : Nat := field w 312 40
def leExpert (w : Nat) : Nat := field w 288 24
def leQuota (w : Nat) : Nat := field w 272 16
def leEpoch (w : Nat) : Nat := field w 256 16
def leDrain (w : Nat) : Bool := bit w 255

/-- A backward local expert entry (08 R230). -/
def beIn (w : Nat) : Nat := field w 472 40
def beScale (w : Nat) : Nat := field w 432 40
def beArrivals (w : Nat) : Nat := field w 392 40
def beCountIn (w : Nat) : Nat := field w 352 40
def beCounts (w : Nat) : Nat := field w 312 40
def beGateIn (w : Nat) : Nat := field w 272 40
def beOut (w : Nat) : Nat := field w 232 40
def beGateGrad (w : Nat) : Nat := field w 192 40
def beExpert (w : Nat) : Nat := field w 168 24
def beQuota (w : Nat) : Nat := field w 152 16
def beEpoch (w : Nat) : Nat := field w 136 16

/-- Expert, quota and epoch of a host's entry for a pass. -/
def heExpert (back : Bool) (w : Nat) : Nat := if back then beExpert w else leExpert w
def heQuota (back : Bool) (w : Nat) : Nat := if back then beQuota w else leQuota w
def heEpoch (back : Bool) (w : Nat) : Nat := if back then beEpoch w else leEpoch w

/-- A placement entry in force for a ROUTE (R201, R220). `takes` is false for a disabled expert and for an entry that could not
be read. -/
structure Placement where
  gid : Nat := 0
  host : Nat := 0
  epoch : Nat := 0
  quota : Nat := 0
  takes : Bool := false
  /-- SWITCH_VALID, and the placement before the switch. -/
  switching : Bool := false
  oldHost : Nat := 0
  oldEpoch : Nat := 0
  /-- A reserved bit is set. -/
  bad : Bool := false
  deriving DecidableEq, Repr

/-- The entry's switch point lies at or before a step and slot (R220). -/
def switched (w step slot : Nat) : Bool :=
  bit w 120 && (decide (field w 88 32 < step) || (field w 88 32 == step && decide (field w 72 16 ≤ slot)))

/-- The placement an entry gives a ROUTE in a step and slot. -/
def placementOf (w step slot : Nat) : Placement :=
  let n := switched w step slot
  { gid := field w 232 24, host := if n then field w 162 14 else field w 218 14,
    epoch := if n then field w 137 16 else field w 193 16, quota := if n then field w 121 16 else field w 177 16,
    takes := !(bit w 176), switching := bit w 120, oldHost := field w 218 14, oldEpoch := field w 193 16,
    bad := field w 0 72 != 0 }

/-! ### Reading and writing for an item -/

/-- Bytes read for an item, and whether they are bad; the item meets what the access meets (R224). -/
def State.rRead (s : State) (n c o len : Nat) : (Bytes × Bool) × State :=
  let (g, s) := s.ctxRead c o len 7
  ((g.bytes, g.poison || g.protection), match g.status with | .ok => s | st => s.meet n st)

/-- The same of a record in a sub-ring, whose buffer is also on chip (13_hbm_and_ecc R360). -/
def State.ringRead (s : State) (n c o len : Nat) : (Bytes × Bool) × State :=
  let ((b, x), s) := s.rRead n c o len
  let (dead, s) := s.bufferRead 4 c o len
  if dead.isEmpty then ((b, x), s) else ((b, true), s.meet n .failedUncorrectable)

/-- The same as a number. -/
def State.rNum (s : State) (n c o len : Nat) : (Nat × Bool) × State :=
  let ((b, x), s) := s.rRead n c o len
  ((ofLE b, x), s)

/-- A payload read from a data plane and a scale plane; NaN elements where either is bad (R224). -/
def State.readPayload (s : State) (n c fmt block hidden data scale : Nat) : Bytes × State :=
  let ((b, x), s) := s.rRead n c data (rowBytes fmt hidden)
  let ((k, y), s) := s.rRead n c scale (payScales fmt block hidden)
  (if x || y then nanBody fmt block hidden else b ++ k, s)

/-- The offsets of a count list: up to 64, ended by all ones (R209). -/
def State.countList (s : State) (n c o : Nat) : Nat → List Nat × State
  | 0 => ([], s)
  | fuel + 1 =>
    let ((v, bad), s) := s.rNum n c o 8
    if bad || v == 2 ^ 64 - 1 then ([], s)
    else
      let r := s.countList n c (o + 8) fuel
      (v :: r.1, r.2)

/-- A count written to every offset of a count list. -/
def State.writeCounts (s : State) (n c o v : Nat) : State :=
  let (l, s) := s.countList n c o 64
  l.foldl (fun s a => s.sWrite n c a (leBytes 4 v)) s

/-- The entries of a host's table, with their local slots; a bad one is left out (DEDUCED, notes/assumptions/22). -/
def State.hostTable (s : State) (n c d : Nat) : List Nat → List (Nat × Nat) × State
  | [] => ([], s)
  | i :: is =>
    let ((w, bad), s) := s.rNum n c (rdAddr d 0 + 64 * i) 64
    let r := s.hostTable n c d is
    (if bad then r.1 else (rdFirst d + i, w) :: r.1, r.2)

/-- The descriptors with an opcode in the router slots that consume a window. -/
def State.consumingDescs (s : State) (c w op : Nat) : List Nat × State :=
  let (l, s) := s.windowDescs c w 3 7
  (l.filter (fun d => descOpcode d == op), s)

/-! ### Pool buffers of the router -/

/-- The offset of a buffer in its context's memory (14_queues_and_pools R392, R393). -/
def State.bufBase (s : State) (c h : Nat) : Nat := prBase (s.poolRec c (hPool h)) + hIndex h * poolSize (hPool h)

/-- The router gives back a buffer it holds (14 R397); a poisoned state-table word withholds it (14 R400). -/
def State.engineRelease (s : State) (c h : Nat) : State :=
  match s.bufEntry c (hPool h) (hIndex h) with
  | (some e, s) => if eHeld e && eGen e == hGen h then s.freeBuffer c (hPool h) (hIndex h) (eGen e) (eOwner e) else s
  | (none, s) =>
    let x := s.pool c (hPool h)
    (s.setPool c (hPool h) { x with held := nsErase x.held (hIndex h) }).withhold c (hPool h) 1

def State.setRouter (s : State) (r : Router) : State := { s with router := r }

/-- Return buffers that a predicate picks are released. -/
def State.releaseBufs (s : State) (p : RetBuf → Bool) : State :=
  let l := s.router.bufs.filter p
  let s := s.setRouter { s.router with bufs := s.router.bufs.filter (fun b => !(p b)) }
  l.foldl (fun s b => s.engineRelease b.ctx b.handle) s

/-- Sub-rings that a predicate picks are released. -/
def State.releaseRings (s : State) (p : SubRing → Bool) : State :=
  let l := s.router.rings.filter p
  let s := s.setRouter { s.router with rings := s.router.rings.filter (fun b => !(p b)) }
  (l.filter (fun b => !b.filled.isEmpty)).foldl (fun s b => s.engineRelease b.ctx b.handle) s

/-- A dropped contribution's sub-rings are discarded (02_beat_and_time R66). -/
def State.routerDropped (s : State) (c step w source : Nat) : State :=
  s.releaseRings (fun b => b.ctx == c && b.step == step % 65536 && b.window == w && b.source == source)

/-- One return buffer for each of the tokens, or none of them (R208). -/
def State.takeBufs (s : State) (c layer micro p : Nat) : List Nat → Bool × State
  | [] => (true, s)
  | t :: ts =>
    match s.engineAcquire c p with
    | (some h, s) =>
      let b : RetBuf := ⟨c, layer, micro, t, h, s.bufBase c h⟩
      (s.setRouter { s.router with bufs := s.router.bufs ++ [b] }).takeBufs c layer micro p ts
    | (none, s) => (false, s.releaseBufs (fun b => b.ctx == c && b.layer == layer && b.microBatch == micro))

/-- Return buffers of `k` records of `n` elements for the tokens of a descriptor. -/
def State.acquireBufs (s : State) (c d : Nat) (tokens : List Nat) : Bool × State :=
  match poolFor (rdTopK d * retBytes (rdHidden d)) with
  | some p => s.takeBufs c (rdLayer d) (rdMicro d) p tokens
  | none => (tokens.isEmpty, s)

/-- The return buffer of a token. -/
def State.bufOf (s : State) (c layer micro token : Nat) : Option RetBuf :=
  s.router.bufs.find? (fun b => b.ctx == c && b.layer == layer && b.microBatch == micro && b.token == token)

/-! ### Checks (R202, 08 R229) -/

/-- The planes an operation's address fields name. -/
def routerPlanes (d : Nat) : List Plane :=
  let t := rdTokens d
  let e := rdExperts d
  let h := rdHidden d
  let fmt := rdFmt d
  let a := rdAddr d
  let payload := fun (data scale : Nat) =>
    rowsPlane data t (dataPitch fmt h) (rowBytes fmt h)
      :: (if blockScaled fmt then [rowsPlane scale t (scalePitch (rdBlock d) h) (payScales fmt (rdBlock d) h)] else [])
  match descOpcode d with
  | 0x40 => [rowsPlane (a 0) t (alignUp (4 * e) 32) (4 * e), ⟨a 3, 32 * e⟩, ⟨a 4, 128 * t⟩, ⟨a 5, t⟩] ++ payload (a 1) (a 2)
      ++ (if a 6 = 2 ^ 40 - 1 then [] else [⟨a 6, (t + 7) / 8⟩])
  | 0x41 => [⟨a 0, 64 * rdCount d⟩, ⟨a 1 + 4 * (512 * rdLayer d + rdFirst d), 4 * rdCount d⟩]
  | 0x43 => [⟨a 0, 128 * t⟩, ⟨a 1, t⟩, rowsPlane (a 2) t (alignUp (4 * h) 32) (4 * h)]
  | 0x44 => [⟨a 0, 128 * t⟩, ⟨a 1, t⟩] ++ payload (a 2) (a 3)
  | 0x47 => [⟨a 0, 128 * t⟩, ⟨a 1, t⟩, rowsPlane (a 2) t (alignUp (4 * h) 32) (4 * h), ⟨a 3, 32 * t⟩]
  | _ => [⟨a 0, 64 * rdCount d⟩]

/-- A payload format without block scales: BF16 or FP16 (R200). -/
def plainFmt (f : Nat) : Bool := decide (1 ≤ f) && decide (f ≤ 8) && !(blockScaled f)

/-- A reserved field, or an address field that the opcode does not use, is nonzero, or local slots that it serves lie past the
last (check 0x01). -/
def routerReserved (d : Nat) : Bool :=
  let op := descOpcode d
  match rdUsed op with
  | none => true
  | some u =>
    field d 400 12 != 0 || field d 0 120 != 0 || (range2 u 7).any (fun i => rdAddr d i != 0)
      || ([0x41, 0x42, 0x45, 0x46].contains op && decide (512 < rdFirst d + rdCount d))
      || (op == 0x40 && plainFmt (rdFmt d) && rdAddr d 2 != 0)
      || (op == 0x44 && plainFmt (rdFmt d) && rdAddr d 3 != 0)
      || (routerBack op && (rdSpill d != 0 || rdNorm d))

/-- The window an item's operation uses, by the kind R199 names. -/
def State.routerWindow (s : State) (it : Item) : Option Nat :=
  if it.isPlanned then
    let w := s.slotWindows it
    if routerSends (descOpcode it.desc) then w.2 else w.1
  else none

/-- The checks of R202 but 0x08, in order; 0 when none fails. -/
def State.routerCheck (s : State) (it : Item) : Nat :=
  let d := it.desc
  let op := descOpcode d
  if routerReserved d then 0x01
  else if rdExperts d < rdTopK d then 0x02
  else if rdFmt d < 1 ∨ 8 < rdFmt d then 0x03
  else if !((routerPlanes d).all (s.planeInside it.ctx)) then 0x04
  else match s.routerWindow it with
    | none => 0x05
    | some w =>
      let l := s.windowSources it.ctx w
      if routerSends op && !(l.contains (s.rank it.ctx)) then 0x06
      else if strictlyRising l = false then 0x07
      else 0

/-- A refused router descriptor (R202). -/
def State.refuseRouter (s : State) (n c code : Nat) : State := (s.bump Obj.ROUTER_REFUSED_COUNT c).refuse n 7 code

/-- The placement table of a ROUTE. -/
def State.placements (s : State) (n : Nat) (it : Item) : List Nat → List Placement × State
  | [] => ([], s)
  | i :: is =>
    let ((w, bad), s) := s.rNum n it.ctx (rdAddr it.desc 3 + 32 * i) 32
    let r := s.placements n it is
    ((if bad then {} else placementOf w it.step it.slot) :: r.1, r.2)

/-- Check 0x08. -/
def placementBad (d : Nat) (p : Placement) : Bool :=
  p.bad || decide (4194304 < p.quota * slotBytes (rdFmt d) (rdBlock d) (rdHidden d))

/-! ### Output of the router -/

/-- The batch epoch of a micro-batch (R219). -/
def State.batchEpoch (s : State) (c m : Nat) : Nat := s.regF Obj.ROUTER_BATCH_EPOCH c m

/-- The micro-batch is cancelled in the open step (R219). -/
def State.isCancelled (s : State) (c m : Nat) : Bool := bit (tget 0 s.router.cancelled c) m

/-- Dispatch leaves on VC1, whatever VC the window names (R208, 08 R231); what else the router sends, on the window's. -/
def routerVc (d : Nat) : Option Nat := if descOpcode d = 0x40 ∨ descOpcode d = 0x44 then some 1 else none

/-- Records staged for the window of an item. -/
def State.stageRecords (s : State) (n : Nat) (it : Item) (w : Nat) (recs after : List (Nat × Bytes)) : State :=
  s.stage { ctx := it.ctx, step := it.step, slot := it.slot, window := w, item := some n, recs := recs, after := after,
            vc := routerVc it.desc }

/-- Close markers with count 0 alone, for nobody (R219). -/
def State.stageCloses (s : State) (it : Item) (w : Nat) : State :=
  s.stage { ctx := it.ctx, step := it.step, slot := it.slot, window := w, item := none, vc := routerVc it.desc }

/-- A router command: the checks, then cancellation (R219), then the operation. -/
def State.routerOp (s : State) (n op : Nat) (run : State → Nat → Item → Nat → List Placement → State) : State :=
  s.withItem n [op] (fun it s =>
    let code := s.routerCheck it
    if code ≠ 0 then s.refuseRouter n it.ctx code
    else
      let w := (s.routerWindow it).getD 0
      let (pl, s) := if op = 0x40 then s.placements n it (List.range (rdExperts it.desc)) else ([], s)
      if pl.any (placementBad it.desc) then s.refuseRouter n it.ctx 0x08
      else if s.isCancelled it.ctx (rdMicro it.desc) then
        (if routerSends op then s.stageCloses it w else s).finishWith n .cancelled
      else run s n it w pl)

/-! ### Placement switches (R220, R221) -/

/-- ROUTER_DRAIN_PENDING follows the outstanding switches: the experts that have one. -/
def State.countDrains (s : State) (c : Nat) : State :=
  let l := (s.router.switching.filter (fun x => x.ctx == c && !x.drained)).map (·.expert)
  s.setReg Obj.ROUTER_DRAIN_PENDING c ((l.foldl nsInsert []).length)

/-- One table entry: a valid switch is outstanding, a folded one is over. A switch from another epoch is a new one: the
drained one before it is over. -/
def noteSwitch (c : Nat) (l : List Switching) (p : Placement) : List Switching :=
  let mine := fun (x : Switching) => x.ctx == c && x.expert == p.gid
  if p.switching = false then l.filter (fun x => !(mine x))
  else if l.any (fun x => mine x && x.oldEpoch == p.oldEpoch) then l
  else l.filter (fun x => !(mine x && x.drained)) ++ [⟨c, p.gid, p.oldHost, p.oldEpoch, false⟩]

/-- The switches that a placement table shows. -/
def State.scanSwitches (s : State) (c : Nat) (pl : List Placement) : State :=
  (s.setRouter { s.router with switching := pl.foldl (noteSwitch c) s.router.switching }).countDrains c

/-- DRAIN_COMPLETE for an expert and its old epoch (R221). -/
def State.drained (s : State) (c expert source epoch : Nat) : State :=
  let mine := fun (x : Switching) => x.ctx == c && x.expert == expert && x.oldEpoch == epoch
  let l := s.router.switching
  let l := if l.any mine then l.map (fun x => if mine x then { x with drained := true } else x)
    else l ++ [⟨c, expert, source, epoch, true⟩]
  (s.setRouter { s.router with switching := l }).countDrains c

/-- After its DRAIN_COMPLETE a record of the old epoch is stale (R221). -/
def State.drainedEpoch (s : State) (c expert epoch : Nat) : Bool :=
  s.router.switching.any (fun x => x.ctx == c && x.expert == expert && x.drained && x.oldEpoch == epoch)

/-! ### Experts lost mid-step (R222, R223) -/

/-- A rank's node is lost to this device, or its epoch has ended under the rank map in force: it holds no rank until a rank map
names it (15 R409, R423). -/
def State.rankLost (s : State) (c rank : Nat) : Bool :=
  match s.nodeOfRank c rank with
  | some n => s.nodeLost n || ((tfind s.rcv.ended c).getD []).contains n
  | none => false

/-- Experts that a replay's ledger marks at or before a slot (R223). -/
def replayMarks (l : List Nat) (slot : Nat) : List Nat :=
  (l.filter (fun e => field e 124 4 == 3 && decide (field e 96 16 ≤ slot))).map (fun e => field e 56 24)

/-- An expert becomes unavailable in the open step. -/
def State.markExpert (s : State) (c gid : Nat) : State :=
  let p := s.plan c
  s.setPlan c { p with unavailable := nsInsert p.unavailable gid }

/-- Marks of a ROUTE (R222): false when the ledger is full (R225). -/
def State.markLost (s : State) (it : Item) (beatOff : Nat) : List Placement → Bool × State
  | [] => (true, s)
  | p :: ps =>
    if s.rankLost it.ctx p.host && !((s.plan it.ctx).unavailable.contains p.gid) then
      if s.ledgerRoom it.ctx it.step then
        let s := (s.ledgerPut it.ctx it.step 3 0xFFF it.slot p.host p.gid beatOff).markExpert it.ctx p.gid
        (s.bump Obj.ROUTER_UNAVAILABLE_COUNT it.ctx).markLost it beatOff ps
      else (false, s)
    else s.markLost it beatOff ps

/-- The marks that apply to a ROUTE. -/
def State.routeMarks (s : State) (it : Item) (pl : List Placement) : Bool × State :=
  let c := it.ctx
  if s.reg Obj.REPLAY_MODE c ≠ 0 then (true, (replayMarks (s.plan c).replay it.slot).foldl (fun s g => s.markExpert c g) s)
  else if s.reg Obj.LATE_POLICY c = 1 ∧ s.reg Obj.ROUTER_UNAVAIL_ACTION c = 0 then
    let off := match (s.plan c).image with | some im => (match im.slots[it.slot]? with | some sl => sl.start | none => 0) | none => 0
    s.markLost it off pl
  else (true, s)

/-! ### Ranking (R203) -/

/-- What ROUTE finds of a token. -/
inductive Gate where
  | exited
  | nan
  | ranked (order : List Nat) (row : List Nat)
  deriving DecidableEq, Repr

/-- The experts of a row by probability, equal ones by global ID. -/
def rankRow (pl : List Placement) (row : List Nat) : List Nat :=
  let gid := fun i => (pl.getD i {}).gid
  sortBy (fun i j =>
    let a := f32 (row.getD i 0)
    let b := f32 (row.getD j 0)
    b.lt a || (!(a.lt b) && decide (gid i ≤ gid j))) (List.range row.length)

/-- One token's gate: its exit bit, then its probability row. A token whose exit bits or row are uncorrectable is treated as
NAN_GATE (R224). -/
def State.gateOf (s : State) (n : Nat) (it : Item) (pl : List Placement) (t : Nat) : Gate × State :=
  let d := it.desc
  let e := rdExperts d
  let ((x, xbad), s) := if rdAddr d 6 = 2 ^ 40 - 1 then ((0, false), s) else s.rNum n it.ctx (rdAddr d 6 + t / 8) 1
  if xbad then (.nan, s)
  else if bit x (t % 8) then (.exited, s)
  else
    let ((b, bad), s) := s.rRead n it.ctx (rdAddr d 0 + t * alignUp (4 * e) 32) (4 * e)
    let row := entriesOf 4 e b
    if bad || row.any (fun w => (f32 w).isNan) then (.nan, s)
    else (.ranked ((rankRow pl row).take (min (rdTopK d + rdSpill d) e)) row, s)

/-- The gates of the tokens from `t` up. -/
def State.gates (s : State) (n : Nat) (it : Item) (pl : List Placement) : List Nat → List Gate × State
  | [] => ([], s)
  | t :: ts =>
    let (g, s) := s.gateOf n it pl t
    let r := s.gates n it pl ts
    (g :: r.1, r.2)

/-! ### Capacity, slots and spill (R205) -/

/-- An assignment: token, choice rank, expert index, slot, candidates tried. -/
structure Assigned where
  token : Nat
  rank : Nat
  expert : Nat
  slot : Nat
  tries : Nat
  deriving DecidableEq, Repr

/-- Where the placement stands. -/
structure Board where
  used : Table Nat := []
  placed : List Assigned := []
  /-- Primary choices that found no slot: token and rank, in order of rank. -/
  failed : List (Nat × Nat) := []
  /-- Dropped assignments: token. -/
  dropped : List Nat := []
  deriving DecidableEq, Repr

/-- The expert takes one more token. -/
def Board.isOpen (b : Board) (pl : List Placement) (off : List Nat) (e : Nat) : Bool :=
  match pl[e]? with
  | some p => p.takes && !(off.contains p.gid) && decide (tget 0 b.used e < p.quota)
  | none => false

/-- An assignment is placed in the next slot. -/
def Board.place (b : Board) (t r e tries : Nat) : Board :=
  let n := tget 0 b.used e
  { b with used := tset b.used e (n + 1), placed := b.placed ++ [⟨t, r, e, n, tries⟩] }

/-- Pass 1 for one primary choice. -/
def Board.first (pl : List Placement) (off : List Nat) (r : Nat) (b : Board) (x : Nat × Gate) : Board :=
  match x.2 with
  | .ranked order _ =>
    (match order[r]? with
     | some e => if b.isOpen pl off e then b.place x.1 r e 0 else { b with failed := b.failed ++ [(x.1, r)] }
     | none => b)
  | _ => b

/-- Pass 2 for one failed choice: the candidates that remain after it. -/
def Board.spill (b : Board) (pl : List Placement) (off : List Nat) (t r tries : Nat) : List Nat → Board × List Nat
  | [] => ({ b with dropped := b.dropped ++ [t] }, [])
  | e :: es => if b.isOpen pl off e then (b.place t r e (tries + 1), es) else b.spill pl off t r (tries + 1) es

/-- Pass 2 for one token: its failed ranks in increasing order, its spill candidates in turn. -/
def Board.second (pl : List Placement) (off : List Nat) (k : Nat) (b : Board) (x : Nat × Gate) : Board :=
  match x.2 with
  | .ranked order _ =>
    (((b.failed.filter (fun e => e.1 == x.1)).map (·.2)).foldl (fun (a : Board × List Nat) r => a.1.spill pl off x.1 r 0 a.2)
      (b, order.drop k)).1
  | _ => b

/-- Both passes. -/
def placeAll (pl : List Placement) (off : List Nat) (k : Nat) (gs : List (Nat × Gate)) : Board :=
  let b := (List.range k).foldl (fun b r => gs.foldl (Board.first pl off r) b) {}
  gs.foldl (Board.second pl off k) b

/-- The assignments of a token in rank order. -/
def Board.ofToken (b : Board) (t : Nat) : List Assigned :=
  sortBy (fun x y => decide (x.rank ≤ y.rank)) (b.placed.filter (fun a => a.token == t))

/-- The flags of a token (R213). -/
def Board.flags (b : Board) (t : Nat) : Gate → Nat
  | .exited => tfExited
  | .nan => tfNan
  | .ranked .. => (if (b.placed.any (fun a => a.token == t)) then 0 else tfDropped) + (if b.dropped.contains t then tfPartial else 0)

/-- The gate weight of an assignment (R204). -/
def gateWeight (norm : Bool) (k e : Nat) : Gate → Nat
  | .ranked order row =>
    let p := row.getD e 0
    if norm then fDiv p ((order.take k).foldl (fun a i => fAdd a (row.getD i 0)) 0) else fDiv p (toF32 (FVal.ofInt 1))
  | _ => 0

/-! ### ROUTE (R208) -/

/-- A token's row of the assignment table. -/
def assignRow (d : Nat) (pl : List Placement) (b : Board) (t : Nat) (g : Gate) : List Nat :=
  (List.range 8).map (fun r =>
    match (b.ofToken t).find? (fun a => a.rank == r) with
    | some a =>
      let p := pl.getD a.expert {}
      assignWord p.gid asSent a.tries p.host a.slot p.epoch (gateWeight (rdNorm d) (rdTopK d) a.expert g)
    | none => 0)

/-- The dispatch records of one token. -/
def State.tokenRecords (s : State) (n : Nat) (it : Item) (tag : Nat) (pl : List Placement) (b : Board) (x : Nat × Gate) :
    List (Nat × Bytes) × State :=
  let d := it.desc
  let t := x.1
  match b.ofToken t with
  | [] => ([], s)
  | l =>
    let h := rdHidden d
    let (body, s) := s.readPayload n it.ctx (rdFmt d) (rdBlock d) h (rdAddr d 1 + t * dataPitch (rdFmt d) h)
      (rdAddr d 2 + t * scalePitch (rdBlock d) h)
    (l.map (fun a =>
      let p := pl.getD a.expert {}
      (p.host, tokenRecord
          { expert := p.gid, source := s.rank it.ctx, kind := 0, token := t, slot := a.slot, micro := rdMicro d,
            layer := rdLayer d, batch := s.batchEpoch it.ctx (rdMicro d), epoch := p.epoch, rank := a.rank, spill := a.tries,
            block := rdBlockCode d, fmt := rdFmt d, len := h, weight := gateWeight (rdNorm d) (rdTopK d) a.expert x.2,
            step := it.step % 65536, tag := tag } body)), s)

/-- The dispatch records of all tokens, in token order. -/
def State.allRecords (s : State) (n : Nat) (it : Item) (tag : Nat) (pl : List Placement) (b : Board) :
    List (Nat × Gate) → List (Nat × Bytes) × State
  | [] => ([], s)
  | x :: xs =>
    let (l, s) := s.tokenRecords n it tag pl b x
    let r := s.allRecords n it tag pl b xs
    (l ++ r.1, r.2)

/-- The tag of a window of a context's plan. -/
def State.tagOf (s : State) (c w : Nat) : Nat := match s.window? c w with | some x => x.tag | none => 0

/-- The assignment table and the token flags are written (R208 step 2). -/
def State.writeTable (s : State) (n : Nat) (it : Item) (pl : List Placement) (b : Board) (gs : List (Nat × Gate)) : State :=
  let d := it.desc
  let s := gs.foldl (fun s x =>
    s.sWrite n it.ctx (rdAddr d 4 + 128 * x.1) ((assignRow d pl b x.1 x.2).flatMap (leBytes 16))) s
  s.sWrite n it.ctx (rdAddr d 5) (gs.map (fun x => BitVec.ofNat 8 (b.flags x.1 x.2)))

/-- What a ROUTE counts (R226). -/
def State.countRoute (s : State) (c : Nat) (b : Board) (gs : List (Nat × Gate)) : State :=
  let s := s.bump Obj.ROUTER_EXIT_COUNT c ((gs.filter (fun x => x.2 == .exited)).length)
  let s := s.bump Obj.ROUTER_NAN_TOKEN_COUNT c ((gs.filter (fun x => x.2 == .nan)).length)
  let s := s.bump Obj.ROUTER_SPILL_COUNT c ((b.placed.filter (fun a => a.tries != 0)).length)
  s.bump Obj.ROUTER_DROP_COUNT c b.dropped.length

/-- The late policy FAIL in a slot whose ROUTE needs a ledger entry that has no room (R225, 02_beat_and_time R68): that ROUTE
and every descriptor of its slot that has not started are not run. -/
def State.failWaiting (s : State) (n : Nat) (it : Item) : State :=
  let waits := fun (e : Nat × Item) => e.1 != n && e.2.isPlanned && e.2.ctx == it.ctx && e.2.slot == it.slot
    && e.2.step == it.step && e.2.phase == .accepted
  (s.items.filter waits).foldl (fun s e => s.finishWith e.1 .failedTimeout) (s.finishWith n .failedTimeout)

/-- A ROUTE runs. -/
def State.runRoute (s : State) (n : Nat) (it : Item) (w : Nat) (pl : List Placement) : State :=
  let d := it.desc
  let c := it.ctx
  match (s.scanSwitches c pl).routeMarks it pl with
  | (false, s) => (s.failWaiting n it).haltPlan c haltFail it.slot
  | (true, s) =>
    let off := (s.plan c).unavailable
    let (l, s) := s.gates n it pl (List.range (rdTokens d))
    let gs := (List.range (rdTokens d)).zip l
    let b := placeAll pl off (rdTopK d) gs
    let s := (s.countRoute c b gs).writeTable n it pl b gs
    match s.acquireBufs c d ((gs.filter (fun x => !(b.ofToken x.1).isEmpty)).map (·.1)) with
    | (false, s) =>
      let s := s.sWrite n c (rdAddr d 4) (List.replicate (128 * rdTokens d) 0)
      (s.meet n .failedQuota).stageRecords n it w [] []
    | (true, s) =>
      let (recs, s) := s.allRecords n it (s.tagOf c w) pl b gs
      s.stageRecords n it w recs []

/-- ROUTE (R199, R205, R208). -/
def execRoute (item : Nat) (s : State) : Res := .next (s.routerOp item 0x40 State.runRoute)

/-! ### Arrival at a host (R209, 08 R232) -/

/-- The sub-ring of a local expert and a source, if it is listed. -/
def State.ring? (s : State) (c step w loc source : Nat) : Option SubRing :=
  s.router.rings.find? (fun b => b.ctx == c && b.step == step % 65536 && b.window == w && b.loc == loc && b.source == source)

/-- A sub-ring put in its place. -/
def State.setRing (s : State) (b : SubRing) : State :=
  let same := fun (x : SubRing) => x.ctx == b.ctx && x.step == b.step && x.window == b.window && x.loc == b.loc && x.source == b.source
  s.setRouter { s.router with rings := s.router.rings.filter (fun x => !(same x)) ++ [b] }

/-- The sub-ring, new where it is not listed. -/
def State.ringOr (s : State) (c step w loc source : Nat) : SubRing :=
  (s.ring? c step w loc source).getD { ctx := c, step := step % 65536, window := w, loc := loc, source := source }

/-- A record is discarded and the contribution to a local expert marked damaged. -/
def State.damage (s : State) (o : ObjDef) (c step w loc source : Nat) : State :=
  (s.bump o c).setRing { s.ringOr c step w loc source with damaged := true }

/-- A record that names no local expert of the window damages the source's contribution as a whole. -/
def State.stray (s : State) (c step w source : Nat) : State :=
  let s := s.bump Obj.ROUTER_PROTOCOL_COUNT c
  s.setRouter { s.router with strays := (c, step % 65536, w, source) :: s.router.strays }

/-- A local expert entry with its local slot and its descriptor. -/
structure HostEntry where
  desc : Nat
  loc : Nat
  entry : Nat
  deriving DecidableEq, Repr

/-- The local expert entries of a window. -/
def State.hostEntries (s : State) (c w op : Nat) : List HostEntry × State :=
  let (ds, s) := s.consumingDescs c w op
  ds.foldl (fun (a : List HostEntry × State) d =>
    let (l, s) := a.2.hostTable 0xFFFFFFFF c d (List.range (rdCount d))
    (a.1 ++ l.map (fun e => ⟨d, e.1, e.2⟩), s)) ([], s)

/-- The checks of R209 but expert and epoch. -/
def recordFits (h : TokenHeader) (b : Bytes) (e : HostEntry) (r : SubRing) : Bool :=
  let d := e.desc
  let back := routerBack (descOpcode d)
  h.kind == 0 && h.back == back && h.layer == rdLayer d && h.micro == rdMicro d && h.fmt == rdFmt d && h.len == rdHidden d
    && (!(blockScaled (rdFmt d)) || h.block == rdBlockCode d)
    && decide (h.slot < heQuota back e.entry) && !(r.filled.contains h.slot)
    && b.length == slotBytes (rdFmt d) (rdBlock d) (rdHidden d)

/-- A checked record is written at its slot, in a buffer acquired when the sub-ring's first record comes. -/
def State.placeRecord (s : State) (c : Nat) (e : HostEntry) (r : SubRing) (h : TokenHeader) (b : Bytes) : State :=
  let size := slotBytes (rdFmt e.desc) (rdBlock e.desc) (rdHidden e.desc)
  let put := fun (s : State) (r : SubRing) =>
    (s.bufferWrite 4 c (r.base + h.slot * size) b).setRing { r with filled := nsInsert r.filled h.slot }
  if r.unplaced then s
  else if r.filled.isEmpty then
    match poolFor (heQuota (routerBack (descOpcode e.desc)) e.entry * size) with
    | none => s.setRing { r with unplaced := true }
    | some p =>
      match s.engineAcquire c p with
      | (some k, s) => put s { r with handle := k, base := s.bufBase c k }
      | (none, s) => s.setRing { r with unplaced := true }
  else put s r

/-- A dispatch record of a window of the context's plan is placed, or discarded and counted. -/
def State.dispatchArrive (s : State) (c w : Nat) (back : Bool) (h : TokenHeader) (b : Bytes) : State :=
  let (es, s) := s.hostEntries c w (if back then 0x45 else 0x41)
  let mine := es.filter (fun e => heExpert back e.entry == h.expert)
  match mine.find? (fun e => heEpoch back e.entry == h.epoch), mine with
  | some e, _ =>
    let r := s.ringOr c h.step w e.loc h.source
    if s.router.consumed.contains (c, h.step, w, e.loc) || !(recordFits h b e r) then
      s.damage Obj.ROUTER_PROTOCOL_COUNT c h.step w e.loc h.source
    else s.placeRecord c e r h b
  | none, e :: _ => s.damage Obj.ROUTER_STALE_COUNT c h.step w e.loc h.source
  | none, [] => s.stray c h.step w h.source

/-- A delivered record belongs to the router: its TAG names a window whose consuming slots are the router's, or it comes on VC1
(R208) and is not a collective's. -/
def State.routersRecord (s : State) (d : Delivered) (kind : TokenHeader → Bool) : Bool :=
  let h := recordHeader d.bytes
  !d.close && d.vc != 4 && d.vc != 5 && kind h && !(s.collectivesRecord d) &&
    (d.vc == 1 ||
      (match (s.plan d.ctx).image with
       | some im =>
         (match im.windowOfTag h.tag with
          | some (w, _) => (im.consumers w).any (fun e => e.2.opClass == 3)
          | none => false)
       | none => false))

/-- A record of the router that has been delivered, by what its window is; `take` runs for one that belongs to a window this
device takes now and to a source of it. Any other is discarded: a return as stale (R215), a dispatch record as a protocol error
(R209), one of a dropped contribution as R66 says. -/
def State.routerArrive (s : State) (node vc : Nat) (kind : TokenHeader → Bool)
    (take : State → Nat → Nat → TokenHeader → Bytes → State) : State :=
  match s.takeInbox node vc (fun d => s.routersRecord d kind) with
  | none => s
  | some (d, s) =>
    let h := recordHeader d.bytes
    let away := if h.kind = 1 then Obj.ROUTER_STALE_COUNT else Obj.ROUTER_PROTOCOL_COUNT
    match (s.plan d.ctx).image with
    | none => s.bump away d.ctx
    | some im =>
      match im.windowOfTag h.tag with
      | some (w, x) =>
        if s.takesStep d.ctx h.step && (im.sources x).contains h.source then
          (match s.contribRecord d.ctx h.step w h.source with
           | (true, s) => take s d.ctx w h d.bytes
           | (false, s) => s.countLateRecord d.ctx w)
        else s.bump away d.ctx
      | none => s.bump away d.ctx

/-- A forward or backward dispatch record; control records of codes other than DRAIN_COMPLETE and records of the reserved kind
are judged with the forward ones. -/
def dispatchKind (back : Bool) (h : TokenHeader) : Bool :=
  if h.kind = 0 then h.back == back else !back && (h.kind == 3 || (h.kind == 2 && h.slot != 1))

/-- DISPATCH_RECORD_ARRIVE (R209). -/
def execDispatchRecordArrive (node vc : Nat) (s : State) : Res :=
  .next (s.routerArrive node vc (dispatchKind false) (fun s c w h b => s.dispatchArrive c w false h b))

/-- BWD_DISPATCH_RECORD_ARRIVE (08 R232). -/
def execBwdDispatchRecordArrive (node vc : Nat) (s : State) : Res :=
  .next (s.routerArrive node vc (dispatchKind true) (fun s c w h b => s.dispatchArrive c w true h b))

/-- DRAIN_COMPLETE_RECEIVE (R221): a control record follows its contribution and is not counted with it. -/
def execDrainCompleteReceive (node vc : Nat) (s : State) : Res :=
  .next (match s.takeInbox node vc (fun d => s.routersRecord d (fun h => h.kind == 2 && h.slot == 1)) with
    | some (d, s) => let h := recordHeader d.bytes; s.drained d.ctx h.expert h.source h.epoch
    | none => s)

/-! ### Acceptance of returns (R215, 08 R235) -/

/-- A return record is stale. -/
def State.staleReturn (s : State) (c : Nat) : State := s.bump Obj.ROUTER_STALE_COUNT c

/-- The assignment fits the record. A backward record goes to and comes from the forward host, drained or not (08 R236). -/
def State.accepts (s : State) (c a : Nat) (h : TokenHeader) : Bool :=
  aState a == asSent && aExpert a == h.expert && aHost a == h.source && aEpoch a == h.epoch
    && h.batch == s.batchEpoch c h.micro && (h.back || !(s.drainedEpoch c h.expert h.epoch))

/-- A return record of a window is accepted into its token's return buffer, or discarded as stale. The assignment table is that
of the window's COMBINE or BWD_COMBINE. -/
def State.returnArrive (s : State) (c w : Nat) (back : Bool) (h : TokenHeader) (b : Bytes) : State :=
  let (ds, s) := s.consumingDescs c w (if back then 0x47 else 0x43)
  match ds.find? (fun d => rdLayer d == h.layer && rdMicro d == h.micro), s.bufOf c h.layer h.micro h.token with
  | some d, some buf =>
    let at_ := rdAddr d 0 + 128 * h.token + 16 * h.rank
    let (g, s) := s.ctxRead c at_ 16 7
    if h.token < rdTokens d ∧ h.rank < rdTopK d ∧ (g.poison || g.protection) = false ∧ b.length = retBytes (rdHidden d)
        ∧ s.accepts c g.num h = true then
      let s := (s.ctxWrite c (buf.base + h.rank * retBytes (rdHidden d)) b).2
      (s.ctxWrite c at_ (leBytes 16 (putField g.num 102 2 asReturned))).2
    else s.staleReturn c
  | _, _ => s.staleReturn c

/-- RETURN_RECORD_ARRIVE (R215). -/
def execReturnRecordArrive (node vc : Nat) (s : State) : Res :=
  .next (s.routerArrive node vc (fun h => h.kind == 1 && !h.back) (fun s c w h b => s.returnArrive c w false h b))

/-- BWD_RETURN_RECORD_ARRIVE (08 R235). -/
def execBwdReturnRecordArrive (node vc : Nat) (s : State) : Res :=
  .next (s.routerArrive node vc (fun h => h.kind == 1 && h.back) (fun s c w h b => s.returnArrive c w true h b))

/-! ### CONSUME (R210, R211) -/

/-- The statuses that the state of a window's contributions gives a consumer (R211). -/
def State.meetWindow (s : State) (n : Nat) (it : Item) (w : Nat) (locs : List Nat) : State :=
  let step := it.step % 65536
  let mine := s.router.rings.filter (fun b => b.ctx == it.ctx && b.step == step && b.window == w && locs.contains b.loc)
  let s := if mine.any (·.damaged) || s.router.strays.any (fun x => x.1 == it.ctx && x.2.1 == step && x.2.2.1 == w) then
    s.meet n .failedProtection else s
  let s := if mine.any (·.unplaced) then s.meet n .failedQuota else s
  if s.anyDropped it.ctx it.step w then s.meet n .droppedLate else s

/-- Filled slots are 0 to n - 1. -/
def gapless (l : List Nat) : Bool := l == List.range l.length

/-- The rows a local expert's queue gives, as offsets of their records: increasing source position, then slot (R210). -/
def State.queueRows (s : State) (it : Item) (w loc : Nat) (hold size : Nat) : List (Nat × Nat) :=
  (s.windowSources it.ctx w).flatMap (fun r =>
    match s.ring? it.ctx it.step w loc r with
    | some b =>
      if b.damaged || b.unplaced || !(gapless b.filled) || s.contribDropped it.ctx it.step w r then []
      else b.filled.map (fun k => (r, b.base + k * size + hold))
    | none => [])

/-- One row compacted. -/
def State.compactRow (s : State) (n : Nat) (it : Item) (entry r : Nat) (x : Nat × Nat) : State :=
  let d := it.desc
  let h := rdHidden d
  let fmt := rdFmt d
  let nd := rowBytes fmt h
  let ((b, bad), s) := s.ringRead n it.ctx x.2 (32 + nd + payScales fmt (rdBlock d) h)
  let hd := { recordHeader b with source := x.1 }
  let body := if bad then nanBody fmt (rdBlock d) h else b.drop 32
  let s := s.sWrite n it.ctx (leData entry + r * dataPitch fmt h) (body.take nd)
  let s := if blockScaled fmt then s.sWrite n it.ctx (leScale entry + r * scalePitch (rdBlock d) h) (body.drop nd) else s
  s.sWrite n it.ctx (leArrivals entry + 8 * r) (leBytes 8 (arrivalWord hd))

/-- Rows compacted one after another. -/
def State.compactRows (s : State) (n : Nat) (it : Item) (entry : Nat) : Nat → List (Nat × Nat) → State
  | _, [] => s
  | r, x :: xs => (s.compactRow n it entry r x).compactRows n it entry (r + 1) xs

/-- The rows of a host's local slot are kept for its RETURN. -/
def State.setRows (s : State) (x : HostRows) : State :=
  let same := fun (y : HostRows) => y.ctx == x.ctx && y.bwd == x.bwd && y.layer == x.layer && y.microBatch == x.microBatch && y.loc == x.loc
  s.setRouter { s.router with rows := s.router.rows.filter (fun y => !(same y)) ++ [x] }

/-- Rows that a CONSUME or BWD_CONSUME formed. -/
def State.rowsOf (s : State) (c : Nat) (back : Bool) (layer micro loc : Nat) : HostRows :=
  (s.router.rows.find? (fun y => y.ctx == c && y.bwd == back && y.layer == layer && y.microBatch == micro && y.loc == loc)).getD
    ⟨c, back, layer, micro, loc, 0, []⟩

/-- The queue of a local slot has been compacted: its sub-rings go, and later records find no place. -/
def State.closeQueue (s : State) (it : Item) (w loc : Nat) : State :=
  let step := it.step % 65536
  let s := s.releaseRings (fun b => b.ctx == it.ctx && b.step == step && b.window == w && b.loc == loc)
  s.setRouter { s.router with consumed := (it.ctx, step, w, loc) :: s.router.consumed }

/-- One local expert is compacted: its rows, its counts, its visits; the answer is its row count. -/
def State.consumeOne (s : State) (n : Nat) (it : Item) (w : Nat) (e : Nat × Nat) : Nat × State :=
  let d := it.desc
  let c := it.ctx
  let size := slotBytes (rdFmt d) (rdBlock d) (rdHidden d)
  let gaps := s.router.rings.any (fun b => b.ctx == c && b.step == it.step % 65536 && b.window == w && b.loc == e.1 && !(gapless b.filled)
    && !(s.contribDropped c it.step w b.source))
  let s := if gaps then s.meet n .failedProtection else s
  let rows := s.queueRows it w e.1 0 size
  let s := s.compactRows n it e.2 0 rows
  let s := s.writeCounts n c (leCounts e.2) rows.length
  let s := s.setRows ⟨c, false, rdLayer d, rdMicro d, e.1, rows.length, []⟩
  let a := rdAddr d 1 + 4 * (512 * rdLayer d + e.1)
  let ((v, _), s) := s.rNum n c a 4
  let s := s.sWrite n c a (leBytes 4 (v + rows.length))
  let p := s.plan c
  let key := 512 * rdLayer d + e.1
  let s := s.setPlan c { p with tokens := tset p.tokens key (tget 0 p.tokens key + rows.length) }
  (rows.length, s.closeQueue it w e.1)

/-- The local experts of a descriptor, in local-slot order; the answer is the sum of their counts. -/
def State.consumeAll (s : State) (one : State → Nat × Nat → Nat × State) : List (Nat × Nat) → Nat × State
  | [] => (0, s)
  | e :: es =>
    let r := one s e
    let q := r.2.consumeAll one es
    (r.1 + q.1, q.2)

/-- A CONSUME runs. -/
def State.runConsume (s : State) (n : Nat) (it : Item) (w : Nat) (_ : List Placement) : State :=
  let (es, s) := s.hostTable n it.ctx it.desc (List.range (rdCount it.desc))
  let s := s.meetWindow n it w (es.map (·.1))
  let (total, s) := s.consumeAll (fun s e => s.consumeOne n it w e) es
  (if total = 0 then s.meet n .okZeroWork else s).finish n

/-- CONSUME (R210). -/
def execConsume (item : Nat) (s : State) : Res := .next (s.routerOp item 0x41 State.runConsume)

/-! ### RETURN (R214, R221) -/

/-- The return records of one local expert, in arrival-list order. -/
def State.returnRows (s : State) (n : Nat) (it : Item) (tag entry : Nat) : List Nat → List (Nat × Bytes) × State
  | [] => ([], s)
  | r :: rs =>
    let d := it.desc
    let h := rdHidden d
    let ((a, bad), s) := s.rNum n it.ctx (leArrivals entry + 8 * r) 8
    let (body, s) := s.readPayload n it.ctx 1 16 h (leOut entry + r * dataPitch 1 h) 0
    let rec_ := tokenRecord
        { expert := leExpert entry, source := s.rank it.ctx, kind := 1, token := avToken a, slot := avSlot a,
          micro := rdMicro d, layer := rdLayer d, batch := avBatch a, epoch := leEpoch entry, rank := avRank a, spill := avSpill a,
          fmt := 1, len := h, step := it.step % 65536, tag := tag } body
    let q := s.returnRows n it tag entry rs
    (if bad then q.1 else (avSource a, rec_) :: q.1, q.2)

/-- The return records of the local experts. -/
def State.returnAll (s : State) (rows : State → Nat × Nat → List (Nat × Bytes) × State) : List (Nat × Nat) → List (Nat × Bytes) × State
  | [] => ([], s)
  | e :: es =>
    let r := rows s e
    let q := r.2.returnAll rows es
    (r.1 ++ q.1, q.2)

/-- DRAIN_COMPLETE for the entries that have DRAIN_LAST, to every rank of the window's list (R221). -/
def State.drainRecords (s : State) (it : Item) (w tag : Nat) (es : List (Nat × Nat)) : List (Nat × Bytes) :=
  (es.filter (fun e => leDrain e.2)).flatMap (fun e =>
    (s.windowSources it.ctx w).map (fun r =>
      (r, tokenRecord
          { expert := leExpert e.2, source := s.rank it.ctx, kind := 2, slot := 1, micro := rdMicro it.desc,
            layer := rdLayer it.desc, epoch := leEpoch e.2, step := it.step % 65536, tag := tag } [])))

/-- A RETURN runs. -/
def State.runReturn (s : State) (n : Nat) (it : Item) (w : Nat) (_ : List Placement) : State :=
  let d := it.desc
  let tag := s.tagOf it.ctx w
  let (es, s) := s.hostTable n it.ctx d (List.range (rdCount d))
  let (recs, s) := s.returnAll (fun s e =>
    s.returnRows n it tag e.2 (List.range (s.rowsOf it.ctx false (rdLayer d) (rdMicro d) e.1).rows)) es
  s.stageRecords n it w recs (s.drainRecords it w tag es)

/-- RETURN (R214). -/
def execReturn (item : Nat) (s : State) : Res := .next (s.routerOp item 0x42 State.runReturn)

/-! ### COMBINE (R216) -/

/-- What a token's sum has come to. -/
structure Sum where
  acc : List Nat
  /-- Gate gradients by rank (08 R235). -/
  gates : List Nat := List.replicate 8 0
  flags : Nat
  /-- Some assignment is not NONE. -/
  work : Bool := false
  deriving DecidableEq, Repr

/-- An assignment that no return came for becomes LOST (R216). -/
def State.loseAssignment (s : State) (n : Nat) (it : Item) (w o a : Nat) : State :=
  let s := s.sWrite n it.ctx o (leBytes 16 (putField a 102 2 asLost))
  if (s.contrib it.ctx it.step w (aHost a)).complete then s.meet n .failedProtection else s

/-- The returned row of a rank, widened to FP32, and the gate gradient its header carries. -/
def State.returnedRow (s : State) (n : Nat) (it : Item) (t r : Nat) : (List Nat × Nat) × State :=
  let d := it.desc
  let h := rdHidden d
  match s.bufOf it.ctx (rdLayer d) (rdMicro d) t with
  | none => ((List.replicate h 0, 0), s)
  | some b =>
    let ((x, bad), s) := s.rRead n it.ctx (b.base + r * retBytes h) (32 + 2 * h)
    if bad then ((List.replicate h nan32, nan32), s)
    else (((List.range h).map (fun i => toF32 (elemValue 1 (elemAt 1 (x.drop 32) i))), (recordHeader x).weight), s)

/-- One rank of a token. A returned row of a contribution dropped since is missing like one that never came (02_beat_and_time
R65, R66). -/
def State.combineRank (s : State) (n : Nat) (it : Item) (w t : Nat) (back : Bool) (x : Sum) (r a : Nat) : Sum × State :=
  let o := rdAddr it.desc 0 + 128 * t + 16 * r
  let x := { x with work := x.work || aState a != 0 }
  let gone := s.contribDropped it.ctx it.step w (aHost a)
  if aState a = asSent ∨ (aState a = asReturned ∧ gone = true) then ({ x with flags := x.flags ||| tfPartial }, s.loseAssignment n it w o a)
  else if aState a = asReturned then
    let ((row, gate), s) := s.returnedRow n it t r
    ({ x with acc := (x.acc.zip row).map (fun (e : Nat × Nat) => if back then fAdd e.1 e.2 else fFma (aWeight a) e.2 e.1),
              gates := x.gates.set r gate }, s)
  else (x, s)

/-- The ranks of a token in order. -/
def State.combineRanks (s : State) (n : Nat) (it : Item) (w t : Nat) (back : Bool) (x : Sum) : List (Nat × Nat) → Sum × State
  | [] => (x, s)
  | (r, a) :: l =>
    let (x, s) := s.combineRank n it w t back x r a
    s.combineRanks n it w t back x l

/-- One token: its output row is written; the answer says whether it has an assignment. An uncorrectable flag or table row
gives a NaN row (R224). -/
def State.combineToken (s : State) (n : Nat) (it : Item) (w t : Nat) (back : Bool) : Bool × State :=
  let d := it.desc
  let h := rdHidden d
  let ((f, fbad), s) := s.rNum n it.ctx (rdAddr d 1 + t) 1
  let ((b, abad), s) := s.rRead n it.ctx (rdAddr d 0 + 128 * t) 128
  let entries := entriesOf 16 8 b
  let work := entries.any (fun a => aState a != 0)
  let nan : Sum := { acc := List.replicate h nan32, flags := f, work := work }
  let (x, s) := if fbad || abad then ({ nan with work := true }, s)
    else if f &&& tfNan ≠ 0 then (nan, s)
    else s.combineRanks n it w t back { acc := List.replicate h 0, flags := f } ((List.range (rdTopK d)).zip entries)
  let s := if x.flags = f then s else s.sWrite n it.ctx (rdAddr d 1 + t) (leBytes 1 x.flags)
  let s := s.sWrite n it.ctx (rdAddr d 2 + t * alignUp (4 * h) 32) (x.acc.flatMap (leBytes 4))
  let s := if back then s.sWrite n it.ctx (rdAddr d 3 + 32 * t) (x.gates.flatMap (leBytes 4)) else s
  (x.work, s)

/-- The tokens in order. -/
def State.combineTokens (s : State) (n : Nat) (it : Item) (w : Nat) (back : Bool) : List Nat → Bool × State
  | [] => (false, s)
  | t :: ts =>
    let (x, s) := s.combineToken n it w t back
    let r := s.combineTokens n it w back ts
    (x || r.1, r.2)

/-- A COMBINE or BWD_COMBINE runs, and the return buffers are released. -/
def State.runCombine (s : State) (n : Nat) (it : Item) (w : Nat) (back : Bool) : State :=
  let d := it.desc
  let s := if s.anyDropped it.ctx it.step w then s.meet n .droppedLate else s
  let (work, s) := s.combineTokens n it w back (List.range (rdTokens d))
  let s := s.releaseBufs (fun b => b.ctx == it.ctx && b.layer == rdLayer d && b.microBatch == rdMicro d)
  (if work then s else s.meet n .okZeroWork).finish n

/-- COMBINE (R216). -/
def execCombine (item : Nat) (s : State) : Res :=
  .next (s.routerOp item 0x43 (fun s n it w _ => s.runCombine n it w false))

/-! ### Cancellation (R219) -/

/-- An accepted router item of a cancelled micro-batch: what it would send shrinks to close markers, and it completes
CANCELLED. -/
def State.cancelItem (s : State) (n : Nat) (it : Item) : State :=
  let own := fun (o : Outgoing) => o.item == some n
  let closes := routerSends (descOpcode it.desc) && (it.phase == .accepted || s.outgoing.any own)
  let s := (s.setOutgoing (s.outgoing.filter (fun o => !(own o))))
  let s := match s.routerWindow it with
    | some w => if closes then s.stageCloses it w else s
    | none => s
  s.finishWith n .cancelled

/-- The item is an accepted, unfinished router descriptor of the micro-batch. -/
def Item.routerOf (it : Item) (c m : Nat) : Bool :=
  it.ctx == c && it.isPlanned && !it.isDone && (rdUsed (descOpcode it.desc)).isSome && rdMicro it.desc == m

/-- A micro-batch is cancelled for the rest of the step. -/
def State.cancelMicro (s : State) (c m : Nat) : State :=
  if s.isCancelled c m then s
  else
    let s := s.setRouter { s.router with cancelled := tset s.router.cancelled c (tget 0 s.router.cancelled c ||| (1 <<< m)) }
    let s := s.setRegF Obj.ROUTER_BATCH_EPOCH c m ((s.batchEpoch c m + 1) % 256)
    let s := s.releaseBufs (fun b => b.ctx == c && b.microBatch == m)
    (s.items.filter (fun e => e.2.routerOf c m)).foldl (fun s e => s.cancelItem e.1 e.2) s

/-- A write of ROUTER_CANCEL. -/
def State.routerCancel (s : State) (c mask : Nat) : Nat × State := (0, (bitsOf 64 mask).foldl (fun s m => s.cancelMicro c m) s)

/-- ROUTER_CANCEL_WRITE (R219). -/
def execRouterCancelWrite (who : Who) (ctx mask : Nat) (s : State) : Res :=
  .next (s.row who Obj.ROUTER_CANCEL ctx true (fun s => s.routerCancel ctx mask))

/-! ### Steps and resets -/

/-- A step of a context opens: what earlier steps left goes (R219, R222). -/
def State.routerNewStep (s : State) (c step : Nat) : State :=
  let old := fun (k x : Nat) => k == c && x != step % 65536 && x != (step + 1) % 65536
  let s := s.releaseRings (fun b => old b.ctx b.step)
  let s := s.releaseBufs (fun b => b.ctx == c)
  s.setRouter { s.router with
    strays := s.router.strays.filter (fun x => !(old x.1 x.2.1))
    consumed := s.router.consumed.filter (fun x => !(old x.1 x.2.1))
    rows := s.router.rows.filter (fun x => x.ctx != c)
    cancelled := terase s.router.cancelled c }

/-- A step of a context ends: a lost old host sends no DRAIN_COMPLETE (R225). -/
def State.routerStepEnd (s : State) (c : Nat) : State :=
  let l := s.router.switching.map (fun x => if x.ctx == c && s.rankLost c x.oldHost then { x with drained := true } else x)
  (s.setRouter { s.router with switching := l }).countDrains c

/-- A context reset: the router holds nothing of it; its pool buffers are the pool manager's to release (14 R399). -/
def State.routerForget (s : State) (c : Nat) : State :=
  (s.setRouter
    { rings := s.router.rings.filter (fun b => b.ctx != c), strays := s.router.strays.filter (fun x => x.1 != c),
      consumed := s.router.consumed.filter (fun x => x.1 != c), rows := s.router.rows.filter (fun x => x.ctx != c),
      bufs := s.router.bufs.filter (fun b => b.ctx != c), cancelled := terase s.router.cancelled c,
      switching := s.router.switching.filter (fun x => x.ctx != c) }).countDrains c

end Sys2Proof.Machine
end

