-- ==== Sys2Proof/Machine/Scalar.lean ====
section
/-! DEFINITION. Sys2Proof/Machine/Scalar.lean: the scalar and control instructions of element programs, facet loads and stores,
and the start and limit of a program (05_vector_engine_and_sequencer R145, R149-R152). -/

namespace Sys2Proof.Machine

/-! ### Starting a program (R146, R149, R150) -/

def vdProgAddr (d : Nat) : Nat := 32 * field d 480 16
def vdProgLen (d : Nat) : Nat := field d 464 16
def vdArg (d n : Nat) : Nat := field d (384 - 64 * n) 64

/-- A vector descriptor is refused: counted and logged (R150). -/
def State.refuseVector (s : State) (n c code : Nat) : State := (s.bump Obj.VECTOR_REFUSED_COUNT c).refuse n 2 code

/-- The matrix item whose held tiles a descriptor consumes: HOLD_SRC positions earlier in the slot (R149), which must be a
matrix descriptor with DEST = VECTOR_HOLD. -/
def heldItem (th : Thread) (it : Item) : Option (Option Nat) :=
  let h := vdHoldSrc it.desc
  if h = 0 then some none
  else
    match (th.items.zip th.descs).find? (fun (e : Nat × Nat × Nat) => e.2.1 + h == it.pos) with
    | some (m, _, d) => if isMatrix (descOpcode d) && bit d 477 then some (some m) else none
    | none => none

/-- Reasons to refuse a RUN_PROGRAM: 1 reserved field, 2 program outside facet memory, 3 HOLD_SRC (R150); 0 when none holds. -/
def programCheck (th : Thread) (it : Item) : Nat :=
  let d := it.desc
  if field d 496 4 ≠ 0 ∨ field d 448 16 ≠ 0 then 1
  else if vdProgLen d = 0 ∨ facetBytes < vdProgAddr d + 8 * vdProgLen d then 2
  else if (heldItem th it).isNone then 3
  else 0

/-- How many programs of a facet hold a vector frame (R146). -/
def State.framesUsed (s : State) (f : Nat) : Nat :=
  ((s.facet f).threads.filter (fun (e : Nat × Thread) => match e.2.prog with | some p => p.framed | none => false)).length

/-- A frame is free and nobody waits for one. -/
def State.frameFree (s : State) (f : Nat) : Bool := decide (s.framesUsed f < 4) && (s.facet f).frameQueue.isEmpty

/-- ARG0-ARG6 are loaded into s1-s7 (R149). -/
def State.loadArgs (s : State) (f t d : Nat) : State :=
  (List.range 7).foldl (fun s n => s.sset f t (n + 1) (vdArg d n)) s

/-- A descriptor waits for a vector frame: its thread is switched out and stands in the queue (R144, R146). -/
def State.awaitFrame (s : State) (f t : Nat) (p : Program) : State :=
  let s := (s.setProg f t p).switchOut f t .frame
  let x := s.facet f
  s.setFacet f { x with frameQueue := x.frameQueue ++ [t] }

/-- The descriptor starts on its thread: it gets a zeroed frame, or waits for one (R144, R146). -/
def State.startProgram (s : State) (n : Nat) (it : Item) (t : Nat) (th : Thread) : State :=
  let f := it.facet
  let code := programCheck th it
  if code ≠ 0 then s.refuseVector n it.ctx code
  else
    let p : Program := { item := n, base := vdProgAddr it.desc, held := (heldItem th it).getD none }
    let s := s.loadArgs f t it.desc
    if s.frameFree f then (s.setProg f t { p with framed := true }).reach f t
    else s.awaitFrame f t p

/-- A vector descriptor reaches its thread, which takes it when it runs no other program. -/
def State.onThread (s : State) (n op : Nat) (act : Item → Nat → Thread → State → State) : State :=
  match s.item? n with
  | none => s
  | some it =>
    match s.threadOf it.facet n with
    | none => s
    | some (t, th) => if th.prog.isSome then s else s.withItem n [op] (fun it s => act it t th s)

/-- RUN_PROGRAM (R149). -/
def execRunProgram (item : Nat) (s : State) : Res :=
  .next (s.onThread item 0x20 (fun it t th s => s.startProgram item it t th))

/-- VECTOR_FRAME_GRANT (R146): the first in request order gets a zeroed frame. -/
def execVectorFrameGrant (facet : Nat) (s : State) : Res :=
  .next (match (s.facet facet).frameQueue with
    | [] => s
    | t :: ts =>
      if s.framesUsed facet < 4 then
        let s := s.setFacet facet { s.facet facet with frameQueue := ts }
        match s.prog? facet t with
        | none => s
        | some p =>
          let s := (s.setProg facet t { p with framed := true }).arrive facet t
          if p.combine then s else s.reach facet t
      else s)

/-- VPROG_INSN_LIMIT_EXCEEDED (R150): a program that has executed its limit and has not ended stops. -/
def execVprogInsnLimitExceeded (facet thread : Nat) (s : State) : Res :=
  .next (match s.thread? facet thread with
    | none => s
    | some th =>
      match th.prog with
      | none => s
      | some p => if p.framed = true ∧ p.combine = false ∧ s.insnLimit th.ctx ≤ p.count then s.stopProgram facet thread .failedTimeout else s)

/-! ### Scalar arithmetic (R152) -/

/-- An instruction sd = g(sa, sb). -/
def State.scalar2 (s : State) (f t op : Nat) (g : Nat → Nat → Nat) : State :=
  s.insn f t op (fun _ w s => s.sset f t (iSD w) (g (s.sget f t (iSA w)) (s.sget f t (iSB w)))
    (s.spoisoned f t (iSA w) || s.spoisoned f t (iSB w)))

/-- An instruction sd = g(sa, IMM). -/
def State.scalarImm (s : State) (f t op : Nat) (g : Nat → Nat → Nat) : State :=
  s.insn f t op (fun _ w s => s.sset f t (iSD w) (g (s.sget f t (iSA w)) (iImm w)) (s.spoisoned f t (iSA w)))

/-- 64-bit wrapping difference, and arithmetic shift right. -/
def sub64 (a b : Nat) : Nat := (a + 2 ^ 64 - b % 2 ^ 64) % 2 ^ 64
def sra64 (a n : Nat) : Nat := ofInt 64 (toInt 64 a / (2 ^ n : Int))

/-- SADD (R152). -/
def execSadd (facet thread : Nat) (s : State) : Res := .next (s.scalar2 facet thread 0x01 (fun a b => (a + b) % 2 ^ 64))

/-- SADDI (R152). -/
def execSaddi (facet thread : Nat) (s : State) : Res :=
  .next (s.scalarImm facet thread 0x02 (fun a i => (a + sext 32 64 i) % 2 ^ 64))

/-- SSUB (R152). -/
def execSsub (facet thread : Nat) (s : State) : Res := .next (s.scalar2 facet thread 0x03 sub64)

/-- SMUL (R152). -/
def execSmul (facet thread : Nat) (s : State) : Res := .next (s.scalar2 facet thread 0x04 (fun a b => a * b % 2 ^ 64))

/-- SAND (R152). -/
def execSand (facet thread : Nat) (s : State) : Res := .next (s.scalar2 facet thread 0x05 (fun a b => a &&& b))

/-- SOR (R152). -/
def execSor (facet thread : Nat) (s : State) : Res := .next (s.scalar2 facet thread 0x06 (fun a b => a ||| b))

/-- SXOR (R152). -/
def execSxor (facet thread : Nat) (s : State) : Res := .next (s.scalar2 facet thread 0x07 Nat.xor)

/-- SSHL (R152). -/
def execSshl (facet thread : Nat) (s : State) : Res :=
  .next (s.scalarImm facet thread 0x08 (fun a i => a * 2 ^ (i % 64) % 2 ^ 64))

/-- SSHR (R152). -/
def execSshr (facet thread : Nat) (s : State) : Res :=
  .next (s.scalarImm facet thread 0x09 (fun a i => a / 2 ^ (i % 64)))

/-- SSRA (R152). -/
def execSsra (facet thread : Nat) (s : State) : Res :=
  .next (s.scalarImm facet thread 0x0A (fun a i => sra64 a (i % 64)))

/-- SLI (R152). -/
def execSli (facet thread : Nat) (s : State) : Res :=
  .next (s.insn facet thread 0x0B (fun _ w s => s.sset facet thread (iSD w) (sext 32 64 (iImm w))))

/-- SLUI (R152): bits 63:32 are the immediate; the low word keeps its value. -/
def execSlui (facet thread : Nat) (s : State) : Res :=
  .next (s.insn facet thread 0x0C (fun _ w s =>
    s.sset facet thread (iSD w) (2 ^ 32 * iImm w + s.sget facet thread (iSD w) % 2 ^ 32) (s.spoisoned facet thread (iSD w))))

/-- An FP32 operation on the low words; the high word of the result is zero (DEDUCED, notes/assumptions/16). -/
def low32 (g : Nat → Nat → Nat) (a b : Nat) : Nat := g (a % 2 ^ 32) (b % 2 ^ 32)

/-- SFADD (R152). -/
def execSfadd (facet thread : Nat) (s : State) : Res := .next (s.scalar2 facet thread 0x0D (low32 fAdd))

/-- SFMUL (R152). -/
def execSfmul (facet thread : Nat) (s : State) : Res := .next (s.scalar2 facet thread 0x0E (low32 fMul))

/-- SFDIV (R152). -/
def execSfdiv (facet thread : Nat) (s : State) : Res := .next (s.scalar2 facet thread 0x0F (low32 fDiv))

/-- SCMPLT (R152). -/
def execScmplt (facet thread : Nat) (s : State) : Res :=
  .next (s.scalar2 facet thread 0x10 (fun a b => if toInt 64 a < toInt 64 b then 1 else 0))

/-- SCMPEQ (R152). -/
def execScmpeq (facet thread : Nat) (s : State) : Res :=
  .next (s.scalar2 facet thread 0x11 (fun a b => if a = b then 1 else 0))

/-! ### Control -/

/-- The instruction a branch to IMM reaches: a negative target lies beyond facet memory (R150). -/
def branchTarget (imm : Nat) : Nat := sext 32 64 imm

/-- BR (R152). -/
def execBr (facet thread : Nat) (s : State) : Res :=
  .next (s.onInsn facet thread 0x12 (fun p w s =>
    s.goto facet thread (if s.sget facet thread (iSA w) ≠ 0 then branchTarget (iImm w) else p.pc + 1)))

/-- BRZ (R152). -/
def execBrz (facet thread : Nat) (s : State) : Res :=
  .next (s.onInsn facet thread 0x13 (fun p w s =>
    s.goto facet thread (if s.sget facet thread (iSA w) = 0 then branchTarget (iImm w) else p.pc + 1)))

/-- JMP (R152). -/
def execJmp (facet thread : Nat) (s : State) : Res :=
  .next (s.onInsn facet thread 0x14 (fun _ w s => s.goto facet thread (branchTarget (iImm w))))

/-- END (R152). -/
def execProgEnd (facet thread : Nat) (s : State) : Res :=
  .next (s.onInsn facet thread 0x15 (fun _ w s => s.endProgram facet thread (iImm w == 1)))

/-- Special register n of a running program (R145); a number not listed reads 0. -/
def State.special (s : State) (f t n : Nat) : Nat :=
  match s.thread? f t with
  | none => 0
  | some th =>
    match n with
    | 0 => f
    | 1 => t
    | 2 => th.ctx
    | 3 => th.gen
    | 4 => th.step
    | 5 => th.slot
    | 6 => th.layer
    | 7 => th.microBatch
    | 8 => (match th.prog with
        | some p => (match s.item? p.item with | some it => it.pos | none => 0)
        | none => 0)
    | _ => 0

/-- SRD (R145). -/
def execSrd (facet thread : Nat) (s : State) : Res :=
  .next (s.insn facet thread 0x16 (fun _ w s => s.sset facet thread (iSD w) (s.special facet thread (iImm w))))

/-! ### Facet loads and stores of scalars -/

/-- A program has read an uncorrectable word: it runs on and will complete FAILED_UNCORRECTABLE (R166, R167). -/
def State.poisonItem (s : State) (f t : Nat) : State :=
  match s.prog? f t with
  | some p => s.meet p.item .failedUncorrectable
  | none => s

/-- SLD (R152): a poisoned word gives an open value in a poisoned register (R166). -/
def execSld (facet thread : Nat) (s : State) : Res :=
  .next (s.insn facet thread 0x1D (fun _ w s =>
    let a := (s.sget facet thread (iSA w) + sext 32 64 (iImm w)) % 2 ^ 64
    let (g, s) := s.fmRead facet a 8
    if g.protection then s.stopProgram facet thread .failedProtection
    else if g.poison then
      ((s.sset facet thread (iSD w) (s.fresh (2 ^ 64)) true).took).poisonItem facet thread
    else s.sset facet thread (iSD w) g.num (s.spoisoned facet thread (iSA w))))

/-- SST (R152): a poisoned register stores an open value (DESIGN CHOICE, notes/assumptions/17). -/
def execSst (facet thread : Nat) (s : State) : Res :=
  .next (s.insn facet thread 0x1E (fun _ w s =>
    let a := (s.sget facet thread (iSA w) + sext 32 64 (iImm w)) % 2 ^ 64
    let bad := s.spoisoned facet thread (iSD w)
    let v := if bad then s.fresh (2 ^ 64) else s.sget facet thread (iSD w)
    let s := if bad then s.took else s
    let c := match s.thread? facet thread with | some th => th.ctx | none => 0
    match s.fmWrite c facet a (leBytes 8 v) with
    | (true, s) => s
    | (false, s) => s.stopProgram facet thread .failedProtection))

end Sys2Proof.Machine
end

