-- ==== Sys2Proof/Machine/Fabric.lean ====
section
/-! DEFINITION. Sys2Proof/Machine/Fabric.lean: fabric memory: addresses, requests and replies of the source agent, and bulk
transfers (12_fabric_memory R329-R349, 15_faults_and_recovery R426-R428). -/

namespace Sys2Proof.Machine

/-! ### Addresses (R329-R331) -/

def faNode (a : Nat) : Nat := field a 50 14
def faReserved (a : Nat) : Nat := field a 40 10
def faOff (a : Nat) : Nat := field a 0 40

/-- The physical node of an address of context `c` (R330). -/
def State.fabNode (s : State) (c a : Nat) : Option Nat :=
  if c = 0 ∨ s.reg Obj.FABRIC_ADDR_MODE c = 1 then some (faNode a) else s.nodeOfRank c (faNode a)

/-- The node an address may be sent to: no reserved bit, a mapped rank, a route (R329, R330, R348). -/
def State.fabTarget (s : State) (c a : Nat) : Option Nat :=
  if faReserved a ≠ 0 then none
  else match s.fabNode c a with
    | some n => if n = s.node ∨ s.routable n = true then some n else none
    | none => none

/-- `n` bytes from an offset lie in a space of R331 whatever the target's region. -/
def fabSpace (o n : Nat) : Bool := decide (o + n ≤ hbmBytes) || (decide (apertureBase ≤ o) && decide (o + n ≤ apertureEnd))

/-! ### Records (R334) -/

/-- A request record. -/
structure FabRecord where
  op : Nat
  aop : Nat
  ty : Nat
  retry : Bool
  off : Nat
  fseq : Nat
  fack : Nat
  operand : Nat
  compare : Nat
  data : Bytes
  deriving DecidableEq, Repr

/-- A request record and the data that follows it. -/
def requestAt (bs : Bytes) : FabRecord :=
  let w := ofBE (bs.take 32)
  { op := field w 252 4, aop := field w 248 4, ty := field w 244 4, retry := bit w 243, off := field w 200 40,
    fseq := field w 168 32, fack := field w 136 32, operand := field w 64 64, compare := field w 0 64, data := bs.drop 32 }

/-- The bytes of a request. -/
def FabRecord.bytes (r : FabRecord) : Bytes :=
  beBytes 32 (place r.op 252 4 + place r.aop 248 4 + place r.ty 244 4 + place (ofBool r.retry) 243 1 + place r.off 200 40
    + place r.fseq 168 32 + place r.fack 136 32 + place r.operand 64 64 + place r.compare 0 64) ++ r.data

/-- A reply record and its data. -/
structure FabReply where
  op : Nat
  status : Nat
  outcome : Nat
  cached : Bool := false
  busy : Bool := false
  fseq : Nat
  value : Nat := 0
  data : Bytes := []
  deriving DecidableEq, Repr

/-- The bytes of a reply. -/
def FabReply.bytes (r : FabReply) : Bytes :=
  beBytes 32 (place r.op 252 4 + place r.status 244 8 + place r.outcome 242 2 + place (ofBool r.cached) 241 1
    + place (ofBool r.busy) 240 1 + place r.fseq 200 32 + place r.value 64 64) ++ r.data

/-- A reply record. -/
def replyAt (bs : Bytes) : FabReply :=
  let w := ofBE (bs.take 32)
  { op := field w 252 4, status := field w 244 8, outcome := field w 242 2, cached := bit w 241, busy := bit w 240,
    fseq := field w 200 32, value := field w 64 64, data := bs.drop 32 }

/-- The status of a code (14 R387); a code beyond the table reads as a protection failure. -/
def Status.ofCode (n : Nat) : Status :=
  [Status.ok, .okZeroWork, .droppedLate, .cancelled, .failedPeerReset, .failedContextReset, .failedUncorrectable,
   .failedTimeout, .failedQuota, .failedProtection, .scaleExhausted].getD n .failedProtection

/-- The outcome of a code (R333). -/
def FabOutcome.ofCode (n : Nat) : FabOutcome := if n = 0 then .notApplied else if n = 1 then .applied else .unknown

/-- The status word of FLD and FATOM (R333). -/
def statusWord (st : Status) (oc : FabOutcome) : Nat := place st.code 0 8 + place oc.code 8 2

/-! ### Requests at the source (R335-R338) -/

def State.setFab (s : State) (f : Fabric) : State := { s with fab := f }

/-- Requests to a node that have been sent and have no outcome; a RESOLVE is not counted against the limit of R335
(DEDUCED, notes/assumptions/27). -/
def State.fabOutstanding (s : State) (node : Nat) : Nat :=
  (s.fab.reqs.filter (fun r => r.node == node && (match r.why with | .resolve _ => false | _ => true))).length

/-- A request toward a node may leave: fewer than 4,096 are outstanding to it, and fewer than 65,536 in all (R335, R351). -/
def State.fabRoom (s : State) (node : Nat) : Bool :=
  decide (s.fabOutstanding node < 4096)
    && decide ((s.fab.reqs.filter (fun r => match r.why with | .resolve _ => false | _ => true)).length < 65536)

/-- FACK toward a node: the oldest FSEQ without a reply, or the next one (R334). -/
def State.fack (s : State) (node : Nat) : Nat :=
  match s.fab.reqs.find? (fun r => r.node == node) with
  | some r => r.fseq
  | none => tget 0 s.fab.next node

/-- A request replaced, by its serial number. -/
def State.setReq (s : State) (r : FabReq) : State :=
  s.setFab { s.fab with reqs := s.fab.reqs.map (fun x => if x.serial = r.serial then r else x) }

/-- The request toward a node with an FSEQ. -/
def State.req? (s : State) (node fseq : Nat) : Option FabReq :=
  s.fab.reqs.find? (fun r => r.node == node && r.fseq == fseq)

/-- A request's packet leaves (R334); at this device itself it needs no acknowledgement. -/
def State.fabSend (s : State) (r : FabReq) (retry : Bool) : State :=
  let s := s.setReq { r with acked := decide (r.node = s.node), busy := false }
  s.sendRecord r.node r.vc r.ctx
    (FabRecord.bytes { op := r.op, aop := r.aop, ty := r.ty, retry := retry, off := r.off, fseq := r.fseq,
                       fack := s.fack r.node, operand := r.operand, compare := r.compare, data := r.data })
    (.request r.node r.fseq)

/-- A request gets its FSEQ and leaves (R335). -/
def State.fabLaunch (s : State) (r : FabReq) : State :=
  let n := tget 0 s.fab.next r.node
  let r := { r with fseq := n, dstGen := if r.node = s.node then s.gen r.ctx else s.peerGen r.node r.ctx }
  let s := s.setFab { s.fab with next := tset s.fab.next r.node ((n + 1) % 2 ^ 32), reqs := s.fab.reqs ++ [r] }
  s.fabSend r false

/-- A new request: it leaves, or waits until there is room (R335). Its serial number is the state's next. -/
def State.fabIssue (s : State) (r : FabReq) : State :=
  let r := { r with serial := s.fab.serial, gen := s.gen r.ctx, finv := tget 0 s.fab.finvs r.ctx }
  let s := s.setFab { s.fab with serial := s.fab.serial + 1 }
  if s.fabRoom r.node then s.fabLaunch r else s.setFab { s.fab with waiting := s.fab.waiting ++ [r] }

/-- The oldest request that waits and for which there is room leaves. -/
def State.fabPump (s : State) : State :=
  match s.fab.waiting.find? (fun r => s.fabRoom r.node) with
  | some r => (s.setFab { s.fab with waiting := s.fab.waiting.filter (fun x => x.serial != r.serial) }).fabLaunch r
  | none => s

/-- A RESOLVE asks what became of a request (R339). -/
def State.fabResolve (s : State) (r : FabReq) : State :=
  let s := s.setReq { r with resolving := true }
  let q : FabReq := { serial := s.fab.serial, node := r.node, vc := r.vc, ctx := r.ctx, gen := s.gen r.ctx, op := 4, off := 0,
                      operand := r.fseq, why := .resolve r.fseq }
  (s.setFab { s.fab with serial := s.fab.serial + 1 }).fabLaunch q

/-! ### The read cache (R343, R344) -/

/-- Lines of a context that overlap a range of fabric addresses are removed. -/
def State.dropLines (s : State) (c a n : Nat) : State :=
  s.setFab { s.fab with lines := s.fab.lines.filter (fun l => !(l.ctx == c && decide (l.addr < a + n) && decide (a < l.addr + 128))) }

/-- Fills of a context that are on their way will not be installed. -/
def State.stopFills (s : State) (c : Nat) : State :=
  s.setFab { s.fab with finvs := tset s.fab.finvs c (tget 0 s.fab.finvs c + 1) }

/-- Every line of a context is removed: context reset, rank-map commit (R344). -/
def State.dropContextLines (s : State) (c : Nat) : State :=
  (s.setFab { s.fab with lines := s.fab.lines.filter (fun l => l.ctx != c) }).stopFills c

/-- The lines of a range are removed, and no fill on its way brings one back: FINV, and an FST, FATOM or PUT of this device (R344, R349).
-/
def State.finvRange (s : State) (c a n : Nat) : State := (s.dropLines c a n).stopFills c

/-- The valid line of an address. -/
def State.lineOf (s : State) (c a : Nat) : Option FabLine :=
  s.fab.lines.find? (fun l => l.ctx == c && l.gen == s.gen c && l.addr == a - a % 128)

/-- The set of the read cache that a line belongs to, one of 8,192 (R343). -/
def FabLine.set (l : FabLine) : Nat := Config.cacheSet l.ctx l.gen l.addr % 8192

/-- A line is installed in its set; of more than 16 in a set the oldest leaves (R343; DESIGN CHOICE, notes/assumptions/82). -/
def State.fillLine (s : State) (l : FabLine) : State :=
  let kept := s.fab.lines.filter (fun x => !(x.ctx == l.ctx && x.gen == l.gen && x.addr == l.addr))
  let mine := fun (x : FabLine) => decide (16 ≤ kept.length) && x.set == l.set
  s.setFab { s.fab with lines := kept.filter (fun x => !(mine x)) ++ keepLast 15 (kept.filter mine) ++ [l] }

/-! ### Results for threads (R332, R333, R342, R167) -/

/-- A remote access of a running program has ended: a failure applies until the same access has succeeded (05 R167). -/
def State.remoteEnded (s : State) (f t kind addr : Nat) (st : Status) : State :=
  match s.prog? f t with
  | none => s
  | some p =>
    let rest := p.failing.filter (fun (x : Nat × Nat × Status) => !(x.1 == kind && x.2.1 == addr))
    s.setProg f t { p with failing := match st with | .ok => rest | _ => rest ++ [(kind, addr, st)] }

/-- A posted store of item `n` has ended, perhaps after its program: its failure applies to its own descriptor (05 R167). -/
def State.storeEnded (s : State) (f t n addr : Nat) (st : Status) : State :=
  match s.prog? f t, st with
  | some p, st => if p.item = n then s.remoteEnded f t 0x19 addr st else (match st with | .ok => s | st => s.failLate n st)
  | none, .ok => s
  | none, st => s.failLate n st

/-- Status and value of an FLD reach its thread (R333): a poisoned word is written poisoned, any other failure writes 0. -/
def State.loadEnded (s : State) (f t sd sb addr : Nat) (st : Status) (oc : FabOutcome) (value : Nat) (poison : Bool) : State :=
  let s := s.sset f t sd (if st == .ok || poison then value else 0) poison
  (s.sset f t sb (statusWord st oc)).remoteEnded f t 0x18 addr st

/-- The first failure of the FSTs and FATOMs a thread has issued, as FFENCE reports it (R342). -/
def Thread.fenceValue (th : Thread) : Nat :=
  match th.fails with
  | [] => 0
  | (_, st) :: _ => st

/-- A posted request of a thread has its outcome: a thread that waits for it goes on (R332, R342). -/
def State.postedEnded (s : State) (f t serial : Nat) (st : Status) : State :=
  match s.thread? f t with
  | none => s
  | some th =>
    if th.posted.contains serial then
      let th := { th with posted := nsErase th.posted serial, stores := nsErase th.stores serial,
                          fails := match st with | .ok => th.fails | _ => tset th.fails serial st.code }
      let s := s.setThread f t th
      match th.wait with
      | .store => if th.stores.length < 32 then s.arrive f t else s
      | .fence sd => if th.posted.isEmpty then (s.sset f t sd th.fenceValue).arrive f t else s
      | _ => s
    else s

/-- The old value of a FATOM as it goes to a register: INT32 sign-extended, FP32 zero-extended (R332). -/
def oldValue (ty v : Nat) : Nat := if ty = 0 then sext 32 64 v else if ty = 2 then v % 2 ^ 32 else v

/-- The thread waits for this request. -/
def State.awaitsReply (s : State) (f t serial : Nat) : Bool :=
  match s.thread? f t with
  | some th => (match th.wait with | .reply n => n == serial | _ => false)
  | none => false

/-- A FATOM has its outcome (R332, R333). -/
def State.atomicEnded (s : State) (r : FabReq) (f t sd : Nat) (st : Status) (oc : FabOutcome) (value : Nat) : State :=
  let s := if s.awaitsReply f t r.serial then
      let s := s.sset f t sd (match oc with | .applied => oldValue r.ty value | _ => 0)
      ((s.sset f t (sd + 1) (statusWord st oc)).remoteEnded f t (0x1A + 256 * r.aop) r.addr st).arrive f t
    else s
  s.postedEnded f t r.serial st

/-! ### Results for descriptors (R346, R348) -/

/-- Chunks of an item have no outcome yet. -/
def State.chunksOut (s : State) (n : Nat) : Bool :=
  (s.fab.reqs ++ s.fab.waiting).any (fun r => match r.why with | .chunk m _ => m == n | _ => false)

/-- The OUTCOME a descriptor reports when its chunks differ: that of the chunks with the status it reports, if they agree;
otherwise open (DESIGN CHOICE, notes/assumptions/28). -/
def State.chunkOutcome (s : State) (l : List (Status × FabOutcome)) : FabOutcome × State :=
  let st := Status.report (l.map (·.1))
  match l.filter (fun (e : Status × FabOutcome) => e.1 == st) with
  | [] => (.notApplied, s)
  | e :: r =>
    if r.all (fun x => x.2 == e.2) then (e.2, s) else (FabOutcome.ofCode (s.fresh 3), s.took)

/-- A GET or PUT whose last chunk has its outcome is finished. -/
def State.bulkEnded (s : State) (n : Nat) : State :=
  if s.chunksOut n then s
  else
    let l := tget [] s.fab.outs n
    let (oc, s) := s.chunkOutcome l
    let s := s.setFab { s.fab with outs := terase s.fab.outs n }
    let s := match Status.report (l.map (·.1)), s.item? n with
      | .failedProtection, some it => s.bump Obj.FABRIC_PROTECTION_COUNT it.ctx
      | _, _ => s
    (l.foldl (fun s (e : Status × FabOutcome) => s.meet n e.1) s).finish n oc

/-- What a chunk has come to is noted once. -/
def State.noteChunk (s : State) (n : Nat) (st : Status) (oc : FabOutcome) : State :=
  let l := tget [] s.fab.outs n
  if l.contains (st, oc) then s else s.setFab { s.fab with outs := tset s.fab.outs n (l ++ [(st, oc)]) }

/-- A failed FST, FATOM, GET or PUT of a slot is kept for PUBLISH (R347). -/
def State.noteFailure (s : State) (c : Nat) (issuer : Option (Nat × Nat)) (st : Status) : State :=
  match issuer, st with
  | _, .ok => s
  | some (a, b), st => s.setFab { s.fab with fails := tset s.fab.fails c (tget [] s.fab.fails c ++ [(a, b, st)]) }
  | none, _ => s

/-- The data of a GET chunk is written locally; data that came back poisoned is written poisoned. -/
def State.getChunk (s : State) (n off : Nat) (st : Status) (data : Bytes) : Status × State :=
  match s.item? n with
  | none => (st, s)
  | some it =>
    let a := field it.desc 360 40 + off
    match st with
    | .ok =>
      (match s.ctxWrite it.ctx a data (some n) with
       | (.done, s) => (.ok, s)
       | (p, s) => (p.status, s))
    | .failedUncorrectable =>
      (st, ((s.ctxWrite it.ctx a data).2).markBytes it.ctx ((List.range data.length).map (fun i => a + i)))
    | _ => (st, s)

/-! ### The mirror's commit record (15 R426-R428) -/

/-- LAG, BUDDY_RANK, AREA_OFFSET and SLOT_BYTES of a context's mirror. -/
def State.mirrorOn (s : State) (c : Nat) : Bool := s.regF Obj.MIRROR_CONFIG c 0 != 0
def State.mirrorLag (s : State) (c : Nat) : Nat := s.regF Obj.MIRROR_CONFIG c 1
def State.mirrorBuddy (s : State) (c : Nat) : Nat := s.regF Obj.MIRROR_CONFIG c 2

/-- The mirror slot of the open step, as an offset on the buddy: slot (s - LAG) mod 2 (15 R427). -/
def State.mirrorBase (s : State) (c : Nat) : Nat :=
  s.regF Obj.MIRROR_CONFIG c 3 + (s.reg Obj.STEP_NUMBER c + s.mirrorLag c) % 2 * s.regF Obj.MIRROR_CONFIG c 4

/-- The commit record (15 R426). -/
def State.commitRecord (s : State) (c : Nat) (valid : Bool) : Nat :=
  let p := s.plan c
  place 0x4D495252 480 32 + place (ofBool valid) 479 1 + place (s.rank c) 450 14
    + place (s.reg Obj.STEP_NUMBER c + 2 ^ 32 - s.mirrorLag c) 416 32
    + place (match p.image with | some im => im.header.planId | none => 0) 352 64
    + place p.mirrorBytes 288 64 + place p.mirrorOk 256 32 + place s.epoch 224 32 + place (s.gen c) 208 16

/-- The commit record of the open step is written to the buddy: part 0 invalidates it, part 1 makes it valid. None: it
cannot be sent. -/
def State.writeCommit (s : State) (c part : Nat) : Option State :=
  match s.nodeOfRank c (s.mirrorBuddy c) with
  | none => none
  | some node =>
    if node = s.node ∨ s.routable node = true then
      some (s.fabIssue { serial := 0, node := node, vc := 5, ctx := c, gen := 0, op := 3, off := s.mirrorBase c,
                         data := leBytes 64 (s.commitRecord c (part == 1)), why := .mirror c part })
    else none

/-- No commit was written: record 0x033 with the step and the first failing status (15 R428). -/
def State.mirrorFailed (s : State) (c status : Nat) : State :=
  let step := s.reg Obj.STEP_NUMBER c
  let s := (s.setRegF Obj.MIRROR_STATUS c 1 step).bumpF Obj.MIRROR_STATUS c 3 1
  s.log! { code := 0x033, sub := 10, ctx := c, status := status, info0 := step, info1 := status }

/-- The commit record's valid form has been written, or has failed (15 R428). -/
def State.mirrorClosed (s : State) (c : Nat) (st : Status) : State :=
  let p := s.plan c
  let s := s.setPlan c { p with mirrorClosing := false }
  match st with
  | .ok => s.setRegF Obj.MIRROR_STATUS c 0 (s.reg Obj.STEP_NUMBER c)
  | _ => s.mirrorFailed c st.code

/-! ### Bulk transfers (R345, R346) -/

def fdVc (d : Nat) : Nat := field d 501 3
def fdLength (d : Nat) : Nat := field d 464 32
def fdRemote (d : Nat) : Nat := field d 400 64
def fdLocal (d : Nat) : Nat := field d 360 40

/-- The first check of R345 that a descriptor fails, 0 when it passes: 1 a reserved field or code, 2 a misaligned field,
3 an address outside the spaces of R331. -/
def State.fabricCheck (s : State) (c d : Nat) : Nat :=
  let op := descOpcode d
  let n := fdLength d
  let o := faOff (fdRemote d)
  if field d 496 5 ≠ 0 ∨ field d 0 360 ≠ 0 ∨ (fdVc d ≠ 4 ∧ fdVc d ≠ 5) ∨ op < 0x60 ∨ 0x63 < op then 1
  else if op = 0x62 then (if n ≠ 0 ∨ fdRemote d ≠ 0 ∨ fdLocal d ≠ 0 then 2 else 0)
  else if n = 0 ∨ n % 32 ≠ 0 ∨ fdLocal d % 32 ≠ 0 ∨ o % 32 ≠ 0 then 2
  else if faReserved (fdRemote d) ≠ 0 ∨ fabSpace o n = false then 3
  else if op = 0x63 then 0
  else
    let l := fdLocal d
    if apertureBase ≤ l then (if l + n ≤ apertureEnd then 0 else 3)
    else if s.inRegion c l n then 0 else 3

/-- A descriptor is refused (R345). -/
def State.refuseFabric (s : State) (n c code : Nat) : State := (s.bump Obj.FABRIC_PROTECTION_COUNT c).refuse n 10 code

/-- A descriptor fails FAILED_PROTECTION where none of the checks of R345 names it. -/
def State.denyFabric (s : State) (n c : Nat) : State := (s.bump Obj.FABRIC_PROTECTION_COUNT c).finishWith n .failedProtection

/-- A descriptor ends with a status; FAILED_PROTECTION is counted (R352). -/
def State.endFabric (s : State) (n c : Nat) (st : Status) : State :=
  match st with | .failedProtection => s.denyFabric n c | st => s.finishWith n st

/-- The error log names a destination node that no route reaches (10_lattices_and_mapping R287). -/
def State.namesNode (s : State) (c a : Nat) : State :=
  match s.fabNode c a with
  | some n => if faReserved a = 0 ∧ n ≠ s.node ∧ s.routable n = false then s.noRoute c n none else s
  | none => s

/-- Offsets at which a transfer of `n` bytes is cut into chunks (R346). -/
def chunkStarts (n : Nat) : List Nat := (List.range ((n + 4063) / 4064)).map (fun i => 4064 * i)

/-- Issuer of a planned item's requests: the order of its slot's start, and its position (R347). -/
def State.issuerOf (s : State) (it : Item) : Option (Nat × Nat) :=
  if it.isPlanned then ((s.plan it.ctx).slots.find? (fun (e : Nat × SlotRun) => e.1 % 65536 == it.slot && e.2.step == it.step)).map (fun e => (e.2.serial, it.pos)) else none

/-- One chunk of a GET is requested. -/
def State.getPiece (s : State) (n : Nat) (it : Item) (node off : Nat) : State :=
  let a := fdRemote it.desc
  s.fabIssue { serial := 0, node := node, vc := fdVc it.desc, ctx := it.ctx, gen := it.gen, op := 0, off := faOff a + off,
               operand := min 4064 (fdLength it.desc - off), addr := a + off, why := .chunk n off, issuer := s.issuerOf it }

/-- One chunk of a PUT is read and sent; a chunk whose data cannot be read is not sent. -/
def State.putPiece (s : State) (n : Nat) (it : Item) (node off : Nat) : State :=
  let a := fdRemote it.desc
  let (g, s) := s.ctxRead it.ctx (fdLocal it.desc + off) (min 4064 (fdLength it.desc - off)) 10
  match g.status with
  | .ok =>
    s.fabIssue { serial := 0, node := node, vc := fdVc it.desc, ctx := it.ctx, gen := it.gen, op := 3, off := faOff a + off,
                 data := g.bytes, addr := a + off, why := .chunk n off, issuer := s.issuerOf it }
  | st => (s.noteChunk n st .notApplied).noteFailure it.ctx (s.issuerOf it) st

/-- Every chunk of a PUT; its lines leave the read cache (R344). -/
def State.putAllPieces (s : State) (n : Nat) (it : Item) (node : Nat) : State :=
  let s := s.finvRange it.ctx (fdRemote it.desc) (fdLength it.desc)
  ((chunkStarts (fdLength it.desc)).foldl (fun s off => s.putPiece n it node off) s).bulkEnded n

/-- A GET or PUT that passes its checks and has a target runs. -/
def State.runBulk (s : State) (n : Nat) (it : Item) (act : Nat → State → State) : State :=
  let code := s.fabricCheck it.ctx it.desc
  if code ≠ 0 then s.refuseFabric n it.ctx code
  else match s.fabTarget it.ctx (fdRemote it.desc) with
    | none => (s.namesNode it.ctx (fdRemote it.desc)).denyFabric n it.ctx
    | some node => act node s

/-- GET (R346). -/
def execFabGet (item : Nat) (s : State) : Res :=
  .next (s.withItem item [0x60] (fun it s => s.runBulk item it (fun node s =>
    (chunkStarts (fdLength it.desc)).foldl (fun s off => s.getPiece item it node off) s)))

/-- The item is a mirror PUT's: its slot has PHASE CHECKPOINT_MIRROR and the mirror is enabled (15 R427). -/
def State.inMirrorSlot (s : State) (it : Item) : Bool :=
  it.isPlanned && s.mirrorOn it.ctx &&
    (match (s.plan it.ctx).image with
     | some im => (match im.slots[it.slot]? with | some sl => sl.phase == 5 | none => false)
     | none => false)

/-- A mirror PUT targets the buddy within the data part of the step's mirror slot (15 R427). -/
def State.mirrorTarget (s : State) (it : Item) (node : Nat) : Bool :=
  let b := s.mirrorBase it.ctx
  let o := faOff (fdRemote it.desc)
  s.nodeOfRank it.ctx (s.mirrorBuddy it.ctx) == some node && decide (b + 4096 ≤ o)
    && decide (o + fdLength it.desc ≤ b + s.regF Obj.MIRROR_CONFIG it.ctx 4)

/-- The commit record has been invalidated, and the mirror PUTs that waited for it go on; when that write failed, so do
they (15 R427). -/
def State.mirrorInvalidated (s : State) (c : Nat) (st : Status) : State :=
  let p := s.plan c
  let s := s.setPlan c { p with mirrorOpening := false, mirrorOpened := st == .ok }
  let mine := s.fab.parked.filter (fun n => match s.item? n with | some it => it.ctx == c | none => false)
  let s := s.setFab { s.fab with parked := s.fab.parked.filter (fun n => !(mine.contains n)) }
  mine.foldl (fun s n =>
    match s.item? n with
    | none => s
    | some it =>
      match st, s.fabTarget c (fdRemote it.desc) with
      | .ok, some node => if it.isDone then s else s.putAllPieces n it node
      | .ok, none => (s.namesNode c (fdRemote it.desc)).denyFabric n c
      | st, _ => s.endFabric n c st) s

/-- A mirror PUT: the first of the step has the commit record invalidated and waits for the outcome (15 R427). -/
def State.mirrorPut (s : State) (n : Nat) (it : Item) (node : Nat) : State :=
  let c := it.ctx
  if s.mirrorTarget it node = false then s.denyFabric n c
  else if (s.plan c).mirrorOpened then s.putAllPieces n it node
  else
    let s := s.setFab { s.fab with parked := s.fab.parked ++ [n] }
    if (s.plan c).mirrorOpening then s
    else
      let s := s.setPlan c { s.plan c with mirrorOpening := true }
      (s.writeCommit c 0).getD (s.mirrorInvalidated c .failedProtection)

/-- PUT (R346). -/
def execFabPut (item : Nat) (s : State) : Res :=
  .next (s.withItem item [0x61] (fun it s => s.runBulk item it (fun node s =>
    if s.inMirrorSlot it then s.mirrorPut item it node else s.putAllPieces item it node)))

/-- INVALIDATE (R346). -/
def execInvalidate (item : Nat) (s : State) : Res :=
  .next (s.withItem item [0x63] (fun it s =>
    let code := s.fabricCheck it.ctx it.desc
    if code ≠ 0 then s.refuseFabric item it.ctx code
    else (s.finvRange it.ctx (fdRemote it.desc) (fdLength it.desc)).finish item))

/-! ### How a request ends (R333, R348) -/

/-- A request leaves the agent; the next that waits for its node follows. -/
def State.dropReq (s : State) (r : FabReq) : State :=
  (s.setFab { s.fab with reqs := s.fab.reqs.filter (fun x => x.serial != r.serial),
                         waiting := s.fab.waiting.filter (fun x => x.serial != r.serial) }).fabPump

/-- The outcome of a request reaches whoever made it. -/
def State.deliver (s : State) (r : FabReq) (st : Status) (oc : FabOutcome) (value : Nat) (data : Bytes) : State :=
  match r.why with
  | .load f t sd sb fill =>
    let v := if fill then ofLE ((data.drop (r.addr % 128)).take 8) else value
    let s := if fill && st == .ok && r.finv == tget 0 s.fab.finvs r.ctx then
        s.fillLine { ctx := r.ctx, gen := r.gen, addr := r.addr - r.addr % 128, bytes := data }
      else s
    if s.awaitsReply f t r.serial then (s.loadEnded f t sd sb r.addr st oc v (st == .failedUncorrectable)).arrive f t else s
  | .store f t n =>
    let s := s.noteFailure r.ctx r.issuer st
    (s.storeEnded f t n r.addr st).postedEnded f t r.serial st
  | .atomic f t sd => (s.noteFailure r.ctx r.issuer st).atomicEnded r f t sd st oc value
  | .chunk n off =>
    let (st, s) := if r.op = 0 then s.getChunk n off st data else (st, s)
    ((s.noteFailure r.ctx r.issuer st).noteChunk n st oc).bulkEnded n
  | .mirror c part => if part = 0 then s.mirrorInvalidated c st else s.mirrorClosed c st
  | .resolve _ => s

/-- A request of this device has its outcome: it is counted and delivered; one of a context that has been reset is not
reported (R340). -/
def State.fabEnd (s : State) (r : FabReq) (st : Status) (oc : FabOutcome) (value : Nat) (data : Bytes) : State :=
  let s := s.dropReq r
  if r.dead then s
  else
    let s := if oc = .unknown then s.bump Obj.FABRIC_UNKNOWN_COUNT r.ctx else s
    let s := if st = .failedProtection then s.bump Obj.FABRIC_PROTECTION_COUNT r.ctx else s
    s.deliver r st oc value data

/-- The request that a RESOLVE asked about ends with an outcome; so does the RESOLVE. -/
def State.resolveEnd (s : State) (q : FabReq) (fseq : Nat) (st : Status) (oc : FabOutcome) (value : Nat) : State :=
  let s := s.dropReq q
  match s.req? q.node fseq with
  | some r => s.fabEnd r st oc value []
  | none => s

/-- A request ends without a reply: the RESOLVE with the request it asked about. -/
def State.fabFail (s : State) (r : FabReq) (st : Status) (oc : FabOutcome) : State :=
  match r.why with
  | .resolve fseq => s.resolveEnd r fseq st oc 0
  | _ => s.fabEnd r st oc 0 []

/-- A delivered record belongs to the fabric agent: it alone uses VC4 and VC5 (DEDUCED, notes/assumptions/164). -/
def fabricsRecord (d : Delivered) : Bool := !d.close && (d.vc == 4 || d.vc == 5)

/-- FABRIC_REPLY_RECEIVE (R333): the first fabric record that the flow has delivered is a reply. A reply to no outstanding
request finds nothing to do. -/
def execFabricReplyReceive (node vc : Nat) (s : State) : Res :=
  .next (match s.takeInbox node vc fabricsRecord with
    | none => s
    | some (d, s) =>
      let p := replyAt d.bytes
      match s.req? node p.fseq with
      | none => s
      | some r =>
        if r.op ≠ p.op then s
        else if p.busy then s.setReq { r with busy := true }
        else
          let st := Status.ofCode p.status
          let oc := FabOutcome.ofCode p.outcome
          match r.why with
          | .resolve fseq => s.resolveEnd r fseq .failedContextReset oc p.value
          | _ => s.fabEnd r st oc p.value p.data)

/-- The target's context is known to be in another generation than the request was sent to: it can no longer be performed, and is
resolved instead of being resent (R316, R339). -/
def State.outdated (s : State) (r : FabReq) : Bool := r.node != s.node && r.op != 4 && s.peerGen r.node r.ctx != r.dstGen

/-- FABRIC_BUSY_RESEND (R337). -/
def execFabricBusyResend (node fseq : Nat) (s : State) : Res :=
  .next (match s.req? node fseq with
    | some r =>
      if r.busy = false ∨ r.dead = true ∨ r.resolving = true then s
      else if s.outdated r then s.fabResolve r
      else s.fabSend r false
    | none => s)

/-- FABRIC_REPLY_TIMEOUT (R338): an acknowledged request is resent with RETRY, at most the limit's times, and then fails
UNKNOWN. Once its target context is known to be in a later generation it is resolved instead (R339, R349). -/
def execFabricReplyTimeout (node fseq : Nat) (s : State) : Res :=
  .next (match s.req? node fseq with
    | none => s
    | some r =>
      if r.acked = false ∨ r.busy = true ∨ r.dead = true ∨ r.resolving = true then s
      else if s.outdated r then s.fabResolve r
      else if r.retries < s.reg Obj.FABRIC_RETRY_LIMIT then
        (s.fabSend { r with retries := r.retries + 1 } true).bump Obj.FABRIC_RETRY_COUNT r.ctx
      else s.fabFail r .failedTimeout .unknown)

/-! ### What other parts tell the agent -/

/-- The transport has acknowledged a request (R312, R338); one of a reset context is then done with (R340). -/
def State.fabAcked (s : State) (node fseq : Nat) : State :=
  match s.req? node fseq with
  | some r => if r.dead then s.dropReq r else s.setReq { r with acked := true }
  | none => s

/-- The transport has given a request up (R313, R348). -/
def State.fabGaveUp (s : State) (node fseq : Nat) : State :=
  match s.req? node fseq with
  | some r => s.fabFail r .failedTimeout .unknown
  | none => s

/-- GEN_NOTICE has taught a node's generation of a context: one RESOLVE for each request sent under another (R339). A
RESOLVE that was sent under another has been discarded and is replaced; one that was not stays the only one. -/
def State.fabResolveAll (s : State) (node c : Nat) : State :=
  let g := s.peerGen node c
  let old := s.fab.reqs.filter (fun r => r.node == node && r.ctx == c && !r.dead && r.dstGen != g)
  let asked := old.filterMap (fun r => match r.why with | .resolve q => some q | _ => none)
  let s := old.foldl (fun s r => match r.why with | .resolve _ => s.dropReq r | _ => s) s
  old.foldl (fun s r => match r.why with
    | .resolve _ => s
    | _ => if r.resolving && !(asked.contains r.fseq) then s else s.fabResolve r) s

/-- The epoch of a node has ended: every outstanding request to it fails UNKNOWN, and what the target agent keeps of that
epoch goes, with its requests and replies that nobody has taken (R337, R339, R340; DESIGN CHOICE, notes/assumptions/165). -/
def State.fabPeerLost (s : State) (node epoch : Nat) : State :=
  let s := s.setHup { s.hup with inbox := s.hup.inbox.filter (fun d => !(fabricsRecord d && d.node == node && decide (d.epoch ≤ epoch))) }
  let s := s.setFab { s.fab with entries := s.fab.entries.filter (fun e => !(e.node == node && e.epoch == epoch)),
                                 horizons := s.fab.horizons.filter (fun e => !(e.node == node && e.epoch == epoch)),
                                 seen := s.fab.seen.filter (fun e => !(e.node == node && e.epoch == epoch)) }
  let l := s.fab.reqs.filter (fun r => r.node == node)
  l.foldl (fun s r => match r.why with
    | .resolve _ => s.dropReq r
    | _ => s.fabEnd r .failedPeerReset .unknown 0 []) s

/-- The horizons that a context reset records: the highest FSEQ performed of each source (R339). -/
def State.raiseHorizons (s : State) (c : Nat) : State :=
  let (mine, rest) := s.fab.seen.partition (fun m => m.ctx == c)
  let same := fun (a b : FabMark) => a.node == b.node && a.epoch == b.epoch && a.ctx == b.ctx
  s.setFab { s.fab with seen := rest,
                        horizons := s.fab.horizons.filter (fun h => !(mine.any (fun m => same m h))) ++ mine }

/-- The packets of a flow that a predicate picks and that have not left are taken out, and those behind them move up. -/
def TxFlow.without (f : TxFlow) (gone : Packet → Bool) : TxFlow :=
  let out := f.unacked.filter (·.sent)
  let rest := f.unacked.filter (fun u => !u.sent && !(gone u.packet))
  let base := (f.next + 2 ^ 32 - (f.unacked.length - out.length)) % 2 ^ 32
  let rest := ((List.range rest.length).zip rest).map (fun e =>
    { e.2 with packet := { e.2.packet with seq := (base + e.1) % 2 ^ 32 } })
  { f with next := (base + rest.length) % 2 ^ 32, unacked := out ++ rest }

/-- No packet of a context's former generation that has not left may leave any more: its DATA and CLOSE packets leave their flows (R340).
-/
def State.withdrawPackets (s : State) (c : Nat) : State :=
  let gone := fun (k : Packet) => k.ctx == c && (k.type == 0 || k.type == 2) && k.srcGen != s.gen c
  s.setHup { s.hup with tx := s.hup.tx.map (fun e => (e.1, e.2.without gone)) }

/-- A context reset at this device: its entries become tombstones with their horizons, its own requests are given up, and its
lines go (R339, R340, R344). -/
def State.fabContextReset (s : State) (c : Nat) : State :=
  let s := (s.raiseHorizons c).withdrawPackets c
  let s := (s.setFab { s.fab with
    entries := s.fab.entries.map (fun e => if e.ctx = c then { e with tomb := true } else e)
    waiting := s.fab.waiting.filter (fun r => r.ctx != c)
    reqs := s.fab.reqs.map (fun r => if r.ctx = c then { r with dead := true } else r)
    fails := terase s.fab.fails c
    parked := s.fab.parked.filter (fun n => match s.item? n with | some it => it.ctx != c | none => false) }).dropContextLines c
  (s.fab.reqs.filter (fun r => r.ctx == c && r.acked)).foldl (fun s r => s.dropReq r) s

/-! ### PUBLISH (R347) -/

/-- An issuer lies in the scope of a PUBLISH: a slot that started before, or an earlier descriptor of its own. -/
def covered (scope : Nat × Nat) (i : Option (Nat × Nat)) : Bool :=
  match i with
  | some (a, b) => decide (a < scope.1) || (a == scope.1 && decide (b < scope.2))
  | none => false

/-- A covered operation has no outcome yet. -/
def State.publishWaits (s : State) (c : Nat) (scope : Nat × Nat) : Bool :=
  (s.fab.reqs ++ s.fab.waiting).any (fun r => r.ctx == c && covered scope r.issuer &&
    (match r.why with | .store .. => true | .atomic .. => true | .chunk .. => true | _ => false))
  || (tvals s.items).any (fun it => it.ctx == c && !it.isDone && (descOpcode it.desc == 0x60 || descOpcode it.desc == 0x61)
    && covered scope (s.issuerOf it))

/-- Failures of covered operations, the first first. -/
def State.publishFailure (s : State) (c : Nat) (scope : Nat × Nat) : Option Status :=
  let l := (tget [] s.fab.fails c).filter (fun (x : Nat × Nat × Status) => covered scope (some (x.1, x.2.1)))
  ((sortBy (fun (a b : Nat × Nat × Status) => decide (a.1 < b.1) || (a.1 == b.1 && decide (a.2.1 ≤ b.2.1))) l).head?).map (·.2.2)

/-- PUBLISH (R347): checked; a slot without WIN_OUT is refused. (DEDUCED, notes/assumptions/83.) -/
def execPublish (item : Nat) (s : State) : Res :=
  .next (s.withItem item [0x62] (fun it s =>
    let code := s.fabricCheck it.ctx it.desc
    if code ≠ 0 then s.refuseFabric item it.ctx code
    else if (s.slotWindows it).2.isNone then s.denyFabric item it.ctx else s))

/-- PUBLISH_CLOSE_SEND (R347): every covered operation has its outcome; close markers with count 0 leave once the window is
open, or the first failure is reported. -/
def execPublishCloseSend (item : Nat) (s : State) : Res :=
  .next (match s.item? item with
    | none => s
    | some it =>
      match it.phase, s.issuerOf it, (s.slotWindows it).2 with
      | .running, some scope, some w =>
        if descOpcode it.desc ≠ 0x62 ∨ s.publishWaits it.ctx scope = true ∨ s.outgoing.any (fun o => o.item == some item) = true
            ∨ s.unackedOf (.item item) = true then s
        else match s.publishFailure it.ctx scope with
          | some st => s.endFabric item it.ctx st
          | none =>
            let o : Outgoing := { ctx := it.ctx, step := it.step, slot := it.slot, window := w, item := some item }
            if s.windowOpen o then s.sendOutput o else s.stage o
      | _, _, _ => s)

end Sys2Proof.Machine
end

