-- ==== Sys2Proof/Machine/Peers.lean ====
section
/-! DEFINITION. Sys2Proof/Machine/Peers.lean: what is known of other devices: epochs, generations, their end, and the states of
spokes (11_spokes R298-R323, 15_faults_and_recovery R409). -/

namespace Sys2Proof.Machine

/-! ### Epochs (R315, 15 R409) -/

/-- The senders of packets that are abandoned: their items meet a status and finish when nothing of theirs is left. -/
def State.failSenders (s : State) (l : List Sender) (st : Status) : State :=
  l.foldl (fun s x => match x with
    | .item n => if (match s.item? n with | some it => it.met.contains st | none => true) then s else s.meet n st
    | _ => s) s

/-- The items among some senders finish when nothing of theirs is unacknowledged. -/
def State.settleSenders (s : State) (l : List Sender) : State :=
  l.foldl (fun s x => match x with | .item n => s.sentAll n | _ => s) s

/-- An epoch of a node ends: its flows are abandoned in both directions, and what they carried fails (R313, R315, R340). The
node holds no rank any more until a rank map names it (15 R423). -/
def State.endEpoch (s : State) (node epoch : Nat) : State :=
  let s := (List.range 16).foldl (fun s c => (s.setRcv { s.rcv with
    ended := tset s.rcv.ended c (nsInsert ((tfind s.rcv.ended c).getD []) node) })) s
  let (lost, s) := s.dropFlows node
  let s := (s.failSenders lost .failedPeerReset).settleSenders lost
  s.fabPeerLost node epoch

/-- A node is lost, or its epoch has been announced as ended (15 R409, R423). -/
def State.loseNode (s : State) (node epoch : Nat) : State :=
  let s := if s.nodeLost node then s else s.bump Obj.PEER_LOSS_COUNT 0
  ((s.setRcv { s.rcv with lost := tset s.rcv.lost node (max epoch (tget 0 s.rcv.lost node)) })).endEpoch node epoch

/-- A device learns an epoch of a node: a higher one ends the one before. Before the first epoch of a node is known there is
none to end (DEDUCED, notes/assumptions/30). -/
def State.learnEpoch (s : State) (node e : Nat) : State :=
  let known := s.peerEpoch node
  if e ≤ known then s
  else
    let s := (s.setHup { s.hup with peerEpoch := tset s.hup.peerEpoch node e,
                                    peerGen := s.hup.peerGen.filter (fun x => x.1 / 16 != node) })
    let s := match tfind s.rcv.lost node with
      | some l => if l < e then (s.setRcv { s.rcv with lost := terase s.rcv.lost node }) else s
      | none => s
    if known = 0 then s else s.endEpoch node known

/-- `a` lies below `b` among 16-bit generation tags, which wrap (15 R407). -/
def genBelow (a b : Nat) : Bool := decide (2 ^ 15 ≤ (a + 2 ^ 16 - b % 2 ^ 16) % 2 ^ 16)

/-- `g` lies below the highest generation known of a node's context; where none is known, none does (R316). -/
def State.genStale (s : State) (node c g : Nat) : Bool :=
  match s.knownGen node c with | some k => genBelow g k | none => false

/-- A device learns a generation of a node's context (R316). -/
def State.learnGen (s : State) (node c g : Nat) : State :=
  if s.genStale node c g then s
  else (s.setHup { s.hup with peerGen := tset s.hup.peerGen (node * 16 + c) g })

/-- The millisecond of the time counter. -/
def State.nowMs (s : State) : Nat := s.now / 1000000

/-- A notice may go to a node: at most one per node per millisecond (R315, R316). `kind`: 0 EPOCH_NOTICE, 1 GEN_NOTICE. -/
def State.notice (s : State) (node kind c value : Nat) : State :=
  let k := node * 2 + kind
  if tfind s.hup.noticed k = some s.nowMs then s
  else ((s.setHup { s.hup with noticed := tset s.hup.noticed k s.nowMs })).sendControl node c (kind + 1) value

/-! ### Spokes -/

/-- Lanes active of a spoke. -/
def State.lanes (s : State) (p : Nat) : Nat := s.reg Obj.SPOKE_LANES_ACTIVE p

/-- A spoke changes state: record 0x040 with the spoke, the new state and the node found (15 R405). -/
def State.setSpokeState (s : State) (p state found : Nat) : State :=
  if s.spokeState p = state then s
  else (s.setReg Obj.SPOKE_STATE p state).log!
    { code := 0x040, sub := 9, inst := p, info0 := p + place state 32 8, info1 := found }

/-- The packets of a run of flits, each once. -/
def packetsOf : List Flit → List Packet
  | [] => []
  | f :: r =>
    match packetsOf r with
    | [] => [f.packet]
    | k :: ks => if k = f.packet then k :: ks else f.packet :: k :: ks

/-- The packets of a spoke that are repaired when it goes (R319): those in its replay buffer and the one half sent. -/
def Spoke.repairs (x : Spoke) : List Packet :=
  let l := packetsOf x.replay
  match x.sending with
  | some (k, i) => if i = 0 ∨ l.getLast? = some k then l else l ++ [k]
  | none => l

/-- Packets that had not begun to leave. -/
def Spoke.unsent (x : Spoke) : List Packet :=
  (match x.sending with | some (k, 0) => [k] | _ => []) ++ x.waiting

/-- The packet is of the spoke's own key exchange and goes by no other (R321). -/
def ofSpoke (k : Packet) : Bool := k.type == 4

/-- A spoke stops carrying traffic: routing leaves it, its packets go by another (R319), and its link state and keys are gone.
-/
def State.closeSpoke (s : State) (p state found : Nat) : State :=
  let x := s.spoke p
  let s := s.setSpoke p { authTimes := x.authTimes, proposalNumber := x.proposalNumber, heartbeats := x.heartbeats }
  let s := ((s.setReg Obj.SPOKE_PEER p 0xFFFF).setReg Obj.SPOKE_LANES_ACTIVE p 0).setSpokeState p state found
  let s := (x.repairs.filter (fun k => !(ofSpoke k))).foldl (fun s k => ((s.bump Obj.HUP_REROUTE_COUNT 0).dispatch { k with retx := true }).2) s
  (x.unsent.filter (fun k => !(ofSpoke k))).foldl (fun s k => (s.dispatch k).2) s

/-- A device with no node set trains none of its spokes (10 R284). -/
def State.hasNode (s : State) : Bool := s.node != 0xFFFF

/-- A spoke starts at training step 1 (R299, R300). -/
def State.trainSpoke (s : State) (p : Nat) : State :=
  let s := s.closeSpoke p (if s.hasNode then spTraining else spDisabled) s.node
  if s.hasNode then s.setSpoke p { s.spoke p with step := 1 } else s

/-- A spoke goes DOWN. -/
def State.spokeDown (s : State) (p : Nat) : State := s.closeSpoke p spDown (s.reg Obj.SPOKE_PEER p)

/-- A tag has failed on a spoke: sixteen within a second put it DOWN (R306, R322). -/
def State.authFail (s : State) (p : Nat) : State :=
  let s := s.bump Obj.SPOKE_AUTH_FAIL_COUNT p
  let x := s.spoke p
  let recent := x.authTimes.filter (fun t => decide (s.now < t + 1000000000))
  let s := s.setSpoke p { x with authTimes := (s.now :: recent).take 15 }
  if 15 ≤ recent.length ∧ s.spokeUp p = true then s.spokeDown p else s

/-- The copies of an ordered set, one for each active lane (R306): those before the first whose tag verifies are discarded and
counted, and with it the set acts. -/
def State.tagged (s : State) (p : Nat) (copies : List Bool) (act : State → State) : State :=
  let s := (copies.takeWhile (fun b => !b)).foldl (fun s _ => s.authFail p) s
  if copies.contains true && s.linkUp p then act s else s

/-! ### What leaves on a spoke (R306, R322, R326) -/

/-- A packet as it crosses a spoke (R322); before keys are installed its tag is open. -/
def State.sealed (s : State) (p : Nat) (k : Packet) : Bytes :=
  let x := s.spoke p
  match x.txKey with
  | some key => sealedPacket key x.sentPackets k
  | none => plainPacket (s.fresh (2 ^ 128)) k

/-- The configured path of an Ethernet chord for a VC (R328). -/
def State.ethPath (s : State) (p vc : Nat) : EthPath :=
  let f := fun (i : Nat) => s.regF Obj.SPOKE_ETH_CONFIG p i
  ⟨p, f 0, f 1, f 3, f (4 + vc), f 12⟩

/-- A packet of the spoke's key exchange waits to leave on it: what its message says is open but for an SPDM request code
(R321, R323). (PRESUMED, notes/assumptions/159.) -/
def State.sendKeyx (s : State) (p code : Nat) : State :=
  let node := s.reg Obj.SPOKE_PEER p
  let k : Packet := { type := 4, vc := 0, src := s.node, dst := node, ctx := 0, srcEpoch := s.epoch, dstEpoch := s.peerEpoch node,
                      srcGen := s.gen 0, dstGen := s.peerGen node 0,
                      payload := [0x13, BitVec.ofNat 8 code, BitVec.ofNat 8 (s.fresh 256), BitVec.ofNat 8 (s.took.fresh 256)] }
  (s.setSpoke p { s.spoke p with waiting := (s.spoke p).waiting ++ [k] }).took.took

/-- SPDM codes: KEY_UPDATE, its acknowledgement, and a session's first request. Bit 7 tells a request from its response. -/
def spKeyUpdate : Nat := 0xE9
def spKeyUpdateAck : Nat := 0x69
def spOther : Nat := 0x84

/-- A KEY_UPDATE of this end starts (R323). -/
def State.startRekey (s : State) (p : Nat) : State :=
  let x := s.spoke p
  if x.txKey.isSome && !x.rekeying then (s.setSpoke p { x with rekeying := true }).sendKeyx p spKeyUpdate else s

/-- A packet has left under the present key: it is counted, and the 2^40th starts a rekey (R322, R323). -/
def State.countSent (s : State) (p : Nat) : State :=
  let x := s.spoke p
  let s := s.setSpoke p { x with sentPackets := x.sentPackets + 1 }
  if 2 ^ 40 ≤ x.sentPackets + 1 then s.startRekey p else s

/-- A packet leaves an Ethernet chord as one datagram (R325). -/
def State.sendDatagram (s : State) (p : Nat) (k : Packet) : State :=
  let frame := ethFrame (s.ethPath p k.vc) k (s.sealed p k)
  ((s.emit (.datagram p k frame)).took).countSent p

/-- An ordered set leaves on a spoke (R306): on a native one as a block on every active lane, with its tag where keys are
installed; on an Ethernet chord in a MARKER packet on VC6 (R326), TRAINING in a CONTROL packet (R325).
(DESIGN CHOICE, notes/assumptions/160.) -/
def State.sendSet (s : State) (p : Nat) (o : OrderedSet) : State :=
  let content := setContent o
  let training : Bool := match o with | .training _ => true | _ => false
  if s.ethernet p then
    s.sendDatagram p { type := if training then 3 else 5, vc := if training then 0 else 6, src := s.node, dst := s.reg Obj.SPOKE_PEER p,
                       ctx := 0, srcEpoch := s.epoch, dstEpoch := s.peerEpoch (s.reg Obj.SPOKE_PEER p), payload := content }
  else
    let tag := match (s.spoke p).txKey with
      | some key => if training then [] else beBytes 16 (Config.gcmTag key.1 (s.fresh (2 ^ 96)) content [] % 2 ^ 128)
      | none => []
    (s.emit (.orderedSet p (s.lanes p) o (setWire o tag))).took

end Sys2Proof.Machine
end

