-- ==== Sys2Proof/Machine/Upkeep.lean ====
section
/-! DEFINITION. Sys2Proof/Machine/Upkeep.lean: how a maintenance unit ends (20_maintenance_and_telemetry R557, R558, R561). -/

namespace Sys2Proof.Machine

/-- A history entry (R561); OUTCOME is 0 DONE, 1 FAILED, 2 ABANDONED. -/
def historyEntry (r : MaintRun) (outcome durationNs : Nat) : Nat :=
  place r.activity 120 8 + place outcome 112 8 + place r.resource 96 16 + place r.startBeat 48 48 + place durationNs 16 32

/-- A running unit ends: history, counts, and record 0x035 for one that failed (R557, R558, R561). -/
def State.unitEnds (s : State) (r : MaintRun) (failed : Bool) (durationNs : Nat) : State :=
  let m := s.maint
  let h := m.history ++ [historyEntry r (ofBool failed) durationNs]
  let more := fun (t : Table Nat) => tset t r.activity (tget 0 t r.activity + 1)
  let s := (s.setMaint { m with running := m.running.filter (fun x => x != r)
                                history := if 256 < h.length then h.tail else h
                                done := if failed then m.done else more m.done
                                failed := if failed then more m.failed else m.failed })
  if failed then s.log! { code := 0x035, sub := 16, info0 := r.activity, info1 := r.resource } else s

/-- The retunes that run on a spoke stop, counted FAILED (R559). -/
def State.stopRetunes (s : State) (p : Nat) : State :=
  (s.maint.running.filter (fun r => r.activity == 2 && r.resource / 4 == p)).foldl
    (fun s r => s.unitEnds r true (s.now - r.startNs)) s

end Sys2Proof.Machine
end

