-- ==== Sys2Proof/Machine/Spokes.lean ====
section
/-! DEFINITION. Sys2Proof/Machine/Spokes.lean: spoke training, the link layer, lane degrade and rekeying (11_spokes
R296-R308, R320-R325, 10_lattices_and_mapping R281). -/

namespace Sys2Proof.Machine

/-! ### Control and training (R298-R300, R281, R321) -/

/-- SPOKE_RESET (R300). -/
def execSpokeReset (who : Who) (spoke : Nat) (s : State) : Res :=
  .next (s.row who Obj.SPOKE_CONTROL spoke false (fun s => (0, s.trainSpoke spoke)))

/-- SPOKE_DISABLE (R300): a spoke in HELD stays there, since only RESET leaves it. -/
def execSpokeDisable (who : Who) (spoke : Nat) (s : State) : Res :=
  .next (s.row who Obj.SPOKE_CONTROL spoke false (fun s =>
    (0, if s.spokeState spoke = spHeld then s else s.closeSpoke spoke spDisabled 0xFFFF)))

/-- SPOKE_ENABLE (R300): training starts on a spoke that is DISABLED or DOWN; any other goes on as it is. -/
def execSpokeEnable (who : Who) (spoke : Nat) (s : State) : Res :=
  .next (s.row who Obj.SPOKE_CONTROL spoke false (fun s =>
    (0, if s.spokeState spoke = spDisabled ∨ s.spokeState spoke = spDown then s.trainSpoke spoke else s)))

/-- The spoke is at a training step. -/
def State.atStep (s : State) (p step : Nat) : Bool := s.spokeState p == spTraining && (s.spoke p).step == step

/-- SPOKE_LANE_LOCK (R299, step 1): some lane has locked, so the spoke's SPLL reads LOCKED (R502; DEDUCED, notes/assumptions/171). -/
def execSpokeLaneLock (spoke lanes : Nat) (s : State) : Res :=
  .next (if s.atStep spoke 1 && !(s.ethernet spoke) && lanes % 16 != 0 then
      (s.setSpoke spoke { s.spoke spoke with step := 2 }).setReg Obj.PLL_STATUS (20 + spoke) 2
    else s)

/-- The TRAINING ordered set this device sends on a spoke (R306). -/
def State.trainingSet (s : State) (p : Nat) : Training :=
  { node := s.node, epoch := s.epoch, variant := s.reg Obj.PART_VARIANT 2, mode := if s.ethernet p then 1 else 0,
    lanes := s.lanes p, step := 3 }

/-- SPOKE_FEC_LOCK (R299, step 2): lanes that failed lock are left out; identity exchange begins. -/
def execSpokeFecLock (spoke lanes : Nat) (s : State) : Res :=
  .next (if s.atStep spoke 2 && lanes % 16 != 0 then
      let s := (s.setReg Obj.SPOKE_LANES_ACTIVE spoke (lanes % 16)).setSpoke spoke
        { s.spoke spoke with step := 3, failedLanes := 15 - lanes % 16 }
      s.sendSet spoke (.training (s.trainingSet spoke))
    else s)

/-- The node found at the far end breaks R281, or is not the one configured for an Ethernet chord (R325). -/
def State.miswired (s : State) (p found : Nat) : Bool :=
  found == s.node ||
    (if p < 14 then found != spokePeer s.node p
     else latticeOf found == latticeOf s.node || (s.ethernet p && found != s.regF Obj.SPOKE_ETH_CONFIG p 2))

/-- Every (VC, class) pair's reserved bytes, in 64-byte units (R304). -/
def fullCredits : Table Nat := (List.range 84).map (fun k => (k, 65))

/-- TRAINING_OS_RECEIVE (R281, R299, step 3): a right peer's epoch is learned and its key exchange begins in KEYX packets on VC0 (R321); a
wrong one holds the spoke out of service. -/
def execTrainingOsReceive (spoke : Nat) (os : Training) (s : State) : Res :=
  .next (if s.atStep spoke 3 then
      if s.miswired spoke os.node then (s.bump Obj.TOPO_MISWIRE_COUNT 0).closeSpoke spoke spHeld os.node
      else
        let s := (s.setReg Obj.SPOKE_PEER spoke os.node).setSpoke spoke { s.spoke spoke with step := 4, credits := fullCredits }
        ((s.setSpokeState spoke spKeying os.node).learnEpoch os.node os.epoch).sendKeyx spoke spOther
    else s)

/-- A peer passes SPOKE_PEER_POLICY (R321). PART_VARIANT 2 is an -E part. -/
def State.peerAccepted (s : State) (f : PeerFacts) : Bool :=
  let policy := s.reg Obj.SPOKE_PEER_POLICY
  f.vendorChain && (!f.engineering || s.reg Obj.PART_VARIANT 2 == 2)
    && (policy == 0 || f.sameImages) && (policy != 2 || f.sameCustomer)

/-- A new link key and its salt (R321): the roots of trust derive them from the session, and no role can read them. -/
def State.newKey (s : State) : Nat × Nat := (s.fresh (2 ^ 256), s.took.fresh (2 ^ 32))

/-- SPOKE_KEYS_INSTALLED (R299, R321): each direction has its key and salt. The link goes on as it stands. -/
def execSpokeKeysInstalled (spoke : Nat) (peer : PeerFacts) (s : State) : Res :=
  .next (if s.spokeState spoke ≠ spKeying then s
    else if s.peerAccepted peer then
      let found := s.reg Obj.SPOKE_PEER spoke
      let tx := s.newKey
      let s := s.took.took
      let s := (s.setSpoke spoke { s.spoke spoke with step := 0, txKey := some tx, rxKey := some s.newKey, sentPackets := 0 }).took.took
      let full := s.ethernet spoke || s.lanes spoke == 15
      (s.setSpokeState spoke (if full then spUp else spDegraded) found).retryStuck
    else
      let found := s.reg Obj.SPOKE_PEER spoke
      (s.bump Obj.SPOKE_PEER_REFUSED_COUNT spoke).closeSpoke spoke spHeld found)

/-- SPOKE_TRAINING_TIMEOUT (R298, R299). -/
def execSpokeTrainingTimeout (spoke : Nat) (s : State) : Res :=
  .next (if s.spokeState spoke = spTraining ∨ s.spokeState spoke = spKeying then s.trainSpoke spoke else s)

/-- SPOKE_DOWN_RETRAIN (R298). -/
def execSpokeDownRetrain (spoke : Nat) (s : State) : Res :=
  .next (if s.spokeState spoke = spDown then s.trainSpoke spoke else s)

/-- ETH_LINK_UP (R325): the PHY of an Ethernet chord is up, and the identity exchange follows. -/
def execEthLinkUp (spoke : Nat) (s : State) : Res :=
  .next (if s.ethernet spoke && s.spokeState spoke == spTraining then
      let s := (s.setReg Obj.SPOKE_LANES_ACTIVE spoke 15).setSpoke spoke { s.spoke spoke with step := 3 }
      s.sendSet spoke (.training (s.trainingSet spoke))
    else s)

/-- ETH_LINK_DOWN (R326): loss of the PHY link, in training too. -/
def execEthLinkDown (spoke : Nat) (s : State) : Res :=
  .next (if s.ethernet spoke && (s.linkUp spoke || s.spokeState spoke == spTraining) then s.spokeDown spoke else s)

/-! ### Receiving link blocks (R301-R304) -/

/-- `a` lies behind `b` among link sequence numbers. -/
def lseqBehind (a b : Nat) : Bool := decide (2048 ≤ (a + 4096 - b % 4096) % 4096)

/-- What a link header brings: flits that LACK covers leave the replay buffer, and credits return (R301, R303, R304). -/
def Spoke.header (x : Spoke) (h : LinkHeader) : Spoke :=
  let x := match h.lack with
    | none => x
    | some l =>
      let r := x.replay.filter (fun f => f.lseq != l && !(lseqBehind f.lseq l))
      { x with replay := r, retryCount := if r.length < x.replay.length then 0 else x.retryCount }
  if h.creditCount = 0 then x
  else
    let k := h.creditVc * 12 + h.creditClass
    { x with credits := tset x.credits k (tget 0 x.credits k + h.creditCount) }

/-- A packet breaks R309 or R310: a reserved TYPE, VERSION, VC, code or field. MARKER packets travel on Ethernet chords only. -/
def packetBad (k : Packet) (onEthernet : Bool) : Bool :=
  k.version != 1 || decide (5 < k.type) || (k.type == 5 && !onEthernet) || decide (6 < k.vc) || k.reserved != 0
    || decide (4096 < k.payload.length)
    || (k.type == 2 && (k.payload.length != 16 || field (ofBE k.payload) 64 2 != 0 || field (ofBE k.payload) 1 31 != 0))
    || (k.type == 3 && (k.payload.length != 8 || (field (ofBE k.payload) 48 16 != 1 && field (ofBE k.payload) 48 16 != 2)
        || field (ofBE k.payload) 32 16 != 0))
    || (k.type == 1 && k.payload.length != 32)

/-- The shared part of the 1 MiB input buffer in 64-byte units: what the 84 reserved parts leave (R304). -/
def sharedUnits : Nat := 16384 - 84 * 65

/-- A packet enters the input buffer: in the shared part while that has room, and then its credits go back at once; else in its pair's
reserved part (R304). (DESIGN CHOICE, notes/assumptions/81.) -/
def Spoke.bufferIn (x : Spoke) (k : Packet) : Spoke :=
  let i := k.vc * 12 + hopClassOf k
  let u := packetUnits k
  if x.shared + u ≤ sharedUnits then { x with shared := x.shared + u, owed := tset x.owed i (tget 0 x.owed i + u) }
  else { x with held := tset x.held i (tget 0 x.held i + u) }

/-- A packet has left the input buffer: the reserved part of its pair is freed first, and its credits go back (R304). -/
def Spoke.bufferOut (x : Spoke) (k : Packet) : Spoke :=
  let i := k.vc * 12 + hopClassOf k
  let u := packetUnits k
  let d := min u (tget 0 x.held i)
  { x with shared := x.shared - (u - d),
           held := if d = 0 then x.held else tset x.held i (tget 0 x.held i - d),
           owed := if d = 0 then x.owed else tset x.owed i (tget 0 x.owed i + d) }

/-- Credits of a packet that has left the input buffer go back to the far end (R304). -/
def State.oweCredits (s : State) (p : Nat) (k : Packet) : State := s.setSpoke p ((s.spoke p).bufferOut k)

/-- The receiving direction under a packet of a key phase (R323): the phase in use, the old one within its grace, or the first packet of
a new phase whose key has been agreed; none where no key is held for it. -/
def Spoke.phaseIn (x : Spoke) (phase : Bool) : Option Spoke :=
  if phase = x.rxPhase ∨ x.rxOld.isSome = true then some x
  else match x.rxNext with
    | some key => some { x with rxPhase := phase, rxOld := x.rxKey, rxKey := some key, rxNext := none }
    | none => none

/-- A packet has come whole: its tag, its key phase (R323) and its form are judged, and it waits to be received. Before keys are
installed there is no tag to judge, and only key exchange is taken (R298). -/
def State.packetWhole (s : State) (p : Nat) (k : Packet) (phase tagOk : Bool) : State :=
  let s := s.setSpoke p ((s.spoke p).bufferIn k)
  let take := fun (s : State) =>
    let s := s.bumpF Obj.SPOKE_RX_BYTES p (k.vc % 8) k.payload.length
    if packetBad k false then (s.bump Obj.HUP_FORMAT_DISCARD_COUNT 0).oweCredits p k
    else (s.setHup { s.hup with arrived := s.hup.arrived ++ [(p, k)] })
  if (s.spoke p).rxKey.isNone then (if ofSpoke k then take s else s.oweCredits p k)
  else match (s.spoke p).phaseIn phase with
    | some x => if tagOk then take (s.setSpoke p x) else (s.oweCredits p k).authFail p
    | none => (s.oweCredits p k).authFail p

/-- A LINK_RETRY names the expected LSEQ (R303). -/
def State.askRetry (s : State) (p : Nat) : State :=
  let x := s.spoke p
  ((s.setSpoke p { x with retrying := true, asked := x.asked + 1 }).bump Obj.SPOKE_REPLAY_COUNT p).sendSet p (.linkRetry x.rxLseq)

/-- A good flit (R303): taken when it is the expected one, with what its header brings; a later one is discarded, and a LINK_RETRY
goes out unless one has. KEY_PHASE stands in a packet's first flit (R301). -/
def State.flitIn (s : State) (p : Nat) (f : Flit) (tagOk : Bool) : State :=
  let x := s.spoke p
  if f.lseq = x.rxLseq then
    let x := x.header f.header
    let phase := if f.piece = 0 then f.keyPhase else x.packetPhase
    let s := s.setSpoke p { x with rxLseq := (x.rxLseq + 1) % 4096, retrying := false, asked := 0, lackValid := true, packetPhase := phase }
    if f.piece + 1 = packetFlits f.packet then s.packetWhole p f.packet phase tagOk else s
  else if lseqBehind f.lseq x.rxLseq ∨ x.retrying = true then s
  else s.askRetry p

/-- What the FEC of a codeword found (R296, R328): symbols corrected, or a codeword that it cannot correct. -/
def State.countFec (s : State) (p : Nat) (fec : Option Nat) : State :=
  match fec with
  | some n => s.bump Obj.SPOKE_FEC_CORRECTED p n
  | none => s.bump Obj.SPOKE_FEC_UNCORRECTED p

/-- FLIT_RECEIVE (R303): a link block has come. Each bad flit is asked for, the resent one too (DEDUCED, notes/assumptions/161). -/
def execFlitReceive (spoke : Nat) (block : Block) (check : BlockCheck) (tagOk : Bool) (s : State) : Res :=
  .next (if s.linkUp spoke && !(s.ethernet spoke) then
      let s := s.countFec spoke check.fec
      let good := check.crcOk && check.fec.isSome
      match block with
      | .idle h => if good then s.setSpoke spoke ((s.spoke spoke).header h) else s
      | .flit f => if good then s.flitIn spoke f tagOk else s.askRetry spoke
    else s)

/-! ### Sending (R302-R305, R325) -/

/-- The spoke group of a spoke: row, column or chord (R305). -/
def groupOf (p : Nat) : Nat := if p < 7 then 0 else if p < 14 then 1 else 2

/-- The bytes that the open steps' plans reserve for a group and VC in this beat, at planned beats (R305, 02_beat_and_time R568).
(DEDUCED, notes/assumptions/80.) -/
def State.reservedBytes (s : State) (g vc : Nat) : Nat :=
  (List.range 16).foldl (fun a c =>
    match (s.plan c).opened, (s.plan c).image with
    | true, some im =>
      (im.claimsAt c (s.beat - (s.plan c).plannedBeat)).foldl (fun a x =>
        if x.resource = 4 ∧ x.inst = g + 16 * vc then a + 4096 * x.amount else a) a
    | _, _ => a) 0

/-- Bytes of a group and VC that have begun to leave in this beat. -/
def State.beatUse (s : State) (g vc : Nat) : Nat := if s.hup.beatOf = s.beat then tget 0 s.hup.beatBytes (8 * g + vc) else 0

/-- Order of precedence of a packet on a spoke (R305). -/
def State.order (s : State) (p : Nat) (k : Packet) : Nat :=
  if k.vc = 0 then 0 else if k.vc = 6 then 1
  else if s.beatUse (groupOf p) k.vc + 48 + k.payload.length ≤ s.reservedBytes (groupOf p) k.vc then 2 else 3

/-- A packet may leave on a spoke now: in KEYING only key exchange (R298); with credits, or within an Ethernet chord's bytes in flight
(R304, R325). -/
def State.mayLeave (s : State) (p : Nat) (k : Packet) : Bool :=
  (s.spokeUp p || ofSpoke k)
    && (if s.ethernet p then s.chordRoom p k else decide (packetUnits k ≤ s.creditsFor p k.vc (hopClassOf k)))

/-- The packet to send next: by precedence, then the oldest (R305). -/
def State.pick (s : State) (p : Nat) : Option Packet :=
  (((s.spoke p).waiting.filter (s.mayLeave p)).foldl (fun (b : Option Packet) k =>
    match b with
    | none => some k
    | some q => if s.order p k < s.order p q then some k else some q) none)

/-- A packet begins to leave: its bytes count in the beat and on the spoke (R305, R328), and in an Ethernet chord's input buffer it
stands no more (R325). -/
def State.countLeaving (s : State) (p : Nat) (k : Packet) : State :=
  let i := 8 * groupOf p + k.vc
  let used := s.beatUse (groupOf p) k.vc + 48 + k.payload.length
  let t := if s.hup.beatOf = s.beat then s.hup.beatBytes else []
  (s.setHup { s.hup with beatBytes := tset t i used, beatOf := s.beat }).bumpF Obj.SPOKE_TX_BYTES p k.vc k.payload.length

/-- The first element equal to a packet taken out of a list. -/
def takeOut (k : Packet) : List Packet → List Packet
  | [] => []
  | q :: r => if q = k then r else q :: takeOut k r

/-- LACK and one credit return for the next header (R301). -/
def Spoke.nextHeader (x : Spoke) : LinkHeader × Spoke :=
  let lack := if x.lackValid then some ((x.rxLseq + 4095) % 4096) else none
  match x.owed with
  | [] => ({ lack := lack }, x)
  | (k, n) :: r =>
    let m := min n 4095
    ({ lack := lack, creditVc := k / 12, creditClass := k % 12, creditCount := m },
     { x with owed := if n ≤ 4095 then r else (k, n - m) :: r })

/-- A packet begins to leave a native spoke: it is sealed and counted, and takes its credits (R304, R322). -/
def State.beginPacket (s : State) (p : Nat) (k : Packet) : State :=
  let x := s.spoke p
  let i := k.vc * 12 + hopClassOf k
  let s := s.setSpoke p { x with waiting := takeOut k x.waiting, sending := some (k, 0), sealed := s.sealed p k,
                                 credits := tset x.credits i (tget 0 x.credits i - packetUnits k) }
  (s.took.countSent p).countLeaving p k

/-- A flit leaves on a spoke (R301). -/
def State.putFlit (s : State) (p : Nat) (f : Flit) : State := s.emit (.block p (.flit f) (blockWire (.flit f)))

/-- First word of a flit in a spoke's SRAM: the replay buffer's 1,024 flits stand behind the 1 MiB of the input buffer (13_hbm_and_ecc R360;
DESIGN CHOICE, notes/assumptions/167). -/
def flitWord (lseq : Nat) : Nat := 131072 + 39 * (lseq % 1024)

/-- The next flit of the packet that is leaving (R302). -/
def State.sendFlit (s : State) (p : Nat) (k : Packet) (piece : Nat) : State :=
  let (h, x) := (s.spoke p).nextHeader
  let f : Flit := { lseq := x.txLseq, header := h, keyPhase := x.txPhase, piece := piece, packet := k, payload := flitPart x.sealed piece }
  let s := s.setSpoke p { x with txLseq := (x.txLseq + 1) % 4096, replay := x.replay ++ [f],
                                 sending := if piece + 1 = packetFlits k then none else some (k, piece + 1) }
  (s.sramWrote 7 p (flitWord f.lseq) (flitWord f.lseq + 39)).putFlit p f

/-- FLIT_TRANSMIT (R304): one block leaves a native spoke: the next flit, or an idle block that returns credits; a datagram
leaves an Ethernet chord (R325). -/
def execFlitTransmit (spoke : Nat) (s : State) : Res :=
  .next (let x := s.spoke spoke
    if !(s.linkUp spoke) || x.paused then s
    else if s.ethernet spoke then
      match s.pick spoke with
      | none => s
      | some k => ((s.setSpoke spoke { x with waiting := takeOut k x.waiting }).sendDatagram spoke k).countLeaving spoke k
    else
      let idle := fun (s : State) =>
        let (h, x) := (s.spoke spoke).nextHeader
        (s.setSpoke spoke x).emit (.block spoke (.idle h) (blockWire (.idle h)))
      if 1024 ≤ x.replay.length then idle s
      else match x.sending with
        | some (k, i) => s.sendFlit spoke k i
        | none =>
          match s.pick spoke with
          | some k => (s.beginPacket spoke k).sendFlit spoke k 0
          | none => idle s)

/-- A flit leaves again from the replay buffer (R303). One with a poisoned word does not: the far end asks for it again
(13_hbm_and_ecc R360; DESIGN CHOICE, notes/assumptions/167). -/
def State.putAgain (s : State) (p : Nat) (f : Flit) : State :=
  let (dead, s) := s.sramRead 7 p (flitWord f.lseq) (flitWord f.lseq + 39) f.packet.ctx 0xFFFF
  if dead.isEmpty then s.putFlit p f else s

/-- The flits from an LSEQ onward leave again (R303). -/
def State.resend (s : State) (p lseq : Nat) : State :=
  ((s.spoke p).replay.filter (fun f => !(lseqBehind f.lseq lseq))).foldl (fun s f => s.putAgain p f) s

/-- LINK_RETRY_RECEIVE (R303). -/
def execLinkRetryReceive (spoke lseq : Nat) (copies : List Bool) (s : State) : Res :=
  .next (if s.linkUp spoke && !(s.ethernet spoke) then
      s.tagged spoke copies (fun s =>
        let x := s.spoke spoke
        let n := if x.retryLseq = lseq ∧ x.retryCount ≠ 0 then x.retryCount + 1 else 1
        let s := s.setSpoke spoke { x with retryLseq := lseq, retryCount := n }
        if x.paused then s else s.resend spoke lseq)
    else s)

/-- LINK_RETRY_LIMIT (R303). -/
def execLinkRetryLimit (spoke : Nat) (s : State) : Res :=
  .next (if s.linkUp spoke && (decide (8 ≤ (s.spoke spoke).retryCount) || decide (8 ≤ (s.spoke spoke).asked)) then s.spokeDown spoke else s)

/-! ### Lane degrade (R320) -/

/-- Lanes of the spoke that have not failed, and those that a retune has mended. -/
def State.goodLanes (s : State) (p : Nat) : Nat := (s.lanes p ||| (s.spoke p).readmit) &&& (15 - (s.spoke p).failedLanes)

/-- Lanes outside the agreed mask stop in both directions, and traffic pauses for deskew; without a lane the spoke is DOWN. -/
def State.agreeLanes (s : State) (p mask : Nat) : State :=
  let old := s.lanes p
  let new := (old ||| (s.spoke p).readmit) &&& mask
  let s := s.bump Obj.SPOKE_DEGRADE_COUNT p ((bitsOf 4 old).length - (bitsOf 4 new).length)
  if new = 0 then s.spokeDown p
  else (s.setReg Obj.SPOKE_LANES_ACTIVE p new).setSpoke p
    { s.spoke p with paused := true, proposal := none, failedLanes := 15 - new, readmit := (s.spoke p).readmit &&& (15 - new) }

/-- A DEGRADE with the lanes still good is sent, and waits for its echo. -/
def State.proposeLanes (s : State) (p : Nat) : State :=
  let x := s.spoke p
  let good := s.goodLanes p
  let n := (x.proposalNumber + 1) % 256
  (s.setSpoke p { x with proposal := some (good, n), proposalNumber := n }).sendSet p (.degrade good n false)

/-- LANE_FAIL (R320): a retune of the spoke stops (20 R559). -/
def execLaneFail (spoke lane : Nat) (s : State) : Res :=
  .next (if s.spokeUp spoke && !(s.ethernet spoke) && bit (s.lanes spoke) (lane % 4) then
      let x := s.spoke spoke
      let s := (s.setSpoke spoke { x with failedLanes := x.failedLanes ||| (1 <<< (lane % 4)) }).stopRetunes spoke
      if s.goodLanes spoke = 0 then (s.bump Obj.SPOKE_DEGRADE_COUNT spoke).spokeDown spoke
      else s.proposeLanes spoke
    else s)

/-- DEGRADE_RECEIVE (R320). -/
def execDegradeReceive (spoke lanes number : Nat) (echo : Bool) (copies : List Bool) (s : State) : Res :=
  .next (if s.spokeUp spoke && !(s.ethernet spoke) then
      s.tagged spoke copies (fun s =>
        if echo then
          match (s.spoke spoke).proposal with
          | some (_, n) => if n = number then s.agreeLanes spoke lanes else s
          | none => s
        else
          let mask := lanes &&& s.goodLanes spoke
          (s.sendSet spoke (.degrade mask number true)).agreeLanes spoke mask)
    else s)

/-- LANE_DESKEW_DONE (R320): traffic resumes, and unacknowledged flits are replayed. -/
def execLaneDeskewDone (spoke : Nat) (s : State) : Res :=
  .next (let x := s.spoke spoke
    if s.spokeUp spoke && x.paused then
      let s := s.setSpoke spoke { x with paused := false }
      let s := s.setSpokeState spoke (if s.lanes spoke = 15 then spUp else spDegraded) (s.reg Obj.SPOKE_PEER spoke)
      x.replay.foldl (fun s f => s.putAgain spoke f) s
    else s)

/-! ### Notices and keys (R308, R323) -/

/-- RESET_NOTICE_RECEIVE (R308): the sender's epoch ends, record 0x080, and the spoke goes DOWN. -/
def execResetNoticeReceive (spoke node epoch reason : Nat) (copies : List Bool) (s : State) : Res :=
  .next (if s.spokeUp spoke then
      s.tagged spoke copies (fun s =>
        let s := s.log! { code := 0x080, sub := 9, inst := spoke, info0 := node, info1 := epoch + place reason 32 8 }
        (s.loseNode node epoch).spokeDown spoke)
    else s)

/-- SPOKE_REKEY_TRIGGER (R323): a KEY_UPDATE starts; its packet waits while a degrade pauses the spoke (R327). -/
def execSpokeRekeyTrigger (spoke : Nat) (s : State) : Res := .next (if s.spokeUp spoke then s.startRekey spoke else s)

/-- KEY_PHASE_GRACE_END (R323): the key before is no longer accepted. An Ethernet chord's packets carry no KEY_PHASE: there this is
when the agreed key takes the place of the one in use (DEDUCED, notes/assumptions/159). -/
def execKeyPhaseGraceEnd (spoke : Nat) (s : State) : Res :=
  .next (let x := s.spoke spoke
    match s.ethernet spoke, x.rxNext with
    | true, some key => s.setSpoke spoke { x with rxKey := some key, rxNext := none, rxOld := none, rxPhase := !x.rxPhase }
    | _, _ => s.setSpoke spoke { x with rxOld := none })

end Sys2Proof.Machine
end

