-- ==== Sys2Proof/Machine/Hupatas.lean ====
section
/-! DEFINITION. Sys2Proof/Machine/Hupatas.lean: the receiving side of the transport, acknowledgements and retransmission
(11_spokes R309-R319, R326). -/

namespace Sys2Proof.Machine

/-! ### Sending outside a flow (R312) -/

/-- An ACK packet: the cumulative acknowledgement and a bitmap of the packets held beyond it. -/
def State.sendAck (s : State) (node vc : Nat) : State :=
  let f := s.rxFlow node vc
  let s := s.setRx node vc { f with arrivals := 0 }
  let bits := f.held.foldl (fun a k => let d := ahead f.next k.seq; if d < 256 then a ||| (1 <<< d) else a) 0
  let k : Packet := { type := 1, vc := vc, src := s.node, dst := node, ctx := 0, srcGen := s.gen 0, dstGen := s.peerGen node 0,
                      srcEpoch := s.epoch, dstEpoch := s.peerEpoch node, ack := (f.next + 2 ^ 32 - 1) % 2 ^ 32, ackValid := true,
                      payload := leBytes 32 bits }
  (s.dispatch k).2

/-- HUP_ACK_TIMER (R312). -/
def execHupAckTimer (node vc : Nat) (s : State) : Res :=
  .next (if (s.rxFlow node vc).arrivals = 0 then s else s.sendAck node vc)

/-! ### Acknowledgements and retransmission (R312, R313) -/

/-- A packet is resent under its SEQ with RETX set, by any path (R313). -/
def State.retransmit (s : State) (node vc seq : Nat) : State :=
  let f := s.txFlow node vc
  match f.unacked.find? (fun u => u.packet.seq == seq && u.sent) with
  | none => s
  | some u =>
    let e := if u.packet.dstEpoch = 0 then s.liveEpoch node else u.packet.dstEpoch
    let k := s.ackFields { u.packet with retx := true, dstEpoch := e }
    let (via, s) := (s.bump Obj.HUP_RETX_COUNT 0).dispatch k
    s.setTx node vc { f with unacked := f.unacked.map (fun x =>
      if x.packet.seq = seq then { x with via := via, packet := { x.packet with dstEpoch := e } } else x) }

/-- The sender of an acknowledged packet hears of it (R277, R338). -/
def State.ackedSender (s : State) : Sender → State
  | .none => s
  | .item n => s.sentAll n
  | .request node fseq => s.fabAcked node fseq

/-- Packets that a selective acknowledgement shows missing: three later ones are held (R313). -/
def missing : List Unacked → List Nat
  | [] => []
  | u :: r =>
    if u.sent && !u.sacked && !u.fast && decide (3 ≤ (r.filter (·.sacked)).length) then u.packet.seq :: missing r else missing r

/-- A cumulative acknowledgement, with the bitmap of an ACK packet (R312). -/
def State.ackArrive (s : State) (node vc ack bits : Nat) : State :=
  let f := s.txFlow node vc
  let covered := fun (u : Unacked) => u.sent && decide (ahead u.packet.seq ack < 2 ^ 31)
  let done := f.unacked.filter covered
  let left := (f.unacked.filter (fun u => !(covered u))).map (fun u =>
    let d := ahead ack u.packet.seq
    if 1 ≤ d ∧ d ≤ 256 ∧ bit bits (d - 1) = true then { u with sacked := true } else u)
  let again := missing left
  let left := left.map (fun u => if again.contains u.packet.seq then { u with fast := true } else u)
  let s := if (tfind s.hup.tx (flowKey node vc)).isSome then s.setTx node vc { f with unacked := left } else s
  let s := done.foldl (fun s u => s.ackedSender u.sender) s
  let s := again.foldl (fun s q => s.retransmit node vc q) s
  s.pump node vc 256

/-- HUP_RTO_EXPIRY (R313): the timer of a packet has expired. -/
def execHupRtoExpiry (node vc seq : Nat) (s : State) : Res := .next (s.retransmit node vc seq)

/-- HUP_GIVEUP (R313): the source stops resending a packet, and its item fails FAILED_TIMEOUT. -/
def execHupGiveup (node vc seq : Nat) (s : State) : Res :=
  .next (let f := s.txFlow node vc
    match f.unacked.find? (fun u => u.packet.seq == seq && u.sent) with
    | none => s
    | some u =>
      let s := s.setTx node vc { f with unacked := f.unacked.filter (fun x => x.packet.seq != seq) }
      let s := match u.sender with
        | .item n => (s.meet n .failedTimeout).sentAll n
        | .request a b => s.fabGaveUp a b
        | .none => s
      s.pump node vc 256)

/-! ### What a packet must pass (R291, R315, R316) -/

/-- A packet of a stale epoch or generation is discarded. -/
def State.stale (s : State) : State := s.bump Obj.HUP_STALE_DISCARD_COUNT 0

/-- Epochs of a packet for this device (R315, 15 R409): true when it passes. -/
def State.epochGate (s : State) (k : Packet) : Bool × State :=
  let ended := match tfind s.rcv.lost k.src with | some e => decide (k.srcEpoch ≤ e) | none => false
  if ended || decide (k.srcEpoch < s.peerEpoch k.src) then (false, s.stale)
  else
    let s := s.learnEpoch k.src k.srcEpoch
    if k.dstEpoch = s.epoch then (true, s) else (false, s.stale.notice k.src 0 k.ctx s.epoch)

/-- Generations of a DATA or CLOSE packet (R316). -/
def State.genGate (s : State) (k : Packet) : Bool × State :=
  if k.dstGen ≠ s.gen k.ctx then (false, s.stale.notice k.src 1 k.ctx (s.gen k.ctx))
  else if s.genStale k.src k.ctx k.srcGen then (false, s.stale)
  else (true, s.learnGen k.src k.ctx k.srcGen)

/-- A packet of a window is discarded where this device holds no rank of its context, or another than the one it is addressed to (10
R291); the fabric's packets are bound to a node (12_fabric_memory R330; DEDUCED, notes/assumptions/162). -/
def State.unmapped (s : State) (k : Packet) : Bool :=
  k.vc != 4 && k.vc != 5 && (s.rank k.ctx == 0xFFFF || (match k.rank with | some r => r != s.rank k.ctx | none => false))

/-! ### Delivery (R310, R311) -/

/-- A DATA packet reaches its consumer: the record is whole with its last packet. -/
def State.deliverData (s : State) (k : Packet) : State :=
  match s.genGate k with
  | (false, s) => s
  | (true, s) =>
    if s.unmapped k then s.bump Obj.TOPO_UNMAPPED_DISCARD_COUNT k.ctx
    else
      let f := s.rxFlow k.src k.vc
      let b := if k.first then k.payload else f.building ++ k.payload
      let s := s.setRx k.src k.vc { f with building := if k.last then [] else b }
      if k.last then
        (s.setHup { s.hup with inbox := s.hup.inbox ++ [{ node := k.src, vc := k.vc, ctx := k.ctx, epoch := k.srcEpoch, close := false, bytes := b }] })
      else s

/-- A close marker reaches its consumer. -/
def State.deliverClose (s : State) (k : Packet) : State :=
  match s.genGate k with
  | (false, s) => s
  | (true, s) =>
    if s.unmapped k then s.bump Obj.TOPO_UNMAPPED_DISCARD_COUNT k.ctx
    else (s.setHup { s.hup with inbox := s.hup.inbox ++
      [{ node := k.src, vc := k.vc, ctx := k.ctx, epoch := k.srcEpoch, close := true, bytes := k.payload }] })

/-- A CONTROL packet acts: EPOCH_NOTICE or GEN_NOTICE (R310, R315, R316, 12_fabric_memory R339). -/
def State.deliverControl (s : State) (k : Packet) : State :=
  let w := ofBE k.payload
  if field w 48 16 = 1 then s.learnEpoch k.src (field w 0 32)
  else (s.learnGen k.src k.ctx (field w 0 16)).fabResolveAll k.src k.ctx

/-- A packet is delivered. -/
def State.deliverPacket (s : State) (k : Packet) : State :=
  if k.type = 0 then s.deliverData k else if k.type = 2 then s.deliverClose k else s.deliverControl k

/-- The packets of a flow that are next in order are delivered (R311). -/
def State.deliverRun (s : State) (node vc : Nat) : Nat → State
  | 0 => s
  | fuel + 1 =>
    let f := s.rxFlow node vc
    match f.held.find? (fun k => k.seq == f.next) with
    | none => s
    | some k =>
      let s := s.setRx node vc { f with next := (f.next + 1) % 2 ^ 32, held := f.held.filter (fun x => x.seq != k.seq) }
      (s.deliverPacket k).deliverRun node vc fuel

/-- A numbered packet enters its flow (R311, R312, R314). -/
def State.flowArrive (s : State) (k : Packet) : State :=
  let f := s.rxFlow k.src k.vc
  let d := ahead f.next k.seq
  if 2 ^ 31 ≤ d ∨ f.held.any (fun x => x.seq == k.seq) = true then
    (s.bump Obj.HUP_DUP_DISCARD_COUNT 0).sendAck k.src k.vc
  else if 256 ≤ d then s
  else
    let s := s.setRx k.src k.vc { f with held := f.held ++ [k], arrivals := f.arrivals + 1 }
    let s := s.deliverRun k.src k.vc 257
    if 32 ≤ (s.rxFlow k.src k.vc).arrivals then s.sendAck k.src k.vc else s

/-! ### Reception -/

/-- Two packets are one but for what a hop changes in them. -/
def sameOnward (a b : Packet) : Bool :=
  { a with hopLimit := 0, retx := false, detour := false } == { b with hopLimit := 0, retx := false, detour := false }

/-- A packet has not begun to leave this device, or is part sent. -/
def State.inside (s : State) (k : Packet) : Bool :=
  s.hup.stuck.any (sameOnward k) || (tvals s.spokes).any (fun x =>
    x.waiting.any (sameOnward k) || (match x.sending with | some (q, _) => sameOnward k q | none => false))

/-- An Ethernet chord's input buffer, 1 MiB as a native spoke's, has no room for a packet beside those that came by it and go on to other
nodes (R304, R325; DEDUCED, notes/assumptions/81). -/
def State.chordFull (s : State) (p : Nat) (k : Packet) : Bool :=
  decide (2 ^ 20 < ((s.hup.transit.filter (fun e => e.1 == p && s.inside e.2)).foldl (fun a e => a + 48 + e.2.payload.length) 0)
    + 48 + k.payload.length)

/-- A packet is read from a spoke's input buffer, whose first words it takes; one with a poisoned word is discarded, and its source resends it
(13_hbm_and_ecc R360, R313; DESIGN CHOICE, notes/assumptions/167). -/
def State.inputGood (s : State) (p : Nat) (k : Packet) : Bool × State :=
  let n := 8 * packetUnits k
  let (dead, s) := s.sramRead 7 p 0 n k.ctx 0xFFFF
  (dead.isEmpty, s.sramWrote 7 p 0 n)

/-- The packet that a command is about, if there is one of its kind: the front of those the link layer has put together, or a
datagram of an Ethernet chord, which is dropped on a full input buffer (R325). With it the spoke it came by. In KEYING only key
exchange is taken, and there is no tag to judge (R298). -/
def State.takePacket (s : State) (src : PacketFrom) (want : Packet → Bool) : Option (Nat × Packet) × State :=
  match src with
  | .link =>
    (match s.hup.arrived with
     | (p, k) :: r =>
       if want k then
         let (good, s) := s.inputGood p k
         ((if good then some (p, k) else none), ((s.setHup { s.hup with arrived := r })).oweCredits p k)
       else (none, s)
     | [] => (none, s))
  | .chord p k tagOk =>
    if s.ethernet p && s.linkUp p then
      if s.chordFull p k then (none, s.bump Obj.SPOKE_ETH_DROP_COUNT p)
      else if (s.spoke p).rxKey.isNone && !(ofSpoke k) then (none, s)
      else if (s.spoke p).rxKey.isSome && !tagOk then (none, s.authFail p)
      else
        let t := s.bumpF Obj.SPOKE_RX_BYTES p (k.vc % 8) k.payload.length
        if packetBad k true then (none, t.bump Obj.HUP_FORMAT_DISCARD_COUNT 0)
        else if want k then (some (p, k), t) else (none, s)
    else (none, s)

/-- A packet is received: forwarded when it is another node's (R317, R318), discarded when its epochs are stale, its
piggybacked acknowledgement applied; then it acts. -/
def State.receive (s : State) (src : PacketFrom) (want : Packet → Bool) (act : State → Nat → Packet → State) : State :=
  match s.takePacket src want with
  | (none, s) => s
  | (some (p, k), s) =>
    if k.dst ≠ s.node then
      let l := if s.ethernet p then s.hup.transit.filter (fun e => s.inside e.2) ++ [(p, k)] else s.hup.transit
      (s.setHup { s.hup with transit := l }).forward k
    else match s.epochGate k with
      | (false, s) => s
      | (true, s) =>
        let s := if k.ackValid && k.type != 1 then s.ackArrive k.src k.vc k.ack 0 else s
        act s p k

/-- The code of a CONTROL packet. -/
def controlCode (k : Packet) : Nat := field (ofBE k.payload) 48 16

/-- HUP_DATA_RECEIVE (R311). -/
def execHupDataReceive (source : PacketFrom) (s : State) : Res :=
  .next (s.receive source (fun k => k.type == 0) (fun s _ k => s.flowArrive k))

/-- HUP_CLOSE_RECEIVE (R310). -/
def execHupCloseReceive (source : PacketFrom) (s : State) : Res :=
  .next (s.receive source (fun k => k.type == 2) (fun s _ k => s.flowArrive k))

/-- HUP_ACK_RECEIVE (R312). -/
def execHupAckReceive (source : PacketFrom) (s : State) : Res :=
  .next (s.receive source (fun k => k.type == 1) (fun s _ k => s.ackArrive k.src k.vc k.ack (ofLE k.payload)))

/-- EPOCH_NOTICE_RECEIVE (R315). -/
def execEpochNoticeReceive (source : PacketFrom) (s : State) : Res :=
  .next (s.receive source (fun k => k.type == 3 && controlCode k == 1) (fun s _ k => s.flowArrive k))

/-- GEN_NOTICE_RECEIVE (R316). -/
def execGenNoticeReceive (source : PacketFrom) (s : State) : Res :=
  .next (s.receive source (fun k => k.type == 3 && controlCode k == 2) (fun s _ k => s.flowArrive k))

/-- A KEYX message reaches the root of trust (R321, R323). The answer to this device's KEY_UPDATE puts its new key in use, with the
other KEY_PHASE; the peer's KEY_UPDATE agrees the key that the receiving direction takes with the first packet of the new phase; any
other request is answered, and a response draws the next request while the session is not established.
(PRESUMED, notes/assumptions/159.) -/
def State.keyxArrive (s : State) (p code : Nat) : State :=
  let x := s.spoke p
  if code = spKeyUpdate then
    if x.rxKey.isSome then ((s.setSpoke p { x with rxNext := some s.newKey }).took.took).sendKeyx p spKeyUpdateAck else s
  else if code = spKeyUpdateAck then
    if x.rekeying then
      (s.setSpoke p { x with rekeying := false, txKey := some s.newKey, txPhase := !x.txPhase, sentPackets := 0 }).took.took
    else s
  else if 128 ≤ code then s.sendKeyx p (code - 128)
  else if s.spokeState p = spKeying then s.sendKeyx p spOther
  else s

/-- The request or response code of the SPDM message in a KEYX packet. -/
def spdmCode (k : Packet) : Nat := match k.payload[1]? with | some b => b.toNat | none => 0

/-- KEYX_RECEIVE (R321). -/
def execKeyxReceive (source : PacketFrom) (s : State) : Res :=
  .next (s.receive source ofSpoke (fun s p k => s.keyxArrive p (spdmCode k)))

end Sys2Proof.Machine
end

