-- ==== Sys2Proof/Machine/Collective.lean ====
section
/-! DEFINITION. Sys2Proof/Machine/Collective.lean: the collective engine: geometry, contributions, the canonical tree and the
dense operations (09_collectives R257-R271, R274-R279). -/

namespace Sys2Proof.Machine

/-! ### The descriptor (R262) -/

def cdPhase (d : Nat) : Nat := field d 502 2
def cdElem (d : Nat) : Nat := field d 498 4
def cdRedop (d : Nat) : Nat := field d 495 3
def cdTagged (d : Nat) : Bool := bit d 494
def cdZeroMark (d : Nat) : Bool := bit d 493
def cdRankCode (d : Nat) : Bool := bit d 492
/-- DENSE_OUT, which MERGE_ALL alone has (R260, R273). -/
def cdDense (d : Nat) : Bool := bit d 491 && descOpcode d == 0x57
def cdDirect (d : Nat) : Bool := bit d 490
def cdHandoff (d : Nat) : Bool := bit d 489
def cdMicro (d : Nat) : Nat := field d 483 6
def cdTopk (d : Nat) : Nat := field d 479 4
def cdRoot (d : Nat) : Nat := field d 465 14
def cdWidth (d : Nat) : Nat := field d 451 14 + 1
def cdM (d : Nat) : Nat := field d 431 20 + 1
def cdN (d : Nat) : Nat := field d 411 20 + 1
def cdSrc (d : Nat) : Nat := field d 360 40
def cdDst (d : Nat) : Nat := field d 320 40
def cdSrcTag (d : Nat) : Nat := field d 280 40
def cdDstTag (d : Nat) : Nat := field d 240 40
def cdAux (d : Nat) : Nat := field d 200 40
def cdCount (d : Nat) : Nat := field d 160 40
def cdNan (d : Nat) : Nat := field d 120 40
def cdCapacity (d : Nat) : Nat := field d 88 32

/-- An address field that names nothing. -/
def none40 : Nat := 2 ^ 40 - 1

/-- PHASE values. -/
def phSend : Nat := 0
def phRelay : Nat := 1
def phFinish : Nat := 2
def phLocal : Nat := 3

/-- The operation works on value-index pairs (R271). -/
def cdIndexed (d : Nat) : Bool := decide (3 ≤ cdRedop d)

/-- The operation merges sorted runs (R273). -/
def cdMerges (d : Nat) : Bool := descOpcode d == 0x56 || descOpcode d == 0x57

/-- Only the root receives. -/
def cdToRoot (d : Nat) : Bool := descOpcode d == 0x50 || descOpcode d == 0x56

/-- Bytes of one element, and of one element of a record: a pair is 8 bytes (R264). -/
def elemBytes (d : Nat) : Nat := [4, 2, 2, 4, 4, 8, 1].getD (cdElem d) 4
def wireBytes (d : Nat) : Nat := if cdIndexed d then 8 else elemBytes d

/-- What an uncorrectable source word gives an element (R277). -/
def poisonWord (d : Nat) : Nat :=
  ([0x7FC00000, 0x7FC0, 0x7E00, 0x80000000, 0x80000000, 0x8000000000000000, 0x80].getD (cdElem d) 0)
    + (if cdIndexed d then place 0x80000000 32 32 else 0)

/-- What a dropped contribution's elements are under RANK_CODE (R275). -/
def rankCode (d rank : Nat) : Nat :=
  if cdElem d = 0 then nan32 + (if cdIndexed d then place 0xFFFFFFFF 32 32 else 0) else 0x80000000 ||| (16383 - rank)

/-! ### Geometry (R257, R260, R261) -/

/-- A descriptor in its group: the ranks of the window, the device's position, the collective ID. -/
structure Geo where
  d : Nat
  ranks : List Nat
  pos : Nat
  tag : Nat
  deriving DecidableEq, Repr

def Geo.size (g : Geo) : Nat := g.ranks.length
def Geo.op (g : Geo) : Nat := descOpcode g.d

/-- Rows of the whole tensor: P blocks of M for ALL_TO_ALL. -/
def Geo.rows (g : Geo) : Nat := if g.op = 0x54 then cdM g.d * g.size else cdM g.d

/-- Elements of the whole tensor. -/
def Geo.elems (g : Geo) : Nat := g.rows * cdN g.d

/-- Row pitch in bytes, and tag bytes of a band (R262, 04_matrix_engine R107). -/
def Geo.pitch (g : Geo) : Nat := alignUp (cdN g.d * elemBytes g.d) 32
def Geo.tagCols (g : Geo) : Nat := (cdN g.d + 31) / 32

/-- A region of the tensor: first element, and how many. -/
structure Region where
  lo : Nat
  len : Nat
  deriving DecidableEq, Repr

/-- Shard `q` (R261). -/
def Geo.shard (g : Geo) (q : Nat) : Region :=
  if cdTagged g.d then
    let nb := (cdM g.d + 31) / 32
    let a := min (32 * (q * nb / g.size)) (cdM g.d) * cdN g.d
    let b := min (32 * ((q + 1) * nb / g.size)) (cdM g.d) * cdN g.d
    ⟨a, b - a⟩
  else
    let n := 256 * ((g.elems + 256 * g.size - 1) / (256 * g.size))
    ⟨min (q * n) g.elems, min ((q + 1) * n) g.elems - min (q * n) g.elems⟩

/-- Block `q` of an ALL_TO_ALL. -/
def Geo.block (g : Geo) (q : Nat) : Region := ⟨q * cdM g.d * cdN g.d, cdM g.d * cdN g.d⟩

/-- ALL_REDUCE in two windows. -/
def Geo.twoWindows (g : Geo) : Bool := g.op == 0x52 && !(cdDirect g.d)

/-- What this position sends to position `q` (R260). -/
def Geo.sends (g : Geo) (q : Nat) : Region :=
  if g.op = 0x54 then g.block q
  else if g.op = 0x53 then g.shard g.pos
  else if g.op = 0x51 ∨ g.twoWindows = true then g.shard q
  else ⟨0, g.elems⟩

/-- The phase copies contributions instead of reducing them. -/
def Geo.copies (g : Geo) : Bool :=
  g.op == 0x53 || g.op == 0x54 || (g.twoWindows && cdPhase g.d == phFinish)

/-- Where position `q`'s contribution lands (R260). -/
def Geo.lands (g : Geo) (q : Nat) : Region :=
  if g.op = 0x54 then g.block q
  else if g.copies then g.shard q
  else if g.op = 0x51 ∨ g.twoWindows = true then g.shard g.pos
  else ⟨0, g.elems⟩

/-- SRC and DST at shard size: the element at offset 0, and whether the elements are packed (R262). -/
def Geo.srcBase (g : Geo) : Nat × Bool := if g.op = 0x53 then ((g.shard g.pos).lo, !(cdTagged g.d)) else (0, false)
def Geo.dstBase (g : Geo) : Nat × Bool := if g.op = 0x51 then ((g.shard g.pos).lo, !(cdTagged g.d)) else (0, false)

/-- The output index plane of MAX_INDEX and MIN_INDEX (R262). -/
def outIndex (d : Nat) : Nat := cdAux d + 4 * alignUp (cdM d * cdN d) 8

/-- A run of elements inside one row: byte offset in a plane of elements of `size` bytes, and how many elements. -/
structure Span where
  off : Nat
  count : Nat
  deriving DecidableEq, Repr

/-- The spans of `len` elements from `lo` in a plane that begins with element `base`. -/
def spansOf (n pitch size base : Nat) : Nat → Nat → Nat → List Span
  | 0, _, _ => []
  | fuel + 1, lo, len =>
    if len = 0 then []
    else
      let k := min len (n - lo % n)
      ⟨(lo / n - base / n) * pitch + lo % n * size, k⟩ :: spansOf n pitch size base fuel (lo + k) (len - k)

/-- The spans of a region's part in a plane: packed, or rows at their pitch. -/
def Geo.spans (g : Geo) (b : Nat × Bool) (pitch size lo len : Nat) : List Span :=
  if b.2 then [⟨(lo - b.1) * size, len⟩] else spansOf (cdN g.d) pitch size b.1 (len / cdN g.d + 2) lo len

/-! ### Segments and units (R261, R266) -/

/-- A segment: SEGMENT and COL_FIRST, its first element in the region, rows and columns. -/
structure Seg where
  index : Nat
  col : Nat
  rows : Nat
  cols : Nat
  deriving DecidableEq, Repr

def Seg.count (x : Seg) : Nat := x.rows * x.cols

/-- The segments of a region, each as large as 1 MiB of payload allows (DEDUCED, notes/assumptions/24). -/
def Geo.segs (g : Geo) (r : Region) : List Seg :=
  let w := wireBytes g.d
  if r.len = 0 then []
  else if cdTagged g.d then
    let n := cdN g.d
    let rows := r.len / n
    let cw := 1048576 / (32 * w) / 32 * 32
    (List.range ((rows + 31) / 32)).flatMap (fun b => (List.range ((n + cw - 1) / cw)).map (fun k =>
      ⟨b, k * cw / 32, min 32 (rows - 32 * b), min cw (n - k * cw)⟩))
  else
    let k := 1048576 / w / 256 * 256
    (List.range ((r.len + k - 1) / k)).map (fun i => ⟨i * k / 256, 0, 1, min k (r.len - i * k)⟩)

/-- The rows of a segment as parts of the region: first element and length. -/
def Geo.segRows (g : Geo) (r : Region) (x : Seg) : List (Nat × Nat) :=
  if cdTagged g.d then (List.range x.rows).map (fun i => (r.lo + (32 * x.index + i) * cdN g.d + 32 * x.col, x.cols))
  else [(r.lo + 256 * x.index, x.cols)]

/-- Width of a unit: 32 columns of a tagged segment, 1,024 elements of another. -/
def Geo.unitWidth (g : Geo) : Nat := if cdTagged g.d then 32 else 1024
def Geo.units (g : Geo) (x : Seg) : Nat := (x.cols + g.unitWidth - 1) / g.unitWidth

/-- A unit of the tree: its tag, its values, the source each value carries (0 none, else the rank plus 1), whether a join of it
was exhausted. -/
structure CUnit where
  tag : Nat := 0
  vals : List Nat
  srcs : List Nat := []
  exhausted : Bool := false
  /-- A staging word of it was uncorrectable (R277). -/
  bad : Bool := false
  deriving DecidableEq, Repr

/-- The values of a segment at one node, by unit; the lowest rank present. -/
structure CVal where
  units : List CUnit
  low : Nat
  deriving DecidableEq, Repr

/-- The part of a flat list of a segment's elements that unit `u` holds. -/
def Geo.unitPart {α : Type} (g : Geo) (x : Seg) (l : List α) (u : Nat) : List α :=
  let w := g.unitWidth
  (List.range x.rows).flatMap (fun i => (l.drop (i * x.cols + u * w)).take (min w (x.cols - u * w)))

/-- The elements of a segment, flat, from its units. -/
def Geo.flat (g : Geo) (x : Seg) (us : List (List Nat)) : List Nat :=
  let w := g.unitWidth
  (List.range x.rows).flatMap (fun i => (List.range (g.units x)).flatMap (fun u =>
    let k := min w (x.cols - u * w)
    ((us.getD u []).drop (i * k)).take k))

/-! ### Joins (R266, R271, R274) -/

/-- The values of two units at the tag `t`: the sums, whether one overflowed from finite values, and how many were realigned
inexactly. -/
def sumAt (t : Nat) (l r : CUnit) : List Nat × List Bool × Nat :=
  let one := fun (a b : Nat) =>
    let x := (f32 a).scale ((l.tag : Int) - t)
    let y := (f32 b).scale ((r.tag : Int) - t)
    let p := toF32 x
    let q := toF32 y
    let v := fAdd p q
    let beyond := match f32 v with | .inf _ => (f32 p).isFinite && (f32 q).isFinite | _ => false
    let bad := fun (z : FVal) (w : Nat) => z.isFinite && !((f32 w).eq z)
    (v, beyond, bad x p || bad y q)
  let o := l.vals.zipWith one r.vals
  (o.map (·.1), o.map (·.2.1), (o.filter (·.2.2)).length)

/-- The lower of two carried sources; 0 is none. -/
def lowSrc (a b : Nat) : Nat := if a = 0 then b else if b = 0 then a else min a b

/-- Sources after a join: an infinity that it forms carries the lowest rank of its subtrees. -/
def joinSrcs (low : Nat) (l r : List Nat) (beyond : List Bool) : List Nat :=
  (List.range beyond.length).map (fun i => if beyond.getD i false then low + 1 else lowSrc (l.getD i 0) (r.getD i 0))

/-- The attempts of a join: unit, retries, inexact elements. -/
def sumJoin (tagged : Bool) (shift limit low : Nat) (l r : CUnit) : Nat → Nat → Nat → CUnit × Nat × Nat
  | fuel, t, n =>
    let o := sumAt t l r
    let u : CUnit := { tag := t, vals := o.1, srcs := joinSrcs low l.srcs r.srcs o.2.1, exhausted := l.exhausted || r.exhausted,
                       bad := l.bad || r.bad }
    if o.2.1.any id then
      match fuel with
      | 0 => ({ u with exhausted := true }, n, o.2.2)
      | fuel + 1 =>
        if tagged && decide (t + shift ≤ limit) then sumJoin tagged shift limit low l r fuel (t + shift) (n + 1)
        else ({ u with exhausted := true }, n, o.2.2)
    else (u, n, o.2.2)

/-- A value-index pair wins against another (R271, 04_matrix_engine R124). -/
def pairWins (isMax : Bool) (a b : Nat) : Bool :=
  let x := f32 (a % 2 ^ 32)
  let y := f32 (b % 2 ^ 32)
  let first := decide (toInt 32 (a / 2 ^ 32) ≤ toInt 32 (b / 2 ^ 32))
  if x.isNan then !y.isNan || first
  else if y.isNan then false
  else if x.eq y then first
  else if isMax then y.lt x else x.lt y

/-- A word as it is written: an FP32 value that is a NaN in the pattern of R79; the index of a pair stays. -/
def canonWord (d w : Nat) : Nat := if cdElem d = 0 then canon32 (w % 2 ^ 32) + w / 2 ^ 32 * 2 ^ 32 else w

/-- One element of a join other than the FP32 sum. -/
def joinWord (d a b : Nat) : Nat :=
  let w := 8 * elemBytes d
  match cdElem d, cdRedop d with
  | 0, 3 => canonWord d (if pairWins true a b then a else b)
  | 0, 4 => canonWord d (if pairWins false a b then a else b)
  | 0, 1 => canonWord d (if (f32 a).isNan then a else if (f32 b).isNan || (f32 a).lt (f32 b) then b else a)
  | 0, 2 => canonWord d (if (f32 a).isNan then a else if (f32 b).isNan || (f32 b).lt (f32 a) then b else a)
  | _, 0 => (a + b) % 2 ^ w
  | 4, 1 => max a b
  | 4, 2 => min a b
  | _, 1 => if toInt w a < toInt w b then b else a
  | _, _ => if toInt w b < toInt w a then b else a

/-- The join of two units. -/
def joinUnit (d shift low : Nat) (l r : CUnit) : CUnit × Nat × Nat :=
  if cdElem d = 0 ∧ cdRedop d = 0 then
    let t := max l.tag r.tag
    sumJoin (cdTagged d) shift (min (t + 3 * shift) 255) low l r 3 t 0
  else
    let v := l.vals.zipWith (joinWord d) r.vals
    ({ vals := v, srcs := joinSrcs low l.srcs r.srcs (v.map (fun _ => false)), bad := l.bad || r.bad }, 0, 0)

/-- The join of two nodes, lower positions on the left: value, retries, inexact elements. -/
def CVal.join (d shift : Nat) (l r : CVal) : CVal × Nat × Nat :=
  let low := min l.low r.low
  let us := l.units.zipWith (joinUnit d shift low) r.units
  (⟨us.map (·.1), low⟩, us.foldl (fun a u => a + u.2.1) 0, us.foldl (fun a u => a + u.2.2) 0)

/-- A contribution's units: an element that is NaN or infinite carries its sender's rank (R274). -/
def Geo.leafVal (g : Geo) (x : Seg) (vals tags : List Nat) (rank : Nat) : CVal :=
  let src := fun (v : Nat) => if cdElem g.d = 0 ∧ (f32 (v % 2 ^ 32)).isFinite = false then rank + 1 else 0
  ⟨(List.range (g.units x)).map (fun u =>
    let p := g.unitPart x vals u
    { tag := tags.getD u 0, vals := p, srcs := p.map src }), rank⟩

/-- Every element of a segment the same word. -/
def Geo.constVal (g : Geo) (x : Seg) (v rank : Nat) : CVal := g.leafVal x (List.replicate x.count v) [] rank

/-! ### Staging (R267) -/

def State.setColl (s : State) (x : Coll) : State := { s with coll := x }

/-- The engine takes a free 1 MiB buffer under the quota, if there is one: none is no failure. -/
def State.stagingBuffer (s : State) (c : Nat) : Option Nat × State :=
  let r := s.reg Obj.POOL_ENGINE_REQUESTER c
  if r < 64 ∧ s.reqContext r = c ∧ s.acquireQuota c r 6 = .grant then s.takeHandle c 6 r (s.pool c 6).freeCount else (none, s)

/-- The node belongs to a window of a step. -/
def CollNode.of (x : CollNode) (c step w : Nat) : Bool := x.ctx == c && x.step == step % 65536 && x.window == w

/-- A staged node. -/
def State.node? (s : State) (c step w : Nat) (x : Seg) (lo size : Nat) : Option CollNode :=
  s.coll.nodes.find? (fun n => n.of c step w && n.seg == x.index && n.col == x.col && n.lo == lo && n.size == size)

/-- Staged nodes that a predicate picks go, and their buffers are released. -/
def State.dropNodes (s : State) (p : CollNode → Bool) : State :=
  let l := s.coll.nodes.filter p
  let s := s.setColl { s.coll with nodes := s.coll.nodes.filter (fun n => !(p n)) }
  l.foldl (fun s n => match n.buf with | some (h, _) => s.engineRelease n.ctx h | none => s) s

/-- The bytes of a node, and which of them are bad. -/
def State.nodeBytes (s : State) (nd : CollNode) : (Bytes × List Bool) × State :=
  match nd.buf with
  | none => ((nd.bytes, []), s)
  | some (_, o) =>
    let (g, s) := s.ctxRead nd.ctx o nd.len 8
    let (dead, s) := s.bufferRead 3 nd.ctx o nd.len
    ((g.bytes, if g.poison || g.protection || !dead.isEmpty then
        (List.range nd.len).map (fun i => (g.poison || g.protection) && s.byteBad nd.ctx (o + i) || dead.contains ((o + i) / 8)) else []), s)

/-- `n` words of `w` bytes. -/
def wordsAt (w n : Nat) (b : Bytes) : List Nat := entriesOf w n b

/-- A unit with an uncorrectable word: the values of one, and their source the rank they came from (R277). -/
def CUnit.spoil (u : CUnit) (d low : Nat) : CUnit :=
  { u with tag := 0, vals := u.vals.map (fun _ => poisonWord d), srcs := u.vals.map (fun _ => low + 1), bad := true }

/-- The value of a staged node; a unit with an uncorrectable word, now or when it was joined, is bad (R277). -/
def State.nodeVal (s : State) (g : Geo) (x : Seg) (nd : CollNode) : CVal × State :=
  let w := wireBytes g.d
  let ((b, bad), s) := s.nodeBytes nd
  let v := g.leafVal x (wordsAt w x.count b) nd.tags nd.low
  let v := if nd.size = 1 then v
    else
      let srcs := (List.range x.count).map (fun i => tget 0 nd.srcs i)
      { v with units := (v.units.zip (List.range (g.units x))).map (fun (e : CUnit × Nat) =>
          { e.1 with srcs := g.unitPart x srcs e.2, exhausted := nd.exhausted.contains e.2 }) }
  let hit := if bad.isEmpty then [] else (List.range x.count).map (fun i => ((bad.drop (w * i)).take w).any id)
  let fix := fun (e : CUnit × Nat) =>
    if nd.spoiled.contains e.2 || (g.unitPart x hit e.2).any id then e.1.spoil g.d nd.low else e.1
  ({ v with units := (v.units.zip (List.range (g.units x))).map fix }, s)

/-- The elements of a value as bytes, and with the tag of each unit of a tagged segment after them, as a record carries them
(R264). -/
def Geo.valData (g : Geo) (x : Seg) (v : CVal) : Bytes := (g.flat x (v.units.map (·.vals))).flatMap (leBytes (wireBytes g.d))
def Geo.valBytes (g : Geo) (x : Seg) (v : CVal) : Bytes :=
  g.valData x v ++ (if cdTagged g.d then v.units.map (fun u => BitVec.ofNat 8 u.tag) else [])

/-! ### Contribution records (R264) -/

/-- The header of a contribution record. -/
structure CollHeader where
  id : Nat
  source : Nat
  pos : Nat
  kind : Nat
  elem : Nat
  tagged : Bool
  seg : Nat := 0
  col : Nat := 0
  len : Nat := 1
  visits : Nat
  step : Nat
  deriving DecidableEq, Repr

/-- The 256 bits of a header. -/
def CollHeader.word (h : CollHeader) : Nat :=
  place h.id 240 16 + place h.source 226 14 + place h.pos 212 14 + place h.kind 210 2 + place h.elem 206 4
    + place (ofBool h.tagged) 205 1 + place h.seg 185 20 + place h.col 171 14 + place (h.len - 1) 151 20
    + place h.visits 119 32 + place h.step 103 16

/-- The header that 256 bits spell. -/
def collHeaderAt (w : Nat) : CollHeader :=
  { id := field w 240 16, source := field w 226 14, pos := field w 212 14, kind := field w 210 2, elem := field w 206 4,
    tagged := bit w 205, seg := field w 185 20, col := field w 171 14, len := field w 151 20 + 1, visits := field w 119 32,
    step := field w 103 16 }

/-- A record's bytes. -/
def collRecord (h : CollHeader) (body : Bytes) : Bytes := pad16 (leBytes 32 h.word ++ body)

/-- KIND of the data a window carries: RESULT for ALL_GATHER shards and RELAY output. -/
def Geo.kind (g : Geo) : Nat := if g.copies && g.op != 0x54 then 2 else 0

/-- The header of this device's records. -/
def Geo.header (g : Geo) (step visits kind : Nat) : CollHeader :=
  { id := g.tag, source := g.ranks.getD g.pos 0, pos := g.pos, kind := kind, elem := cdElem g.d, tagged := cdTagged g.d,
    visits := visits, step := step % 65536 }

/-- Words of a list of spans read, an uncorrectable one as R277 says; the item meets what the access meets. -/
def State.readSpans (s : State) (n c base w poison : Nat) : List Span → List Nat × State
  | [] => ([], s)
  | p :: ps =>
    let a := base + p.off
    let (g, s) := s.ctxRead c a (p.count * w) 8
    let s := match g.status with | .ok => s | st => s.meet n st
    let l := wordsAt w p.count g.bytes
    let l := if g.status = .ok then l
      else (List.range p.count).map (fun i => if s.anyBad c (a + i * w) w then poison else l.getD i 0)
    let r := s.readSpans n c base w poison ps
    (l ++ r.1, r.2)

/-- The source value of a segment of a region, from SRC, SRC_TAG and the index plane. -/
def State.readSeg (s : State) (n : Nat) (it : Item) (g : Geo) (r : Region) (x : Seg) : CVal × State :=
  let d := g.d
  let c := it.ctx
  let rows := g.segRows r x
  let spans := rows.flatMap (fun (e : Nat × Nat) => g.spans g.srcBase g.pitch (elemBytes d) e.1 e.2)
  let (v, s) := s.readSpans n c (cdSrc d) (elemBytes d) (if cdIndexed d then nan32 else poisonWord d) spans
  let (v, s) := if cdIndexed d then
      let isp := rows.flatMap (fun (e : Nat × Nat) => g.spans g.srcBase (4 * cdN d) 4 e.1 e.2)
      let (ix, s) := s.readSpans n c (cdAux d) 4 0x80000000 isp
      (v.zipWith (fun a b => a % 2 ^ 32 + place b 32 32) ix, s)
    else (v, s)
  let at_ := cdSrcTag d + ((r.lo / cdN d - g.srcBase.1 / cdN d) / 32 + x.index) * g.tagCols + x.col
  let (tags, s) := if cdTagged d then s.readSpans n c at_ 1 0 [⟨0, g.units x⟩] else ([], s)
  (g.leafVal x v tags (g.ranks.getD g.pos 0), s)

/-- The records of a region: one for each segment; a region that holds no element sends one without payload
(DEDUCED, notes/assumptions/25). -/
def Geo.records (g : Geo) (step visits kind : Nat) (r : Region) (vals : List (Seg × CVal)) : List Bytes :=
  let h := g.header step visits kind
  if r.len = 0 then [collRecord h []]
  else vals.map (fun e => collRecord { h with seg := e.1.index, col := e.1.col, len := e.1.count } (g.valBytes e.1 e.2))

/-- The source values of every segment of a region. -/
def State.readSegs (s : State) (n : Nat) (it : Item) (g : Geo) (r : Region) : List Seg → List (Seg × CVal) × State
  | [] => ([], s)
  | x :: xs =>
    let (v, s) := s.readSeg n it g r x
    let q := s.readSegs n it g r xs
    ((x, v) :: q.1, q.2)

/-- The records to each destination position. -/
def State.sendTo (s : State) (n : Nat) (it : Item) (g : Geo) (visits kind : Nat) : List Nat → List (Nat × Bytes) × State
  | [] => ([], s)
  | q :: qs =>
    let r := g.sends q
    let (v, s) := s.readSegs n it g r (g.segs r)
    let z := s.sendTo n it g visits kind qs
    ((g.records it.step visits kind r v).map (fun b => (g.ranks.getD q 0, b)) ++ z.1, z.2)

/-! ### Checks (R263) -/

/-- A phase that R260 gives the opcode. -/
def phaseOk (d : Nat) : Bool :=
  let p := cdPhase d
  match descOpcode d with
  | 0x55 => p == phLocal
  | 0x52 => p == phSend || p == phFinish || (p == phRelay && !(cdDirect d))
  | _ => p == phSend || p == phFinish

/-- The geometry of a descriptor over a window; none when the device's rank is not in its list. -/
def State.geoOf (s : State) (c d w : Nat) : Option Geo :=
  let l := s.windowSources c w
  (l.findIdx? (· == s.rank c)).map (fun p => ⟨d, l, p, s.tagOf c w⟩)

/-- The windows a phase needs, input first. -/
def State.collWindows (s : State) (it : Item) : List (Option Nat) :=
  if it.isPlanned then
    let w := s.slotWindows it
    match cdPhase it.desc with
    | 0 => [w.2]
    | 1 => [w.1, w.2]
    | 2 => [w.1]
    | _ => []
  else if cdPhase it.desc = phLocal then [] else [none]

/-- Bytes of a sorted run of `n` entries (06_sparsity R188). -/
def runBytes (width n : Nat) : Nat := 16 + n * (4 + 4 * width)

/-- Entries that TOPK_SELECT has, and keeps (R272). -/
def topkEntries (d : Nat) : Nat := if cdWidth d = 1 then cdM d * cdN d else cdM d
def topkKeep (d : Nat) : Nat := (topkEntries d + 2 ^ cdTopk d - 1) / 2 ^ cdTopk d

/-- Planes of a tensor's part held at a base element. -/
def Geo.planes (g : Geo) (r : Region) (b : Nat × Bool) (base tag index : Nat) : List Plane :=
  let d := g.d
  if b.2 then ⟨base, r.len * elemBytes d⟩ :: (if cdIndexed d then [⟨index, 4 * r.len⟩] else [])
  else
    let n := (r.lo + r.len + cdN d - 1) / cdN d - b.1 / cdN d
    [rowsPlane base n g.pitch (if r.len = 0 then 0 else cdN d * elemBytes d)]
      ++ (if cdTagged d then [⟨tag, (n + 31) / 32 * g.tagCols⟩] else [])
      ++ (if cdIndexed d then [⟨index, 4 * n * cdN d⟩] else [])

/-- The planes a phase uses. -/
def collPlanes (d : Nat) (g : Option Geo) : List Plane :=
  let word := fun (a n : Nat) => if a = none40 then [] else [(⟨a, n⟩ : Plane)]
  let dense := rowsPlane (cdDst d) (cdM d) (alignUp (4 * cdN d) 32) (4 * cdN d)
  let run : Plane := ⟨cdDst d, runBytes (cdWidth d) (cdCapacity d)⟩
  match g with
  | none =>
    let rows := fun (a : Nat) => rowsPlane a (cdM d) (alignUp (4 * cdN d) 32) (4 * cdN d)
    [rows (cdSrc d), rows (cdAux d), run]
      ++ (if cdTagged d then [⟨cdSrcTag d, (cdM d + 31) / 32 * ((cdN d + 31) / 32)⟩] else [])
  | some g =>
    let whole : Region := ⟨0, g.elems⟩
    let src := if cdMerges d then [(⟨cdSrc d, 16⟩ : Plane)]
      else g.planes (if g.op = 0x53 then g.shard g.pos else whole) g.srcBase (cdSrc d) (cdSrcTag d) (cdAux d)
    let dst := if cdMerges d then [if cdDense d then dense else run]
      else g.planes (if g.op = 0x51 then g.shard g.pos else whole) g.dstBase (cdDst d) (cdDstTag d) (outIndex d)
    match cdPhase d with
    | 0 => src ++ word (cdCount d) 4
    | 1 => word (cdNan d) 16
    | _ => dst ++ word (cdCount d) 4 ++ word (cdNan d) 16

/-- A descriptor with PHASE 0. -/
def plainDesc (d : Nat) : Nat := putField d 502 2 0

/-- A phase of the collective has begun in the step. -/
def State.phaseBegun (s : State) (it : Item) (w phase : Nat) : Bool :=
  s.coll.phases.any (fun p => p.ctx == it.ctx && p.step == it.step % 65536 && p.window == w && p.phase == phase)

/-- The checks of R263 in order; 0 when none fails. -/
def State.collCheck (s : State) (it : Item) : Nat :=
  let d := it.desc
  let op := descOpcode d
  let c := it.ctx
  let ws := s.collWindows it
  let windows := ws.filterMap id
  let geos := windows.filterMap (fun w => s.geoOf c d w)
  let notRoot := cdToRoot d && cdPhase d == phFinish && geos.any (fun g => g.pos != cdRoot d)
  if field d 400 11 ≠ 0 ∨ field d 0 88 ≠ 0 ∨ 6 < cdElem d ∨ 4 < cdRedop d ∨ op < 0x50 ∨ 0x57 < op then 0x01
  else if phaseOk d = false ∨ notRoot = true then 0x02
  else if ws.any (fun w => match w with
      | none => true
      | some w => (match s.window? c w with | some x => !([1, 2, 3].contains x.vc) | none => true)) then 0x03
  else if geos.length ≠ windows.length then 0x04
  else if [1, 2, 6].contains (cdElem d) && op != 0x53 && op != 0x54 then 0x05
  else if cdTagged d && (cdElem d != 0 || cdRedop d != 0) then 0x06
  else if cdIndexed d && cdElem d != 0 then 0x07
  else if cdDirect d && decide (4096 < cdM d * cdN d * elemBytes d) then 0x08
  else if cdRankCode d && cdElem d != 0 && cdElem d != 4 then 0x09
  else if op == 0x55 && (decide (cdTopk d < 2) || decide (10 < cdTopk d)) then 0x0A
  else if decide (16384 < cdWidth d) || (op == 0x55 && cdWidth d != 1 && cdWidth d != cdN d) then 0x0B
  else if op == 0x55 && decide (cdCapacity d < topkKeep d) then 0x0C
  else if geos.any (fun g => decide (g.size ≤ cdRoot d)) then 0x0D
  else if !((collPlanes d geos.head?).all (s.planeInside c)) then 0x0E
  else if windows.any (fun w => s.phaseBegun it w (cdPhase d)) then 0x0F
  else if s.coll.phases.any (fun p => p.ctx == c && p.step == it.step % 65536 && windows.contains p.window && p.desc != plainDesc d) then
    0x10
  else 0

/-- A refused collective descriptor. -/
def State.refuseColl (s : State) (n c code : Nat) : State := (s.bump Obj.COLL_REFUSED_COUNT c).refuse n 8 code

/-- The engine takes a descriptor: the checks, then its phase is noted. -/
def State.collBegin (s : State) (n op : Nat) : State :=
  s.withItem n [op] (fun it s =>
    if s.coll.begun.contains n then s
    else
      let code := s.collCheck it
      if code ≠ 0 then s.refuseColl n it.ctx code
      else
        let ps := (s.collWindows it).filterMap (fun w =>
          w.map (fun w => (⟨it.ctx, it.step % 65536, w, cdPhase it.desc, plainDesc it.desc⟩ : CollPhase)))
        s.setColl { s.coll with phases := s.coll.phases ++ ps, begun := s.coll.begun ++ [n] })

/-- The phase of a descriptor that the engine has taken runs, once. -/
def State.collPhase (s : State) (n phase : Nat) (run : State → Item → State) : State :=
  s.withItem n [0x50, 0x51, 0x52, 0x53, 0x54, 0x56, 0x57] (fun it s =>
    if s.coll.begun.contains n ∧ cdPhase it.desc = phase then
      run (s.setColl { s.coll with begun := s.coll.begun.filter (· != n) }) it
    else s)

/-- REDUCE: the engine takes the descriptor (R260, R263). -/
def execReduce (item : Nat) (s : State) : Res := .next (s.collBegin item 0x50)

/-- REDUCE_SCATTER: the engine takes the descriptor. -/
def execReduceScatter (item : Nat) (s : State) : Res := .next (s.collBegin item 0x51)

/-- ALL_REDUCE: the engine takes the descriptor. -/
def execAllReduce (item : Nat) (s : State) : Res := .next (s.collBegin item 0x52)

/-- ALL_GATHER: the engine takes the descriptor. -/
def execAllGather (item : Nat) (s : State) : Res := .next (s.collBegin item 0x53)

/-- ALL_TO_ALL: the engine takes the descriptor. -/
def execAllToAll (item : Nat) (s : State) : Res := .next (s.collBegin item 0x54)

/-- MERGE: the engine takes the descriptor. -/
def execMerge (item : Nat) (s : State) : Res := .next (s.collBegin item 0x56)

/-- MERGE_ALL: the engine takes the descriptor. -/
def execMergeAll (item : Nat) (s : State) : Res := .next (s.collBegin item 0x57)

/-! ### SEND (R260, R265) -/

/-- The count word: its value, and whether the contribution is a zero-count marker. -/
def State.countWord (s : State) (n : Nat) (it : Item) : (Nat × Bool) × State :=
  let d := it.desc
  if cdCount d = none40 then ((0, false), s)
  else
    let (g, s) := s.ctxRead it.ctx (cdCount d) 4 8
    match g.status with
    | .ok => ((g.num, cdZeroMark d && g.num == 0), s)
    | st => ((0, false), s.meet n st)

/-- Output of a collective staged for its window; a hand-off of an absent micro-batch says so (08_backward_and_training R244). -/
def State.stageColl (s : State) (n : Nat) (it : Item) (w : Nat) (recs : List (Nat × Bytes)) (ranks : List Nat) : State :=
  s.stage { ctx := it.ctx, step := it.step, slot := it.slot, window := w, item := some n, recs := recs, ranks := some ranks,
            absent := cdHandoff it.desc && s.isAbsent it.ctx (cdMicro it.desc) }

/-- The positions a SEND goes to. -/
def Geo.targets (g : Geo) : List Nat := if cdToRoot g.d then [cdRoot g.d] else List.range g.size

/-- Zero-count markers to the targets. -/
def State.sendMarkers (s : State) (n : Nat) (it : Item) (g : Geo) (w : Nat) : State :=
  let ranks := g.targets.map (fun q => g.ranks.getD q 0)
  (s.bump Obj.COLL_ZERO_MARKER_COUNT it.ctx ranks.length).stageColl n it w
    (ranks.map (fun r => (r, collRecord (g.header it.step 0 1) []))) ranks

/-- A sorted run read from SRC: its bytes, elements of uncorrectable words as R277 says. A run with COUNT 0, or whose header is
uncorrectable, gives none (DEDUCED, notes/assumptions/26). -/
def State.readRun (s : State) (n : Nat) (it : Item) : Option Bytes × State :=
  let d := it.desc
  let (g, s) := s.ctxRead it.ctx (cdSrc d) 16 8
  match g.status with
  | .ok =>
    let count := field g.num 96 32
    let width := field g.num 80 16
    if count = 0 then (none, s)
    else
      let (l, s) := s.readSpans n it.ctx (cdSrc d) 4 nan32 [⟨0, runBytes width count / 4⟩]
      (some (l.flatMap (leBytes 4)), s)
  | st => (none, s.meet n st)

/-- The records of a run: its bytes in segments of at most 1 MiB, counted in words (DEDUCED, notes/assumptions/24). -/
def Geo.runRecords (g : Geo) (step visits : Nat) (b : Bytes) : List Bytes :=
  (List.range ((b.length + 1048575) / 1048576)).map (fun i =>
    let p := (b.drop (1048576 * i)).take 1048576
    collRecord { g.header step visits 0 with seg := 1024 * i, len := p.length / 4 } p)

/-- A SEND runs. -/
def State.collSend (s : State) (n : Nat) (it : Item) : State :=
  match (s.slotWindows it).2 with
  | none => s
  | some w =>
    match s.geoOf it.ctx it.desc w with
    | none => s
    | some g =>
      let ((visits, marker), s) := s.countWord n it
      let ranks := g.targets.map (fun q => g.ranks.getD q 0)
      if marker then s.sendMarkers n it g w
      else if cdMerges it.desc then
        match s.readRun n it with
        | (none, s) => s.sendMarkers n it g w
        | (some b, s) =>
          s.stageColl n it w (ranks.flatMap (fun r => (g.runRecords it.step visits b).map (fun x => (r, x)))) ranks
      else if g.op = 0x50 ∨ g.op = 0x53 ∨ (g.op = 0x52 ∧ cdDirect it.desc = true) then
        let r := g.sends g.pos
        let (v, s) := s.readSegs n it g r (g.segs r)
        let l := g.records it.step visits (if g.op = 0x53 then 2 else 0) r v
        s.stageColl n it w (ranks.flatMap (fun k => l.map (fun x => (k, x)))) ranks
      else
        let (l, s) := s.sendTo n it g visits 0 g.targets
        s.stageColl n it w l ranks

/-- COLL_SEND (R260). -/
def execCollSend (item : Nat) (s : State) : Res := .next (s.collPhase item phSend (fun s it => s.collSend item it))

/-! ### Arrival (R264, R267, R277) -/

/-- The descriptor of the phase that consumes a window. -/
def State.collDesc (s : State) (c w : Nat) : Option Nat × State :=
  let (l, s) := s.windowDescs c w 4 8
  (l.find? (fun d => decide (0x50 ≤ descOpcode d) && decide (descOpcode d ≤ 0x57) && (cdPhase d == phRelay || cdPhase d == phFinish)), s)

/-- A contribution is damaged (R277). -/
def State.collDamage (s : State) (c step w rank : Nat) (seg : Option (Nat × Nat)) : State :=
  (s.bump Obj.COLL_DISCARD_COUNT c).setColl { s.coll with bad := s.coll.bad ++ [⟨c, step % 65536, w, rank, seg⟩] }

/-- What a record says of its source is kept: VISITS, and a marker. -/
def State.noteSource (s : State) (c step w : Nat) (h : CollHeader) : State :=
  let same := fun (x : CollFrom) => x.ctx == c && x.step == step % 65536 && x.window == w && x.rank == h.source
  let old := s.coll.sources.any (fun x => same x && x.marker)
  s.setColl { s.coll with sources := s.coll.sources.filter (fun x => !(same x)) ++ [⟨c, step % 65536, w, h.source, h.visits, old || h.kind == 1⟩] }

/-- A node takes its place among the staged ones. -/
def State.addNode (s : State) (nd : CollNode) : State := s.setColl { s.coll with nodes := s.coll.nodes ++ [nd] }

/-- A staged node gives its place to another, which takes its buffer over. -/
def State.putNode (s : State) (old nd : CollNode) : State :=
  s.setColl { s.coll with nodes := s.coll.nodes.filter (· != old) ++ [nd] }

/-- A segment staged at its position's leaf. -/
def State.stageLeaf (s : State) (c step w q rank : Nat) (x : Seg) (b : Bytes) (tags : List Nat) (buf : Option (Nat × Nat)) : State :=
  let nd : CollNode := { ctx := c, step := step % 65536, window := w, seg := x.index, col := x.col, lo := q, buf := buf,
                         bytes := if buf.isSome then [] else b, len := b.length, tags := tags, low := rank }
  let s := match buf with | some (_, o) => s.bufferWrite 3 c o b | none => s
  s.addNode nd

/-- A part as a node of its own, held beside the buffers. -/
def CollLeaf.node (l : CollLeaf) (nd : CollNode) : CollNode :=
  { ctx := nd.ctx, step := nd.step, window := nd.window, seg := nd.seg, col := nd.col, lo := l.pos, bytes := l.bytes,
    len := l.bytes.length, tags := l.tags, low := l.rank, spoiled := l.spoiled }

/-- What a node joins: the parts of a joined one, a leaf's own; `b` are its bytes and `spoiled` its bad units. -/
def CollNode.parts (nd : CollNode) (b : Bytes) (spoiled : List Nat) : List CollLeaf :=
  if nd.size = 1 then [⟨nd.lo, nd.low, b, nd.tags, spoiled⟩] else nd.leaves

/-- A joined node comes apart into the parts that `keep` picks (02_beat_and_time R66): its value without one of them is formed
from them again. (DESIGN CHOICE, notes/assumptions/156.) -/
def State.splitNode (s : State) (keep : Nat → Bool) (nd : CollNode) : State :=
  ((nd.leaves.filter (fun l => keep l.pos)).map (·.node nd)).foldl State.addNode (s.dropNodes (· == nd))

/-- Position `q`'s part of the segment has been staged, alone or in a joined node. -/
def State.covered (s : State) (c step w : Nat) (x : Seg) (q : Nat) : Bool :=
  s.coll.nodes.any (fun n => n.of c step w && n.seg == x.index && n.col == x.col
    && ((n.size == 1 && n.lo == q) || n.leaves.any (fun l => l.pos == q)))

/-- Fast sequential mode, which governs FP32 sums alone (R268); a merge has no sequential form (R273). -/
def State.sequential (s : State) (c : Nat) (g : Geo) : Bool :=
  s.reg Obj.CANONICAL_REDUCTION c == 0 && cdElem g.d == 0 && cdRedop g.d == 0 && !(cdMerges g.d) && !(g.copies)

/-- The units of a value that a predicate picks. -/
def Geo.pick (g : Geo) (x : Seg) (p : CUnit → Bool) (v : CVal) : List Nat :=
  (List.range (g.units x)).filter (fun u => match v.units[u]? with | some e => p e | none => false)

/-- The joined node of a value, in the place and the buffer of `nd`. -/
def Geo.joined (g : Geo) (x : Seg) (v : CVal) (nd : CollNode) (lo size : Nat) (parts : List CollLeaf) : CollNode :=
  { nd with lo := lo, size := size, low := v.low, tags := v.units.map (·.tag), spoiled := g.pick x (·.bad) v,
            exhausted := g.pick x (·.exhausted) v,
            srcs := ((List.range x.count).zip (g.flat x (v.units.map (·.srcs)))).filter (fun e => e.2 != 0), leaves := parts,
            bytes := if nd.buf.isSome then [] else g.valData x v }

/-- Two nodes joined, `l` on the left: the value is written in the buffer of `l`, and that of `r` goes back. -/
def State.joinNodes (s : State) (g : Geo) (x : Seg) (l r : CollNode) (lo size : Nat) : State :=
  let (a, s) := s.nodeVal g x l
  let (b, s) := s.nodeVal g x r
  let ((lb, _), s) := s.nodeBytes l
  let ((rb, _), s) := s.nodeBytes r
  let (v, retries, inexact) := a.join g.d (s.reg Obj.ACC_RETRY_SHIFT l.ctx) b
  let s := (s.bump Obj.COLL_RETRY_COUNT l.ctx retries).bump Obj.COLL_REALIGN_INEXACT_COUNT l.ctx inexact
  let s := s.dropNodes (· == r)
  let s := match l.buf with | some (_, o) => s.bufferWrite 3 l.ctx o (g.valData x v) | none => s
  s.putNode l (g.joined x v l lo size (l.parts lb (g.pick x (·.bad) a) ++ r.parts rb (g.pick x (·.bad) b)))

/-- Fast mode: a segment of a contribution is added to its accumulator as it arrives, the accumulated result on the left (R268);
the first one takes a staging buffer for the accumulator. False: none is free. -/
def State.accumulate (s : State) (c step w q rank : Nat) (g : Geo) (x : Seg) (b : Bytes) (tags : List Nat) : Bool × State :=
  match s.node? c step w x 0 0 with
  | some acc =>
    let leaf : CollLeaf := ⟨q, rank, b, tags, []⟩
    (true, (s.addNode (leaf.node acc)).joinNodes g x acc (leaf.node acc) 0 0)
  | none =>
    match s.stagingBuffer c with
    | (some k, s) =>
      let nd : CollNode := { ctx := c, step := step % 65536, window := w, seg := x.index, col := x.col, lo := 0, size := 0,
                             buf := some (k, s.bufBase c k), len := b.length, low := rank }
      let v := g.leafVal x (wordsAt (wireBytes g.d) x.count b) tags rank
      (true, (s.bufferWrite 3 c (s.bufBase c k) b).addNode (g.joined x v nd 0 0 [⟨q, rank, b, tags, []⟩]))
    | (none, s) => (false, s)

/-- The segment of a region that a header names. -/
def Geo.segOf (g : Geo) (q : Nat) (h : CollHeader) : Option Seg :=
  if cdMerges g.d then (if h.seg % 1024 = 0 ∧ h.col = 0 then some ⟨h.seg, 0, 1, h.len⟩ else none)
  else (g.segs (g.lands q)).find? (fun x => x.index == h.seg && x.col == h.col)

/-- The record names its sender's position and the collective's elements. -/
def Geo.headFits (g : Geo) (q : Nat) (h : CollHeader) : Bool := h.pos == q && h.elem == cdElem g.d && h.tagged == cdTagged g.d

/-- The record has the header and the length that its position's segment has. -/
def Geo.fits (g : Geo) (q : Nat) (h : CollHeader) (b : Bytes) (x : Seg) : Bool :=
  g.headFits q h && h.kind == g.kind && h.len == x.count
    && b.length == alignUp (32 + (if cdMerges g.d then 4 else wireBytes g.d) * x.count + (if cdTagged g.d then g.units x else 0)) 16

/-- A contribution record of a window is staged. False: no staging buffer is free, and the record waits. -/
def State.collStage (s : State) (c w : Nat) (h : CollHeader) (b : Bytes) : Bool × State :=
  match s.collDesc c w with
  | (none, s) => (true, s.bump Obj.COLL_DISCARD_COUNT c)
  | (some d, s) =>
    match s.geoOf c d w with
    | none => (true, s.bump Obj.COLL_DISCARD_COUNT c)
    | some g =>
      let q := (g.ranks.findIdx? (· == h.source)).getD 0
      let body := b.drop 32
      let empty := decide ((g.lands q).len = 0) && !(cdMerges d)
      if h.kind = 1 ∨ empty = true then
        if g.headFits q h && (h.kind == 1 || h.kind == g.kind) && b.length == 32 then (true, s.noteSource c h.step w h)
        else (true, s.collDamage c h.step w h.source none)
      else
        match g.segOf q h with
        | none => (true, (s.noteSource c h.step w h).collDamage c h.step w h.source none)
        | some x =>
          if g.fits q h b x && !(s.covered c h.step w x q) then
            let size := (if cdMerges d then 4 else wireBytes d) * x.count
            let data := body.take size
            let tags := if cdTagged d && !(cdMerges d) then ((body.drop size).take (g.units x)).map BitVec.toNat else []
            if g.copies then (true, (s.noteSource c h.step w h).stageLeaf c h.step w q h.source x data tags none)
            else if s.sequential c g then
              (match s.accumulate c h.step w q h.source g x data tags with
               | (true, s) => (true, s.noteSource c h.step w h)
               | (false, s) => (false, s))
            else
              match s.stagingBuffer c with
              | (some k, s) =>
                (true, (s.noteSource c h.step w h).stageLeaf c h.step w q h.source x data tags (some (k, s.bufBase c k)))
              | (none, s) => (false, s)
          else (true, (s.noteSource c h.step w h).collDamage c h.step w h.source (some (x.index, x.col)))

/-- The engine's record, or one that nothing serves: VC1 is the router's, VC4 and VC5 the fabric agent's. -/
def State.engineRecord (s : State) (d : Delivered) : Bool :=
  s.collectivesRecord d || (!d.close && d.vc != 4 && d.vc != 5 && !(s.routersRecord d (fun _ => true)))

/-- A contribution record that has been delivered (R258, R264). A record that finds no staging buffer stays where it is. -/
def State.contributionArrive (s : State) (node vc : Nat) : State :=
  match s.takeInbox node vc s.engineRecord with
  | none => s
  | some (dl, t) =>
    let c := dl.ctx
    let h := collHeaderAt (ofLE (dl.bytes.take 32))
    match (t.plan c).image with
    | none => t.bump Obj.COLL_DISCARD_COUNT c
    | some im =>
      match im.windowOfTag h.id with
      | none => t.bump Obj.COLL_DISCARD_COUNT c
      | some (w, x) =>
        if t.takesStep c h.step && (im.sources x).contains h.source && (im.consumers w).any (fun e => e.2.opClass == 4) then
          if t.contribDropped c h.step w h.source then t.bump Obj.COLL_DISCARD_COUNT c
          else
            match t.collStage c w h dl.bytes with
            | (true, t) => (t.contribRecord c h.step w h.source).2
            | (false, _) => s
        else t.bump Obj.COLL_DISCARD_COUNT c

/-- CONTRIBUTION_RECORD_ARRIVE (R264). -/
def execContributionRecordArrive (node vc : Nat) (s : State) : Res := .next (s.contributionArrive node vc)

/-! ### The tree (R266-R268) -/

/-- How a position stands at a window that has met close + G. -/
inductive CPos where
  | absent
  | coded
  | present
  deriving DecidableEq, Repr

/-- The contribution of a position: a dropped one takes its absence value (R275). -/
def State.posState (s : State) (c step w : Nat) (g : Geo) (q : Nat) : CPos :=
  match g.ranks[q]? with
  | none => .absent
  | some r =>
    if s.contribDropped c step w r then (if cdRankCode g.d then .coded else .absent)
    else if s.coll.sources.any (fun x => x.ctx == c && x.step == step % 65536 && x.window == w && x.rank == r && x.marker) then .absent
    else .present

/-- What the evaluation of a tree has counted and found. -/
structure Tally where
  retries : Nat := 0
  inexact : Nat := 0
  deriving DecidableEq, Repr

def Tally.add (a b : Tally) : Tally := ⟨a.retries + b.retries, a.inexact + b.inexact⟩

/-- The value of a leaf. -/
def State.leafOf (s : State) (c step w : Nat) (g : Geo) (x : Seg) (q : Nat) : Option CVal × State :=
  match s.posState c step w g q with
  | .absent => (none, s)
  | .coded => let r := g.ranks.getD q 0; (some (g.constVal x (rankCode g.d r) r), s)
  | .present =>
    match s.node? c step w x q 1 with
    | some nd => let (v, s) := s.nodeVal g x nd; (some v, s)
    | none => (none, s)

/-- The join of what two children may hold: an absent child passes its sibling up. -/
def joinOpt (d shift : Nat) (l r : Option CVal) : Option CVal × Tally :=
  match l, r with
  | some a, some b => let j := a.join d shift b; (some j.1, ⟨j.2.1, j.2.2⟩)
  | some a, none => (some a, {})
  | none, r => (r, {})

/-- The node over 2^level positions from `lo`: staged, or evaluated from its children. -/
def State.treeVal (s : State) (c step w : Nat) (g : Geo) (x : Seg) : Nat → Nat → (Option CVal × Tally) × State
  | 0, lo => let (v, s) := s.leafOf c step w g x lo; ((v, {}), s)
  | k + 1, lo =>
    match s.node? c step w x lo (2 ^ (k + 1)) with
    | some nd => let (v, s) := s.nodeVal g x nd; ((some v, {}), s)
    | none =>
      let ((l, t1), s) := s.treeVal c step w g x k lo
      let ((r, t2), s) := s.treeVal c step w g x k (lo + 2 ^ k)
      let (v, t3) := joinOpt g.d (s.reg Obj.ACC_RETRY_SHIFT c) l r
      ((v, (t1.add t2).add t3), s)

/-- Levels of a tree over P positions. -/
def treeLevels (p : Nat) : Nat := (List.range 15).foldl (fun a k => if 2 ^ k < p then k + 1 else a) 0

/-- Fast mode at FINISH (R268): positions whose parts no accumulator holds, added to it in turn: those that came under the other
mode, before the step, then those that take a rank code. -/
def State.seqVal (s : State) (c step w : Nat) (g : Geo) (x : Seg) : List Nat → Option CVal → Tally → (Option CVal × Tally) × State
  | [], a, t => ((a, t), s)
  | q :: qs, a, t =>
    let (v, s) := s.leafOf c step w g x q
    let (j, t1) := joinOpt g.d (s.reg Obj.ACC_RETRY_SHIFT c) a v
    s.seqVal c step w g x qs j (t.add t1)

/-- The accumulator of a segment, and what is added to it at FINISH. -/
def State.accVal (s : State) (c step w : Nat) (g : Geo) (x : Seg) : (Option CVal × Tally) × State :=
  let (a, s) := match s.node? c step w x 0 0 with
    | some nd => let (v, s) := s.nodeVal g x nd; (some v, s)
    | none => (none, s)
  let came := (s.coll.nodes.filter (fun n => n.of c step w && n.seg == x.index && n.col == x.col && n.size == 1)).map (·.lo)
  let coded := (List.range g.size).filter (fun q => s.posState c step w g q == .coded && !(came.contains q))
  s.seqVal c step w g x (came ++ coded) a {}

/-- Ranks whose contribution to a segment is damaged or lacks it (R277). -/
def State.badRanks (s : State) (c step w : Nat) (g : Geo) (x : Seg) : List Nat :=
  ((List.range g.size).filter (fun q => s.posState c step w g q == .present &&
    (!(s.covered c step w x q) || s.coll.bad.any (fun b =>
      b.ctx == c && b.step == step % 65536 && b.window == w && b.rank == g.ranks.getD q 0 && b.seg == some (x.index, x.col))))).map
    (fun q => g.ranks.getD q 0)

/-- A unit as it is written: the values of an uncorrectable word where a staging word of it was bad (R277), NaNs in their
pattern (R79). -/
def CUnit.result (d : Nat) (u : CUnit) : CUnit :=
  if u.bad then { u with tag := 0, vals := u.vals.map (fun _ => poisonWord d) } else { u with vals := u.vals.map (canonWord d) }

/-- The value of a segment of the result: none when every position is absent. Joins are counted. -/
def State.segVal (s : State) (n : Nat) (it : Item) (w : Nat) (g : Geo) (x : Seg) : Option CVal × State :=
  let c := it.ctx
  match s.badRanks c it.step w g x with
  | r :: rs =>
    let low := rs.foldl min r
    let v := g.constVal x (poisonWord g.d) low
    (some { v with units := v.units.map (fun u => { u with srcs := u.vals.map (fun _ => low + 1) }) }, s.meet n .failedProtection)
  | [] =>
    let ((v, t), s) := if s.sequential c g then s.accVal c it.step w g x else s.treeVal c it.step w g x (treeLevels g.size) 0
    let s := (s.bump Obj.COLL_RETRY_COUNT c t.retries).bump Obj.COLL_REALIGN_INEXACT_COUNT c t.inexact
    match v with
    | none => (none, s)
    | some v =>
      let s := if v.units.any (·.bad) then s.meet n .failedUncorrectable else s
      let e := (v.units.filter (·.exhausted)).length
      let s := s.bump Obj.COLL_EXHAUSTED_COUNT c e
      (some { v with units := v.units.map (CUnit.result g.d) }, if e = 0 then s else s.meet n .scaleExhausted)

/-- What an all-absent segment holds (R265, R271). -/
def Geo.emptyVal (g : Geo) (x : Seg) : CVal :=
  let v := if cdRedop g.d = 3 then 0xFF800000 + place 0xFFFFFFFF 32 32
    else if cdRedop g.d = 4 then 0x7F800000 + place 0xFFFFFFFF 32 32 else 0
  ⟨(List.range (g.units x)).map (fun u =>
    let l := g.unitPart x (List.replicate x.count v) u
    { vals := l, srcs := l.map (fun _ => 0) }), 0⟩

/-- TREE_JOIN (R267): both children of a node exist, so it is joined. A child exists when every position under it has staged this
segment or is absent; an absent one passes its sibling up. -/
def State.treeJoin (s : State) (c w : Nat) (seg col lo size : Nat) : State :=
  match s.openStep c, s.collDesc c w with
  | some step, (some d, s) =>
    (match s.geoOf c d w with
     | none => s
     | some g =>
       let half := size / 2
       match (g.segs (g.lands g.pos)).find? (fun x => x.index == seg && x.col == col) with
       | none => s
       | some x =>
         let absent := fun (q : Nat) => s.posState c step w g q == .absent
         let ready := (range2 lo (min (lo + size) g.size)).all (fun q => absent q || s.covered c step w x q)
         let gone := fun (a : Nat) => (range2 a (min (a + half) g.size)).all absent
         let pass := fun (nd : CollNode) =>
           let (v, s) := s.nodeVal g x nd
           let ((b, _), s) := s.nodeBytes nd
           s.putNode nd (g.joined x v nd lo size (nd.parts b (g.pick x (·.bad) v)))
         if g.copies || cdMerges d || s.sequential c g || !(isPow2 size) || size < 2 || lo % size != 0 || !ready
             || (s.node? c step w x lo size).isSome then s
         else
           match s.node? c step w x lo half, s.node? c step w x (lo + half) half with
           | some l, some r => s.joinNodes g x l r lo size
           | some l, none => if gone (lo + half) then pass l else s
           | none, some r => if gone lo then pass r else s
           | none, none => s)
  | _, _ => s

/-- TREE_JOIN (R266, R267). -/
def execTreeJoin (ctx window seg col lo size : Nat) (s : State) : Res := .next (s.treeJoin ctx window seg col lo size)

/-! ### Output (R265, R274) -/

/-- What a FINISH or RELAY has written so far. -/
structure Wrote where
  nans : Nat := 0
  lowest : Option Nat := none
  /-- Some position was not absent. -/
  live : Bool := false
  deriving DecidableEq, Repr

/-- The element is NaN (R274: FP32, BF16 and FP16 outputs). -/
def nanElem (d v : Nat) : Bool := decide (cdElem d ≤ 2) && (elemValue (cdElem d) (v % 2 ^ (8 * elemBytes d))).isNan

/-- The NaN elements of a value are counted. -/
def Wrote.count (d : Nat) (v : CVal) (a : Wrote) : Wrote :=
  v.units.foldl (fun a u => (u.vals.zip (u.srcs ++ u.vals.map (fun _ => 0))).foldl (fun (a : Wrote) (e : Nat × Nat) =>
    if nanElem d e.1 then
      { a with nans := a.nans + 1
               lowest := if e.2 = 0 then a.lowest
                 else some (match a.lowest with | some l => min l (e.2 - 1) | none => e.2 - 1) }
    else a) a) a

/-- Words written over spans. -/
def State.writeSpans (s : State) (n c base w : Nat) : List Span → List Nat → State
  | [], _ => s
  | p :: ps, l => (s.sWrite n c (base + p.off) ((l.take p.count).flatMap (leBytes w))).writeSpans n c base w ps (l.drop p.count)

/-- A segment of the result is written: values, indices, tags. -/
def State.writeSeg (s : State) (n : Nat) (it : Item) (g : Geo) (r : Region) (x : Seg) (v : CVal) : State :=
  let d := g.d
  let c := it.ctx
  let rows := g.segRows r x
  let l := g.flat x (v.units.map (·.vals))
  let spans := fun (pitch w : Nat) => rows.flatMap (fun (e : Nat × Nat) => g.spans g.dstBase pitch w e.1 e.2)
  let s := s.writeSpans n c (cdDst d) (elemBytes d) (spans g.pitch (elemBytes d)) l
  let s := if cdIndexed d then s.writeSpans n c (outIndex d) 4 (spans (4 * cdN d) 4) (l.map (· / 2 ^ 32)) else s
  if cdTagged d then
    s.sWrite n c (cdDstTag d + ((r.lo / cdN d - g.dstBase.1 / cdN d) / 32 + x.index) * g.tagCols + x.col)
      (v.units.map (fun u => BitVec.ofNat 8 u.tag))
  else s

/-- The NaN record and the NaN counter (R274). -/
def State.writeNans (s : State) (n : Nat) (it : Item) (g : Geo) (a : Wrote) : State :=
  let s := s.bump Obj.COLL_NAN_ELEMENT_COUNT it.ctx a.nans
  if cdNan g.d = none40 then s
  else s.sWrite n it.ctx (cdNan g.d) (leBytes 16 (place a.nans 64 64 + place g.tag 48 16 + place (ofBool (decide (0 < a.nans))) 47 1
    + place (a.lowest.getD 0) 32 14 + place it.step 0 32))

/-- The sum of VISITS over all positions (R265); a dropped contribution brings none. -/
def State.visitSum (s : State) (c step w : Nat) (g : Geo) : Nat :=
  (s.coll.sources.filter (fun x => x.ctx == c && x.step == step % 65536 && x.window == w && g.ranks.contains x.rank
    && !(s.contribDropped c step w x.rank))).foldl (fun a x => a + x.visits) 0

/-- Absence values applied are counted (R275). -/
def State.applyAbsence (s : State) (n : Nat) (it : Item) (w : Nat) (g : Geo) : State :=
  let dropped := (g.ranks.filter (fun r => s.contribDropped it.ctx it.step w r)).length
  if dropped = 0 then s
  else (s.bump Obj.COLL_ZERO_MARKER_COUNT it.ctx dropped).meet n .droppedLate

/-- Everything staged for a window goes. -/
def State.collDone (s : State) (c step w : Nat) : State :=
  let s := s.dropNodes (fun n => n.of c step w)
  let mine := fun (a b d : Nat) => a == c && b == step % 65536 && d == w
  s.setColl { s.coll with sources := s.coll.sources.filter (fun x => !(mine x.ctx x.step x.window)),
                          bad := s.coll.bad.filter (fun x => !(mine x.ctx x.step x.window)) }

/-- A record of a source named no segment of the collective: the contribution is damaged though no unit is (R277). -/
def State.strayBad (s : State) (n : Nat) (it : Item) (w : Nat) : State :=
  if s.coll.bad.any (fun b => b.ctx == it.ctx && b.step == it.step % 65536 && b.window == w && !(s.contribDropped it.ctx it.step w b.rank)) then
    s.meet n .failedProtection else s

/-- The segments of a reduced region, evaluated one after another; `out` writes or keeps each. -/
def State.reduceSegs (s : State) (n : Nat) (it : Item) (w : Nat) (g : Geo) (out : State → Seg → CVal → State) (a : Wrote) :
    List Seg → (List (Seg × CVal) × Wrote) × State
  | [] => (([], a), s)
  | x :: xs =>
    let (v?, s) := s.segVal n it w g x
    let v := v?.getD (g.emptyVal x)
    let a := Wrote.count g.d v { a with live := a.live || v?.isSome }
    let ((l, a), s) := (out s x v).reduceSegs n it w g out a xs
    (((x, v) :: l, a), s)

/-- Some position of the window is not absent. -/
def State.anyLive (s : State) (it : Item) (w : Nat) (g : Geo) : Bool :=
  (List.range g.size).any (fun q => s.posState it.ctx it.step w g q != .absent)

/-- A copied segment: what its position sent, or its absence value, or the values of an uncorrectable word. -/
def State.copySeg (s : State) (n : Nat) (it : Item) (w : Nat) (g : Geo) (q : Nat) (x : Seg) : CVal × State :=
  let r := g.ranks.getD q 0
  let zero := g.constVal x 0 r
  match s.posState it.ctx it.step w g q with
  | .absent => (zero, s)
  | .coded => (g.constVal x (rankCode g.d r) r, s)
  | .present =>
    let bad := s.coll.bad.any (fun b =>
      b.ctx == it.ctx && b.step == it.step % 65536 && b.window == w && b.rank == r && b.seg == some (x.index, x.col))
    match s.node? it.ctx it.step w x q 1, bad with
    | some nd, false =>
      let (v, s) := s.nodeVal g x nd
      ({ v with units := v.units.map (fun u => { u with srcs := u.vals.map (fun y => if nanElem g.d y then r + 1 else 0) }) }, s)
    | _, _ =>
      let v := g.constVal x (poisonWord g.d) r
      ({ v with units := v.units.map (fun u => { u with srcs := u.vals.map (fun _ => r + 1) }) }, s.meet n .failedProtection)

/-- The segments of position `q`'s region, copied. -/
def State.copySegs (s : State) (n : Nat) (it : Item) (w : Nat) (g : Geo) (q : Nat) (a : Wrote) : List Seg → Wrote × State
  | [] => (a, s)
  | x :: xs =>
    let (v, s) := s.copySeg n it w g q x
    (s.writeSeg n it g (g.lands q) x v).copySegs n it w g q (Wrote.count g.d v a) xs

/-- Every position's region, copied. -/
def State.copyAll (s : State) (n : Nat) (it : Item) (w : Nat) (g : Geo) (a : Wrote) : List Nat → Wrote × State
  | [] => (a, s)
  | q :: qs =>
    let (a, s) := s.copySegs n it w g q a (g.segs (g.lands q))
    s.copyAll n it w g a qs

/-- The reduced count is written (R265). -/
def State.writeVisits (s : State) (n : Nat) (it : Item) (v : Nat) : State :=
  if cdCount it.desc = none40 then s else s.sWrite n it.ctx (cdCount it.desc) (leBytes 4 (min v (2 ^ 32 - 1)))

/-- The FINISH of a dense collective writes its output, count and NaN record. A two-window ALL_REDUCE whose every position
sent a marker is known by its count of 0 (R265). -/
def State.finishDense (s : State) (n : Nat) (it : Item) (w : Nat) (g : Geo) : State :=
  let v := s.visitSum it.ctx it.step w g
  let live := s.anyLive it w g
  let s := (s.applyAbsence n it w g).strayBad n it w
  let (a, s) := if g.copies then s.copyAll n it w g {} (List.range g.size)
    else
      let r := g.lands g.pos
      let ((_, a), s) := s.reduceSegs n it w g (fun s x v => s.writeSeg n it g r x v) {} (g.segs r)
      (a, s)
  let zero := if g.twoWindows then cdZeroMark g.d && cdCount g.d != none40 && v == 0 else !(g.copies) && !live
  let s := if zero then s.meet n .okZeroWork else s
  let s := ((s.writeVisits n it v).writeNans n it g a).collDone it.ctx it.step w
  s.finish n

/-- A RELAY finishes the first window and sends its reduced shard into the second (R260). -/
def State.collRelay (s : State) (n : Nat) (it : Item) : State :=
  match s.slotWindows it with
  | (some wi, some wo) =>
    (match s.geoOf it.ctx it.desc wi, s.geoOf it.ctx it.desc wo with
     | some g, some g2 =>
       let own := (s.coll.sources.find? (fun x => x.ctx == it.ctx && x.step == it.step % 65536 && x.window == wi && x.rank == s.rank it.ctx))
       let visits := match own with | some x => x.visits | none => 0
       let live := s.anyLive it wi g
       let s := (s.applyAbsence n it wi g).strayBad n it wi
       let r := g.lands g.pos
       let ((l, a), s) := s.reduceSegs n it wi g (fun s _ _ => s) {} (g.segs r)
       let s := if live then s else s.meet n .okZeroWork
       let s := (s.writeNans n it g a).collDone it.ctx it.step wi
       let recs := g2.records it.step visits 2 r l
       s.stageColl n it wo (g2.ranks.flatMap (fun k => recs.map (fun b => (k, b)))) g2.ranks
     | _, _ => s)
  | _ => s

/-- COLL_RELAY (R260). -/
def execCollRelay (item : Nat) (s : State) : Res := .next (s.collPhase item phRelay (fun s it => s.collRelay item it))

/-! ### Steps and resets -/

/-- A dropped contribution's staged parts are discarded, joined ones with them; a dropped hand-off makes its micro-batch absent
(02_beat_and_time R66, R69, 08_backward_and_training R244). -/
def State.collDropped (s : State) (c step w source : Nat) : State :=
  match (s.windowSources c w).findIdx? (· == source) with
  | some q =>
    let s := s.dropNodes (fun n => n.of c step w && n.lo == q && n.size == 1)
    let joined := s.coll.nodes.filter (fun n => n.of c step w && n.leaves.any (fun l => l.pos == q))
    (joined.foldl (fun s n => s.splitNode (· != q) n) s).markHandoffs c w
  | none => s

/-- What came for a step under fast sequential mode comes apart when the step runs in canonical mode (R278). -/
def State.splitAccs (s : State) (c : Nat) : State :=
  if s.reg Obj.CANONICAL_REDUCTION c = 0 then s
  else (s.coll.nodes.filter (fun n => n.ctx == c && n.size == 0)).foldl (fun s n => s.splitNode (fun _ => true) n) s

/-- A step of a context opens: what earlier steps left goes. -/
def State.collNewStep (s : State) (c step : Nat) : State :=
  let old := fun (k x : Nat) => k == c && x != step % 65536 && x != (step + 1) % 65536
  let s := (s.dropNodes (fun n => old n.ctx n.step)).splitAccs c
  s.setColl { s.coll with sources := s.coll.sources.filter (fun x => !(old x.ctx x.step)), bad := s.coll.bad.filter (fun x => !(old x.ctx x.step)),
                          phases := s.coll.phases.filter (fun x => x.ctx != c) }

/-- A context reset: nothing of it stays; the pool manager releases its buffers (14 R399). -/
def State.collForget (s : State) (c : Nat) : State :=
  let other := fun (n : Nat) => match s.item? n with | some it => it.ctx != c | none => false
  s.setColl { nodes := s.coll.nodes.filter (fun n => n.ctx != c), sources := s.coll.sources.filter (fun x => x.ctx != c),
              bad := s.coll.bad.filter (fun x => x.ctx != c), phases := s.coll.phases.filter (fun x => x.ctx != c),
              begun := s.coll.begun.filter other }

end Sys2Proof.Machine
end

