-- ==== Sys2Proof/Machine/Merge.lean ====
section
/-! DEFINITION. Sys2Proof/Machine/Merge.lean: sparsified gradients: TOPK_SELECT, the merge of sorted runs, and the FINISH phase of
every collective (06_sparsity R188-R190, 09_collectives R260, R272-R273). -/

namespace Sys2Proof.Machine

/-! ### Sorted runs (06 R188) -/

/-- An entry of a run: its index, its values. -/
abbrev RunEntry := Nat × List Nat

/-- The bytes of a run. -/
def runOf (width source : Nat) (l : List RunEntry) : Bytes :=
  leBytes 16 (place l.length 96 32 + place width 80 16 + place source 64 16)
    ++ l.flatMap (fun e => leBytes 4 e.1 ++ e.2.flatMap (leBytes 4))

/-- The entries that `n` groups of words spell. -/
def entriesIn (width : Nat) : Nat → List Nat → List RunEntry
  | 0, _ => []
  | n + 1, l => (l.headD 0, (l.drop 1).take width) :: entriesIn width n (l.drop (1 + width))

/-- What a position contributes to a merge. -/
inductive RunIs where
  /-- A zero-count marker, a dropped contribution, or a run with COUNT 0. -/
  | empty
  | run (width : Nat) (entries : List RunEntry)
  /-- Its indices do not strictly increase, or its segments do not make a run. -/
  | malformed
  deriving DecidableEq, Repr

/-- The pieces follow one another from the first byte on. -/
def contiguous : Nat → List (Nat × Bytes) → Bool
  | _, [] => true
  | at_, (seg, b) :: l => 256 * 4 * seg == at_ && contiguous (at_ + b.length) l

/-- A run parsed from its bytes. -/
def parseRun (pieces : List (Nat × Bytes)) : RunIs :=
  let b := pieces.flatMap (·.2)
  let h := ofLE (b.take 16)
  let count := field h 96 32
  let width := field h 80 16
  if contiguous 0 pieces = false ∨ b.length < 16 ∨ b.length ≠ runBytes width count then .malformed
  else if count = 0 then .empty
  else
    let es := entriesIn width count (wordsAt 4 ((b.length - 16) / 4) (b.drop 16))
    if strictlyRising (es.map (·.1)) then .run width es else .malformed

/-- The pieces of a position's run, in order; words of uncorrectable staging are NaN (R277). -/
def State.runPieces (s : State) : List CollNode → (List (Nat × Bytes) × Bool) × State
  | [] => (([], false), s)
  | nd :: l =>
    let ((b, bad), s) := s.nodeBytes nd
    let words := wordsAt 4 (nd.len / 4) b
    let words := (List.range words.length).map (fun i => if ((bad.drop (4 * i)).take 4).any id then nan32 else words.getD i 0)
    let ((r, x), s) := s.runPieces l
    (((nd.seg, words.flatMap (leBytes 4)) :: r, x || !bad.isEmpty), s)

/-- The run of a position; the answer also says whether a staging word was uncorrectable. -/
def State.positionRun (s : State) (c step w : Nat) (g : Geo) (q : Nat) : (RunIs × Bool) × State :=
  match s.posState c step w g q with
  | .present =>
    let nodes := sortBy (fun (a b : CollNode) => decide (a.seg ≤ b.seg)) (s.coll.nodes.filter (fun n => n.of c step w && n.lo == q))
    let damaged := s.coll.bad.any (fun b => b.ctx == c && b.step == step % 65536 && b.window == w && b.rank == g.ranks.getD q 0)
    let ((p, bad), s) := s.runPieces nodes
    ((if damaged then .malformed else parseRun p, bad), s)
  | _ => ((.empty, false), s)

/-- The runs of all positions. -/
def State.allRuns (s : State) (c step w : Nat) (g : Geo) : List Nat → (List RunIs × Bool) × State
  | [] => (([], false), s)
  | q :: qs =>
    let ((r, b), s) := s.positionRun c step w g q
    let ((l, x), s) := s.allRuns c step w g qs
    ((r :: l, b || x), s)

/-! ### The merge (06 R189, R190) -/

/-- A value of the merge tree with the source it carries (R274). -/
abbrev Sourced := Nat × Nat

/-- The join of two values. -/
def joinSourced (a b : Sourced) : Sourced := (fAdd a.1 b.1, lowSrc a.2 b.2)

/-- The tree over positions, absent children passing their siblings up. -/
def mergeTree (l : List (Option Sourced)) : Nat → Nat → Option Sourced
  | 0, lo => (l[lo]?).getD none
  | k + 1, lo =>
    match mergeTree l k lo, mergeTree l k (lo + 2 ^ k) with
    | some a, some b => some (joinSourced a b)
    | some a, none => some a
    | none, r => r

/-- The entries of a contribution. -/
def RunIs.entries : RunIs → List RunEntry
  | .run _ l => l
  | _ => []

/-- The widths of the runs that hold entries. -/
def runWidths (l : List RunIs) : List Nat := l.filterMap (fun r => match r with | .run w _ => some w | _ => none)

/-- The merged values at one index; a NaN that one source alone holds takes the fixed pattern too (03 R79). -/
def mergeAt (ranks : List Nat) (runs : List RunIs) (width index : Nat) : List Sourced :=
  (List.range width).map (fun j =>
    let leaves := (List.range runs.length).map (fun q =>
      match tfind ((runs.getD q .empty).entries) index with
      | some vals =>
        let v := canon32 (vals.getD j 0)
        some (v, if (f32 v).isFinite then 0 else ranks.getD q 0 + 1)
      | none => none)
    (mergeTree leaves (treeLevels runs.length) 0).getD (0, 0))

/-- The union of the indices, in increasing order. -/
def unionOf (runs : List RunIs) : List Nat := runs.foldl (fun a r => (r.entries.map (·.1)).foldl nsInsert a) []

/-- A run is malformed, or the widths differ. -/
def mergeBad (runs : List RunIs) : Bool :=
  runs.any (fun r => r == .malformed) || (match runWidths runs with | w :: ws => ws.any (· != w) | [] => false)

/-- NaN values of merged entries are counted. -/
def countMerged (l : List (Nat × List Sourced)) : Wrote :=
  (l.flatMap (·.2)).foldl (fun (a : Wrote) (e : Sourced) =>
    if (f32 e.1).isNan then
      { a with nans := a.nans + 1
               lowest := if e.2 = 0 then a.lowest
                 else some (match a.lowest with | some k => min k (e.2 - 1) | none => e.2 - 1) }
    else a) {}

/-- The dense form of a merge: each entry at its index, +0 elsewhere (R273). -/
def State.writeDense (s : State) (n : Nat) (it : Item) (width : Nat) (l : List (Nat × List Sourced)) : State :=
  let d := it.desc
  let words : Table Nat := (l.flatMap (fun e => (List.range width).map (fun j => (e.1 * width + j, (e.2.getD j (0, 0)).1)))).filter
    (fun (e : Nat × Nat) => decide (e.1 < cdM d * cdN d))
  s.writeRows n it.ctx (cdDst d) (alignUp (4 * cdN d) 32) 0
    ((List.range (cdM d)).map (fun r => (List.range (cdN d)).flatMap (fun i => leBytes 4 (tget 0 words (r * cdN d + i)))))

/-- The FINISH of a merge. -/
def State.finishMerge (s : State) (n : Nat) (it : Item) (w : Nat) (g : Geo) : State :=
  let d := it.desc
  let c := it.ctx
  let visits := s.visitSum c it.step w g
  let s := s.applyAbsence n it w g
  let ((runs, bad), s) := s.allRuns c it.step w g (List.range g.size)
  let s := if bad then s.meet n .failedUncorrectable else s
  let width := (runWidths runs).headD (cdWidth d)
  let broken := mergeBad runs
  let s := if broken then s.meet n .failedProtection else s
  let s := if !broken && (runWidths runs).isEmpty then s.meet n .okZeroWork else s
  let all := if broken then [] else (unionOf runs).map (fun i => (i, mergeAt g.ranks runs width i))
  let (l, s) := if cdDense d then
      let inside := all.filter (fun e => decide ((e.1 + 1) * width ≤ cdM d * cdN d))
      let s := if inside.length < all.length then s.meet n .failedProtection else s
      (inside, s.writeDense n it width inside)
    else
      let s := if cdCapacity d < all.length then s.meet n .failedQuota else s
      let l := all.take (cdCapacity d)
      (l, s.sWrite n c (cdDst d) (runOf width (s.rank c) (l.map (fun e => (e.1, e.2.map (·.1))))))
  let s := ((s.writeVisits n it visits).writeNans n it g (countMerged l)).collDone c it.step w
  s.finish n

/-- A FINISH runs. -/
def State.collFinish (s : State) (n : Nat) (it : Item) : State :=
  match (s.slotWindows it).1 with
  | none => s
  | some w =>
    match s.geoOf it.ctx it.desc w with
    | none => s
    | some g => if cdMerges it.desc then s.finishMerge n it w g else s.finishDense n it w g

/-- COLL_FINISH (R260). -/
def execCollFinish (item : Nat) (s : State) : Res := .next (s.collPhase item phFinish (fun s it => s.collFinish item it))

/-! ### TOPK_SELECT (R272) -/

/-- One row of u = G * 2^tag + R; elements of uncorrectable words are NaN (R277). -/
def State.topkRow (s : State) (n : Nat) (it : Item) (r : Nat) : List Nat × State :=
  let d := it.desc
  let c := it.ctx
  let k := cdN d
  let pitch := alignUp (4 * k) 32
  let (gs, s) := s.readSpans n c (cdSrc d) 4 nan32 [⟨r * pitch, k⟩]
  let (rs, s) := s.readSpans n c (cdAux d) 4 nan32 [⟨r * pitch, k⟩]
  let cols := (k + 31) / 32
  let (tags, s) := if cdTagged d then s.readSpans n c (cdSrcTag d + r / 32 * cols) 1 256 [⟨0, cols⟩] else ([], s)
  ((List.range k).map (fun i =>
    let t := tags.getD (i / 32) 0
    if t = 256 then nan32 else toF32 (((f32 (gs.getD i 0)).scale t).add (f32 (rs.getD i 0)))), s)

/-- Every row. -/
def State.topkRows (s : State) (n : Nat) (it : Item) : List Nat → List (List Nat) × State
  | [] => ([], s)
  | r :: rs =>
    let (v, s) := s.topkRow n it r
    let q := s.topkRows n it rs
    (v :: q.1, q.2)

/-- The key of an entry: its largest magnitude, a NaN above every number. -/
def topkKey (l : List Nat) : Nat := l.foldl (fun a v => max a (if (f32 v).isNan then 0x7FFFFFFF else v % 2 ^ 31)) 0

/-- The entries selected, in increasing index. -/
def topkChoice (k : Nat) (es : List RunEntry) : List RunEntry :=
  let eligible := es.filter (fun e => e.2.any (fun v => v % 2 ^ 31 != 0))
  let best := (sortBy (fun (a b : RunEntry) =>
    decide (topkKey b.2 < topkKey a.2) || (topkKey a.2 == topkKey b.2 && decide (a.1 ≤ b.1))) eligible).take k
  eligible.filter (fun e => best.any (fun b => b.1 == e.1))

/-- A TOPK_SELECT runs. -/
def State.topkSelect (s : State) (n : Nat) (it : Item) : State :=
  let d := it.desc
  let (rows, s) := s.topkRows n it (List.range (cdM d))
  let es : List RunEntry := if cdWidth d = 1 then
      let all := rows.flatten
      (List.range all.length).zip (all.map (fun v => [v]))
    else (List.range rows.length).zip rows
  let chosen := topkChoice (topkKeep d) es
  let s := s.sWrite n it.ctx (cdDst d) (runOf (cdWidth d) (s.rank it.ctx) chosen)
  let picked := chosen.map (·.1)
  let left := (List.range rows.length).map (fun r => ((List.range (cdN d)).map (fun i =>
    let e := if cdWidth d = 1 then r * cdN d + i else r
    if picked.contains e then 0 else (rows.getD r []).getD i 0)).flatMap (leBytes 4))
  let s := s.writeRows n it.ctx (cdAux d) (alignUp (4 * cdN d) 32) 0 left
  (if chosen.isEmpty then s.meet n .okZeroWork else s).finish n

/-- TOPK_SELECT (R272): it is taken and runs at once. -/
def execTopkSelect (item : Nat) (s : State) : Res :=
  .next (s.withItem item [0x55] (fun it s =>
    let code := s.collCheck it
    if code ≠ 0 then s.refuseColl item it.ctx code else s.topkSelect item it))

end Sys2Proof.Machine
end

