-- ==== Sys2Proof/Machine/Pins.lean ====
section
/-! DEFINITION. Sys2Proof/Machine/Pins.lean: the AUXIO pins, their ownership order and timers, the trace buffer, FAULT_OUT and
alarms (19_pins_and_interfaces R539, R546-R549, 18_clocks_power_reset R507). -/

namespace Sys2Proof.Machine

/-! ### Ownership (R546-R548) -/

/-- Function codes (R546); 0xFF: no function. -/
def fnGpioIn : Nat := 0
def fnGpioOut : Nat := 1
def fnFaultOut : Nat := 2
def fnPpsOut : Nat := 3
def fnBeatMark : Nat := 4
def fnTrigIn : Nat := 5
def fnTrigOut : Nat := 6
def fnClkobs : Nat := 7
def fnNone : Nat := 0xFF

/-- Rank of a function: 1 is the highest. -/
def fnRank (f : Nat) : Nat := [6, 6, 1, 2, 3, 4, 4, 5].getD f 7

/-- The function needs a timer (R546). -/
def fnTimed (f : Nat) : Bool := decide (3 ≤ f) && decide (f ≤ 6)

/-- What a pin carries. -/
def State.pinOwner (s : State) (p : Nat) : Nat := s.regF Obj.AUXIO_STATE p 0

/-- The timers of a state replaced. -/
def State.setTimers (s : State) (t : Table TimerHolder) : State := (s.setPins { s.pins with timers := t })

/-- The timer that a holder has. -/
def State.timerOf (s : State) (h : TimerHolder) : Option Nat := (s.pins.timers.find? (fun e => e.2 == h)).map (·.1)

/-- A holder gives its timer back. -/
def State.freeTimer (s : State) (h : TimerHolder) : State :=
  let s := s.setTimers (s.pins.timers.filter (fun e => e.2 != h))
  match h with
  | .pin p => s.setRegF Obj.AUXIO_STATE p 2 fnNone
  | .internal _ => s

/-- Rank of a timer's holder: an internal trigger ranks with TRIG_OUT. -/
def State.holderRank (s : State) : TimerHolder → Nat
  | .pin p => fnRank (s.pinOwner p)
  | .internal _ => fnRank fnTrigOut

/-- The function of a pin stops: its timer is free, and a clock observation reads disabled. -/
def State.stopPin (s : State) (p : Nat) : State :=
  let s := if s.pinOwner p = fnClkobs then s.setRegF Obj.CLKOBS 0 0 0 else s
  (s.freeTimer (.pin p)).setRegF Obj.AUXIO_STATE p 0 fnNone

/-- A timer's holder is displaced (R547, R548). -/
def State.displace (s : State) : TimerHolder → State
  | .pin p =>
    let o := s.pinOwner p
    (s.stopPin p).setRegF Obj.AUXIO_STATE p 3 o
  | .internal i => (s.freeTimer (.internal i)).setRegF Obj.TRIG_INTERNAL i 0 0

/-- The holder that a request of a rank displaces when no timer is free: the lowest-ranked below it, among equals the one with
the highest timer number (R548). -/
def State.victim (s : State) (rank : Nat) : Option TimerHolder :=
  (s.pins.timers.foldl (fun (best : Option (Nat × TimerHolder)) e =>
    let r := s.holderRank e.2
    if rank < r ∧ (match best with | some b => decide (b.1 ≤ r) | none => true) = true then some (r, e.2) else best) none).map (·.2)

/-- A holder takes a timer: the lowest-numbered free one, or that of the holder it displaces; none when no holder ranks lower
(R548). -/
def State.takeTimer (s : State) (h : TimerHolder) (rank : Nat) : Option (Nat × State) :=
  match (List.range 8).find? (fun t => (tfind s.pins.timers t).isNone) with
  | some t => some (t, s.setTimers (tset s.pins.timers t h))
  | none =>
    match s.victim rank with
    | none => none
    | some v =>
      (match s.timerOf v with
       | some t =>
         let s := s.displace v
         some (t, s.setTimers (tset s.pins.timers t h))
       | none => none)

/-- A request for a pin meets the ownership order (R547). -/
def pinGrants (owner f : Nat) : Bool :=
  owner == fnNone || owner == f || decide (fnRank f < fnRank owner) || (decide (f ≤ 1) && decide (owner ≤ 1))

/-- A function takes a pin: none when it is refused RESOURCE_OWNED. -/
def State.placeFunction (s : State) (p f : Nat) : Option State :=
  let o := s.pinOwner p
  if pinGrants o f = false then none
  else
    let t := if o = f ∨ o = fnNone then s
      else if f ≤ 1 ∧ o ≤ 1 then s.stopPin p
      else (s.stopPin p).setRegF Obj.AUXIO_STATE p 3 o
    let own := fun (t : State) => t.setRegF Obj.AUXIO_STATE p 0 f
    if fnTimed f && (t.timerOf (.pin p)).isNone then
      (t.takeTimer (.pin p) (fnRank f)).map (fun r => (own r.2).setRegF Obj.AUXIO_STATE p 2 r.1)
    else some (own t)

/-- The fields of AUXIO_CONFIG are in range for the function (R546). -/
def State.auxioFits (s : State) (f polarity width param : Nat) : Bool :=
  decide (f ≤ 6) && decide (polarity ≤ 1) && decide (width < 2 ^ 32) && decide (param < 2 ^ 64)
    && (f != fnPpsOut || (decide (1000 ≤ width) && decide (width ≤ 500000000)))
    && (f != fnBeatMark || (decide (20 ≤ width) && decide (2 * width ≤ s.cad.period) && decide (param ≤ 16)))

/-- A write of AUXIO_CONFIG. -/
def State.auxioWrite (s : State) (p f polarity width param : Nat) (flashOk : Bool) : Nat × State :=
  if s.auxioFits f polarity width param = false then (Abort.VALUE_RANGE, s)
  else match s.placeFunction p f with
    | none => (Abort.RESOURCE_OWNED, s)
    | some t =>
      if flashOk = false then (Abort.FLASH_FAILED, s.flashFailed Obj.AUXIO_CONFIG)
      else (0, t.store Obj.AUXIO_CONFIG p [f, polarity, width, param])

/-- AUXIO_CONFIG_WRITE (R547). -/
def execAuxioConfigWrite (who : Who) (pin function polarity width param : Nat) (flashOk : Bool) (s : State) : Res :=
  .next (s.row who Obj.AUXIO_CONFIG pin false (fun s => s.auxioWrite pin function polarity width param flashOk))

/-- The pins take their functions from AUXIO_CONFIG, but for one that carries FAULT_OUT asserted (R546, R551). -/
def State.resumePins (s : State) : State :=
  (List.range 8).foldl (fun s p =>
    let f := s.regF Obj.AUXIO_CONFIG p 0
    let f := if s.pins.faultOut.contains p then fnFaultOut else f
    (s.placeFunction p f).getD s) s

/-! ### Clock observation (18 R503, R507) -/

/-- Nominal frequency of a clock source in kHz: a domain, or 128 for REFCLK. -/
def clockKHz (d : Nat) : Nat :=
  if d < 48 then 1900000 else if d < 76 then 2000000 else if d < 94 then 1562500 else if d < 98 then 1000000
  else if d < 102 then 800000 else if d < 115 then 1600000 else if d < 117 then 800000 else if d = 128 then 100000 else 0

/-- A write of CLKOBS (R507): ENABLE FALSE frees its pin. -/
def State.clkobsWrite (s : State) (enable : Bool) (source div pin : Nat) : Nat × State :=
  let old := s.fields Obj.CLKOBS 0
  let leave := fun (s : State) => if old.getD 0 0 = 1 ∧ s.pinOwner (old.getD 3 0) = fnClkobs then s.stopPin (old.getD 3 0) else s
  if (118 ≤ source ∧ source ≤ 127) ∨ 128 < source ∨ 16 < div ∨ 7 < pin then (Abort.VALUE_RANGE, s)
  else if enable = false then (0, (leave s).setFields Obj.CLKOBS 0 [0, source, div, pin])
  else if 100000 * 2 ^ div < clockKHz source then (Abort.VALUE_RANGE, s)
  else match s.placeFunction pin fnClkobs with
    | none => (Abort.RESOURCE_OWNED, s)
    | some t =>
      let t := if old.getD 3 0 % 256 = pin then t else leave t
      (0, t.setFields Obj.CLKOBS 0 [1, source, div, pin])

/-- CLKOBS_WRITE (R507). -/
def execClkobsWrite (who : Who) (enable : Bool) (source div pin : Nat) (s : State) : Res :=
  .next (s.row who Obj.CLKOBS 0 false (fun s => s.clkobsWrite enable source div pin))

/-! ### Internal triggers and beat edges (R546, R548) -/

/-- A write of TRIG_INTERNAL (R548). -/
def State.trigInternal (s : State) (i : Nat) (enable : Bool) (beat : Nat) : Nat × State :=
  let put := fun (s : State) => s.setFields Obj.TRIG_INTERNAL i [ofBool enable, beat]
  if enable = false then (0, put (s.freeTimer (.internal i)))
  else if (s.timerOf (.internal i)).isSome then (0, put s)
  else match s.takeTimer (.internal i) (fnRank fnTrigOut) with
    | none => (Abort.RESOURCE_OWNED, s)
    | some (_, t) => (0, put t)

/-- What a pin does at a beat edge: BEAT_MARK pulses at every multiple of 2^PARAM, TRIG_OUT once at beat PARAM (R546). -/
def State.pinEdge (s : State) (p : Nat) : State :=
  let o := s.pinOwner p
  let w := s.regF Obj.AUXIO_CONFIG p 2
  let k := s.regF Obj.AUXIO_CONFIG p 3
  if o = fnBeatMark ∧ s.beat % 2 ^ k = 0 then s.emit (.pulse p w)
  else if o = fnTrigOut ∧ (s.timerOf (.pin p)).isSome = true ∧ k = s.beat then (s.emit (.pulse p w)).freeTimer (.pin p)
  else s

/-- An internal trigger at its beat (R548, R549). (DESIGN CHOICE, notes/assumptions/66.) -/
def State.triggerEdge (s : State) (i : Nat) : State :=
  if (s.timerOf (.internal i)).isSome = true ∧ s.regF Obj.TRIG_INTERNAL i 1 = s.beat then
    let s := ((s.freeTimer (.internal i)).setRegF Obj.TRIG_INTERNAL i 0 0).trace (.trigger (8 + i) 0 s.beat)
    s.freezeTrace 1
  else s

/-- The pins and triggers at a beat edge. -/
def State.pinEdges (s : State) : State :=
  (List.range 4).foldl State.triggerEdge ((List.range 8).foldl State.pinEdge s)

/-- TRIG_IN_EDGE (R546): an edge of the pin's polarity is logged, and may freeze the trace buffer.
(DESIGN CHOICE, notes/assumptions/65.) -/
def execTrigInEdge (pin : Nat) (rising : Bool) (s : State) : Res :=
  .next (if s.pinOwner pin = fnTrigIn ∧ rising = (s.regF Obj.AUXIO_CONFIG pin 1 == 0) then
      let e := ofBool (!rising)
      let l := tget [] s.objs (Obj.TRIG_LOG.key 0) ++ [pin, e, s.beat, s.cad.sec, s.cad.ns]
      let s := s.setFields Obj.TRIG_LOG 0 (if 320 < l.length then l.drop 5 else l)
      (s.trace (.trigger pin e s.beat)).freezeTrace 1
    else s)

/-- PPS_OUT_PULSE (R546): a whole second of the time counter. -/
def execPpsOutPulse (pin : Nat) (s : State) : Res :=
  .next (if s.pinOwner pin = fnPpsOut then s.emit (.pulse pin (s.regF Obj.AUXIO_CONFIG pin 2)) else s)

/-! ### Trace buffer, FAULT_OUT, alarms (R539, R546, R549) -/

/-- A write of TRACE_CONFIG: it restarts capture. TRIGGER ranks below FAULT (R549, DEDUCED, notes/assumptions/32). -/
def State.traceWrite (s : State) (holder freezeAfter : Nat) : Nat × State :=
  if 1 < holder ∨ 2 ^ 32 ≤ freezeAfter then (Abort.VALUE_RANGE, s)
  else if holder = 1 ∧ s.pins.trace.claimed = true then (Abort.RESOURCE_OWNED, s)
  else
    let s := (s.setPins { s.pins with trace := { claimed := holder == 0 } })
    (0, s.setFields Obj.TRACE_CONFIG 0 [holder, freezeAfter, 0])

/-- TRACE_CONFIG_WRITE (R549). -/
def execTraceConfigWrite (who : Who) (holder freezeAfter : Nat) (s : State) : Res :=
  .next (s.row who Obj.TRACE_CONFIG 0 false (fun s => s.traceWrite holder freezeAfter))

/-- FAULT_OUT_CLEAR (R546). -/
def execFaultOutClear (who : Who) (s : State) : Res :=
  .next (s.row who Obj.FAULT_OUT_CLEAR 0 false (fun s => (0, (s.setPins { s.pins with faultOut := [] }))))

/-- ALARM_CLEAR (R539): ALERT_N is released when no class remains. -/
def execAlarmClear (who : Who) (classes : Nat) (s : State) : Res :=
  .next (s.row who Obj.ALARM_CLEAR 0 false (fun s =>
    if 65536 ≤ classes then (Abort.VALUE_RANGE, s)
    else
      let p := s.regF Obj.ALARM_STATUS 0 0
      let left := p - (p &&& classes)
      let s := s.setRegF Obj.ALARM_STATUS 0 0 left
      (0, if left = 0 then s.setRegF Obj.ALARM_STATUS 0 2 0 else s)))

end Sys2Proof.Machine
end

