-- ==== Sys2Proof/Machine/Lattice.lean ====
section
/-! DEFINITION. Sys2Proof/Machine/Lattice.lean: the lattice route table and rank maps (10_lattices_and_mapping R286-R292). -/

namespace Sys2Proof.Machine

/-- Abort codes of this chapter (R286, R289). -/
def Abort.MAP_ENTRY_FORMAT : Nat := 0x0A510001
def Abort.MAP_DUPLICATE_NODE : Nat := 0x0A510002
def Abort.MAP_COMMIT_STATE : Nat := 0x0A510003
def Abort.ROUTE_ENTRY_FORMAT : Nat := 0x0A510004

/-- A route entry is malformed (R286). -/
def State.routeBad (s : State) (e : Nat) : Bool :=
  decide (8 < rtCount e) || field e 48 4 != 0 || (s.node != 0xFFFF && rtNext e == latticeOf s.node)
    || hasDup ((List.range (rtCount e)).map (rtExit e))

/-- LATTICE_ROUTE_WRITE (R286): one entry of the table. -/
def execLatticeRouteWrite (who : Who) (lattice value : Nat) (s : State) : Res :=
  .next (s.row who Obj.LATTICE_ROUTE 0 false (fun s =>
    if 256 ≤ lattice ∨ 2 ^ 64 ≤ value then (Abort.VALUE_RANGE, s)
    else if s.routeBad value then (Abort.ROUTE_ENTRY_FORMAT, s)
    else (0, s.setRegF Obj.LATTICE_ROUTE 0 lattice value)))

/-- The staged map of a context, as far as it is listed. -/
def State.stagedMap (s : State) (c : Nat) : List Nat := (tfind s.objs (Obj.RANK_MAP_STAGED.key c)).getD []

/-- The rank whose valid entry names this device's node (R289). -/
def State.ownRank (s : State) (l : List Nat) : Nat :=
  match l.findIdx? (fun e => bit e 15 && field e 0 14 == s.node) with
  | some i => i
  | none => 0xFFFF

/-- A map takes effect: the active map, this device's rank, and the read-cache lines of the context (R290, 12 R344). -/
def State.mapTakes (s : State) (c : Nat) (l : List Nat) : State :=
  let s := s.setFields Obj.RANK_MAP_ACTIVE c l
  let s := (s.setRcv { s.rcv with ended := terase s.rcv.ended c })
  (s.setReg Obj.LOCAL_RANK c (s.ownRank l)).dropContextLines c

/-- The pending commit of a context, if step `n` is its step or later, takes effect (R290). -/
def State.mapAtStep (s : State) (c n : Nat) : State :=
  let due := s.reg Obj.RANK_MAP_PENDING_STEP c
  if due ≠ 0xFFFFFFFF ∧ due ≤ n then
    let l := (tfind s.maps c).getD []
    let s := (s.setMaps (terase s.maps c))
    (s.setReg Obj.RANK_MAP_PENDING_STEP c 0xFFFFFFFF).mapTakes c l
  else s

/-- The pending commit is discarded (R290, R292). -/
def State.dropPendingMap (s : State) (c : Nat) : State :=
  ((s.setMaps (terase s.maps c))).setReg Obj.RANK_MAP_PENDING_STEP c 0xFFFFFFFF

/-- A commit is refused: 0 when none of R289 applies. -/
def State.commitRefusal (s : State) (c v : Nat) : Nat :=
  let l := s.stagedMap c
  let ps := s.planState c
  if l.any (fun e => bit e 14) then Abort.MAP_ENTRY_FORMAT
  else if hasDup ((l.filter (fun e => bit e 15)).map (fun e => field e 0 14)) then Abort.MAP_DUPLICATE_NODE
  else if v = 0xFFFFFFFF ∧ (ps = planRunning ∨ ps = planArmed) then Abort.MAP_COMMIT_STATE
  else if v ≠ 0xFFFFFFFF ∧ ps = planRunning ∧ v ≤ s.reg Obj.STEP_NUMBER c then Abort.MAP_COMMIT_STATE
  else 0

/-- RANK_MAP_COMMIT (R289, R290). (DEDUCED, notes/assumptions/87.) -/
def execRankMapCommit (who : Who) (ctx value : Nat) (s : State) : Res :=
  .next (s.row who Obj.RANK_MAP_COMMIT ctx true (fun s =>
    if 2 ^ 32 ≤ value then (Abort.VALUE_RANGE, s)
    else
      let code := s.commitRefusal ctx value
      if code ≠ 0 then (code, s)
      else if value = 0xFFFFFFFF then (0, (s.dropPendingMap ctx).mapTakes ctx (s.stagedMap ctx))
      else (0, ((s.setMaps (tset s.maps ctx (s.stagedMap ctx)))).setReg Obj.RANK_MAP_PENDING_STEP ctx value)))

end Sys2Proof.Machine
end

