-- ==== Sys2Proof/Machine/Queue.lean ====
section
/-! DEFINITION. Sys2Proof/Machine/Queue.lean: queues, doorbells, acceptance, completions and the queue manager's own
descriptors (14_queues_and_pools R375-R391, R398, R400). -/

namespace Sys2Proof.Machine

/-! ### Creation and control -/

/-- A field of the queue record is reserved, out of its encoding or misaligned (14 R376 QUEUE_FORMAT). -/
def queueFormat (r : Nat) : Bool :=
  qrReserved r != 0 || decide (10 < qrSqLog r) || decide (10 < qrCqLog r) || decide (63 < qrInflight r)
    || decide (191 < qrFacet r)
    || qrSqBase r % 64 != 0 || qrCqBase r % 32 != 0
    || (qrTarget r != qrQueue r && (qrCqLog r != 0 || qrCqBase r != 0 || qrCqFacet r))

/-- A ring lies where the record says it may (14 R375). -/
def State.ringInside (s : State) (c : Nat) (facet : Bool) (base bytes : Nat) : Bool :=
  if facet then decide (base + bytes ≤ facetBytes) else s.inRegion c base bytes

/-- A ring of the record lies outside the region or facet memory (14 R376 QUEUE_RANGE). -/
def State.queueRange (s : State) (r : Nat) : Bool :=
  let c := qrContext r
  !(s.ringInside c (qrSqFacet r) (qrSqBase r) (sqSize r * 64))
    || (qrTarget r == qrQueue r && !(s.ringInside c (qrCqFacet r) (qrCqBase r) (cqSize r * 16)))

/-- CQ_TARGET names a queue that cannot take completions (14 R376 QUEUE_STATE). -/
def State.targetBad (s : State) (r : Nat) : Bool :=
  qrTarget r != qrQueue r &&
    match s.queue? (qrTarget r) with
    | none => true
    | some x => qrContext x.record != qrContext r || qrTarget x.record != qrTarget r

/-- The requester may create queues for the context with this FUNCTION (14 R376, 16 R465): 0 or an abort code. -/
def State.createRole (s : State) (who : Who) (r : Nat) : Nat :=
  match who with
  | .tenant n => if s.tenantOf n (qrContext r) then 0 else Abort.QUEUE_NOT_OWNED
  | .host f =>
    if f = 0 ∨ (s.reg Obj.CONTEXT_FUNCTION (qrContext r) = f ∧ qrFunction r = f) then 0 else Abort.ACCESS_DENIED
  | _ => 0

/-- The first code that refuses a queue record (14 R376), 0 when none applies. -/
def State.queueRefusal (s : State) (who : Who) (r : Nat) : Nat :=
  if s.createRole who r = Abort.ACCESS_DENIED then Abort.ACCESS_DENIED
  else if queueFormat r then Abort.QUEUE_FORMAT
  else if (s.queue? (qrQueue r)).isSome then Abort.QUEUE_EXISTS
  else if s.queueRange r then Abort.QUEUE_RANGE
  else if s.targetBad r then Abort.QUEUE_STATE
  else s.createRole who r

/-- A write of QUEUE_CREATE (14 R375, R376): the queue starts ACTIVE with its four indices at 0. -/
def State.queueCreate (s : State) (who : Who) (r : Nat) : Nat × State :=
  let code := s.queueRefusal who r
  if code = 0 then (0, (s.setQueue (qrQueue r) { record := r }).sramWrote 8 (qrQueue r) 0 8) else (code, s)

/-- The first code that refuses a command on a queue (14 R376). -/
def State.controlRefusal (s : State) (who : Who) (q : Nat) : Nat :=
  match s.queue? q with
  | none => Abort.QUEUE_STATE
  | some x =>
    match who with
    | .tenant n => if s.tenantOf n (qrContext x.record) then 0 else Abort.QUEUE_NOT_OWNED
    | .host _ => if s.reaches who (qrContext x.record) then 0 else Abort.ACCESS_DENIED
    | _ => 0

/-- A command on a queue: `act` gives the state it leads to, or none where the queue's state refuses it. -/
def State.queueControl (s : State) (who : Who) (q : Nat) (act : Queue → Option State) : Nat × State :=
  match s.queue? q with
  | none => (Abort.QUEUE_STATE, s)
  | some x =>
    let code := s.controlRefusal who q
    if code = 0 then
      match act x with
      | some t => (0, t)
      | none => (Abort.QUEUE_STATE, s)
    else (code, s)

/-- PAUSE (14 R378): refused in ERROR. -/
def State.queuePause (s : State) (who : Who) (q : Nat) : Nat × State :=
  s.queueControl who q (fun x => if x.state = 3 then none else some (s.setQueue q { x with state := 2 }))

/-- RESUME (14 R378): refused in ERROR. -/
def State.queueResume (s : State) (who : Who) (q : Nat) : Nat × State :=
  s.queueControl who q (fun x => if x.state = 3 then none else some (s.setQueue q { x with state := 1 }))

/-- RESET (14 R378): the descriptors not accepted are skipped. -/
def State.queueReset (s : State) (who : Who) (q : Nat) : Nat × State :=
  s.queueControl who q (fun x => some (s.setQueue q
    { x with state := 1, errorCode := 0, sqHead := x.sqTail, bells := [], skipped := satAdd 8 x.skipped (ahead x.sqHead x.sqTail) }))

/-- The queue cannot be removed yet (14 R376 QUEUE_STATE). -/
def State.queueHeld (s : State) (q : Nat) (x : Queue) : Bool :=
  decide (0 < s.inflight q)
    || s.queues.any (fun e => e.1 != q && qrTarget e.2.record == q)
    || (s.reg Obj.PLAN_STATUS_QUEUE (qrContext x.record) == q &&
        (s.planState (qrContext x.record) == planArmed || s.planState (qrContext x.record) == planRunning))

/-- DESTROY (14 R376, R378). -/
def State.queueDestroy (s : State) (who : Who) (q : Nat) : Nat × State :=
  s.queueControl who q (fun x =>
    if s.queueHeld q x then none else some (s.setQueues (terase s.queues q)))

/-- QUEUE_CREATE (14 R376). -/
def execQueueCreate (who : Who) (record : Desc) (s : State) : Res :=
  .next (s.row who Obj.QUEUE_CREATE 0 false (fun s => s.queueCreate who record.toNat))

/-- QUEUE_CONTROL PAUSE (14 R378). -/
def execQueuePause (who : Who) (queue : Nat) (s : State) : Res :=
  .next (s.row who Obj.QUEUE_CONTROL 0 false (fun s => s.queuePause who queue))

/-- QUEUE_CONTROL RESUME (14 R378). -/
def execQueueResume (who : Who) (queue : Nat) (s : State) : Res :=
  .next (s.row who Obj.QUEUE_CONTROL 0 false (fun s => s.queueResume who queue))

/-- QUEUE_CONTROL RESET (14 R378). -/
def execQueueReset (who : Who) (queue : Nat) (s : State) : Res :=
  .next (s.row who Obj.QUEUE_CONTROL 0 false (fun s => s.queueReset who queue))

/-- QUEUE_CONTROL DESTROY (14 R376). -/
def execQueueDestroy (who : Who) (queue : Nat) (s : State) : Res :=
  .next (s.row who Obj.QUEUE_CONTROL 0 false (fun s => s.queueDestroy who queue))

/-! ### Doorbells -/

/-- A doorbell is discarded and counted (14 R379). -/
def State.discardDoorbell (s : State) : State := s.bump Obj.DOORBELL_DISCARD_COUNT 0

/-- The place of a new doorbell in the order of arrival, after every one that a queue still holds. -/
def State.nextBell (s : State) : Nat := ((tvals s.queues).flatMap (fun x => x.bells.map (·.2))).foldl max 0 + 1

/-- SQ_TAIL advances to a value (14 R380): behind is discarded, too far ahead is TAIL_OVERRUN. -/
def State.setTail (s : State) (q v : Nat) : State :=
  match s.queue? q with
  | none => s
  | some x =>
    if behind x.sqTail v then s.discardDoorbell
    else if sqSize x.record < ahead x.sqHead v then s.queueError q 1
    else s.setQueue q { x with sqTail := v, bells := if v = x.sqTail then x.bells else x.bells ++ [(v, s.nextBell)] }

/-- A doorbell write of this function, size and value reaches the queue (14 R379, 19_pins_and_interfaces R533, R536). -/
def State.doorbellTakes (s : State) (f q size v : Nat) : Bool :=
  (size == 4 || size == 8) && decide (v < 2 ^ 32) && s.serving && !(s.pins.d3hot.contains f) && s.functionExists f &&
    match s.queue? q with
    | none => false
    | some x => qrFunction x.record == f

/-- SQ_TAIL doorbell (14 R379, R380); none arrives while PERST_N is low (18_clocks_power_reset R523). -/
def execSqTailDoorbell (function queue size value : Nat) (s : State) : Res :=
  .next (if s.power.perst then s else if s.doorbellTakes function queue size value then s.setTail queue value else s.discardDoorbell)

/-- CQ_HEAD moves to a value, unless it lies behind it or beyond CQ_TAIL (14 R379, R380). -/
def State.setCqHead (s : State) (q v : Nat) : State :=
  match s.queue? q with
  | none => s
  | some x =>
    if qrTarget x.record ≠ q ∨ behind x.cqHead v = true ∨ ahead x.cqHead x.cqTail < ahead x.cqHead v then s.discardDoorbell
    else s.setQueue q { x with cqHead := v }

/-- CQ_HEAD doorbell (14 R379); none arrives while PERST_N is low (18_clocks_power_reset R523). -/
def execCqHeadDoorbell (function queue size value : Nat) (s : State) : Res :=
  .next (if s.power.perst then s else if s.doorbellTakes function queue size value then s.setCqHead queue value else s.discardDoorbell)

/-! ### Acceptance -/

/-- The opcodes a queue takes (14 R383); PUBLISH 0x62 is not one. -/
def queueOpcode (op : Nat) : Bool :=
  (decide (0x30 ≤ op) && decide (op ≤ 0x36)) || op == 0x60 || op == 0x61 || op == 0x63
    || (decide (0x80 ≤ op) && decide (op ≤ 0x85))

/-- The queue can accept its next descriptor (14 R382, R380). -/
def State.canAccept (s : State) (q : Nat) (x : Queue) : Bool :=
  let ring := qrTarget x.record
  x.state == 1 && s.reg Obj.CONTEXT_STATE (qrContext x.record) == 0 && x.sqHead != x.sqTail && decide (1 ≤ s.room ring)
    && decide (s.inflight q < qrInflight x.record + 1)
    && (match s.queue? ring with | some y => y.deferred.isEmpty | none => false)

/-- The share of a class in a round (14 R385). -/
def classShare (k : Nat) : Nat := [0, 4, 2, 1].getD k 0

/-- Descriptors of a class accepted in this round. -/
def State.classServed (s : State) (k : Nat) : Nat :=
  (tvals s.queues).foldl (fun a x => if qrClass x.record = k then a + x.served else a) 0

/-- The classes that have a descriptor to accept. -/
def State.classesReady (s : State) : List Nat :=
  (s.queues.filter (fun e => s.canAccept e.1 e.2)).map (fun e => qrClass e.2.record)

/-- A class has had its share, and a new round begins with it only when every class that is ready has. -/
def State.roundOver (s : State) : Bool := s.classesReady.all (fun k => decide (classShare k ≤ s.classServed k))

/-- It is this queue's turn (14 R385): class 0 before all others, the others by their shares, and in a class the queue whose oldest
unaccepted doorbell is oldest. (DESIGN CHOICE, notes/assumptions/168.) -/
def State.turn (s : State) (x : Queue) : Bool :=
  let k := qrClass x.record
  (k == 0 || (!(s.classesReady.contains 0) && (decide (s.classServed k < classShare k) || s.roundOver)))
    && s.queues.all (fun e => !(s.canAccept e.1 e.2 && qrClass e.2.record == k)
        || (match x.bells, e.2.bells with | a :: _, b :: _ => decide (a.2 ≤ b.2) | _, _ => true))

/-- A descriptor of a queue is accepted: SQ_HEAD moves on, its doorbell is done with when it was the last of it, and its class has had one
more of its share. -/
def State.takeHead (s : State) (q : Nat) (x : Queue) : State :=
  let k := qrClass x.record
  let fresh := k != 0 && decide (classShare k ≤ s.classServed k)
  let s := if fresh then s.setQueues (s.queues.map (fun e => (e.1, { e.2 with served := 0 }))) else s
  let h := (x.sqHead + 1) % 2 ^ 32
  s.setQueue q { x with sqHead := h, bells := x.bells.dropWhile (fun b => b.1 == h), served := if fresh then 1 else x.served + 1 }

/-- The descriptor at SQ_HEAD is read and accepted (14 R380, R382, R383): an unreadable one completes FAILED_UNCORRECTABLE and puts the
queue in ERROR, one whose ring is refused is not accepted. -/
def State.acceptHead (s : State) (q : Nat) (x : Queue) : State :=
  let c := qrContext x.record
  let (g, s) := s.ctxRead c (sqOffset x.record + x.sqHead % sqSize x.record * 64) 64 11
  if g.protection then s.queueError q 3
  else
    let it : Item := { ctx := c, gen := s.gen c, origin := .queued q x.sqHead, desc := g.num }
    let n := s.nextItem
    let s := if g.poison then (s.queueError q 2).takeHead q { x with state := 3, errorCode := 2 } else s.takeHead q x
    let s := s.acceptItem it
    if g.poison then s.finishWith n .failedUncorrectable
    else if queueOpcode (descOpcode it.desc) = false then s.refuse n 11 0
    else s

/-- ITEM_COMPLETION (14 R386): the one completion entry of a finished item is written. -/
def execItemCompletion (item stampNs : Nat) (s : State) : Res :=
  .next (if s.onLadder item then s else s.completeItem item (stampNs % 1000000000))

/-- SUMMARY_FLUSH (14 R390). -/
def execSummaryFlush (ctx : Nat) (s : State) : Res := .next (s.flushSummary ctx)

/-- Deferred entries written in order while the facet serves the context (14 R380). -/
def State.writeDeferred (s : State) (q : Nat) : List Nat → State
  | [] => s
  | e :: es => (s.writeEntry q e).writeDeferred q es

/-- DEFERRED_CQ_WRITE (14 R380): at the first beat in which the facet serves the context, the entries that waited are
written in order. -/
def execDeferredCqWrite (queue : Nat) (s : State) : Res :=
  .next (match s.queue? queue with
    | none => s
    | some x =>
      if s.facetServes (qrFacet x.record) (qrContext x.record) then
        (s.setQueue queue { x with deferred := [] }).writeDeferred queue x.deferred
      else s)

/-- IRQ_HOLDOFF_EXPIRY (14 R400): one interrupt covers the entries written during the hold-off. -/
def execIrqHoldoffExpiry (queue : Nat) (s : State) : Res :=
  .next (match s.queue? queue with
    | none => s
    | some x =>
      if x.holdoff then
        let hit := x.holdoffHit
        let s := s.setQueue queue { x with holdoff := false, holdoffHit := false }
        if hit then s.ringInterrupt queue else s
      else s)

/-! ### The queue manager's descriptors (14 R388) -/

def qdTarget (d : Nat) : Nat := field d 488 16
def qdCount (d : Nat) : Nat := field d 456 32

/-- NOP (14 R388). -/
def execQmNop (item : Nat) (s : State) : Res :=
  .next (s.withItem item [0x80] (fun _ s => s.finish item))

/-- The DOORBELL descriptor (14 R388): another context's queue, or one that is not ACTIVE, is refused; an overrun puts the
target in ERROR and the descriptor completes OK. -/
def State.qmDoorbell (s : State) (n : Nat) (it : Item) : State :=
  match s.queue? (qdTarget it.desc) with
  | none => s.finishWith n .failedProtection
  | some x =>
    if qrContext x.record ≠ it.ctx ∨ x.state ≠ 1 then s.finishWith n .failedProtection
    else if sqSize x.record < ahead x.sqHead x.sqTail + qdCount it.desc then (s.queueError (qdTarget it.desc) 1).finish n
    else (s.setTail (qdTarget it.desc) ((x.sqTail + qdCount it.desc) % 2 ^ 32)).finish n

/-- DOORBELL (14 R388). -/
def execDoorbell (item : Nat) (s : State) : Res :=
  .next (s.withItem item [0x81] (fun it s => s.qmDoorbell item it))

/-- BARRIER (14 R384): it starts, and completes, once every earlier descriptor of its queue has completed. -/
def execBarrier (item : Nat) (s : State) : Res :=
  .next (s.withItem item [0x82] (fun _ s => s.finish item))

end Sys2Proof.Machine
end

