-- ==== Sys2Proof/Machine/Recovery.lean ====
section
/-! DEFINITION. Sys2Proof/Machine/Recovery.lean: context resets and the escalation ladder, facet retirement, device resets, and
what the management controller keeps of them (15_faults_and_recovery R402-R425, R437-R440). -/

namespace Sys2Proof.Machine

/-- Causes of records whose numbers are not in the source (DESIGN CHOICE, notes/assumptions/7). -/
def causeRequest : Nat := 4
def causeContext : Nat := 5
def causeFacet : Nat := 6
def causeKeys : Nat := 7
def causeStall : Nat := 8
def causeControl : Nat := 9
def causeLadder : Nat := 10

/-! ### Context reset (R407, R410-R412) -/

/-- Every queue of a context is PAUSED (R411, 14_queues_and_pools R398). -/
def State.pauseQueues (s : State) (c : Nat) : State :=
  (s.setQueues (s.queues.map (fun e => if qrContext e.2.record = c then (e.1, { e.2 with state := 2 }) else e)))

/-- Work of a context leaves a facet: its threads, frames, tiles and bands (R411, 04_matrix_engine R134, 05 R167). -/
def State.facetForgets (s : State) (c : Nat) (x : Facet) : Facet :=
  let ours := fun (n : Nat) => match s.item? n with | some it => it.ctx == c | none => false
  let th := x.threads.filter (fun e => e.2.ctx != c)
  { x with threads := th, frameQueue := x.frameQueue.filter (fun t => (tfind th t).isSome),
           mat := (match x.mat with | some m => if ours m.item then none else some m | none => none),
           back := x.back.filter (fun b => !(ours b.item)), bands := x.bands.filter (fun b => b.ctx != c) }

/-- Every item of a context that lacks a completion fails FAILED_CONTEXT_RESET (R412, R424); one that has finished keeps its
status. -/
def State.failItems (s : State) (c : Nat) : State :=
  (s.items.filter (fun e => e.2.ctx == c)).foldl (fun s e => s.finishWith e.1 .failedContextReset) s

/-- Work of a context leaves every engine (R411, R413 step 1). -/
def State.withdrawWork (s : State) (c : Nat) : State :=
  let s := (s.setFacets (s.facets.map (fun (e : Nat × Facet) => (e.1, s.facetForgets c e.2))))
  let s := s.failItems c
  let s := { s with outgoing := s.outgoing.filter (fun o => o.ctx != c)
                    hup := { s.hup with inbox := s.hup.inbox.filter (fun d => d.ctx != c) } }
  let p := s.plan c
  (((s.setPlan c { p with contribs := [], stopReq := false }).routerForget c).collForget c)

/-- A context reset begins (R411); a facet of it that is being reset already stands at step 3 of its ladder (R419). -/
def State.beginReset (s : State) (c cause : Nat) (toFree : Bool) : State :=
  let s := (s.setReg Obj.CONTEXT_GENERATION c ((s.gen c + 1) % 65536)).bump Obj.CONTEXT_RESET_COUNT c
  let rungs := (s.rcv.facetResets.filter (fun f => s.facetServes f c)).map (fun f => ({ inst := .facet f, step := 3 } : Rung))
  let s := (s.setRcv { s.rcv with lastReset := tset s.rcv.lastReset c s.now, deferred := terase s.rcv.deferred c
                                  active := tset s.rcv.active c { startNs := s.now, toFree := toFree, rungs := rungs } })
  let s := s.log! { code := 0x061, sub := 16, ctx := c, info0 := Config.causeCode cause, info1 := s.gen c }
  let s := (s.genNotices c).setReg Obj.CONTEXT_STATE c (if rungs.isEmpty then 1 else 2)
  let s := (((s.pauseQueues c).withdrawWork c).poolsReset c).fabContextReset c
  let s := (s.setMaint { s.maint with windows := s.maint.windows.filter (fun w => w / 65536 != c) })
  (s.dropPendingMap c).clearCounters c

/-- A context reset is called for: it joins one in progress, and at most one of a context begins in a millisecond (R407, R410).
-/
def State.contextReset (s : State) (c cause : Nat) (toFree : Bool := false) : State :=
  match tfind s.rcv.active c with
  | some w => (s.setRcv { s.rcv with active := tset s.rcv.active c { w with toFree := w.toFree || toFree } })
  | none =>
    let early := match tfind s.rcv.lastReset c with | some t => decide (s.now < t + 1000000) | none => false
    if early then
      let old := match tfind s.rcv.deferred c with | some x => x.2 | none => false
      (s.setRcv { s.rcv with deferred := tset s.rcv.deferred c (cause, old || toFree) })
    else s.beginReset c cause toFree

/-- The next descriptor of a queue is accepted if it is the queue's turn (14_queues_and_pools R382, R385). Its record is read first, and an
uncorrectable word in it resets the context (R410). (DESIGN CHOICE, notes/assumptions/172.) -/
def State.acceptNext (s : State) (q : Nat) : State :=
  match s.queue? q with
  | none => s
  | some x =>
    if s.canAccept q x = false ∨ s.turn x = false then s
    else
      match s.sramRead 8 q 0 8 (qrContext x.record) 0xFFFF with
      | ([], s) => s.acceptHead q x
      | (_ :: _, s) => s.contextReset (qrContext x.record) causeContext

/-- DESCRIPTOR_ACCEPT (14_queues_and_pools R382, R385). -/
def execDescriptorAccept (queue : Nat) (s : State) : Res := .next (s.acceptNext queue)

/-- CONTEXT_RESET (R410, R411). -/
def execContextReset (who : Who) (ctx : Nat) (s : State) : Res :=
  .next (s.row who Obj.CONTEXT_RESET ctx true (fun s => (0, s.contextReset ctx causeRequest)))

/-- CONTEXT_RESET_DEFERRED_START (R407): the millisecond has passed. -/
def execContextResetDeferredStart (ctx : Nat) (s : State) : Res :=
  .next (match tfind s.rcv.deferred ctx with
    | some (cause, toFree) => (s.setRcv { s.rcv with deferred := terase s.rcv.deferred ctx }).beginReset ctx cause toFree
    | none => s)

/-! ### Device reset (R420-R422, R437, R438) -/

/-- Accepted descriptor indices of a queue without a completion, as ranges (FIRST, COUNT) (R422). -/
def runsOf : List Nat → List (Nat × Nat)
  | [] => []
  | i :: r =>
    match runsOf r with
    | (a, n) :: t => if a = (i + 1) % 2 ^ 32 then (i, n + 1) :: t else (i, 1) :: (a, n) :: t
    | [] => [(i, 1)]

/-- The accepted descriptor indices of a queue that lack a completion, one that waits for its facet among them (14 R380), from the oldest
on. -/
def State.openIndices (s : State) (q : Nat) : List Nat :=
  let items := s.items.filterMap (fun e => match e.2.origin with | .queued j i => if j = q then some i else none | _ => none)
  let late := match s.queue? (s.ringOf q) with
    | some x => (x.deferred.filter (fun e => field e 123 4 == 0 && field e 96 16 == q)).map (fun e => field e 64 32)
    | none => []
  let head := match s.queue? q with | some x => x.sqHead | none => 0
  ((items ++ late).foldl (fun l i => nsInsert l ((i + 2 ^ 32 - head) % 2 ^ 32)) []).map (fun k => (k + head) % 2 ^ 32)

/-- The ranges of every queue: QUEUE, FIRST, COUNT. -/
def State.openRanges (s : State) : List (Nat × Nat × Nat) :=
  (tkeys s.queues).flatMap (fun q => (runsOf (s.openIndices q)).map (fun r => (q, r.1, r.2)))

/-- RESET_QUEUE_RANGES: at most 2,048 entries, the last of which counts the ranges left out (R422). -/
def rangeEntries (l : List (Nat × Nat × Nat)) : List (Nat × Nat × Nat) :=
  if l.length ≤ 2048 then l else l.take 2047 ++ [(0xFFFF, 0, l.length - 2047)]

/-- The reset record is written (R422). -/
def State.writeResetRecord (s : State) (reason causeSeq : Nat) (dump : Bool) : State :=
  let l := rangeEntries s.openRanges
  let lost := s.queues.foldl (fun a e => a + ahead e.2.cqHead e.2.cqTail) 0
  let s := s.setFields Obj.RESET_RECORD 0
    [reason, s.epoch, s.cad.sec, s.cad.ns, s.beat, causeSeq, l.length, lost, ofBool dump]
  s.setFields Obj.RESET_QUEUE_RANGES 0 (l.flatMap (fun x => [x.1, x.2.1, x.2.2]))

/-- The crash-dump header (R438); LENGTH is open. -/
def State.dumpHeader (s : State) (reason : Nat) : Nat :=
  place 0x43444D50 480 32 + place 0x0100 464 16 + place s.epoch 432 32 + place reason 424 8 + place 9 416 8
    + place s.cad.sec 368 48 + place s.cad.ns 336 32 + place s.log.nextSeq 304 32
    + place (s.fresh 67108865) 272 32

/-- An entry of the section table: its TYPE and its last word are given, the rest is open (R438). -/
def State.sectionEntry (s : State) (n : Nat) : Bytes :=
  leBytes 2 (n + 1) ++ (List.range 10).map (fun i => Config.dumpByte s.freeCtr (64 + 16 * n + 2 + i)) ++ leBytes 4 0

/-- Where the crash-dump region lies in HBM (13_hbm_and_ecc R355). -/
def dumpBase : Nat := unitBytes * dumpUnit

/-- The capture stores the sector that an armed flip mask names, of the `len` bytes it writes: the mask fires (13 R371). -/
def State.flipDump (s : State) (len : Nat) : State :=
  let a := s.reg Obj.ECC_FLIP_ADDRESS 3
  let k := a / 32
  if s.flipHits k = true ∧ dumpBase ≤ a ∧ a < dumpBase + len then
    let d := s.flipData
    let m := s.reg Obj.ECC_FLIP_CHECK_MASK 5
    let s := ((s.setHbm { s.hbm with armed := false }).setReg Obj.ECC_FLIP_STATUS 7 2).took
    if symbolErrors d m = 0 then s
    else if symbolErrors d m ≤ 2 ∨ s.fresh 2 = 0 then (s.setHbm { s.hbm with flips := tset s.hbm.flips k (d, m) })
    else (s.setRcv { s.rcv with dump := s.rcv.dump.putN (a - dumpBase) (s.garble k (s.rcv.dump.getN (a - dumpBase) 32) d) })
  else s

/-- A crash dump begins: its header and section table (R438). What an earlier dump left of stored errors is written over.
(DESIGN CHOICE, notes/assumptions/43.) -/
def State.beginDump (s : State) (reason : Nat) : State :=
  let bytes := leBytes 64 (s.dumpHeader reason) ++ (List.range 9).flatMap s.sectionEntry
  let len := s.fresh 67108865
  let s := (s.setRcv { s.rcv with dump := (({} : Memory).putN 0 bytes), dumpId := s.freeCtr, capturing := true })
  let below := fun (k : Nat) => decide (k * 32 < dumpBase)
  let s := s.setHbm { s.hbm with poison := s.hbm.poison.filter below, flips := s.hbm.flips.filter (fun e => below e.1) }
  s.took.flipDump (max len 208)

/-- Objects that a device reset leaves as they are: the always-on domain, what straps, fuses, clocks and sensors give, and the
identity of the part (R404, R437, 18_clocks_power_reset R527). (DEDUCED, notes/assumptions/42.) -/
def keptObjects : List ObjDef :=
  [Obj.PART_VARIANT, Obj.STEPPING, Obj.SERIAL_NUMBER, Obj.DEVICE_STATE, Obj.DEVICE_STATE_INFO, Obj.REFQ_SEL, Obj.REF_STATUS,
   Obj.PLL_STATUS, Obj.CLOCK_DOMAIN_INFO, Obj.POWER_NOW, Obj.RAIL_STATUS, Obj.THERMAL_NOW, Obj.THERMAL_TRIP_COUNT, Obj.SEC_FUSES,
   Obj.DEVICE_EPOCH, Obj.RESET_RECORD, Obj.RESET_QUEUE_RANGES, Obj.CRASH_DUMP_STATE, Obj.STRAP_STATUS, Obj.ALARM_STATUS,
   Obj.MGMT_PORT_INFO, Obj.ZEROISE_COUNT, Obj.AVS_STATUS]

/-- The registers after a wipe: what is kept, what flash holds, and the values the spec gives the rest. -/
def State.wipedObjs (s : State) : Table (List Nat) :=
  let frozen := s.pins.trace.countdown = some 0
  let keeps := fun (k : Nat) => keptObjects.any (fun o => o.index == k / 256) || (frozen && k / 256 == Obj.TRACE_CONFIG.index)
  putAll (putAll resetObjs s.flash.store) (s.objs.filter (fun e => keeps e.1)).reverse

/-- What of the clocks and rails survives: levels of pins, the reference, what sensors saw last and the core voltages; ceilings,
duties and holds start afresh (18_clocks_power_reset R513, DESIGN CHOICE, notes/assumptions/35). -/
def Power.afterReset (p : Power) : Power :=
  { sysReset := p.sysReset, perst := p.perst, therm := p.therm, edges := p.edges, counting := p.counting, down := p.down
    hot := p.hot, iodHot := p.iodHot, stackHot := p.stackHot, tripping := p.tripping, volts := p.volts, asked := [] }

/-- Everything that does not survive a device reset is gone (R437). -/
def State.wipe (s : State) : State :=
  let frozen := s.pins.trace.countdown = some 0
  { ({} : State) with
    pending := s.pending, freeCtr := s.freeCtr, out := s.out, nextItem := s.nextItem, slotSerial := s.slotSerial
    objs := s.wipedObjs, log := s.log, flash := s.flash, waitReset := s.waitReset
    hbm := { written := s.hbm.written.filter (fun u => decide (dumpUnit ≤ u))
             poison := s.hbm.poison.filter (fun k => decide (dumpBase ≤ k * 32))
             flips := s.hbm.flips.filter (fun e => decide (dumpBase ≤ e.1 * 32)) }
    rcv := { epochAon := s.rcv.epochAon, epochFlash := s.rcv.epochFlash, resetting := s.rcv.resetting, dump := s.rcv.dump
             dumpId := s.rcv.dumpId, capturing := s.rcv.capturing }
    pins := { trace := if frozen then s.pins.trace else {}, faultOut := s.pins.faultOut }
    power := s.power.afterReset
    sec := { nextSession := s.sec.nextSession, customerChain := s.sec.customerChain, jtagDrives := s.sec.jtagDrives } }

/-- RESET_NOTICE leaves three times on every spoke that carries traffic (R421, 11_spokes R308). -/
def State.sendResetNotices (s : State) (reason : Nat) : State :=
  (List.range 18).foldl (fun s p =>
    if s.spokeUp p then
      let o := OrderedSet.resetNotice s.node s.epoch reason
      ((s.sendSet p o).sendSet p o).sendSet p o
    else s) s

/-- A device reset begins (R420, R421): `causeSeq` is the SEQUENCE of the record that caused it. The device has not entered boot
again until BOOT_ENTRY. (DESIGN CHOICE, notes/assumptions/41.) (DEDUCED, notes/assumptions/44.) -/
def State.deviceReset (s : State) (reason : Nat) (dump : Bool) (causeSeq : Nat := 0xFFFFFFFF) : State :=
  if s.devState < dsBoot ∨ s.rcv.resetting.isSome = true then s
  else
    let s := s.log! { code := 0x091, sub := 16, info0 := reason, info1 := causeSeq }
    let s := s.sendResetNotices reason
    let takes := dump && s.reg Obj.CRASH_DUMP_STATE == 0
    let s := s.writeResetRecord reason causeSeq takes
    let s := if takes then s.beginDump reason else s
    let s := ((s.setRcv { s.rcv with resetting := some reason })).wipe
    if dump && !takes then s.bump Obj.CRASH_DUMP_SKIPPED 0 else s

/-- The last record's SEQUENCE. -/
def State.lastSeq (s : State) : Nat := (s.log.nextSeq + 2 ^ 32 - 1) % 2 ^ 32

/-- A DEVICE_FATAL fault: record 0x090 and a device reset with a dump (R420). -/
def State.deviceFatal (s : State) (cause detail reason : Nat) : State :=
  if s.devState < dsBoot ∨ s.rcv.resetting.isSome = true then s
  else
    let s := s.log! { code := 0x090, sub := 16, info0 := cause, info1 := detail }
    s.deviceReset reason true s.lastSeq

/-- DEVICE_FATAL_FAULT (R420). -/
def execDeviceFatalFault (cause detail : Nat) (s : State) : Res := .next (s.deviceFatal cause detail 1)

/-- DEVICE_RESET WARM (R420). -/
def execWarm (who : Who) (s : State) : Res :=
  .next (s.row who Obj.DEVICE_RESET 0 false (fun s => (0, s.deviceReset 0 false)))

/-- DEVICE_RESET WARM_WITH_DUMP (R420). -/
def execWarmWithDump (who : Who) (s : State) : Res :=
  .next (s.row who Obj.DEVICE_RESET 0 false (fun s => (0, s.deviceReset 0 true)))

/-- A capture is cut short: what there is stays, PARTIAL (R438). -/
def State.cutDump (s : State) : State :=
  if s.rcv.capturing then ((s.setRcv { s.rcv with capturing := false })).setReg Obj.CRASH_DUMP_STATE 0 2 else s

/-- MGMT_WATCHDOG_EXPIRY (R420, R438). -/
def execMgmtWatchdogExpiry (s : State) : Res := .next (s.cutDump.deviceReset 3 true)

/-! ### Facet retirement (R418) -/

/-- A facet is retired. -/
def State.isRetired (s : State) (f : Nat) : Bool := bit (s.regF Obj.FACET_RETIRED 0 (f / 8)) (f % 8)

/-- How many facets are retired. -/
def State.retiredCount (s : State) : Nat := ((List.range 192).filter s.isRetired).length

/-- The octets of FACET_RETIRED with a facet's bit set. -/
def retireBit (l : List Nat) (f : Nat) : List Nat :=
  (List.range 24).map (fun i => if i = f / 8 then (l.getD i 0) ||| (1 <<< (f % 8)) else l.getD i 0)

/-- A facet's bit is set in FACET_RETIRED, in flash and in a value that waits for a reset. -/
def State.setRetired (s : State) (f : Nat) : State :=
  let l := retireBit (s.fields Obj.FACET_RETIRED 0) f
  let s := s.setFields Obj.FACET_RETIRED 0 l
  match tfind s.waitReset (Obj.FACET_RETIRED.key 0) with
  | some w =>
    let w := retireBit w f
    ({ s with waitReset := tset s.waitReset (Obj.FACET_RETIRED.key 0) w }).flashPut Obj.FACET_RETIRED 0 w
  | none => s.flashPut Obj.FACET_RETIRED 0 l

/-- A plan names a facet. -/
def State.planNames (s : State) (c f : Nat) : Bool :=
  match (s.plan c).image with
  | some im => im.facetSets.any (fun w => bit w f)
  | none => false

/-- Every plan that names a facet is emptied (R52, R418). -/
def State.emptyPlans (s : State) (f : Nat) : State :=
  (List.range 16).foldl (fun s c =>
    if s.planNames c f then (s.setPlan c (kept (s.plan c) none)).planTo c planEmpty else s) s

/-- A facet is retired (R418): its bit, record 0x071, its plans, the device state. Too many retired facets, or a vertex that
fails, put the device in FAULT without a device reset. (DEDUCED, notes/assumptions/45.) -/
def State.retireFacet (s : State) (f : Nat) (vertexOk : Bool) : State :=
  if s.isRetired f then s
  else
    let s := s.setRetired f
    let s := s.log! { code := 0x071, sub := 3, inst := f, info0 := f, info1 := s.retiredCount }
    let s := s.emptyPlans f
    let s := if s.devState = dsReady ∨ s.devState = dsRunning then s.enter dsDegraded 4 else s
    if s.reg Obj.FACET_RETIRE_LIMIT < s.retiredCount then
      (s.log! { code := 0x090, sub := 16, info0 := 0x0101, info1 := f }).enter dsFault 7
    else if vertexOk = false then
      (s.log! { code := 0x090, sub := 16, info0 := 0x0102, info1 := f }).enter dsFault 4
    else s

/-! ### The escalation ladder (R413-R417, R419) -/

/-- Number of an instance in record 0x062: its subsystem and its number (DESIGN CHOICE, notes/assumptions/31). -/
def instanceInfo : EngineRef → Nat
  | .facet f => place 3 32 8 + f
  | .dma n => place 6 32 8 + n
  | .router n => place 7 32 8 + n
  | .collective n => place 8 32 8 + n
  | .fabric n => place 10 32 8 + n
  | .queueManager => place 11 32 8
  | .poolManager => place 12 32 8

/-- An instance begins a step of the ladder: record 0x062, and the context is ESCALATING (R413). -/
def State.takeStep (s : State) (c : Nat) (i : EngineRef) (step : Nat) : State :=
  let s := (match tfind s.rcv.active c with
    | some w =>
      let r := w.rungs.filter (fun (x : Rung) => x.inst != i) ++ [({ inst := i, step := step } : Rung)]
      ((s.setRcv { s.rcv with active := tset s.rcv.active c { w with rungs := r } })).setReg Obj.CONTEXT_STATE c 2
    | none => s)
  s.log! { code := 0x062, sub := 16, ctx := c, info0 := step, info1 := instanceInfo i }

/-- The items of a context that were on a facet complete as the facet leaves its step (R417). -/
def State.leaveStep (s : State) (c f : Nat) : State :=
  (s.items.filter (fun e => e.2.ctx == c && e.2.facet == f)).foldl (fun s e => s.completeItem e.1 s.cad.ns) s

/-- A facet goes to step 3 of the ladder: its logic is reset (R413). -/
def State.startFacetReset (s : State) (f : Nat) : State :=
  ((s.setRcv { s.rcv with facetResets := nsInsert s.rcv.facetResets f })).setFacet f {}

/-- The contexts whose ladder a facet stands on. -/
def State.laddersOf (s : State) (f : Nat) : List Nat :=
  tkeys (s.rcv.active.filter (fun e => decide (3 ≤ e.2.stepOf (.facet f))))

/-- A facet leaves the ladder of a context. -/
def State.leaveLadder (s : State) (f c : Nat) : State :=
  let s := s.leaveStep c f
  match tfind s.rcv.active c with
  | some w => (s.setRcv { s.rcv with active := tset s.rcv.active c { w with rungs := w.rungs.filter (fun x => x.inst != .facet f) } })
  | none => s

/-- A facet that failed its reset is retired, and leaves every ladder (R413 step 4, R417). -/
def State.failFacet (s : State) (f : Nat) (vertexOk : Bool) : State :=
  let l := s.laddersOf f
  let s := if l.isEmpty then s.log! { code := 0x062, sub := 16, info0 := 4, info1 := instanceInfo (.facet f) }
    else l.foldl (fun s c => s.takeStep c (.facet f) 4) s
  let s := (s.setRcv { s.rcv with facetResets := nsErase s.rcv.facetResets f })
  l.foldl (fun s c => s.leaveLadder f c) (s.retireFacet f vertexOk)

/-- The ladder ends in a device reset (R413 step 5, R420). -/
def State.lastStep (s : State) (c : Nat) (i : EngineRef) : State :=
  (s.takeStep c i 5).deviceFatal (Config.causeCode causeLadder) (instanceInfo i) 1

/-- ESCALATION_STEP_TIMEOUT (R413, R414): an instance has not finished its step in time. `cleared`: the hard stop of a shared
instance could read and clear every entry of the context. -/
def execEscalationStepTimeout (ctx : Nat) (inst : EngineRef) (cleared : Bool) (s : State) : Res :=
  .next (match tfind s.rcv.active ctx with
    | none => s
    | some w =>
      let step := w.stepOf inst
      match inst with
      | .facet f =>
        if step = 1 then (if s.facetServes f ctx then s.takeStep ctx inst 2 else s)
        else if step = 2 then ((s.leaveStep ctx f).takeStep ctx inst 3).startFacetReset f
        else if s.rcv.facetResets.contains f then s.failFacet f true
        else s
      | _ =>
        if step = 1 then (if cleared then s.takeStep ctx inst 2 else (s.takeStep ctx inst 2).lastStep ctx inst)
        else s.lastStep ctx inst)

/-- FACET_RESET_DONE (R413 step 3, R416): the facet's memory and tiles have been tested and zeroed. -/
def execFacetResetDone (facet : Nat) (passed vertexOk : Bool) (s : State) : Res :=
  .next (if s.rcv.facetResets.contains facet then
      let s := (s.fmZero facet).bump Obj.FM_ZERO_COUNT facet
      let o := s.regF Obj.SELFTEST_RESULT 0 1
      let s := s.setRegF Obj.SELFTEST_RESULT 0 1 (if passed then (if bit o facet then o - 2 ^ facet else o) else o ||| (1 <<< facet))
      if passed then
        let s := (s.setRcv { s.rcv with facetResets := nsErase s.rcv.facetResets facet })
        (s.laddersOf facet).foldl (fun s c => s.leaveLadder facet c) s
      else s.failFacet facet vertexOk
    else s)

/-- A facet cannot continue (R419): record 0x070, its context is reset, and it starts the ladder at step 3. -/
def State.facetFatal (s : State) (f cause thread : Nat) : State :=
  let by_ := s.servedBy f
  let s := s.log! { code := 0x070, sub := 3, inst := f, ctx := by_.getD 0, info0 := cause, info1 := thread }
  match by_ with
  | some c => ((s.contextReset c causeFacet).takeStep c (.facet f) 3).startFacetReset f
  | none => (s.log! { code := 0x062, sub := 16, info0 := 3, info1 := instanceInfo (.facet f) }).startFacetReset f

/-- FACET_FATAL_FAULT (R419). -/
def execFacetFatalFault (facet cause thread : Nat) (s : State) : Res :=
  .next (if facet < 192 ∧ s.isRetired facet = false then s.facetFatal facet cause thread else s)

/-- THREAD_STALL_TIMEOUT (R419): the thread neither issued nor waited for 10 ms. -/
def execThreadStallTimeout (facet thread : Nat) (s : State) : Res :=
  .next (match s.thread? facet thread with
    | some th => if th.wait = .no then s.facetFatal facet (Config.causeCode causeStall) thread else s
    | none => s)

/-- The context is withdrawn (R412): the completions still missing are written, the plan is LOADED, record 0x063. -/
def State.withdrawn (s : State) (c : Nat) (w : Withdrawal) : State :=
  let s := (s.items.filter (fun e => e.2.ctx == c)).foldl (fun s e => s.completeItem e.1 s.cad.ns) s
  let n := match tfind s.rcv.active c with | some x => x.items | none => w.items
  let s := (s.setRcv { s.rcv with active := terase s.rcv.active c })
  let s := s.log! { code := 0x063, sub := 16, ctx := c, info0 := s.now - w.startNs, info1 := n }
  let s := s.setReg Obj.CONTEXT_STATE c 0
  let s := s.setPlan c { kept (s.plan c) (s.plan c).image with slots := [], busySince := [] }
  if s.planState c = planEmpty then s.settle c else s.planTo c planLoaded

/-- A spoke still has a request of the context's former generation to send (12_fabric_memory R340). -/
def State.leaving (s : State) (c : Nat) : Bool :=
  let mine := fun (k : Packet) => k.src == s.node && k.ctx == c && k.type == 0 && (k.vc == 4 || k.vc == 5) && k.srcGen != s.gen c
  (tvals s.spokes).any (fun x => x.waiting.any mine || (match x.sending with | some (k, _) => mine k | none => false))

/-- Every instance has reported the context gone: none of its facets is being reset, and no request of it is still leaving. -/
def State.allGone (s : State) (c : Nat) (w : Withdrawal) : Bool :=
  w.rungs.all (fun r => match r.inst with | .facet f => !(s.rcv.facetResets.contains f) | _ => true) && !(s.leaving c)

/-! ### Lost nodes, logs and dumps (R404, R409, R438-R440) -/

/-- PEER_LOST_WRITE (R409). -/
def execPeerLostWrite (who : Who) (node : Nat) (s : State) : Res :=
  .next (s.row who Obj.PEER_LOST 0 false (fun s =>
    if 16384 ≤ node then (Abort.VALUE_RANGE, s)
    else
      let e := s.peerEpoch node
      (0, (s.log! { code := 0x082, sub := 16, info0 := node, info1 := e }).loseNode node e)))

/-- ERROR_FLASH_COPY (R404): the oldest fatal record without a flash copy reaches the ring of 64. -/
def execErrorFlashCopy (s : State) : Res :=
  .next (match s.log.toFlash with
    | [] => s
    | r :: rest =>
      let l := s.log.flash ++ [r]
      (s.setLog { s.log with toFlash := rest, flash := if 64 < l.length then l.tail else l }))

/-- ERROR_FLASH_CLEAR (R440). -/
def execErrorFlashClear (who : Who) (s : State) : Res :=
  .next (s.row who Obj.ERROR_FLASH_CLEAR 0 false (fun s => (0, (s.setLog { s.log with flash := [] }))))

/-- FACET_RETIRED_WRITE (R418, R440): the BMC may only clear bits; the value waits for the next reset. -/
def execFacetRetiredWrite (who : Who) (bits : Nat) (flashOk : Bool) (s : State) : Res :=
  .next (s.row who Obj.FACET_RETIRED 0 false (fun s =>
    let old := s.written Obj.FACET_RETIRED 0
    let new := (List.range 24).map (fun i => field bits (8 * i) 8)
    if 2 ^ 192 ≤ bits ∨ (List.range 24).any (fun i => (new.getD i 0 ||| old.getD i 0) != old.getD i 0) = true then (Abort.VALUE_RANGE, s)
    else if flashOk = false then (Abort.FLASH_FAILED, s.flashFailed Obj.FACET_RETIRED)
    else (0, s.store Obj.FACET_RETIRED 0 new)))

/-- CRASH_DUMP_CLEAR (R439). -/
def execCrashDumpClear (who : Who) (s : State) : Res :=
  .next (s.row who Obj.CRASH_DUMP_CLEAR 0 false (fun s =>
    (0, ((s.setRcv { s.rcv with dump := {} })).setReg Obj.CRASH_DUMP_STATE 0 0)))

end Sys2Proof.Machine
end

