-- ==== Sys2Proof/Machine/StepEnd.lean ====
section
/-! DEFINITION. Sys2Proof/Machine/StepEnd.lean: what a step leaves when it ends: phase timing, slot slack, straggler reports and
telemetry entries (20_maintenance_and_telemetry R562-R566, 15_faults_and_recovery R436).
(DEDUCED, notes/assumptions/67.)
(DEDUCED, notes/assumptions/68.)
(DESIGN CHOICE, notes/assumptions/85.) -/

namespace Sys2Proof.Machine

/-! ### Slack (R562, R563) -/

/-- An integer held within 32 bits. -/
def satI32 (v : Int) : Int := max (-2147483648) (min v 2147483647)

/-- Bucket of the slack histogram (R563). -/
def slackBucket (v : Int) : Nat :=
  if v < 0 then 0
  else
    let us := v.toNat / 1000
    ((range2 1 15).find? (fun n => decide (us < 2 ^ n - 1))).getD 15

/-- A slot's times are added to its phase record and the histogram. -/
def Plan.addTimes (p : Plan) (sl : Slot) (busy : Nat) (slack : Int) : Plan :=
  let r := tget ({} : PhaseRec) p.phases sl.phase
  let beyond := decide (slack < 0) && sl.opClass != 7
  let r := { r with slots := r.slots + 1, busyNs := r.busyNs + busy, minSlack := min r.minSlack (satI32 slack)
                    overruns := r.overruns + ofBool beyond }
  let b := slackBucket slack
  { p with phases := tset p.phases sl.phase r, slack := tset p.slack b (tget 0 p.slack b + 1) }

/-- PHASE_TIMING and SLOT_SLACK_HIST take the step's records (R563). -/
def State.publishTiming (s : State) (c : Nat) : State :=
  let p := s.plan c
  let rec_ := fun k => tget ({} : PhaseRec) p.phases k
  let s := s.setFields Obj.PHASE_TIMING c ((List.range 7).flatMap (fun k =>
    let r := rec_ k
    [r.slots % 2 ^ 32, r.busyNs % 2 ^ 64, ofInt 32 r.minSlack, r.overruns % 2 ^ 32]))
  s.setFields Obj.SLOT_SLACK_HIST c ((List.range 16).map (fun b => tget 0 p.slack b))

/-! ### Stragglers (15 R436) -/

/-- The 16 ranks with the most late contributions, the lower rank first among equals. -/
def Plan.stragglers (p : Plan) : List Nat :=
  let ranks := (tkeys p.graceCount).foldl nsInsert (tkeys p.lateCount)
  (sortBy (fun a b => decide (tget 0 p.lateCount b < tget 0 p.lateCount a) || (tget 0 p.lateCount a == tget 0 p.lateCount b && decide (a ≤ b))) ranks).take 16

/-- STRAGGLER_REPORT and the records 0x032. -/
def State.publishStragglers (s : State) (c : Nat) : State :=
  let p := s.plan c
  let step := s.reg Obj.STEP_NUMBER c
  let late := fun r => tget 0 p.lateCount r
  let grace := fun r => tget 0 p.graceCount r
  let s := s.setFields Obj.STRAGGLER_REPORT c (p.stragglers.flatMap (fun r => [r, min (late r) 65535, min (grace r) 65535, step]))
  let t := max 1 (s.reg Obj.STRAGGLER_THRESHOLD c)
  ((tkeys p.lateCount).filter (fun r => decide (t ≤ late r))).foldl (fun s r =>
    s.log! { code := 0x032, sub := 14, ctx := c, info0 := r, info1 := place (late r) 32 32 + place (grace r) 0 32 }) s

/-! ### Telemetry (R564, R565) -/

/-- The ring that takes a context's telemetry entries, if TELEMETRY_QUEUE names a queue of it. -/
def State.telemetryRing (s : State) (c : Nat) : Option Nat :=
  match s.queue? (s.reg Obj.TELEMETRY_QUEUE c) with
  | some x => if qrContext x.record = c then some (qrTarget x.record) else none
  | none => none

/-- One entry: one that finds no unreserved room is discarded and counted. -/
def State.telemetryPut (s : State) (c type subject value : Nat) : State :=
  let e := place 5 123 4 + place type 115 8 + place subject 96 16 + place (s.reg Obj.STEP_NUMBER c) 64 32 + place value 0 64
  match s.telemetryRing c with
  | some ring => if 1 ≤ s.room ring then s.writeEntry ring e else s.bump Obj.TELEMETRY_DROP_COUNT c
  | none => s.bump Obj.TELEMETRY_DROP_COUNT c

/-- Entries of one type, (SUBJECT, VALUE) in order. -/
def State.telemetryAll (s : State) (c type : Nat) (l : List (Nat × Nat)) : State :=
  l.foldl (fun s (e : Nat × Nat) => s.telemetryPut c type e.1 e.2) s

/-- The counters of types 6, 8 and 9, by SUBJECT (R565). -/
def telemetryCounters (type : Nat) : List ObjDef :=
  if type = 6 then [Obj.ROUTER_SPILL_COUNT, Obj.ROUTER_DROP_COUNT, Obj.ROUTER_EXIT_COUNT, Obj.ROUTER_STALE_COUNT, Obj.ROUTER_UNAVAILABLE_COUNT]
  else if type = 8 then
    [Obj.NARROW_RETRY_COUNT, Obj.SAT_COUNT, Obj.ACC_RETRY_COUNT, Obj.SCALE_EXHAUSTED_COUNT, Obj.COLL_RETRY_COUNT]
  else if type = 9 then [Obj.COLL_NAN_ELEMENT_COUNT, Obj.NAN_BLOCK_COUNT, Obj.ROUTER_NAN_TOKEN_COUNT]
  else []

/-- Keys of the snapshot beyond the objects': bytes of spoke and VC, and maintenance units. -/
def snapBytes (spoke vc : Nat) : Nat := 2 ^ 40 + spoke * 8 + vc
def snapDone (a : Nat) : Nat := 2 ^ 41 + a
def snapFailed (a : Nat) : Nat := 2 ^ 42 + a

/-- The counters that telemetry takes the change of, as they stand (R565). -/
def State.counterSnapshot (s : State) (c : Nat) : Table Nat :=
  let put := fun (t : Table Nat) (k v : Nat) => if v = 0 then t else tset t k v
  let t := (telemetryCounters 6 ++ telemetryCounters 8 ++ telemetryCounters 9).foldl (fun t o => put t (o.key c) (s.reg o c)) []
  let t := (List.range 18).foldl (fun t p => (List.range 8).foldl (fun t v => put t (snapBytes p v) (s.regF Obj.SPOKE_TX_BYTES p v)) t) t
  (List.range 7).foldl (fun t a => put (put t (snapDone a) (tget 0 s.maint.done a)) (snapFailed a) (tget 0 s.maint.failed a)) t

/-- Change of a counter over the step. -/
def Plan.change (p : Plan) (k now : Nat) : Nat := now - tget 0 p.snapshot k

/-- The values of a type's entries, in increasing SUBJECT (R565). -/
def State.telemetryValues (s : State) (c type : Nat) : List (Nat × Nat) :=
  let p := s.plan c
  let ph := fun k => tget ({} : PhaseRec) p.phases k
  match type with
  | 1 => (List.range 7).map (fun k => (k, (ph k).busyNs))
  | 2 => (List.range 7).map (fun k => (k, place (ph k).overruns 32 32 + ofInt 32 (ph k).minSlack))
  | 3 =>
    let all := match p.image with | some im => im.facetSets.foldl (fun a f => a ||| f) 0 | none => 0
    (bitsOf 192 all).map (fun f => (f, tget 0 p.facetBusy f))
  | 4 =>
    ((List.range 144).map (fun k => (k, p.change (snapBytes (k / 8) (k % 8)) (s.regF Obj.SPOKE_TX_BYTES (k / 8) (k % 8))))).filter
      (fun e => e.2 != 0)
  | 5 => (sortBy (fun (a b : Nat × Nat) => decide (a.1 ≤ b.1)) (p.tokens.map (fun (e : Nat × Nat) =>
      (e.1 % 512, place (e.1 / 512) 56 8 + place e.2 0 32))))
  | 10 => (List.range 7).map (fun a =>
      (a, place (p.change (snapFailed a) (tget 0 s.maint.failed a)) 32 32 + place (p.change (snapDone a) (tget 0 s.maint.done a)) 0 32))
  | 11 => [1, 2, 3].map (fun k => (k, tget 0 p.ledgerKinds k))
  | _ =>
    let os := telemetryCounters type
    ((List.range os.length).zip os).map (fun (e : Nat × ObjDef) => (e.1, p.change (e.2.key c) (s.reg e.2 c)))

/-- Layers that a context's plan runs on the matrix engine. -/
def State.planLayers (s : State) (c : Nat) : List Nat :=
  match (s.plan c).image with
  | some im => (im.slots.filter (fun sl => sl.opClass == 1)).foldl (fun l sl => nsInsert l sl.layer) []
  | none => []

/-- The PREDICTOR entries: from the statistics record of each layer; an unreadable one gives a free value (R565,
06_sparsity R195). -/
def State.predictorEntries (s : State) (c : Nat) : List Nat → State
  | [] => s
  | l :: ls =>
    let (g, s) := s.ctxRead c (s.reg Obj.PREDICTOR_STATS_ADDR c + 64 * l) 64 16
    if g.poison || g.protection then (s.telemetryPut c 7 l (s.fresh (2 ^ 64))).took.predictorEntries c ls
    else (s.telemetryPut c 7 l (place (field g.num 320 32) 32 32 + place (field g.num 384 32) 0 32)).predictorEntries c ls

/-- The entries of one type, if TELEMETRY_MASK asks for it. -/
def State.telemetryType (s : State) (c type : Nat) : State :=
  if bit (s.reg Obj.TELEMETRY_MASK c) type = false then s
  else if type = 7 then
    (if s.reg Obj.PREDICTOR_STATS_ADDR c = 2 ^ 64 - 1 then s else s.predictorEntries c (s.planLayers c))
  else s.telemetryAll c type (s.telemetryValues c type)

/-- The telemetry entries of a step (R564). -/
def State.telemetry (s : State) (c : Nat) : State :=
  if s.reg Obj.TELEMETRY_QUEUE c = 0xFFFF then s else (range2 1 12).foldl (fun s t => s.telemetryType c t) s

/-! ### The step's end (02 R59, R67) -/

/-- A step ends: its ledger, its step-end record, what it publishes; STOP_AT_STEP_END takes effect (02 R52, R59). -/
def State.endStep (s : State) (c endNs : Nat) : State :=
  let step := s.reg Obj.STEP_NUMBER c
  let p := s.plan c
  let s := s.setPlan c { p with tokensLast := p.tokens }
  let s := (s.publishTiming c).publishStragglers c
  let s := if s.reg Obj.REPLAY_MODE c = 0 then s.ledgerEnd c step else s
  let id := match p.image with | some im => im.header.planId | none => 0
  let s := s.stepEndRecord c step id p.overruns (max p.maxSlip (s.reg Obj.PLAN_SLIP_BEATS c)) p.ledgerCount (endNs % 1000000000)
  let s := (s.telemetry c).routerStepEnd c
  let p := s.plan c
  let stop := p.stopReq
  let s := s.setPlan c { p with opened := false, stopReq := false, slots := p.slots.filter (fun e => e.2.phase == .running) }
  if stop then s.planTo c planStopped else s

end Sys2Proof.Machine
end

