-- ==== Sys2Proof/Machine/Run.lean ====
section
/-! DEFINITION. Sys2Proof/Machine/Run.lean: a plan runs: what happens at a beat edge, how slots start and complete, overruns,
slip, late contributions (02_beat_and_time R53-R69). -/

namespace Sys2Proof.Machine

/-- Slip in force (R56). -/
def State.slip (s : State) (c : Nat) : Nat := s.reg Obj.PLAN_SLIP_BEATS c

/-- Slip takes a value; the largest of the step is kept (R56, R59). -/
def State.setSlip (s : State) (c v : Nat) : State :=
  let s := s.setReg Obj.PLAN_SLIP_BEATS c v
  let p := s.plan c
  s.setPlan c { p with maxSlip := max p.maxSlip v }

/-! ### Busy time (20_maintenance_and_telemetry R565, R567) -/

/-- A facet's busy time up to `t` is counted, and starts again. -/
def State.countBusy (s : State) (c t f : Nat) : State :=
  let p := s.plan c
  match tfind p.busySince f with
  | none => s
  | some t0 =>
    let s := s.setPlan c { p with facetBusy := tset p.facetBusy f (tget 0 p.facetBusy f + (t - t0)), busySince := tset p.busySince f t }
    s.bump Obj.FACET_BUSY_NS f (t - t0)

/-- Facets on which no slot of the context runs any more are not busy. -/
def State.freeFacets (s : State) (c t : Nat) (fs : List Nat) : State :=
  fs.foldl (fun s f =>
    if (s.plan c).runsOn f then s
    else
      let s := s.countBusy c t f
      let p := s.plan c
      s.setPlan c { p with busySince := terase p.busySince f }) s

/-! ### The opening of a step (R53, R69) -/

/-- The ledger entries that replay takes for a step: those before the first place that ends them (R69).
(DEDUCED, notes/assumptions/52.) -/
def State.readReplay (s : State) (c step : Nat) : Nat → Nat → List Nat × State
  | 0, _ => ([], s)
  | n + 1, i =>
    if s.inRegion c (s.ledgerAt c step i) 16 = false then ([], s)
    else
      let (g, s) := s.ctxRead c (s.ledgerAt c step i) 16 14
      let kind := field g.num 124 4
      if g.poison || g.protection || kind == 0 || decide (3 < kind) || field g.num 0 32 != step then ([], s)
      else
        let r := s.readReplay c step n (i + 1)
        (g.num :: r.1, r.2)

/-- A step opens at this edge (R53): the step number, values that await a step and the rank map, the replay's ledger, the slip. -/
def State.openPlanStep (s : State) (c n planned : Nat) : State :=
  let s := ((s.setReg Obj.STEP_NUMBER c n).applyStep c).mapAtStep c n
  let (replay, s) := if s.reg Obj.REPLAY_MODE c = 0 then ([], s) else s.readReplay c n (s.ledgerSize c) 0
  let s := (tkeys (s.plan c).busySince).foldl (fun s f => s.countBusy c s.now f) s
  let p := s.plan c
  let s := s.setPlan c
    { image := p.image, startBeat := p.startBeat, firstStep := p.firstStep, slots := p.former, stopReq := p.stopReq, opened := true, ran := true,
      openBeat := s.beat, plannedBeat := planned, replay := replay, tokensLast := p.tokensLast, busySince := p.busySince,
      contribs := p.contribs.filter (fun e => e.1 / (4096 * 16384) == n % 65536), snapshot := s.counterSnapshot c }
  ((s.setSlip c (s.beat - planned)).routerNewStep c n).collNewStep c n

/-- The next step opens when its planned edge has come and the step before has ended (R53). -/
def State.openNext (s : State) (c : Nat) (im : PlanImage) : State :=
  let p := s.plan c
  if p.opened then s
  else
    let n := if p.ran then (s.reg Obj.STEP_NUMBER c + 1) % 2 ^ 32 else p.firstStep
    let planned := if p.ran then p.plannedBeat + im.header.stepBeats else p.startBeat
    if planned ≤ s.beat then s.openPlanStep c n planned else s

/-! ### Contributions that a slot waits for (R63, R64, R69) -/

/-- Sources of a window whose contribution is neither complete nor dropped. -/
def State.lateSources (s : State) (c w : Nat) : List Nat :=
  let step := s.reg Obj.STEP_NUMBER c
  (s.windowSources c w).filter (fun r => (s.contrib c step w r).arrival == .incomplete)

/-- Sources of a window that the replay's ledger drops (R67, R69). -/
def State.replayDrops (s : State) (c w : Nat) : List Nat :=
  ((s.plan c).replay.filter (fun e => decide (field e 124 4 ≤ 2) && field e 112 12 == w)).map (fun e => field e 80 16)

/-- Every contribution to the slot's window is complete or dropped (R63, R64); in replay those that the ledger drops are
dropped (R69). -/
def State.inputReady (s : State) (c : Nat) (sl : Slot) : Bool :=
  sl.winIn == 0xFFF ||
    ((s.lateSources c sl.winIn).isEmpty
      && (s.reg Obj.REPLAY_MODE c == 0 || (s.replayDrops c sl.winIn).isEmpty || (s.plan c).judged.contains sl.winIn))

/-! ### Overruns and slip (R55, R56, R60) -/

/-- A slot is a beat overrun: counted, recorded, and starts are held from its deadline edge. -/
def State.slotOverrun (s : State) (c i : Nat) (r : SlotRun) : State :=
  let s := s.log! { code := 0x030, sub := 14, ctx := c, slot := i, info0 := i, info1 := s.slip c }
  let p := s.plan c
  s.setPlan c { p with overruns := p.overruns + 1, holdSince := some (p.holdSince.getD r.deadlineBeat),
                       slots := tset p.slots i { r with overrun := true } }

/-- OP_CLASS of a slot of the present plan. -/
def PlanImage.classOf (im : PlanImage) (i : Nat) : Nat := match im.slots[i]? with | some sl => sl.opClass | none => 0

/-- Slots whose deadline edge has come without their completion (R55); a maintenance window is never an overrun (20 R563). -/
def State.deadlines (s : State) (c : Nat) (im : PlanImage) : State :=
  ((s.plan c).slots.filter (fun (e : Nat × SlotRun) => decide (e.1 < 65536) && e.2.phase == .running && !e.2.overrun
      && decide (e.2.deadlineBeat ≤ s.beat) && im.classOf e.1 != 7)).foldl (fun s e => s.slotOverrun c e.1 e.2) s

/-- The hold ends at the first edge after every overrunning slot has completed; slip grows once (R56, R60). -/
def State.releaseHold (s : State) (c : Nat) (im : PlanImage) : State :=
  let p := s.plan c
  match p.holdSince with
  | none => s
  | some h =>
    if p.slots.any (fun e => decide (e.1 < 65536) && e.2.phase == .running && e.2.overrun) then s
    else
      let past := (im.slots.drop p.next).takeWhile (fun sl => decide (p.plannedBeat + sl.start + s.slip c < s.beat))
      let q := { p with holdSince := none, forced := p.next + past.length }
      if p.waited = some p.next then s.setPlan c { q with fromPlanned := p.waited }
      else (s.setPlan c q).setSlip c (s.slip c + (s.beat - h))

/-- While starts are held, the next slot falls due without its input: an overrun and a grace wait on the same start (R60).
(DEDUCED, notes/assumptions/141.) -/
def State.noteWait (s : State) (c : Nat) (im : PlanImage) : State :=
  let p := s.plan c
  match im.slots[p.next]? with
  | some sl =>
    if p.holdSince.isSome = true ∧ p.plannedBeat + sl.start + s.slip c ≤ s.beat ∧ s.inputReady c sl = false then
      s.setPlan c { p with waited := some p.next }
    else s
  | none => s

/-! ### The slots' descriptors (R54) -/

/-- The engine of a slot's class runs this opcode. -/
def classRuns (cls op : Nat) : Bool :=
  match cls with
  | 1 => isMatrix op || isVector op
  | 2 => isMatrix op || isVector op
  | 3 => decide (0x40 ≤ op) && decide (op ≤ 0x47)
  | 4 => decide (0x50 ≤ op) && decide (op ≤ 0x57)
  | 5 => decide (0x30 ≤ op) && decide (op ≤ 0x36)
  | 6 => decide (0x60 ≤ op) && decide (op ≤ 0x63)
  | _ => true

/-- A descriptor whose opcode the slot's engine does not define fails that engine's first check (04_matrix_engine R130, 05 R149,
06 R184, 07 R204, 09 R262, 12 R345). -/
def State.refuseClass (s : State) (cls n c : Nat) : State :=
  match cls with
  | 1 => s.refuseMatrix n c 1
  | 2 => s.refuseVector n c 1
  | 3 => s.refuseRouter n c 1
  | 4 => s.refuseColl n c 1
  | 5 => s.refuseStream n c 1
  | _ => s.refuseFabric n c 1

/-- Items of a slot on one facet, or on none, are accepted in operation-table order; their numbers. -/
def State.acceptDescs (s : State) (c i facet first step : Nat) (issued : Bool) : Nat → List Nat → List Nat × State
  | _, [] => ([], s)
  | k, d :: ds =>
    let it : Item := { ctx := c, gen := s.gen c, origin := .planned i (first + k) facet, desc := d, step := step, pos := k,
                       issued := issued }
    let r := (s.acceptItem it).acceptDescs c i facet first step issued (k + 1) ds
    (s.nextItem :: r.1, r.2)

/-- The slot's descriptors; true when a word of them is unreadable. -/
def State.slotDescs (s : State) (c : Nat) (im : PlanImage) (sl : Slot) : List Nat × Bool × State :=
  let (g, s) := s.ctxRead c (im.base + im.header.opOff + 64 * sl.opDesc) (64 * sl.opCount) 14
  (entriesOf 64 sl.opCount g.bytes, g.poison || g.protection, s)

/-- Each descriptor of a slot that does not run completes FAILED_TIMEOUT (R64). -/
def State.failSlot (s : State) (c : Nat) (im : PlanImage) (e : Nat × Slot) : State :=
  let (ds, _, s) := s.slotDescs c im e.2
  let step := s.reg Obj.STEP_NUMBER c
  let fs := if e.2.opClass = 1 ∨ e.2.opClass = 2 then bitsOf 192 (im.facetsOf e.2) else [0xFF]
  fs.foldl (fun s f =>
    let (l, s) := s.acceptDescs c e.1 f e.2.opDesc step true 0 ds
    l.foldl (fun s n => s.finishWith n .failedTimeout) s) s

/-! ### Late contributions (R62-R69) -/

/-- Consuming slots of a window that have not started. -/
def State.pendingConsumers (s : State) (c : Nat) (im : PlanImage) (w : Nat) : List (Nat × Slot) :=
  (im.consumers w).filter (fun e => decide ((s.plan c).next ≤ e.1))

/-- A contribution is dropped whole (R66). -/
def State.dropContribution (s : State) (c w source : Nat) : State :=
  let step := s.reg Obj.STEP_NUMBER c
  let s := s.setContrib c step w source { s.contrib c step w source with arrival := .droppedLate }
  (s.routerDropped c step w source).collDropped c step w source

/-- The consuming slots of a window that have not started are not run, and the plan halts (R64). -/
def State.failWindow (s : State) (c : Nat) (im : PlanImage) (w cause : Nat) : State :=
  let l := s.pendingConsumers c im w
  let s := l.foldl (fun s e => s.failSlot c im e) s
  s.haltPlan c cause (match l with | e :: _ => e.1 | [] => 0xFFFF)

/-- Late contributions are counted by rank (15_faults_and_recovery R436). -/
def State.countLate (s : State) (c w : Nat) : State :=
  let p := s.plan c
  s.setPlan c { p with lateCount := (s.lateSources c w).foldl (fun t r => tset t r (tget 0 t r + 1)) p.lateCount }

/-- Each late contribution is dropped with its ledger entry; one that finds no room meets FAIL (R64, R67, R68). -/
def State.dropLate (s : State) (c : Nat) (im : PlanImage) (w slot off : Nat) : List Nat → State
  | [] => s
  | r :: rs =>
    let step := s.reg Obj.STEP_NUMBER c
    if s.ledgerRoom c step then
      ((s.ledgerPut c step (if s.rankLost c r then 2 else 1) w slot r 0 off).dropContribution c w r).dropLate c im w slot off rs
    else s.failWindow c im w haltFail

/-- The consuming slot waits for late contributions: an entry in the overrun log (R64). (DEDUCED, notes/assumptions/49.) -/
def State.waitLate (s : State) (c slot : Nat) : State :=
  s.log! { code := 0x030, sub := 14, ctx := c, slot := slot, info0 := slot, info1 := s.slip c }

/-- A window meets the edge of close + G (R64): counted from the edge at which the step opened. -/
def State.judgeWindow (s : State) (c : Nat) (im : PlanImage) (e : Nat × Window) : State :=
  let p := s.plan c
  if s.planState c ≠ planRunning ∨ p.judged.contains e.1 = true then s
  else match s.pendingConsumers c im e.1 with
    | [] => s
    | x :: _ =>
      let off := e.2.close + x.2.grace
      if s.beat < p.openBeat + off then s
      else
        let s := s.setPlan c { p with judged := nsInsert p.judged e.1 }
        if s.reg Obj.REPLAY_MODE c ≠ 0 then
          let named := (s.replayDrops c e.1).filter (fun r => (s.windowSources c e.1).contains r)
          let s := (named.foldl (fun s r => s.dropContribution c e.1 r) s).countLate c e.1
          if (s.lateSources c e.1).isEmpty then s else s.waitLate c x.1
        else
          let late := s.lateSources c e.1
          let s := s.countLate c e.1
          if late.isEmpty then s
          else if s.reg Obj.LATE_POLICY c = 1 then s.dropLate c im e.1 x.1 off late
          else if s.reg Obj.LATE_POLICY c = 2 then s.failWindow c im e.1 haltFail
          else s.waitLate c x.1

/-- Every window of the open step. -/
def State.judgeWindows (s : State) (c : Nat) (im : PlanImage) : State :=
  ((List.range im.windows.length).zip im.windows).foldl (fun s e => s.judgeWindow c im e) s

/-! ### Slot ends (R55, R59, 20 R562) -/

/-- Items of a slot that lack a completion. -/
def State.slotItems (s : State) (c key step : Nat) : Bool :=
  (tvals s.items).any (fun it => it.ctx == c && it.isPlanned && it.slot == key % 65536 && it.step == step)

/-- Threads that carry a slot become idle (05_vector_engine_and_sequencer R142). -/
def Facet.withoutSlot (x : Facet) (c slot step : Nat) : Facet :=
  { x with threads := x.threads.filter (fun e => !(e.2.ctx == c && e.2.slot == slot && e.2.step == step)) }

/-- The slot has completed at time `t`. The step ends with its last slot (R59). -/
def State.slotDone (s : State) (c key t : Nat) : State :=
  let p := s.plan c
  match tfind p.slots key with
  | none => s
  | some r =>
    let slot := key % 65536
    let s := (s.setFacets (s.facets.map (fun (e : Nat × Facet) => (e.1, e.2.withoutSlot c slot r.step))))
    let due : Int := (s.now : Int) + ((r.deadlineBeat : Int) - (s.beat : Int)) * (s.cad.period : Int)
    let q := if 65536 ≤ key then { p with slots := terase p.slots key }
      else
        let q := { p with slots := tset p.slots key { r with phase := .complete, endNs := some t } }
        match p.image with
        | some im => (match im.slots[slot]? with | some sl => q.addTimes sl (t - r.startNs) (due - (t : Int)) | none => q)
        | none => q
    let s := ((s.setPlan c q).freeFacets c t (bitsOf 192 r.facets)).trace (.slotEnd c slot s.beat)
    let s := if 65536 ≤ key then s
      else (s.setMaint { s.maint with windows := nsErase s.maint.windows (65536 * c + slot) })
    let q := s.plan c
    let last : Bool := match q.image with | some im => decide (im.slots.length ≤ q.next) | none => false
    let done := s.planState c == planRunning && q.opened && last && (tfind s.rcv.active c).isNone
      && q.slots.all (fun (e : Nat × SlotRun) => decide (65536 ≤ e.1) || e.2.phase != SlotPhase.running)
    let s := if done then s.endStep c t else s
    s.settle c

/-- Maintenance windows close at their deadline edge (20 R553). (DEDUCED, notes/assumptions/47.) -/
def State.closeWindows (s : State) (c : Nat) : State :=
  let p := s.plan c
  let ends := fun (e : Nat × SlotRun) => e.2.phase == .running && decide (e.2.deadlineBeat ≤ s.beat)
    && !(s.slotItems c e.1 e.2.step) && (decide (65536 ≤ e.1) || (match p.image with | some im => im.classOf e.1 == 7 | none => true))
  ((p.slots.filter ends).map (·.1)).foldl (fun s k => s.slotDone c k s.now) s

/-- The slot that closes a mirror's PUTs: PHASE CHECKPOINT_MIRROR, NOP, no descriptor, RESYNC (15_faults_and_recovery
R427, R428). -/
def State.mirrorSlot (s : State) (c : Nat) (sl : Slot) : Bool :=
  s.mirrorOn c && sl.phase == 5 && sl.opClass == 0 && sl.opCount == 0 && sl.resync

/-- A slot waits for something beside its items: a maintenance window for its deadline edge, a mirror's closing slot for the
commit record. -/
def State.slotWaits (s : State) (c key : Nat) : Bool :=
  match (s.plan c).image with
  | some im =>
    (match im.slots[key]? with
     | some sl => sl.opClass == 7 || (s.mirrorSlot c sl && (s.plan c).mirrorClosing)
     | none => false)
  | none => false

/-- SLOT_COMPLETE (R55): every descriptor of a running slot has its completion, `sinceEdgeNs` after the last beat edge. -/
def execSlotComplete (ctx slot sinceEdgeNs : Nat) (s : State) : Res :=
  .next (match tfind (s.plan ctx).slots slot with
    | some r =>
      if r.phase = .running ∧ s.slotItems ctx slot r.step = false ∧ s.slotWaits ctx slot = false then
        s.slotDone ctx slot (s.now + sinceEdgeNs)
      else s
    | none => s)

/-! ### Slot starts (R54-R58, R63) -/

/-- The facet can take a slot of the context: no other context's slot runs on it (R58), it is not being reset, and a thread
is idle. (DEDUCED, notes/assumptions/53.) -/
def State.facetFree (s : State) (c f : Nat) : Bool :=
  (List.range 16).all (fun x => x == c || !((s.plan x).runsOn f)) && !(s.rcv.facetResets.contains f)
    && decide ((s.facet f).threads.length < 16)

/-- Both absent masks are clear at the first slot of a step; contributions that came early with ABSENT count now
(08_backward_and_training R244). -/
def State.beginAbsent (s : State) (c : Nat) : State :=
  let s := s.setReg Obj.PIPE_ABSENT_MASK c 0
  let a := s.reg Obj.PIPE_ABSENT_ADDR c
  let s := if a = 2 ^ 64 - 1 then s else (s.ctxWrite c a (leBytes 8 0)).2
  let step := s.reg Obj.STEP_NUMBER c
  (tkeys (s.plan c).contribs).foldl (fun s k => s.followAbsent c step (k / 16384 % 4096) (k % 16384)) s

/-- A facet takes a slot: its former owner's contents are zeroed first (05 R140). -/
def State.ownFacet (s : State) (c f : Nat) : State :=
  let x := s.facet f
  let me := (c, s.gen c)
  let foreign := match x.owner with | some o => decide (o ≠ me) | none => false
  s.setFacet f { x with owner := some me, zeroing := x.zeroing || foreign }

/-- A thread of a facet, the lowest-numbered idle one, takes items (05 R142). -/
def State.giveThread (s : State) (f : Nat) (th : Thread) : State :=
  match (List.range 16).find? (fun t => (s.thread? f t).isNone) with
  | some t => s.setThread f t th
  | none => s

/-- The items of a slot are placed on its facets (R54). -/
def State.placeItems (s : State) (c i : Nat) (im : PlanImage) (sl : Slot) (serial : Nat) (ds : List Nat) : State :=
  let step := s.reg Obj.STEP_NUMBER c
  let th : Thread := { ctx := c, gen := s.gen c, step := step, slot := i, layer := sl.layer, microBatch := sl.microBatch,
                       serial := serial, items := [] }
  let descs := (List.range ds.length).zip ds
  let check := fun (s : State) (l : List Nat) => (l.zip ds).foldl (fun s (e : Nat × Nat) =>
    if classRuns sl.opClass (descOpcode e.2) then s else s.refuseClass sl.opClass e.1 c) s
  let fs := bitsOf 192 (im.facetsOf sl)
  if sl.opClass = 1 ∨ sl.opClass = 2 then
    fs.foldl (fun s f =>
      let (l, s) := s.acceptDescs c i f sl.opDesc step false 0 ds
      check (s.giveThread f { th with items := l, descs := descs }) l) s
  else
    let (l, s) := s.acceptDescs c i 0xFF sl.opDesc step (fs.isEmpty || sl.opClass == 0 || sl.opClass == 7) 0 ds
    let s := match fs with
      | [] => s
      | f :: r => r.foldl (fun s g => s.giveThread g th) (s.giveThread f { th with items := l, descs := descs })
    if sl.opClass = 0 ∨ sl.opClass = 7 then l.foldl (fun s n => s.finish n) s else check s l

/-- The commit record of the step's mirror is written, or the mirror has failed. (DEDUCED, notes/assumptions/54.) -/
def State.closeMirror (s : State) (c : Nat) : State :=
  let p := s.plan c
  match p.mirrorFail with
  | some st => s.mirrorFailed c st
  | none => ((s.setPlan c { p with mirrorClosing := true }).writeCommit c 1).getD (s.mirrorClosed c .failedProtection)

/-- A descriptor of the slot whose input lost a contribution completes DROPPED_LATE (R64); the router and the collective engine
see to their own. (DEDUCED, notes/assumptions/50.) -/
def State.markDropped (s : State) (c i step : Nat) (sl : Slot) : State :=
  if sl.winIn != 0xFFF && [1, 2, 5, 6].contains sl.opClass && s.anyDropped c step sl.winIn then
    (s.items.filter (fun e => e.2.ctx == c && e.2.isPlanned && e.2.slot == i && e.2.step == step)).foldl
      (fun s e => s.meet e.1 .droppedLate) s
  else s

/-- A slot starts at this edge (R54). An unreadable word of the operation table resets the context (15 R410). Its deadline edge
moves by the slip in force at its start; slip gained while it runs does not move it (DESIGN CHOICE, notes/assumptions/145). -/
def State.startSlot (s : State) (c i : Nat) (im : PlanImage) (sl : Slot) : State :=
  let s := if i = 0 then s.beginAbsent c else s
  let (ds, bad, s) := s.slotDescs c im sl
  if bad then s.contextReset c causeContext
  else
    let p := s.plan c
    let step := s.reg Obj.STEP_NUMBER c
    let facets := im.facetsOf sl
    let fs := bitsOf 192 facets
    let run : SlotRun := { phase := .running, step := step, serial := s.slotSerial, facets := facets, startBeat := s.beat
                           deadlineBeat := p.plannedBeat + sl.start + s.slip c + sl.deadline, startNs := s.now }
    let busy := fs.foldl (fun t f => if (tfind t f).isSome then t else tset t f s.now) p.busySince
    let s := s.setPlan c { p with slots := tset p.slots i run, busySince := busy }
    let s := { s with slotSerial := s.slotSerial + 1 }
    let s := (fs.foldl (fun s f => s.ownFacet c f) s).trace (.slotStart c i s.beat)
    let s := (s.placeItems c i im sl run.serial ds).markDropped c i step sl
    let s := if sl.opClass = 7 then (s.setMaint { s.maint with windows := nsInsert s.maint.windows (65536 * c + i) }) else s
    let s := if s.mirrorSlot c sl then s.closeMirror c else s
    if ds.isEmpty = true ∧ sl.opClass ≠ 7 ∧ (s.plan c).mirrorClosing = false then s.slotDone c i s.now else s

/-- The next slot of the open step starts, if it may: slots start in table order (R48, R54-R58, R63). True when it did. With
`onTime` only a slot that no slip has moved starts: its planned edge is this one (R58). -/
def State.tryStart (s : State) (c : Nat) (im : PlanImage) (onTime : Bool) : Bool × State :=
  let p := s.plan c
  match im.slots[p.next]? with
  | none => (false, s)
  | some sl =>
    let resync := sl.resync || p.next == 0
    let planned := p.plannedBeat + sl.start
    let due := if resync then planned else planned + s.slip c
    if (onTime = true ∧ planned < s.beat) ∨ s.planState c ≠ planRunning ∨ p.opened = false ∨ (s.beat < due ∧ p.forced ≤ p.next) ∨ p.holdSince.isSome = true
        ∨ (resync = true ∧ s.slotsRunning c = true) then (false, s)
    else if s.storeFull c then
      (false, if p.stalled = some p.next then s
        else (s.setPlan c { p with stalled := some p.next }).bump Obj.CQ_STALL_COUNT c)
    else if s.inputReady c sl = false ∨ (bitsOf 192 (im.facetsOf sl)).all (s.facetFree c) = false then (false, s)
    else
      let s := s.setSlip c (if resync ∨ p.fromPlanned = some p.next then s.beat - planned else s.slip c + (s.beat - due))
      let s := s.setPlan c { s.plan c with next := p.next + 1 }
      (true, s.startSlot c p.next im sl)

/-- Slots start while they may. -/
def State.starts (s : State) (c : Nat) (im : PlanImage) (onTime : Bool) : Nat → State
  | 0 => s
  | n + 1 =>
    match s.tryStart c im onTime with
    | (true, s) => if (tfind s.rcv.active c).isSome then s else s.starts c im onTime n
    | (false, s) => s

/-- LATE_WAIT_TIMEOUT (R64): LATE_TIMEOUT_MS after close + G, a slot that waits for late contributions is not run. -/
def execLateWaitTimeout (ctx slot : Nat) (s : State) : Res :=
  .next (match (s.plan ctx).image with
    | some im =>
      (match im.slots[slot]? with
       | some sl =>
         let p := s.plan ctx
         if s.planState ctx = planRunning ∧ p.opened = true ∧ p.next ≤ slot ∧ p.judged.contains sl.winIn = true
             ∧ (s.lateSources ctx sl.winIn).isEmpty = false then s.failWindow ctx im sl.winIn haltTimeout
         else s
       | none => s)
    | none => s)

/-! ### One context at a beat edge -/

/-- Slots start only in LOCKED and HOLDOVER (R32). -/
def State.slotsAllowed (s : State) : Bool := s.reg Obj.CADENCE_STATE == 2 || s.reg Obj.CADENCE_STATE == 3

/-- The plan of a context that a beat edge serves: the device and the context run. -/
def State.edgePlan (s : State) (c : Nat) : Option PlanImage :=
  if s.reg Obj.CONTEXT_STATE c ≠ 0 ∨ s.serving = false then none else (s.plan c).image

/-- What a beat edge brings to a context's plan before any slot starts, in order: ARMED becomes RUNNING, a step opens, overruns,
the end of a hold, late contributions. (DEDUCED, notes/assumptions/46.) -/
def State.planEdge (s : State) (c : Nat) : State :=
  match s.edgePlan c with
  | none => s
  | some im =>
    let s := if s.planState c = planArmed ∧ (s.plan c).startBeat ≤ s.beat then s.planTo c planRunning else s
    if s.planState c ≠ planRunning then s
    else
      let s := s.openNext c im
      if (s.plan c).opened = false then s
      else (((s.deadlines c im).releaseHold c im).judgeWindows c im).noteWait c im

/-- The slots of a context's open step that may start at this edge: all of them, or those that no slip has moved. -/
def State.startsEdge (s : State) (c : Nat) (onTime : Bool) : State :=
  match s.edgePlan c with
  | none => s
  | some im =>
    if s.planState c = planRunning ∧ (s.plan c).opened = true ∧ s.slotsAllowed = true then
      s.starts c im onTime (im.slots.length - (s.plan c).next)
    else s

/-- What a beat edge brings to the plans (R53-R58): every maintenance window that is due closes, every plan takes what falls due,
then the slots start: those that no slip has moved, and after them those that slip moved, which wait for facets that another
context's slot runs on (R58). Among slipped starts that meet on a facet the lower context number goes first (DESIGN CHOICE,
notes/assumptions/142). -/
def State.plansEdge (s : State) : State :=
  let cs := List.range 16
  let s := cs.foldl (fun s c => s.closeWindows c) s
  let s := cs.foldl (fun s c => s.planEdge c) s
  let s := cs.foldl (fun s c => s.startsEdge c true) s
  cs.foldl (fun s c => s.startsEdge c false) s

end Sys2Proof.Machine
end

