-- ==== Sys2Proof/Machine/Beat.lean ====
section
/-! DEFINITION. Sys2Proof/Machine/Beat.lean: the cadence unit: the beat, its epoch and master, alignment to the upstream peer, the
time counter and PPS_IN (02_beat_and_time R30-R45, 11_spokes R306, R307, R326, 19_pins_and_interfaces R545). -/

namespace Sys2Proof.Machine

/-- Cadence states (R32). -/
def csStopped : Nat := 0
def csAcquiring : Nat := 1
def csLocked : Nat := 2
def csHoldover : Nat := 3

/-- Time states (R42). -/
def tsPps : Nat := 1
def tsFollowing : Nat := 2
def tsHoldover : Nat := 3
def tsFreerun : Nat := 4

def State.cadState (s : State) : Nat := s.reg Obj.CADENCE_STATE

/-- The cadence unit replaced. -/
def State.setCad (s : State) (x : Cadence) : State := { s with cad := x }

/-- The time counter takes a time, in ns since second 0 (R42). -/
def State.setTime (s : State) (t : Nat) : State :=
  s.setCad { s.cad with sec := t / 1000000000 % 2 ^ 48, ns := t % 1000000000 }

/-! ### The beat master (R34) -/

/-- The last marker of each spoke that carries traffic. -/
def State.heard (s : State) : Table Marker := s.cad.peers.filter (fun e => s.spokeUp e.1)

/-- Candidates that this device knows, priority and node: itself, and what its peers advertise (R34, R35). -/
def State.candidates (s : State) : List (Nat × Nat) :=
  let own := s.reg Obj.BEAT_MASTER_PRIORITY
  (if own ≠ 0 ∧ s.hasNode = true then [(own, s.node)] else []) ++
    ((tvals s.heard).filter (fun m => m.masterPriority != 0 && m.masterNode != s.node && !(s.nodeLost m.masterNode))).map
      (fun m => (m.masterPriority, m.masterNode))

/-- Higher priority wins, then the lower node (R34). -/
def betterMaster (a b : Nat × Nat) : Nat × Nat := if b.1 < a.1 ∨ (a.1 = b.1 ∧ a.2 ≤ b.2) then a else b

/-- The best candidate. -/
def State.bestMaster (s : State) : Option (Nat × Nat) :=
  match s.candidates with
  | [] => none
  | x :: l => some (l.foldl betterMaster x)

/-- This device is beat master. -/
def State.isMaster (s : State) : Bool := match s.bestMaster with | some x => x.2 == s.node && s.hasNode | none => false

/-- The upstream spoke: the fewest hops among LOCKED peers, the lowest spoke among equals (R36). -/
def State.pickUpstream (s : State) : Nat :=
  ((s.heard.filter (fun e => e.2.lock == csLocked)).foldl (fun (best : Option (Nat × Nat)) (e : Nat × Marker) =>
    match best with
    | some b => if e.2.hops < b.1 then some (e.2.hops, e.1) else best
    | none => some (e.2.hops, e.1)) none).elim 0xFF (·.2)

/-- The master and the upstream spoke follow what is known (R34, R36, R40). A new master keeps beat and phase; without a LOCKED
upstream peer a locked device holds over. (DEDUCED, notes/assumptions/55.) (DEDUCED, notes/assumptions/60.) -/
def State.elect (s : State) : State :=
  let s := match s.bestMaster with | some x => s.setReg Obj.BEAT_MASTER_NODE 0 x.2 | none => s
  if s.isMaster then
    let s := s.setReg Obj.BEAT_UPSTREAM_SPOKE 0 0xFF
    let s := if s.cadState = csAcquiring ∨ s.cadState = csHoldover then s.setReg Obj.CADENCE_STATE 0 csLocked else s
    if s.reg Obj.TIME_STATE = tsPps then s else s.setReg Obj.TIME_STATE 0 (if s.cad.ppsSeen then tsHoldover else tsFreerun)
  else
    let u := s.pickUpstream
    let s := s.setReg Obj.BEAT_UPSTREAM_SPOKE 0 u
    if u = 0xFF ∧ s.cadState = csLocked then
      (s.setReg Obj.CADENCE_STATE 0 csHoldover).setReg Obj.TIME_STATE 0 tsHoldover
    else s

/-- Hops from the master that this device sends: 0 on the master, one more than its upstream peer; open where no path is known
(R35). -/
def State.hops (s : State) : Nat :=
  if s.isMaster then 0
  else match tfind s.heard (s.reg Obj.BEAT_UPSTREAM_SPOKE) with
    | some m => min (m.hops + 1) 255
    | none => s.fresh 256

/-! ### Markers and heartbeats sent (R35, R307) -/

/-- The marker of this edge for a spoke (R35). TURNAROUND is open before a marker has arrived on the spoke. -/
def State.markerOut (s : State) (p : Nat) : Marker :=
  let best := s.bestMaster.getD (0, s.reg Obj.BEAT_MASTER_NODE)
  { masterNode := best.2, masterPriority := best.1, hops := s.hops, beatNumber := s.beat, edgeSec := s.cad.sec, edgeNs := s.cad.ns,
    turnaround := (match tfind s.cad.arrivals p with | some t => (s.now - t) % 2 ^ 32 | none => s.took.fresh (2 ^ 32)),
    period := s.cad.period, epochStart := s.cad.armed.getD 0, lock := s.cadState }

/-- A marker leaves on every spoke that carries traffic; in a retry or deskew pause it is dropped (R307).
(DESIGN CHOICE, notes/assumptions/57.) -/
def State.sendBeatMarkers (s : State) : State :=
  (List.range 18).foldl (fun s p =>
    let x := s.spoke p
    if s.spokeUp p = true ∧ x.paused = false ∧ x.retrying = false then s.took.took.sendSet p (.marker (s.markerOut p)) else s) s

/-- Heartbeats that a spoke sends between two edges: ceil(P / 500,000) - 1 (R307). -/
def State.heartbeatsDue (s : State) : Nat := (s.cad.period + 499999) / 500000 - 1

/-- HEARTBEAT_SEND (R307): between two edges, at most as many as are due, the i-th at i * P / (h + 1) after the edge. -/
def execHeartbeatSend (spoke : Nat) (s : State) : Res :=
  .next (let x := s.spoke spoke
    let sent := if x.heartbeats.1 = s.beat then x.heartbeats.2 else 0
    if s.cadState ≠ csStopped ∧ sent < s.heartbeatsDue ∧ s.spokeUp spoke = true ∧ x.paused = false then
      let m := s.markerOut spoke
      (s.setSpoke spoke { x with heartbeats := (s.beat, sent + 1) }).took.took.sendSet spoke
        (.heartbeat { masterNode := m.masterNode, masterPriority := m.masterPriority, hops := m.hops, lock := m.lock,
                      node := s.node, epoch := s.epoch })
    else s)

/-! ### The beat edge (R30) -/

/-- Everything placed at this edge. -/
def State.atEdge (s : State) : State :=
  ((s.applyBeat.elect.sendBeatMarkers).pinEdges).plansEdge

/-- BEAT_EDGE (R30): the count advances, the time counter with it. -/
def execBeatEdge (s : State) : Res :=
  .next (if s.cadState = csStopped then s
    else
      let t := s.cad.edge + s.cad.period
      let s := s.setReg Obj.BEAT_COUNT 0 ((s.beat + 1) % 2 ^ 48)
      ((s.setCad { s.cad with edge := t, up := s.cad.up + s.cad.period }).setTime t).atEdge)

/-- BEAT_PERIOD_NS_WRITE (R31): accepted in STOPPED; it takes effect with the next epoch. -/
def execBeatPeriodNsWrite (who : Who) (value : Nat) (s : State) : Res :=
  .next (s.row who Obj.BEAT_PERIOD_NS 0 false (fun s =>
    if value < 4000 ∨ 2000000 < value then (Abort.VALUE_RANGE, s)
    else if s.cadState ≠ csStopped then (Abort.CADENCE_STATE_CONFLICT, s)
    else (0, s.store Obj.BEAT_PERIOD_NS 0 [value])))

/-- BEAT_EPOCH_START_SEC_WRITE (R33): it arms an epoch on the beat master. On another device the spec gives the write neither an
effect nor a refusal: the value is stored and nothing is armed (DESIGN CHOICE, notes/assumptions/143). -/
def execBeatEpochStartSecWrite (who : Who) (value : Nat) (s : State) : Res :=
  .next (s.row who Obj.BEAT_EPOCH_START_SEC 0 false (fun s =>
    if 2 ^ 48 ≤ value then (Abort.VALUE_RANGE, s)
    else if s.isMaster then
      if s.anyRunning then (Abort.PLAN_STATE_CONFLICT, s)
      else (0, (s.store Obj.BEAT_EPOCH_START_SEC 0 [value]).setCad { s.cad with armed := if value = 0 then none else some value })
    else (0, s.store Obj.BEAT_EPOCH_START_SEC 0 [value])))

/-- Plans that are RUNNING halt at an epoch start (R33, R60). -/
def State.haltAll (s : State) : State := (List.range 16).foldl (fun s c => s.haltPlan c haltEpoch 0xFFFF) s

/-- EPOCH_START (R31, R33): the armed second is reached, and this edge is beat 0. (DEDUCED, notes/assumptions/61.)
(DEDUCED, notes/assumptions/62.) -/
def execEpochStart (s : State) : Res :=
  .next (match s.cad.armed with
    | none => s
    | some sec =>
      if s.isMaster = false ∧ s.cadState = csStopped then s
      else
        let master := s.isMaster
        let s := if master then s else s.haltAll
        let t := 1000000000 * sec
        let s := (s.setCad { s.cad with armed := none, edge := t, period := if master then s.reg Obj.BEAT_PERIOD_NS else s.cad.period }).setTime t
        let s := (s.setReg Obj.BEAT_COUNT 0 0).setReg Obj.BEAT_EPOCH_START_SEC 0 0
        let s := if master then s.setReg Obj.CADENCE_STATE 0 csLocked else s
        s.atEdge)

/-! ### Alignment (R36-R41) -/

/-- The tolerance of this device's scope (R37): within its master's lattice, or across lattices.
(DEDUCED, notes/assumptions/58.) -/
def State.tolerance (s : State) : Nat := if latticeOf (s.reg Obj.BEAT_MASTER_NODE) = latticeOf s.node then 20 else 200

/-- The servo takes a new correction within 200 ppm: its law is open (R38). -/
def State.servo (s : State) : State :=
  (s.setCad { s.cad with servoPpb := (s.fresh 400001 : Int) - 200000 }).took

/-- An epoch start comes in a marker (R33): it is armed here too, and RUNNING plans halt. -/
def State.hearEpoch (s : State) (m : Marker) : State :=
  if m.epochStart ≠ 0 ∧ s.cad.armed ≠ some m.epochStart ∧ s.now < 1000000000 * m.epochStart then
    (s.setCad { s.cad with armed := some m.epochStart }).haltAll
  else s

/-- The cadence unit locks to an upstream peer: it is LOCKED, and adopts the period of the peer's marker (R31). -/
def State.lockTo (s : State) (m : Marker) : State :=
  ((s.setReg Obj.CADENCE_STATE 0 csLocked).setReg Obj.BEAT_PERIOD_NS 0 m.period).setCad { s.cad with period := m.period }

/-- The time counter is moved by `d` ns, and the time of the last beat edge with it. -/
def State.shiftTime (s : State) (d : Int) : State :=
  (s.setCad { s.cad with edge := ((s.cad.edge : Int) + d).toNat }).setTime ((s.now : Int) + d).toNat

/-- The device takes its time from the markers (R44): on entering FOLLOWING the time counter takes the peer's scale, which lies
`offset` below its own; while FOLLOWING only the servo moves it, with the beat (R38). (DESIGN CHOICE, notes/assumptions/147.) -/
def State.takeTime (s : State) (offset : Int) : State :=
  if s.reg Obj.TIME_STATE = tsFollowing then s else (s.shiftTime (-offset)).setReg Obj.TIME_STATE 0 tsFollowing

/-- The device measures its offset from its upstream peer at a marker (R36) and acts on it (R38-R40). A STOPPED device takes count,
edge, period and time from its first marker at once, and that marker is not measured; half a nanosecond of path delay is rounded
down (DESIGN CHOICE, notes/assumptions/148). -/
def State.follow (s : State) (p : Nat) (m : Marker) (t1 t4 : Int) : State :=
  let edge := 1000000000 * m.edgeSec + m.edgeNs
  let path := ((t4 - t1) - (m.turnaround : Int)) / 2
  let s := s.hearEpoch m
  if s.cadState = csStopped then
    let s := (s.setReg Obj.BEAT_COUNT 0 m.beatNumber).setReg Obj.CADENCE_STATE 0 csAcquiring
    let s := s.setReg Obj.TIME_STATE 0 tsFollowing
    let s := s.setCad { s.cad with edge := edge, period := m.period, goodRun := 0 }
    s.setTime ((edge : Int) + path).toNat
  else
    let offset := t4 - ((edge : Int) + path)
    let s := ((s.setReg Obj.BEAT_OFFSET_NS 0 (ofInt 32 offset)).takeTime offset).servo
    if s.reg Obj.BEAT_ALIGN_LIMIT_NS < offset.natAbs then
      let s := s.setCad { s.cad with goodRun := 0 }
      if s.cadState = csAcquiring then s
      else (s.setReg Obj.CADENCE_STATE 0 csAcquiring).log!
        { code := 0x031, sub := 14, info0 := ofInt 64 offset, info1 := p }
    else
      let s := s.setCad { s.cad with goodRun := if offset.natAbs ≤ s.tolerance then min 16 (s.cad.goodRun + 1) else 0 }
      if s.cadState = csHoldover then s.lockTo m else s

/-- A marker has arrived on a spoke (R35, R36): its arrival is adjusted by SPOKE_ASYM_NS before anything uses it (R307). -/
def State.markerIn (s : State) (p : Nat) (m : Marker) (t1 t4 : Nat) : State :=
  let at_ := (t4 : Int) + toInt 32 (s.reg Obj.SPOKE_ASYM_NS p)
  let s := (s.setCad { s.cad with peers := tset s.cad.peers p m, arrivals := tset s.cad.arrivals p at_.toNat }).elect
  if s.isMaster = true ∨ s.reg Obj.BEAT_UPSTREAM_SPOKE ≠ p then s else s.follow p m t1 at_

/-- BEAT_MARKER_RECEIVE (R36): `t1` and `t4` on this device's time counter. -/
def execBeatMarkerReceive (spoke : Nat) (marker : Marker) (t1 t4 : Nat) (copies : List Bool) (s : State) : Res :=
  .next (if s.spokeUp spoke then s.tagged spoke copies (fun s => s.markerIn spoke marker t1 t4) else s)

/-- A heartbeat has arrived: what it says of the master replaces what the last marker said (R306). It carries no period: before
a marker has come, the one in force stands in its place, so that locking changes none (R31). -/
def State.heartbeatIn (s : State) (p : Nat) (h : Heartbeat) : State :=
  let m := (tfind s.cad.peers p).getD
    { masterNode := 0, masterPriority := 0, hops := 0, beatNumber := 0, edgeSec := 0, edgeNs := 0, turnaround := 0, period := s.cad.period,
      epochStart := 0, lock := 0 }
  let m := { m with masterNode := h.masterNode, masterPriority := h.masterPriority, hops := h.hops, lock := h.lock }
  (s.setCad { s.cad with peers := tset s.cad.peers p m }).elect

/-- HEARTBEAT_RECEIVE (R306, R41). (DEDUCED, notes/assumptions/56.) -/
def execHeartbeatReceive (spoke : Nat) (heartbeat : Heartbeat) (copies : List Bool) (s : State) : Res :=
  .next (if s.spokeUp spoke then s.tagged spoke copies (fun s => s.heartbeatIn spoke heartbeat) else s)

/-- An ordered set that a MARKER packet carries on an Ethernet chord (R306, R326). -/
def State.orderedSet (s : State) (p : Nat) (bytes : Bytes) (t1 t4 : Nat) : State :=
  let w := ofBE bytes
  if bytes.length = 34 ∧ field w 264 8 = 0x02 then s.markerIn p (markerAt w) t1 t4
  else if bytes.length = 11 ∧ field w 80 8 = 0x03 then
    s.heartbeatIn p { masterNode := field w 66 14, masterPriority := field w 58 8, hops := field w 50 8, lock := field w 48 2,
                      node := field w 34 14, epoch := field w 2 32 }
  else if bytes.length = 8 ∧ field w 56 8 = 0x04 then
    let node := field w 42 14
    let epoch := field w 10 32
    let s := s.log! { code := 0x080, sub := 9, inst := p, info0 := node, info1 := epoch + place (field w 2 8) 32 8 }
    (s.loseNode node epoch).spokeDown p
  else s

/-- MARKER_PACKET_RECEIVE (R326). -/
def execMarkerPacketReceive (source : PacketFrom) (t1 t4 : Nat) (s : State) : Res :=
  .next (s.receive source (fun k => k.type == 5) (fun s p k => s.orderedSet p k.payload t1 t4))

/-- CADENCE_LOCK (R39): after 16 good beats the device is LOCKED and adopts its upstream peer's period (R31).
(DEDUCED, notes/assumptions/59.) -/
def execCadenceLock (s : State) : Res :=
  .next (if s.cadState = csAcquiring ∧ 16 ≤ s.cad.goodRun then
      match tfind s.cad.peers (s.reg Obj.BEAT_UPSTREAM_SPOKE) with
      | some m => s.lockTo m
      | none => s.setReg Obj.CADENCE_STATE 0 csLocked
    else s)

/-- Nothing is heard of a spoke's peer any more. -/
def State.unheard (s : State) (p : Nat) : State :=
  (s.setCad { s.cad with peers := terase s.cad.peers p, arrivals := terase s.cad.arrivals p }).elect

/-- UPSTREAM_LOSS (R40): the upstream peer has stopped sending markers. -/
def execUpstreamLoss (s : State) : Res :=
  .next (if s.isMaster = true ∨ s.reg Obj.BEAT_UPSTREAM_SPOKE = 0xFF then s else s.unheard (s.reg Obj.BEAT_UPSTREAM_SPOKE))

/-- HOLDOVER_TIMEOUT (R32): 10 s in HOLDOVER. -/
def execHoldoverTimeout (s : State) : Res :=
  .next (if s.cadState = csHoldover then
      (s.setReg Obj.CADENCE_STATE 0 csAcquiring).setCad { s.cad with goodRun := 0 }
    else s)

/-- PEER_SILENT (R41, 15_faults_and_recovery R409): neither a marker nor a heartbeat for 2 ms, on a spoke whose peer is not lost
yet or has been heard since it was.
(DEDUCED, notes/assumptions/64.) -/
def execPeerSilent (spoke : Nat) (s : State) : Res :=
  .next (let node := s.reg Obj.SPOKE_PEER spoke
    if s.spokeUp spoke = true ∧ node ≠ 0xFFFF ∧ (s.nodeLost node = false ∨ (tfind s.cad.peers spoke).isSome = true) then
      let s := s.log! { code := 0x081, sub := 14, inst := spoke, info0 := node, info1 := spoke }
      (s.loseNode node (s.peerEpoch node)).unheard spoke
    else s)

/-! ### PPS_IN (R43-R45, 19 R545) -/

/-- The second nearest to a time. -/
def nearestSecond (t : Nat) : Nat := (t + 500000000) / 1000000000

/-- The edge marks the start of a second on the master (R43): TIME_SECONDS_NEXT if it was written, 0 at the first edge, else the
second that the counter is nearest to. `t` is the corrected edge on the counter as it stands. -/
def State.ppsSecond (s : State) (t : Nat) : Nat :=
  match s.cad.secondsNext with
  | some x => x
  | none => if s.cad.ppsSeen then nearestSecond t else 0

/-- PPS_EDGE (R43, R44, R545), `sinceNs` after the time counter took its present value: on the master it sets the counter,
elsewhere it is measured. One less than half a second after the edge before is ignored. (DEDUCED, notes/assumptions/63.) -/
def execPpsEdge (sinceNs : Nat) (s : State) : Res :=
  .next (let raw := s.now + sinceNs
    let delay := s.reg Obj.PPS_DELAY_NS
    if s.cad.ppsSeen = true ∧ raw < s.cad.ppsLast + 500000000 then
      (s.bumpF Obj.PPS_IN_INFO 0 1 1).setCad { s.cad with ppsLast := raw }
    else
      let t := raw - delay
      let s := s.bumpF Obj.PPS_IN_INFO 0 0 1
      let s := (s.setRegF Obj.PPS_IN_INFO 0 2 (raw / 1000000000)).setRegF Obj.PPS_IN_INFO 0 3 (raw % 1000000000)
      if s.isMaster then
        let now := 1000000000 * s.ppsSecond t + delay
        let edge := ((s.cad.edge : Int) + (now : Int) - (raw : Int)).toNat
        let s := s.setCad { s.cad with secondsNext := none, ppsSeen := true, ppsLast := now, edge := edge }
        (s.setTime now).setReg Obj.TIME_STATE 0 tsPps
      else
        let s := s.setCad { s.cad with ppsSeen := true, ppsLast := raw }
        s.setReg Obj.PPS_OFFSET_NS 0 (ofInt 32 ((1000000000 * nearestSecond t : Nat) - (t : Int))))

/-- PPS_LOSS (R45): two seconds without an edge on the master. -/
def execPpsLoss (s : State) : Res :=
  .next (if s.isMaster = true ∧ s.cad.ppsSeen = true then s.setReg Obj.TIME_STATE 0 tsHoldover else s)

end Sys2Proof.Machine
end

