-- ==== Sys2Proof/Machine/Requester.lean ====
section
/-! DEFINITION. Sys2Proof/Machine/Requester.lean: dictionary requesters, how their transfers close, the mailboxes, and the keys
and sessions that a context or an interface loses (17_object_dictionary R483-R488, 16_security R456-R458, R467). -/

namespace Sys2Proof.Machine

/-! ### Requesters (17 R486) -/

/-- The requester is gone: its transfer closes, and its kept frame and its copies are discarded (R486). -/
def State.dropRequester (s : State) (r : Nat) : State :=
  let s := s.closeTransfer r Abort.TRANSFER_ABORTED
  (s.setDict { s.dict with kept := terase s.dict.kept r, copies := s.dict.copies.filter (fun e => e.1 / 2 ^ 24 != r) })

/-- The mailbox of a function is reset, and its open transfer closes (18_clocks_power_reset R523, 19 R551). -/
def State.resetMailbox (s : State) (f : Nat) : State :=
  let s := s.closeTransfer f Abort.TRANSFER_ABORTED
  (s.setDict { s.dict with mailboxes := terase s.dict.mailboxes f })

/-! ### A context's keys (16 R454-R459) -/

/-- The keys of a context. -/
def State.contextKeys (s : State) (c : Nat) : ContextKeys := tget {} s.sec.keys c

/-- The keys of a context replaced. -/
def State.setKeys (s : State) (c : Nat) (k : ContextKeys) : State := (s.setSec { s.sec with keys := tset s.sec.keys c k })

/-- The keys of a context are erased (R457); its transfer KEY_ID stays. (DEDUCED, notes/assumptions/98.) -/
def State.eraseKeys (s : State) (c : Nat) : State := s.setKeys c { keyId := (s.contextKeys c).keyId }

/-- The per-context objects that TENANT can write go back to their defaults (R457, 17 R475), and with POOL_CONFIG the pools. -/
def State.defaultTenantObjects (s : State) (c : Nat) : State :=
  let t := fun (k : Nat) => k % 256 == c && Obj.table.any (fun o => o.index == k / 256 && decide (o.lo ≤ 1 ∧ o.hi = 15) &&
    (o.access.2.1 == .rw) && o.perRequester == false)
  { s with objs := s.objs.filter (fun e => !(t e.1)), pools := s.pools.filter (fun e => e.1 / 8 != c), waitBeat := s.waitBeat.filter (fun e => !(t e.1)),
           waitStep := s.waitStep.filter (fun e => !(t e.1)), waitReset := s.waitReset.filter (fun e => !(t e.1)) }

/-- A context has returned to FREE (R457): keys erased, no owner, plan EMPTY, TENANT objects at their defaults. Open transfers
of its tenants close ACCESS_DENIED (17 R497), and their sessions lose it (R468). -/
def State.toFree (s : State) (c : Nat) : State :=
  let owner := s.ownerKey c
  let lose := fun (e : Nat × Session) =>
    if owner != 0 && e.2.key == some owner then (e.1, { e.2 with released := nsInsert e.2.released c }) else e
  let tenants := (s.sec.sessions.filter (fun e => owner != 0 && e.2.key == some owner)).map (fun e => Who.number (.tenant e.1))
  let closes := tenants.filter (fun r => (match tfind s.dict.transfers r with
    | some t => field t.header 208 8 == c && Obj.table.any (fun o => o.index == field t.header 216 16 && decide (o.hi = 15))
    | none => false))
  let s := closes.foldl (fun s r => s.closeTransfer r Abort.ACCESS_DENIED) s
  let s := (s.setSec { s.sec with sessions := s.sec.sessions.map lose })
  let s := ((s.eraseKeys c).clearReg Obj.CONTEXT_OWNER c).clearReg Obj.CONTEXT_KEY_STATE c
  let s := (s.clearReg Obj.KEY_ROTATE_CURSOR c).defaultTenantObjects c
  (s.setPlan c (kept (s.plan c) none)).planTo c planEmpty

/-- CONTEXT_WITHDRAWN (15 R412): every engine has reported the context gone. -/
def execContextWithdrawn (ctx : Nat) (s : State) : Res :=
  .next (match tfind s.rcv.active ctx with
    | some w =>
      if s.allGone ctx w then
        let s := s.withdrawn ctx w
        if w.toFree then s.toFree ctx else s
      else s
    | none => s)

/-! ### Sessions (16 R449, R452, R458) -/

/-- The registers follow the number of open sessions. -/
def State.countSessions (s : State) : State :=
  s.setReg Obj.SEC_SESSION_COUNT 0 (s.sec.sessions.filter (fun e => e.2.established)).length

/-- The owner key of a session has no other open session. -/
def State.lastOf (s : State) (key : Nat) : Bool := s.sec.sessions.all (fun e => e.2.key != some key)

/-- A session ends (R458): its requesters close, and contexts of its key with retention SESSION are released when no other
session of the key is open. -/
def State.endSession (s : State) (n : Nat) : State :=
  match tfind s.sec.sessions n with
  | none => s
  | some x =>
    let s := (s.dropRequester (Who.number (.tenant n))).dropRequester (Who.number (.attested n))
    let s := ((s.setSec { s.sec with sessions := terase s.sec.sessions n })).countSessions
    match x.key with
    | none => s
    | some k =>
      if s.lastOf k then
        (range2 1 16).foldl (fun s c =>
          if s.reg Obj.CONTEXT_KEY_STATE c ≠ 0 ∧ s.ownerKey c = k ∧ s.reg Obj.CONTEXT_KEY_RETENTION c = 1 then
            s.contextReset c causeKeys true
          else s) s
      else s

/-- Sessions that a predicate picks end. -/
def State.endSessions (s : State) (p : Session → Bool) : State :=
  ((s.sec.sessions.filter (fun e => p e.2)).map (·.1)).foldl State.endSession s

end Sys2Proof.Machine
end

