-- ==== Sys2Proof/Machine/Power.lean ====
section
/-! DEFINITION. Sys2Proof/Machine/Power.lean: clocks, core voltage, throttling, the reset pins, and the faults of clocks and power
(18_clocks_power_reset R498-R527, 19_pins_and_interfaces R533, R536). -/

namespace Sys2Proof.Machine

/-! ### Facet clocks (R503-R506, R514) -/

/-- The die of a facet quad (R503). -/
def quadDie (q : Nat) : Nat := q / 24

/-- The frequency of a quad in MHz. -/
def State.quadMHz (s : State) (q : Nat) : Nat := s.regF Obj.CLOCK_DOMAIN_INFO q 2 / 1000

/-- The regulator of a die's core rail has failed (R513). -/
def State.avsFailed (s : State) (d : Nat) : Bool := s.regF Obj.AVS_STATUS d 2 == 1

/-- The facet frequency of a die: the lowest of its ceilings (R514). -/
def State.ceiling (s : State) (d : Nat) : Nat :=
  let p := s.power
  let c := min (s.reg Obj.FACET_CLOCK_LIMIT_MHZ) (min p.capMHz (min (tget 2100 p.thermal d) (tget 2100 p.current d)))
  if p.therm || s.avsFailed d then min c 1200 else c

/-- The duty of a quad in sixteenths: the lowest that the cap loop, the current protection and THERM_N set (R514, R519). -/
def State.quadDuty (s : State) (q : Nat) : Nat :=
  let p := s.power
  let d := if p.hold.contains (quadDie q) then min p.capDuty 8 else p.capDuty
  let f := s.quadMHz q
  if p.therm && decide (1200 < f) then min d (19200 / f) else d

/-- The quads of a die. -/
def dieQuads (d : Nat) : List Nat := range2 (24 * d) (24 * d + 24)

/-- The highest frequency of a die's quads. (DEDUCED, notes/assumptions/92.) -/
def State.dieMHz (s : State) (d : Nat) : Nat := ((dieQuads d).map s.quadMHz).foldl max 0

/-- The lowest duty of a die's quads. -/
def State.dieDuty (s : State) (d : Nat) : Nat := ((dieQuads d).map s.quadDuty).foldl min 16

/-- CAUSES of THROTTLE_STATUS (R514, R527): a mechanism is a cause while it holds its ceiling below 2,100 MHz or its duty below
16/16. (DEDUCED, notes/assumptions/89.) -/
def State.causes (s : State) : Nat :=
  let p := s.power
  let low := fun (t : Table Nat) (d : Nat) => decide (tget 2100 t d < 2100)
  let b := [decide (p.capMHz < 2100) || decide (p.capDuty < 16), low p.thermal 0, low p.thermal 1,
            low p.current 0 || p.hold.contains 0, low p.current 1 || p.hold.contains 1, p.therm,
            s.avsFailed 0 || s.avsFailed 1, p.unreachable]
  (List.range 8).foldl (fun a i => a + (if b.getD i false then 2 ^ i else 0)) 0

/-- The registers that show what throttling does follow it; nothing runs before BOOT. -/
def State.showClocks (s : State) : State :=
  if s.devState < dsBoot then s
  else
    let s := (List.range 48).foldl (fun s q => s.setRegF Obj.CLOCK_DOMAIN_INFO q 3 (s.quadDuty q)) s
    let s := [0, 1].foldl (fun s d => s.setFields Obj.FACET_CLOCK_NOW d [s.dieMHz d, s.dieDuty d]) s
    s.setFields Obj.THROTTLE_STATUS 0 [s.causes, s.ceiling 0, s.ceiling 1, s.regF Obj.THROTTLE_STATUS 0 3]

/-- Every clock domain stops (R525). -/
def State.stopClocks (s : State) : State :=
  (List.range 118).foldl (fun s d => s.setRegF Obj.CLOCK_DOMAIN_INFO d 0 0) s

/-- The source of a domain once boot has begun: 1 PLL (R503); the observation output has no source until CLKOBS selects one. -/
def bootKHz (d : Nat) : Nat :=
  if d < 48 then 1200000 else if d < 76 then 2000000 else if d < 94 then 1562500 else if d < 98 then 1000000
  else if d < 102 then 800000 else if d < 115 then 1600000 else 800000

/-- Every domain runs from its PLL at BOOT entry, the facet quads at 1,200 MHz (R502, R503, DEDUCED, notes/assumptions/34). -/
def State.startClocks (s : State) : State :=
  (List.range 117).foldl (fun s d => s.setFields Obj.CLOCK_DOMAIN_INFO d [1, 1, bootKHz d, 16, 0]) s

/-! ### Core voltage (R511-R513) -/

/-- V_part at a frequency, rounded up to a multiple of 5 mV and held within 650-850 mV (R512). -/
def coreMillivolts (mhz : Nat) : Nat := max 650 (min 850 ((Config.partVoltage mhz + 4999) / 5000 * 5))

/-- The confirmed voltage of a die's core rail in mV; 750 at power-on (R511). -/
def State.volts (s : State) (d : Nat) : Nat := tget 750 s.power.volts d

/-- A voltage is written to a die's regulator, unless it has failed or another write waits for its answer (R511, R513). -/
def State.writeVoltage (s : State) (d mv : Nat) : State :=
  if s.avsFailed d || (tfind s.power.asked d).isSome || s.volts d == mv then s
  else ((s.setPower { s.power with asked := tset s.power.asked d mv })).emit (.avs d mv)

/-- A quad is put to a frequency: one switch (R505, R506). -/
def State.setQuad (s : State) (q mhz : Nat) : State :=
  let s := (s.setRegF Obj.CLOCK_DOMAIN_INFO q 2 (1000 * mhz)).bumpF Obj.CLOCK_DOMAIN_INFO q 4 1
  (s.setPower { s.power with switched := nsInsert s.power.switched q })

/-- The switch of a quad to its die's frequency: a rise waits for a confirmed voltage, a fall is followed by a lower one
(R505, R506, R512). -/
def State.switchQuad (s : State) (q : Nat) : State :=
  let d := quadDie q
  let t := s.ceiling d
  let f := s.quadMHz q
  if 48 ≤ q ∨ s.serving = false ∨ s.power.switched.contains q = true ∨ f = t then s
  else if f < t then
    (if coreMillivolts t ≤ s.volts d then (s.setQuad q t).showClocks else s.writeVoltage d (coreMillivolts t))
  else
    let s := s.setQuad q t
    let v := ((dieQuads d).map (fun q => coreMillivolts (s.quadMHz q))).foldl max 650
    (if v < s.volts d then s.writeVoltage d v else s).showClocks

/-- QUAD_CLOCK_SWITCH (R505): the power manager starts a switch that is clear of beat edges. -/
def execQuadClockSwitch (quad : Nat) (s : State) : Res := .next (s.switchQuad quad)

/-- AVS_REPLY (R511, R512): the regulator answers with its voltage and current; a written voltage that it has reached is
confirmed. -/
def execAvsReply (die mv deciAmps : Nat) (s : State) : Res :=
  .next (if 2 ≤ die ∨ s.avsFailed die = true then s
    else
      let s := (s.setRegF Obj.AVS_STATUS die 0 (mv % 65536)).setRegF Obj.AVS_STATUS die 1 (deciAmps % 65536)
      match tfind s.power.asked die with
      | some v =>
        if mv = v then
          (s.setPower { s.power with asked := terase s.power.asked die, volts := tset s.power.volts die v })
        else s
      | none => s)

/-- AVS_TIMEOUT (R513): a regulator has left commands in a row unanswered; three make its rail FAILED.
(DESIGN CHOICE, notes/assumptions/90.) -/
def execAvsTimeout (die unanswered : Nat) (s : State) : Res :=
  .next (if 2 ≤ die ∨ s.avsFailed die = true then s
    else
      let s := s.bumpF Obj.AVS_STATUS die 3 unanswered
      if 3 ≤ unanswered then
        let s := s.setRegF Obj.AVS_STATUS die 2 1
        ((s.setPower { s.power with asked := terase s.power.asked die })).showClocks
      else s)

/-! ### The power manager's tick (R515-R517) -/

/-- One step of 25 MHz down, not below 1,200, from the lower of a ceiling and the limit (R515). -/
def State.lowered (s : State) (c : Nat) : Nat := max 1200 (min c (s.reg Obj.FACET_CLOCK_LIMIT_MHZ) - 25)

/-- One step up, not above 2,100. -/
def raised (c : Nat) : Nat := min 2100 (c + 25)

/-- The cap loop at a tick (R515). (DEDUCED, notes/assumptions/88.) -/
def State.capLoop (s : State) (watts : Nat) : State :=
  let p := s.power
  let cap := s.reg Obj.POWER_CAP_W
  let set := fun (q : Power) => (s.setPower q)
  if cap < watts then
    let p := { p with below := 0 }
    if 1200 < min p.capMHz (s.reg Obj.FACET_CLOCK_LIMIT_MHZ) then set { p with capMHz := s.lowered p.capMHz }
    else if 2 < p.capDuty then set { p with capDuty := p.capDuty - 1, capMHz := min p.capMHz 1200 }
    else set { p with unreachable := true }
  else
    let p := { p with unreachable := false }
    if 100 * watts < 98 * cap then
      (if p.below < 9 then set { p with below := p.below + 1 }
       else if p.capDuty < 16 then set { p with below := 0, capDuty := p.capDuty + 1 }
       else set { p with below := 0, capMHz := raised p.capMHz })
    else set { p with below := 0 }

/-- The current ceiling of a die at a tick, by its mean current over the last 1 ms (R516). -/
def State.currentLoop (s : State) (d amps : Nat) : State :=
  let c := tget 2100 s.power.current d
  let n := if 1000 < amps then s.lowered c else if amps < 950 then raised c else c
  (s.setPower { s.power with current := if n = 2100 then terase s.power.current d else tset s.power.current d n })

/-- A thermal calibration of a die runs: its thermal ceiling holds (20_maintenance_and_telemetry R557). -/
def State.calibrating (s : State) (d : Nat) : Bool := s.maint.running.any (fun r => r.activity == 6 && r.resource == d)

/-- The thermal ceiling of a die past its throttle point falls by one step at a tick (R518). -/
def State.thermalLoop (s : State) (d : Nat) : State :=
  if s.power.hot.contains d && !(s.calibrating d) then
    (s.setPower { s.power with thermal := tset s.power.thermal d (s.lowered (tget 2100 s.power.thermal d)) })
  else s

/-- POWER_TICK (R515-R518): the mean of the last 100 µs, mean and peak of the last second, mean current of each die over 1 ms,
and MV and DA of each rail. -/
def execPowerTick (watts meanSecond peakSecond : Nat) (amps rails : List Nat) (s : State) : Res :=
  .next (if s.devState < dsBoot then s
    else
      let s := s.setFields Obj.POWER_NOW 0 [min watts 65535, min meanSecond 65535, min peakSecond 65535]
      let s := s.setFields Obj.RAIL_STATUS 0 ((List.range 24).map (fun i => rails.getD i 0 % 256 ^ (if i % 2 = 0 then 2 else 4)))
      let s := (s.setPower { s.power with switched := [] })
      let s := s.capLoop watts
      let s : State := [0, 1].foldl (fun (s : State) d => (s.currentLoop d (amps.getD d 0)).thermalLoop d) s
      let s := if s.causes = 0 then s else s.bumpF Obj.THROTTLE_STATUS 0 3 1
      s.showClocks)

/-- OVERCURRENT (R516): 8/16 of the die's cycles for 100 µs. -/
def execOvercurrent (die : Nat) (s : State) : Res :=
  .next (if die < 2 ∧ dsBoot ≤ s.devState then
      ((s.setPower { s.power with hold := nsInsert s.power.hold die })).showClocks
    else s)

/-- OVERCURRENT_HOLD_END (R516). -/
def execOvercurrentHoldEnd (die : Nat) (s : State) : Res :=
  .next ((s.setPower { s.power with hold := nsErase s.power.hold die })).showClocks

/-! ### Temperature (R518, R519) -/

/-- The trip point of a sensor group in 1/16 °C: dies and I/O die 115 °C, stacks 105 °C. -/
def tripPoint (i : Nat) : Int := if i < 3 then 1840 else 1680

/-- A state with two thresholds in 1/16 °C: entered at the upper, left below the lower. -/
def latched (was : Bool) (t upper lower : Int) : Bool := decide (upper ≤ t) || (was && decide (lower ≤ t))

/-- What a stack's temperature makes its controllers do (R518): 0 nothing, 1 refresh doubled, 2 bandwidth halved too. -/
def stackLevel (was : Nat) (t : Int) : Nat :=
  if latched (was == 2) t 1520 1472 then 2 else if latched (decide (1 ≤ was)) t 1360 1312 then 1 else 0

/-- ALERT_N is asserted (19 R539). -/
def State.assertAlert (s : State) : State :=
  if s.regF Obj.ALARM_STATUS 0 2 = 1 then s
  else
    let s := if s.regF Obj.STRAP_STATUS 0 1 = 0 then s.emit .inBand else s
    s.setRegF Obj.ALARM_STATUS 0 2 1

/-- The throttle points at a sample (R518). (DEDUCED, notes/assumptions/93.) -/
def State.throttlePoints (s : State) (t : Nat → Int) : State :=
  let point : Int := 16 * (s.reg Obj.THERMAL_THROTTLE_C : Int)
  let p := s.power
  let hot := [0, 1].filter (fun d => latched (p.hot.contains d) (t d) point (point - 48))
  let iod := latched p.iodHot (t 2) 1600 1552
  let stackFails := (List.range 8).foldl (fun (m : Table Nat) k =>
    let n := stackLevel (tget 0 p.stackHot k) (t (3 + k))
    if n = 0 then m else tset m k n) []
  let s := (s.setPower { p with hot := hot, iodHot := iod, stackHot := stackFails })
  if iod && !p.iodHot then s.assertAlert else s

/-- THERMAL_SAMPLE (R518, R519): die 0, die 1, I/O die and stacks 0-7 in 1/16 °C. The second sample in a row at a trip point
resets the device. -/
def execThermalSample (temps : List Int) (s : State) : Res :=
  .next (if s.devState < dsBoot then s
    else
      let t := fun i => temps.getD i 0
      let s := s.setFields Obj.THERMAL_NOW 0 ((List.range 11).map (fun i => ofInt 32 (t i)))
      let s := s.throttlePoints t
      let beyond := (List.range 11).filter (fun i => decide (tripPoint i ≤ t i))
      let trip := beyond.find? (fun i => s.power.tripping.contains i)
      let s := (s.setPower { s.power with tripping := beyond })
      match trip with
      | some i =>
        if s.rcv.resetting.isSome then s
        else (s.bump Obj.THERMAL_TRIP_COUNT 0).deviceFatal 0x0204 i 2
      | none => s)

/-- THERMAL_CEILING_RAISE (R518): every 1 ms, the ceiling of a die whose cause has cleared. -/
def execThermalCeilingRaise (die : Nat) (s : State) : Res :=
  .next (if s.power.hot.contains die || s.calibrating die then s
    else
      let n := raised (tget 2100 s.power.thermal die)
      ((s.setPower { s.power with thermal := if n = 2100 then terase s.power.thermal die else tset s.power.thermal die n })).showClocks)

/-- THERM_N_LOW (R519). -/
def execThermNLow (s : State) : Res := .next ((s.setPower { s.power with therm := true })).showClocks

/-- THERM_N_HIGH (R519). -/
def execThermNHigh (s : State) : Res := .next ((s.setPower { s.power with therm := false })).showClocks

/-! ### Power-up and the reference (R501, R502, R520, R525) -/

/-- Every PLL in one state. -/
def State.setPlls (s : State) (v : Nat) : State := (List.range 41).foldl (fun s n => s.setReg Obj.PLL_STATUS n v) s

/-- The qualification count starts when there are edges to count; the management domains run from the reference (R502,
R503). -/
def State.startCount (s : State) : State :=
  if s.devState = dsRefQualify ∧ s.power.edges = true then
    let s := (s.setPower { s.power with counting := true })
    [100, 101].foldl (fun s d => s.setFields Obj.CLOCK_DOMAIN_INFO d [1, 0, 100000, 16, 0]) s
  else s

/-- PWRGD_RISE (R501, R520, R532): the straps are latched. -/
def execPwrgdRise (refqSel mgmtMode smbAddr : Nat) (s : State) : Res :=
  .next (if s.devState = dsOff ∨ s.power.down = true then
      let s := s.setReg Obj.REFQ_SEL 0 (refqSel % 8)
      let s := s.setFields Obj.STRAP_STATUS 0 [refqSel % 8, mgmtMode % 2, smbAddr % 4]
      let s := s.setFields Obj.MGMT_PORT_INFO 0 [mgmtMode % 2, 0x60 + smbAddr % 4, 0, 0, 0, 0]
      let s := (s.setPower { s.power with down := false })
      ((s.setPlls 0).enter dsRefQualify 0).startCount
    else s)

/-- REFCLK_EDGES_PRESENT (R502). -/
def execRefclkEdgesPresent (s : State) : Res := .next ((s.setPower { s.power with edges := true })).startCount

/-- REF_QUALIFY_DONE (R502): the count has ended and every PLL starts. -/
def execRefQualifyDone (s : State) : Res :=
  .next (if s.devState = dsRefQualify ∧ s.power.counting = true then s.setPlls 1 else s)

/-- PLL_LOCK_TIMEOUT (R502): the PLLs stop and the count starts again. -/
def execPllLockTimeout (s : State) : Res :=
  .next (if s.devState = dsRefQualify ∧ s.reg Obj.PLL_STATUS 0 = 1 then (s.setPlls 0).startCount else s)

/-- REF_LOST (R525, R526): the record, the reset and its notices, then every clock stops. A loss while the reference is being
qualified only restarts the count, and one during a reset sequence only pauses it. (DEDUCED, notes/assumptions/94.) -/
def execRefLost (s : State) : Res :=
  .next (
    let s := (s.setPower { s.power with edges := false, counting := false })
    if s.devState = dsOff then s
    else if s.devState = dsRefQualify then s.setPlls 0
    else
      let s := s.bumpF Obj.REF_STATUS 0 1 1
      let s := s.deviceFatal 0x0201 0 1
      ((s.setPlls 0).stopClocks).enter dsRefQualify 9)

/-- PLL_LOCK_LOSS (R524): an SPLL takes its spoke down, any other PLL the device. -/
def execPllLockLoss (pll : Nat) (s : State) : Res :=
  .next (if 41 ≤ pll ∨ s.devState < dsBoot then s
    else
      let s := s.setReg Obj.PLL_STATUS pll 3
      if 20 ≤ pll ∧ pll ≤ 37 then (if s.spokeUp (pll - 20) then s.spokeDown (pll - 20) else s)
      else s.deviceFatal 0x0202 pll 1)

/-- RAIL_FAULT (R510, R524). -/
def execRailFault (rail : Nat) (s : State) : Res := .next (if rail < 12 then s.deviceFatal 0x0203 rail 2 else s)

/-! ### Power-down and power loss (R521, 15 R420) -/

/-- PWRGD_FALL (R521, R526): notices, record 0x091, engines stopped; a capture is left PARTIAL and a reset hold ends.
(DEDUCED, notes/assumptions/95.) -/
def execPwrgdFall (s : State) : Res :=
  .next (if s.devState = dsOff ∨ s.power.down = true then s
    else
      let s := (s.setPower { s.power with sysReset := false, down := true })
      if s.devState < dsBoot then s
      else if s.rcv.resetting.isSome then s.cutDump
      else
        let s := (s.sendResetNotices 2).log! { code := 0x091, sub := 16, info0 := 2, info1 := 0xFFFFFFFF }
        ((s.setRcv { s.rcv with resetting := some 2 })).wipe)

/-- What fuses, and the tables of the part, keep without power. -/
def partObjects : List ObjDef := [Obj.PART_VARIANT, Obj.STEPPING, Obj.SERIAL_NUMBER, Obj.SEC_FUSES]

/-- POWER_LOSS (15 R420, R404, R437): nothing is sent; only flash, fuses and the pins' levels remain. -/
def execPowerLoss (s : State) : Res :=
  .next { ({} : State) with
    pending := s.pending, freeCtr := s.freeCtr, out := s.out, nextItem := s.nextItem, slotSerial := s.slotSerial
    objs := putAll (putAll resetObjs s.flash.store) ((s.objs.filter (fun e => partObjects.any (fun o => o.index == e.1 / 256))).reverse)
    log := { flash := s.log.flash }, flash := s.flash
    rcv := { epochFlash := s.rcv.epochFlash }
    sec := { customerChain := s.sec.customerChain }
    power := { sysReset := s.power.sysReset, perst := s.power.perst, therm := s.power.therm, edges := s.power.edges } }

/-! ### Reset pins (R522, R523) -/

/-- SYS_RESET_N_LOW (R522, R526): a device reset without a dump, which waits before BOOT; ignored in a power-down. -/
def execSysResetNLow (s : State) : Res :=
  .next (if s.power.down ∨ s.devState = dsOff then s
    else ((s.setPower { s.power with sysReset := true })).deviceReset 0 false)

/-- SYS_RESET_N_RISE (R522). -/
def execSysResetNRise (s : State) : Res := .next (s.setPower { s.power with sysReset := false })

/-- The host interface is reset (R523): link, VFs, power states, mailboxes, IDE streams, the sealed window, and sessions over
DOE. -/
def State.hostInterfaceReset (s : State) : State :=
  let s := s.setFields Obj.PCIE_LINK_STATUS 0 [0, 0, 0, s.regF Obj.PCIE_LINK_STATUS 0 3, 0, 0]
  let s := { s with pins := { s.pins with d3hot := [] }, sec := { s.sec with ideLink := false, ideSelective := [], seals := [] } }
  let s := (List.range 16).foldl State.resetMailbox s
  s.endSessions (fun x => x.doe.isSome)

/-- PERST_N_LOW (R523). -/
def execPerstNLow (s : State) : Res :=
  .next (
    let s := (s.setPower { s.power with perst := true })
    if s.power.down ∨ s.devState = dsOff then s
    else if s.reg Obj.PERST_SCOPE = 1 then s.deviceReset 0 false
    else s.hostInterfaceReset)

/-- PERST_N_RISE (R523): the endpoint trains; its link comes up with PCIE_LINK_UP. -/
def execPerstNRise (s : State) : Res := .next (s.setPower { s.power with perst := false })

/-- PCIE_LINK_UP (19 R533): the link has trained, from BOOT entry on and not while PERST_N is low. -/
def execPcieLinkUp (rate width : Nat) (flit : Bool) (s : State) : Res :=
  .next (if s.answers = false ∨ s.power.perst = true then s
    else
      let old := s.fields Obj.PCIE_LINK_STATUS 0
      let s := s.setFields Obj.PCIE_LINK_STATUS 0 [rate % 256, width % 256, ofBool flit, old.getD 3 0, old.getD 4 0, old.getD 5 0]
      if old.getD 1 0 = 0 then s else s.bumpF Obj.PCIE_LINK_STATUS 0 3 1)

/-- VF_ENABLE_WRITE (19 R536): the VFs above the count are removed; queues and contexts stay. -/
def execVfEnableWrite (count : Nat) (s : State) : Res :=
  .next (if 15 < count ∨ s.answers = false ∨ s.power.perst = true then s
    else
      let gone := (List.range 16).filter (fun f => decide (count < f))
      let s := gone.foldl State.resetMailbox s
      let lost := fun (k : Nat) => gone.contains (k / 128)
      let s := { s with pins := { s.pins with d3hot := s.pins.d3hot.filter (fun f => decide (f ≤ count)) }
                        sec := { s.sec with seals := s.sec.seals.filter (fun e => !(lost e.1)) } }
      s.setRegF Obj.PCIE_LINK_STATUS 0 4 count)

/-- POWER_STATE_WRITE (19 R536): a function enters or leaves D3hot. -/
def execPowerStateWrite (function : Nat) (d3hot : Bool) (s : State) : Res :=
  .next (if s.functionExists function = false ∨ s.answers = false ∨ s.power.perst = true then s
    else (s.setPins { s.pins with d3hot := if d3hot then nsInsert s.pins.d3hot function else nsErase s.pins.d3hot function }))

end Sys2Proof.Machine
end

