-- ==== Sys2Proof/Machine/Hbm.lean ====
section
/-! DEFINITION. Sys2Proof/Machine/Hbm.lean: regions, the written map, page retirement, merge write-back, patrol scrub and
the ECC flip-mask (13_hbm_and_ecc R355-R373). -/

namespace Sys2Proof.Machine

/-- The least size of the device service region (13 R356). -/
def State.serviceMin (s : State) : Nat := 32 * s.reg Obj.FABRIC_RCACHE_ENTRIES + 67108864

/-- Another context's region meets these units. -/
def State.regionMeets (s : State) (c base size : Nat) : Bool :=
  (List.range 16).any (fun x => x != c &&
    (let b := s.regF Obj.HBM_REGION x 0
     let n := s.regF Obj.HBM_REGION x 1
     n != 0 && size != 0 && decide (base < b + n) && decide (b < base + size)))

/-- The first code that refuses a region (13 R356, 16 R459). -/
def State.regionRefusal (s : State) (c base size : Nat) : Nat :=
  if 22884 < base + size ∨ (c = 0 ∧ unitBytes * size < s.serviceMin) then Abort.REGION_RANGE
  else if s.regionMeets c base size then Abort.REGION_OVERLAP
  else if s.planState c ≠ planEmpty ∨ (tvals s.items).any (fun it => it.ctx == c) = true ∨ s.reg Obj.CONTEXT_KEY_STATE c = 3 then
    Abort.REGION_STATE
  else 0

/-- What the units of HBM that a predicate picks hold becomes arbitrary; their written-map bits stay (13 R365, R367). -/
def State.scramble (s : State) (p : Nat → Bool) : State :=
  let keep := fun (a : Nat) => !(p (a / unitBytes))
  (s.setHbm { s.hbm with mem := ⟨s.hbm.mem.cells.filter (fun c => keep c.1)⟩
                         poison := s.hbm.poison.filter (fun k => keep (k * 32))
                         flips := s.hbm.flips.filter (fun e => keep (e.1 * 32))
                         elsewhere := s.hbm.elsewhere.filter (fun k => keep (k * 32))
                         known := s.hbm.known.filter (fun k => keep (k * 32))
                         merge := s.hbm.merge.filter (fun e => keep (e.sector * 32)) })

/-- Units that a region gains hold arbitrary contents, and their written-map bits are clear (R356, R367). -/
def State.forgetUnits (s : State) (gained : Nat → Bool) : State :=
  let s := s.scramble gained
  (s.setHbm { s.hbm with written := s.hbm.written.filter (fun u => !(gained u)) })

/-- The units a region gains hold arbitrary contents; those it keeps keep their bytes and written-map bits (13 R356). -/
def State.moveRegion (s : State) (c base size : Nat) : State :=
  let b := s.regF Obj.HBM_REGION c 0
  let n := s.regF Obj.HBM_REGION c 1
  let s := s.forgetUnits (fun u => decide (base ≤ u) && decide (u < base + size) && !(decide (b ≤ u) && decide (u < b + n)))
  s.setFields Obj.HBM_REGION c [base, size]

/-- The write of HBM_REGION (13 R356); sub 00 is the BMC's, the others the HOST's (R374). (DEDUCED, notes/assumptions/108.) -/
def State.writeRegion (s : State) (who : Who) (c base size : Nat) : Nat × State :=
  let mayWrite := match who with
    | .bmc _ => c == 0
    | .host _ => c != 0
    | _ => false
  if mayWrite = false then (Abort.WRITE_NOT_PERMITTED, s)
  else
    let code := s.regionRefusal c base size
    if code = 0 then (0, s.moveRegion c base size) else (code, s)

/-- HBM_REGION_WRITE (13 R356). -/
def execHbmRegionWrite (who : Who) (ctx base size : Nat) (s : State) : Res :=
  .next (s.row who Obj.HBM_REGION ctx true (fun s => s.writeRegion who ctx (base % 65536) (size % 65536)))

/-- A unit is declared written (13 R367); a TENANT only within its own region. -/
def State.declareWritten (s : State) (who : Who) (unit : Nat) : Nat × State :=
  let allowed := match who with
    | .tenant n => (List.range 16).any (fun c => s.tenantOf n c &&
        decide (s.regF Obj.HBM_REGION c 0 ≤ unit) && decide (unit < s.regF Obj.HBM_REGION c 0 + s.regF Obj.HBM_REGION c 1))
    | _ => true
  if hbmUnits ≤ unit ∨ allowed = false then (Abort.VALUE_RANGE, s)
  else (0, (s.setHbm { s.hbm with written := nsInsert s.hbm.written unit }))

/-- HBM_UNIT_WRITTEN_WRITE (13 R367). -/
def execHbmUnitWrittenWrite (who : Who) (unit : Nat) (s : State) : Res :=
  .next (s.row who Obj.HBM_UNIT_WRITTEN 0 false (fun s => s.declareWritten who unit))

/-- An entry of the retired list: all ones is free (13 R369). -/
def retireFree : Nat := 2 ^ 64 - 1

/-- A write of one entry of HBM_RETIRED_PAGES (13 R369): in effect at once and durable in flash. -/
def State.retirePage (s : State) (entry page : Nat) (flashOk : Bool) : Nat × State :=
  let l := s.fields Obj.HBM_RETIRED_PAGES 0
  if 1024 ≤ entry then (Abort.LENGTH_MISMATCH, s)
  else if page ≠ retireFree ∧ (l.contains page = true ∨ page % 4096 ≠ 0) then (Abort.RETIRE_FORMAT, s)
  else if flashOk = false then (Abort.FLASH_FAILED, s.flashFailed Obj.HBM_RETIRED_PAGES)
  else
    let t := s.setRegF Obj.HBM_RETIRED_PAGES 0 entry page
    (0, t.flashPut Obj.HBM_RETIRED_PAGES 0 (t.fields Obj.HBM_RETIRED_PAGES 0))

/-- HBM_RETIRED_PAGES_WRITE (13 R369). -/
def execHbmRetiredPagesWrite (who : Who) (entry page : Nat) (flashOk : Bool) (s : State) : Res :=
  .next (s.row who Obj.HBM_RETIRED_PAGES 0 false (fun s => s.retirePage entry page flashOk))

/-- MERGE_IDLE_WRITEBACK (13 R362). -/
def execMergeIdleWriteback (sector : Nat) (s : State) : Res :=
  .next (match s.mergeEntry sector with
    | some e => (s.mergeBack e).2
    | none => s)

/-! ### Patrol scrub (13 R368) -/

/-- The physical address of sector `k` of a pseudo-channel: its granule in block k / 4 of 512 granules (13 R354). -/
def pcSector (pc k : Nat) : Nat :=
  let q := k / 4
  let l := Nat.xor pc (Nat.xor (field q 0 9) (Nat.xor (field q 9 9) (field q 18 5)))
  128 * (512 * q + l) + 32 * (k % 4)

/-- The first sector of the pseudo-channel, from `k` on, that lies in a unit of the written map and in no retired page. -/
def State.nextScrub (s : State) (pc : Nat) : Nat → Nat → Option Nat
  | 0, _ => none
  | fuel + 1, k =>
    match s.hbm.written.find? (fun u => decide (k < 1024 * (u + 1))) with
    | none => none
    | some u =>
      let k := max k (1024 * u)
      if s.pageRetired (pcSector pc k) then s.nextScrub pc fuel (k + 1) else some k

/-- A stack is out of service while it is recalibrated (20_maintenance_and_telemetry R555, R559). -/
def State.recalibrating (s : State) (stack : Nat) : Bool := s.maint.running.any (fun r => r.activity == 1 && r.resource == stack)

/-- The pseudo-channel has no sector left in this pass; when all 512 are done the pass is counted. -/
def State.scrubWrap (s : State) (pc : Nat) : State :=
  let d := nsInsert s.hbm.scrubDone pc
  let s := (s.setHbm { s.hbm with scrub := tset s.hbm.scrub pc 0 })
  if d.length = 512 then (s.setHbm { s.hbm with scrubDone := [] }).bump Obj.HBM_SCRUB_PASSES 0
  else (s.setHbm { s.hbm with scrubDone := d })

/-- A natural error strikes stored data: a sector, or a sector that nothing has written turns out to hold these bytes (13 R365). -/
def State.strike (s : State) : HbmFlaw → State
  | .symbols sector d k =>
    let (d0, k0) := tget (0, 0) s.hbm.flips sector
    (s.setHbm { s.hbm with flips := tset s.hbm.flips sector (Nat.xor d0 d % 2 ^ 256, Nat.xor k0 k % 2 ^ 32) })
  | .elsewhere sector => (s.setHbm { s.hbm with elsewhere := nsInsert s.hbm.elsewhere sector })
  | .contents sector bytes =>
    if s.hbm.known.contains sector ∨ hbmBytes ≤ 32 * sector then s
    else (s.setHbm { s.hbm with mem := s.hbm.mem.putN (32 * sector) ((bytes ++ List.replicate 32 0).take 32) })

/-- A natural error strikes a word of an SRAM: of facet memory one or two bits of the word (05 R139), of another class a flaw that its next
read meets (13 R360). -/
def State.strikeSram (s : State) (x : SramFlaw) : State :=
  if x.cls = 0 then
    if x.inst < 192 ∧ x.word < facetBytes / 8 then
      let w := facetBytes / 8 * x.inst + x.word
      let (d0, k0) := tget (0, 0) s.fm.flips w
      s.setFm { s.fm with flips := tset s.fm.flips w (Nat.xor d0 (if x.double then 3 else 1), k0) }
    else s
  else s.setFm { s.fm with flaws := s.fm.flaws ++ [x] }

/-- The errors that have struck since the last patrol read, and what the stacks report of their on-die ECC (13 R358). -/
def State.suffer (s : State) (x : Flaws) : State :=
  let s := x.hbm.foldl State.strike s
  let s := x.sram.foldl State.strikeSram s
  (x.onDie.filter (· < 8)).foldl (fun s k => s.bump Obj.HBM_ONDIE_CORRECTED_COUNT k) s

/-- One scrub access: a correctable sector is written back corrected, an uncorrectable one is poisoned (13 R368). -/
def State.scrubSector (s : State) (sector : Nat) : State :=
  match s.readSector sector 16 with
  | ((_, true), s) => s
  | ((_, false), s) => (s.setHbm { s.hbm with flips := terase s.hbm.flips sector })

/-- The base-rate scrub of one pseudo-channel, before which errors have struck the memories. It pauses on a stack under
recalibration. -/
def State.patrol (s : State) (pc : Nat) (flaws : Flaws) : State :=
  let s := s.suffer flaws
  if 512 ≤ pc ∨ s.recalibrating (pcStack pc) = true then s
  else
    match s.nextScrub pc 8192 (tget 0 s.hbm.scrub pc) with
    | none => s.scrubWrap pc
    | some k =>
      let sector := pcSector pc k / 32
      let s := s.scrubSector sector
      (s.setHbm { s.hbm with scrub := tset s.hbm.scrub pc (k + 1) })

/-- PATROL_SCRUB_READ (13 R368). -/
def execPatrolScrubRead (pseudoChannel : Nat) (flaws : Flaws) (s : State) : Res :=
  .next (s.patrol pseudoChannel flaws)

/-! ### The ECC flip-mask (13 R371, R372) -/

/-- ARM is refused INJECT_NOT_ALLOWED (13 R372). -/
def State.injectDenied (s : State) : Bool :=
  if s.reg Obj.ECC_FLIP_TARGET 1 = 0 then
    let a := s.reg Obj.ECC_FLIP_ADDRESS 3
    (List.range 16).any (fun c => c != 0 && s.reg Obj.ECC_INJECT_ALLOW c == 0 &&
      decide (unitBytes * s.regF Obj.HBM_REGION c 0 ≤ a) && decide (a < unitBytes * s.regF Obj.HBM_REGION c 0 + s.regionSize c))
  else (List.range 16).all (fun c => s.reg Obj.ECC_INJECT_ALLOW c == 0)

/-- ARM is refused INJECT_FORMAT (13 R372). -/
def State.injectMalformed (s : State) : Bool :=
  let a := s.reg Obj.ECC_FLIP_ADDRESS 3
  if s.reg Obj.ECC_FLIP_TARGET 1 = 0 then a % 32 != 0 || decide (hbmBytes < a + 32)
  else a % 8 != 0 || decide (facetBytes < a + 8) || decide (191 < s.reg Obj.ECC_FLIP_FACET 2)
    || s.flipData / 2 ^ 64 != 0 || s.reg Obj.ECC_FLIP_CHECK_MASK 5 / 256 != 0

/-- CONTROL ARM (13 R371). -/
def State.flipArm (s : State) : Nat × State :=
  if s.injectDenied then (Abort.INJECT_NOT_ALLOWED, s)
  else if s.injectMalformed then (Abort.INJECT_FORMAT, s)
  else (0, (s.setHbm { s.hbm with armed := true }).setReg Obj.ECC_FLIP_STATUS 7 1)

/-- CONTROL DISARM (13 R372). -/
def State.flipDisarm (s : State) : Nat × State :=
  (0, (s.setHbm { s.hbm with armed := false }).setReg Obj.ECC_FLIP_STATUS 7 0)

/-- FLIP_MASK_ARM (13 R371). -/
def execFlipMaskArm (who : Who) (s : State) : Res := .next (s.row who Obj.ECC_FLIP_CONTROL 6 false State.flipArm)

/-- FLIP_MASK_DISARM (13 R372). -/
def execFlipMaskDisarm (who : Who) (s : State) : Res := .next (s.row who Obj.ECC_FLIP_CONTROL 6 false State.flipDisarm)

/-- FM_CORRECTED_WRITEBACK (05_vector_engine_and_sequencer R139): in the bank's next free cycle a corrected word is written
back, so its stored error is gone. -/
def execFmCorrectedWriteback (word : Nat) (s : State) : Res :=
  .next (if s.fm.corrected.contains word then
      (s.setFm { s.fm with flips := terase s.fm.flips word, corrected := nsErase s.fm.corrected word })
    else s)

end Sys2Proof.Machine
end

