-- ==== Sys2Proof/Machine/Security.lean ====
section
/-! DEFINITION. Sys2Proof/Machine/Security.lean: tenant contexts and their keys, sealed transfers, fuses, debug and zeroisation
(16_security R441-R469, 19_pins_and_interfaces R537, R538). -/

namespace Sys2Proof.Machine

/-! ### Contexts and keys (R454-R459) -/

/-- Key states of a context (R454). -/
def ksFree : Nat := 0
def ksOwned : Nat := 1
def ksKeyed : Nat := 2
def ksRotating : Nat := 3

/-- The key state of a context. -/
def State.keyState (s : State) (c : Nat) : Nat := s.reg Obj.CONTEXT_KEY_STATE c

/-- 48 bytes of a hash as fields of an OCTETS object. -/
def hashFields (h : Nat) : List Nat := (List.range 48).map (fun i => field h (8 * i) 8)

/-- A claim with its value right (R455). -/
def State.claim (s : State) (c key : Nat) : Nat × State :=
  if s.keyState c = ksFree then
    let back := fun (e : Nat × Session) =>
      if e.2.key == some key then (e.1, { e.2 with released := nsErase e.2.released c }) else e
    let s := (s.setSec { s.sec with sessions := s.sec.sessions.map back })
    (0, (s.setFields Obj.CONTEXT_OWNER c (hashFields key)).setReg Obj.CONTEXT_KEY_STATE c ksOwned)
  else if s.ownerKey c = key then (0, s)
  else (Abort.CONTEXT_OWNED, s)

/-- The requester key that a session proved, once it is established (R453). -/
def State.requesterKey (s : State) (n : Nat) : Option Nat :=
  match tfind s.sec.sessions n with
  | some x => if x.established then x.key else none
  | none => none

/-- CONTEXT_CLAIM (R455): the one TENANT request that may name a context without owning it. -/
def execContextClaim (session ctx : Nat) (s : State) : Res :=
  let who := Who.tenant session
  let o := Obj.CONTEXT_CLAIM
  .next (if s.answers = false then s
    else if ctx < o.lo ∨ o.hi < ctx then s.answer who o ctx Abort.SUB_ABSENT
    else match s.requesterKey session with
      | none => s.answer who o ctx Abort.ACCESS_DENIED
      | some k =>
        if s.served who o true = false then s.answer who o ctx Abort.DEVICE_STATE
        else
          let r := s.claim ctx k
          r.2.answer who o ctx r.1)

/-- The two halves of an XTS key pair are equal (R456). -/
def halvesEqual (key : Nat) : Bool := key % 2 ^ 256 == key / 2 ^ 256 % 2 ^ 256

/-- What a context's region holds becomes arbitrary (R456). -/
def State.scrambleRegion (s : State) (c : Nat) : State :=
  let b := s.regF Obj.HBM_REGION c 0
  s.scramble (fun u => decide (b ≤ u) && decide (u < b + s.regF Obj.HBM_REGION c 1))

/-- A write of CONTEXT_KEY (R456). -/
def State.deliverKey (s : State) (c key : Nat) : Nat × State :=
  if s.keyState c ≠ ksOwned then (Abort.KEY_STATE, s)
  else if halvesEqual key then (Abort.KEY_FORMAT, s)
  else (0, (((s.setKeys c { s.contextKeys c with xts := some (key % 2 ^ 512) }).scrambleRegion c).setReg Obj.CONTEXT_KEY_STATE c ksKeyed))

/-- CONTEXT_KEY (R456). -/
def execContextKey (who : Who) (ctx key : Nat) (s : State) : Res :=
  .next (s.row who Obj.CONTEXT_KEY ctx true (fun s => s.deliverKey ctx key))

/-- A write of CONTEXT_TRANSFER_KEY (R456): the next KEY_ID, both counters from the start. (DEDUCED, notes/assumptions/99.) -/
def State.deliverTransferKey (s : State) (c key : Nat) : Nat × State :=
  if s.keyState c = ksFree then (Abort.KEY_STATE, s)
  else
    let k := s.contextKeys c
    (0, s.setKeys c { k with transfer := some (key % 2 ^ 256), keyId := (k.keyId + 1) % 256, received := none, sent := 0 })

/-- CONTEXT_TRANSFER_KEY (R456). -/
def execContextTransferKey (who : Who) (ctx key : Nat) (s : State) : Res :=
  .next (s.row who Obj.CONTEXT_TRANSFER_KEY ctx true (fun s => s.deliverTransferKey ctx key))

/-- A rotation has passed the last unit (R459): the old key is erased and the context is KEYED. -/
def State.endRotation (s : State) (c : Nat) : State :=
  let k := s.contextKeys c
  ((s.setKeys c { k with xts := k.next, next := none }).setReg Obj.KEY_ROTATE_CURSOR c 0).setReg Obj.CONTEXT_KEY_STATE c ksKeyed

/-- A write of CONTEXT_KEY_NEXT (R459); a region without units has nothing to re-encrypt. -/
def State.startRotation (s : State) (c key : Nat) : Nat × State :=
  if s.keyState c ≠ ksKeyed then (Abort.KEY_STATE, s)
  else if halvesEqual key then (Abort.KEY_FORMAT, s)
  else
    let s := s.setKeys c { s.contextKeys c with next := some (key % 2 ^ 512) }
    let s := (s.setReg Obj.CONTEXT_KEY_STATE c ksRotating).setReg Obj.KEY_ROTATE_CURSOR c 0
    (0, if s.regF Obj.HBM_REGION c 1 = 0 then s.endRotation c else s)

/-- CONTEXT_KEY_NEXT (R459). -/
def execContextKeyNext (who : Who) (ctx key : Nat) (s : State) : Res :=
  .next (s.row who Obj.CONTEXT_KEY_NEXT ctx true (fun s => s.startRotation ctx key))

/-- A write of CONTEXT_RELEASE (R457): a context reset that ends in FREE. -/
def State.releaseContext (s : State) (c : Nat) : Nat × State :=
  (0, if s.keyState c = ksFree then s else s.contextReset c causeKeys true)

/-- CONTEXT_RELEASE (R457). -/
def execContextRelease (who : Who) (ctx : Nat) (s : State) : Res :=
  .next (s.row who Obj.CONTEXT_RELEASE ctx true (fun s => s.releaseContext ctx))

/-! ### Fuses and debug (R441, R466, R469) -/

/-- The security version fused for a kind of image. -/
def State.fusedSvn (s : State) (kind : Nat) : Nat := s.regF Obj.SEC_FUSES 0 (1 + kind)

/-- The image in use of a kind. -/
def State.running (s : State) (kind : Nat) : Running := tget {} s.sec.images (kind - 1)

/-- SEC_FUSE_COMMIT SVN: one more bit of a kind's counter, not above the running image's version (R469).
(PRESUMED, notes/assumptions/97.) -/
def State.fuseSvn (s : State) (kind : Nat) : Nat × State :=
  if kind = 0 ∨ 4 < kind ∨ 64 ≤ s.fusedSvn kind then (Abort.VALUE_RANGE, s)
  else if (s.running kind).svn < s.fusedSvn kind + 1 then (Abort.FUSE_REFUSED, s)
  else (0, s.setRegF Obj.SEC_FUSES 0 (1 + kind) (s.fusedSvn kind + 1))

/-- SEC_FUSE_SVN (R469). -/
def execSecFuseSvn (who : Who) (arg : Nat) (s : State) : Res :=
  .next (s.row who Obj.SEC_FUSE_COMMIT 0 false (fun s => s.fuseSvn arg))

/-- SEC_FUSE_COMMIT REVOKE: not the key of a running image (R469). -/
def State.fuseRevoke (s : State) (key : Nat) : Nat × State :=
  if 3 < key then (Abort.VALUE_RANGE, s)
  else if s.sec.images.any (fun e => e.2.keyIndex == key) then (Abort.FUSE_REFUSED, s)
  else (0, s.setRegF Obj.SEC_FUSES 0 1 (s.regF Obj.SEC_FUSES 0 1 ||| (1 <<< key)))

/-- SEC_FUSE_REVOKE (R469). -/
def execSecFuseRevoke (who : Who) (arg : Nat) (s : State) : Res :=
  .next (s.row who Obj.SEC_FUSE_COMMIT 0 false (fun s => s.fuseRevoke arg))

/-- SEC_FUSE_COMMIT SIG_POLICY: not while a running image lacks an ML-DSA block (R469). -/
def State.fuseSigPolicy (s : State) : Nat × State :=
  if s.sec.images.any (fun e => !e.2.mldsa) then (Abort.FUSE_REFUSED, s)
  else (0, s.setRegF Obj.SEC_FUSES 0 0 1)

/-- SEC_FUSE_SIG_POLICY (R469). -/
def execSecFuseSigPolicy (who : Who) (s : State) : Res :=
  .next (s.row who Obj.SEC_FUSE_COMMIT 0 false State.fuseSigPolicy)

/-- The part is an -E, a -C (16 R448). -/
def State.engineering (s : State) : Bool := s.reg Obj.PART_VARIANT 2 == 2
def State.customer (s : State) : Bool := s.reg Obj.PART_VARIANT 2 == 1

/-- The session's requester chains to SERVICE_ANCHOR_HASH (R466). -/
def State.serviceSession (s : State) (who : Who) : Bool :=
  match who with
  | .attested n => (match tfind s.sec.sessions n with | some x => x.service && x.established | none => false)
  | _ => false

/-- A write of DEBUG_UNLOCK (R466): it takes effect at the next device reset. -/
def State.debugUnlock (s : State) (who : Who) (value : Nat) : Nat × State :=
  if value = 1 ∧ s.engineering = true ∧ s.serviceSession who = true then (0, s.store Obj.DEBUG_UNLOCK 0 [1])
  else (Abort.DEBUG_NOT_PERMITTED, s)

/-- DEBUG_UNLOCK (R466). -/
def execDebugUnlock (who : Who) (value : Nat) (s : State) : Res :=
  .next (s.row who Obj.DEBUG_UNLOCK 0 false (fun s => s.debugUnlock who value))

/-! ### Zeroisation (R467) -/

/-- A tenant context loses its keys and its work at once. -/
def State.zeroiseContext (s : State) (c : Nat) : State :=
  if s.keyState c = ksFree then s
  else
    let s := match tfind s.rcv.active c with
      | some w => (s.setRcv { s.rcv with active := tset s.rcv.active c { w with toFree := true } })
      | none => s.beginReset c causeKeys true
    s.toFree c

/-- The device zeroises: every key is gone, tenant contexts are FREE, spokes without keys are DOWN, record 0x090, FAULT.
(DEDUCED, notes/assumptions/102.) -/
def State.zeroise (s : State) : State :=
  if s.devState < dsBoot ∨ s.rcv.resetting.isSome = true then s
  else
    let s := s.bump Obj.ZEROISE_COUNT 0
    let s := (range2 1 16).foldl State.zeroiseContext s
    let s := (s.setSec { s.sec with keys := s.sec.keys.map (fun (e : Nat × ContextKeys) => (e.1, { keyId := e.2.keyId })), serviceKey := none })
    let s := (List.range 18).foldl (fun s p =>
      if s.spokeUp p then s.spokeDown p else s.setSpoke p { s.spoke p with txKey := none, rxKey := none, rxNext := none, rxOld := none }) s
    (s.log! { code := 0x090, sub := 15, info0 := Config.causeCode causeKeys }).enter dsFault 6

/-- ZEROISE_TRIGGER (R467). -/
def execZeroiseTrigger (s : State) : Res := .next s.zeroise

/-- JTAG_INSTRUCTION_LOAD (R466, R467, 19 R544): `drives` says that the instruction is EXTEST, CLAMP, HIGHZ or INTEST; any other
has no effect on the device. -/
def execJtagInstructionLoad (drives : Bool) (s : State) : Res :=
  .next (
    let s := (s.setSec { s.sec with jtagDrives := drives })
    if drives then s.zeroise else s)

/-! ### Sealed transfers (R463, 19 R537) -/

/-- Fields of a sealed chunk's header (R463). -/
def shContext (h : Nat) : Nat := field h 252 4
def shDirection (h : Nat) : Nat := field h 251 1
def shKeyId (h : Nat) : Nat := field h 240 8
def shCounter (h : Nat) : Nat := field h 176 64
def shOffset (h : Nat) : Nat := field h 136 40
def shLength (h : Nat) : Nat := field h 123 13

/-- Reasons of a rejected slot (19 R537). -/
def whyTag : Nat := 1
def whyKeyId : Nat := 2
def whyCounter : Nat := 3
def whyNoKey : Nat := 4
def whyNotSecure : Nat := 5
def whyRange : Nat := 6
def whyFormat : Nat := 7

/-- The form of a chunk header is right: direction, zero bits, length and alignment (R463). -/
def sealForm (h direction : Nat) : Bool :=
  shContext h != 0 && shDirection h == direction && field h 248 3 == 0 && field h 0 123 == 0
    && shOffset h % 32 == 0 && shLength h % 32 == 0 && decide (32 ≤ shLength h) && decide (shLength h ≤ 4096)

/-- The 96-bit nonce of a chunk (R463). -/
def sealNonce (h : Nat) : Nat := 2 ^ 64 * shDirection h + shCounter h

/-- Bytes under the key stream of a chunk. -/
def sealCrypt (key h : Nat) (b : Bytes) : Bytes :=
  ((List.range b.length).zip b).map (fun (e : Nat × Byte) => e.2 ^^^ Config.gcmStream key (sealNonce h) e.1)

/-- The tag of a chunk over its header and ciphertext. -/
def sealTag (key h : Nat) (cipher : Bytes) : Nat := Config.gcmTag key (sealNonce h) (leBytes 32 h) cipher % 2 ^ 128

/-- An IDE stream that carries the function's traffic is in secure state (R462, R463). (DESIGN CHOICE, notes/assumptions/36.) -/
def State.ideSecure (s : State) (f : Nat) : Bool := s.sec.ideLink || s.sec.ideSelective.contains f

/-- The window takes a submit of this function: served, in D0, and the link is there (19 R533, R536). -/
def State.windowServes (s : State) (f : Nat) : Bool :=
  s.serving && s.functionExists f && !(s.pins.d3hot.contains f) && !s.power.perst

/-- A slot leaves SUBMITTED (19 R537). -/
def State.sealEnd (s : State) (f slot irq : Nat) (x : SealSlot) : State :=
  let s := (s.setSec { s.sec with seals := tset s.sec.seals (128 * f + slot) x })
  s.interrupt f (irq % 2048)

/-- A slot is REJECTED and counted; NO_KEY and NOT_SECURE are advisory errors too (19 R537). -/
def State.sealReject (s : State) (f slot irq reason : Nat) (x : SealSlot) : State :=
  let s := s.bump Obj.SEAL_REJECT_COUNT (shContext x.header)
  let s := if reason = whyNoKey ∨ reason = whyNotSecure then s.emit (.advisory f) else s
  s.sealEnd f slot irq { x with state := 3, reason := reason }

/-- The context is KEYED or ROTATING and the chunk lies in its region (19 R537). -/
def State.sealRange (s : State) (h : Nat) : Bool :=
  decide (2 ≤ s.keyState (shContext h)) && s.inRegion (shContext h) (shOffset h) (shLength h)

/-- An inbound chunk is opened (R463); the checks in the order of DESIGN CHOICE, notes/assumptions/37. -/
def State.sealOpen (s : State) (f slot irq : Nat) (x : SealSlot) : State :=
  let h := x.header
  let c := shContext h
  if sealForm h 0 = false ∨ x.payload.length ≠ shLength h then s.sealReject f slot irq whyFormat x
  else match (s.contextKeys c).transfer with
    | none => s.sealReject f slot irq whyNoKey x
    | some key =>
      if s.ideSecure f = false then s.sealReject f slot irq whyNotSecure x
      else if shKeyId h ≠ (s.contextKeys c).keyId then s.sealReject f slot irq whyKeyId x
      else if x.tag ≠ sealTag key h x.payload then s.sealReject f slot irq whyTag x
      else if (match (s.contextKeys c).received with | some n => decide (shCounter h ≤ n) | none => false) then s.sealReject f slot irq whyCounter x
      else if s.sealRange h = false then s.sealReject f slot irq whyRange x
      else
        let s := s.setKeys c { s.contextKeys c with received := some (shCounter h) }
        let s := (s.ctxWrite c (shOffset h) (sealCrypt key h x.payload)).2
        s.sealEnd f slot irq { x with state := 2, reason := 0 }

/-- An outbound chunk is sealed (R463, 19 R537). (DESIGN CHOICE, notes/assumptions/100.) -/
def State.sealClose (s : State) (f slot irq header : Nat) : State :=
  let x : SealSlot := { header := header }
  let c := shContext header
  if sealForm header 1 = false ∨ shKeyId header ≠ 0 ∨ shCounter header ≠ 0 then s.sealReject f slot irq whyFormat x
  else match (s.contextKeys c).transfer with
    | none => s.sealReject f slot irq whyNoKey x
    | some key =>
      if s.ideSecure f = false then s.sealReject f slot irq whyNotSecure x
      else if s.sealRange header = false then s.sealReject f slot irq whyRange x
      else
        let k := s.contextKeys c
        let h := header + place k.keyId 240 8 + place k.sent 176 64
        let r := s.ctxRead c (shOffset header) (shLength header) 13
        let cipher := sealCrypt key h r.1.bytes
        let s := r.2.setKeys c { k with sent := k.sent + 1 }
        s.sealEnd f slot irq { state := 2, header := h, payload := cipher, tag := sealTag key h cipher }

/-- SEAL_SUBMIT of an inbound slot (19 R537): the value written, SEAL_IRQ, and the chunk that lies in the slot. A submit that
the window does not take is discarded and counted (19 R533, 14 R379). (DESIGN CHOICE, notes/assumptions/101.) -/
def execSealSubmitInbound (function value irq header : Nat) (payload : Bytes) (tag : Nat) (s : State) : Res :=
  .next (if s.power.perst then s
    else if s.windowServes function = false then s.bump Obj.DOORBELL_DISCARD_COUNT 0
    else if 64 ≤ value then s
    else s.sealOpen function value irq { state := 1, header := header % 2 ^ 256, payload := payload, tag := tag % 2 ^ 128 })

/-- SEAL_SUBMIT of an outbound slot (19 R537): the value written, SEAL_IRQ, and the header that lies in the slot. -/
def execSealSubmitOutbound (function value irq header : Nat) (s : State) : Res :=
  .next (if s.power.perst then s
    else if s.windowServes function = false then s.bump Obj.DOORBELL_DISCARD_COUNT 0
    else if value < 64 ∨ 128 ≤ value then s
    else s.sealClose function value irq (header % 2 ^ 256))

end Sys2Proof.Machine
end

