-- ==== Sys2Proof/Machine/Boot.lean ====
section
/-! DEFINITION. Sys2Proof/Machine/Boot.lean: boot from its entry to READY: self-test, the checks of images, measurement, and the
copies in flash (16_security R443-R448, 13_hbm_and_ecc R370, 15 R406, 17_object_dictionary R476, R492). -/

namespace Sys2Proof.Machine

/-! ### The check of an image (R443, R444) -/

/-- Fields of an image manifest header (R443). -/
def mfKind (h : Nat) : Nat := field h 984 8
def mfSvn (h : Nat) : Nat := field h 960 16
def mfKeyIndex (h : Nat) : Nat := field h 920 8
def mfSigFlags (h : Nat) : Nat := field h 912 8
def mfDigest (h : Nat) : Nat := field h 512 384

/-- The magic, kind, format and zero fields of a manifest are right (R443, R444). -/
def manifestForm (h kind : Nat) : Bool :=
  field h 992 32 == 0x4B534C4D && mfKind h == kind && field h 976 8 == 1 && field h 896 16 == 0 && field h 0 128 == 0
    && mfSigFlags h / 4 == 0

/-- The check of R444 that an image fails: 0 when it is genuine, else 1 to 6 in the order of the rule. -/
def State.imageFails (s : State) (i : ImageFacts) (kind : Nat) : Nat :=
  let h := i.header
  let flags := mfSigFlags h
  if manifestForm h kind = false then 1
  else if 3 < mfKeyIndex h ∨ i.vendorHashOk = false ∨ bit (s.regF Obj.SEC_FUSES 0 1) (mfKeyIndex h) = true ∨ i.vendorSigOk = false then 2
  else if (bit flags 0 || s.regF Obj.SEC_FUSES 0 0 == 1) && !(bit flags 0 && i.mldsaOk) then 3
  else if s.customer && !(bit flags 1 && i.customerOk) then 4
  else if mfSvn h < s.fusedSvn kind then 5
  else if i.digestOk = false then 6
  else 0

/-- What the device keeps of an image that it runs. -/
def runningOf (i : ImageFacts) : Running :=
  { svn := mfSvn i.header, keyIndex := mfKeyIndex i.header, mldsa := bit (mfSigFlags i.header) 0 }

/-- An image is genuine and in use: its measurement slot is written (R447). -/
def State.measureImage (s : State) (i : ImageFacts) (kind : Nat) : State :=
  let s := { s with sec := { s.sec with images := tset s.sec.images (kind - 1) (runningOf i) }
                    flash := { s.flash with genuine := s.flash.genuine ||| (1 <<< (4 * s.sec.boot.copy + kind - 1)) } }
  s.setFields Obj.MEASUREMENT (kind - 1) (hashFields (mfDigest i.header))

/-- The boot header in use: of the two copies that are valid, the one with the higher SEQ (19_pins_and_interfaces R541). -/
def Flash.header (f : Flash) : BootHeader :=
  if f.header0.valid && f.header1.valid then (if f.header0.seq < f.header1.seq then f.header1 else f.header0)
  else if f.header1.valid then f.header1 else f.header0

/-! ### Entry (R445, 18_clocks_power_reset R502, 15 R406, R421) -/

/-- Flash objects that FLASH_RESTORE_DEFAULTS leaves (17 R496). -/
def keptFlash : List ObjDef := [Obj.HBM_RETIRED_PAGES, Obj.FACET_RETIRED, Obj.ERROR_FLASH_LOG]

/-- The flash object values are erased when that was asked for: every object takes its default (17 R496). -/
def State.restoreFlash (s : State) : State :=
  if s.flash.restore then
    let stays := fun (k : Nat) => keptFlash.any (fun o => o.index == k / 256)
    let flashed := fun (k : Nat) => Obj.table.any (fun o => o.index == k / 256 && o.flash)
    { s with flash := { s.flash with store := s.flash.store.filter (fun e => stays e.1), restore := false }
             objs := s.objs.filter (fun e => !(flashed e.1) || stays e.1)
             waitReset := s.waitReset.filter (fun e => !(flashed e.1) || stays e.1) }
  else s

/-- The values that await a device reset take effect, DEBUG_UNLOCK among them (17 R473, 16 R466). -/
def State.applyReset (s : State) : State :=
  let unlock := tfind s.waitReset (Obj.DEBUG_UNLOCK.key 0) == some [1]
  let s := { s with objs := putAll s.objs s.waitReset, waitReset := [], sec := { s.sec with unlocked := unlock } }
  s.clearReg Obj.DEBUG_UNLOCK 0

/-- The epoch is one more than the larger of its two copies (15 R406). -/
def State.raiseEpoch (s : State) : State :=
  let e := max s.rcv.epochAon s.rcv.epochFlash + 1
  ((s.setRcv { s.rcv with epochAon := e, epochFlash := e })).setReg Obj.DEVICE_EPOCH 0 e

/-- BOOT is entered (R445): every PLL is locked (18 R502), a capture that still runs has finished (15 R438), the clocks run, the context 0 key is drawn. -/
def State.startBoot (s : State) (cause : Nat) : State :=
  let s := if s.rcv.capturing then s.setReg Obj.CRASH_DUMP_STATE 0 1 else s
  let s := { s with rcv := { s.rcv with capturing := false, resetting := none }, cad := { s.cad with up := 0 } }
  let s := (s.restoreFlash.applyReset).raiseEpoch
  let s := [0, 1].foldl (fun (s : State) d => (s.setRegF Obj.AVS_STATUS d 2 0).setRegF Obj.AVS_STATUS d 3 0) s
  let key := s.fresh (2 ^ 512)
  let s := (s.setSec { s.sec with serviceKey := some key, boot := { step := 1, copy := s.flash.header.preferred } }).took
  ((s.setPlls 2).startClocks.goTo dsBoot cause).showClocks

/-- A reset pin holds boot back (18 R522, R523). -/
def State.heldInReset (s : State) : Bool :=
  s.power.down || s.power.sysReset || (s.power.perst && s.reg Obj.PERST_SCOPE == 1)

/-- BOOT_ENTRY (18 R502, R525, 16 R445): every PLL has locked, or a device reset has run its course.
(DEDUCED, notes/assumptions/96.) -/
def execBootEntry (qualifyMs : Nat) (s : State) : Res :=
  .next (if s.heldInReset then s
    else if s.devState = dsRefQualify ∧ s.power.counting = true ∧ s.reg Obj.PLL_STATUS 0 = 1 then
      (s.setRegF Obj.REF_STATUS 0 0 (qualifyMs % 2 ^ 32)).startBoot (if s.rcv.resetting.isSome then 1 else 0)
    else if dsBoot ≤ s.devState ∧ s.rcv.resetting.isSome = true then s.startBoot 1
    else s)

/-! ### Steps 1 to 5 (R445) -/

/-- SELFTEST_DONE (13 R370): failed facets are retired; a shared SRAM, an ECC loopback or a stack that fails ends in FAULT. -/
def execSelftestDone (result : SelfTest) (s : State) : Res :=
  .next (if s.devState ≠ dsBoot ∨ s.sec.boot.step ≠ 1 then s
    else
      let r := result
      let facets := bitsOf 192 r.facets
      let s := s.setFields Obj.SELFTEST_RESULT 0 [ofBool (facets.isEmpty && r.shared == 0), r.facets % 2 ^ 192, r.shared % 2 ^ 32,
        r.loopbacks % 2 ^ 16, r.stackFails % 256, r.durationUs % 2 ^ 32]
      let s := (List.range 192).foldl (fun (s : State) f => s.bump Obj.FM_ZERO_COUNT f) s
      let s := facets.foldl (fun (s : State) f =>
        if s.isRetired f then s
        else
          let s := s.setRetired f
          s.log! { code := 0x071, sub := 3, inst := f, info0 := f, info1 := s.retiredCount }) s
      if r.shared % 2 ^ 32 ≠ 0 ∨ r.loopbacks % 2 ^ 16 ≠ 0 ∨ r.stackFails % 256 ≠ 0 then s.enter dsFault 8
      else (s.setSec { s.sec with boot := { s.sec.boot with step := 3 } }))

/-- A copy fails (R445): its measurements are discarded and the other copy is tried, or both have failed and the device is in
FAULT. (DESIGN CHOICE, notes/assumptions/106.) -/
def State.bootFail (s : State) (kind check : Nat) : State :=
  let b := s.sec.boot
  let s := (List.range 16).foldl (fun (s : State) n => s.clearReg Obj.MEASUREMENT n) s
  let st := s.fields Obj.BOOT_STATUS 0
  let s := s.setFields Obj.BOOT_STATUS 0 [st.getD 0 0, b.copy, kind, Config.checkCode check % 256, st.getD 4 0]
  let g := s.flash.genuine
  let s := { s with sec := { s.sec with images := [] }
                    flash := { s.flash with genuine := if kind = 0 then g else g - (g &&& (1 <<< (4 * b.copy + kind - 1))) } }
  if b.fallback then
    let s := (s.setSec { s.sec with boot := { b with step := 0 } })
    (s.log! { code := 0x090, sub := 15, info0 := Config.causeCode causeControl }).enter dsFault 5
  else (s.setSec { s.sec with boot := { step := 3, copy := 1 - b.copy, fallback := true } })

/-- Boot waits for a step. -/
def State.bootAt (s : State) (step : Nat) : Bool := s.devState == dsBoot && s.sec.boot.step == step

/-- Boot goes on to a step. -/
def State.bootStep (s : State) (step : Nat) : State := (s.setSec { s.sec with boot := { s.sec.boot with step := step } })

/-- LOADER_CHECKED (R444, R445 step 3): slots 0 and 6. -/
def execLoaderChecked (image : ImageFacts) (s : State) : Res :=
  .next (if s.bootAt 3 then
      (match s.imageFails image 1 with
       | 0 => ((s.measureImage image 1).setFields Obj.MEASUREMENT 6 (hashFields Config.romDigest)).bootStep 4
       | k => s.bootFail 1 k)
    else s)

/-- IMAGES_CHECKED (R444, R445 step 4): slots 1 to 3. -/
def execImagesChecked (firmware microcode router : ImageFacts) (s : State) : Res :=
  .next (if s.bootAt 4 then
      (match s.imageFails firmware 2, s.imageFails microcode 3, s.imageFails router 4 with
       | 0, 0, 0 => (((s.measureImage firmware 2).measureImage microcode 3).measureImage router 4).bootStep 5
       | 0, 0, k => s.bootFail 4 k
       | 0, k, _ => s.bootFail 3 k
       | k, _, _ => s.bootFail 2 k)
    else s)

/-- The measured FLASH objects as loaded (17 R476). -/
def State.flashImage (s : State) : Bytes :=
  (Obj.table.filter (fun o => o.measured)).flatMap (fun o =>
    (range2 o.lo (o.hi + 1)).flatMap (fun sub =>
      leBytes 2 o.index ++ leBytes 1 sub ++ leBytes 1 o.ty.code ++ leBytes 4 o.size ++ o.bytes (s.fields o sub)))

/-- The security state record (R448). -/
def State.securityRecord (s : State) : Nat :=
  let svn := fun k => (s.running k).svn
  place (s.reg Obj.PART_VARIANT 2) 376 8 + place (s.reg Obj.STEPPING 3) 368 8 + place (ofBool s.sec.unlocked) 360 8
    + place (s.regF Obj.SEC_FUSES 0 0) 352 8 + place (s.reg Obj.SPOKE_PEER_POLICY) 344 8 + place (ofBool s.engineering) 336 8
    + place (svn 1) 320 16 + place (svn 2) 304 16 + place (svn 3) 288 16 + place (svn 4) 272 16 + place s.sec.boot.copy 264 8
    + place (s.regF Obj.SEC_FUSES 0 1) 256 8 + place (Config.customerKeyHash / 2 ^ 128) 0 256

/-- MEASURED_ENTRY (R445 step 5): slots 5 and 4, the pins of AUXIO_CONFIG, MEASURED. (DEDUCED, notes/assumptions/107.) -/
def execMeasuredEntry (bootMs : Nat) (s : State) : Res :=
  .next (if s.bootAt 5 then
      let s := s.setFields Obj.MEASUREMENT 5 (hashFields (Config.sha384 s.flashImage))
      let s := s.setFields Obj.MEASUREMENT 4 (hashFields s.securityRecord)
      let st := s.fields Obj.BOOT_STATUS 0
      let s := s.setFields Obj.BOOT_STATUS 0 [s.sec.boot.copy, st.getD 1 0, st.getD 2 0, st.getD 3 0, bootMs % 2 ^ 32]
      (s.resumePins.bootStep 7).enter dsMeasured (s.regF Obj.DEVICE_STATE_INFO 0 2)
    else s)

/-- ENGINES_INITIALISED (17 R492): READY, DEGRADED with a retired facet, FAULT with too many. -/
def execEnginesInitialised (readyMs : Nat) (s : State) : Res :=
  .next (if s.devState = dsMeasured ∧ s.rcv.resetting = none then
      let s := (s.bootStep 0).setRegF Obj.DEVICE_STATE_INFO 0 5 (readyMs % 2 ^ 32)
      if s.reg Obj.FACET_RETIRE_LIMIT < s.retiredCount then
        (s.log! { code := 0x090, sub := 16, info0 := 0x0101, info1 := s.retiredCount }).enter dsFault 7
      else if s.retiredCount = 0 then s.enter dsReady (s.regF Obj.DEVICE_STATE_INFO 0 2)
      else s.enter dsDegraded 4
    else s)

/-- BOOT_STEP_TIMEOUT (R445): a limit of steps 1 and 2 counts as a failed self-test, one of steps 3 to 5 as a failed copy. -/
def execBootStepTimeout (s : State) : Res :=
  .next (if s.devState ≠ dsBoot then s
    else
      match s.sec.boot.step with
      | 1 => s.enter dsFault 8
      | 3 => s.bootFail 1 7
      | 4 => s.bootFail 2 7
      | 5 => s.bootFail 0 7
      | _ => s)

end Sys2Proof.Machine
end

