-- ==== Sys2Proof/Machine/FwUpdate.lean ====
section
/-! DEFINITION. Sys2Proof/Machine/FwUpdate.lean: firmware update and the flash object store's erasure (17_object_dictionary R495,
R496, 19_pins_and_interfaces R541, R542). -/

namespace Sys2Proof.Machine

/-- STATE of FW_UPDATE_STATUS (R496). -/
def fwIdle : Nat := 0
def fwReceiving : Nat := 1
def fwChecking : Nat := 2
def fwGenuine : Nat := 3
def fwNotGenuine : Nat := 4

/-- The state of the update. -/
def State.fwState (s : State) : Nat := s.regF Obj.FW_UPDATE_STATUS 0 0

/-- An update is in progress. -/
def State.fwBusy (s : State) : Bool := s.fwState == fwReceiving || s.fwState == fwChecking

/-- The place of an image of a copy in the flash: 4 * copy + kind - 1 (19 R541). -/
def imagePlace (copy kind : Nat) : Nat := 4 * copy + kind - 1

/-- The copy that no update may write (R495): the one that runs, and in FAULT the preferred one (16_security R446). -/
def State.runningCopy (s : State) : Nat := if s.devState = dsFault then s.flash.header.preferred else s.sec.boot.copy

/-- Whether an image is genuine or not, noted. -/
def State.noteGenuine (s : State) (place : Nat) (genuine : Bool) : State :=
  let g := s.flash.genuine
  let cleared := g - (g &&& (1 <<< place))
  (s.setFlash { s.flash with genuine := if genuine then cleared ||| (1 <<< place) else cleared })

/-- The sizes of an image's copy would pass the limits of 19 R542. -/
def State.fwTooLong (s : State) (kind copy length : Nat) : Bool :=
  if kind = 1 then decide (12582912 < length)
  else
    let others := ([2, 3, 4].filter (· != kind)).map (fun k => tget 0 s.flash.lengths (imagePlace copy k))
    decide (67108864 < length + others.sum)

/-- A write of BEGIN (R495, 19 R542). (DEDUCED, notes/assumptions/115.) -/
def State.fwBegin (s : State) (kind copy length : Nat) : Nat × State :=
  if kind = 0 ∨ 4 < kind ∨ 1 < copy ∨ 2 ^ 32 ≤ length then (Abort.VALUE_RANGE, s)
  else if s.fwBusy || s.fwTooLong kind copy length then (Abort.UPDATE_STATE, s)
  else if copy = s.runningCopy then (Abort.UPDATE_COPY_IN_USE, s)
  else
    let p := imagePlace copy kind
    let s := s.noteGenuine p false
    let s := { s with flash := { s.flash with lengths := tset s.flash.lengths p length }, dict := { s.dict with updateLength := length } }
    (0, s.setFields Obj.FW_UPDATE_STATUS 0 [fwReceiving, kind, copy, 0, 0])

/-- A write of a piece (R495): 32 to 4,096 bytes, a multiple of 32 but for the last. -/
def State.fwData (s : State) (piece : Bytes) : Nat × State :=
  let n := piece.length
  let to_ := s.regF Obj.FW_UPDATE_STATUS 0 3 + n
  if n < 32 ∨ 4096 < n then (Abort.VALUE_RANGE, s)
  else if s.fwState ≠ fwReceiving ∨ s.dict.updateLength < to_ then (Abort.UPDATE_STATE, s)
  else if n % 32 ≠ 0 ∧ to_ ≠ s.dict.updateLength then (Abort.VALUE_RANGE, s)
  else (0, s.setRegF Obj.FW_UPDATE_STATUS 0 3 to_)

/-- A write of FINISH (R495): the check runs, and its requester is answered PENDING. -/
def State.fwFinish (s : State) (who : Who) : Nat × State :=
  if s.fwState ≠ fwReceiving ∨ s.regF Obj.FW_UPDATE_STATUS 0 3 ≠ s.dict.updateLength then (Abort.UPDATE_STATE, s)
  else (0, ((s.setDict { s.dict with updater := some (Who.number who) })).setRegF Obj.FW_UPDATE_STATUS 0 0 fwChecking)

/-- The action of a requester that was answered PENDING has finished: its kept frame gives the final response (R481, R482). -/
def State.settleKept (s : State) (r : Nat) : State :=
  match tfind s.dict.kept r with
  | some k => if k.pending then
      (s.setDict { s.dict with kept := tset s.dict.kept r { k with pending := false, header := k.header - place 1 242 1 } })
    else s
  | none => s

/-- The requester whose FINISH runs learns its outcome. -/
def State.fwEnds (s : State) : State :=
  match s.dict.updater with
  | some r => ((s.setDict { s.dict with updater := none })).settleKept r
  | none => s

/-- A write of CANCEL (R495): IDLE, and a partly written image stays not genuine. (DEDUCED, notes/assumptions/116.) -/
def State.fwCancel (s : State) : Nat × State := (0, (s.fwEnds).setRegF Obj.FW_UPDATE_STATUS 0 0 fwIdle)

/-- All four images of a copy are genuine (R495). -/
def State.copyGenuine (s : State) (copy : Nat) : Bool := [1, 2, 3, 4].all (fun k => bit s.flash.genuine (imagePlace copy k))

/-- A write of SET_PREFERRED (R495, 19 R541): the new header goes over the copy of the header that is not in use. -/
def State.fwPrefer (s : State) (copy : Nat) (flashOk : Bool) : Nat × State :=
  if 1 < copy then (Abort.VALUE_RANGE, s)
  else if s.fwBusy then (Abort.UPDATE_STATE, s)
  else if s.copyGenuine copy = false then (Abort.UPDATE_NOT_GENUINE, s)
  else if flashOk = false then (Abort.FLASH_FAILED, s)
  else
    let f := s.flash
    let h := { f.header with seq := (f.header.seq + 1) % 2 ^ 32, preferred := copy, valid := true }
    (0, (s.setFlash (if f.header == f.header0 then { f with header1 := h } else { f with header0 := h })))

/-- FW_UPDATE_BEGIN (R495). -/
def execFwUpdateBegin (who : Who) (kind copy length : Nat) (s : State) : Res :=
  .next (s.row who Obj.FW_UPDATE_CONTROL 0 false (fun s => s.fwBegin kind copy length))

/-- FW_UPDATE_DATA (R495). -/
def execFwUpdateData (who : Who) (piece : Bytes) (s : State) : Res :=
  .next (s.row who Obj.FW_UPDATE_DATA 0 false (fun s => s.fwData piece))

/-- FW_UPDATE_FINISH (R495). -/
def execFwUpdateFinish (who : Who) (s : State) : Res :=
  .next (s.row who Obj.FW_UPDATE_CONTROL 0 false (fun s => s.fwFinish who))

/-- FW_UPDATE_CANCEL (R495). -/
def execFwUpdateCancel (who : Who) (s : State) : Res :=
  .next (s.row who Obj.FW_UPDATE_CONTROL 0 false State.fwCancel)

/-- SET_PREFERRED (R495). -/
def execSetPreferred (who : Who) (copy : Nat) (flashOk : Bool) (s : State) : Res :=
  .next (s.row who Obj.FW_UPDATE_CONTROL 0 false (fun s => s.fwPrefer copy flashOk))

/-- PENDING_ACTION_DONE (R481, R495): the check of R444 has ended, on an image with these facts. -/
def execPendingActionDone (image : ImageFacts) (s : State) : Res :=
  .next (if s.fwState ≠ fwChecking ∨ s.answers = false then s
    else
      let f := s.fields Obj.FW_UPDATE_STATUS 0
      let kind := f.getD 1 0
      let fails := s.imageFails image kind
      let s := (s.noteGenuine (imagePlace (f.getD 2 0) kind) (fails == 0)).setFields Obj.FW_UPDATE_STATUS 0
        [if fails = 0 then fwGenuine else fwNotGenuine, kind, f.getD 2 0, f.getD 3 0,
         if fails = 0 then 0 else Config.checkCode fails % 256]
      s.fwEnds)

/-- A write of FLASH_RESTORE_DEFAULTS: the erasure awaits the next device reset (R496). -/
def State.askRestore (s : State) (value : Nat) : Nat × State :=
  if value = 1 then (0, (s.setFlash { s.flash with restore := true })) else (Abort.VALUE_RANGE, s)

/-- FLASH_RESTORE_DEFAULTS (R496). -/
def execFlashRestoreDefaults (who : Who) (value : Nat) (s : State) : Res :=
  .next (s.row who Obj.FLASH_RESTORE_DEFAULTS 0 false (fun s => s.askRestore value))

end Sys2Proof.Machine
end

