-- ==== Sys2Proof/Machine/Maint.lean ====
section
/-! DEFINITION. Sys2Proof/Machine/Maint.lean: the maintenance arbiter: units due, started, done and overdue
(20_maintenance_and_telemetry R553-R561). -/

namespace Sys2Proof.Machine

/-- Activity codes (R555). -/
def maScrub : Nat := 0
def maRecal : Nat := 1
def maRetune : Nat := 2
def maFacetTest : Nat := 3
def maRotate : Nat := 4
def maLogFlush : Nat := 5
def maCalibrate : Nat := 6

/-- An activity is enabled; key rotation always is (R567). -/
def State.maintEnabled (s : State) (a : Nat) : Bool := a == maRotate || bit (s.reg Obj.MAINT_ENABLE) a

/-- The context whose rotation has this unit in progress (16_security R459). -/
def State.rotatingUnit (s : State) (u : Nat) : Option Nat :=
  (List.range 16).find? (fun c => s.keyState c == ksRotating && s.regF Obj.HBM_REGION c 0 + s.reg Obj.KEY_ROTATE_CURSOR c == u)

/-- The resource is one of the activity's (R555, R561). -/
def State.unitExists (s : State) (a r : Nat) : Bool :=
  match a with
  | 0 => decide (r < 8)
  | 1 => decide (r < 8)
  | 2 => decide (r < 72)
  | 3 => decide (r < 192) && !(s.isRetired r)
  | 4 => (s.rotatingUnit r).isSome
  | 5 => decide (r < 65536)
  | 6 => decide (r < 11)
  | _ => false

/-- A unit is queued, the newest last (R559). -/
def State.queueUnit (s : State) (a r : Nat) : State :=
  (s.setMaint { s.maint with queue := s.maint.queue ++ [{ activity := a, resource := r, dueBeat := s.beat }] })

/-- MAINT_UNIT_DUE (R555): an interval or a condition makes a unit due. -/
def execMaintUnitDue (activity resource : Nat) (s : State) : Res :=
  .next (if s.serving && s.maintEnabled activity && s.unitExists activity resource then s.queueUnit activity resource else s)

/-- A write of SPOKE_RETUNE_REQUEST (R567): a unit for each active and each failed lane. -/
def State.requestRetune (s : State) (p : Nat) : Nat × State :=
  if 18 ≤ p then (Abort.VALUE_RANGE, s)
  else if s.maintEnabled maRetune = false then (0, s)
  else
    let l := bitsOf 4 (s.lanes p ||| (s.spoke p).failedLanes)
    (0, l.foldl (fun (s : State) n => s.queueUnit maRetune (4 * p + n)) s)

/-- SPOKE_RETUNE_REQUEST (R555, R567). -/
def execSpokeRetuneRequest (who : Who) (spoke : Nat) (s : State) : Res :=
  .next (s.row who Obj.SPOKE_RETUNE_REQUEST 0 false (fun s => s.requestRetune spoke))

/-! ### Windows (R553, R554) -/

/-- Nanoseconds from now to the close edge of an open window. -/
def State.windowLeft (s : State) (w : Nat) : Nat :=
  match tfind (s.plan (w / 65536)).slots (w % 65536) with
  | some r => (r.deadlineBeat - s.beat) * s.cad.period - (s.now - s.cad.edge)
  | none => 0

/-- A unit that starts now ends at least 1 µs before an open window's close edge (R554). -/
def State.fits (s : State) (w durationNs : Nat) : Bool := decide (durationNs + 1000 ≤ s.windowLeft w)

/-- Facets of an open window's slot. -/
def State.windowFacets (s : State) (w : Nat) : Nat :=
  match tfind (s.plan (w / 65536)).slots (w % 65536) with
  | some r => r.facets
  | none => 0

/-- The claims that serve maintenance in the open windows' plans at this beat, as planned (R553, R568). -/
def State.maintClaims (s : State) (ws : List Nat) : List Claim :=
  (List.range 16).flatMap (fun c =>
    if ws.any (fun w => w / 65536 == c) then
      (match (s.plan c).image with
       | some im =>
         let o := s.beat - s.slip c - (s.plan c).plannedBeat
         { im with resvs := im.resvs.filter (fun r => r.maint) }.claimsAt c o
       | none => [])
    else [])

/-- No slot of a loaded plan names a facet (R556). -/
def State.facetUnnamed (s : State) (f : Nat) : Bool := (List.range 16).all (fun c => !(s.planNames c f))

/-- No engine work and no reset is on a facet but a maintenance window's. -/
def State.facetIdle (s : State) (f : Nat) : Bool :=
  !(s.rcv.facetResets.contains f) && (s.facet f).threads.isEmpty && (s.facet f).mat.isNone
    && (List.range 16).all (fun c => (s.plan c).slots.all (fun e =>
      e.2.phase != .running || !(bit e.2.facets f) || s.maint.windows.contains (65536 * c + e.1)))

/-- The windows that are open now give the unit what it needs (R553-R556); with no plan RUNNING everything is given. -/
def State.windowGives (s : State) (a r durationNs : Nat) : Bool :=
  let ws := s.maint.windows.filter (fun w => s.fits w durationNs)
  let free := !s.anyRunning
  let claims := s.maintClaims ws
  match a with
  | 0 => s.reg Obj.SCRUB_BOOST_GBPS != 0 && (free || s.stackSum claims r != 0)
  | 1 => free || decide (8 * s.stackUnit ≤ s.stackSum claims r)
  | 2 =>
    let p := r / 4
    let g := if p < 7 then 0 else if p < 14 then 1 else 2
    let sum := (claims.filter (fun x => x.resource == 4 && x.inst % 16 == g)).foldl (fun n x => n + x.amount) 0
    free || (decide (875 * 50 * s.cad.period / 1000 / 4096 ≤ sum) && !ws.isEmpty)
  | 3 =>
    if s.facetUnnamed r then free
    else ws.any (fun w => bit (s.windowFacets w) r && s.reg Obj.MAINT_FACET_TEST (w / 65536) == 1)
  | 4 => free || decide (8192 ≤ (claims.filter (fun x => x.resource == 1)).foldl (fun n x => n + x.amount) 0)
  | _ => free || !ws.isEmpty

/-- The unit's resource is free of other maintenance (R554, R559). -/
def State.resourceFree (s : State) (a r : Nat) : Bool :=
  let run := s.maint.running
  !(run.any (fun x => x.activity == a && x.resource == r)) &&
    match a with
    | 0 => !(run.any (fun x => x.activity == maRecal && x.resource == r))
    | 2 => !(run.any (fun x => x.activity == maRetune && x.resource / 4 == r / 4))
        && decide ((run.filter (fun x => x.activity == maRetune)).length < 2)
    | 3 => s.facetIdle r
    | _ => true

/-- A context whose work is being withdrawn pauses its rotation (16 R468). -/
def State.rotationPaused (s : State) (r : Nat) : Bool :=
  match s.rotatingUnit r with
  | some c => (tfind s.rcv.active c).isSome
  | none => true

/-- A queued unit of the activity on the resource may start, if it lasts so long (R554, R559). -/
def State.unitMayStart (s : State) (a r durationNs : Nat) : Bool :=
  s.unitExists a r && s.resourceFree a r && s.windowGives a r durationNs && !(a == maRotate && s.rotationPaused r)

/-- The longest duration that R555 gives a unit of an activity, in ns. -/
def unitNs (a : Nat) : Nat := [0, 2000, 200000, 88388, 2400, 400000000, 20000].getD a 0

/-- MAINT_UNIT_START (R554, R559): the oldest queued unit of the activity on the resource starts, if it may and no unit queued before
it may start (DESIGN CHOICE, notes/assumptions/109: the earlier one is asked about for the duration of R555). -/
def execMaintUnitStart (activity resource durationNs : Nat) (s : State) : Res :=
  .next (
    let q := s.maint.queue
    match q.findIdx? (fun u => u.activity == activity && u.resource == resource) with
    | none => s
    | some i =>
      if s.serving && s.unitMayStart activity resource durationNs
          && !((q.take i).any (fun u => s.unitMayStart u.activity u.resource (unitNs u.activity))) then
        let r : MaintRun := { activity := activity, resource := resource, startBeat := s.beat, startNs := s.now }
        (s.setMaint { s.maint with queue := q.eraseIdx i, running := s.maint.running ++ [r] })
      else s)

/-! ### Ends of units (R556-R558, R561) -/

/-- HBM recalibration (R558): a stack that fails twice in a row is DEVICE_FATAL. (DEDUCED, notes/assumptions/110.) -/
def State.recalEnds (s : State) (stack : Nat) (passed : Bool) : State :=
  let n := if passed then 0 else tget 0 s.maint.recalFails stack + 1
  let s := (s.setMaint { s.maint with recalFails := if n = 0 then terase s.maint.recalFails stack else tset s.maint.recalFails stack n })
  if 2 ≤ n then s.deviceFatal 0x0401 stack 1 else s

/-- A retuned lane that passes is readmitted through the exchange of 11 R320 (R557). -/
def State.retuneEnds (s : State) (lane : Nat) (passed : Bool) : State :=
  let p := lane / 4
  let m := 1 <<< (lane % 4)
  if passed = false ∨ s.spokeUp p = false ∨ bit (s.lanes p) (lane % 4) = true then s
  else
    let x := s.spoke p
    (s.setSpoke p { x with failedLanes := x.failedLanes &&& (15 - m), readmit := x.readmit ||| m }).proposeLanes p

/-- A facet self-test leaves the facet zeroed, without a former owner (R556); one that fails is retired (R558). -/
def State.facetTestEnds (s : State) (f : Nat) (passed vertexOk : Bool) : State :=
  let s := ((s.fmZero f).bump Obj.FM_ZERO_COUNT f).setFacet f {}
  let o := s.regF Obj.SELFTEST_RESULT 0 1
  if passed then s
  else (s.setRegF Obj.SELFTEST_RESULT 0 1 (if bit o f then o else o + 2 ^ f)).retireFacet f vertexOk

/-- A unit of a rotation is done: the cursor moves on (16 R459). -/
def State.rotateEnds (s : State) (unit : Nat) : State :=
  match s.rotatingUnit unit with
  | none => s
  | some c =>
    let n := s.reg Obj.KEY_ROTATE_CURSOR c + 1
    if s.regF Obj.HBM_REGION c 1 ≤ n then s.endRotation c else s.setReg Obj.KEY_ROTATE_CURSOR c n

/-- What a unit of an activity leaves when it ends (R555-R558). -/
def State.activityEnds (s : State) (a r : Nat) (passed vertexOk : Bool) : State :=
  match a with
  | 1 => s.recalEnds r passed
  | 2 => s.retuneEnds r passed
  | 3 => s.facetTestEnds r passed vertexOk
  | 4 => if passed then s.rotateEnds r else s
  | 5 => if passed then s.bumpF Obj.FLASH_STORE_INFO 0 3 1 else s
  | _ => s

/-- MAINT_UNIT_DONE (R561): a running unit ends, DONE or FAILED. -/
def execMaintUnitDone (activity resource durationNs : Nat) (passed vertexOk : Bool) (s : State) : Res :=
  .next (match s.maint.running.find? (fun r => r.activity == activity && r.resource == resource) with
    | none => s
    | some r => (s.unitEnds r (!passed) durationNs).activityEnds activity resource passed vertexOk)

/-- MAINT_OVERDUE (R560): a unit of recalibration, self-test, log flush or calibration has waited too long; said once. -/
def execMaintOverdue (activity resource : Nat) (s : State) : Res :=
  .next (
    let q := s.maint.queue
    match q.findIdx? (fun u => u.activity == activity && u.resource == resource && !u.overdue) with
    | none => s
    | some i =>
      if [maRecal, maFacetTest, maLogFlush, maCalibrate].contains activity then
        let s := (s.setMaint { s.maint with queue := q.modify i (fun u => { u with overdue := true }) })
        (s.log! { code := 0x034, sub := 16, info0 := activity, info1 := resource }).bump Obj.MAINT_OVERDUE_COUNT 0
      else s)

end Sys2Proof.Machine
end

