-- ==== Sys2Proof/Machine/DictRead.lean ====
section
/-! DEFINITION. Sys2Proof/Machine/DictRead.lean: what a read of an object finds (17_object_dictionary R474, R496 and the object
table of every chapter). -/

namespace Sys2Proof.Machine

/-! ### Values as bytes (17 R471) -/

/-- Bytes cut into little-endian numbers of the given widths. -/
def cutFields : List Nat → Bytes → List Nat
  | [], _ => []
  | w :: ws, l => ofLE (l.take w) :: cutFields ws (l.drop w)

/-- The widths of `n` fields of an object from field `i`. -/
def ObjDef.widths (o : ObjDef) (i n : Nat) : List Nat := (range2 i (i + n)).map o.width

/-- Numbers put out little-endian, each at its own width. -/
def putFields : List Nat → List Nat → Bytes
  | w :: ws, v :: vs => leBytes w v ++ putFields ws vs
  | _, _ => []

/-! ### Copies that each requester holds (17 R486) -/

/-- The requester's copy of an object that each requester holds. -/
def State.copyOf (s : State) (who : Who) (o : ObjDef) : List Nat :=
  (tfind s.dict.copies (2 ^ 24 * Who.number who + o.key o.lo)).getD o.default

/-- The requester's copy written. -/
def State.setCopy (s : State) (who : Who) (o : ObjDef) (l : List Nat) : State :=
  (s.setDict { s.dict with copies := tset s.dict.copies (2 ^ 24 * Who.number who + o.key o.lo) l })

/-! ### Values that the device keeps elsewhere -/

/-- What a read of an object finds: an abort code or 0, the fields, the state after. -/
structure Read where
  code : Nat := 0
  fields : List Nat := []
  after : State
  deriving DecidableEq, Repr

/-- A read that finds fields and changes nothing. -/
def State.found (s : State) (l : List Nat) : Read := { fields := l, after := s }

/-- A read whose value the manual leaves open: every field is a free value. (DESIGN CHOICE, notes/assumptions/126.) -/
def State.foundFree (s : State) (o : ObjDef) : Read :=
  { fields := cutFields (o.widths 0 o.fields) (leBytes o.size (s.fresh (256 ^ o.size))), after := s.took }

/-- An error record as 64 bytes (15_faults_and_recovery R403). -/
def ErrRec.word (r : ErrRec) : Nat :=
  place r.seq 480 32 + place r.cls 476 4 + place r.sub 471 5 + place r.inst 463 8 + place r.code 448 15 + place r.ctx 444 4
    + place r.gen 428 16 + place r.epoch 396 32 + place r.sec 348 48 + place r.ns 316 32 + place r.beat 268 48
    + place r.step 236 32 + place r.slot 220 16 + place r.status 212 8 + place r.info0 128 64 + place r.info1 64 64
    + place r.info2 0 64

/-- ERROR_LOG_INFO (15 R440): OLDEST_SEQUENCE is that of the next record while the ring is empty. -/
def State.logInfo (s : State) : List Nat :=
  [s.log.nextSeq, (match s.log.ring with | r :: _ => r.seq | [] => s.log.nextSeq), s.log.overwritten, s.log.suppressed, s.log.flash.length]

/-- ERROR_LOG_RECORD (15 R404): a TENANT reads only records of its own contexts. -/
def State.logRecord (s : State) (who : Who) : Read :=
  let n := (s.copyOf who Obj.ERROR_LOG_SELECT).getD 0 0
  match s.log.ring.find? (fun r => r.seq == n) with
  | none => s.foundFree Obj.ERROR_LOG_RECORD
  | some r =>
    if (match who with | .tenant t => s.tenantOf t r.ctx | _ => true) then s.found ((leBytes 64 r.word).map (·.toNat))
    else { code := Abort.ACCESS_DENIED, after := s }

/-- ERROR_FLASH_LOG: entries that hold no record are free values. -/
def State.flashLog (s : State) : Read :=
  let l := s.log.flash.map ErrRec.word
  let r := s.foundFree Obj.ERROR_FLASH_LOG
  { r with fields := l ++ r.fields.drop l.length }

/-- CRASH_DUMP_DATA at the requester's offset (15 R438): the header and the section table as captured, the rest free, and so is what an
uncorrectable sector gives (13_hbm_and_ecc R359). The read checks the sectors that hold a stored error. -/
def State.dumpPage (s : State) (who : Who) : Read :=
  let o := (s.copyOf who Obj.CRASH_DUMP_SELECT).getD 0 0
  let base := unitBytes * dumpUnit + o
  let wrong := (tkeys s.hbm.flips ++ s.hbm.poison).filter (fun k => (sectorsOf base 4096).contains k)
  let t := wrong.foldl (fun s k => (s.checkSector k 16).2) s
  let l := (range2 o (o + 4096)).map (fun a =>
    if s.reg Obj.CRASH_DUMP_STATE ≠ 0 ∧ a < 208 ∧ s.sectorLost ((unitBytes * dumpUnit + a) / 32) = false then (s.rcv.dump.get a).toNat
    else (Config.dumpByte s.rcv.dumpId a).toNat)
  { s.found l with after := t }

/-- QUEUE_STATE of the queue that the requester has selected (14 R401): ABSENT where there is none. -/
def State.queueStateOf (s : State) (who : Who) : Read :=
  let n := (s.copyOf who Obj.QUEUE_SELECT).getD 0 0
  match tfind s.queues n with
  | none => s.found [0, 0, 0, 0, 0, 0, 0, 0, 0]
  | some q =>
    if s.reaches who (qrContext q.record) then
      s.found [q.record, q.state, q.errorCode, q.sqHead, q.sqTail, q.cqHead, q.cqTail, s.inflight n, q.skipped]
    else { code := Abort.ACCESS_DENIED, after := s }

/-- EXPERT_TOKEN_COUNT of the layer that the requester has selected (20_maintenance_and_telemetry R567). -/
def State.tokenCounts (s : State) (who : Who) (c : Nat) : List Nat :=
  let l := (s.copyOf who Obj.EXPERT_TOKEN_LAYER).getD 0 0
  (List.range 512).map (fun k => tget 0 (s.plan c).tokensLast (512 * l + k))

/-- The facets of a quad run no thread and hold no accumulator tile (18_clocks_power_reset R504). -/
def State.quadIdle (s : State) (q : Nat) : Bool :=
  [0, 1, 2, 3].all (fun i => let x := s.facet (4 * q + i)
    x.threads.isEmpty && x.mat.isNone && x.back.isEmpty)

/-- CLOCK_DOMAIN_INFO: the domain of an idle quad reads GATED (18 R504). -/
def State.domainInfo (s : State) (d : Nat) : List Nat :=
  let l := s.fields Obj.CLOCK_DOMAIN_INFO d
  if d < 48 ∧ l.getD 0 0 = 1 ∧ s.quadIdle d = true then l.set 0 2 else l

/-- FW_UPDATE_STATUS (17 R496); GENUINE_MASK has bit 2 * copy + kind - 1 for a genuine image.
(DESIGN CHOICE, notes/assumptions/114.) -/
def State.fwStatus (s : State) : List Nat :=
  let mask := [0, 1].foldl (fun m c => [1, 2, 3, 4].foldl (fun m k =>
    if bit s.flash.genuine (imagePlace c k) then m ||| (1 <<< (2 * c + k - 1)) else m) m) 0
  (s.fields Obj.FW_UPDATE_STATUS 0).take 5 ++ [s.flash.header.preferred, mask]

/-- FLASH_STORE_INFO (17 R496): how many bytes an object takes in the store is not given. -/
def State.flashInfo (s : State) : Read :=
  let r := s.foundFree Obj.FLASH_STORE_INFO
  { r with fields := [s.flash.store.length, r.fields.getD 1 0, r.fields.getD 2 0, s.regF Obj.FLASH_STORE_INFO 0 3, s.flash.lastFailed] }

/-- AUXIO_STATE (19_pins_and_interfaces R547): the level of a pin that GPIO_OUT or FAULT_OUT drives is what they drive; any
other level comes from outside. -/
def State.pinState (s : State) (p : Nat) : Read :=
  let l := s.fields Obj.AUXIO_STATE p
  let low := bit (s.regF Obj.AUXIO_CONFIG p 1) 0
  match l.getD 0 0 with
  | 1 => s.found (l.set 1 (ofBool (bit (s.reg Obj.GPIO_OUT) p)))
  | 2 => s.found (l.set 1 (ofBool (s.pins.faultOut.contains p != low)))
  | _ => { fields := l.set 1 (s.fresh 2), after := s.took }

/-- GPIO_IN: the levels of the eight pins (19 R546). -/
def State.gpioIn (s : State) : Read :=
  let r := (List.range 8).foldl (fun (r : Nat × State) p =>
    let x := r.2.pinState p
    (r.1 ||| (x.fields.getD 1 0 <<< p), x.after)) (0, s)
  { fields := [r.1], after := r.2 }

/-- TIMER_STATE (19 R548). (DESIGN CHOICE, notes/assumptions/33.) -/
def State.timerState (s : State) (t : Nat) : List Nat :=
  match tfind s.pins.timers t with
  | none => [fnNone, fnNone]
  | some (.pin p) => [s.pinOwner p, p]
  | some (.internal _) => [fnTrigOut, fnNone]

/-- MAINT_PENDING: the queue in order, ACTIVITY 0xFF for the entries that are empty (20 R567). -/
def State.maintPending (s : State) : List Nat :=
  let l := (s.maint.queue.take 64).flatMap (fun u => [u.activity, u.resource, u.dueBeat])
  l ++ (List.replicate (64 - l.length / 3) [0xFF, 0, 0]).flatten

/-- HBM_WRITTEN_MAP (13_hbm_and_ecc R367). -/
def State.writtenMap (s : State) : List Nat :=
  (leBytes 2861 (s.hbm.written.foldl (fun m u => m ||| (1 <<< u)) 0)).map (·.toNat)

/-- Milliseconds of a count of nanoseconds, as a field of `bytes` bytes holds them. -/
def msField (bytes ns : Nat) : Nat := min (ns / 1000000) (256 ^ bytes - 1)

/-- The objects whose value is kept outside the register table. -/
def State.derived (s : State) (who : Who) (o : ObjDef) (sub : Nat) : Option Read :=
  let at_ := fun (x : ObjDef) => o.index == x.index
  if at_ Obj.DEVICE_STATE_INFO then
    some (s.found (((s.fields o sub).set 3 (192 - s.retiredCount)).set 4 (msField 4 (s.cad.up - s.cad.entered))))
  else if at_ Obj.UPTIME_MS then some (s.found [msField 8 s.cad.up])
  else if at_ Obj.DICT_STATS then some (s.found ((s.fields o sub).set 5 s.dict.transfers.length))
  else if at_ Obj.FW_UPDATE_STATUS then some (s.found s.fwStatus)
  else if at_ Obj.FLASH_STORE_INFO then some s.flashInfo
  else if at_ Obj.CLOCK_DOMAIN_INFO then some (s.found (s.domainInfo sub))
  else if at_ Obj.TIME_NOW then some (s.found [s.cad.sec, s.cad.ns])
  else if at_ Obj.HBM_WRITTEN_MAP then some (s.found s.writtenMap)
  else if at_ Obj.FABRIC_ADDR_MODE && sub == 0 then some (s.found [1])
  else if at_ Obj.CONTEXT_KEY_STATE && sub == 0 then some (s.found [2])
  else if at_ Obj.QUEUE_STATE then some (s.queueStateOf who)
  else if at_ Obj.POOL_FREE then some (s.found ((List.range 8).map (fun p => (s.pool sub p).freeCount)))
  else if at_ Obj.EXPERT_TOKEN_COUNT then some (s.found (s.tokenCounts who sub))
  else if at_ Obj.ERROR_LOG_INFO then some (s.found s.logInfo)
  else if at_ Obj.ERROR_LOG_RECORD then some (s.logRecord who)
  else if at_ Obj.ERROR_FLASH_LOG then some s.flashLog
  else if at_ Obj.CRASH_DUMP_DATA then some (s.dumpPage who)
  else if at_ Obj.MAINT_PENDING then some (s.found s.maintPending)
  else if at_ Obj.MAINT_HISTORY then some (s.found (s.maint.history ++ List.replicate (256 - s.maint.history.length) 0))
  else if at_ Obj.AUXIO_STATE then some (s.pinState sub)
  else if at_ Obj.GPIO_IN then some s.gpioIn
  else if at_ Obj.TIMER_STATE then some (s.found (s.timerState sub))
  else if at_ Obj.TRACE_DATA then some (s.foundFree o)
  else none

/-- What a read of an object finds (17 R474): the requester's own copy, a value the device keeps elsewhere, or the value most
recently written. -/
def State.readObject (s : State) (who : Who) (o : ObjDef) (sub : Nat) : Read :=
  if o.perRequester then s.found (s.copyOf who o)
  else match s.derived who o sub with
    | some r => r
    | none => s.found (s.written o sub)

end Sys2Proof.Machine
end

