-- ==== Sys2Proof/Machine/DictWrite.lean ====
section
/-! DEFINITION. Sys2Proof/Machine/DictWrite.lean: which requests the dictionary admits, and what a write of an object does
(17_object_dictionary R470-R475, R490, and the object table of every chapter). -/

namespace Sys2Proof.Machine

/-! ### Objects and access (R470, R472, R490) -/

/-- The object of an index and sub, or the code that refuses it (R489, R494). -/
def findObject (index sub : Nat) : Except Nat ObjDef :=
  match Obj.table.find? (fun o => o.index == index && decide (o.lo ≤ sub) && decide (sub ≤ o.hi)) with
  | some o => .ok o
  | none => .error (if Obj.table.any (fun o => o.index == index) then absentSub index sub else Abort.OBJECT_ABSENT)

/-- The object's subs are contexts (R470). -/
def ObjDef.perContext (o : ObjDef) : Bool :=
  o.hi == 15 && !([Obj.MEASUREMENT.index, Obj.HBM_MERGE_RMW_COUNT.index, Obj.HBM_MERGE_FULL_COUNT.index, Obj.SRAM_CORRECTED_COUNT.index,
    Obj.SRAM_UNCORRECTABLE_COUNT.index].contains o.index)

/-- The object's elements are addressed by the element fields (R477). -/
def ObjDef.ranged (o : ObjDef) : Bool := o.ty == .array || o.ty == .octets || o.ty == .string

/-- The access of a requester to an instance: HOST has ECC_INJECT_ALLOW of context 0 only (13_hbm_and_ecc R374), and only the
physical function writes CONTEXT_FUNCTION (16_security R465). (DEDUCED, notes/assumptions/127.) -/
def ObjDef.accessOf (o : ObjDef) (who : Who) (sub : Nat) : Access :=
  match who with
  | .host f =>
    if o.index = Obj.ECC_INJECT_ALLOW.index ∧ sub ≠ 0 then .none
    else if o.index = Obj.CONTEXT_FUNCTION.index ∧ f ≠ 0 then .ro
    else o.roleAccess who
  | _ => o.roleAccess who

/-- The requester reaches the instance: 0 or the code that refuses it. CONTEXT_CLAIM is the exception (R490), and a TENANT reaches
the pool requesters of its own contexts (14_queues_and_pools R401). -/
def State.instanceCode (s : State) (who : Who) (o : ObjDef) (sub : Nat) : Nat :=
  if o.index = Obj.CONTEXT_CLAIM.index then 0
  else if o.perContext && !(s.reaches who sub) then s.notReached who sub
  else match who with
    | .tenant n => if o.index = Obj.POOL_REQUESTER.index ∧ s.tenantOf n (s.regF Obj.POOL_REQUESTER sub 0) = false then Abort.ACCESS_DENIED else 0
    | _ => 0

/-- The elements that a request addresses (R477): count 0 is the whole object. -/
def ObjDef.addressed (o : ObjDef) (first count : Nat) : Nat × Nat := if count = 0 then (0, o.count) else (first, count)

/-- Bytes of a number of elements. -/
def ObjDef.bytesOf (o : ObjDef) (count : Nat) : Nat := o.elem.sum * count

/-- Checks 3 to 8 of R490 on an initiation: the object, or the first code that applies. `denied` says that the requester does
not hold the role it names. -/
def State.checked (s : State) (who : Who) (denied write : Bool) (index sub first count size : Nat) : Except Nat ObjDef :=
  match findObject index sub with
  | .error c => .error c
  | .ok o =>
    let a := o.accessOf who sub
    let n := o.addressed first count
    if denied || a == .none then .error Abort.ACCESS_DENIED
    else if s.instanceCode who o sub ≠ 0 then .error (s.instanceCode who o sub)
    else if s.served who o write = false then .error Abort.DEVICE_STATE
    else if write && !(a == .rw || a == .wo) then .error Abort.WRITE_NOT_PERMITTED
    else if !write && a == .wo then .error Abort.READ_NOT_PERMITTED
    else if o.count < n.1 + n.2 ∨ (write = true ∧ size ≠ o.bytesOf n.2) then .error Abort.LENGTH_MISMATCH
    else .ok o

/-! ### Values that an owner admits -/

/-- The value is between two bounds. -/
def within (lo hi v : Nat) : Bool := decide (lo ≤ v) && decide (v ≤ hi)

/-- The FP32 entries of a table of bytes are neither NaN nor negative (06_sparsity R198). (DEDUCED, notes/assumptions/132.) -/
def guardsOk : List Nat → Bool
  | a :: b :: c :: d :: r =>
    let w := a + 256 * b + 65536 * c + 16777216 * d
    decide (w ≤ 0x7F800000 ∨ w = 0x80000000) && guardsOk r
  | _ => true

/-- Every field of SPOKE_ETH_CONFIG is in range: a node, eight DSCP values of six bits, one priority of eight or off (11_spokes R324, R328;
DEDUCED, notes/assumptions/163). -/
def ethOk (l : List Nat) : Bool :=
  decide (l.getD 2 0 ≤ 16383) && ((l.drop 4).take 8).all (fun d => decide (d ≤ 63)) && (decide (l.getD 13 0 ≤ 7) || l.getD 13 0 == 0xFF)

/-- The code that refuses a value its object does not admit (17_object_dictionary R489, 11_spokes R328). -/
def rangeCode (o : ObjDef) : Nat := if o.index = Obj.SPOKE_ETH_CONFIG.index then Abort.ETH_CONFIG_FORMAT else Abort.VALUE_RANGE

/-- The whole value as it will stand is in the range and the encoding its owner gives (R471, and the owner's table).
(DEDUCED, notes/assumptions/128.) -/
def valueOk (o : ObjDef) (l : List Nat) : Bool :=
  let at_ := fun (x : ObjDef) => o.index == x.index && o.lo == x.lo
  let v := l.getD 0 0
  if o.ty == .bool then decide (v ≤ 1)
  else if at_ Obj.FACET_CLOCK_LIMIT_MHZ then within 1200 2100 v && v % 25 == 0
  else if at_ Obj.POWER_CAP_W then within 800 2000 v
  else if at_ Obj.THERMAL_THROTTLE_C then within 85 105 v
  else if at_ Obj.PERST_SCOPE then decide (v ≤ 1)
  else if at_ Obj.TIME_SECONDS_NEXT then decide (v < 2 ^ 48)
  else if at_ Obj.LATE_POLICY then decide (v ≤ 2)
  else if at_ Obj.LATE_TIMEOUT_MS then within 1 60000 v
  else if at_ Obj.PLAN_ADDR then v % 64 == 0
  else if at_ Obj.ECC_FLIP_TARGET then decide (v ≤ 1)
  else if at_ Obj.ECC_FLIP_FACET then decide (v ≤ 191)
  else if at_ Obj.FABRIC_ADDR_MODE then decide (v ≤ 1)
  else if at_ Obj.FABRIC_REPLY_TIMEOUT_MS then within 1 10000 v
  else if at_ Obj.FABRIC_RETRY_LIMIT then decide (v ≤ 15)
  else if at_ Obj.FABRIC_TOMBSTONE_MS then within 10 60000 v
  else if at_ Obj.FABRIC_RCACHE_ENTRIES then within 65536 4194304 v && isPow2 v
  else if at_ Obj.SPOKE_MODE then decide (v ≤ 1)
  else if at_ Obj.SPOKE_ETH_CONFIG then ethOk l
  else if at_ Obj.SPOKE_PEER_POLICY then decide (v ≤ 2)
  else if at_ Obj.SPOKE_REKEY_S then within 60 86400 v
  else if at_ Obj.HUP_RTO_MIN_NS then within 2000 1000000 v
  else if at_ Obj.HUP_GIVEUP_MS then within 10 60000 v
  else if at_ Obj.NODE_NUMBER then v == 0xFFFF || decide (v ≤ 16383)
  else if at_ Obj.RANK_MAP_STAGED then l.all (fun e => !(bit e 14))
  else if at_ Obj.POOL_ENGINE_REQUESTER then v == 0xFF || decide (v ≤ 63)
  else if at_ Obj.NARROW_RETRY_BINADES || at_ Obj.ACC_RETRY_SHIFT then within 1 15 v
  else if at_ Obj.PREDICTOR_GUARD then guardsOk l
  else if at_ Obj.PREDICTOR_STATS_ADDR then v == 2 ^ 64 - 1 || v % 64 == 0
  else if at_ Obj.ROUTER_UNAVAIL_ACTION then decide (v ≤ 1)
  else if at_ Obj.PIPE_ABSENT_ADDR then v == 2 ^ 64 - 1 || v % 8 == 0
  else if at_ Obj.CONTEXT_KEY_RETENTION then decide (v ≤ 1)
  else if at_ Obj.CONTEXT_FUNCTION then decide (v ≤ 15)
  else if at_ Obj.TELEMETRY_MASK then v &&& 0xFFE == v
  else if at_ Obj.FACET_RETIRE_LIMIT then decide (v ≤ 64)
  else if at_ Obj.CRASH_DUMP_SELECT || at_ Obj.TRACE_SELECT then v % 4096 == 0
  else if at_ Obj.MIRROR_CONFIG then
    decide (v ≤ 1) && decide (l.getD 1 0 ≤ 1) && decide (l.getD 2 0 < 16384) && l.getD 3 0 % 4096 == 0 && l.getD 4 0 % 4096 == 0
  else if at_ Obj.MAINT_ENABLE then decide (v < 128)
  else if at_ Obj.HBM_RECAL_INTERVAL_MS then within 100 60000 v
  else if at_ Obj.FACET_TEST_INTERVAL_S || at_ Obj.THERMAL_CAL_INTERVAL_S then within 3600 2592000 v
  else if at_ Obj.SCRUB_BOOST_GBPS then decide (v ≤ 8000)
  else true

/-! ### Performing a write -/

/-- A write that has passed checks 3 to 8: the element it begins at, its fields, its bytes, and whether the flash object store
can be written. -/
structure Write where
  who : Who
  o : ObjDef
  sub : Nat
  first : Nat
  fields : List Nat
  bytes : Bytes
  flashOk : Bool
  deriving DecidableEq, Repr

/-- Field `i` of a write, 0 where it carries none. -/
def Write.val (w : Write) (i : Nat) : Nat := w.fields.getD i 0

/-- The code with which the meaning of a row answered, and the state after it without that answer. -/
def outcomeOf (s : State) : Res → Nat × State
  | .next t =>
    match t.out.getLast? with
    | some (.answer _ _ c) => (c, { t with out := t.out.dropLast })
    | _ => (Abort.INTERNAL, s)
  | _ => (Abort.INTERNAL, s)

/-- A write of several elements, each by the meaning of its row: the first code that refuses one refuses all.
(DESIGN CHOICE, notes/assumptions/129.) -/
def eachElement (row : Nat → Nat → State → Res) (old : Nat → Nat) (orig : State) : Nat → List Nat → State → Nat × State
  | _, [], s => (0, s)
  | i, v :: vs, s =>
    if v = old i then eachElement row old orig (i + 1) vs s
    else
      let r := outcomeOf s (row i v s)
      if r.1 = 0 then eachElement row old orig (i + 1) vs r.2
      else (r.1, (orig.setFlash { orig.flash with lastFailed := r.2.flash.lastFailed }))

/-- The value as it will stand: the addressed elements replaced (R477). -/
def State.merged (s : State) (w : Write) : List Nat :=
  let old := if w.o.perRequester then s.copyOf w.who w.o else s.written w.o w.sub
  let at_ := w.first * w.o.elem.length
  old.take at_ ++ w.fields ++ old.drop (at_ + w.fields.length)

/-- Bytes as one number, byte 0 least significant. (DESIGN CHOICE, notes/assumptions/130.) -/
def octets (l : List Nat) : Nat := ofLE (l.map (BitVec.ofNat 8))

/-- A write of an object whose only value is 1. -/
def onlyOne (s : State) (w : Write) (r : Res) : Nat × State := if w.val 0 = 1 then outcomeOf s r else (Abort.VALUE_RANGE, s)

/-- A write of FW_UPDATE_CONTROL, SEC_FUSE_COMMIT, QUEUE_CONTROL, SPOKE_CONTROL, ECC_FLIP_CONTROL or DEVICE_RESET: its action has a
row, or its code is none of the owner's. -/
def State.actionWrite (s : State) (w : Write) : Option (Nat × State) :=
  let at_ := fun (x : ObjDef) => w.o.index == x.index && w.o.lo == x.lo
  let pick := fun (l : List (Nat × Res)) (code : Nat) =>
    some (match tfind l code with | some r => outcomeOf s r | none => (Abort.VALUE_RANGE, s))
  if at_ Obj.FW_UPDATE_CONTROL then
    pick [(1, execFwUpdateBegin w.who (w.val 1) (w.val 2) (w.val 3) s), (2, execFwUpdateFinish w.who s), (3, execFwUpdateCancel w.who s),
      (4, execSetPreferred w.who (w.val 2) w.flashOk s)] (w.val 0)
  else if at_ Obj.SEC_FUSE_COMMIT then
    pick [(1, execSecFuseSvn w.who (w.val 1) s), (2, execSecFuseRevoke w.who (w.val 1) s), (3, execSecFuseSigPolicy w.who s)] (w.val 0)
  else if at_ Obj.QUEUE_CONTROL then
    pick [(1, execQueuePause w.who (w.val 0) s), (2, execQueueResume w.who (w.val 0) s), (3, execQueueReset w.who (w.val 0) s),
      (4, execQueueDestroy w.who (w.val 0) s)] (w.val 1)
  else if at_ Obj.SPOKE_CONTROL then
    pick [(1, execSpokeReset w.who w.sub s), (2, execSpokeDisable w.who w.sub s), (3, execSpokeEnable w.who w.sub s)] (w.val 0)
  else if at_ Obj.ECC_FLIP_CONTROL then pick [(1, execFlipMaskArm w.who s), (2, execFlipMaskDisarm w.who s)] (w.val 0)
  else if at_ Obj.DEVICE_RESET then pick [(1, execWarm w.who s), (2, execWarmWithDump w.who s)] (w.val 0)
  else if at_ Obj.PLAN_CONTROL then
    pick [(1, execPlanLoad w.who w.sub s), (2, execPlanArm w.who w.sub s), (3, execStopAtStepEnd w.who w.sub s),
      (4, execPlanHalt w.who w.sub s), (5, execPlanUnload w.who w.sub s)] (w.val 0)
  else none

/-- A write of an object that one row writes. (DEDUCED, notes/assumptions/133.) -/
def State.rowWrite (s : State) (w : Write) : Option (Nat × State) :=
  let at_ := fun (x : ObjDef) => w.o.index == x.index && w.o.lo == x.lo
  let go := fun (r : Res) => some (outcomeOf s r)
  let one := fun (r : Res) => some (onlyOne s w r)
  if at_ Obj.BEAT_PERIOD_NS then go (execBeatPeriodNsWrite w.who (w.val 0) s)
  else if at_ Obj.BEAT_EPOCH_START_SEC then go (execBeatEpochStartSecWrite w.who (w.val 0) s)
  else if at_ Obj.DROP_LEDGER_ADDR then go (execDropLedgerRegionWrite w.who w.sub .addr (w.val 0) s)
  else if at_ Obj.DROP_LEDGER_ENTRIES then go (execDropLedgerRegionWrite w.who w.sub .entries (w.val 0) s)
  else if at_ Obj.PLAN_FIRST_STEP then go (execPlanFirstStepWrite w.who w.sub (w.val 0) s)
  else if at_ Obj.ROUTER_CANCEL then go (execRouterCancelWrite w.who w.sub (w.val 0) s)
  else if at_ Obj.LATTICE_ROUTE then
    some (eachElement (fun i v t => execLatticeRouteWrite w.who i v t) (s.regF Obj.LATTICE_ROUTE 0) s w.first w.fields s)
  else if at_ Obj.RANK_MAP_COMMIT then go (execRankMapCommit w.who w.sub (w.val 0) s)
  else if at_ Obj.HBM_REGION then go (execHbmRegionWrite w.who w.sub (w.val 0) (w.val 1) s)
  else if at_ Obj.HBM_UNIT_WRITTEN then go (execHbmUnitWrittenWrite w.who (w.val 0) s)
  else if at_ Obj.HBM_RETIRED_PAGES then
    some (eachElement (fun i v t => execHbmRetiredPagesWrite w.who i v w.flashOk t) (s.regF Obj.HBM_RETIRED_PAGES 0) s w.first w.fields s)
  else if at_ Obj.QUEUE_CREATE then go (execQueueCreate w.who (BitVec.ofNat 512 (w.val 0)) s)
  else if at_ Obj.POOL_CONFIG then go (execPoolConfigWrite w.who w.sub w.first w.fields s)
  else if at_ Obj.POOL_REQUESTER then
    go (execPoolRequesterWrite w.who w.sub (w.val 0) ((w.fields.drop 1).take 8) ((w.fields.drop 9).take 8) s)
  else if at_ Obj.CONTEXT_RESET then one (execContextReset w.who w.sub s)
  else if at_ Obj.PEER_LOST then go (execPeerLostWrite w.who (w.val 0) s)
  else if at_ Obj.ERROR_FLASH_CLEAR then one (execErrorFlashClear w.who s)
  else if at_ Obj.FACET_RETIRED then go (execFacetRetiredWrite w.who (octets (s.merged w)) w.flashOk s)
  else if at_ Obj.CRASH_DUMP_CLEAR then one (execCrashDumpClear w.who s)
  else if at_ Obj.CONTEXT_KEY then go (execContextKey w.who w.sub (octets w.fields) s)
  else if at_ Obj.CONTEXT_KEY_NEXT then go (execContextKeyNext w.who w.sub (octets w.fields) s)
  else if at_ Obj.CONTEXT_TRANSFER_KEY then go (execContextTransferKey w.who w.sub (octets w.fields) s)
  else if at_ Obj.CONTEXT_CLAIM then
    match w.who with
    | .tenant n => one (execContextClaim n w.sub s)
    | _ => some (Abort.ACCESS_DENIED, s)
  else if at_ Obj.CONTEXT_RELEASE then one (execContextRelease w.who w.sub s)
  else if at_ Obj.DEBUG_UNLOCK then go (execDebugUnlock w.who (w.val 0) s)
  else if at_ Obj.FW_UPDATE_DATA then
    if w.first = 0 then go (execFwUpdateData w.who w.bytes s) else some (Abort.VALUE_RANGE, s)
  else if at_ Obj.FLASH_RESTORE_DEFAULTS then go (execFlashRestoreDefaults w.who (w.val 0) s)
  else if at_ Obj.CLKOBS then
    if w.val 0 ≤ 1 then go (execClkobsWrite w.who (w.val 0 == 1) (w.val 1) (w.val 2) (w.val 3) s) else some (Abort.VALUE_RANGE, s)
  else if at_ Obj.AUXIO_CONFIG then go (execAuxioConfigWrite w.who w.sub (w.val 0) (w.val 1) (w.val 2) (w.val 3) w.flashOk s)
  else if at_ Obj.TRACE_CONFIG then go (execTraceConfigWrite w.who (w.val 0) (w.val 1) s)
  else if at_ Obj.FAULT_OUT_CLEAR then one (execFaultOutClear w.who s)
  else if at_ Obj.ALARM_CLEAR then go (execAlarmClear w.who (w.val 0) s)
  else if at_ Obj.SPOKE_RETUNE_REQUEST then go (execSpokeRetuneRequest w.who (w.val 0) s)
  else if at_ Obj.TRIG_INTERNAL then
    some (if w.val 0 ≤ 1 then s.trigInternal w.sub (w.val 0 == 1) (w.val 1) else (Abort.VALUE_RANGE, s))
  else s.actionWrite w

/-- What a stored value sets going: units of activities switched off leave the queue (20_maintenance_and_telemetry R567), the
clocks follow their limit (18_clocks_power_reset R527), and the master is elected anew (02_beat_and_time R34, R45). -/
def State.afterWrite (s : State) (o : ObjDef) : State :=
  if o.index = Obj.MAINT_ENABLE.index then
    (s.setMaint { s.maint with queue := s.maint.queue.filter (fun u => s.maintEnabled u.activity) })
  else if o.index = Obj.FACET_CLOCK_LIMIT_MHZ.index then s.showClocks
  else if o.index = Obj.BEAT_MASTER_PRIORITY.index then s.elect
  else s

/-- A write of an object without a row of its own (R473): the owner's checks, the flash, and the apply time.
(DEDUCED, notes/assumptions/131.) -/
def State.plainWrite (s : State) (w : Write) : Nat × State :=
  let l := s.merged w
  if valueOk w.o l = false then (rangeCode w.o, s)
  else if w.o.flash && !w.flashOk then (Abort.FLASH_FAILED, s.flashFailed w.o)
  else if w.o.perRequester then (0, s.setCopy w.who w.o l)
  else if w.o.index = Obj.TIME_SECONDS_NEXT.index then (0, { s with cad := { s.cad with secondsNext := some (w.val 0) } })
  else
    let l := if w.o.index = Obj.MAINT_ENABLE.index then [l.getD 0 0 ||| 16] else l
    (0, (s.store w.o w.sub l).afterWrite w.o)

/-- A write is performed (R473, R488): by the row that the object has, or as a plain value. -/
def State.performWrite (s : State) (w : Write) : Nat × State :=
  match s.rowWrite w with
  | some r => r
  | none => s.plainWrite w

/-- A write of bytes to the elements that a request addresses. -/
def State.writeBytes (s : State) (who : Who) (o : ObjDef) (sub first count : Nat) (bytes : Bytes) (flashOk : Bool) : Nat × State :=
  let n := o.addressed first count
  let k := o.elem.length
  s.performWrite { who := who, o := o, sub := sub, first := n.1, fields := cutFields (o.widths (n.1 * k) (n.2 * k)) bytes,
                   bytes := bytes, flashOk := flashOk }

/-- REGISTER_WRITE (R473, R490): a write of an object, from its checks to its outcome. -/
def execRegisterWrite (who : Who) (index sub first count : Nat) (value : Bytes) (flashOk : Bool) (s : State) : Res :=
  .next (if s.answers = false then s
    else
      let r : Nat × State := match s.checked who false true index sub first count value.length with
        | .error c => (c, s)
        | .ok o =>
          if o.ranged = false ∧ (first ≠ 0 ∨ count ≠ 0) then (Abort.FRAME_FORMAT, s)
          else s.writeBytes who o sub first count value flashOk
      r.2.emit (.answer who (index * 256 + sub) r.1))

end Sys2Proof.Machine
end

