-- ==== Sys2Proof/Machine/Spdm.lean ====
section
/-! DEFINITION. Sys2Proof/Machine/Spdm.lean: the SPDM responder, its sessions, IDE key management, and the management port
(16_security R449-R453, R458, R462, 19_pins_and_interfaces R539, 17_object_dictionary R484).
(DEDUCED, notes/assumptions/103.)
(DESIGN CHOICE, notes/assumptions/104.) -/

namespace Sys2Proof.Machine

/-! ### The responder (R449-R451, 17 R493) -/

/-- The responder serves attestation: from MEASURED on, and in FAULT but after a boot failure (17 R493). -/
def State.attests (s : State) : Bool :=
  s.answers && decide (dsMeasured ≤ s.devState) && !(s.devState == dsFault && s.regF Obj.DEVICE_STATE_INFO 0 2 == 5)

/-- Sessions are served: from MEASURED on, not in FAULT (17 R493). -/
def State.sessionsServed (s : State) : Bool := s.answers && decide (dsMeasured ≤ s.devState) && s.devState != dsFault

/-- The endpoint is there: a DOE mailbox goes with its function and with the host interface (18 R523, 19 R536). -/
def State.endpointThere (s : State) : SpdmEnd → Bool
  | .doe f => s.functionExists f && !s.power.perst
  | .mctp _ => true

/-- A response leaves where the request came from. -/
def State.respond (s : State) (e : SpdmEnd) (m : SpdmMsg) : State := s.emit (.spdm e m)

/-- A request of the attestation services: answered by `act` where they are served. -/
def State.attest (s : State) (e : SpdmEnd) (act : State → State) : State :=
  if s.attests && s.endpointThere e then act s else s

/-- Certificate slots that hold a chain (R451). -/
def State.chains (s : State) : List Nat := if s.sec.customerChain && s.customer then [0, 1] else [0]

/-- GET_VERSION (R449). -/
def execGetVersion (endpoint : SpdmEnd) (s : State) : Res :=
  .next (s.attest endpoint (fun s => s.respond endpoint (.version [0x12, 0x13])))

/-- GET_CAPABILITIES (R449). -/
def execGetCapabilities (endpoint : SpdmEnd) (s : State) : Res :=
  .next (s.attest endpoint (fun s => s.respond endpoint (.capabilities s.customer)))

/-- NEGOTIATE_ALGORITHMS (R449): `common` says that the requester offers every algorithm of the table. -/
def execNegotiateAlgorithms (endpoint : SpdmEnd) (common : Bool) (s : State) : Res :=
  .next (s.attest endpoint (fun s => s.respond endpoint (if common then .algorithms else .error false)))

/-- GET_DIGESTS (R451). -/
def execGetDigests (endpoint : SpdmEnd) (s : State) : Res :=
  .next (s.attest endpoint (fun s => s.respond endpoint (.digests s.chains)))

/-- GET_CERTIFICATE (R451). -/
def execGetCertificate (endpoint : SpdmEnd) (slot : Nat) (s : State) : Res :=
  .next (s.attest endpoint (fun s => s.respond endpoint (if s.chains.contains slot then .certificate slot else .error false)))

/-- CHALLENGE (R449). -/
def execChallenge (endpoint : SpdmEnd) (slot : Nat) (s : State) : Res :=
  .next (s.attest endpoint (fun s => s.respond endpoint (if s.chains.contains slot then .challengeAuth slot else .error false)))

/-- The value of a measurement slot (R447). -/
def State.slotValue (s : State) (n : Nat) : Nat := ofLE ((s.fields Obj.MEASUREMENT n).map (BitVec.ofNat 8))

/-- The records of a MEASUREMENTS response (R450): 0xFF gives slots 0-6, a reserved slot none. -/
def State.measurementRecords (s : State) (index : Nat) : Option (List (Nat × Nat)) :=
  if index = 0xFF then some ((List.range 7).map (fun n => (n + 1, s.slotValue n)))
  else if 1 ≤ index ∧ index ≤ 7 then some [(index, s.slotValue (index - 1))]
  else if 8 ≤ index ∧ index ≤ 16 then some []
  else none

/-- GET_MEASUREMENTS (R450): every response carries the security state record of slot 4. -/
def execGetMeasurements (endpoint : SpdmEnd) (index : Nat) (signed : Bool) (s : State) : Res :=
  .next (s.attest endpoint (fun s => s.respond endpoint (match s.measurementRecords index with
    | some l => .measurements l (s.slotValue 4) signed
    | none => .error false)))

/-- SET_CERTIFICATE (R451): the BMC of a -C part installs a chain for the same identity key in slot 1.
(DEDUCED, notes/assumptions/105.) -/
def execSetCertificate (endpoint : SpdmEnd) (slot : Nat) (sameKey : Bool) (s : State) : Res :=
  .next (s.attest endpoint (fun s =>
    match endpoint with
    | .doe _ => s.respond endpoint (.error false)
    | .mctp _ =>
      if s.customer = false ∨ slot ≠ 1 then s.respond endpoint (.error false)
      else if sameKey = false then s.respond endpoint (.error true)
      else ((s.setSec { s.sec with customerChain := true })).respond endpoint .certificateSet))

/-! ### Sessions (R449, R452, R453, R458) -/

/-- The function of a DOE endpoint. -/
def doeFunction : SpdmEnd → Option Nat
  | .doe f => some f
  | .mctp _ => none

/-- KEY_EXCHANGE (R449): one of 32 sessions opens, and waits for FINISH. -/
def execKeyExchange (endpoint : SpdmEnd) (s : State) : Res :=
  .next (if s.sessionsServed = false ∨ s.endpointThere endpoint = false then s
    else if 32 ≤ s.sec.sessions.length then s.respond endpoint (.error false)
    else
      let n := s.sec.nextSession
      let x : Session := { doe := (doeFunction endpoint) }
      ((s.setSec { s.sec with sessions := tset s.sec.sessions n x, nextSession := n + 1 })).respond endpoint (.keyExchange n))

/-- A root is an anchor of the ATTESTED role (R452). -/
def State.anchored (s : State) (root : Nat) : Bool :=
  root != 0 && (root == Config.serviceAnchorHash || root == Config.customerKeyHash || (s.fields Obj.SEC_ATTESTED_ANCHORS 0).contains root)

/-- A message in an open session that came over its own endpoint: answered by `act`, or with an error. -/
def State.inSession (s : State) (e : SpdmEnd) (n : Nat) (established : Bool) (act : State → Session → State) : State :=
  if s.sessionsServed && s.endpointThere e then
    (match tfind s.sec.sessions n with
     | some x => if x.doe = doeFunction e ∧ x.established = established then act s x else s.respond e (.error false)
     | none => s.respond e (.error false))
  else s

/-- A session replaced. -/
def State.setSession (s : State) (n : Nat) (x : Session) : State := (s.setSec { s.sec with sessions := tset s.sec.sessions n x })

/-- SPDM_FINISH (R449, R452, R453): `verified` says that its MAC and signatures verify, `proof` what mutual authentication
proved. -/
def execSpdmFinish (endpoint : SpdmEnd) (session : Nat) (verified : Bool) (proof : Option RequesterProof) (s : State) : Res :=
  .next (s.inSession endpoint session false (fun s x =>
    if verified = false then s.respond endpoint (.error false)
    else
      let x := match proof with
        | some p => { x with established := true, key := some p.key, attested := s.anchored p.root
                             service := p.root != 0 && p.root == Config.serviceAnchorHash }
        | none => { x with established := true }
      ((s.setSession session x).countSessions).respond endpoint (.finish session)))

/-- KEY_UPDATE (R449): the session continues under new keys. -/
def execKeyUpdate (endpoint : SpdmEnd) (session : Nat) (s : State) : Res :=
  .next (s.inSession endpoint session true (fun s x =>
    (s.setSession session { x with updates := x.updates + 1 }).respond endpoint (.keyUpdated session)))

/-- SPDM_HEARTBEAT (R449). -/
def execSpdmHeartbeat (endpoint : SpdmEnd) (session : Nat) (s : State) : Res :=
  .next (s.inSession endpoint session true (fun s _ => s.respond endpoint (.heartbeat session)))

/-- END_SESSION (R458). -/
def execEndSession (endpoint : SpdmEnd) (session : Nat) (s : State) : Res :=
  .next (s.inSession endpoint session true (fun s _ => (s.endSession session).respond endpoint (.ended session)))

/-- SPDM_HEARTBEAT_TIMEOUT (R449, R458): three periods without a message. -/
def execSpdmHeartbeatTimeout (session : Nat) (s : State) : Res := .next (s.endSession session)

/-! ### IDE (R462, R463) -/

/-- A stream enters or leaves secure state. -/
def State.setStream (s : State) (stream : IdeStream) (secure : Bool) : State :=
  let s := match stream with
    | .link => (s.setSec { s.sec with ideLink := secure })
    | .selective f =>
      (s.setSec { s.sec with ideSelective := if secure then nsInsert s.sec.ideSelective f else nsErase s.sec.ideSelective f })
  let mask := s.sec.ideSelective.foldl (fun a f => a ||| (1 <<< f)) 0
  s.setRegF Obj.PCIE_LINK_STATUS 0 5 mask

/-- The stream is one of the endpoint's (R462). -/
def State.streamThere (s : State) : IdeStream → Bool
  | .link => true
  | .selective f => decide (f < 16) && s.functionExists f

/-- IDE_KM_REQUEST (R462): only in a session over DOE of function 0; `secure` says whether the stream is in secure state after
it. -/
def execIdeKmRequest (endpoint : SpdmEnd) (session : Nat) (stream : IdeStream) (secure : Bool) (s : State) : Res :=
  .next (s.inSession endpoint session true (fun s _ =>
    if (doeFunction endpoint) = some 0 ∧ s.streamThere stream = true then (s.setStream stream secure).respond endpoint (.ideKm stream)
    else s.respond endpoint (.error false)))

/-! ### The management port (19 R539, 17 R484) -/

/-- The port runs from REF_QUALIFY on, and answers from BOOT entry on (19 R539). -/
def State.portRuns (s : State) : Bool := decide (dsRefQualify ≤ s.devState)

/-- An MCTP control command is answered. -/
def State.control (s : State) (eid : Nat) (m : MctpMsg) : State := if s.answers then s.emit (.mctpControl eid m) else s

/-- SET_ENDPOINT_ID (19 R539): the bus owner assigns the endpoint ID. -/
def execSetEndpointId (eid : Nat) (s : State) : Res :=
  .next (if s.answers ∧ eid < 256 then (s.setRegF Obj.MGMT_PORT_INFO 0 3 eid).control eid (.endpointIdSet eid) else s)

/-- GET_ENDPOINT_ID (19 R539). -/
def execGetEndpointId (eid : Nat) (s : State) : Res := .next (s.control eid (.endpointId (s.regF Obj.MGMT_PORT_INFO 0 3)))

/-- GET_MCTP_VERSION_SUPPORT (19 R539): MCTP base 1.3. -/
def execGetMctpVersionSupport (eid : Nat) (s : State) : Res := .next (s.control eid .versions)

/-- GET_MESSAGE_TYPE_SUPPORT (19 R539). -/
def execGetMessageTypeSupport (eid : Nat) (s : State) : Res := .next (s.control eid (.messageTypes [0x00, 0x05, 0x06, 0x7E]))

/-- GET_VENDOR_DEFINED_MSG_SUPPORT (17 R484). -/
def execGetVendorDefinedMsgSupport (eid : Nat) (s : State) : Res := .next (s.control eid .vendorId)

/-- The port is in I3C mode (19 R532). -/
def State.i3c (s : State) : Bool := s.portRuns && s.regF Obj.MGMT_PORT_INFO 0 0 == 0

/-- ENTDAA (19 R539): a dynamic address is assigned. (DESIGN CHOICE, notes/assumptions/111.) -/
def execEntdaa (address : Nat) (s : State) : Res :=
  .next (if s.i3c ∧ address < 128 then s.setRegF Obj.MGMT_PORT_INFO 0 2 address else s)

/-- SETDASA (19 R539): a dynamic address for the static one. -/
def execSetdasa (static address : Nat) (s : State) : Res :=
  .next (if s.i3c ∧ address < 128 ∧ static = s.regF Obj.MGMT_PORT_INFO 0 1 then s.setRegF Obj.MGMT_PORT_INFO 0 2 address else s)

end Sys2Proof.Machine
end

