-- ==== Sys2Proof/Machine/Dictionary.lean ====
section
/-! DEFINITION. Sys2Proof/Machine/Dictionary.lean: the dictionary's frames, transfers and mailboxes (17_object_dictionary
R477-R490, R497). -/

namespace Sys2Proof.Machine

/-! ### The frame header (R477) -/

def hdVersion (h : Nat) : Nat := field h 252 4
def hdResponse (h : Nat) : Bool := bit h 251
def hdCommand (h : Nat) : Nat := field h 248 3
def hdExpedited (h : Nat) : Bool := bit h 247
def hdToggle (h : Nat) : Bool := bit h 246
def hdLast (h : Nat) : Bool := bit h 245
def hdRole (h : Nat) : Nat := field h 243 2
def hdPending (h : Nat) : Bool := bit h 242
def hdTransfer (h : Nat) : Nat := field h 232 8
def hdIndex (h : Nat) : Nat := field h 216 16
def hdSub (h : Nat) : Nat := field h 208 8
def hdFirst (h : Nat) : Nat := field h 176 16
def hdCount (h : Nat) : Nat := field h 160 16
def hdSize (h : Nat) : Nat := field h 128 32
def hdData (h : Nat) : Nat := field h 0 64

/-- COMMAND codes. -/
def cmdRead : Nat := 0
def cmdWrite : Nat := 1
def cmdInfo : Nat := 2
def cmdSegment : Nat := 3
def cmdAbort : Nat := 4

/-- The header of a response: it echoes COMMAND, TOGGLE, ROLE_SELECT, TRANSFER_ID, INDEX, SUB and the element fields. -/
def responseHeader (h : Nat) (expedited last pending : Bool) (size code data : Nat) : Nat :=
  place 1 252 4 + place 1 251 1 + place (hdCommand h) 248 3 + place (ofBool expedited) 247 1 + place (ofBool (hdToggle h)) 246 1
    + place (ofBool last) 245 1 + place (hdRole h) 243 2 + place (ofBool pending) 242 1 + place (field h 208 32) 208 32
    + place (field h 160 32) 160 32 + place size 128 32 + place code 96 32 + place data 0 64

/-- A response: its header and segment data, the code it carries, and whether the action still runs (R481). -/
structure Reply where
  header : Nat
  data : Bytes := []
  code : Nat := 0
  pending : Bool := false
  deriving DecidableEq, Repr

/-- The response that carries an abort code, or 0, and nothing else. -/
def replyCode (h code : Nat) : Reply := { header := responseHeader h true true false 0 code 0, code := code }

/-- The information word of an object (R478). -/
def State.infoWord (s : State) (who : Who) (o : ObjDef) (sub : Nat) : Nat :=
  place o.ty.code 56 8 + place (o.accessOf who sub).code 48 8 + place o.apply.code 45 3 + place (ofBool o.flash) 44 1
    + place (ofBool (s.awaits o sub)) 43 1 + place o.size 0 32

/-! ### Where a frame comes from, and its role (R484, R486, 16_security R452, R453) -/

/-- The bytes of the frame, where one is there: what a mailbox holds while it is BUSY, an MCTP message, or the application data of
an established session. -/
def State.frameBytes (s : State) : FrameFrom → Option Bytes
  | .mailbox f =>
    let m := tget {} s.dict.mailboxes f
    if m.busy && s.answers && s.functionExists f && !s.power.perst then some m.request else none
  | .mctp eid b => if s.answers && decide (eid < 256) then some b else none
  | .session n b => if s.answers && (match tfind s.sec.sessions n with | some x => x.established | none => false) then some b else none

/-- The segment limit of the transport (R484). -/
def State.segmentLimit (s : State) : FrameFrom → Nat
  | .mailbox _ => 4096
  | .mctp _ _ => 1024
  | .session n _ => (match tfind s.sec.sessions n with | some x => if x.doe.isSome then 4096 else 1024 | none => 1024)

/-- Who sends a frame, and the code that its role meets: 0, ROLE_AMBIGUOUS, or ACCESS_DENIED for a role not held. -/
structure Party where
  who : Who
  code : Nat := 0
  deriving DecidableEq, Repr

/-- The session's requester owns a context, or did until a release it has not followed by a claim (16 R452, R468). -/
def State.holdsTenant (s : State) (n : Nat) : Bool :=
  (range2 1 16).any (fun c => s.tenantOf n c) || (match tfind s.sec.sessions n with | some x => !x.released.isEmpty | none => false)

/-- The role of a session's frame (R486): `claims` says that it writes CONTEXT_CLAIM, which a mutually authenticated session may
do before it owns a context (16 R455). (DEDUCED, notes/assumptions/134.) -/
def State.sessionParty (s : State) (n select : Nat) (claims : Bool) : Party :=
  let keyed := (match tfind s.sec.sessions n with | some x => x.key.isSome | none => false)
  let attested := (match tfind s.sec.sessions n with | some x => x.attested | none => false)
  let tenant := s.holdsTenant n || (claims && keyed)
  match select with
  | 0 =>
    if s.holdsTenant n && attested then { who := .tenant n, code := Abort.ROLE_AMBIGUOUS }
    else if tenant then { who := .tenant n }
    else if attested then { who := .attested n }
    else { who := .tenant n, code := Abort.ACCESS_DENIED }
  | 2 => { who := .attested n, code := if attested then 0 else Abort.ACCESS_DENIED }
  | _ => { who := .tenant n, code := if tenant then 0 else Abort.ACCESS_DENIED }

/-- The sender of a frame with a header. -/
def State.party (s : State) (src : FrameFrom) (h : Nat) : Party :=
  match src with
  | .mailbox f => { who := .host f }
  | .mctp eid _ => { who := .bmc eid }
  | .session n _ => s.sessionParty n (hdRole h) (hdCommand h == cmdWrite && hdIndex h == Obj.CONTEXT_CLAIM.index)

/-- The source lies outside a session. -/
def outside : FrameFrom → Bool
  | .session .. => false
  | _ => true

/-- Check 1 of R490: the header is incomplete, VERSION, COMMAND or a zero field is wrong, element fields are set on an object that
has none, or ROLE_SELECT is set outside a session. (DEDUCED, notes/assumptions/117.) -/
def frameBad (src : FrameFrom) (n h : Nat) : Bool :=
  decide (n < 32) || hdVersion h != 1 || hdResponse h || decide (4 < hdCommand h) || hdPending h || field h 240 2 != 0
    || field h 192 16 != 0 || field h 64 32 != 0 || hdRole h == 3 || (hdRole h != 0 && outside src)
    || (field h 160 32 != 0 && (match findObject (hdIndex h) (hdSub h) with | .ok o => !o.ranged | .error _ => false))
    || (hdCommand h == cmdWrite && hdExpedited h && decide (hdSize h < 8) && hdData h >>> (8 * hdSize h) != 0)

/-! ### Transfers (R479-R483) -/

/-- Bytes of read copies that are held (R487). -/
def State.readCopies (s : State) : Nat := ((tvals s.dict.transfers).map (fun t => if t.write then 0 else t.data.length)).sum

/-- No further transfer opens, or its copy of `n` bytes does not fit (R487). -/
def State.dictFull (s : State) (n : Nat) : Bool := decide (64 ≤ s.dict.transfers.length) || decide (4194304 < s.readCopies + n)

/-- A transfer of a requester replaced. -/
def State.setTransfer (s : State) (r : Nat) (t : Transfer) : State :=
  (s.setDict { s.dict with transfers := tset s.dict.transfers r t })

/-- A transfer of a requester gone. -/
def State.endTransfer (s : State) (r : Nat) : State := (s.setDict { s.dict with transfers := terase s.dict.transfers r })

/-- A READ initiation (R479, R481): the value at this moment, expedited when it is 8 bytes or less. -/
def State.frameRead (s : State) (p : Party) (h : Nat) : Reply × State :=
  match s.checked p.who (p.code != 0) false (hdIndex h) (hdSub h) (hdFirst h) (hdCount h) 0 with
  | .error c => (replyCode h c, s)
  | .ok o =>
    let n := o.addressed (hdFirst h) (hdCount h)
    let k := o.elem.length
    let size := o.bytesOf n.2
    if decide (8 < size) && s.dictFull size then (replyCode h Abort.BUSY, s)
    else
      let rd := s.readObject p.who o (hdSub h)
      if rd.code ≠ 0 then (replyCode h rd.code, s)
      else
        let bytes := putFields (o.widths (n.1 * k) (n.2 * k)) ((rd.fields.drop (n.1 * k)).take (n.2 * k))
        if size ≤ 8 then ({ header := responseHeader h true true false size 0 (ofLE bytes) }, rd.after)
        else ({ header := responseHeader h false false false size 0 0 },
          rd.after.setTransfer (Who.number p.who) { who := p.who, write := false, header := h, total := size, data := bytes })

/-- A value is written whole, and its requester answered: PENDING while FINISH of a firmware update runs (R481, R495). -/
def State.applyValue (s : State) (who : Who) (h : Nat) (bytes : Bytes) (flashOk : Bool) : Nat × Bool × State :=
  match findObject (hdIndex h) (hdSub h) with
  | .error c => (c, false, s)
  | .ok o =>
    let r := s.writeBytes who o (hdSub h) (hdFirst h) (hdCount h) bytes flashOk
    (r.1, r.1 == 0 && r.2.dict.updater == some (Who.number who) && s.dict.updater != r.2.dict.updater, r.2)

/-- A WRITE initiation (R479, R480). (DEDUCED, notes/assumptions/118.) -/
def State.frameWrite (s : State) (p : Party) (h : Nat) (flashOk : Bool) : Reply × State :=
  match s.checked p.who (p.code != 0) true (hdIndex h) (hdSub h) (hdFirst h) (hdCount h) (hdSize h) with
  | .error c => (replyCode h c, s)
  | .ok _ =>
    if hdExpedited h then
      if 8 < hdSize h then (replyCode h Abort.LENGTH_MISMATCH, s)
      else
        let r := s.applyValue p.who h (leBytes (hdSize h) (hdData h)) flashOk
        ({ header := responseHeader h true true r.2.1 0 r.1 0, code := r.1, pending := r.2.1 }, r.2.2)
    else if s.dictFull 0 then (replyCode h Abort.BUSY, s)
    else ({ header := responseHeader h false false false (hdSize h) 0 0 },
      s.setTransfer (Who.number p.who) { who := p.who, write := true, header := h, total := hdSize h })

/-- An INFO request (R478). (DEDUCED, notes/assumptions/122.) -/
def State.frameInfo (s : State) (p : Party) (h : Nat) : Reply × State :=
  match findObject (hdIndex h) (hdSub h) with
  | .error c => (replyCode h c, s)
  | .ok o =>
    if p.code ≠ 0 ∨ o.accessOf p.who (hdSub h) = .none then (replyCode h Abort.ACCESS_DENIED, s)
    else if s.served p.who o false = false then (replyCode h Abort.DEVICE_STATE, s)
    else ({ header := responseHeader h true true false 8 0 (s.infoWord p.who o (hdSub h)) }, s)

/-- A segment of a write (R480, R481): the last one applies the value. -/
def State.segmentIn (s : State) (p : Party) (t : Transfer) (h limit : Nat) (data : Bytes) (flashOk : Bool) : Reply × State :=
  let r := Who.number p.who
  let got := t.data ++ data
  if data.length ≠ hdSize h ∨ limit < data.length ∨ t.total < got.length ∨ (hdLast h = true ∧ got.length ≠ t.total)
      ∨ (hdLast h = false ∧ (data.length ≠ limit ∨ got.length = t.total)) then
    (replyCode h Abort.LENGTH_MISMATCH, s.endTransfer r)
  else if hdLast h then
    let a := (s.endTransfer r).applyValue p.who t.header got flashOk
    ({ header := responseHeader h false true a.2.1 0 a.1 0, code := a.1, pending := a.2.1 }, a.2.2)
  else ({ header := responseHeader h false false false 0 0 0 }, s.setTransfer r { t with data := got, toggle := !t.toggle })

/-- A segment of a read (R480). -/
def State.segmentOut (s : State) (p : Party) (t : Transfer) (h limit : Nat) : Reply × State :=
  let r := Who.number p.who
  if hdSize h ≠ 0 then (replyCode h Abort.LENGTH_MISMATCH, s.endTransfer r)
  else
    let now := t.data.take limit
    let rest := t.data.drop limit
    ({ header := responseHeader h false rest.isEmpty false now.length 0 0, data := now },
      if rest.isEmpty then s.endTransfer r else s.setTransfer r { t with data := rest, toggle := !t.toggle })

/-- A frame that names a transfer which is not open (R483, R489): the code under which it was closed, or NO_TRANSFER. -/
def State.noTransfer (s : State) (r h : Nat) : Reply × State :=
  match tfind s.dict.closed r with
  | some (id, code) =>
    if id = hdTransfer h then (replyCode h code, (s.setDict { s.dict with closed := terase s.dict.closed r }))
    else (replyCode h Abort.NO_TRANSFER, s)
  | none => (replyCode h Abort.NO_TRANSFER, s)

/-- The open transfer that a frame names. -/
def State.openTransfer (s : State) (r h : Nat) : Option Transfer :=
  match tfind s.dict.transfers r with
  | some t => if hdTransfer t.header = hdTransfer h then some t else none
  | none => none

/-- A SEGMENT frame (R480). -/
def State.frameSegment (s : State) (p : Party) (h limit : Nat) (data : Bytes) (flashOk : Bool) : Reply × State :=
  let r := Who.number p.who
  if p.code ≠ 0 then (replyCode h Abort.ACCESS_DENIED, s)
  else match s.openTransfer r h with
    | none => s.noTransfer r h
    | some t =>
      if hdToggle h ≠ t.toggle then (replyCode h Abort.TOGGLE_ERROR, s.endTransfer r)
      else if t.write then s.segmentIn p t h limit data flashOk
      else s.segmentOut p t h limit

/-- An ABORT frame (R480): confirmed, and nothing applies. (DEDUCED, notes/assumptions/120.) -/
def State.frameAbort (s : State) (p : Party) (h : Nat) : Reply × State :=
  let r := Who.number p.who
  if p.code ≠ 0 then (replyCode h Abort.ACCESS_DENIED, s)
  else (replyCode h 0, if (s.openTransfer r h).isSome then s.closeTransfer r Abort.TRANSFER_ABORTED else s)

/-! ### Performing a frame (R482, R488) -/

/-- The segment data of a frame: a mailbox's window holds SIZE bytes of it. -/
def segmentData (src : FrameFrom) (h : Nat) (b : Bytes) : Bytes :=
  match src with
  | .mailbox _ => ((b.drop 32) ++ List.replicate (min (hdSize h) 4096 - (b.length - 32)) 0).take (hdSize h)
  | _ => b.drop 32

/-- What a new frame leads to: checks 1 and 2 of R490, then its command. An initiation closes the requester's open transfer
(R486). (DEDUCED, notes/assumptions/119.) -/
def State.performFrame (s : State) (src : FrameFrom) (p : Party) (b : Bytes) (h : Nat) (flashOk : Bool) : Reply × State :=
  let init := s.closeTransfer (Who.number p.who) Abort.TRANSFER_ABORTED
  if frameBad src b.length h then (replyCode h Abort.FRAME_FORMAT, s)
  else if p.code = Abort.ROLE_AMBIGUOUS then (replyCode h Abort.ROLE_AMBIGUOUS, s)
  else match hdCommand h with
    | 0 => init.frameRead p h
    | 1 => init.frameWrite p h flashOk
    | 2 => s.frameInfo p h
    | 3 => s.frameSegment p h (s.segmentLimit src) (segmentData src h b) flashOk
    | _ => s.frameAbort p h

/-- A mailbox replaced. -/
def State.setMailbox (s : State) (f : Nat) (m : Mailbox) : State :=
  (s.setDict { s.dict with mailboxes := tset s.dict.mailboxes f m })

/-- The response leaves: into the mailbox, with RSP_READY and its interrupt (R485), or over the frame's transport. -/
def State.sendReply (s : State) (src : FrameFrom) (who : Who) (header : Nat) (data : Bytes) : State :=
  match src with
  | .mailbox f =>
    let m := tget {} s.dict.mailboxes f
    (s.setMailbox f { m with header := header, data := data, ready := true, busy := false }).interrupt f m.irq
  | _ => s.emit (.frame who header data)

/-- Counts of DICT_STATS (R496): answers that carry an abort code, and those that carry BUSY.
(DEDUCED, notes/assumptions/121.) -/
def State.countReply (s : State) (code : Nat) : State :=
  let s := if code = 0 then s else s.bumpF Obj.DICT_STATS 0 1 1
  if code = Abort.BUSY then s.bumpF Obj.DICT_STATS 0 4 1 else s

/-- A frame is performed: a repeat of the requester's last one is answered from what is kept (R482); any other is performed and
kept. When a device reset begins, what was kept is lost and no response leaves (R493). (DEDUCED, notes/assumptions/123.) -/
def State.frameIn (s : State) (src : FrameFrom) (b : Bytes) (flashOk : Bool) : State :=
  let h := ofLE (b.take 32)
  let p := s.party src h
  let r := Who.number p.who
  let s := s.bumpF Obj.DICT_STATS 0 0 1
  match (tfind s.dict.kept r).filter (fun k => k.request == b) with
  | some k => (s.bumpF Obj.DICT_STATS 0 2 1).sendReply src p.who k.header k.data
  | none =>
    let x := s.performFrame src p b h flashOk
    let t := x.2.countReply x.1.code
    if t.answers then
      let k : Kept := { request := b, header := x.1.header, data := x.1.data, pending := x.1.pending }
      ((t.setDict { t.dict with kept := tset t.dict.kept r k })).sendReply src p.who x.1.header x.1.data
    else x.2

/-- The frame belongs to a row: it carries the row's COMMAND, or none that is defined. -/
def frameOfRow (cmd : Nat) (b : Bytes) : Bool :=
  let h := ofLE (b.take 32)
  hdCommand h == cmd || decide (b.length < 32) || decide (4 < hdCommand h)

/-- The frame reaches the vendor test range, whose objects are not published (17 R494, 16 R466). -/
def State.vendorFrame (s : State) (src : FrameFrom) (b : Bytes) : Bool :=
  let h := ofLE (b.take 32)
  s.sec.unlocked && decide (0xF000 ≤ hdIndex h) && decide (hdCommand h ≤ 2) && !(frameBad src b.length h)

/-- A row that carries a frame. (DESIGN CHOICE, notes/assumptions/125.) -/
def frameRow (cmd : Nat) (source : FrameFrom) (flashOk : Bool) (s : State) : Res :=
  match s.frameBytes source with
  | none => .next s
  | some b =>
    if frameOfRow cmd b = false then .next s
    else if s.vendorFrame source b then .refused .vendorTestRange
    else .next (s.frameIn source b flashOk)

/-- DICT_READ (R479, R481, R490). -/
def execDictRead (source : FrameFrom) (s : State) : Res := frameRow cmdRead source true s

/-- DICT_WRITE (R479, R480, R490). -/
def execDictWrite (source : FrameFrom) (flashOk : Bool) (s : State) : Res := frameRow cmdWrite source flashOk s

/-- DICT_INFO (R478). -/
def execDictInfo (source : FrameFrom) (s : State) : Res := frameRow cmdInfo source true s

/-- DICT_SEGMENT (R480). -/
def execDictSegment (source : FrameFrom) (flashOk : Bool) (s : State) : Res := frameRow cmdSegment source flashOk s

/-- DICT_ABORT (R480). -/
def execDictAbort (source : FrameFrom) (s : State) : Res := frameRow cmdAbort source true s

/-- SEGMENT_TIMEOUT (R483): the transfer has had no frame for 1 s. -/
def execSegmentTimeout (requester : Nat) (s : State) : Res :=
  .next (if (tfind s.dict.transfers requester).isSome then
      (s.bumpF Obj.DICT_STATS 0 3 1).closeTransfer requester Abort.SEGMENT_TIMEOUT
    else s)

/-! ### The mailbox window (R485) -/

/-- The mailbox window of a function is reached. -/
def State.mailboxReached (s : State) (f : Nat) : Bool :=
  s.answers && s.functionExists f && !s.power.perst && !(s.pins.d3hot.contains f)

/-- MBX_CONTROL_GO (R485): REQ_HEADER and REQ_DATA as the window holds them, and MBX_IRQ.
(DESIGN CHOICE, notes/assumptions/124.) -/
def execMbxControlGo (function value irq : Nat) (frame : Bytes) (s : State) : Res :=
  .next (if s.mailboxReached function && bit value 0 then
      let m := tget {} s.dict.mailboxes function
      if m.busy then s.setMailbox function { m with overrun := true }
      else s.setMailbox function { m with request := frame.take 4128, irq := irq % 2048, busy := true, ready := false }
    else s)

/-- MBX_STATUS_CLEAR (R485): a 1 in bit 2 clears OVERRUN. -/
def execMbxStatusClear (function value : Nat) (s : State) : Res :=
  .next (if s.mailboxReached function && bit value 2 then
      s.setMailbox function { tget {} s.dict.mailboxes function with overrun := false }
    else s)

end Sys2Proof.Machine
end

