-- ==== Sys2Proof/Machine/FabricTarget.lean ====
section
/-! DEFINITION. Sys2Proof/Machine/FabricTarget.lean: the target agent: requests performed exactly once, the reply cache,
tombstones and horizons (12_fabric_memory R331-R339, R348).
(DESIGN CHOICE, notes/assumptions/82.) -/

namespace Sys2Proof.Machine

/-- A request as the target agent meets it. -/
structure Arrived where
  node : Nat
  vc : Nat
  ctx : Nat
  epoch : Nat
  record : FabRecord
  deriving DecidableEq, Repr

/-- What performing a request gives. -/
structure Performed where
  status : Status
  outcome : FabOutcome := .notApplied
  value : Nat := 0
  data : Bytes := []
  deriving DecidableEq, Repr

/-- The slice that a request goes to by its offset (R336). -/
def sliceOf (o : Nat) : Nat :=
  let x := fun (a b c d : Nat) => field o a 1 ^^^ field o b 1 ^^^ field o c 1 ^^^ field o d 1
  if apertureBase ≤ o then 0 else x 7 9 11 13 + 2 * x 8 10 12 14

/-- A delivered fabric record has the form of the reply to a request of this device that is outstanding: by its layout alone a reply may
be a request too (R334; DEDUCED, notes/assumptions/164). -/
def State.replyLike (s : State) (d : Delivered) : Bool :=
  let w := ofBE (d.bytes.take 32)
  field w 232 8 == 0 && field w 128 72 == 0 && field w 0 64 == 0
    && (match s.req? d.node (replyAt d.bytes).fseq with | some r => r.op == (replyAt d.bytes).op | none => false)

/-- A request need not wait for one that came before it: another slice performs it (R336). A RESOLVE waits for the requests before it
in its flow, and they do not pass it (R339). -/
def passes (before after : Delivered) : Bool :=
  let a := requestAt before.bytes
  let b := requestAt after.bytes
  if a.op = 4 ∨ b.op = 4 then before.node != after.node || before.vc != after.vc else sliceOf a.off != sliceOf b.off

/-- The delivered records that no request before them in their slice holds back, each with its place. -/
def State.ready (s : State) : List Delivered → List Delivered → List Delivered
  | _, [] => []
  | before, d :: r =>
    if fabricsRecord d = false then s.ready before r
    else
      let rest := s.ready (if s.replyLike d then before else before ++ [d]) r
      if before.all (fun x => passes x d) then d :: rest else rest

/-- A reply leaves on the flow's VC. -/
def State.fabReply (s : State) (a : Arrived) (r : FabReply) : State := s.sendRecord a.node a.vc a.ctx r.bytes .none

/-- The reply of what has been performed. -/
def Arrived.reply (a : Arrived) (p : Performed) : FabReply :=
  { op := a.record.op, status := p.status.code, outcome := p.outcome.code, fseq := a.record.fseq, value := p.value, data := p.data }

/-- FACK of a request frees the entries, tombstones and horizons it has passed (R337, R339). -/
def State.fabPassed (s : State) (a : Arrived) : State :=
  let gone := fun (node epoch fseq : Nat) => node == a.node && epoch == a.epoch && behind a.record.fack fseq
  s.setFab { s.fab with entries := s.fab.entries.filter (fun e => !(gone e.node e.epoch e.fseq)),
                        horizons := s.fab.horizons.filter (fun e => !(gone e.node e.epoch e.fseq)) }

/-- The highest FSEQ of the source in the context, in serial order (R339). -/
def State.fabSeen (s : State) (a : Arrived) : State :=
  let same := fun (m : FabMark) => m.node == a.node && m.epoch == a.epoch && m.ctx == a.ctx
  match s.fab.seen.find? same with
  | none => s.setFab { s.fab with seen := s.fab.seen ++ [⟨a.node, a.epoch, a.ctx, a.record.fseq⟩] }
  | some m =>
    if behind m.fseq a.record.fseq then s
    else s.setFab { s.fab with seen := s.fab.seen.map (fun x => if same x then { x with fseq := a.record.fseq } else x) }

/-! ### What a request does to the target's memory -/

/-- Some page that `n` bytes from an offset touch is retired (13_hbm_and_ecc R369). -/
def State.touchesRetired (s : State) (c o n : Nat) : Bool :=
  !(decide (apertureBase ≤ o)) && (range2 (s.phys c o / 4096) ((s.phys c o + n - 1) / 4096 + 1)).any (fun k => s.pageRetired (4096 * k))

/-- A word of facet memory that a read would find uncorrectable. -/
def State.wordLost (s : State) (w : Nat) : Bool :=
  s.fm.poison.contains w || (match tfind s.fm.flips w with | some (d, k) => decide (1 < bitErrors d k) | none => false)

/-- The space of R331 serves the context these bytes. -/
def State.fabServes (s : State) (c o n : Nat) : Bool :=
  if apertureBase ≤ o then s.apertureServes c o n else s.inRegion c o n && s.keyed c

/-- A target word of these bytes is uncorrectable (R348). -/
def State.targetLost (s : State) (c o n : Nat) : Bool :=
  if apertureBase ≤ o then (wordsOf (o - apertureBase) n).any s.wordLost else (sectorsOf (s.phys c o) n).any s.sectorLost

/-- Bytes written for a request: all of them or none (R331, R336, R348). An uncorrectable target word is found by reading it. -/
def State.fabWrite (s : State) (c o : Nat) (b : Bytes) : Status × State :=
  if s.fabServes c o b.length = false then (.failedProtection, s)
  else if s.touchesRetired c o b.length then (.failedUncorrectable, s)
  else if s.targetLost c o b.length then (.failedUncorrectable, (s.ctxRead c o b.length 10).2)
  else match s.ctxWrite c o b with
    | (p, s) => (p.status, s)

/-- LOAD takes 8 bytes, 128 bytes, or 32 to 4,064 in multiples of 32, at its alignment (R332, R334). -/
def loadFits (o n : Nat) : Bool :=
  (n == 8 && o % 8 == 0) || (n == 128 && o % 32 == 0) || (n % 32 == 0 && decide (32 ≤ n) && decide (n ≤ 4064) && o % 32 == 0)

/-- A LOAD (R331, R348): poisoned data is returned with its status. -/
def State.doLoad (s : State) (a : Arrived) : Performed × State :=
  let n := a.record.operand
  if loadFits a.record.off n then
    let (g, s) := s.ctxRead a.ctx a.record.off n 10
    if g.protection then ({ status := .failedProtection }, s)
    else if n = 8 then ({ status := g.status, value := g.num }, s)
    else ({ status := g.status, data := g.bytes }, s)
  else ({ status := .failedProtection }, s)

/-- A STORE of 8 bytes. -/
def State.doStore (s : State) (a : Arrived) : Performed × State :=
  if a.record.off % 8 = 0 then
    match s.fabWrite a.ctx a.record.off (leBytes 8 a.record.operand) with
    | (.ok, s) => ({ status := .ok, outcome := .applied }, s)
    | (st, s) => ({ status := st }, s)
  else ({ status := .failedProtection }, s)

/-- A PUT chunk (R346). -/
def State.doPut (s : State) (a : Arrived) : Performed × State :=
  let n := a.record.data.length
  if a.record.off % 32 = 0 ∧ n % 32 = 0 ∧ n ≠ 0 then
    match s.fabWrite a.ctx a.record.off a.record.data with
    | (.ok, s) => ({ status := .ok, outcome := .applied }, s)
    | (st, s) => ({ status := st }, s)
  else ({ status := .failedProtection }, s)

/-- Bytes of an atomic's word (R332). -/
def atomicSize (ty : Nat) : Nat := if ty = 1 then 8 else 4

/-- ADD of a type (R332). -/
def atomicAdd (ty old x : Nat) : Nat :=
  if ty = 0 then (old + x) % 2 ^ 32 else if ty = 1 then (old + x) % 2 ^ 64 else fAdd (old % 2 ^ 32) (x % 2 ^ 32)

/-- MIN and MAX of a type: the old value stays when the two compare equal (R332). -/
def atomicMin (ty old x : Nat) : Nat :=
  if ty = 2 then fMin old (x % 2 ^ 32)
  else let w := 8 * atomicSize ty; if toInt w x < toInt w old then x % 2 ^ w else old
def atomicMax (ty old x : Nat) : Nat :=
  if ty = 2 then fMax old (x % 2 ^ 32)
  else let w := 8 * atomicSize ty; if toInt w old < toInt w x then x % 2 ^ w else old

/-- An ATOMIC: one indivisible read-modify-write of its word (R336, 13_hbm_and_ecc R361). `f` gives the new value from the old one; none: nothing is written. -/
def State.doAtomic (s : State) (a : Arrived) (f : Nat → Option Nat) : Performed × State :=
  let n := atomicSize a.record.ty
  if a.record.ty ≤ 2 ∧ a.record.off % n = 0 then
    let (g, s) := s.ctxUpdate a.ctx a.record.off n (fun b => (f (ofLE b)).map (leBytes n)) 10
    match g.status with
    | .ok => ({ status := .ok, outcome := .applied, value := g.num }, s)
    | st => ({ status := st }, s)
  else ({ status := .failedProtection }, s)

/-! ### Exactly once (R337, R338) -/

/-- The first request of a flow that a command names and whose turn has come in its slice: taken out, its FACK applied (R336). -/
def State.takeRequest (s : State) (node vc : Nat) (want : FabRecord → Bool) : Option (Arrived × State) :=
  let turn := s.ready [] s.hup.inbox
  match s.takeInbox node vc (fun d => fabricsRecord d && want (requestAt d.bytes) && turn.contains d) with
  | none => none
  | some (d, t) =>
    let a : Arrived := { node := node, vc := vc, ctx := d.ctx, epoch := d.epoch, record := requestAt d.bytes }
    some (a, t.fabPassed a)

/-- The reply-cache entry of a request. -/
def State.fabEntry (s : State) (a : Arrived) : Option FabEntry :=
  s.fab.entries.find? (fun e => e.node == a.node && e.epoch == a.epoch && e.fseq == a.record.fseq)

/-- First word of an entry in the reply cache's SRAM (13_hbm_and_ecc R360; DESIGN CHOICE, notes/assumptions/167). -/
def cacheWord (fseq : Nat) : Nat := 4 * (fseq % 16384)

/-- The reply from a cache entry; from one with a poisoned word, that its outcome is unknown. -/
def State.cachedReply (s : State) (a : Arrived) (e : FabEntry) : State :=
  let (dead, s) := s.sramRead 6 0 (cacheWord e.fseq) (cacheWord e.fseq + 4) e.ctx 0xFFFF
  let s := s.bump Obj.FABRIC_DUP_REPLY_COUNT 0
  s.fabReply a (if dead.isEmpty then
      { op := e.op, status := e.status, outcome := e.outcome, cached := true, fseq := e.fseq, value := e.value }
    else { op := e.op, status := Status.failedUncorrectable.code, outcome := FabOutcome.unknown.code, cached := true, fseq := e.fseq })

/-- A STORE, ATOMIC or PUT: answered from the reply cache, turned away BUSY when the cache is full, or performed and entered
(R337, R338). -/
def State.once (s : State) (a : Arrived) (act : State → Arrived → Performed × State) : State :=
  match s.fabEntry a with
  | some e => s.cachedReply a e
  | none =>
    let s := s.fabSeen a
    if s.reg Obj.FABRIC_RCACHE_ENTRIES ≤ s.fab.entries.length + s.fab.horizons.length then
      (s.bump Obj.FABRIC_BUSY_COUNT 0).fabReply a
        { op := a.record.op, status := 0, outcome := 0, busy := true, fseq := a.record.fseq }
    else
      let (p, s) := act s a
      let s := match p.outcome with
        | .applied =>
          let e : FabEntry := { node := a.node, epoch := a.epoch, fseq := a.record.fseq, op := a.record.op, status := p.status.code,
                                outcome := 1, value := p.value, ctx := a.ctx, gen := s.gen a.ctx }
          (s.setFab { s.fab with entries := s.fab.entries ++ [e] }).sramWrote 6 0 (cacheWord e.fseq) (cacheWord e.fseq + 4)
        | _ => s
      s.fabReply a (a.reply p)

/-- A request that is performed once. -/
def State.performOnce (s : State) (node vc : Nat) (want : FabRecord → Bool) (act : State → Arrived → Performed × State) : State :=
  match s.takeRequest node vc want with
  | some (a, s) => s.once a act
  | none => s

/-- FABRIC_LOAD (R334). -/
def execFabricLoad (node vc : Nat) (s : State) : Res :=
  .next (match s.takeRequest node vc (fun r => r.op == 0) with
    | some (a, s) =>
      let (p, s) := (s.fabSeen a).doLoad a
      s.fabReply a (a.reply p)
    | none => s)

/-- FABRIC_STORE (R337). -/
def execFabricStore (node vc : Nat) (s : State) : Res := .next (s.performOnce node vc (fun r => r.op == 1) State.doStore)

/-- An ATOMIC of one operation. -/
def State.atomicRow (s : State) (node vc aop : Nat) (f : Nat → Nat → Nat → Nat → Option Nat) : State :=
  s.performOnce node vc (fun r => r.op == 2 && r.aop == aop)
    (fun s a => s.doAtomic a (fun old => f a.record.ty old a.record.operand a.record.compare))

/-- FABRIC_ATOMIC_ADD (R336). -/
def execFabricAtomicAdd (node vc : Nat) (s : State) : Res :=
  .next (s.atomicRow node vc 0 (fun ty old x _ => some (atomicAdd ty old x)))

/-- FABRIC_ATOMIC_MIN (R336). -/
def execFabricAtomicMin (node vc : Nat) (s : State) : Res :=
  .next (s.atomicRow node vc 1 (fun ty old x _ => some (atomicMin ty old x)))

/-- FABRIC_ATOMIC_MAX (R336). -/
def execFabricAtomicMax (node vc : Nat) (s : State) : Res :=
  .next (s.atomicRow node vc 2 (fun ty old x _ => some (atomicMax ty old x)))

/-- FABRIC_ATOMIC_CAS (R336): the operand is written when the word's bits equal the compare bits (R332). -/
def execFabricAtomicCas (node vc : Nat) (s : State) : Res :=
  .next (s.atomicRow node vc 3 (fun ty old x cmp =>
    let w := 8 * atomicSize ty
    if old = cmp % 2 ^ w then some (x % 2 ^ w) else none))

/-- FABRIC_PUT_CHUNK (R346). -/
def execFabricPutChunk (node vc : Nat) (s : State) : Res := .next (s.performOnce node vc (fun r => r.op == 3) State.doPut)

/-- What a RESOLVE finds (R339): a tombstone; a request beyond the horizon, or no horizon; or one at or below it. -/
def State.resolved (s : State) (a : Arrived) : Performed :=
  let q := a.record.operand % 2 ^ 32
  match s.fab.entries.find? (fun e => e.node == a.node && e.epoch == a.epoch && e.fseq == q) with
  | some e => { status := .failedContextReset, outcome := .applied, value := e.value }
  | none =>
    match s.fab.horizons.find? (fun h => h.node == a.node && h.epoch == a.epoch && h.ctx == a.ctx) with
    | none => { status := .failedContextReset }
    | some h =>
      if h.fseq ≠ q ∧ behind h.fseq q = false then { status := .failedContextReset }
      else { status := .failedContextReset, outcome := .unknown }

/-- FABRIC_RESOLVE (R339). -/
def execFabricResolve (node vc : Nat) (s : State) : Res :=
  .next (match s.takeRequest node vc (fun r => r.op == 4) with
    | some (a, s) => s.fabReply a (a.reply (s.resolved a))
    | none => s)

/-- TOMBSTONE_EXPIRY (R339). -/
def execTombstoneExpiry (node epoch fseq : Nat) (s : State) : Res :=
  .next (s.setFab { s.fab with entries := s.fab.entries.filter (fun e =>
    !(e.tomb && e.node == node && e.epoch == epoch && e.fseq == fseq)) })

end Sys2Proof.Machine
end

