-- ==== Sys2Proof/Machine/FabricThread.lean ====
section
/-! DEFINITION. Sys2Proof/Machine/FabricThread.lean: the fabric instructions of a facet thread (05_vector_engine_and_sequencer
R152, 12_fabric_memory R332, R342-R344). -/

namespace Sys2Proof.Machine

/-- The issuer of a program's requests: the order of its slot's start and its descriptor's position (R347). -/
def State.programIssuer (s : State) (f t : Nat) : Option (Nat × Nat) :=
  match s.thread? f t, s.prog? f t with
  | some th, some p => some (th.serial, match s.item? p.item with | some it => it.pos | none => 0)
  | _, _ => none

/-- The thread waits for the request that is issued next; it is switched out (R144). -/
def State.waitReply (s : State) (f t : Nat) : State := s.switchOut f t (.reply s.fab.serial)

/-- A fabric request of thread `t` in its context. -/
def threadRequest (c node op addr : Nat) (issuer : Option (Nat × Nat)) (why : FabFor) : FabReq :=
  { serial := 0, node := node, ctx := c, gen := 0, op := op, off := faOff addr, addr := addr, why := why, issuer := issuer }

/-- A request that cannot be sent counts as one that failed FAILED_PROTECTION (R348, R352). -/
def State.denied (s : State) (c : Nat) : State := s.bump Obj.FABRIC_PROTECTION_COUNT c

/-- The address of a thread access may be sent to this node: aligned to `n` bytes (R332). -/
def State.threadTarget (s : State) (c a n : Nat) : Option Nat := if a % n = 0 then s.fabTarget c a else none

/-- FLD (R332, R343): switched out until the value is there. -/
def execFld (facet thread : Nat) (s : State) : Res :=
  .next (s.insn facet thread 0x18 (fun _ w s =>
    let c := match s.thread? facet thread with | some th => th.ctx | none => 0
    let a := s.sget facet thread (iSA w)
    let now := fun (s : State) (st : Status) (v : Nat) =>
      ((s.switchOut facet thread (.reply s.fab.serial)).loadEnded facet thread (iSD w) (iSB w) a st .notApplied v false).arrive facet thread
    if s.spoisoned facet thread (iSA w) then
      now s .failedUncorrectable 0
    else match s.threadTarget c a 8 with
      | none => now (s.denied c) .failedProtection 0
      | some node =>
        let cached := !(bit (iImm w) 0) && !(decide (apertureBase ≤ faOff a)) && node != s.node
        let plain := threadRequest c node 0 a (s.programIssuer facet thread)
          (.load facet thread (iSD w) (iSB w) cached)
        if cached then
          match s.lineOf c a with
          | some l => now (s.bump Obj.FABRIC_CACHE_HITS c) .ok (ofLE ((l.bytes.drop (a % 128)).take 8))
          | none =>
            ((s.bump Obj.FABRIC_CACHE_MISSES c).waitReply facet thread).fabIssue
              { plain with off := faOff a - a % 128, operand := 128 }
        else (s.waitReply facet thread).fabIssue { plain with operand := 8 }))

/-- An FST that is not sent has failed at once (R342). -/
def State.postFailed (s : State) (f t addr kind : Nat) (st : Status) : State :=
  let n := s.fab.serial
  let s := s.setFab { s.fab with serial := n + 1 }
  let c := match s.thread? f t with | some th => th.ctx | none => 0
  let s := s.noteFailure c (s.programIssuer f t) st
  match s.thread? f t with
  | some th => (s.setThread f t { th with fails := tset th.fails n st.code }).remoteEnded f t kind addr st
  | none => s

/-- A request is one of those whose outcome its thread's fences wait for. -/
def State.posting (s : State) (f t : Nat) (store : Bool) : State :=
  match s.thread? f t with
  | some th =>
    let n := s.fab.serial
    s.setThread f t { th with posted := nsInsert th.posted n, stores := if store then nsInsert th.stores n else th.stores }
  | none => s

/-- FST (R332): posted; with 32 outstanding the thread is switched out and issues it later (R144). A poisoned register sends an
open value (DESIGN CHOICE, notes/assumptions/17). -/
def execFst (facet thread : Nat) (s : State) : Res :=
  .next (s.onInsn facet thread 0x19 (fun p w s =>
    match s.thread? facet thread with
    | none => s
    | some th =>
      if 32 ≤ th.stores.length then s.switchOut facet thread .store
      else
        let a := s.sget facet thread (iSA w)
        let bad := s.spoisoned facet thread (iSD w)
        let v := if bad then s.fresh (2 ^ 64) else s.sget facet thread (iSD w)
        let s := if bad then s.took else s
        let s :=
          if s.spoisoned facet thread (iSA w) then s.postFailed facet thread a 0x19 .failedUncorrectable
          else match s.threadTarget th.ctx a 8 with
            | none => (s.denied th.ctx).postFailed facet thread a 0x19 .failedProtection
            | some node =>
              ((s.finvRange th.ctx a 8).posting facet thread true).fabIssue
                { threadRequest th.ctx node 1 a (s.programIssuer facet thread) (.store facet thread p.item) with operand := v }
        s.goto facet thread (p.pc + 1)))

/-- A FATOM of one operation (R332): the thread is switched out until the old value is there. -/
def State.fatom (s : State) (f t aop : Nat) : State :=
  s.onInsn f t 0x1A (fun p w s =>
    if field w 0 4 ≠ aop then s
    else
      let c := match s.thread? f t with | some th => th.ctx | none => 0
      let a := s.sget f t (iSA w)
      let ty := field w 4 4
      let n := if ty = 1 then 8 else 4
      let stop := fun (s : State) (st : Status) =>
        let s := (s.switchOut f t (.reply s.fab.serial)).postFailed f t a (0x1A + 256 * aop) st
        ((s.sset f t (iSD w) 0).sset f t (iSD w + 1) (statusWord st .notApplied)).arrive f t
      let bad := s.spoisoned f t (iSB w) || (aop == 3 && s.spoisoned f t (iSB w + 1))
      let x := if bad then s.fresh (2 ^ 64) else s.sget f t (iSB w)
      let s := if bad then s.took else s
      let s :=
        if s.spoisoned f t (iSA w) then stop s .failedUncorrectable
        else match s.threadTarget c a n with
          | none => stop (s.denied c) .failedProtection
          | some node =>
            (((s.finvRange c a n).posting f t false).waitReply f t).fabIssue
              { threadRequest c node 2 a (s.programIssuer f t) (.atomic f t (iSD w)) with
                aop := aop, ty := ty, operand := if ty = 1 then x else x % 2 ^ 32,
                compare := if aop = 3 then (let y := s.sget f t (iSB w + 1); if ty = 1 then y else y % 2 ^ 32) else 0 }
      s.goto f t (p.pc + 1))

/-- FATOM_ADD (R332). -/
def execFatomAdd (facet thread : Nat) (s : State) : Res := .next (s.fatom facet thread 0)

/-- FATOM_MIN (R332). -/
def execFatomMin (facet thread : Nat) (s : State) : Res := .next (s.fatom facet thread 1)

/-- FATOM_MAX (R332). -/
def execFatomMax (facet thread : Nat) (s : State) : Res := .next (s.fatom facet thread 2)

/-- FATOM_CAS (R332). -/
def execFatomCas (facet thread : Nat) (s : State) : Res := .next (s.fatom facet thread 3)

/-- FFENCE (R342): ready once every earlier FST and FATOM of the thread has an outcome. -/
def execFfence (facet thread : Nat) (s : State) : Res :=
  .next (s.insn facet thread 0x1B (fun _ w s =>
    match s.thread? facet thread with
    | none => s
    | some th =>
      let s := s.switchOut facet thread (.fence (iSD w))
      if th.posted.isEmpty then (s.sset facet thread (iSD w) th.fenceValue).arrive facet thread else s))

/-- FINV (R344). -/
def execFinv (facet thread : Nat) (s : State) : Res :=
  .next (s.insn facet thread 0x1C (fun _ w s =>
    let c := match s.thread? facet thread with | some th => th.ctx | none => 0
    s.finvRange c (s.sget facet thread (iSA w)) (s.sget facet thread (iSB w))))

end Sys2Proof.Machine
end

