-- ==== Sys2Proof/Machine/RouterBack.lean ====
section
/-! DEFINITION. Sys2Proof/Machine/RouterBack.lean: the router's backward operations (08_backward_and_training R229-R236).
(DEDUCED, notes/assumptions/74.) -/

namespace Sys2Proof.Machine

/-! ### BWD_ROUTE (R231) -/

/-- The returned assignments of a token are marked SENT again; the answer lists them with their ranks. -/
def State.markSent (s : State) (n : Nat) (it : Item) (t : Nat) : List (Nat × Nat) → List (Nat × Nat) × State
  | [] => ([], s)
  | (r, a) :: l =>
    if aState a = asReturned then
      let s := s.sWrite n it.ctx (rdAddr it.desc 0 + 128 * t + 16 * r) (leBytes 16 (putField a 102 2 asSent))
      let q := s.markSent n it t l
      ((r, a) :: q.1, q.2)
    else s.markSent n it t l

/-- The assignments of the tokens from `t` up that have a gradient to send: token, rank, entry. An uncorrectable row sends
nothing (DEDUCED, notes/assumptions/22). -/
def State.sentAgain (s : State) (n : Nat) (it : Item) : List Nat → List (Nat × List (Nat × Nat)) × State
  | [] => ([], s)
  | t :: ts =>
    let ((b, bad), s) := s.rRead n it.ctx (rdAddr it.desc 0 + 128 * t) 128
    let (l, s) := if bad then ([], s) else s.markSent n it t ((List.range (rdTopK it.desc)).zip (entriesOf 16 8 b))
    let q := s.sentAgain n it ts
    (if l.isEmpty then q.1 else (t, l) :: q.1, q.2)

/-- The backward dispatch records of the tokens. -/
def State.gradRecords (s : State) (n : Nat) (it : Item) (tag : Nat) : List (Nat × List (Nat × Nat)) → List (Nat × Bytes) × State
  | [] => ([], s)
  | (t, l) :: xs =>
    let d := it.desc
    let h := rdHidden d
    let (body, s) := s.readPayload n it.ctx (rdFmt d) (rdBlock d) h (rdAddr d 2 + t * dataPitch (rdFmt d) h)
      (rdAddr d 3 + t * scalePitch (rdBlock d) h)
    let recs := l.map (fun (e : Nat × Nat) =>
      (aHost e.2, tokenRecord
        { expert := aExpert e.2, source := s.rank it.ctx, kind := 0, token := t, slot := aSlot e.2, micro := rdMicro d,
          layer := rdLayer d, batch := s.batchEpoch it.ctx (rdMicro d), epoch := aEpoch e.2, rank := e.1, spill := aSpill e.2,
          block := rdBlockCode d, fmt := rdFmt d, len := h, back := true, weight := aWeight e.2, step := it.step % 65536,
          tag := tag } body))
    let q := s.gradRecords n it tag xs
    (recs ++ q.1, q.2)

/-- A BWD_ROUTE runs. Its tokens' return buffers are acquired as ROUTE acquires them (DEDUCED, notes/assumptions/23). -/
def State.runBwdRoute (s : State) (n : Nat) (it : Item) (w : Nat) (_ : List Placement) : State :=
  let d := it.desc
  let (l, s) := s.sentAgain n it (List.range (rdTokens d))
  match s.acquireBufs it.ctx d (l.map (·.1)) with
  | (false, s) => (s.meet n .failedQuota).stageRecords n it w [] []
  | (true, s) =>
    let (recs, s) := s.gradRecords n it (s.tagOf it.ctx w) l
    s.stageRecords n it w recs []

/-- BWD_ROUTE (R231). -/
def execBwdRoute (item : Nat) (s : State) : Res := .next (s.routerOp item 0x44 State.runBwdRoute)

/-! ### BWD_CONSUME (R232) -/

/-- What the compaction of a local expert's backward rows has found. -/
structure BackRows where
  /-- Stored records that an arrival entry names: source and slot. -/
  named : List (Nat × Nat) := []
  /-- Rows that received a gradient. -/
  got : List Nat := []
  deriving DecidableEq, Repr

/-- A gradient row and its gate weight are written. -/
def State.putGrad (s : State) (n : Nat) (it : Item) (entry r : Nat) (data scales : Bytes) (weight : Nat) : State :=
  let d := it.desc
  let h := rdHidden d
  let s := s.sWrite n it.ctx (beIn entry + r * dataPitch (rdFmt d) h) data
  let s := if blockScaled (rdFmt d) then s.sWrite n it.ctx (beScale entry + r * scalePitch (rdBlock d) h) scales else s
  s.sWrite n it.ctx (beGateIn entry + 4 * r) (leBytes 4 weight)

/-- A row without a gradient. -/
def State.putZero (s : State) (n : Nat) (it : Item) (entry r : Nat) : State :=
  let d := it.desc
  let z := uniformRow (rdFmt d) (rdBlock d) (rdHidden d) (.fin false 0 0)
  s.putGrad n it entry r z.1 z.2 0

/-- The row of one arrival entry. -/
def State.backRow (s : State) (n : Nat) (it : Item) (w loc entry : Nat) (x : BackRows) (r : Nat) : BackRows × State :=
  let d := it.desc
  let c := it.ctx
  let fmt := rdFmt d
  let h := rdHidden d
  let ((a, bad), s) := s.rNum n c (beArrivals entry + 8 * r) 8
  if bad then
    let z := uniformRow fmt (rdBlock d) h .nan
    (x, s.putGrad n it entry r z.1 z.2 nan32)
  else
    match s.ring? c it.step w loc (avSource a) with
    | none => (x, s.putZero n it entry r)
    | some b =>
      if b.filled.contains (avSlot a) && !(s.contribDropped c it.step w (avSource a)) then
        let nd := rowBytes fmt h
        let ((m, mbad), s) := s.ringRead n c (b.base + avSlot a * slotBytes fmt (rdBlock d) h) (32 + nd + payScales fmt (rdBlock d) h)
        let hd := recordHeader m
        let x := { x with named := (avSource a, avSlot a) :: x.named }
        if mbad then
          let z := uniformRow fmt (rdBlock d) h .nan
          ({ x with got := x.got ++ [r] }, s.putGrad n it entry r z.1 z.2 nan32)
        else if hd.token = avToken a ∧ hd.rank = avRank a then
          ({ x with got := x.got ++ [r] }, s.putGrad n it entry r ((m.drop 32).take nd) (m.drop (32 + nd)) hd.weight)
        else (x, ((s.bump Obj.ROUTER_PROTOCOL_COUNT c).meet n .failedProtection).putZero n it entry r)
      else (x, s.putZero n it entry r)

/-- The rows of a local expert in arrival-list order. -/
def State.backRowsFrom (s : State) (n : Nat) (it : Item) (w loc entry : Nat) (x : BackRows) : List Nat → BackRows × State
  | [] => (x, s)
  | r :: rs =>
    let (x, s) := s.backRow n it w loc entry x r
    s.backRowsFrom n it w loc entry x rs

/-- One local expert of a BWD_CONSUME; the answer is its forward count. -/
def State.backOne (s : State) (n : Nat) (it : Item) (w : Nat) (e : Nat × Nat) : Nat × State :=
  let d := it.desc
  let c := it.ctx
  let ((v, bad), s) := s.rNum n c (beCountIn e.2) 4
  let count := if bad then 0 else v
  let (x, s) := s.backRowsFrom n it w e.1 e.2 {} (List.range count)
  let extra := (s.router.rings.filter (fun b => b.ctx == c && b.step == it.step % 65536 && b.window == w && b.loc == e.1
      && !(s.contribDropped c it.step w b.source))).flatMap
    (fun b => (b.filled.map (fun k => (b.source, k))).filter (fun k => !(x.named.contains k)))
  let s := if extra.isEmpty then s else (s.bump Obj.ROUTER_PROTOCOL_COUNT c extra.length).meet n .failedProtection
  let s := s.writeCounts n c (beCounts e.2) count
  let s := s.setRows ⟨c, true, rdLayer d, rdMicro d, e.1, count, x.got⟩
  (count, s.closeQueue it w e.1)

/-- A BWD_CONSUME runs. -/
def State.runBwdConsume (s : State) (n : Nat) (it : Item) (w : Nat) (_ : List Placement) : State :=
  let (es, s) := s.hostTable n it.ctx it.desc (List.range (rdCount it.desc))
  let s := s.meetWindow n it w (es.map (·.1))
  let (total, s) := s.consumeAll (fun s e => s.backOne n it w e) es
  (if total = 0 then s.meet n .okZeroWork else s).finish n

/-- BWD_CONSUME (R232). -/
def execBwdConsume (item : Nat) (s : State) : Res := .next (s.routerOp item 0x45 State.runBwdConsume)

/-! ### BWD_RETURN (R234) and BWD_COMBINE (R235) -/

/-- The backward return records of one local expert: rows that received a gradient, in arrival-list order. -/
def State.backReturns (s : State) (n : Nat) (it : Item) (tag entry : Nat) : List Nat → List (Nat × Bytes) × State
  | [] => ([], s)
  | r :: rs =>
    let d := it.desc
    let h := rdHidden d
    let ((a, bad), s) := s.rNum n it.ctx (beArrivals entry + 8 * r) 8
    let (body, s) := s.readPayload n it.ctx 1 16 h (beOut entry + r * dataPitch 1 h) 0
    let ((g, gbad), s) := s.rNum n it.ctx (beGateGrad entry + 4 * r) 4
    let bytes := tokenRecord
      { expert := beExpert entry, source := s.rank it.ctx, kind := 1, token := avToken a, slot := avSlot a, micro := rdMicro d,
        layer := rdLayer d, batch := avBatch a, epoch := beEpoch entry, rank := avRank a, spill := avSpill a, fmt := 1, len := h,
        back := true, weight := if gbad then nan32 else g, step := it.step % 65536, tag := tag } body
    let q := s.backReturns n it tag entry rs
    (if bad then q.1 else (avSource a, bytes) :: q.1, q.2)

/-- A BWD_RETURN runs. -/
def State.runBwdReturn (s : State) (n : Nat) (it : Item) (w : Nat) (_ : List Placement) : State :=
  let d := it.desc
  let tag := s.tagOf it.ctx w
  let (es, s) := s.hostTable n it.ctx d (List.range (rdCount d))
  let (recs, s) := s.returnAll (fun s e =>
    s.backReturns n it tag e.2 (s.rowsOf it.ctx true (rdLayer d) (rdMicro d) e.1).got) es
  s.stageRecords n it w recs []

/-- BWD_RETURN (R234). -/
def execBwdReturn (item : Nat) (s : State) : Res := .next (s.routerOp item 0x46 State.runBwdReturn)

/-- BWD_COMBINE (R235). -/
def execBwdCombine (item : Nat) (s : State) : Res :=
  .next (s.routerOp item 0x47 (fun s n it w _ => s.runCombine n it w true))

end Sys2Proof.Machine
end

