-- ==== Sys2Proof/Machine/Trans.lean ====
section
/-! DEFINITION. Sys2Proof/Machine/Trans.lean: the approximate functions of the vector engine: reciprocal, reciprocal square
root, exponential, logarithm and hyperbolic tangent (05_vector_engine_and_sequencer R152, R153). The manual gives a bound on
the error and the values at the edges; which value within the bound a device gives is a free function of the input
(DESIGN CHOICE, notes/assumptions/11). -/

namespace Sys2Proof.Machine

/-- Fraction bits of the fixed-point arithmetic in this file. -/
def fixBits : Nat := 256

/-- Sum of z^(2i+1) / (2i+1) for i below `n`, in fixed point: `t` is the present power of z. -/
def atanhSum (z2 : Nat) : Nat → Nat → Nat → Nat
  | 0, _, _ => 0
  | n + 1, i, t => t / (2 * i + 1) + atanhSum z2 n (i + 1) (t * z2 / 2 ^ fixBits)

/-- Natural logarithm of 2, in fixed point: 2 atanh(1/3). -/
def ln2Fix : Nat :=
  let z := 2 ^ fixBits / 3
  2 * atanhSum (z * z / 2 ^ fixBits) 90 0 z

/-- Sum of r^i / i! from the term `t` on. -/
def expSum (r : Nat) : Nat → Nat → Nat → Nat
  | 0, _, _ => 0
  | n + 1, i, t => t + expSum r n (i + 1) (t * r / 2 ^ fixBits / (i + 1))

/-- A finite value in fixed point, rounded down. -/
def toFix (n : Bool) (m : Nat) (e : Int) : Int :=
  let k := e + fixBits
  let v : Int := if 0 ≤ k then (m * 2 ^ k.toNat : Nat) else (m / 2 ^ (-k).toNat : Nat)
  if n then -v else v

/-- e^x for a fixed-point x of magnitude below 2^10. -/
def expFix (x : Int) : FVal :=
  let k := x / (ln2Fix : Int)
  let r := (x - k * (ln2Fix : Int)).toNat
  .fin false (expSum r 70 0 (2 ^ fixBits)) (k - fixBits)

/-- e^x for a finite x: beyond +-256 the result is out of FP32's range in any case. -/
def expVal (n : Bool) (m : Nat) (e : Int) : FVal :=
  if m ≠ 0 ∧ 8 ≤ leadExp m e then (if n then .fin false 1 (-400) else .fin false 1 400) else expFix (toFix n m e)

/-- ln x for a finite positive x. -/
def logVal (m : Nat) (e : Int) : FVal :=
  let l := m.log2
  let M := m * 2 ^ fixBits / 2 ^ l
  let z := (M - 2 ^ fixBits) * 2 ^ fixBits / (M + 2 ^ fixBits)
  let v : Int := (2 * atanhSum (z * z / 2 ^ fixBits) 90 0 z : Nat) + (e + l) * (ln2Fix : Int)
  ofScaled v (-(fixBits : Int)) false

/-- tanh of a finite x. -/
def tanhVal (n : Bool) (m : Nat) (e : Int) : FVal :=
  if m = 0 then .fin n 0 0
  else if 5 ≤ leadExp m e then .fin n 1 0
  else if leadExp m e < -20 then
    let x := FVal.fin n m e
    x.sub ((x.mul (x.mul x)).mul (.fin false (2 ^ 64 / 3) (-64)))
  else
    let y := expFix (2 * toFix false m e)
    let one := FVal.fin false 1 0
    ((y.sub one).div 64 (y.add one)).withSign n

/-- 1/sqrt(x) for a finite positive x: the integer square root of 2^(2s)/m, with a sticky last bit. -/
def rsqrtVal (m : Nat) (e : Int) : FVal :=
  let odd : Nat := if e % 2 = 0 then 0 else 1
  let v := 2 ^ (2 * (m.log2 + 40)) / (m * 2 ^ odd)
  let r := isqrt (v.log2 / 2 + 1) v 0
  .fin false (2 * r + 1) (-((e - odd) / 2) - (m.log2 + 40 : Nat) - 1)

/-- The value of a magnitude pattern of FP32; that of infinity stands for 2^128. -/
def magValue (mag : Nat) : FVal := if mag < fmtFP32.infMag then f32 mag else .fin false 1 128

/-- The magnitude patterns within `b` units in the last place of m * 2^e, from the lowest to the highest: on one side of the nearest
pattern they end one earlier, unless it is exact. -/
def ulpRange (m : Nat) (e : Int) (b : Nat) : Nat × Nat :=
  let r := min (fmtFP32.round m e) fmtFP32.infMag
  let x := FVal.fin false m e
  (r - (if (magValue r).lt x then b - 1 else b), if x.lt (magValue r) then r + (b - 1) else r + b)

/-- The FP32 pattern of an approximate result: one of those within `b` units in the last place of the value, chosen by a free number; a
value of 2^128 or more is infinite. -/
def approx (v : FVal) (b free : Nat) : Nat :=
  match v with
  | .nan => nan32
  | .inf n => fmtFP32.sign n fmtFP32.infMag
  | .fin n m e =>
    let (lo, hi) := ulpRange m e b
    fmtFP32.sign n (if (FVal.fin false m e).lt (.fin false 1 128) then min (lo + free % (hi - lo + 1)) fmtFP32.infMag else fmtFP32.infMag)

/-- VRCP (R152). -/
def fRcp (w : Nat) : Nat :=
  match f32 w with
  | .inf n => fmtFP32.sign n 0
  | v => approx ((FVal.fin false 1 0).div 32 v) 1 (Config.rcpUlp w)

/-- VRSQRT (R152). A zero gives an infinity, whose sign for -0 is open. -/
def fRsqrt (w : Nat) : Nat :=
  match f32 w with
  | .nan => nan32
  | .inf n => if n then nan32 else 0
  | .fin n m e =>
    if m = 0 then fmtFP32.sign (n && Config.rsqrtUlp w % 2 == 1) fmtFP32.infMag
    else if n then nan32
    else approx (rsqrtVal m e) 1 (Config.rsqrtUlp w)

/-- VEXP (R153). -/
def fExp (w : Nat) : Nat :=
  match f32 w with
  | .nan => nan32
  | .inf n => if n then 0 else fmtFP32.infMag
  | .fin n m e => approx (expVal n m e) 2 (Config.expApprox w)

/-- VLOG (R153). -/
def fLog (w : Nat) : Nat :=
  match f32 w with
  | .nan => nan32
  | .inf n => if n then nan32 else fmtFP32.infMag
  | .fin n m e =>
    if m = 0 then fmtFP32.sign true fmtFP32.infMag
    else if n then nan32
    else approx (logVal m e) 2 (Config.logApprox w)

/-- VTANH (R153). -/
def fTanh (w : Nat) : Nat :=
  match f32 w with
  | .nan => nan32
  | .inf n => fmtFP32.sign n 0x3F800000
  | .fin n m e => approx (tanhVal n m e) 2 (Config.tanhApprox w)

end Sys2Proof.Machine
end

