-- ==== Sys2Proof/Machine/Vector.lean ====
section
/-! DEFINITION. Sys2Proof/Machine/Vector.lean: the vector instructions: lanewise arithmetic, masks, conversions, reductions,
loads, stores, gathers and dropout (05_vector_engine_and_sequencer R147-R157, R164, R166). -/

namespace Sys2Proof.Machine

/-! ### Operands (R147, R148) -/

/-- A vector operand: 256 lanes and the poisoned ones. -/
structure VSrc where
  lanes : List Nat
  poison : Nat := 0
  deriving DecidableEq, Repr

/-- A vector register as an operand. -/
def Program.src (p : Program) (r : Nat) : VSrc := ⟨p.vget r, p.vpoison r⟩

/-- A scalar's low word in every lane. -/
def State.bcast (s : State) (f t r : Nat) : VSrc :=
  ⟨List.replicate 256 (s.sget f t r % 2 ^ 32), if s.spoisoned f t r then allLanes else 0⟩

/-- Operand vb, or the broadcast scalar where SB_EN is set (R148). -/
def State.vb (s : State) (f t : Nat) (p : Program) (w : Nat) : VSrc := if iSBEn w then s.bcast f t (iVSB w) else p.src (iVB w)

/-- The mask of an instruction of format V. -/
def Program.maskV (p : Program) (w : Nat) : Nat := p.pget (iPM w)

/-! ### Lanewise shapes -/

/-- vd = g(va). -/
def State.lane1 (s : State) (f t op issue : Nat) (g : Nat → Nat) : State :=
  s.vinsn f t op issue (fun p w s =>
    let a := p.src (iVA w)
    s.setProg f t (p.vput (iVD w) (p.maskV w) (a.lanes.map g) a.poison))

/-- vd = g(va, vb). -/
def State.lane2 (s : State) (f t op issue : Nat) (g : Nat → Nat → Nat) : State :=
  s.vinsn f t op issue (fun p w s =>
    let a := p.src (iVA w)
    let b := s.vb f t p w
    s.setProg f t (p.vput (iVD w) (p.maskV w) (a.lanes.zipWith g b.lanes) (a.poison ||| b.poison)))

/-- Three lists combined lane by lane. -/
def zip3With (g : Nat → Nat → Nat → Nat) (a b c : List Nat) : List Nat := (a.zip b).zipWith (fun (x : Nat × Nat) z => g x.1 x.2 z) c

/-- A mask of the lanes that satisfy a test, lane 0 lowest. -/
def maskOf : List Bool → Nat
  | [] => 0
  | b :: r => ofBool b + 2 * maskOf r

/-- Mask p(VD[2:0]) = test(va, vb) in the lanes of the instruction's mask. -/
def State.laneCmp (s : State) (f t op : Nat) (g : Nat → Nat → Bool) : State :=
  s.vinsn f t op 1 (fun p w s =>
    let m := p.maskV w
    let r := maskOf ((p.src (iVA w)).lanes.zipWith g (s.vb f t p w).lanes)
    s.setProg f t (p.pput (iVD w) ((p.pget (iVD w) &&& Nat.xor m allLanes) ||| (r &&& m))))

/-- A sign-bit operation; a NaN takes the pattern of R79. -/
def fAbs (a : Nat) : Nat := canon32 (a % 2 ^ 31)
def fNeg (a : Nat) : Nat := canon32 (Nat.xor a (2 ^ 31))

/-- VADD (R152). -/
def execVadd (facet thread : Nat) (s : State) : Res := .next (s.lane2 facet thread 0x30 1 fAdd)

/-- VSUB (R152). -/
def execVsub (facet thread : Nat) (s : State) : Res := .next (s.lane2 facet thread 0x31 1 fSub)

/-- VMUL (R152). -/
def execVmul (facet thread : Nat) (s : State) : Res := .next (s.lane2 facet thread 0x32 1 fMul)

/-- VFMA (R152). -/
def execVfma (facet thread : Nat) (s : State) : Res :=
  .next (s.vinsn facet thread 0x33 1 (fun p w s =>
    let a := p.src (iVA w)
    let b := s.vb facet thread p w
    let c := p.src (iVC w)
    s.setProg facet thread (p.vput (iVD w) (p.maskV w) (zip3With fFma a.lanes b.lanes c.lanes) (a.poison ||| b.poison ||| c.poison))))

/-- VMAX (R152). -/
def execVmax (facet thread : Nat) (s : State) : Res := .next (s.lane2 facet thread 0x34 1 fMax)

/-- VMIN (R152). -/
def execVmin (facet thread : Nat) (s : State) : Res := .next (s.lane2 facet thread 0x35 1 fMin)

/-- VDIV (R152). -/
def execVdiv (facet thread : Nat) (s : State) : Res := .next (s.lane2 facet thread 0x36 8 fDiv)

/-- VSQRT (R152). -/
def execVsqrt (facet thread : Nat) (s : State) : Res := .next (s.lane1 facet thread 0x37 8 fSqrt)

/-- VRCP (R152). -/
def execVrcp (facet thread : Nat) (s : State) : Res := .next (s.lane1 facet thread 0x38 2 fRcp)

/-- VRSQRT (R152). -/
def execVrsqrt (facet thread : Nat) (s : State) : Res := .next (s.lane1 facet thread 0x39 2 fRsqrt)

/-- VEXP (R153). -/
def execVexp (facet thread : Nat) (s : State) : Res := .next (s.lane1 facet thread 0x3A 2 fExp)

/-- VLOG (R153). -/
def execVlog (facet thread : Nat) (s : State) : Res := .next (s.lane1 facet thread 0x3B 2 fLog)

/-- VTANH (R153). -/
def execVtanh (facet thread : Nat) (s : State) : Res := .next (s.lane1 facet thread 0x3C 2 fTanh)

/-- VABS (R152). -/
def execVabs (facet thread : Nat) (s : State) : Res := .next (s.lane1 facet thread 0x3D 1 fAbs)

/-- VNEG (R152). -/
def execVneg (facet thread : Nat) (s : State) : Res := .next (s.lane1 facet thread 0x3E 1 fNeg)

/-- VSEL (R152): every lane is written, with va where the mask is set and vb elsewhere. -/
def execVsel (facet thread : Nat) (s : State) : Res :=
  .next (s.vinsn facet thread 0x3F 1 (fun p w s =>
    let a := p.src (iVA w)
    let b := s.vb facet thread p w
    let m := p.maskV w
    let l := (List.range 256).zipWith (fun i (x : Nat × Nat) => if bit m i then x.1 else x.2) (a.lanes.zip b.lanes)
    s.setProg facet thread (p.vput (iVD w) allLanes l ((a.poison &&& m) ||| (b.poison &&& Nat.xor m allLanes)))))

/-- VCMPLT (R152). -/
def execVcmplt (facet thread : Nat) (s : State) : Res := .next (s.laneCmp facet thread 0x40 (fun a b => (f32 a).lt (f32 b)))

/-- VCMPEQ (R152). -/
def execVcmpeq (facet thread : Nat) (s : State) : Res := .next (s.laneCmp facet thread 0x41 (fun a b => (f32 a).eq (f32 b)))

/-- VISNAN (R152). -/
def execVisnan (facet thread : Nat) (s : State) : Res := .next (s.laneCmp facet thread 0x42 (fun a _ => (f32 a).isNan))

/-- VIADD (R152). -/
def execViadd (facet thread : Nat) (s : State) : Res := .next (s.lane2 facet thread 0x43 1 (fun a b => (a + b) % 2 ^ 32))

/-- VCVTI (R152). -/
def execVcvti (facet thread : Nat) (s : State) : Res := .next (s.lane1 facet thread 0x44 1 (fun a => toF32 (FVal.ofInt (toInt 32 a))))

/-- VCVTF (R152). -/
def execVcvtf (facet thread : Nat) (s : State) : Res := .next (s.lane1 facet thread 0x45 1 (fun a => toInt32 (f32 a)))

/-- VIOTA (R152). -/
def execViota (facet thread : Nat) (s : State) : Res :=
  .next (s.vinsn facet thread 0x46 1 (fun p w s =>
    let b := s.bcast facet thread (iVSB w)
    s.setProg facet thread (p.vput (iVD w) (p.maskV w) ((List.range 256).zipWith (fun l x => (l + x) % 2 ^ 32) b.lanes) b.poison)))

/-- VBCAST (R148). -/
def execVbcast (facet thread : Nat) (s : State) : Res :=
  .next (s.vinsn facet thread 0x47 1 (fun p w s =>
    let b := s.bcast facet thread (iVSB w)
    s.setProg facet thread (p.vput (iVD w) (p.maskV w) b.lanes b.poison)))

/-- VEXTR (R152): lane VA of vb goes to s[SB], zero-extended; with SB_EN every lane of vb is the low word of s[SB] (R148). -/
def execVextr (facet thread : Nat) (s : State) : Res :=
  .next (s.vinsn facet thread 0x17 1 (fun p w s =>
    let b := s.vb facet thread p w
    s.sset facet thread (iVSB w) (b.lanes.getD (iVA w) 0) (bit b.poison (iVA w))))

/-! ### Compensated and wide reductions (R154, R155) -/

/-- Neumaier's update of a pair (s, c) with x. -/
def neumaier (s c x : Nat) : Nat × Nat :=
  let t := fAdd s x
  if (f32 s).abs.lt (f32 x).abs then (t, fAdd c (fAdd (fSub x t) s)) else (t, fAdd c (fAdd (fSub s t) x))

/-- The pair of registers (r, r+1) as lists of lanes. -/
def Program.pair (p : Program) (r : Nat) : VSrc × VSrc := (p.src r, p.src (r + 1))

/-- A pair written. -/
def Program.putPair (p : Program) (r mask : Nat) (lo hi : List Nat) (poison : Nat) : Program :=
  (p.vput r mask lo poison).vput (r + 1) mask hi poison

/-- VCADD (R154). -/
def execVcadd (facet thread : Nat) (s : State) : Res :=
  .next (s.vinsn facet thread 0x50 1 (fun p w s =>
    let a := p.src (iVA w)
    let (x, y) := p.pair (iVD w)
    let r := (x.lanes.zip y.lanes).zipWith (fun (e : Nat × Nat) v => neumaier e.1 e.2 v) a.lanes
    s.setProg facet thread (p.putPair (iVD w) (p.maskV w) (r.map (fun e => e.1)) (r.map (fun e => e.2)) (a.poison ||| x.poison ||| y.poison))))

/-- Two pairs joined with the exact error of their sum. -/
def joinPair (a b : Nat × Nat) : Nat × Nat :=
  let t := fAdd a.1 b.1
  let u := fSub t a.1
  let e := fAdd (fSub a.1 (fSub t u)) (fSub b.1 u)
  (t, fAdd (fAdd a.2 b.2) e)

/-- One level of the lane tree: neighbours joined, the lower lane range on the left. A lane the mask leaves out contributes
nothing (DEDUCED, notes/assumptions/18). -/
def treeLevel {α : Type} (j : α → α → α) : List (Option α) → List (Option α)
  | a :: b :: r => (match a, b with
      | some x, some y => some (j x y)
      | some x, none => some x
      | none, y => y) :: treeLevel j r
  | l => l

/-- The fixed binary tree over 256 lanes. -/
def laneTree {α : Type} (j : α → α → α) : Nat → List (Option α) → Option α
  | 0, l => l.headD none
  | n + 1, l => laneTree j n (treeLevel j l)

/-- The lanes that take part in a reduction (R147). -/
def masked {α : Type} (m : Nat) (l : List α) : List (Option α) :=
  (List.range 256).zipWith (fun i x => if bit m i then some x else none) l

/-- A reduction writes s[SB]; it is poisoned when a lane that takes part is (R166). -/
def State.reduceTo (s : State) (f t op issue : Nat) (g : Program → Nat → Nat → Nat × Nat) : State :=
  s.vinsn f t op issue (fun p w s =>
    let (v, poison) := g p w (p.maskV w)
    s.sset f t (iVSB w) v (poison != 0))

/-- VCRED (R154). -/
def execVcred (facet thread : Nat) (s : State) : Res :=
  .next (s.reduceTo facet thread 0x51 10 (fun p w m =>
    let (x, y) := p.pair (iVA w)
    (match laneTree joinPair 8 (masked m (x.lanes.zip y.lanes)) with
     | some r => fAdd r.1 r.2
     | none => 0, (x.poison ||| y.poison) &&& m)))

/-- VDADD (R155). -/
def execVdadd (facet thread : Nat) (s : State) : Res :=
  .next (s.vinsn facet thread 0x52 8 (fun p w s =>
    let a := p.src (iVA w)
    let (x, y) := p.pair (iVD w)
    let r := (x.lanes.zip y.lanes).zipWith (fun (e : Nat × Nat) v => toF64 ((f64 (2 ^ 32 * e.2 + e.1)).add (f32 v))) a.lanes
    s.setProg facet thread (p.putPair (iVD w) (p.maskV w) (r.map (· % 2 ^ 32)) (r.map (· / 2 ^ 32)) (a.poison ||| x.poison ||| y.poison))))

/-- VDRED (R155). -/
def execVdred (facet thread : Nat) (s : State) : Res :=
  .next (s.reduceTo facet thread 0x53 64 (fun p w m =>
    let (x, y) := p.pair (iVA w)
    ((laneTree dAdd 8 (masked m (x.lanes.zipWith (fun a b => 2 ^ 32 * b + a) y.lanes))).getD 0, (x.poison ||| y.poison) &&& m)))

/-- The extreme of the lanes that take part and its lane (R152, with ties and NaNs as R124). -/
def laneExtreme (min_ : Bool) (l : List (Option Nat)) : Nat × Nat :=
  match ((List.range 256).zip l).foldl (fun (w : Option (Nat × Nat)) (e : Nat × Option Nat) =>
    match e.2, w with
    | none, w => w
    | some x, none => some (x, e.1)
    | some x, some (v, i) =>
      let a := f32 x
      let b := f32 v
      if (if b.isNan then false else if a.isNan then true else if min_ then a.lt b else b.lt a) then some (x, e.1) else some (v, i)) none with
  | some (v, i) => (canon32 v, i)
  | none => (if min_ then 0x7F800000 else 0xFF800000, 0xFFFFFFFF)

/-- VRMAX and VRMIN: s[SB] the extreme, s[SB+1] its lane. -/
def State.reduceExtreme (s : State) (f t op : Nat) (min_ : Bool) : State :=
  s.vinsn f t op 9 (fun p w s =>
    let a := p.src (iVA w)
    let m := p.maskV w
    let (v, i) := laneExtreme min_ (masked m a.lanes)
    let bad := (a.poison &&& m) != 0
    (s.sset f t (iVSB w) v bad).sset f t (iVSB w + 1) i bad)

/-- VRMAX (R152). -/
def execVrmax (facet thread : Nat) (s : State) : Res := .next (s.reduceExtreme facet thread 0x54 false)

/-- VRMIN (R152). -/
def execVrmin (facet thread : Nat) (s : State) : Res := .next (s.reduceExtreme facet thread 0x55 true)

/-- VRSUM (R152). -/
def execVrsum (facet thread : Nat) (s : State) : Res :=
  .next (s.reduceTo facet thread 0x56 9 (fun p w m =>
    let a := p.src (iVA w)
    ((laneTree fAdd 8 (masked m a.lanes)).getD 0, a.poison &&& m)))

/-! ### Loads and stores (R152, R157, R166) -/

/-- The address of a memory instruction: s[SA] plus the signed offset. -/
def State.maddr (s : State) (f t w : Nat) (plus : Nat := 0) : Nat := (s.sget f t (iMSA w + plus) + sext 21 64 (iOff w)) % 2 ^ 64

/-- Lanes whose bytes touch a poisoned word: lane l occupies `size` bits from bit l * size of the address. -/
def State.poisonLanes (s : State) (f a bits : Nat) : Nat :=
  maskOf ((List.range 256).map (fun l =>
    (range2 ((facetBytes * f + a + l * bits / 8) / 8) ((facetBytes * f + a + (l * bits + bits - 1) / 8) / 8 + 1)).any s.fm.poison.contains))

/-- An open value for each poisoned lane of a loaded row. -/
def State.openLanes (s : State) (poison : Nat) (l : List Nat) : List Nat :=
  (List.range 256).zipWith (fun i x => if bit poison i then Config.freeNat (s.freeCtr + i) % 2 ^ 32 else x) l

/-- A row of 256 lanes arrives from memory: lanes of uncorrectable words are poisoned and hold open values (R166). -/
def State.loadLanes (s : State) (f t : Nat) (vd mask : Nat) (lanes : List Nat) (poison : Nat) : State :=
  match s.prog? f t with
  | none => s
  | some p =>
    let s1 := s.setProg f t (p.vput vd mask (s.openLanes poison lanes) poison)
    if poison &&& mask = 0 then s1 else ({ s1 with freeCtr := s1.freeCtr + 256 }).poisonItem f t

/-- The 64-bit words that the lanes of a mask touch in a row at `a` whose lanes have `bits` bits each: nothing else is read (R147). -/
def rowWords (f a bits m : Nat) : List Nat :=
  (bitsOf 256 m).foldl (fun l i =>
    (range2 ((facetBytes * f + a + i * bits / 8) / 8) ((facetBytes * f + a + (i * bits + bits - 1) / 8) / 8 + 1)).foldl nsInsert l) []

/-- Bytes of a row up to its last lane in the mask. -/
def maskBytes (bits m : Nat) : Nat := match (bitsOf 256 m).getLast? with | some i => (i * bits + bits - 1) / 8 + 1 | none => 0

/-- The lanes of a mask are read from a row of facet memory: the row's bytes up to the last of them, of which only those in the mask's words
have been read (R147). -/
def State.readRow (s : State) (f a bits m : Nat) : Got × State :=
  let n := maskBytes bits m
  if m ≠ 0 ∧ facetBytes < a + n then ({ bytes := List.replicate n 0, protection := true }, s)
  else
    let r := s.checkWords (rowWords f a bits m)
    ({ bytes := r.2.fm.mem.getN (facetBytes * f + a) n, poison := r.1 }, r.2)

/-- The blocks of `n` lanes that hold a lane of a mask. -/
def blockMask (n m : Nat) : Nat := (bitsOf 256 m).foldl (fun a i => a ||| 2 ^ (i / n)) 0

/-- Block size of a block-scaled load: an instruction gives none, so it is an implementation's constant
(DESIGN CHOICE, notes/assumptions/19). -/
def vldBlock : Nat := 16 * 2 ^ (Config.vldBlock % 4)

/-- VLD (R157): 256 elements decoded under R82 and rounded to FP32. A lane is poisoned by a bad word of its element or of its block's scale,
and by a poisoned scalar that the load reads (R166). (DEDUCED, notes/assumptions/70.) -/
def execVld (facet thread : Nat) (s : State) : Res :=
  .next (s.insn facet thread 0x60 (fun p w s =>
    let fmt := iMFmt w
    let bits := elemBits fmt
    let a := s.maddr facet thread w
    let m := p.pget (iMPM w)
    let scaled := blockScaled fmt
    let sa := s.sget facet thread (iMSA w + 1)
    let (g, s) := s.readRow facet a bits m
    let (sc, s) := if scaled then s.readRow facet sa 8 (blockMask vldBlock m) else ({}, s)
    let outer : Int := if scaled then toInt 16 (s.sget facet thread (iMSA w + 2)) else 0
    if g.protection || sc.protection then s.stopProgram facet thread .failedProtection
    else
      let s := s.bump Obj.VE_ISSUE_CYCLES facet ((maskBytes bits m + 255) / 256)
      let lanes := (List.range 256).map (fun l =>
        toF32 (storedValue fmt (elemAt fmt g.bytes l) ((sc.bytes.getD (l / vldBlock) 127).toNat) outer))
      let blocks := if sc.poison then s.poisonLanes facet sa 8 else 0
      let scalars := [iMSA w] ++ if scaled then [iMSA w + 1, iMSA w + 2] else []
      let bad := (if g.poison then s.poisonLanes facet a bits else 0)
        ||| maskOf ((List.range 256).map (fun l => bit blocks (l / vldBlock)))
        ||| (if scalars.any (s.spoisoned facet thread) then allLanes else 0)
      s.loadLanes facet thread (iVD w) m lanes bad))

/-- Every address of a list of words lies in facet memory. -/
def wordsInside (l : List Nat) : Bool := l.all (fun a => decide (a + 4 ≤ facetBytes))

/-- A lane as it is stored: a poisoned one as the pattern of its format (R166), a NaN as the fixed pattern (03 R79). -/
def storedLane (int poisoned : Bool) (v : Nat) : Nat :=
  if int then (if poisoned then 0x80000000 else v) else if poisoned then nan32 else canon32 v

/-- Lanes stored as 32-bit words, each at its own address, in lane order. -/
def State.storeWords (s : State) (c f : Nat) : List (Nat × Nat) → State
  | [] => s
  | (a, v) :: r => (s.fmWrite c f a (leBytes 4 v)).2.storeWords c f r

/-- Context and number of a thread's slot. -/
def State.threadCtx (s : State) (f t : Nat) : Nat := match s.thread? f t with | some th => th.ctx | none => 0
def State.threadSlot (s : State) (f t : Nat) : Nat := match s.thread? f t with | some th => th.slot | none => 0xFFFF

/-- Lanes of a mask stored at consecutive words from `a`; an address beyond facet memory stops the program with nothing
stored (R150). -/
def State.storeRow (s : State) (f t a mask : Nat) (x : VSrc) (int : Bool) : State :=
  let l := (bitsOf 256 mask).map (fun i => (a + 4 * i, storedLane int (bit x.poison i) (x.lanes.getD i 0)))
  if wordsInside (l.map (fun e => e.1)) then s.storeWords (s.threadCtx f t) f l else s.stopProgram f t .failedProtection

/-- VST (R152). -/
def execVst (facet thread : Nat) (s : State) : Res :=
  .next (s.vinsn facet thread 0x61 4 (fun p w s =>
    s.storeRow facet thread (s.maddr facet thread w) (p.pget (iMPM w)) (p.src (iVD w)) (iMFmt w == 0x0A)))

/-- Byte addresses of a gather or scatter: s[SB] + 4 * vb, vb signed; with SB_EN vb is the low word of s[SB] in every lane (R148). -/
def State.indexed (s : State) (f t : Nat) (p : Program) (w : Nat) : List Nat :=
  (s.vb f t p w).lanes.map (fun v => (s.sget f t (iVSB w) + sext 32 64 v * 4) % 2 ^ 64)

/-- Words read one after another at the addresses of the masked lanes: value and poison of each. -/
def State.readWords (s : State) (f : Nat) (m : Nat) : Nat → List Nat → List (Nat × Bool) × State
  | _, [] => ([], s)
  | i, a :: r =>
    if bit m i then
      let x := s.fmRead f a 4
      let y := x.2.readWords f m (i + 1) r
      ((x.1.num, x.1.poison) :: y.1, y.2)
    else
      let y := s.readWords f m (i + 1) r
      ((0, false) :: y.1, y.2)

/-- Addresses of the lanes in a mask. -/
def maskedAddrs (m : Nat) (l : List Nat) : List Nat := (bitsOf 256 m).map (fun i => l.getD i 0)

/-- VGATHER (R152): lanes whose address was computed from a poisoned lane or scalar are poisoned (R166). -/
def execVgather (facet thread : Nat) (s : State) : Res :=
  .next (s.vinsn facet thread 0x65 8 (fun p w s =>
    let m := p.maskV w
    let l := s.indexed facet thread p w
    if wordsInside (maskedAddrs m l) then
      let (r, s) := s.readWords facet m 0 l
      s.loadLanes facet thread (iVD w) m (r.map (fun e => e.1)) (maskOf (r.map (fun e => e.2)) ||| (s.vb facet thread p w).poison ||| (s.bcast facet thread (iVSB w)).poison)
    else s.stopProgram facet thread .failedProtection))

/-- VSCATTER (R152): lanes are stored in order, so the highest wins at equal addresses. -/
def execVscatter (facet thread : Nat) (s : State) : Res :=
  .next (s.vinsn facet thread 0x66 8 (fun p w s =>
    let m := p.maskV w
    let l := s.indexed facet thread p w
    let x := p.src (iVA w)
    if wordsInside (maskedAddrs m l) then
      s.storeWords (s.threadCtx facet thread) facet
        ((bitsOf 256 m).map (fun i => (l.getD i 0, storedLane false (bit x.poison i) (x.lanes.getD i 0))))
    else s.stopProgram facet thread .failedProtection))

/-- VLDM (R152): a mask register from 32 bytes; an uncorrectable word gives open bits. -/
def execVldm (facet thread : Nat) (s : State) : Res :=
  .next (s.vinsn facet thread 0x67 1 (fun p w s =>
    let (g, s) := s.fmRead facet (s.maddr facet thread w) 32
    if g.protection then s.stopProgram facet thread .failedProtection
    else
      let m := p.pget (iMPM w)
      let v := if g.poison then s.fresh (2 ^ 256) else g.num
      let s := if g.poison then s.took.poisonItem facet thread else s
      s.setProg facet thread (p.pput (iVD w) ((p.pget (iVD w) &&& Nat.xor m allLanes) ||| (v &&& m)))))

/-! ### Dropout (R164) -/

/-- The keep bit of element e under a key and site. -/
def keepBit (step seed site mb layer thr e : Nat) : Bool :=
  let q := e / 4
  let w := (philox (step % 2 ^ 32) seed (q % 2 ^ 32) (place site 16 16 + field q 32 14) (place mb 16 6 + place layer 0 16) 0).getD (e % 4) 0
  decide (thr ≤ w)

/-- VDROP (R164). -/
def execVdrop (facet thread : Nat) (s : State) : Res :=
  .next (s.vinsn facet thread 0x78 4 (fun p w s =>
    let r := iVSB w
    let base := s.sget facet thread r
    let thr := s.sget facet thread (r + 1) % 2 ^ 32
    let site := s.sget facet thread (r + 2)
    let layer := s.sget facet thread (r + 3) % 65536
    let seed := s.reg Obj.CONTEXT_SEED (s.threadCtx facet thread)
    let m := p.maskV w
    let v := maskOf ((List.range 256).map (fun l =>
      keepBit (s.special facet thread 4) seed (field site 0 16) (field site 16 6) layer thr ((base + l) % 2 ^ 64)))
    s.setProg facet thread (p.pput (iVD w) ((p.pget (iVD w) &&& Nat.xor m allLanes) ||| (v &&& m)))))

end Sys2Proof.Machine
end

