-- ==== Sys2Proof/Machine/VectorStore.lean ====
section
/-! DEFINITION. Sys2Proof/Machine/VectorStore.lean: the narrowing store of the vector engine, held accumulator tiles, the split
master operations and TREE_COMBINE (05_vector_engine_and_sequencer R158-R163). -/

namespace Sys2Proof.Machine

/-! ### The write path (R158) -/

/-- The configuration that three scalars spell. -/
def vcfgOf (a b c : Nat) : VCfg :=
  { data := field a 0 16, scale := field a 16 16, tag := field a 32 16, fmt := field a 48 5, block := 16 * 2 ^ field a 53 2,
    classG := bit a 55, k := field b 0 32, m := field b 32 32, record := field c 0 35 }

/-- The write path narrows to this format: the block-scaled ones, BF16 and FP16 (03 R74). -/
def narrowFmt (c : Nat) : Bool := blockScaled c || is16 c

/-- Bytes of the planes that a configuration writes. -/
def VCfg.inside (g : VCfg) : Bool :=
  let rows := g.m - 1
  let w := tileWidth g.fmt g.block
  decide (32 * g.data + rows * alignUp (rowBytes g.fmt g.k) 32 + rowBytes g.fmt g.k ≤ facetBytes)
    && (!(blockScaled g.fmt) || decide (32 * g.scale + rows * alignUp ((g.k + g.block - 1) / g.block) 32 + (g.k + g.block - 1) / g.block ≤ facetBytes))
    && (g.tag == 0xFFFF || decide (32 * g.tag + (g.m + 31) / 32 * ((g.k + w - 1) / w) ≤ facetBytes))

/-- VSCFG (R158). A format the write path does not narrow to stops the program as a reserved encoding does
(DEDUCED, notes/assumptions/13). -/
def execVscfg (facet thread : Nat) (s : State) : Res :=
  .next (s.vinsn facet thread 0x63 1 (fun p w s =>
    let r := iVSB w
    let g := vcfgOf (s.sget facet thread r) (s.sget facet thread (r + 1)) (s.sget facet thread (r + 2))
    if narrowFmt g.fmt then s.setProg facet thread { p with cfg := some g } else s.stopProgram facet thread .failedProtection))

/-- Lanes of a vector put into a band row: those the mask keeps, with the tag of the tile that is current. -/
def Band.put (b : Band) (r mask tag : Nat) (x : VSrc) : Band :=
  let kept := bitsOf 256 mask
  let new := kept.foldl (fun (t : Table (Nat × Bool)) i => tset t i (x.lanes.getD i 0, bit x.poison i)) (tget [] b.rows r)
  let shifts := kept.foldl (fun (t : Table Nat) i => if tag = 0 then terase t (256 * r + i) else tset t (256 * r + i) tag) b.shifts
  { b with rows := tset b.rows r new, shifts := shifts }

/-- The words of a band's row that a store writes whole. -/
def State.stagedWords (s : State) (f : Nat) (b : Band) (r mask : Nat) : State :=
  (List.range 128).foldl (fun s i =>
    if bit mask (2 * i) && bit mask (2 * i + 1) then s.sramWrote 2 f (b.word r + i) (b.word r + i + 1) else s) s

/-- Every row of the band below M has been stored. -/
def Band.full (b : Band) : Bool := decide (min 32 (b.cfg.m - b.row) ≤ (b.rows.filter (fun e => decide (b.row + e.1 < b.cfg.m))).length)

/-- The current tile of a program. -/
def State.curTile (s : State) (f : Nat) (p : Program) : Option BackTile :=
  match p.held, p.cur with
  | some m, some a => (s.facet f).back.find? (fun b => b.item == m && b.tile.array == a && b.taken)
  | _, _ => none

/-- The tag of the array tile that is current in a program, 0 when none is. -/
def State.curTag (s : State) (f : Nat) (p : Program) : Nat := match s.curTile f p with | some b => b.tile.tag | none => 0

/-- VSTN puts a row into its program's band of that place. The engine holds two bands: a store that opens a third commits the oldest,
whichever resident program opened it, and a full band is committed (R158; DEDUCED, notes/assumptions/69). -/
def State.stageRow (s : State) (f t : Nat) (th : Thread) (p : Program) (g : VCfg) (row k mask : Nat) (x : VSrc) : State :=
  let base := row / 32 * 32
  let here := fun (b : Band) => b.item == p.item && b.cfg == g && b.row == base && b.k == k
  let bands := (s.facet f).bands
  let s := match bands.find? here, bands with
    | none, a :: b :: r => (s.commitBand f a).setBands f (b :: r)
    | _, _ => s
  let bands := (s.facet f).bands
  let buf := if bands.any (fun b => b.buf == 0) then 1 else 0
  let pos := match s.item? p.item with | some it => it.pos | none => 0
  let fresh : Band := { cfg := g, row := base, k := k, item := p.item, ctx := th.ctx, step := th.step, place := 65536 * th.slot + pos, buf := buf }
  let s := if (bands.find? here).isSome then s else s.sramWrote 2 f (fresh.word 0) (fresh.word 32)
  let b := ((bands.find? here).getD fresh).put (row % 32) mask (s.curTag f p) x
  let s := s.stagedWords f b (row % 32) mask
  if b.full then (s.commitBand f b).setBands f (bands.filter (fun c => !(here c)))
  else s.setBands f (if (bands.find? here).isSome then bands.map (fun c => if here c then b else c) else bands ++ [b])

/-- VSTN (R158). Without a configuration, beyond the planes or at a K index that is no multiple of 256 the store has no place:
the program stops as at an address out of range. -/
def execVstn (facet thread : Nat) (s : State) : Res :=
  .next (s.vinsn facet thread 0x62 1 (fun p w s =>
    let v := s.sget facet thread (iVSB w)
    let row := field v 0 32
    let k := field v 32 32
    match p.cfg, s.thread? facet thread with
    | some g, some th =>
      if VCfg.inside g = true ∧ row < g.m ∧ k < g.k ∧ k % 256 = 0 then
        s.stageRow facet thread th p g row k (p.maskV w) (p.src (iVA w))
      else s.stopProgram facet thread .failedProtection
    | _, _ => s.stopProgram facet thread .failedProtection))

/-- VSFLUSH (R158). -/
def execVsflush (facet thread : Nat) (s : State) : Res :=
  .next (s.vinsn facet thread 0x64 1 (fun p _ s =>
    s.flushBands facet p.item))

/-! ### Held accumulator tiles (R159) -/

/-- The next held tile of a program in drain order. -/
def State.nextHeld (s : State) (f : Nat) (p : Program) : Option BackTile :=
  match p.held with
  | none => none
  | some m => (s.facet f).back.find? (fun b => b.item == m && b.hold && !b.taken)

/-- Further tiles of the matrix item may still come. -/
def State.moreTiles (s : State) (f : Nat) (p : Program) : Bool :=
  match p.held with
  | none => false
  | some m => (match (s.facet f).mat with | some r => r.item == m | none => false)
      || (match s.item? m with | some it => !it.isDone && (match it.phase with | .accepted => true | _ => false) | none => false)

/-- ACCNEXT: releases a current tile, then takes the next one, waits for it, or writes all ones when none remains. -/
def State.accNext (s : State) (f t : Nat) (p : Program) (w : Nat) : State :=
  let s := s.releaseTile f p
  let s := s.setProg f t { p with cur := none }
  match s.nextHeld f p with
  | some b =>
    let x := s.facet f
    let s := s.setFacet f { x with back := x.back.map (fun c => if c.item = b.item ∧ c.tile.array = b.tile.array then { c with taken := true } else c) }
    let s := s.setProg f t { p with cur := some b.tile.array }
    ((s.sset f t (iVSB w) (b.superTile * 8 + b.tile.array)).sset f t (iVSB w + 1) b.tile.tag).goto f t (p.pc + 1)
  | none =>
    if s.moreTiles f p then s.switchOut f t .tile
    else (s.sset f t (iVSB w) (2 ^ 64 - 1)).goto f t (p.pc + 1)

/-- ACCNEXT (R159). -/
def execAccnext (facet thread : Nat) (s : State) : Res :=
  .next (s.onInsn facet thread 0x68 (fun p w s => (s.bump Obj.VE_ISSUE_CYCLES facet).accNext facet thread p w))

/-- ACCRD (R159): quarter VA of the current tile, lanes of uncorrectable accumulator words poisoned (R166); without a tile the lanes are
open. -/
def execAccrd (facet thread : Nat) (s : State) : Res :=
  .next (s.vinsn facet thread 0x69 1 (fun p w s =>
    match s.curTile facet p with
    | some b =>
      -- 128 words of the back accumulator hold a quarter (04 R116, 13 R360)
      let lo := 512 + 128 * iVA w
      let (dead, s) := s.sramRead 1 (8 * facet + b.tile.array) lo (lo + 128) (s.threadCtx facet thread) (s.threadSlot facet thread)
      s.loadLanes facet thread (iVD w) (p.maskV w) ((List.range 256).map (fun l => b.tile.vals.getD (256 * iVA w + l) 0))
        (maskOf ((List.range 256).map (fun l => dead.contains (lo + l / 2))))
    | none =>
      let s := s.setProg facet thread (p.vput (iVD w) (p.maskV w) (s.openLanes allLanes (List.replicate 256 0)) 0)
      { s with freeCtr := s.freeCtr + 256 }))

/-- ACCREL (R159). -/
def execAccrel (facet thread : Nat) (s : State) : Res :=
  .next (s.vinsn facet thread 0x6A 1 (fun p _ s => (s.releaseTile facet p).setProg facet thread { p with cur := none }))

/-! ### Split master operations (R163, 03 R101-R103) -/

/-- XFLD (R163). -/
def execXfld (facet thread : Nat) (s : State) : Res :=
  .next (s.vinsn facet thread 0x70 8 (fun p w s =>
    let hi := s.maddr facet thread w
    let lo := s.maddr facet thread w 1
    let m := p.pget (iMPM w)
    let (g, s) := s.readRow facet hi 32 m
    let (h, s) := s.readRow facet lo 32 m
    let bad := fun (r : Nat) => if s.spoisoned facet thread r then allLanes else 0
    if g.protection || h.protection then s.stopProgram facet thread .failedProtection
    else
      let word := fun (b : Bytes) => (List.range 256).map (fun l => ofLE ((b.drop (4 * l)).take 4))
      let s := s.loadLanes facet thread (iVD w) m (word g.bytes) ((if g.poison then s.poisonLanes facet hi 32 else 0) ||| bad (iMSA w))
      s.loadLanes facet thread (iVD w + 1) m (word h.bytes) ((if h.poison then s.poisonLanes facet lo 32 else 0) ||| bad (iMSA w + 1))))

/-- XFST (R163). -/
def execXfst (facet thread : Nat) (s : State) : Res :=
  .next (s.vinsn facet thread 0x71 8 (fun p w s =>
    let m := p.pget (iMPM w)
    let bad := p.vpoison (iVD w) ||| p.vpoison (iVD w + 1)
    let a := s.maddr facet thread w
    let b := s.maddr facet thread w 1
    if wordsInside ((bitsOf 256 m).flatMap (fun i => [a + 4 * i, b + 4 * i])) then
      let s := s.storeRow facet thread a m ⟨p.vget (iVD w), bad⟩ false
      -- the LO word of a NaN is zero (R79, R103)
      s.storeRow facet thread b m ⟨(List.range 256).zipWith (fun i (x : Nat × Nat) => if bit bad i || (f32 x.1).isNan then 0 else x.2)
        ((p.vget (iVD w)).zip (p.vget (iVD w + 1))), 0⟩ true
    else s.stopProgram facet thread .failedProtection))

/-- Pair vd = g(pair va, vb, vc), rounded once. -/
def State.split3 (s : State) (f t op : Nat) (third : Bool) (g : FVal → FVal → FVal → FVal) : State :=
  s.vinsn f t op 4 (fun p w s =>
    let (h, l) := p.pair (iVA w)
    let b := s.vb f t p w
    let c := if third then p.src (iVC w) else ⟨List.replicate 256 0, 0⟩
    let r := ((h.lanes.zip l.lanes).zip (b.lanes.zip c.lanes)).map (fun (e : (Nat × Nat) × (Nat × Nat)) =>
      toSplit (g (splitVal e.1.1 e.1.2) (f32 e.2.1) (f32 e.2.2)))
    s.setProg f t (p.putPair (iVD w) (p.maskV w) (r.map (fun e => e.1)) (r.map (fun e => e.2))
      (h.poison ||| l.poison ||| b.poison ||| c.poison)))

/-- XFADD (R163). -/
def execXfadd (facet thread : Nat) (s : State) : Res := .next (s.split3 facet thread 0x72 false (fun x b _ => x.add b))

/-- XFMAD (R163). -/
def execXfmad (facet thread : Nat) (s : State) : Res := .next (s.split3 facet thread 0x73 true (fun x b c => x.add (b.mul c)))

/-- XFMUL (R163). -/
def execXfmul (facet thread : Nat) (s : State) : Res := .next (s.split3 facet thread 0x74 false (fun x b _ => x.mul b))

/-- XFRN (R163). -/
def execXfrn (facet thread : Nat) (s : State) : Res :=
  .next (s.vinsn facet thread 0x75 1 (fun p w s =>
    let (h, l) := p.pair (iVA w)
    s.setProg facet thread (p.vput (iVD w) (p.maskV w) (h.lanes.zipWith (fun a b => toF32 (splitVal a b)) l.lanes) (h.poison ||| l.poison))))

/-! ### TREE_COMBINE (R160-R162) -/

/-- The arguments of a combine: parts, strides, planes and sizes. -/
structure Combine where
  val0 : Nat
  valStride : Nat
  tag0 : Nat
  tagStride : Nat
  out : Nat
  outTag : Nat
  log : Nat
  m : Nat
  n : Nat
  deriving DecidableEq, Repr

/-- The arguments read from a descriptor (R160). -/
def combineOf (d : Nat) : Combine :=
  let a := vdArg d 0
  let b := vdArg d 1
  let c := vdArg d 2
  { val0 := 32 * field a 0 16, valStride := 32 * field a 16 16, tag0 := 32 * field a 32 16, tagStride := 32 * field a 48 16,
    out := 32 * field b 0 16, outTag := 32 * field b 16 16, log := field b 32 2, m := field c 0 16 + 1, n := field c 16 16 + 1 }

/-- Planes of the parts and of the output: address and length. -/
def Combine.planes (x : Combine) : List (Nat × Nat) :=
  let v := (x.m - 1) * alignUp (4 * x.n) 32 + 4 * x.n
  let g := (x.m + 31) / 32 * ((x.n + 31) / 32)
  (List.range (2 ^ x.log)).flatMap (fun p => [(x.val0 + p * x.valStride, v), (x.tag0 + p * x.tagStride, g)]) ++ [(x.out, v), (x.outTag, g)]

/-- Two planes of a list overlap. -/
def anyOverlap : List (Nat × Nat) → Bool
  | [] => false
  | (a, n) :: r => r.any (fun e => decide (a < e.1 + e.2) && decide (e.1 < a + n)) || anyOverlap r

/-- Reasons to refuse a TREE_COMBINE (R150, R160); 0 when none holds. -/
def combineCheck (th : Thread) (it : Item) : Nat :=
  let d := it.desc
  let x := combineOf d
  if field d 496 4 ≠ 0 ∨ field d 448 48 ≠ 0 then 1
  else if x.log = 0 ∨ field (vdArg d 1) 34 30 ≠ 0 ∨ field (vdArg d 2) 32 32 ≠ 0
      ∨ (List.range 4).any (fun n => vdArg d (n + 3) != 0) = true
      ∨ x.planes.any (fun e => decide (facetBytes < e.1 + e.2)) = true ∨ anyOverlap x.planes = true then 4
  else if (heldItem th it).isNone then 3
  else 0

/-- A tree over 2^level values, lower parts on the left; the flag tells of an overflow from finite inputs (R161). -/
def partTree (u : List Nat) : Nat → Nat → Nat × Bool
  | 0, j => (u.getD j 0, false)
  | n + 1, j =>
    let a := partTree u n j
    let b := partTree u n (j + 2 ^ n)
    let r := fAdd a.1 b.1
    (r, a.2 || b.2 || (match f32 r with | .inf _ => (f32 a.1).isFinite && (f32 b.1).isFinite | _ => false))

/-- One element's parts realigned to tag t, and whether one of them was inexact (R161). -/
def realign (vals tags : List Nat) (t : Nat) : List Nat × Bool :=
  let l := vals.zipWith (fun v (g : Nat) =>
    let x := (f32 v).scale ((g : Int) - t)
    (toF32 x, !(x.isNan) && !((f32 (toF32 x)).eq x))) tags
  (l.map (fun e => e.1), l.any (fun e => e.2))

/-- The attempts of one tile: elements' parts, the parts' tags, the present tag (R161). Returns the words, the tag, how many
repeats, whether it is exhausted, and how many elements the written attempt realigned inexactly. -/
def combineTile (log s limit : Nat) (elems : List (List Nat)) (tags : List Nat) : Nat → Nat → Nat → List Nat × Nat × Nat × Bool × Nat
  | fuel, t, n =>
    let u := elems.map (fun v => realign v tags t)
    let r := u.map (fun e => partTree e.1 log 0)
    let out := (r.map (fun e => e.1), t, n, false, (u.filter (fun e => e.2)).length)
    if r.any (fun e => e.2) then
      match fuel with
      | 0 => (out.1, t, n, true, out.2.2.2.2)
      | fuel + 1 => if limit < t + s then (out.1, t, n, true, out.2.2.2.2) else combineTile log s limit elems tags fuel (t + s) (n + 1)
    else out

/-- Words of one tile row of a plane read. -/
def State.tileRow (s : State) (f base n row col r : Nat) : (List Nat × Bool) × State :=
  let (g, s) := s.fmRead f (base + (32 * row + r) * alignUp (4 * n) 32 + 128 * col) (4 * min 32 (n - 32 * col))
  (((List.range (min 32 (n - 32 * col))).map (fun i => ofLE ((g.bytes.drop (4 * i)).take 4)), g.poison), s)

/-- The rows of a tile of one part, and its tag. -/
def State.partTileRows (s : State) (f : Nat) (x : Combine) (p row col : Nat) : Nat → (List Nat × Bool) × State
  | 0 => (([], false), s)
  | k + 1 =>
    let y := s.partTileRows f x p row col k
    if 32 * row + k < x.m then
      let z := y.2.tileRow f (x.val0 + p * x.valStride) x.n row col k
      ((y.1.1 ++ z.1.1, y.1.2 || z.1.2), z.2)
    else y

/-- Every part of a tile: words, tags, whether one was uncorrectable. -/
def State.partTiles (s : State) (f : Nat) (x : Combine) (row col : Nat) : Nat → (List (List Nat) × List Nat × Bool) × State
  | 0 => (([], [], false), s)
  | k + 1 =>
    let y := s.partTiles f x row col k
    let v := y.2.partTileRows f x k row col 32
    let (g, s) := v.2.fmRead f (x.tag0 + k * x.tagStride + row * ((x.n + 31) / 32) + col) 1
    ((y.1.1 ++ [v.1.1], y.1.2.1 ++ [g.num], y.1.2.2 || v.1.2 || g.poison), s)

/-- One output tile combined and written (R161); a tile that read an uncorrectable word is written NaN (R166). -/
def State.combineOne (s : State) (n : Nat) (it : Item) (x : Combine) (row col : Nat) : State :=
  let f := it.facet
  let c := it.ctx
  let ((parts, tags, bad), s) := s.partTiles f x row col (2 ^ x.log)
  let count := (parts.headD []).length
  let elems := (List.range count).map (fun i => parts.map (fun l => l.getD i 0))
  let t := tags.foldl max 0
  let sh := s.reg Obj.ACC_RETRY_SHIFT c
  let (words, tag, repeats, beyond, inexact) :=
    if bad then (List.replicate count nan32, t, 0, false, 0) else combineTile x.log sh (min (t + 3 * sh) 255) elems tags 3 t 0
  let s := (s.bump Obj.TREE_RETRY_COUNT c repeats).bump Obj.TREE_REALIGN_INEXACT_COUNT c inexact
  let s := if beyond then s.meet n .scaleExhausted else s
  let s := if bad then s.meet n .failedUncorrectable else s
  let w := min 32 (x.n - 32 * col)
  let s := (List.range (min 32 (x.m - 32 * row))).foldl (fun s r =>
    (s.fmWrite c f (x.out + (32 * row + r) * alignUp (4 * x.n) 32 + 128 * col)
      (((words.drop (w * r)).take w).flatMap (leBytes 4))).2) s
  (s.fmWrite c f (x.outTag + row * ((x.n + 31) / 32) + col) [BitVec.ofNat 8 tag]).2

/-- A combine runs tile by tile (R161). -/
def State.combineAll (s : State) (n : Nat) (it : Item) : State :=
  let x := combineOf it.desc
  let cols := (x.n + 31) / 32
  ((List.range ((x.m + 31) / 32 * cols)).foldl (fun s i => s.combineOne n it x (i / cols) (i % cols)) s).finish n

/-- A combine starts on its thread: it is checked, takes its arguments (R149), and runs with a vector frame or waits for one as a program
does (R144, R146). -/
def State.treeCombine (s : State) (n : Nat) (it : Item) (t : Nat) (th : Thread) : State :=
  let f := it.facet
  let code := combineCheck th it
  if code ≠ 0 then s.refuseVector n it.ctx code
  else
    let s := s.loadArgs f t it.desc
    if s.frameFree f then s.combineAll n it
    else s.awaitFrame f t { item := n, base := 0, combine := true }

/-- TREE_COMBINE (R161). One that has waited for its frame and is ready runs with it, and frees it. -/
def execTreeCombine (item : Nat) (s : State) : Res :=
  .next (match s.item? item with
    | none => s
    | some it =>
      match s.threadOf it.facet item with
      | none => s
      | some (t, th) =>
        match th.prog with
        | none => s.withItem item [0x21] (fun it s => s.treeCombine item it t th)
        | some p =>
          if p.item = item ∧ p.combine = true ∧ p.framed = true ∧ th.wait = .no then
            (s.setThread it.facet t { th with prog := none }).withItem item [0x21] (fun it s => s.combineAll item it)
          else s)

end Sys2Proof.Machine
end

