-- ==== Sys2Proof/Machine/Dispatch.lean ====
section
/-! DEFINITION. Sys2Proof/Machine/Dispatch.lean: one arm for each command, one direct call of its meaning. -/

namespace Sys2Proof.Machine

def exec (i : Instr) (s : State) : Host.Outcome State Fault Refusal :=
  match i with
  | .beatEdge => Sys2Proof.Machine.execBeatEdge s
  | .slotComplete ctx slot sinceEdgeNs => Sys2Proof.Machine.execSlotComplete ctx slot sinceEdgeNs s
  | .lateWaitTimeout ctx slot => Sys2Proof.Machine.execLateWaitTimeout ctx slot s
  | .beatPeriodNsWrite who value => Sys2Proof.Machine.execBeatPeriodNsWrite who value s
  | .beatEpochStartSecWrite who value => Sys2Proof.Machine.execBeatEpochStartSecWrite who value s
  | .epochStart => Sys2Proof.Machine.execEpochStart s
  | .beatMarkerReceive spoke marker t1 t4 copies => Sys2Proof.Machine.execBeatMarkerReceive spoke marker t1 t4 copies s
  | .cadenceLock => Sys2Proof.Machine.execCadenceLock s
  | .upstreamLoss => Sys2Proof.Machine.execUpstreamLoss s
  | .holdoverTimeout => Sys2Proof.Machine.execHoldoverTimeout s
  | .heartbeatSend spoke => Sys2Proof.Machine.execHeartbeatSend spoke s
  | .heartbeatReceive spoke heartbeat copies => Sys2Proof.Machine.execHeartbeatReceive spoke heartbeat copies s
  | .peerSilent spoke => Sys2Proof.Machine.execPeerSilent spoke s
  | .ppsEdge sinceNs => Sys2Proof.Machine.execPpsEdge sinceNs s
  | .ppsLoss => Sys2Proof.Machine.execPpsLoss s
  | .planLoad who ctx => Sys2Proof.Machine.execPlanLoad who ctx s
  | .planArm who ctx => Sys2Proof.Machine.execPlanArm who ctx s
  | .stopAtStepEnd who ctx => Sys2Proof.Machine.execStopAtStepEnd who ctx s
  | .planHalt who ctx => Sys2Proof.Machine.execPlanHalt who ctx s
  | .planUnload who ctx => Sys2Proof.Machine.execPlanUnload who ctx s
  | .planFirstStepWrite who ctx value => Sys2Proof.Machine.execPlanFirstStepWrite who ctx value s
  | .dropLedgerRegionWrite who ctx object value => Sys2Proof.Machine.execDropLedgerRegionWrite who ctx object value s
  | .windowOutputSend ctx slot => Sys2Proof.Machine.execWindowOutputSend ctx slot s
  | .closeMarkerReceive node vc => Sys2Proof.Machine.execCloseMarkerReceive node vc s
  | .threadIssueNext facet thread => Sys2Proof.Machine.execThreadIssueNext facet thread s
  | .facetZeroDone facet => Sys2Proof.Machine.execFacetZeroDone facet s
  | .threadWake facet thread => Sys2Proof.Machine.execThreadWake facet thread s
  | .vectorFrameGrant facet => Sys2Proof.Machine.execVectorFrameGrant facet s
  | .matmul item => Sys2Proof.Machine.execMatmul item s
  | .maxIndex item => Sys2Proof.Machine.execMaxIndex item s
  | .minIndex item => Sys2Proof.Machine.execMinIndex item s
  | .kLoopEnd facet => Sys2Proof.Machine.execKLoopEnd facet s
  | .accTileSwap facet => Sys2Proof.Machine.execAccTileSwap facet s
  | .tileDrainDone facet array => Sys2Proof.Machine.execTileDrainDone facet array s
  | .runProgram item => Sys2Proof.Machine.execRunProgram item s
  | .treeCombine item => Sys2Proof.Machine.execTreeCombine item s
  | .vprogInsnLimitExceeded facet thread => Sys2Proof.Machine.execVprogInsnLimitExceeded facet thread s
  | .sadd facet thread => Sys2Proof.Machine.execSadd facet thread s
  | .saddi facet thread => Sys2Proof.Machine.execSaddi facet thread s
  | .ssub facet thread => Sys2Proof.Machine.execSsub facet thread s
  | .smul facet thread => Sys2Proof.Machine.execSmul facet thread s
  | .sand facet thread => Sys2Proof.Machine.execSand facet thread s
  | .sor facet thread => Sys2Proof.Machine.execSor facet thread s
  | .sxor facet thread => Sys2Proof.Machine.execSxor facet thread s
  | .sshl facet thread => Sys2Proof.Machine.execSshl facet thread s
  | .sshr facet thread => Sys2Proof.Machine.execSshr facet thread s
  | .ssra facet thread => Sys2Proof.Machine.execSsra facet thread s
  | .sli facet thread => Sys2Proof.Machine.execSli facet thread s
  | .slui facet thread => Sys2Proof.Machine.execSlui facet thread s
  | .sfadd facet thread => Sys2Proof.Machine.execSfadd facet thread s
  | .sfmul facet thread => Sys2Proof.Machine.execSfmul facet thread s
  | .sfdiv facet thread => Sys2Proof.Machine.execSfdiv facet thread s
  | .scmplt facet thread => Sys2Proof.Machine.execScmplt facet thread s
  | .scmpeq facet thread => Sys2Proof.Machine.execScmpeq facet thread s
  | .br facet thread => Sys2Proof.Machine.execBr facet thread s
  | .brz facet thread => Sys2Proof.Machine.execBrz facet thread s
  | .jmp facet thread => Sys2Proof.Machine.execJmp facet thread s
  | .progEnd facet thread => Sys2Proof.Machine.execProgEnd facet thread s
  | .srd facet thread => Sys2Proof.Machine.execSrd facet thread s
  | .vextr facet thread => Sys2Proof.Machine.execVextr facet thread s
  | .fld facet thread => Sys2Proof.Machine.execFld facet thread s
  | .fst facet thread => Sys2Proof.Machine.execFst facet thread s
  | .fatomAdd facet thread => Sys2Proof.Machine.execFatomAdd facet thread s
  | .fatomMin facet thread => Sys2Proof.Machine.execFatomMin facet thread s
  | .fatomMax facet thread => Sys2Proof.Machine.execFatomMax facet thread s
  | .fatomCas facet thread => Sys2Proof.Machine.execFatomCas facet thread s
  | .ffence facet thread => Sys2Proof.Machine.execFfence facet thread s
  | .finv facet thread => Sys2Proof.Machine.execFinv facet thread s
  | .sld facet thread => Sys2Proof.Machine.execSld facet thread s
  | .sst facet thread => Sys2Proof.Machine.execSst facet thread s
  | .vadd facet thread => Sys2Proof.Machine.execVadd facet thread s
  | .vsub facet thread => Sys2Proof.Machine.execVsub facet thread s
  | .vmul facet thread => Sys2Proof.Machine.execVmul facet thread s
  | .vfma facet thread => Sys2Proof.Machine.execVfma facet thread s
  | .vmax facet thread => Sys2Proof.Machine.execVmax facet thread s
  | .vmin facet thread => Sys2Proof.Machine.execVmin facet thread s
  | .vdiv facet thread => Sys2Proof.Machine.execVdiv facet thread s
  | .vsqrt facet thread => Sys2Proof.Machine.execVsqrt facet thread s
  | .vrcp facet thread => Sys2Proof.Machine.execVrcp facet thread s
  | .vrsqrt facet thread => Sys2Proof.Machine.execVrsqrt facet thread s
  | .vexp facet thread => Sys2Proof.Machine.execVexp facet thread s
  | .vlog facet thread => Sys2Proof.Machine.execVlog facet thread s
  | .vtanh facet thread => Sys2Proof.Machine.execVtanh facet thread s
  | .vabs facet thread => Sys2Proof.Machine.execVabs facet thread s
  | .vneg facet thread => Sys2Proof.Machine.execVneg facet thread s
  | .vsel facet thread => Sys2Proof.Machine.execVsel facet thread s
  | .vcmplt facet thread => Sys2Proof.Machine.execVcmplt facet thread s
  | .vcmpeq facet thread => Sys2Proof.Machine.execVcmpeq facet thread s
  | .visnan facet thread => Sys2Proof.Machine.execVisnan facet thread s
  | .viadd facet thread => Sys2Proof.Machine.execViadd facet thread s
  | .vcvti facet thread => Sys2Proof.Machine.execVcvti facet thread s
  | .vcvtf facet thread => Sys2Proof.Machine.execVcvtf facet thread s
  | .viota facet thread => Sys2Proof.Machine.execViota facet thread s
  | .vbcast facet thread => Sys2Proof.Machine.execVbcast facet thread s
  | .vcadd facet thread => Sys2Proof.Machine.execVcadd facet thread s
  | .vcred facet thread => Sys2Proof.Machine.execVcred facet thread s
  | .vdadd facet thread => Sys2Proof.Machine.execVdadd facet thread s
  | .vdred facet thread => Sys2Proof.Machine.execVdred facet thread s
  | .vrmax facet thread => Sys2Proof.Machine.execVrmax facet thread s
  | .vrmin facet thread => Sys2Proof.Machine.execVrmin facet thread s
  | .vrsum facet thread => Sys2Proof.Machine.execVrsum facet thread s
  | .vld facet thread => Sys2Proof.Machine.execVld facet thread s
  | .vst facet thread => Sys2Proof.Machine.execVst facet thread s
  | .vstn facet thread => Sys2Proof.Machine.execVstn facet thread s
  | .vscfg facet thread => Sys2Proof.Machine.execVscfg facet thread s
  | .vsflush facet thread => Sys2Proof.Machine.execVsflush facet thread s
  | .vgather facet thread => Sys2Proof.Machine.execVgather facet thread s
  | .vscatter facet thread => Sys2Proof.Machine.execVscatter facet thread s
  | .vldm facet thread => Sys2Proof.Machine.execVldm facet thread s
  | .accnext facet thread => Sys2Proof.Machine.execAccnext facet thread s
  | .accrd facet thread => Sys2Proof.Machine.execAccrd facet thread s
  | .accrel facet thread => Sys2Proof.Machine.execAccrel facet thread s
  | .xfld facet thread => Sys2Proof.Machine.execXfld facet thread s
  | .xfst facet thread => Sys2Proof.Machine.execXfst facet thread s
  | .xfadd facet thread => Sys2Proof.Machine.execXfadd facet thread s
  | .xfmad facet thread => Sys2Proof.Machine.execXfmad facet thread s
  | .xfmul facet thread => Sys2Proof.Machine.execXfmul facet thread s
  | .xfrn facet thread => Sys2Proof.Machine.execXfrn facet thread s
  | .vdrop facet thread => Sys2Proof.Machine.execVdrop facet thread s
  | .fmCorrectedWriteback word => Sys2Proof.Machine.execFmCorrectedWriteback word s
  | .copy run => Sys2Proof.Machine.execCopy run s
  | .storeSparse run => Sys2Proof.Machine.execStoreSparse run s
  | .predictMask run => Sys2Proof.Machine.execPredictMask run s
  | .actSave run => Sys2Proof.Machine.execActSave run s
  | .actRestore run => Sys2Proof.Machine.execActRestore run s
  | .fill run => Sys2Proof.Machine.execFill run s
  | .gather run => Sys2Proof.Machine.execGather run s
  | .route item => Sys2Proof.Machine.execRoute item s
  | .consume item => Sys2Proof.Machine.execConsume item s
  | .return item => Sys2Proof.Machine.execReturn item s
  | .combine item => Sys2Proof.Machine.execCombine item s
  | .bwdRoute item => Sys2Proof.Machine.execBwdRoute item s
  | .bwdConsume item => Sys2Proof.Machine.execBwdConsume item s
  | .bwdReturn item => Sys2Proof.Machine.execBwdReturn item s
  | .bwdCombine item => Sys2Proof.Machine.execBwdCombine item s
  | .dispatchRecordArrive node vc => Sys2Proof.Machine.execDispatchRecordArrive node vc s
  | .returnRecordArrive node vc => Sys2Proof.Machine.execReturnRecordArrive node vc s
  | .bwdDispatchRecordArrive node vc => Sys2Proof.Machine.execBwdDispatchRecordArrive node vc s
  | .bwdReturnRecordArrive node vc => Sys2Proof.Machine.execBwdReturnRecordArrive node vc s
  | .drainCompleteReceive node vc => Sys2Proof.Machine.execDrainCompleteReceive node vc s
  | .routerCancelWrite who ctx mask => Sys2Proof.Machine.execRouterCancelWrite who ctx mask s
  | .reduce item => Sys2Proof.Machine.execReduce item s
  | .reduceScatter item => Sys2Proof.Machine.execReduceScatter item s
  | .allReduce item => Sys2Proof.Machine.execAllReduce item s
  | .allGather item => Sys2Proof.Machine.execAllGather item s
  | .allToAll item => Sys2Proof.Machine.execAllToAll item s
  | .topkSelect item => Sys2Proof.Machine.execTopkSelect item s
  | .merge item => Sys2Proof.Machine.execMerge item s
  | .mergeAll item => Sys2Proof.Machine.execMergeAll item s
  | .collSend item => Sys2Proof.Machine.execCollSend item s
  | .collRelay item => Sys2Proof.Machine.execCollRelay item s
  | .collFinish item => Sys2Proof.Machine.execCollFinish item s
  | .contributionRecordArrive node vc => Sys2Proof.Machine.execContributionRecordArrive node vc s
  | .treeJoin ctx window seg col lo size => Sys2Proof.Machine.execTreeJoin ctx window seg col lo size s
  | .latticeRouteWrite who lattice value => Sys2Proof.Machine.execLatticeRouteWrite who lattice value s
  | .rankMapCommit who ctx value => Sys2Proof.Machine.execRankMapCommit who ctx value s
  | .spokeReset who spoke => Sys2Proof.Machine.execSpokeReset who spoke s
  | .spokeDisable who spoke => Sys2Proof.Machine.execSpokeDisable who spoke s
  | .spokeEnable who spoke => Sys2Proof.Machine.execSpokeEnable who spoke s
  | .spokeLaneLock spoke lanes => Sys2Proof.Machine.execSpokeLaneLock spoke lanes s
  | .spokeFecLock spoke lanes => Sys2Proof.Machine.execSpokeFecLock spoke lanes s
  | .trainingOsReceive spoke os => Sys2Proof.Machine.execTrainingOsReceive spoke os s
  | .spokeKeysInstalled spoke peer => Sys2Proof.Machine.execSpokeKeysInstalled spoke peer s
  | .spokeTrainingTimeout spoke => Sys2Proof.Machine.execSpokeTrainingTimeout spoke s
  | .spokeDownRetrain spoke => Sys2Proof.Machine.execSpokeDownRetrain spoke s
  | .flitReceive spoke block check tagOk => Sys2Proof.Machine.execFlitReceive spoke block check tagOk s
  | .flitTransmit spoke => Sys2Proof.Machine.execFlitTransmit spoke s
  | .linkRetryReceive spoke lseq copies => Sys2Proof.Machine.execLinkRetryReceive spoke lseq copies s
  | .linkRetryLimit spoke => Sys2Proof.Machine.execLinkRetryLimit spoke s
  | .laneFail spoke lane => Sys2Proof.Machine.execLaneFail spoke lane s
  | .degradeReceive spoke lanes number echo copies => Sys2Proof.Machine.execDegradeReceive spoke lanes number echo copies s
  | .laneDeskewDone spoke => Sys2Proof.Machine.execLaneDeskewDone spoke s
  | .resetNoticeReceive spoke node epoch reason copies => Sys2Proof.Machine.execResetNoticeReceive spoke node epoch reason copies s
  | .hupDataReceive source => Sys2Proof.Machine.execHupDataReceive source s
  | .hupAckReceive source => Sys2Proof.Machine.execHupAckReceive source s
  | .hupAckTimer node vc => Sys2Proof.Machine.execHupAckTimer node vc s
  | .hupCloseReceive source => Sys2Proof.Machine.execHupCloseReceive source s
  | .epochNoticeReceive source => Sys2Proof.Machine.execEpochNoticeReceive source s
  | .genNoticeReceive source => Sys2Proof.Machine.execGenNoticeReceive source s
  | .keyxReceive source => Sys2Proof.Machine.execKeyxReceive source s
  | .markerPacketReceive source t1 t4 => Sys2Proof.Machine.execMarkerPacketReceive source t1 t4 s
  | .hupRtoExpiry node vc seq => Sys2Proof.Machine.execHupRtoExpiry node vc seq s
  | .hupGiveup node vc seq => Sys2Proof.Machine.execHupGiveup node vc seq s
  | .spokeRekeyTrigger spoke => Sys2Proof.Machine.execSpokeRekeyTrigger spoke s
  | .keyPhaseGraceEnd spoke => Sys2Proof.Machine.execKeyPhaseGraceEnd spoke s
  | .ethLinkUp spoke => Sys2Proof.Machine.execEthLinkUp spoke s
  | .ethLinkDown spoke => Sys2Proof.Machine.execEthLinkDown spoke s
  | .fabGet item => Sys2Proof.Machine.execFabGet item s
  | .fabPut item => Sys2Proof.Machine.execFabPut item s
  | .publish item => Sys2Proof.Machine.execPublish item s
  | .publishCloseSend item => Sys2Proof.Machine.execPublishCloseSend item s
  | .invalidate item => Sys2Proof.Machine.execInvalidate item s
  | .fabricLoad node vc => Sys2Proof.Machine.execFabricLoad node vc s
  | .fabricStore node vc => Sys2Proof.Machine.execFabricStore node vc s
  | .fabricAtomicAdd node vc => Sys2Proof.Machine.execFabricAtomicAdd node vc s
  | .fabricAtomicMin node vc => Sys2Proof.Machine.execFabricAtomicMin node vc s
  | .fabricAtomicMax node vc => Sys2Proof.Machine.execFabricAtomicMax node vc s
  | .fabricAtomicCas node vc => Sys2Proof.Machine.execFabricAtomicCas node vc s
  | .fabricPutChunk node vc => Sys2Proof.Machine.execFabricPutChunk node vc s
  | .fabricResolve node vc => Sys2Proof.Machine.execFabricResolve node vc s
  | .fabricReplyReceive node vc => Sys2Proof.Machine.execFabricReplyReceive node vc s
  | .fabricBusyResend node fseq => Sys2Proof.Machine.execFabricBusyResend node fseq s
  | .fabricReplyTimeout node fseq => Sys2Proof.Machine.execFabricReplyTimeout node fseq s
  | .tombstoneExpiry node epoch fseq => Sys2Proof.Machine.execTombstoneExpiry node epoch fseq s
  | .hbmRegionWrite who ctx base size => Sys2Proof.Machine.execHbmRegionWrite who ctx base size s
  | .hbmUnitWrittenWrite who unit => Sys2Proof.Machine.execHbmUnitWrittenWrite who unit s
  | .hbmRetiredPagesWrite who entry page flashOk => Sys2Proof.Machine.execHbmRetiredPagesWrite who entry page flashOk s
  | .mergeIdleWriteback sector => Sys2Proof.Machine.execMergeIdleWriteback sector s
  | .patrolScrubRead pseudoChannel natural => Sys2Proof.Machine.execPatrolScrubRead pseudoChannel natural s
  | .flipMaskArm who => Sys2Proof.Machine.execFlipMaskArm who s
  | .flipMaskDisarm who => Sys2Proof.Machine.execFlipMaskDisarm who s
  | .queueCreate who record => Sys2Proof.Machine.execQueueCreate who record s
  | .queuePause who queue => Sys2Proof.Machine.execQueuePause who queue s
  | .queueResume who queue => Sys2Proof.Machine.execQueueResume who queue s
  | .queueReset who queue => Sys2Proof.Machine.execQueueReset who queue s
  | .queueDestroy who queue => Sys2Proof.Machine.execQueueDestroy who queue s
  | .sqTailDoorbell function queue size value => Sys2Proof.Machine.execSqTailDoorbell function queue size value s
  | .cqHeadDoorbell function queue size value => Sys2Proof.Machine.execCqHeadDoorbell function queue size value s
  | .descriptorAccept queue => Sys2Proof.Machine.execDescriptorAccept queue s
  | .itemCompletion item stampNs => Sys2Proof.Machine.execItemCompletion item stampNs s
  | .summaryFlush ctx => Sys2Proof.Machine.execSummaryFlush ctx s
  | .deferredCqWrite queue => Sys2Proof.Machine.execDeferredCqWrite queue s
  | .irqHoldoffExpiry queue => Sys2Proof.Machine.execIrqHoldoffExpiry queue s
  | .qmNop item => Sys2Proof.Machine.execQmNop item s
  | .doorbell item => Sys2Proof.Machine.execDoorbell item s
  | .barrier item => Sys2Proof.Machine.execBarrier item s
  | .acquire item => Sys2Proof.Machine.execAcquire item s
  | .release item => Sys2Proof.Machine.execRelease item s
  | .transfer item => Sys2Proof.Machine.execTransfer item s
  | .poolConfigWrite who ctx first records => Sys2Proof.Machine.execPoolConfigWrite who ctx first records s
  | .poolRequesterWrite who requester context min max => Sys2Proof.Machine.execPoolRequesterWrite who requester context min max s
  | .contextReset who ctx => Sys2Proof.Machine.execContextReset who ctx s
  | .escalationStepTimeout ctx inst cleared => Sys2Proof.Machine.execEscalationStepTimeout ctx inst cleared s
  | .facetResetDone facet passed vertexOk => Sys2Proof.Machine.execFacetResetDone facet passed vertexOk s
  | .contextWithdrawn ctx => Sys2Proof.Machine.execContextWithdrawn ctx s
  | .facetFatalFault facet cause thread => Sys2Proof.Machine.execFacetFatalFault facet cause thread s
  | .threadStallTimeout facet thread => Sys2Proof.Machine.execThreadStallTimeout facet thread s
  | .deviceFatalFault cause detail => Sys2Proof.Machine.execDeviceFatalFault cause detail s
  | .warm who => Sys2Proof.Machine.execWarm who s
  | .warmWithDump who => Sys2Proof.Machine.execWarmWithDump who s
  | .mgmtWatchdogExpiry => Sys2Proof.Machine.execMgmtWatchdogExpiry s
  | .peerLostWrite who node => Sys2Proof.Machine.execPeerLostWrite who node s
  | .errorFlashCopy => Sys2Proof.Machine.execErrorFlashCopy s
  | .errorFlashClear who => Sys2Proof.Machine.execErrorFlashClear who s
  | .facetRetiredWrite who bits flashOk => Sys2Proof.Machine.execFacetRetiredWrite who bits flashOk s
  | .crashDumpClear who => Sys2Proof.Machine.execCrashDumpClear who s
  | .bootEntry qualifyMs => Sys2Proof.Machine.execBootEntry qualifyMs s
  | .selftestDone result => Sys2Proof.Machine.execSelftestDone result s
  | .loaderChecked image => Sys2Proof.Machine.execLoaderChecked image s
  | .imagesChecked firmware microcode router => Sys2Proof.Machine.execImagesChecked firmware microcode router s
  | .measuredEntry bootMs => Sys2Proof.Machine.execMeasuredEntry bootMs s
  | .enginesInitialised readyMs => Sys2Proof.Machine.execEnginesInitialised readyMs s
  | .bootStepTimeout => Sys2Proof.Machine.execBootStepTimeout s
  | .getVersion endpoint => Sys2Proof.Machine.execGetVersion endpoint s
  | .getCapabilities endpoint => Sys2Proof.Machine.execGetCapabilities endpoint s
  | .negotiateAlgorithms endpoint common => Sys2Proof.Machine.execNegotiateAlgorithms endpoint common s
  | .getDigests endpoint => Sys2Proof.Machine.execGetDigests endpoint s
  | .getCertificate endpoint slot => Sys2Proof.Machine.execGetCertificate endpoint slot s
  | .challenge endpoint slot => Sys2Proof.Machine.execChallenge endpoint slot s
  | .getMeasurements endpoint index signed => Sys2Proof.Machine.execGetMeasurements endpoint index signed s
  | .keyExchange endpoint => Sys2Proof.Machine.execKeyExchange endpoint s
  | .spdmFinish endpoint session verified proof => Sys2Proof.Machine.execSpdmFinish endpoint session verified proof s
  | .keyUpdate endpoint session => Sys2Proof.Machine.execKeyUpdate endpoint session s
  | .spdmHeartbeat endpoint session => Sys2Proof.Machine.execSpdmHeartbeat endpoint session s
  | .endSession endpoint session => Sys2Proof.Machine.execEndSession endpoint session s
  | .setCertificate endpoint slot sameKey => Sys2Proof.Machine.execSetCertificate endpoint slot sameKey s
  | .spdmHeartbeatTimeout session => Sys2Proof.Machine.execSpdmHeartbeatTimeout session s
  | .ideKmRequest endpoint session stream secure => Sys2Proof.Machine.execIdeKmRequest endpoint session stream secure s
  | .contextClaim session ctx => Sys2Proof.Machine.execContextClaim session ctx s
  | .contextKey who ctx key => Sys2Proof.Machine.execContextKey who ctx key s
  | .contextTransferKey who ctx key => Sys2Proof.Machine.execContextTransferKey who ctx key s
  | .contextKeyNext who ctx key => Sys2Proof.Machine.execContextKeyNext who ctx key s
  | .contextRelease who ctx => Sys2Proof.Machine.execContextRelease who ctx s
  | .secFuseSvn who arg => Sys2Proof.Machine.execSecFuseSvn who arg s
  | .secFuseRevoke who arg => Sys2Proof.Machine.execSecFuseRevoke who arg s
  | .secFuseSigPolicy who => Sys2Proof.Machine.execSecFuseSigPolicy who s
  | .debugUnlock who value => Sys2Proof.Machine.execDebugUnlock who value s
  | .jtagInstructionLoad drives => Sys2Proof.Machine.execJtagInstructionLoad drives s
  | .zeroiseTrigger => Sys2Proof.Machine.execZeroiseTrigger s
  | .sealSubmitInbound function value irq header payload tag => Sys2Proof.Machine.execSealSubmitInbound function value irq header payload tag s
  | .sealSubmitOutbound function value irq header => Sys2Proof.Machine.execSealSubmitOutbound function value irq header s
  | .dictRead source => Sys2Proof.Machine.execDictRead source s
  | .dictWrite source flashOk => Sys2Proof.Machine.execDictWrite source flashOk s
  | .dictInfo source => Sys2Proof.Machine.execDictInfo source s
  | .dictSegment source flashOk => Sys2Proof.Machine.execDictSegment source flashOk s
  | .dictAbort source => Sys2Proof.Machine.execDictAbort source s
  | .segmentTimeout requester => Sys2Proof.Machine.execSegmentTimeout requester s
  | .pendingActionDone image => Sys2Proof.Machine.execPendingActionDone image s
  | .registerWrite who index sub first count value flashOk => Sys2Proof.Machine.execRegisterWrite who index sub first count value flashOk s
  | .mbxControlGo function value irq frame => Sys2Proof.Machine.execMbxControlGo function value irq frame s
  | .mbxStatusClear function value => Sys2Proof.Machine.execMbxStatusClear function value s
  | .fwUpdateBegin who kind copy length => Sys2Proof.Machine.execFwUpdateBegin who kind copy length s
  | .fwUpdateData who piece => Sys2Proof.Machine.execFwUpdateData who piece s
  | .fwUpdateFinish who => Sys2Proof.Machine.execFwUpdateFinish who s
  | .fwUpdateCancel who => Sys2Proof.Machine.execFwUpdateCancel who s
  | .setPreferred who copy flashOk => Sys2Proof.Machine.execSetPreferred who copy flashOk s
  | .flashRestoreDefaults who value => Sys2Proof.Machine.execFlashRestoreDefaults who value s
  | .setEndpointId eid => Sys2Proof.Machine.execSetEndpointId eid s
  | .getEndpointId eid => Sys2Proof.Machine.execGetEndpointId eid s
  | .getMctpVersionSupport eid => Sys2Proof.Machine.execGetMctpVersionSupport eid s
  | .getMessageTypeSupport eid => Sys2Proof.Machine.execGetMessageTypeSupport eid s
  | .getVendorDefinedMsgSupport eid => Sys2Proof.Machine.execGetVendorDefinedMsgSupport eid s
  | .entdaa address => Sys2Proof.Machine.execEntdaa address s
  | .setdasa static address => Sys2Proof.Machine.execSetdasa static address s
  | .pwrgdRise refqSel mgmtMode smbAddr => Sys2Proof.Machine.execPwrgdRise refqSel mgmtMode smbAddr s
  | .pwrgdFall => Sys2Proof.Machine.execPwrgdFall s
  | .sysResetNLow => Sys2Proof.Machine.execSysResetNLow s
  | .sysResetNRise => Sys2Proof.Machine.execSysResetNRise s
  | .perstNLow => Sys2Proof.Machine.execPerstNLow s
  | .perstNRise => Sys2Proof.Machine.execPerstNRise s
  | .thermNLow => Sys2Proof.Machine.execThermNLow s
  | .thermNHigh => Sys2Proof.Machine.execThermNHigh s
  | .refQualifyDone => Sys2Proof.Machine.execRefQualifyDone s
  | .pllLockTimeout => Sys2Proof.Machine.execPllLockTimeout s
  | .refLost => Sys2Proof.Machine.execRefLost s
  | .pllLockLoss pll => Sys2Proof.Machine.execPllLockLoss pll s
  | .railFault rail => Sys2Proof.Machine.execRailFault rail s
  | .thermalSample temps => Sys2Proof.Machine.execThermalSample temps s
  | .thermalCeilingRaise die => Sys2Proof.Machine.execThermalCeilingRaise die s
  | .powerTick watts meanSecond peakSecond amps rails => Sys2Proof.Machine.execPowerTick watts meanSecond peakSecond amps rails s
  | .overcurrent die => Sys2Proof.Machine.execOvercurrent die s
  | .overcurrentHoldEnd die => Sys2Proof.Machine.execOvercurrentHoldEnd die s
  | .quadClockSwitch quad => Sys2Proof.Machine.execQuadClockSwitch quad s
  | .avsReply die mv deciAmps => Sys2Proof.Machine.execAvsReply die mv deciAmps s
  | .avsTimeout die unanswered => Sys2Proof.Machine.execAvsTimeout die unanswered s
  | .clkobsWrite who enable source div pin => Sys2Proof.Machine.execClkobsWrite who enable source div pin s
  | .auxioConfigWrite who pin function polarity width param flashOk => Sys2Proof.Machine.execAuxioConfigWrite who pin function polarity width param flashOk s
  | .trigInEdge pin rising => Sys2Proof.Machine.execTrigInEdge pin rising s
  | .ppsOutPulse pin => Sys2Proof.Machine.execPpsOutPulse pin s
  | .traceConfigWrite who holder freezeAfter => Sys2Proof.Machine.execTraceConfigWrite who holder freezeAfter s
  | .faultOutClear who => Sys2Proof.Machine.execFaultOutClear who s
  | .alarmClear who classes => Sys2Proof.Machine.execAlarmClear who classes s
  | .vfEnableWrite count => Sys2Proof.Machine.execVfEnableWrite count s
  | .powerStateWrite function d3hot => Sys2Proof.Machine.execPowerStateWrite function d3hot s
  | .maintUnitDue activity resource => Sys2Proof.Machine.execMaintUnitDue activity resource s
  | .maintUnitStart activity resource durationNs => Sys2Proof.Machine.execMaintUnitStart activity resource durationNs s
  | .maintUnitDone activity resource durationNs passed vertexOk => Sys2Proof.Machine.execMaintUnitDone activity resource durationNs passed vertexOk s
  | .maintOverdue activity resource => Sys2Proof.Machine.execMaintOverdue activity resource s
  | .spokeRetuneRequest who spoke => Sys2Proof.Machine.execSpokeRetuneRequest who spoke s
  | .powerLoss => Sys2Proof.Machine.execPowerLoss s
  | .refclkEdgesPresent => Sys2Proof.Machine.execRefclkEdgesPresent s
  | .pcieLinkUp rate width flit => Sys2Proof.Machine.execPcieLinkUp rate width flit s
  | .contextResetDeferredStart ctx => Sys2Proof.Machine.execContextResetDeferredStart ctx s

end Sys2Proof.Machine
end

