-- ==== Sys2Proof/Safety.lean ====
section
/-! DEFINITION. Sys2Proof/Safety.lean: the terms in which claims are stated: what two states share, when a requester's write
reaches the owner of an object, and the form that every step keeps. -/

namespace Sys2Proof.Machine

/-- `t` reads every register as `s` does, but those under `keys`. -/
def SameRegs (s t : State) (keys : List Nat) : Prop :=
  ∀ (o : ObjDef) (sub i : Nat), o.key sub ∉ keys → t.regF o sub i = s.regF o sub i

/-- A write of the object by this requester passes the usual checks, and reaches the object's owner (17_object_dictionary R490
checks 5 to 7). -/
def Takes (s : State) (who : Who) (o : ObjDef) (sub : Nat) (perContext : Bool) : Prop :=
  s.answers = true ∧ s.rowChecks who o sub perContext = 0

/-- Nothing is due at a beat edge: no written value awaits it, no peer is heard, no spoke carries traffic, no pin or trigger has a
place on it, and no context has a plan. -/
def State.Calm (s : State) : Prop :=
  s.waitBeat = [] ∧ s.cad.peers = [] ∧ (∀ p, p < 18 → s.spokeUp p = false) ∧ s.pins.timers = []
    ∧ (∀ p, p < 8 → s.pinOwner p ≠ fnBeatMark) ∧ ∀ c, c < 16 → (s.plan c).image = none ∧ (s.plan c).slots = []

/-- The registers that the election of the beat master and the upstream spoke may change. -/
def electKeys : List Nat :=
  [Obj.BEAT_MASTER_NODE.key 0, Obj.BEAT_UPSTREAM_SPOKE.key 0, Obj.CADENCE_STATE.key 0, Obj.TIME_STATE.key 0]

/-- Thread `t` of facet `f` has reached the instruction word `w` of its program `p` and may execute it
(05_vector_engine_and_sequencer R150, R151). -/
def State.At (s : State) (f t : Nat) (p : Program) (w : Nat) : Prop := s.fetch f t = some (p, w) ∧ insnDefined w = true

/-- The program has executed an instruction and stands at instruction `pc`, which is checked as it is reached (05 R150). -/
def State.onward (s : State) (f t : Nat) (p : Program) (pc : Nat) : State :=
  (s.setProg f t { p with pc := pc, count := p.count + 1 }).reach f t

/-- `n` bytes of facet memory from `a` exist and hold no stored error (05 R137, R139). -/
def State.Clean (s : State) (f a n : Nat) : Prop :=
  a + n ≤ facetBytes ∧ ∀ k ∈ wordsOf (facetBytes * f + a) n, s.fm.poison.contains k = false ∧ tfind s.fm.flips k = none

/-- `n` bytes of facet memory. -/
def State.fmBytes (s : State) (f a n : Nat) : Bytes := s.fm.mem.getN (facetBytes * f + a) n

/-- The lanes of a mask in a row at `a`, of `bits` bits each, exist and hold no stored error (05 R147). -/
def State.RowClean (s : State) (f a bits m : Nat) : Prop :=
  (m = 0 ∨ a + maskBytes bits m ≤ facetBytes)
    ∧ ∀ k ∈ rowWords f a bits m, s.fm.poison.contains k = false ∧ tfind s.fm.flips k = none

/-- A row of lanes has come from memory into register `vd` under a mask, and the program has gone on (05 R147, R166): a lane in `bad`,
of an uncorrectable word or operand, is poisoned and holds an open value, and the descriptor meets the failure. -/
def State.Loaded (s u : State) (f t : Nat) (p : Program) (vd m : Nat) (lanes : List Nat) (bad : Nat) : Prop :=
  (bad &&& m = 0 → u = s.onward f t (p.vput vd m lanes 0) (p.pc + 1)) ∧
  (bad &&& m ≠ 0 → ∃ vals : List Nat, (∀ l, l < 256 → bit bad l = false → vals.getD l 0 = lanes.getD l 0)
    ∧ u = (({ s with freeCtr := s.freeCtr + 256 }).meet p.item .failedUncorrectable).onward f t (p.vput vd m vals bad) (p.pc + 1))

/-- The instruction of program `p` at `pc` lies in facet memory, in words without a stored error, and is one of R152. -/
def State.GoesOn (s : State) (f : Nat) (p : Program) (pc : Nat) : Prop :=
  s.Clean f (p.base + 8 * pc) 8 ∧ insnDefined (ofLE (s.fmBytes f (p.base + 8 * pc) 8)) = true

/-- The counters that a stream DMA descriptor raises (06_sparsity R191-R197, 08_backward_and_training R241), and those that its
accesses to memory raise (13_hbm_and_ecc R358, R368; 05 R139). -/
def streamCounters : List Nat :=
  [Obj.NARROW_RETRY_COUNT.index, Obj.SAT_COUNT.index, Obj.SCALE_UNDERFLOW_COUNT.index, Obj.NAN_BLOCK_COUNT.index,
   Obj.SCALE_EXHAUSTED_COUNT.index, Obj.SPARSE_FALLBACK_COUNT.index, Obj.SPARSE_MALFORMED_COUNT.index, Obj.PRUNE_COUNT.index,
   Obj.CODEC_IN_BYTES.index, Obj.CODEC_OUT_BYTES.index, Obj.CODEC_RESTORE_BYTES.index,
   Obj.HBM_BYTES.index, Obj.HBM_POISON_READ_COUNT.index, Obj.HBM_CORRECTED_COUNT.index, Obj.HBM_UNCORRECTABLE_COUNT.index,
   Obj.HBM_MERGE_RMW_COUNT.index, Obj.HBM_MERGE_FULL_COUNT.index, Obj.ECC_FLIP_STATUS.index, Obj.FM_CORRECTED_COUNT.index,
   Obj.SRAM_CORRECTED_COUNT.index, Obj.FM_UNCORRECTABLE_COUNT.index, Obj.SRAM_UNCORRECTABLE_COUNT.index,
   Obj.ALARM_STATUS.index, Obj.TRACE_CONFIG.index]

/-- Some object under the index takes its value at a step of its context (17_object_dictionary R473). -/
def waitsForStep (index : Nat) : Bool := Obj.table.any (fun o => o.index == index && o.apply == .nextStep)

/-- Values that wait for a step of their context are values of objects with that apply time (17_object_dictionary R473). -/
def State.waitsRight (s : State) : Prop := ∀ e ∈ s.waitStep, waitsForStep (e.1 / 256) = true

/-- The items lie in the order of their numbers, all below the next (00_scope R12). -/
def State.itemsRight (s : State) : Prop := (tkeys s.items).Pairwise (· < ·) ∧ ∀ e ∈ s.items, e.1 < s.nextItem

/-- Item `n` is at `t` as it was at `s`, but that writes it has made may have been lost since in sectors that have become uncorrectable
(13_hbm_and_ecc R373); one that has left does not come back. -/
def ItemKept (s t : State) (n : Nat) : Prop :=
  match tfind s.items n with
  | none => tfind t.items n = none
  | some it => ∃ k, tfind t.items n = some ((List.replicate k Status.failedUncorrectable).foldl Item.failing it)

/-- A context reset of `c` begins at `s` and leaves `u` (15_faults_and_recovery R407, R411, R412): the next generation, the context
in reset, a facet of it that is being reset at step 3 of the ladder, its queues paused, its threads and outputs gone, its unfinished
items failed, its counters cleared; what belongs to other contexts stays. -/
def State.Begun (s u : State) (c : Nat) : Prop :=
  let resets := s.rcv.facetResets.filter (fun f => s.facetServes f c)
  u.gen c = (s.gen c + 1) % 65536 ∧ u.reg Obj.CONTEXT_STATE c = (if resets = [] then 1 else 2) ∧ (∀ o ∈ contextCounters, u.reg o c = 0)
    ∧ (∃ w, tfind u.rcv.active c = some w ∧ w.startNs = s.now ∧ w.rungs.map (fun r => (r.inst, r.step)) = resets.map (fun f => (.facet f, 3)))
    ∧ tfind u.rcv.lastReset c = some s.now
    ∧ tfind u.rcv.deferred c = none
    ∧ (∀ q x, s.queue? q = some x → u.queue? q = some (if qrContext x.record = c then { x with state := 2 } else x))
    ∧ (∀ f, ∀ e ∈ (u.facet f).threads, e.2.ctx ≠ c) ∧ (∀ o ∈ u.outgoing, o.ctx ≠ c)
    ∧ (∀ n it, s.item? n = some it → it.ctx = c →
        ∃ jt k, u.item? n = some jt ∧ jt.phase = ((List.replicate k Status.failedUncorrectable).foldl Item.failing { it with
          phase := if it.isDone then it.phase else .done (Status.report (it.met ++ [.failedContextReset])) .notApplied }).phase)
    ∧ (s.itemsRight → ∀ n it, s.item? n = some it → it.ctx ≠ c → ItemKept s u n)
    ∧ (∀ d, d ≠ c → d < 16 → u.gen d = s.gen d ∧ u.plan d = s.plan d ∧ u.planState d = s.planState d)
    ∧ u.planState c = s.planState c ∧ (u.plan c).image = (s.plan c).image
    ∧ (s.hbm.mem.wf = true → u.hbm.mem.wf = true) ∧ (s.fm.mem.wf = true → u.fm.mem.wf = true)

/-- A device reset with a reason has begun at `s` and left `u`: what R437 does not keep is gone (15_faults_and_recovery R420, R421,
R437). -/
def State.Restarted (s u : State) (reason : Nat) : Prop :=
  u.rcv.resetting = some reason ∧ u.items = [] ∧ u.queues = [] ∧ u.plans = [] ∧ u.facets = [] ∧ u.hbm.mem = {} ∧ u.fm = {} ∧ u.hup = {}
    ∧ u.dict = {} ∧ u.sec.sessions = [] ∧ u.sec.keys = [] ∧ u.pending = s.pending ∧ u.flash = s.flash ∧ u.waitReset = s.waitReset

/-- A response to a frame has left (17_object_dictionary R484, R485): into the mailbox of the frame's function, or over its transport. -/
def State.Replied (t : State) (src : FrameFrom) (who : Who) (header : Nat) (data : Bytes) : Prop :=
  match src with
  | .mailbox f => (tget {} t.dict.mailboxes f).header = header ∧ (tget {} t.dict.mailboxes f).data = data
      ∧ (tget {} t.dict.mailboxes f).ready = true ∧ (tget {} t.dict.mailboxes f).busy = false
  | _ => t.out.getLast? = some (.frame who header data)

/-- A frame has come for the row of a COMMAND, from its sender and under its number, and it is not one for the vendor test range; its
requester sent another last (17_object_dictionary R477, R482, R494). -/
def State.NewFrame (s : State) (src : FrameFrom) (cmd : Nat) (b : Bytes) : Prop :=
  s.frameBytes src = some b ∧ 32 ≤ b.length ∧ hdCommand (ofLE (b.take 32)) = cmd ∧ s.vendorFrame src b = false
    ∧ ∀ k, tfind s.dict.kept (Who.number (s.party src (ofLE (b.take 32))).who) = some k → k.request ≠ b

/-- The state that a frame's performance begins from: it is counted, and, for an initiation, the requester's open transfer closed
(17_object_dictionary R482, R496). -/
def State.frameHeard (s : State) : State := s.bumpF Obj.DICT_STATS 0 0 1

/-- Every memory has its canonical form: HBM, facet memory, and the crash dump. -/
def State.memWf (s : State) : Prop := s.hbm.mem.wf = true ∧ s.fm.mem.wf = true ∧ s.rcv.dump.wf = true

/-- A step is safe when the device goes on: it neither faults nor refuses. -/
def SafeStep (s : State) : Prop := ∃ t, step s = .next t

end Sys2Proof.Machine
end

