-- ==== Sys2Proof/Certificates/Slice0/Obligations.lean ====
section
/-! DEFINITION. Sys2Proof/Certificates/Slice0/Obligations.lean: what is claimed of the model, for the provers. -/

open Sys2Proof Sys2Proof.Machine

/-- PLAN_LOAD and PLAN_ARM (02_beat_and_time R51-R53): LOAD takes the image it has read, forgets the former plan's place in
its step and the placement switches noted under it, and clears the context's counters; ARM places the plan at PLAN_START_BEAT and PLAN_FIRST_STEP. -/
def Obligations.LoadAndArmPlacePlan : Prop :=
  ∀ (s : State) (who : Who) (c : Nat), c < 16 → Takes s who Obj.PLAN_CONTROL c true →
    (∀ (im : PlanImage) (r : State), s.readImage c (s.reg Obj.PLAN_ADDR c) = (some im, r) → r.loadRefusal c im = 0 →
      ∃ t, exec (.planLoad who c) s = .next t ∧ t.planState c = planLoaded ∧ (t.plan c).image = some im
        ∧ (t.plan c).opened = false ∧ (t.plan c).next = 0 ∧ (∀ d, d ≠ c → t.plan d = r.plan d)
        ∧ (∀ o ∈ contextCounters, t.reg o c = 0)
        ∧ SameRegs r t (Obj.PLAN_STATE.key c :: contextCounters.map (fun o => o.key c))
        ∧ (∀ x, x ∈ t.router.switching ↔ x ∈ r.router.switching ∧ x.ctx ≠ c)
        ∧ t = { r with objs := t.objs, plans := t.plans, router := { r.router with switching := t.router.switching },
                       out := r.out ++ [.answer who (Obj.PLAN_CONTROL.key c) 0] }) ∧
    (s.armRefusal c = 0 →
      ∃ t, exec (.planArm who c) s = .next t ∧ t.planState c = planArmed ∧ (t.plan c).image = (s.plan c).image
        ∧ (t.plan c).startBeat = s.reg Obj.PLAN_START_BEAT c ∧ (t.plan c).firstStep = s.reg Obj.PLAN_FIRST_STEP c
        ∧ (t.plan c).opened = false ∧ (∀ d, d ≠ c → t.plan d = s.plan d)
        ∧ SameRegs s t [Obj.PLAN_STATE.key c]
        ∧ t = { s with objs := t.objs, plans := t.plans, out := s.out ++ [.answer who (Obj.PLAN_CONTROL.key c) 0] })

/-- STOP_AT_STEP_END, HALT and UNLOAD (02_beat_and_time R52): from RUNNING the first two, from any other state the last. Inside a
step STOP_AT_STEP_END only notes the request. Values that await a step of the context may take effect with the change.
It rests on model choices: notes/assumptions/51. -/
def Obligations.PlanLeavesItsState : Prop :=
  ∀ (s : State) (who : Who) (c : Nat), c < 16 → Takes s who Obj.PLAN_CONTROL c true →
    s.waitsRight →
    (s.planState c = planRunning → (s.plan c).opened = true →
      exec (.stopAtStepEnd who c) s
        = .next ((s.setPlan c { s.plan c with stopReq := true }).answer who Obj.PLAN_CONTROL c 0)) ∧
    (s.planState c = planRunning → (s.plan c).opened = false →
      ∃ t, exec (.stopAtStepEnd who c) s = .next t ∧ t.planState c = planStopped ∧ t.plans = s.plans ∧ t.items = s.items
        ∧ t.hbm = s.hbm ∧ t.fm = s.fm ∧ t.queues = s.queues) ∧
    (s.planState c = planRunning →
      ∃ t, exec (.planHalt who c) s = .next t ∧ t.planState c = planHalted ∧ t.plans = s.plans ∧ t.items = s.items
        ∧ t.hbm = s.hbm ∧ t.fm = s.fm ∧ t.queues = s.queues ∧ t.log.nextSeq = (s.log.nextSeq + 1) % 2 ^ 32) ∧
    (s.planState c ≠ planRunning →
      ∃ t, exec (.planUnload who c) s = .next t ∧ t.planState c = planEmpty ∧ (t.plan c).image = none
        ∧ (∀ d, d ≠ c → t.plan d = s.plan d) ∧ t.items = s.items ∧ t.hbm = s.hbm ∧ t.fm = s.fm ∧ t.queues = s.queues)

/-- BEAT_EDGE and EPOCH_START (02_beat_and_time R30-R33) where nothing is due at the edge: the beat count advances by one modulo
2^48 and the time counter by one period; in STOPPED there are no edges; on the beat master the armed second starts beat 0 with the
written period, LOCKED.

PPS_EDGE (02_beat_and_time R43, R44, 19_pins_and_interfaces R545): the master sets its counter to the second the edge marks plus
the cable delay; another device only measures its offset; an edge less than half a second after the one before is ignored and
counted.
It rests on model choices: notes/assumptions/60, notes/assumptions/61, notes/assumptions/62, notes/assumptions/63. -/
def Obligations.EdgesAdvanceBeatAndTime : Prop :=
  (
    ∀ s : State, s.Calm →
      (s.cadState ≠ csStopped →
        ∃ t, exec .beatEdge s = .next t ∧ t.beat = (s.beat + 1) % 2 ^ 48
          ∧ t.cad = { s.cad with edge := s.cad.edge + s.cad.period, up := s.cad.up + s.cad.period,
                                 sec := (s.cad.edge + s.cad.period) / 1000000000 % 2 ^ 48,
                                 ns := (s.cad.edge + s.cad.period) % 1000000000 }
          ∧ SameRegs s t (Obj.BEAT_COUNT.key 0 :: electKeys) ∧ t = { s with objs := t.objs, cad := t.cad }) ∧
      (s.cadState = csStopped → exec .beatEdge s = .next s) ∧
      (∀ sec, s.cad.armed = some sec → s.isMaster = true →
        ∃ t, exec .epochStart s = .next t ∧ t.beat = 0 ∧ t.cadState = csLocked
          ∧ t.cad = { s.cad with armed := none, edge := 1000000000 * sec, period := s.reg Obj.BEAT_PERIOD_NS,
                                 sec := sec % 2 ^ 48, ns := 0 }
          ∧ SameRegs s t (Obj.BEAT_COUNT.key 0 :: Obj.BEAT_EPOCH_START_SEC.key 0 :: electKeys)
          ∧ t = { s with objs := t.objs, cad := t.cad })) ∧
  (
    ∀ (s : State) (d : Nat),
      (s.cad.ppsSeen = true → s.now + d < s.cad.ppsLast + 500000000 →
        exec (.ppsEdge d) s = .next ((s.bumpF Obj.PPS_IN_INFO 0 1 1).setCad { s.cad with ppsLast := s.now + d })) ∧
      (∀ x, s.isMaster = true → s.cad.ppsSeen = false → s.cad.secondsNext = some x → s.reg Obj.PPS_DELAY_NS < 1000000000 →
        x < 2 ^ 48 →
        ∃ t, exec (.ppsEdge d) s = .next t ∧ t.now = 1000000000 * x + s.reg Obj.PPS_DELAY_NS ∧ t.reg Obj.TIME_STATE = tsPps
          ∧ t.cad.secondsNext = none ∧ t.cad.ppsSeen = true ∧ t.regF Obj.PPS_IN_INFO 0 2 = (s.now + d) / 1000000000
          ∧ SameRegs s t [Obj.PPS_IN_INFO.key 0, Obj.TIME_STATE.key 0] ∧ t = { s with objs := t.objs, cad := t.cad }) ∧
      (s.isMaster = false → s.cad.ppsSeen = false →
        ∃ t, exec (.ppsEdge d) s = .next t ∧ t.cad = { s.cad with ppsSeen := true, ppsLast := s.now + d }
          ∧ SameRegs s t [Obj.PPS_IN_INFO.key 0, Obj.PPS_OFFSET_NS.key 0] ∧ t = { s with objs := t.objs, cad := t.cad }))

/-- BEAT_PERIOD_NS_WRITE and BEAT_EPOCH_START_SEC_WRITE (02_beat_and_time R31, R33): a period of 4,000 to 2,000,000 ns is taken in
STOPPED and refused in any other cadence state; the beat master arms the epoch, and refuses while a plan is RUNNING.

CADENCE_LOCK, HOLDOVER_TIMEOUT, PPS_LOSS and UPSTREAM_LOSS (02_beat_and_time R31, R32, R39, R40, R45): after 16 good beats the
device is LOCKED with its upstream peer's period; 10 s of HOLDOVER and PPS lost move the two state registers alone; a device that
loses its one upstream peer, and may not be master, holds over.
It rests on model choices: notes/assumptions/55, notes/assumptions/59, notes/assumptions/60. -/
def Obligations.CadenceFollowsItsState : Prop :=
  (
    ∀ (s : State) (who : Who) (v : Nat),
      (Takes s who Obj.BEAT_PERIOD_NS 0 false → 4000 ≤ v → v ≤ 2000000 →
        exec (.beatPeriodNsWrite who v) s = .next (if s.cadState = csStopped
          then (s.setFields Obj.BEAT_PERIOD_NS 0 [v]).answer who Obj.BEAT_PERIOD_NS 0 0
          else s.answer who Obj.BEAT_PERIOD_NS 0 Abort.CADENCE_STATE_CONFLICT)) ∧
      (Takes s who Obj.BEAT_EPOCH_START_SEC 0 false → v < 2 ^ 48 →
        exec (.beatEpochStartSecWrite who v) s = .next (if s.isMaster then
            if s.anyRunning then s.answer who Obj.BEAT_EPOCH_START_SEC 0 Abort.PLAN_STATE_CONFLICT
            else ((s.setFields Obj.BEAT_EPOCH_START_SEC 0 [v]).setCad
              { s.cad with armed := if v = 0 then none else some v }).answer who Obj.BEAT_EPOCH_START_SEC 0 0
          else (s.setFields Obj.BEAT_EPOCH_START_SEC 0 [v]).answer who Obj.BEAT_EPOCH_START_SEC 0 0))) ∧
  (
    ∀ s : State,
      (∀ m, s.cadState = csAcquiring → 16 ≤ s.cad.goodRun → tfind s.cad.peers (s.reg Obj.BEAT_UPSTREAM_SPOKE) = some m →
        exec .cadenceLock s = .next (((s.setReg Obj.CADENCE_STATE 0 csLocked).setReg Obj.BEAT_PERIOD_NS 0 m.period).setCad
          { s.cad with period := m.period })) ∧
      (s.cadState = csHoldover →
        exec .holdoverTimeout s = .next ((s.setReg Obj.CADENCE_STATE 0 csAcquiring).setCad { s.cad with goodRun := 0 })) ∧
      (s.isMaster = true → s.cad.ppsSeen = true → exec .ppsLoss s = .next (s.setReg Obj.TIME_STATE 0 tsHoldover)) ∧
      (∀ u m, s.cad.peers = [(u, m)] → s.reg Obj.BEAT_UPSTREAM_SPOKE = u → u ≠ 0xFF → s.reg Obj.BEAT_MASTER_PRIORITY = 0 →
        s.isMaster = false → s.cadState = csLocked →
        ∃ t, exec .upstreamLoss s = .next t ∧ t.cadState = csHoldover ∧ t.reg Obj.TIME_STATE = tsHoldover
          ∧ t.reg Obj.BEAT_UPSTREAM_SPOKE = 0xFF ∧ t.cad.peers = [] ∧ SameRegs s t electKeys
          ∧ t = { s with objs := t.objs, cad := t.cad }))

/-- BEAT_MARKER_RECEIVE (02_beat_and_time R36, R38), whose first copy has a right tag: a STOPPED device whose upstream spoke this is
takes the marker's beat and period, sets its counter to the edge and the path, and is ACQUIRING and FOLLOWING; a device that does not
follow this spoke only hears the marker. The arrival is adjusted by SPOKE_ASYM_NS.

HEARTBEAT_SEND, HEARTBEAT_RECEIVE and PEER_SILENT (11_spokes R306, R307, 15_faults_and_recovery R409): between two edges as many
heartbeats leave as the beat period has further started halves of a millisecond, each with this device's node and epoch; one that comes replaces
what the last marker said of the master; a peer silent for 2 ms is lost, with a record. The last is stated where no packet and no fabric
request waits.
It rests on model choices: notes/assumptions/55, notes/assumptions/56, notes/assumptions/64, notes/assumptions/147,
notes/assumptions/148, notes/assumptions/160. -/
def Obligations.MarkersAndHeartbeatsAreFollowed : Prop :=
  (
    ∀ (s : State) (p t1 t4 : Nat) (m : Marker) (copies : List Bool), s.spokeUp p = true → copies.head? = some true →
      let a := (t4 : Int) + toInt 32 (s.reg Obj.SPOKE_ASYM_NS p)
      let n := (s.setCad { s.cad with peers := tset s.cad.peers p m, arrivals := tset s.cad.arrivals p a.toNat }).elect
      (n.isMaster = true ∨ n.reg Obj.BEAT_UPSTREAM_SPOKE ≠ p →
        ∃ t, exec (.beatMarkerReceive p m t1 t4 copies) s = .next t ∧ tfind t.cad.peers p = some m
          ∧ tfind t.cad.arrivals p = some a.toNat ∧ SameRegs s t electKeys ∧ t = { s with objs := t.objs, cad := t.cad }) ∧
      (n.isMaster = false → n.reg Obj.BEAT_UPSTREAM_SPOKE = p → n.cadState = csStopped → m.epochStart = 0 →
        (t1 : Int) + m.turnaround ≤ a → m.edgeSec * 1000000000 + m.edgeNs + (a.toNat - t1) < 2 ^ 48 →
        ∃ t, exec (.beatMarkerReceive p m t1 t4 copies) s = .next t ∧ t.beat = m.beatNumber ∧ t.cadState = csAcquiring
          ∧ t.reg Obj.TIME_STATE = tsFollowing ∧ t.cad.period = m.period ∧ t.cad.goodRun = 0
          ∧ t.now = m.edgeSec * 1000000000 + m.edgeNs + (a.toNat - t1 - m.turnaround) / 2
          ∧ t = { s with objs := t.objs, cad := t.cad })) ∧
  (
    ∀ (s : State) (p : Nat), s.spokeUp p = true →
      (∀ k, s.cadState ≠ csStopped → (s.spoke p).paused = false →
        k = (if (s.spoke p).heartbeats.1 = s.beat then (s.spoke p).heartbeats.2 else 0) → 500000 * (k + 1) < s.cad.period →
        ∃ (t : State) (h : Heartbeat) (e : Emit), exec (.heartbeatSend p) s = .next t
          ∧ h.node = s.node ∧ h.epoch = s.epoch ∧ h.lock = s.cadState ∧ t.out = s.out ++ [e]
          ∧ (s.ethernet p = false → ∃ b, e = .orderedSet p (s.lanes p) (.heartbeat h) b)
          ∧ (s.ethernet p = true → ∃ x b, e = .datagram p x b ∧ x.type = 5 ∧ x.vc = 6 ∧ x.payload = setContent (.heartbeat h))
          ∧ (t.spoke p).heartbeats = (s.beat, k + 1) ∧ t = { s with out := t.out, spokes := t.spokes, freeCtr := t.freeCtr }) ∧
      (∀ (h : Heartbeat) (copies : List Bool), copies.head? = some true →
        ∃ t m, exec (.heartbeatReceive p h copies) s = .next t ∧ tfind t.cad.peers p = some m
          ∧ m.masterNode = h.masterNode ∧ m.masterPriority = h.masterPriority ∧ m.hops = h.hops ∧ m.lock = h.lock
          ∧ SameRegs s t electKeys ∧ t = { s with objs := t.objs, cad := t.cad }) ∧
      (p < 18 → s.reg Obj.SPOKE_PEER p ≠ 0xFFFF → s.nodeLost (s.reg Obj.SPOKE_PEER p) = false ∨ (tfind s.cad.peers p).isSome = true →
        s.hup.tx = [] → s.fab.reqs = [] →
        ∃ t, exec (.peerSilent p) s = .next t ∧ t.nodeLost (s.reg Obj.SPOKE_PEER p) = true ∧ tfind t.cad.peers p = none
          ∧ t.log.nextSeq = (s.log.nextSeq + 1) % 2 ^ 32 ∧ t.items = s.items ∧ t.plans = s.plans ∧ t.hbm = s.hbm ∧ t.fm = s.fm))

/-- SLOT_COMPLETE and LATE_WAIT_TIMEOUT (02_beat_and_time R55, R59, R60, R64). A running slot whose descriptors all have their
completions is complete, and its times are kept; one of a former plan is then forgotten. With the last slot of an open step of a
running plan the step ends, and a requested stop with it; before that the step goes on. LATE_TIMEOUT_MS after close and grace the slots that
wait for a window fail their descriptors with FAILED_TIMEOUT and the plan halts; where no slot waits for it nothing happens.
It rests on model choices: notes/assumptions/7. -/
def Obligations.SlotsEndAndLateWindowsHalt : Prop :=
  (
    ∀ (s : State) (c i d : Nat) (r : SlotRun), c < 16 → s.waitsRight → tfind (s.plan c).slots i = some r → r.phase = .running →
      s.slotItems c i r.step = false → s.slotWaits c i = false →
      let left := if i < 65536 then tset (s.plan c).slots i { r with phase := .complete, endNs := some (s.now + d) }
        else terase (s.plan c).slots i
      let ends := s.planState c = planRunning ∧ (s.plan c).opened = true
        ∧ (∃ im, (s.plan c).image = some im ∧ im.slots.length ≤ (s.plan c).next) ∧ tfind s.rcv.active c = none
        ∧ ∀ e ∈ left, 65536 ≤ e.1 ∨ e.2.phase ≠ .running
      (¬ends → ∃ t, exec (.slotComplete c i d) s = .next t ∧ (t.plan c).slots = left ∧ (t.plan c).opened = (s.plan c).opened
        ∧ (t.plan c).next = (s.plan c).next ∧ t.planState c = s.planState c ∧ (∀ b, b ≠ c → t.plan b = s.plan b)
        ∧ (s.planState c = planRunning →
            SameRegs s t (Obj.TRACE_CONFIG.key 0 :: (bitsOf 192 r.facets).map Obj.FACET_BUSY_NS.key))
        ∧ t = { s with objs := t.objs, waitStep := t.waitStep, plans := t.plans, facets := t.facets, maint := t.maint, pins := t.pins,
                       out := t.out, log := t.log }) ∧
      (ends → ∃ t, exec (.slotComplete c i d) s = .next t ∧ (t.plan c).slots = left.filter (fun e => e.2.phase == .running)
        ∧ (t.plan c).opened = false ∧ (t.plan c).stopReq = false
        ∧ t.planState c = (if (s.plan c).stopReq then planStopped else planRunning)
        ∧ (∀ b, b ≠ c → t.plan b = s.plan b) ∧ ∀ n, ItemKept s t n)) ∧
  (
    ∀ (s : State) (c i : Nat) (im : PlanImage) (sl : Slot), c < 16 → (s.plan c).image = some im → im.slots[i]? = some sl →
      let waits := s.planState c = planRunning ∧ (s.plan c).opened = true ∧ (s.plan c).next ≤ i ∧ (s.plan c).judged.contains sl.winIn = true
        ∧ (s.lateSources c sl.winIn).isEmpty = false
      (¬waits → exec (.lateWaitTimeout c i) s = .next s) ∧
      (waits → s.waitsRight → s.itemsRight →
        ∃ t, exec (.lateWaitTimeout c i) s = .next t ∧ t.planState c = planHalted ∧ t.plans = s.plans ∧ t.queues = s.queues
          ∧ (s.hbm.mem.wf = true → t.hbm.mem.wf = true) ∧ (s.fm.mem.wf = true → t.fm.mem.wf = true)
          ∧ (∀ n, (tfind s.items n).isSome = true → ItemKept s t n)
          ∧ (∀ n it, tfind t.items n = some it → tfind s.items n = none →
              ∃ (jt : Item) (k : Nat), jt.ctx = c ∧ jt.isPlanned = true ∧ jt.phase = .done .failedTimeout .notApplied
                ∧ it = (List.replicate k Status.failedUncorrectable).foldl Item.failing jt)))

/-- PLAN_FIRST_STEP_WRITE and DROP_LEDGER_REGION_WRITE (02_beat_and_time R53, R68): the first step is written in any state but
ARMED and RUNNING; a ledger region that lies in the context's region and has its form is taken at once while no plan runs, and
waits for a step while one does.
It rests on model choices: notes/assumptions/136. -/
def Obligations.PlanWritesFollowTheState : Prop :=
  ∀ (s : State) (who : Who) (c v : Nat),
    (Takes s who Obj.PLAN_FIRST_STEP c true → v < 2 ^ 32 →
      exec (.planFirstStepWrite who c v) s = .next (if s.planState c = planArmed ∨ s.planState c = planRunning
        then s.answer who Obj.PLAN_FIRST_STEP c Abort.PLAN_STATE_CONFLICT
        else (s.setFields Obj.PLAN_FIRST_STEP c [v]).answer who Obj.PLAN_FIRST_STEP c 0)) ∧
    (Takes s who Obj.DROP_LEDGER_ADDR c true → v % 16 = 0 →
      v + 64 * (s.written Obj.DROP_LEDGER_ENTRIES c).getD 0 0 ≤ s.regionSize c →
      exec (.dropLedgerRegionWrite who c .addr v) s = .next ((if s.planState c = planRunning
        then { s with waitStep := tset s.waitStep (Obj.DROP_LEDGER_ADDR.key c) [v] }
        else { s.setFields Obj.DROP_LEDGER_ADDR c [v] with waitStep := terase s.waitStep (Obj.DROP_LEDGER_ADDR.key c) }).answer who Obj.DROP_LEDGER_ADDR c 0)) ∧
    (Takes s who Obj.DROP_LEDGER_ENTRIES c true → (∃ k, 10 ≤ k ∧ k ≤ 16 ∧ v = 2 ^ k) →
      (s.written Obj.DROP_LEDGER_ADDR c).getD 0 0 + 64 * v ≤ s.regionSize c →
      exec (.dropLedgerRegionWrite who c .entries v) s = .next ((if s.planState c = planRunning
        then { s with waitStep := tset s.waitStep (Obj.DROP_LEDGER_ENTRIES.key c) [v] }
        else { s.setFields Obj.DROP_LEDGER_ENTRIES c [v] with waitStep := terase s.waitStep (Obj.DROP_LEDGER_ENTRIES.key c) }).answer who Obj.DROP_LEDGER_ENTRIES c 0))

/-- A write to vector register `r` under a mask (05_vector_engine_and_sequencer R147): each lane the mask keeps takes its value, every
other lane and every other register keeps what it held; p0 reads all ones whatever is written, and a mask register reads what was
written.
It rests on model choices: notes/assumptions/12. -/
def Obligations.MasksKeepTheirLanes : Prop :=
  ∀ (p : Program) (r m : Nat) (vals : List Nat) (bad : Nat), vals.length = 256 → (p.vget r).length = 256 →
    ((p.vput r m vals bad).vget r).length = 256 ∧
    (∀ l, l < 256 → ((p.vput r m vals bad).vget r).getD l 0 = if bit m l then vals.getD l 0 % 2 ^ 32 else (p.vget r).getD l 0) ∧
    (∀ l, l < 256 → bit ((p.vput r m vals bad).vpoison r) l = if bit m l then bit bad l else bit (p.vpoison r) l) ∧
    (∀ q, q % 32 ≠ r % 32 → (p.vput r m vals bad).vget q = p.vget q ∧ (p.vput r m vals bad).vpoison q = p.vpoison q) ∧
    (∀ q v, (p.vput r m vals bad).pget q = p.pget q ∧ (p.pput q v).pget 0 = 2 ^ 256 - 1 ∧ (p.pput q v).vget r = p.vget r
      ∧ (q % 8 ≠ 0 → (p.pput q v).pget q = v % 2 ^ 256) ∧ ∀ k, k % 8 ≠ q % 8 → (p.pput q v).pget k = p.pget k)

/-- The lanewise vector instructions (05 R146-R148, R152, R153): each lane of the destination that the mask keeps takes the function of
the operands' lanes, where SB_EN puts a scalar's low word in every lane of the second; the facet's issue-cycle counter grows by the
slots that the instruction holds, and the program goes on.
It rests on model choices: notes/assumptions/11, notes/assumptions/12, notes/assumptions/73. -/
def Obligations.LanewiseInstructionsCompute : Prop :=
  ∀ (s : State) (f t : Nat) (p : Program) (w : Nat), s.At f t p w →
    let a := p.src (iVA w)
    let b := s.vb f t p w
    let c := p.src (iVC w)
    let m := p.maskV w
    let after := fun (n : Nat) (q : Program) =>
      Host.Outcome.next (φ := Fault) (ρ := Refusal) ((s.bump Obj.VE_ISSUE_CYCLES f n).onward f t q (p.pc + 1))
    (∀ e ∈ ([(Instr.vsqrt, 0x37, 8, fSqrt), (Instr.vrcp, 0x38, 2, fRcp), (Instr.vrsqrt, 0x39, 2, fRsqrt), (Instr.vexp, 0x3A, 2, fExp),
             (Instr.vlog, 0x3B, 2, fLog), (Instr.vtanh, 0x3C, 2, fTanh), (Instr.vabs, 0x3D, 1, fAbs), (Instr.vneg, 0x3E, 1, fNeg),
             (Instr.vcvti, 0x44, 1, fun x => toF32 (FVal.ofInt (BitVec.ofNat 32 x).toInt)),
             (Instr.vcvtf, 0x45, 1, fun x => toInt32 (f32 x))] : List ((Nat → Nat → Instr) × Nat × Nat × (Nat → Nat))),
      iOp w = e.2.1 → exec (e.1 f t) s = after e.2.2.1 (p.vput (iVD w) m (a.lanes.map e.2.2.2) a.poison)) ∧
    (∀ e ∈ ([(Instr.vadd, 0x30, 1, fAdd), (Instr.vsub, 0x31, 1, fSub), (Instr.vmul, 0x32, 1, fMul), (Instr.vmax, 0x34, 1, fMax),
             (Instr.vmin, 0x35, 1, fMin), (Instr.vdiv, 0x36, 8, fDiv),
             (Instr.viadd, 0x43, 1, fun x y => (BitVec.ofNat 32 x + BitVec.ofNat 32 y).toNat)] :
        List ((Nat → Nat → Instr) × Nat × Nat × (Nat → Nat → Nat))),
      iOp w = e.2.1 → exec (e.1 f t) s
        = after e.2.2.1 (p.vput (iVD w) m (a.lanes.zipWith e.2.2.2 b.lanes) (a.poison ||| b.poison))) ∧
    (iOp w = 0x33 → exec (.vfma f t) s
      = after 1 (p.vput (iVD w) m (zip3With fFma a.lanes b.lanes c.lanes) (a.poison ||| b.poison ||| c.poison))) ∧
    (iOp w = 0x3F → exec (.vsel f t) s = after 1 (p.vput (iVD w) (2 ^ 256 - 1)
      ((List.range 256).zipWith (fun i (x : Nat × Nat) => if bit m i then x.1 else x.2) (a.lanes.zip b.lanes))
      ((a.poison &&& m) ||| (b.poison &&& Nat.xor m (2 ^ 256 - 1))))) ∧
    (∀ e ∈ ([(Instr.vcmplt, 0x40, fun x y => (f32 x).lt (f32 y)), (Instr.vcmpeq, 0x41, fun x y => (f32 x).eq (f32 y)),
             (Instr.visnan, 0x42, fun x _ => (f32 x).isNan)] : List ((Nat → Nat → Instr) × Nat × (Nat → Nat → Bool))),
      iOp w = e.2.1 → exec (e.1 f t) s = after 1 (p.pput (iVD w)
        ((p.pget (iVD w) &&& Nat.xor m (2 ^ 256 - 1)) ||| (maskOf (a.lanes.zipWith e.2.2 b.lanes) &&& m)))) ∧
    (iOp w = 0x46 → exec (.viota f t) s = after 1 (p.vput (iVD w) m
      ((List.range 256).zipWith (fun l x => (l + x) % 2 ^ 32) (s.bcast f t (iVSB w)).lanes) (s.bcast f t (iVSB w)).poison)) ∧
    (iOp w = 0x47 → exec (.vbcast f t) s
      = after 1 (p.vput (iVD w) m (List.replicate 256 (s.sget f t (iVSB w) % 2 ^ 32)) (s.bcast f t (iVSB w)).poison)) ∧
    (iOp w = 0x17 → exec (.vextr f t) s
      = .next (((s.bump Obj.VE_ISSUE_CYCLES f 1).sset f t (iVSB w) (b.lanes.getD (iVA w) 0) (bit b.poison (iVA w))).onward f t p
          (p.pc + 1)))

/-- Reductions, compensated sums and FP64 sums (05 R152, R154, R155): a reduction joins the lanes the mask keeps along the fixed
binary tree and writes a scalar register; the accumulating forms update a pair of registers lane by lane.

Split master operations on registers (05 R163, 03_formats_and_scaling R101-R103): the pair's exact value with the operands is
rounded once to a pair; XFRN rounds a pair to FP32.
It rests on model choices: notes/assumptions/12, notes/assumptions/18, notes/assumptions/73. -/
def Obligations.ReductionsAndSplitOperations : Prop :=
  (
    ∀ (s : State) (f t : Nat) (p : Program) (w : Nat), s.At f t p w →
      let a := p.src (iVA w)
      let x := p.src (iVA w)
      let y := p.src (iVA w + 1)
      let d := p.src (iVD w)
      let e := p.src (iVD w + 1)
      let m := p.maskV w
      let s1 := fun (n : Nat) => s.bump Obj.VE_ISSUE_CYCLES f n
      (∀ k ∈ ([(Instr.vrsum, 0x56, 9, ((laneTree fAdd 8 (masked m a.lanes)).getD 0, a.poison)),
               (Instr.vcred, 0x51, 10, (match laneTree joinPair 8 (masked m (x.lanes.zip y.lanes)) with
                  | some r => fAdd r.1 r.2 | none => 0, x.poison ||| y.poison)),
               (Instr.vdred, 0x53, 64, ((laneTree dAdd 8 (masked m (x.lanes.zipWith (fun a b => 2 ^ 32 * b + a) y.lanes))).getD 0,
                  x.poison ||| y.poison))] : List ((Nat → Nat → Instr) × Nat × Nat × Nat × Nat)),
        iOp w = k.2.1 → exec (k.1 f t) s
          = .next (((s1 k.2.2.1).sset f t (iVSB w) k.2.2.2.1 ((k.2.2.2.2 &&& m) != 0)).onward f t p (p.pc + 1))) ∧
      (∀ k ∈ ([(Instr.vrmax, 0x54, false), (Instr.vrmin, 0x55, true)] : List ((Nat → Nat → Instr) × Nat × Bool)),
        iOp w = k.2.1 → exec (k.1 f t) s
          = .next ((((s1 9).sset f t (iVSB w) (laneExtreme k.2.2 (masked m a.lanes)).1 ((a.poison &&& m) != 0)).sset f t (iVSB w + 1)
              (laneExtreme k.2.2 (masked m a.lanes)).2 ((a.poison &&& m) != 0)).onward f t p (p.pc + 1))) ∧
      (iOp w = 0x50 → ∃ r : List (Nat × Nat), r = (d.lanes.zip e.lanes).zipWith (fun (q : Nat × Nat) v => neumaier q.1 q.2 v) a.lanes
        ∧ exec (.vcadd f t) s = .next ((s1 1).onward f t (p.putPair (iVD w) m (r.map (·.1)) (r.map (·.2))
            (a.poison ||| d.poison ||| e.poison)) (p.pc + 1))) ∧
      (iOp w = 0x52 → ∃ r : List Nat,
        r = (d.lanes.zip e.lanes).zipWith (fun (q : Nat × Nat) v => toF64 ((f64 (2 ^ 32 * q.2 + q.1)).add (f32 v))) a.lanes
        ∧ exec (.vdadd f t) s = .next ((s1 8).onward f t (p.putPair (iVD w) m (r.map (· % 2 ^ 32)) (r.map (· / 2 ^ 32))
            (a.poison ||| d.poison ||| e.poison)) (p.pc + 1)))) ∧
  (
    ∀ (s : State) (f t : Nat) (p : Program) (w : Nat), s.At f t p w →
      let h := p.src (iVA w)
      let l := p.src (iVA w + 1)
      let b := s.vb f t p w
      let c := p.src (iVC w)
      let m := p.maskV w
      let zero : VSrc := ⟨List.replicate 256 0, 0⟩
      (∀ k ∈ ([(Instr.xfadd, 0x72, zero, fun x b _ => x.add b), (Instr.xfmad, 0x73, c, fun x b c => x.add (b.mul c)),
               (Instr.xfmul, 0x74, zero, fun x b _ => x.mul b)] :
          List ((Nat → Nat → Instr) × Nat × VSrc × (FVal → FVal → FVal → FVal))),
        iOp w = k.2.1 → ∃ r : List (Nat × Nat),
          r = ((h.lanes.zip l.lanes).zip (b.lanes.zip k.2.2.1.lanes)).map (fun q =>
            toSplit (k.2.2.2 (splitVal q.1.1 q.1.2) (f32 q.2.1) (f32 q.2.2)))
          ∧ exec (k.1 f t) s = .next ((s.bump Obj.VE_ISSUE_CYCLES f 4).onward f t (p.putPair (iVD w) m (r.map (·.1)) (r.map (·.2))
              (h.poison ||| l.poison ||| b.poison ||| k.2.2.1.poison)) (p.pc + 1))) ∧
      (iOp w = 0x75 → exec (.xfrn f t) s = .next ((s.bump Obj.VE_ISSUE_CYCLES f 1).onward f t
        (p.vput (iVD w) m (h.lanes.zipWith (fun a b => toF32 (splitVal a b)) l.lanes) (h.poison ||| l.poison)) (p.pc + 1))))

/-- Scalar arithmetic of element programs (05_vector_engine_and_sequencer R142, R152): each instruction takes 64-bit operands, a
register number 0 reading zero, writes its result with 64-bit wrapping arithmetic, marks it poisoned when an operand is, and goes on
to the next instruction.

A scalar register reads what was written into it, s0 reads zero whatever is written, and every other register, thread and facet
keeps its value (05 R142). Register numbers wrap at 64: that is the model's choice (notes/assumptions/12).
It rests on model choices: notes/assumptions/16. -/
def Obligations.ScalarInstructionsCompute : Prop :=
  (
    ∀ (s : State) (f t : Nat) (p : Program) (w : Nat), s.At f t p w →
      let a := BitVec.ofNat 64 (s.sget f t (iSA w))
      let b := BitVec.ofNat 64 (s.sget f t (iSB w))
      let i : BitVec 64 := (BitVec.ofNat 32 (iImm w)).signExtend 64
      let bad := s.spoisoned f t (iSA w)
      (∀ e ∈ ([(Instr.sadd, 0x01, a + b), (Instr.ssub, 0x03, a - b), (Instr.smul, 0x04, a * b), (Instr.sand, 0x05, a &&& b),
               (Instr.sor, 0x06, a ||| b), (Instr.sxor, 0x07, a ^^^ b), (Instr.scmplt, 0x10, if a.slt b then 1#64 else 0#64),
               (Instr.scmpeq, 0x11, if a = b then 1#64 else 0#64)] : List ((Nat → Nat → Instr) × Nat × BitVec 64)),
        iOp w = e.2.1 →
          exec (e.1 f t) s = .next ((s.sset f t (iSD w) e.2.2.toNat (bad || s.spoisoned f t (iSB w))).onward f t p (p.pc + 1))) ∧
      (∀ e ∈ ([(Instr.saddi, 0x02, a + i), (Instr.sshl, 0x08, a <<< (iImm w % 64)), (Instr.sshr, 0x09, a >>> (iImm w % 64)),
               (Instr.ssra, 0x0A, a.sshiftRight (iImm w % 64))] : List ((Nat → Nat → Instr) × Nat × BitVec 64)),
        iOp w = e.2.1 → exec (e.1 f t) s = .next ((s.sset f t (iSD w) e.2.2.toNat bad).onward f t p (p.pc + 1))) ∧
      (iOp w = 0x0B → exec (.sli f t) s = .next ((s.sset f t (iSD w) i.toNat).onward f t p (p.pc + 1))) ∧
      (iOp w = 0x0C → exec (.slui f t) s
        = .next ((s.sset f t (iSD w) (BitVec.ofNat 32 (iImm w) ++ BitVec.ofNat 32 (s.sget f t (iSD w))).toNat
            (s.spoisoned f t (iSD w))).onward f t p (p.pc + 1))) ∧
      (∀ e ∈ ([(Instr.sfadd, 0x0D, fAdd), (Instr.sfmul, 0x0E, fMul), (Instr.sfdiv, 0x0F, fDiv)] :
          List ((Nat → Nat → Instr) × Nat × (Nat → Nat → Nat))),
        iOp w = e.2.1 → exec (e.1 f t) s
          = .next ((s.sset f t (iSD w) (e.2.2 (a.setWidth 32).toNat (b.setWidth 32).toNat) (bad || s.spoisoned f t (iSB w))).onward
              f t p (p.pc + 1))) ∧
      (∀ th, s.thread? f t = some th → iOp w = 0x16 →
        let pos := match s.item? p.item with | some it => it.pos | none => 0
        exec (.srd f t) s
          = .next ((s.sset f t (iSD w) ([f, t, th.ctx, th.gen, th.step, th.slot, th.layer, th.microBatch, pos].getD (iImm w) 0)).onward
              f t p (p.pc + 1)))) ∧
  (
    ∀ (s : State) (f t r v : Nat) (bad : Bool), t < 16 →
      (r % 64 = 0 → s.sset f t r v bad = s) ∧
      (r % 64 ≠ 0 → (s.sset f t r v bad).sget f t r = v % 2 ^ 64) ∧
      (∀ u q, u < 16 → (u ≠ t ∨ q % 64 ≠ r % 64) → (s.sset f t r v bad).sget f u q = s.sget f u q) ∧
      (∀ g, g ≠ f → (s.sset f t r v bad).facet g = s.facet g) ∧
      (s.sset f t r v bad = { s with facets := (s.sset f t r v bad).facets }))

/-- Control instructions (05 R150, R152): BR, BRZ and JMP go to the instruction their sign-extended immediate names; END commits
the program's pending bands, gives back its tile and its frame and finishes its descriptor with the failures of its remote accesses that
stand, OK_ZERO_WORK where the immediate is 1; a program at its limit stops with FAILED_TIMEOUT, its bands discarded.

The instruction that a program reaches (05 R150): one in facet memory, free of stored errors and of R152 lets the program stand
there; an address beyond facet memory and a reserved encoding stop it with FAILED_PROTECTION.
It rests on model choices: notes/assumptions/13, notes/assumptions/15, notes/assumptions/69. -/
def Obligations.ControlInstructionsMoveThePc : Prop :=
  (
    ∀ (s : State) (f t : Nat) (p : Program) (th : Thread), s.thread? f t = some th → th.prog = some p →
      let ended := fun (s : State) =>
        let u := (s.releaseTile f p).setThread f t { th with prog := none, wait := .no }
        ((p.failing.foldl (fun u x => u.meet p.item x.2.2) u).dropBands f p.item).finish p.item
      (∀ w, s.At f t p w →
        let target := ((BitVec.ofNat 32 (iImm w)).signExtend 64 : BitVec 64).toNat
        (iOp w = 0x12 → exec (.br f t) s = .next (s.onward f t p (if s.sget f t (iSA w) = 0 then p.pc + 1 else target))) ∧
        (iOp w = 0x13 → exec (.brz f t) s = .next (s.onward f t p (if s.sget f t (iSA w) = 0 then target else p.pc + 1))) ∧
        (iOp w = 0x14 → exec (.jmp f t) s = .next (s.onward f t p target)) ∧
        (iOp w = 0x15 →
          let u := (s.commitBands f ((s.facet f).bands.filter (fun b => b.item == p.item))).dropBands f p.item
          exec (.progEnd f t) s = .next (ended (if iImm w = 1 then u.meet p.item .okZeroWork else u)))) ∧
      (p.framed = true → p.combine = false → s.insnLimit th.ctx ≤ p.count →
        exec (.vprogInsnLimitExceeded f t) s = .next (ended ((s.bump Obj.VECTOR_REFUSED_COUNT th.ctx).meet p.item .failedTimeout)))) ∧
  (
    ∀ (s : State) (f t : Nat) (p q : Program) (pc : Nat), s.prog? f t = some q →
      (s.GoesOn f p pc → s.onward f t p pc = s.setProg f t { p with pc := pc, count := p.count + 1 }) ∧
      (facetBytes < p.base + 8 * pc + 8 →
        s.onward f t p pc = (s.setProg f t { p with pc := pc, count := p.count + 1 }).stopProgram f t .failedProtection) ∧
      (s.Clean f (p.base + 8 * pc) 8 → insnDefined (ofLE (s.fmBytes f (p.base + 8 * pc) 8)) = false →
        s.onward f t p pc = (s.setProg f t { p with pc := pc, count := p.count + 1 }).stopProgram f t .failedProtection))

/-- Facet sequencer (05 R140, R142, R144, R146, R149): a thread issues its next descriptor when no facet of its slot is being zeroed;
RUN_PROGRAM loads its arguments and takes a free vector frame, or waits in request order, or is refused by a check; a frame that becomes
free goes to the first in the queue; a woken thread is ready again.
It rests on model choices: notes/assumptions/6. -/
def Obligations.ThreadsTakeTheirPrograms : Prop :=
  ∀ (s : State) (f t n : Nat) (th : Thread) (it : Item), s.thread? f t = some th →
    ((s.facet f).zeroing = false → s.slotZeroing th = false → th.items[th.issued]? = some n → s.item? n = some it →
      (th.issued = 0 ∨ s.previousAllows (th.items.getD (th.issued - 1) 0) it.desc = true) →
      exec (.threadIssueNext f t) s
        = .next ((s.setItem n { it with issued := true }).setThread f t { th with issued := th.issued + 1 })) ∧
    (th.wait = .ready → exec (.threadWake f t) s = .next (s.setThread f t { th with wait := .no })) ∧
    (s.item? n = some it → it.facet = f → s.threadOf f n = some (t, th) → th.prog = none → it.isDone = false →
      descOpcode it.desc = 0x20 → s.mayStart it = true →
      let p : Program := { item := n, base := vdProgAddr it.desc, held := (heldItem th it).getD none }
      let s' := (s.start n).loadArgs f t it.desc
      (programCheck th it = 0 → exec (.runProgram n) s = .next (if s'.frameFree f then (s'.setProg f t { p with framed := true }).reach f t
        else let u := (s'.setProg f t p).switchOut f t .frame
             u.setFacet f { u.facet f with frameQueue := (u.facet f).frameQueue ++ [t] })) ∧
      (programCheck th it ≠ 0 → exec (.runProgram n) s
        = .next (((s.start n).bump Obj.VECTOR_REFUSED_COUNT it.ctx).refuse n 2 (programCheck th it)))) ∧
    (∀ ts p, (s.facet f).frameQueue = t :: ts → s.framesUsed f < 4 → th.prog = some p →
      let s' := s.setFacet f { s.facet f with frameQueue := ts }
      let u := (s'.setProg f t { p with framed := true }).arrive f t
      exec (.vectorFrameGrant f) s = .next (if p.combine then u else u.reach f t))

/-- FACET_ZERO_DONE (05 R140): every byte of the facet's memory and every scalar register of it reads zero, no other facet's memory
changes, and the facet keeps its threads.

A write to facet memory (05_vector_engine_and_sequencer R137, R139), no flip mask being armed: its bytes read as written, every
other byte as before, the words it covers whole lose their stored errors, and, unless it meets the stored error of a word that it covers in
part, nothing but facet memory changes; one that would lie beyond facet memory changes nothing. A read, whole or lane by lane, of words
without a stored error gives their bytes and changes nothing. -/
def Obligations.FacetMemoryHoldsItsBytes : Prop :=
  (
    ∀ (s : State) (f : Nat), (s.facet f).zeroing = true →
      ∃ u, exec (.facetZeroDone f) s = .next u
        ∧ (∀ a, a < facetBytes → u.fm.mem.get (facetBytes * f + a) = 0)
        ∧ (∀ a, (a < facetBytes * f ∨ facetBytes * f + facetBytes ≤ a) → u.fm.mem.get a = s.fm.mem.get a)
        ∧ (∀ t r, u.sget f t r = 0) ∧ (u.facet f).zeroing = false ∧ (u.facet f).threads = (s.facet f).threads
        ∧ (u.facet f).owner = (s.facet f).owner ∧ (∀ g, g ≠ f → u.facet g = s.facet g)
        ∧ SameRegs s u [Obj.FM_ZERO_COUNT.key f] ∧ u.reg Obj.FM_ZERO_COUNT f = min (s.reg Obj.FM_ZERO_COUNT f + 1) (2 ^ 64 - 1)
        ∧ u = { s with objs := u.objs, fm := u.fm, facets := u.facets }) ∧
  (
    ∀ (s : State) (c f a : Nat) (bytes : Bytes), s.fm.mem.wf = true → s.hbm.armed = false →
      (facetBytes < a + bytes.length → s.fmWrite c f a bytes = (false, s)) ∧
      (a + bytes.length ≤ facetBytes → ∃ t, s.fmWrite c f a bytes = (true, t) ∧ t.fm.mem.wf = true
        ∧ (∀ x, t.fm.mem.get x = if facetBytes * f + a ≤ x ∧ x < facetBytes * f + a + bytes.length
            then bytes.getD (x - (facetBytes * f + a)) 0 else s.fm.mem.get x)
        ∧ (∀ k, facetBytes * f + a ≤ 8 * k → 8 * k + 8 ≤ facetBytes * f + a + bytes.length →
            t.fm.poison.contains k = false ∧ tfind t.fm.flips k = none)
        ∧ ((∀ k ∈ wordsOf (facetBytes * f + a) bytes.length, tfind s.fm.flips k = none) → t = { s with fm := t.fm })
        ∧ t = { s with objs := t.objs, fm := t.fm, pins := t.pins, out := t.out, log := t.log })) ∧
  (
    ∀ (s : State) (f a : Nat),
      (∀ n, s.Clean f a n → s.fmRead f a n = ({ bytes := s.fmBytes f a n }, s)) ∧
      (∀ n, facetBytes < a + n → s.fmRead f a n = ({ bytes := List.replicate n 0, protection := true }, s)) ∧
      (∀ bits m, s.RowClean f a bits m → s.readRow f a bits m = ({ bytes := s.fmBytes f a (maskBytes bits m) }, s)))

/-- SLD and SST (05 R137, R152, R166): eight bytes at the sum of a register and the sign-extended immediate; a register
loaded from an uncorrectable word is poisoned and holds an open value, and the descriptor meets the failure; a poisoned register stores an
open value, which is the model's choice (notes/assumptions/17); an address beyond facet memory stops the program with
FAILED_PROTECTION.
It rests on model choices: notes/assumptions/12. -/
def Obligations.ScalarLoadsAndStores : Prop :=
  ∀ (s : State) (f t : Nat) (p : Program) (w : Nat), s.At f t p w →
    let a := (BitVec.ofNat 64 (s.sget f t (iSA w)) + (BitVec.ofNat 32 (iImm w)).signExtend 64).toNat
    (iOp w = 0x1D →
      (s.Clean f a 8 → exec (.sld f t) s
        = .next ((s.sset f t (iSD w) (ofLE (s.fmBytes f a 8)) (s.spoisoned f t (iSA w))).onward f t p (p.pc + 1))) ∧
      (facetBytes < a + 8 → exec (.sld f t) s = .next (s.stopProgram f t .failedProtection)) ∧
      (∀ g u, a + 8 ≤ facetBytes → s.fmRead f a 8 = (g, u) →
        (g.poison = false → exec (.sld f t) s
          = .next ((u.sset f t (iSD w) g.num (s.spoisoned f t (iSA w))).onward f t p (p.pc + 1))) ∧
        (g.poison = true → ∃ v, exec (.sld f t) s
          = .next (((u.sset f t (iSD w) v true).took.meet p.item .failedUncorrectable).onward f t p (p.pc + 1))))) ∧
    (iOp w = 0x1E → s.spoisoned f t (iSD w) = false → a + 8 ≤ facetBytes →
      exec (.sst f t) s
        = .next ((s.fmWrite (s.threadCtx f t) f a (leBytes 8 (s.sget f t (iSD w)))).2.onward f t p (p.pc + 1))) ∧
    (iOp w = 0x1E → s.spoisoned f t (iSD w) = true → a + 8 ≤ facetBytes →
      ∃ v, exec (.sst f t) s = .next ((s.took.fmWrite (s.threadCtx f t) f a (leBytes 8 v)).2.onward f t p (p.pc + 1))) ∧
    (iOp w = 0x1E → facetBytes < a + 8 →
      exec (.sst f t) s = .next ((if s.spoisoned f t (iSD w) then s.took else s).stopProgram f t .failedProtection))

/-- Vector loads (05 R147, R152, R157, R163, R166): VLD decodes its elements under the register's scales
and outer exponent, VGATHER takes a word for each lane the mask keeps, VLDM a mask, XFLD the two words of each pair. Nothing but the words
of the lanes that the mask keeps is read; lanes of uncorrectable words and of poisoned operands are poisoned; an address beyond facet
memory stops the program with FAILED_PROTECTION.
It rests on model choices: notes/assumptions/12, notes/assumptions/19, notes/assumptions/70. -/
def Obligations.VectorLoadsTakeTheirBytes : Prop :=
  ∀ (s : State) (f t : Nat) (p : Program) (w : Nat), s.At f t p w →
    let a := s.maddr f t w
    let m := p.pget (iMPM w)
    let bad : Nat → Nat := fun r => if s.spoisoned f t r then 2 ^ 256 - 1 else 0
    let lost : State → Got → Nat → Nat → Nat := fun u g x bits => if g.poison then u.poisonLanes f x bits else 0
    (iOp w = 0x60 →
      let bits := elemBits (iMFmt w)
      let b := s.sget f t (iMSA w + 1)
      let scaled := blockScaled (iMFmt w)
      let x := s.readRow f a bits m
      let y := if scaled then x.2.readRow f b 8 (blockMask vldBlock m) else ({}, x.2)
      let outer : Int := if scaled then toInt 16 (s.sget f t (iMSA w + 2)) else 0
      (x.1.protection || y.1.protection → exec (.vld f t) s = .next (y.2.stopProgram f t .failedProtection)) ∧
      (x.1.protection = false → y.1.protection = false → ∃ u, exec (.vld f t) s = .next u ∧
        let v := y.2.bump Obj.VE_ISSUE_CYCLES f ((maskBytes bits m + 255) / 256)
        v.Loaded u f t p (iVD w) m
          ((List.range 256).map (fun l => toF32 (storedValue (iMFmt w) (elemAt (iMFmt w) x.1.bytes l) (y.1.bytes.getD (l / vldBlock) 127).toNat outer)))
          (lost v x.1 a bits ||| maskOf ((List.range 256).map (fun l => bit (lost v y.1 b 8) (l / vldBlock))) ||| bad (iMSA w)
            ||| (if scaled then bad (iMSA w + 1) ||| bad (iMSA w + 2) else 0)))) ∧
    (∀ s1, s1 = s.bump Obj.VE_ISSUE_CYCLES f 8 → iOp w = 0x65 →
      let l := s.indexed f t p w
      (wordsInside (maskedAddrs (p.maskV w) l) = false → exec (.vgather f t) s = .next (s1.stopProgram f t .failedProtection)) ∧
      (wordsInside (maskedAddrs (p.maskV w) l) = true → ∃ u, exec (.vgather f t) s = .next u ∧
        let x := s1.readWords f (p.maskV w) 0 l
        x.2.Loaded u f t p (iVD w) (p.maskV w) (x.1.map (·.1)) (maskOf (x.1.map (·.2)) ||| (s.vb f t p w).poison ||| bad (iVSB w)))) ∧
    (∀ s1, s1 = s.bump Obj.VE_ISSUE_CYCLES f 1 → iOp w = 0x67 →
      let x := s1.fmRead f a 32
      let q := fun (v : Nat) => p.pput (iVD w) ((p.pget (iVD w) &&& Nat.xor m (2 ^ 256 - 1)) ||| (v &&& m))
      (facetBytes < a + 32 → exec (.vldm f t) s = .next (s1.stopProgram f t .failedProtection)) ∧
      (a + 32 ≤ facetBytes → x.1.poison = false → exec (.vldm f t) s = .next (x.2.onward f t (q x.1.num) (p.pc + 1))) ∧
      (a + 32 ≤ facetBytes → x.1.poison = true → ∃ v, exec (.vldm f t) s
        = .next ((x.2.took.meet p.item .failedUncorrectable).onward f t (q v) (p.pc + 1)))) ∧
    (∀ s1, s1 = s.bump Obj.VE_ISSUE_CYCLES f 8 → iOp w = 0x70 →
      let b := s.maddr f t w 1
      let x := s1.readRow f a 32 m
      let y := x.2.readRow f b 32 m
      let word : Got → List Nat := fun g => (List.range 256).map (fun l => ofLE ((g.bytes.drop (4 * l)).take 4))
      let hi := lost y.2 x.1 a 32 ||| bad (iMSA w)
      let lo := lost y.2 y.1 b 32 ||| bad (iMSA w + 1)
      (x.1.protection || y.1.protection → exec (.xfld f t) s = .next (y.2.stopProgram f t .failedProtection)) ∧
      (x.1.protection = false → y.1.protection = false → hi &&& m = 0 → lo &&& m = 0 →
        exec (.xfld f t) s = .next (y.2.onward f t (p.putPair (iVD w) m (word x.1) (word y.1) 0) (p.pc + 1))) ∧
      (x.1.protection = false → y.1.protection = false → ∃ (u : State) (v1 v2 : List Nat), exec (.xfld f t) s
          = .next (u.onward f t ((p.vput (iVD w) m v1 hi).vput (iVD w + 1) m v2 lo) (p.pc + 1))
        ∧ (∀ l, l < 256 → (bit hi l = false → v1.getD l 0 = (word x.1).getD l 0) ∧ (bit lo l = false → v2.getD l 0 = (word y.1).getD l 0))
        ∧ u = { y.2 with items := u.items, freeCtr := u.freeCtr }
        ∧ (hi &&& m ≠ 0 ∨ lo &&& m ≠ 0 → ∀ it, y.2.item? p.item = some it →
            ∃ jt, u.item? p.item = some jt ∧ Status.failedUncorrectable ∈ jt.met)))

/-- Vector stores (05 R147, R152, R163, R166, 03_formats_and_scaling R79, R103): each lane the mask keeps goes to its word, in lane
order, a poisoned one as NaN, a NaN in its fixed form; the second word of a pair that is NaN is zero; an address beyond facet memory stops
the program and stores nothing.
It rests on model choices: notes/assumptions/12. -/
def Obligations.VectorStoresWriteTheirLanes : Prop :=
  ∀ (s : State) (f t : Nat) (p : Program) (w : Nat), s.At f t p w →
    let s1 := fun (n : Nat) => s.bump Obj.VE_ISSUE_CYCLES f n
    let a := s.maddr f t w
    let b := s.maddr f t w 1
    let m := p.pget (iMPM w)
    let c := s.threadCtx f t
    let row := fun (a : Nat) (x : VSrc) (int : Bool) =>
      (bitsOf 256 m).map (fun i => (a + 4 * i, storedLane int (bit x.poison i) (x.lanes.getD i 0)))
    (iOp w = 0x61 → exec (.vst f t) s
      = .next (if wordsInside ((bitsOf 256 m).map (fun i => a + 4 * i)) then
          ((s1 4).storeWords c f (row a (p.src (iVD w)) (iMFmt w == 0x0A))).onward f t p (p.pc + 1)
        else (s1 4).stopProgram f t .failedProtection)) ∧
    (iOp w = 0x66 → exec (.vscatter f t) s
      = .next (if wordsInside (maskedAddrs (p.maskV w) (s.indexed f t p w)) then
          ((s1 8).storeWords c f ((bitsOf 256 (p.maskV w)).map (fun i =>
            ((s.indexed f t p w).getD i 0, storedLane false (bit (p.vpoison (iVA w)) i) ((p.vget (iVA w)).getD i 0))))).onward
              f t p (p.pc + 1)
        else (s1 8).stopProgram f t .failedProtection)) ∧
    (iOp w = 0x71 → (p.vget (iVD w)).length = 256 → (p.vget (iVD w + 1)).length = 256 →
      let bad := p.vpoison (iVD w) ||| p.vpoison (iVD w + 1)
      let low := fun (i : Nat) => if bit bad i || (f32 ((p.vget (iVD w)).getD i 0)).isNan then 0 else (p.vget (iVD w + 1)).getD i 0
      exec (.xfst f t) s
        = .next (if wordsInside ((bitsOf 256 m).flatMap (fun i => [a + 4 * i, b + 4 * i])) then
            (((s1 8).storeWords c f (row a ⟨p.vget (iVD w), bad⟩ false)).storeWords c f
              ((bitsOf 256 m).map (fun i => (b + 4 * i, low i)))).onward f t p (p.pc + 1)
          else (s1 8).stopProgram f t .failedProtection))

/-- VDROP (05 R164): the mask bit of each lane the instruction's mask keeps is the keep bit of its element under the context's seed,
the step and the site; other bits stay.
It rests on model choices: notes/assumptions/12. -/
def Obligations.DropoutDrawsItsMask : Prop :=
  ∀ (s : State) (f t : Nat) (p : Program) (w : Nat) (th : Thread), s.At f t p w → s.thread? f t = some th → iOp w = 0x78 →
    let r := iVSB w
    let site := s.sget f t (r + 2)
    let keep := fun (l : Nat) => keepBit th.step (s.reg Obj.CONTEXT_SEED th.ctx) (site % 2 ^ 16) (site / 2 ^ 16 % 2 ^ 6)
      (s.sget f t (r + 3) % 65536) (s.sget f t (r + 1) % 2 ^ 32) ((s.sget f t r + l) % 2 ^ 64)
    ∃ q, exec (.vdrop f t) s = .next ((s.bump Obj.VE_ISSUE_CYCLES f 4).onward f t q (p.pc + 1))
      ∧ (iVD w % 8 ≠ 0 → ∀ l, l < 256 →
          bit (q.pget (iVD w)) l = if bit (p.maskV w) l then keep l else bit (p.pget (iVD w)) l)
      ∧ (∀ k, k % 8 ≠ iVD w % 8 → q.pget k = p.pget k) ∧ q.v = p.v ∧ q.vp = p.vp

/-- VSCFG, VSTN and VSFLUSH (05_vector_engine_and_sequencer R158): a configuration of a format the write path narrows to is kept; a
row goes to its program's band of that configuration, row block and column; a store that opens a third band of the engine commits the oldest,
a full band is committed at once, and a flush commits the program's bands in the order in which they were opened; a store without a
configuration or beyond its planes stops the program.
It rests on model choices: notes/assumptions/12, notes/assumptions/13, notes/assumptions/14, notes/assumptions/69. -/
def Obligations.NarrowingStoreStagesBands : Prop :=
  ∀ (s : State) (f t : Nat) (p : Program) (w : Nat) (th : Thread), s.At f t p w → s.thread? f t = some th →
    let s1 := s.bump Obj.VE_ISSUE_CYCLES f 1
    let r := iVSB w
    let bands := (s.facet f).bands
    (iOp w = 0x63 →
      let g := vcfgOf (s.sget f t r) (s.sget f t (r + 1)) (s.sget f t (r + 2))
      exec (.vscfg f t) s = .next (if narrowFmt g.fmt then s1.onward f t { p with cfg := some g } (p.pc + 1)
        else s1.stopProgram f t .failedProtection)) ∧
    (iOp w = 0x62 → p.cfg = none → exec (.vstn f t) s = .next (s1.stopProgram f t .failedProtection)) ∧
    (∀ g, iOp w = 0x62 → p.cfg = some g →
      let row := s.sget f t r % 2 ^ 32
      let k := s.sget f t r / 2 ^ 32
      let place := VCfg.inside g = true ∧ row < g.m ∧ k < g.k ∧ k % 256 = 0
      let here := fun (b : Band) => b.item == p.item && b.cfg == g && b.row == row / 32 * 32 && b.k == k
      (¬place → exec (.vstn f t) s = .next (s1.stopProgram f t .failedProtection)) ∧
      (∀ s2 rest, place →
        (bands.find? here = none ∧ (∃ a b tail, bands = a :: b :: tail ∧ s2 = (s1.commitBand f a).setBands f (b :: tail)))
          ∨ ((bands.find? here ≠ none ∨ bands.length < 2) ∧ s2 = s1) →
        rest = (s2.facet f).bands →
        let fresh : Band := { cfg := g, row := row / 32 * 32, k := k, item := p.item, ctx := th.ctx, step := th.step,
                              place := 65536 * th.slot + (match s2.item? p.item with | some it => it.pos | none => 0),
                              buf := if rest.any (fun b => b.buf == 0) then 1 else 0 }
        let b := ((rest.find? here).getD fresh).put (row % 32) (p.maskV w) (s2.curTag f p) (p.src (iVA w))
        let s3 := ((if (rest.find? here).isSome then s2 else s2.sramWrote 2 f (fresh.word 0) (fresh.word 32))).stagedWords
          f b (row % 32) (p.maskV w)
        (b.full = false → exec (.vstn f t) s = .next ((s3.setBands f (if (rest.find? here).isSome
          then rest.map (fun c => if here c then b else c) else rest ++ [b])).onward f t p (p.pc + 1))) ∧
        (b.full = true → exec (.vstn f t) s
          = .next (((s3.commitBand f b).setBands f (rest.filter (fun c => !(here c)))).onward f t p (p.pc + 1))))) ∧
    (iOp w = 0x64 → exec (.vsflush f t) s
      = .next (((s1.commitBands f (bands.filter (fun b => b.item == p.item))).dropBands f p.item).onward f t p (p.pc + 1)))

/-- ACCNEXT, ACCRD and ACCREL (05 R159): the next held tile in drain order becomes the current one and its number and tag are
written; with none left but more to come the thread waits, and with none to come all ones are written; ACCRD reads a quarter of the
current tile, lanes of uncorrectable accumulator words poisoned, and open values where there is none; ACCREL gives its array back.

TREE_COMBINE (05 R146, R149, R160, R161): a descriptor that passes its checks takes its arguments, and, with a vector frame, combines its
output tiles in order and finishes, or waits for a frame; one that fails a check is refused.
It rests on model choices: notes/assumptions/6, notes/assumptions/76. -/
def Obligations.HeldTilesAreReadAndCombined : Prop :=
  (
    ∀ (s : State) (f t : Nat) (p : Program) (w : Nat), s.At f t p w →
      let s1 := s.bump Obj.VE_ISSUE_CYCLES f 1
      let s2 := (s1.releaseTile f p).setProg f t { p with cur := none }
      let back := (s2.facet f).back
      (∀ m b, iOp w = 0x68 → p.held = some m → back.find? (fun b => b.item == m && b.hold && !b.taken) = some b →
        let s3 := s2.setFacet f { s2.facet f with back := back.map (fun c =>
          if c.item = b.item ∧ c.tile.array = b.tile.array then { c with taken := true } else c) }
        exec (.accnext f t) s = .next (((s3.sset f t (iVSB w) (b.superTile * 8 + b.tile.array)).sset f t (iVSB w + 1) b.tile.tag).onward
          f t { p with cur := some b.tile.array } (p.pc + 1))) ∧
      (iOp w = 0x68 → s2.nextHeld f p = none → exec (.accnext f t) s
        = .next (if s2.moreTiles f p then s2.switchOut f t .tile
            else (s2.sset f t (iVSB w) (2 ^ 64 - 1)).onward f t { p with cur := none } (p.pc + 1))) ∧
      (∀ b, iOp w = 0x69 → s.curTile f p = some b →
        let lo := 512 + 128 * iVA w
        let x := s1.sramRead 1 (8 * f + b.tile.array) lo (lo + 128) (s.threadCtx f t) (s.threadSlot f t)
        ∃ u, exec (.accrd f t) s = .next u ∧ x.2.Loaded u f t p (iVD w) (p.maskV w)
          ((List.range 256).map (fun l => b.tile.vals.getD (256 * iVA w + l) 0))
          (maskOf ((List.range 256).map (fun l => x.1.contains (lo + l / 2))))) ∧
      (iOp w = 0x69 → s.curTile f p = none → ∃ vals, exec (.accrd f t) s
        = .next (({ s1 with freeCtr := s.freeCtr + 256 }).onward f t (p.vput (iVD w) (p.maskV w) vals 0) (p.pc + 1))) ∧
      (iOp w = 0x6A → exec (.accrel f t) s = .next ((s1.releaseTile f p).onward f t { p with cur := none } (p.pc + 1)))) ∧
  (
    ∀ (s : State) (n t : Nat) (it : Item) (th : Thread), s.item? n = some it → s.threadOf it.facet n = some (t, th) →
      it.isDone = false → descOpcode it.desc = 0x21 → s.mayStart it = true →
      let x := combineOf it.desc
      let cols := (x.n + 31) / 32
      let all := fun (s : State) =>
        ((List.range ((x.m + 31) / 32 * cols)).foldl (fun s i => s.combineOne n it x (i / cols) (i % cols)) s).finish n
      (th.prog = none → combineCheck th it = 0 →
        let s' := (s.start n).loadArgs it.facet t it.desc
        exec (.treeCombine n) s = .next (if s'.frameFree it.facet then all s'
          else s'.awaitFrame it.facet t { item := n, base := 0, combine := true })) ∧
      (th.prog = none → combineCheck th it ≠ 0 → exec (.treeCombine n) s
        = .next (((s.start n).bump Obj.VECTOR_REFUSED_COUNT it.ctx).refuse n 2 (combineCheck th it))) ∧
      (∀ p, th.prog = some p → p.item = n → p.combine = true → p.framed = true → th.wait = .no →
        exec (.treeCombine n) s = .next (all ((s.setThread it.facet t { th with prog := none }).start n))))

/-- MATMUL, MAX_INDEX and MIN_INDEX (04_matrix_engine R128-R131): a descriptor whose arrays are free takes them, with the outer
exponents of the records it names and its dimensions, or the count in place of the dynamic one, and under ACC_IN with its output loaded; a
check that fails refuses it with its number; a dynamic M of zero ends it as OK_ZERO_WORK.

K_LOOP_END, ACC_TILE_SWAP and TILE_DRAIN_DONE (04 R106, R116, R117, R119, R120): the loop's end makes each array's tile of the
super-tile final; once no back tile is left, the swap moves the tiles to the back accumulators, held or to be drained, and starts the next
super-tile, or frees the arrays after the last; a drained tile is written to its rows and leaves, and the descriptor finishes after its last
tile, FAILED_UNCORRECTABLE where an accumulator word was lost.
It rests on model choices: notes/assumptions/6, notes/assumptions/76, notes/assumptions/150. -/
def Obligations.MatrixWorkRunsInOrder : Prop :=
  (
    ∀ (s : State) (n : Nat) (it : Item), s.item? n = some it → it.isDone = false → s.mayStart it = true → (s.facet it.facet).mat = none →
      let d := it.desc
      let f := it.facet
      ∀ e ∈ ([(Instr.matmul, 0x10), (Instr.maxIndex, 0x11), (Instr.minIndex, 0x12)] : List ((Nat → Instr) × Nat)), descOpcode d = e.2 →
        (matrixCheck d ≠ 0 → exec (e.1 n) s
          = .next (((s.start n).bump Obj.MATRIX_REFUSED_COUNT it.ctx).refuse n 1 (matrixCheck d))) ∧
        (matrixCheck d = 0 → recordOf (mdARec d) = none → recordOf (mdBRec d) = none → mdAccIn d = false → mdMaskMode d = 0 →
          mdASparse d < 3 → mdBSparse d < 3 →
          (mdDyn d = 0 → exec (e.1 n) s = .next ((s.start n).setFacet f
            { s.facet f with mat := some { item := n, tExpA := 0, tExpB := 0, m := mdM d, k := mdK d } })) ∧
          (mdDyn d = 1 → s.Clean f (mdDynAddr d) 4 → ofLE (s.fmBytes f (mdDynAddr d) 4) = 0 →
            exec (e.1 n) s = .next ((s.start n).finishWith n .okZeroWork))) ∧
        (∀ pa pb sa sb ra rb s1 s2 count lost s3, matrixCheck d = 0 →
          (s.start n).payloads f (mdLocA d) = (pa, sa) → sa.payloads f (mdLocB d) = (pb, sb) →
          sb.acceptRecord it.ctx (recordOf (mdARec d)) (mdAFmt d) 1 = (ra, s1) →
          s1.acceptRecord it.ctx (recordOf (mdBRec d)) (mdBFmt d) 1 = (rb, s2) →
          s2.dynCount f d = ((count, lost), s3) →
          let meets := (mdOutputs d).any (fun o => (pa ++ pb).any o.meets)
          let bad := ra.bad || rb.bad || lost
          (meets = true → exec (e.1 n) s = .next ((s2.bump Obj.MATRIX_REFUSED_COUNT it.ctx).refuse n 1 0x07)) ∧
          (meets = false → ra.refused || rb.refused →
            exec (e.1 n) s = .next ((s2.bump Obj.MATRIX_REFUSED_COUNT it.ctx).refuse n 1 0x08)) ∧
          (meets = false → ra.refused = false → rb.refused = false → mdDyn d = 1 → count = some 0 →
            exec (e.1 n) s = .next ((if bad then s3.meet n .failedUncorrectable else s3).finishWith n .okZeroWork)) ∧
          (meets = false → ra.refused = false → rb.refused = false → ¬(mdDyn d = 1 ∧ count = some 0) →
            ∃ u run, exec (e.1 n) s = .next u ∧ u.facet f = { s.facet f with mat := some run }
              ∧ run.item = n ∧ run.superTile = 0 ∧ run.tiles = none ∧ run.tExpA = ra.tExp ∧ run.tExpB = rb.tExp ∧ run.bad = bad
              ∧ run.m = (if mdDyn d = 1 then min (mdM d) (count.getD (mdM d)) else mdM d)
              ∧ run.k = (if mdDyn d = 2 then min (mdK d) (count.getD (mdK d)) else mdK d)
              ∧ (mdAccIn d = false → run.loaded = [])
              ∧ (mdAccIn d = true → ∀ a, (tfind run.loaded a).isSome = true ↔ ∃ t ∈ run.tilesAt d 0, t.1 = a ∧ run.masked d t.2.2 = false)
              ∧ (∃ jt, u.item? n = some jt ∧ jt.phase = .running ∧ (bad = true → Status.failedUncorrectable ∈ jt.met)
                  ∧ (mdDyn d = 2 → count = some 0 → Status.okZeroWork ∈ jt.met))
              ∧ (∀ m, m ≠ n → ItemKept s u m) ∧ (∀ g, g ≠ f → u.facet g = s.facet g)))) ∧
  (
    ∀ (s : State) (f : Nat),
      (∀ r it, (s.facet f).mat = some r → r.tiles = none → s.item? r.item = some it →
        let x := s.readSuper f it.desc r (fun row col => isGate it.desc && s.auditPicks it.desc r.item it row col)
        let tiles := (x.2.tileResults r.item it.desc it r x.1 (r.tilesAt it.desc r.superTile)).1.1
        ∃ u, exec (.kLoopEnd f) s = .next u ∧ (u.facet f) = { s.facet f with mat := some { r with tiles := some tiles } }
          ∧ tiles.map (fun t => (t.array, t.row, t.col)) = r.tilesAt it.desc r.superTile
          ∧ (∀ g, g ≠ f → u.facet g = s.facet g) ∧ (∀ m, m ≠ r.item → ItemKept s u m)) ∧
      (∀ r it ts, (s.facet f).mat = some r → r.tiles = some ts → s.item? r.item = some it →
        let d := it.desc
        let hold := mdHold d
        let back := (ts.filter (fun t => !t.skip)).map (fun t => ({ item := r.item, superTile := r.superTile, tile := t, hold := hold } : BackTile))
        let woken := fun (u : State) => if hold then u.tileReady f r.item else u
        ((s.facet f).back ≠ [] → exec (.accTileSwap f) s = .next s) ∧
        ((s.facet f).back = [] → r.superTile + 1 < r.superCount d → mdAccIn d = false →
          exec (.accTileSwap f) s = .next (woken (s.setFacet f { s.facet f with
            back := back, mat := some { r with superTile := r.superTile + 1, tiles := none, loaded := [], loadedBad := [] } }))) ∧
        (∀ q u, (s.facet f).back = [] → r.superTile + 1 < r.superCount d →
          (s.setFacet f { s.facet f with back := back }).loadTiles f d { r with superTile := r.superTile + 1, tiles := none } = (q, u) →
          exec (.accTileSwap f) s = .next (woken (u.setFacet f { s.facet f with back := back, mat := some q }))) ∧
        ((s.facet f).back = [] → r.superCount d ≤ r.superTile + 1 →
          let u := s.setFacet f { s.facet f with back := back, mat := none }
          exec (.accTileSwap f) s = .next (woken (if hold || back.isEmpty then u.finish r.item else u)))) ∧
      (∀ b bs a, (s.facet f).back = b :: bs → (b.hold = true ∨ b.tile.array ≠ a) → exec (.tileDrainDone f a) s = .next s) ∧
      (∀ b bs it, (s.facet f).back = b :: bs → b.hold = false → s.item? b.item = some it → s.hbm.armed = false → s.fm.mem.wf = true →
        ∃ u, exec (.tileDrainDone f b.tile.array) s = .next u ∧ u.facet f = { s.facet f with back := bs }
          ∧ (∀ g, g ≠ f → u.facet g = s.facet g)
          ∧ (∀ a, (∀ k, k < b.tile.rows → ∀ base, base = mdOut it.desc ∨ base = mdIdx it.desc →
                a < facetBytes * f + outRow it.desc base b.tile.row b.tile.col k ∨
                facetBytes * f + outRow it.desc base b.tile.row b.tile.col k + 4 * outCols it.desc b.tile.col ≤ a) →
              a ≠ facetBytes * f + (mdOutTag it.desc + b.tile.row * mdTileCols it.desc + b.tile.col) →
              u.fm.mem.get a = s.fm.mem.get a)
          ∧ (∀ n, n ≠ b.item → u.item? n = s.item? n)
          ∧ ((∀ c ∈ bs, c.item ≠ b.item) → (∀ r, (s.facet f).mat = some r → r.item ≠ b.item) → it.isDone = false →
              let lost := (s.sramRead 1 (8 * f + b.tile.array) 512 1024 it.ctx it.slot).1
              ∃ it', u.item? b.item = some it' ∧ it'.phase
                = .done (Status.report (if lost = [] then it.met else it.met ++ [.failedUncorrectable])) .notApplied)))

/-- COPY, STORE_SPARSE, PREDICT_MASK, ACT_SAVE, ACT_RESTORE, FILL and GATHER (06_sparsity R178-R197, 08_backward_and_training
R237-R241, 13_hbm_and_ecc R363-R367): a descriptor that passes its checks runs to its end, its item reporting the statuses it met, or, where
the command says which ranges of its planes it has written, runs on; it changes its item, memory and the context's counters, and no other
item, but that a read may find a sector uncorrectable in which another item's write waited; one that fails a check is refused. With no flip
mask armed a FILL stores its word in facet memory and, whole sectors that no pending entry shares, in HBM, and a COPY stores its
source's bytes in facet memory that holds no stored error, and neither any other byte.
It rests on model choices: notes/assumptions/20, notes/assumptions/21, notes/assumptions/76. -/
def Obligations.StreamDescriptorsRunToTheirEnd : Prop :=
  ∀ (s : State) (n : Nat) (it : Item), s.item? n = some it → it.isDone = false → s.mayStart it = true →
    (∀ (part : Option (List (Nat × Nat))),
      ∀ e ∈ [(0x30, Instr.copy ⟨n, part⟩), (0x31, Instr.storeSparse ⟨n, part⟩), (0x32, Instr.predictMask ⟨n, part⟩), (0x33, Instr.actSave ⟨n, part⟩),
        (0x34, Instr.actRestore ⟨n, part⟩), (0x35, Instr.fill ⟨n, part⟩), (0x36, Instr.gather ⟨n, part⟩)], descOpcode it.desc = e.1 →
      ((s.start n).streamCheck it.ctx it.desc ≠ 0 →
        exec e.2 s = .next (((s.start n).bump Obj.SPARSE_REFUSED_COUNT it.ctx).refuse n 6 ((s.start n).streamCheck it.ctx it.desc))) ∧
      ((s.start n).streamCheck it.ctx it.desc = 0 → e.1 = 0x31 → ((s.start n).recordDiffers it.ctx it.desc).1 = true →
        exec e.2 s = .next ((((s.start n).recordDiffers it.ctx it.desc).2.bump Obj.SPARSE_REFUSED_COUNT it.ctx).refuse n 6 0x05)) ∧
      ((s.start n).streamCheck it.ctx it.desc = 0 → (e.1 = 0x31 → ((s.start n).recordDiffers it.ctx it.desc).1 = false) →
        ∃ u met, exec e.2 s = .next u
          ∧ u.item? n = some { it with met := met, phase := if part = none then .done (Status.report met) .notApplied else .running }
          ∧ (∀ m, m ≠ n → ItemKept s u m)
          ∧ (∀ (o : ObjDef) (sub i : Nat), o.index ∉ streamCounters → u.regF o sub i = s.regF o sub i)
          ∧ (s.memWf → u.memWf)
          ∧ u = { s with objs := u.objs, hbm := u.hbm, fm := u.fm, log := u.log, pins := u.pins, out := u.out,
                         freeCtr := u.freeCtr, items := u.items })) ∧
    (∀ a len, (s.start n).streamCheck it.ctx it.desc = 0 → s.hbm.armed = false → s.fm.mem.wf = true →
      sdData it.desc = apertureBase + a → sdLength it.desc = len → s.apertureServes it.ctx (apertureBase + a) len = true →
      (descOpcode it.desc = 0x35 → ∃ u, exec (.fill ⟨n, none⟩) s = .next u ∧ ∀ x, u.fm.mem.get x =
        if a ≤ x ∧ x < a + len then (leBytes 4 (field it.desc 392 32)).getD ((x - a) % 4) 0 else s.fm.mem.get x) ∧
      (∀ b, descOpcode it.desc = 0x30 → sdDyn it.desc = false → sdSrc it.desc = apertureBase + b →
        s.apertureServes it.ctx (apertureBase + b) len = true →
        (∀ k ∈ wordsOf b len, s.fm.poison.contains k = false ∧ tfind s.fm.flips k = none) →
        ∃ u, exec (.copy ⟨n, none⟩) s = .next u ∧ ∀ x, u.fm.mem.get x =
          if a ≤ x ∧ x < a + len then s.fm.mem.get (b + (x - a)) else s.fm.mem.get x)) ∧
    (∀ o p len, (s.start n).streamCheck it.ctx it.desc = 0 → s.hbm.armed = false → s.hbm.mem.wf = true → descOpcode it.desc = 0x35 →
      sdData it.desc = o → o < apertureBase → sdLength it.desc = len → s.inSpace it.ctx o len = true → p = s.phys it.ctx o →
      (∀ k ∈ sectorsOf p len, s.pageRetired (k * 32) = false ∧ s.mergeEntry k = none) →
      ∃ u, exec (.fill ⟨n, none⟩) s = .next u ∧ ∀ x, u.hbm.mem.get x =
        if p ≤ x ∧ x < p + len then (leBytes 4 (field it.desc 392 32)).getD ((x - p) % 4) 0 else s.hbm.mem.get x)

/-- The fabric instructions of a thread (12_fabric_memory R329-R344). FLD of a valid line of the read cache answers at once; one that
misses asks for the line's 128 bytes, an uncached one for 8, and the thread waits. FST is posted; with 32 outstanding the thread waits
and issues it later. FATOM waits for the old value. FFENCE gives the first failure once every posted request of the thread has its
outcome. FINV removes the context's lines that overlap its range. An address that cannot be sent counts and fails FAILED_PROTECTION, one
from a poisoned register FAILED_UNCORRECTABLE; a poisoned operand is an open value.
It rests on model choices: notes/assumptions/17, notes/assumptions/27, notes/assumptions/82. -/
def Obligations.FabricInstructionsIssueRequests : Prop :=
  ∀ (s : State) (f t : Nat) (p : Program) (w : Nat) (th : Thread), s.At f t p w → s.thread? f t = some th →
    let a := s.sget f t (iSA w)
    let bad := s.spoisoned f t (iSA w)
    let target := fun (n : Nat) => if bad then none else s.threadTarget th.ctx a n
    let failed := if bad then Status.failedUncorrectable else Status.failedProtection
    let counted := fun (u : State) => if bad then u else u.bump Obj.FABRIC_PROTECTION_COUNT th.ctx
    let go := fun (u : State) => Host.Outcome.next (φ := Fault) (ρ := Refusal) (u.goto f t (p.pc + 1))
    let ask := fun (node op : Nat) (why : FabFor) => threadRequest th.ctx node op a (s.programIssuer f t) why
    let load := fun (cached : Bool) (node off n : Nat) =>
      { ask node 0 (.load f t (iSD w) (iSB w) cached) with off := off, operand := n }
    let answered := fun (u : State) (st : Status) (v : Nat) =>
      ((u.switchOut f t (.reply s.fab.serial)).loadEnded f t (iSD w) (iSB w) a st .notApplied v false).arrive f t
    (iOp w = 0x18 →
      (∀ node, target 8 = some node → (bit (iImm w) 0 = true ∨ apertureBase ≤ faOff a ∨ node = s.node) →
        exec (.fld f t) s = go ((s.waitReply f t).fabIssue (load false node (faOff a) 8))) ∧
      (∀ node, target 8 = some node → bit (iImm w) 0 = false → faOff a < apertureBase → node ≠ s.node →
        (∀ l, s.lineOf th.ctx a = some l → exec (.fld f t) s
          = go (answered (s.bump Obj.FABRIC_CACHE_HITS th.ctx) .ok (ofLE ((l.bytes.drop (a % 128)).take 8)))) ∧
        (s.lineOf th.ctx a = none → exec (.fld f t) s
          = go (((s.bump Obj.FABRIC_CACHE_MISSES th.ctx).waitReply f t).fabIssue (load true node (faOff a - a % 128) 128)))) ∧
      (target 8 = none → exec (.fld f t) s = go (answered (counted s) failed 0))) ∧
    (iOp w = 0x19 →
      (32 ≤ th.stores.length → exec (.fst f t) s = .next (s.switchOut f t .store)) ∧
      (th.stores.length < 32 → ∃ v, (s.spoisoned f t (iSD w) = false → v = s.sget f t (iSD w)) ∧
        let u := if s.spoisoned f t (iSD w) then s.took else s
        (∀ node, target 8 = some node → exec (.fst f t) s = go (((u.finvRange th.ctx a 8).posting f t true).fabIssue
          { ask node 1 (.store f t p.item) with operand := v })) ∧
        (target 8 = none → exec (.fst f t) s = go ((counted u).postFailed f t a 0x19 failed)))) ∧
    (iOp w = 0x1A →
      let wide := field w 4 4 = 1
      let n := if wide then 8 else 4
      let y := s.sget f t (iSB w + 1)
      ∀ e ∈ [(0, Instr.fatomAdd f t), (1, .fatomMin f t), (2, .fatomMax f t), (3, .fatomCas f t)], field w 0 4 = e.1 →
        let open_ := s.spoisoned f t (iSB w) || (e.1 == 3 && s.spoisoned f t (iSB w + 1))
        let u := if open_ then s.took else s
        ∃ x, (open_ = false → x = s.sget f t (iSB w)) ∧
        (∀ node, target n = some node →
          exec e.2 s = go ((((u.finvRange th.ctx a n).posting f t false).waitReply f t).fabIssue
            { ask node 2 (.atomic f t (iSD w)) with
              aop := e.1, ty := field w 4 4, operand := if wide then x else x % 2 ^ 32,
              compare := if e.1 = 3 then (if wide then y else y % 2 ^ 32) else 0 })) ∧
        (target n = none →
          let v := ((counted u).switchOut f t (.reply s.fab.serial)).postFailed f t a (0x1A + 256 * e.1) failed
          exec e.2 s = go (((v.sset f t (iSD w) 0).sset f t (iSD w + 1) (statusWord failed .notApplied)).arrive f t))) ∧
    (iOp w = 0x1B → exec (.ffence f t) s = go (if th.posted.isEmpty
      then ((s.switchOut f t (.fence (iSD w))).sset f t (iSD w) th.fenceValue).arrive f t
      else s.switchOut f t (.fence (iSD w)))) ∧
    (iOp w = 0x1C → exec (.finv f t) s = go (s.finvRange th.ctx a (s.sget f t (iSB w)))
      ∧ (s.finvRange th.ctx a (s.sget f t (iSB w))).fab.lines = s.fab.lines.filter
          (fun l => !(l.ctx == th.ctx && decide (l.addr < a + s.sget f t (iSB w)) && decide (a < l.addr + 128))))

/-- FABRIC_LOAD, FABRIC_STORE, FABRIC_PUT_CHUNK, the four atomics, FABRIC_RESOLVE and TOMBSTONE_EXPIRY at the target
(12_fabric_memory R331-R340, R348). A STORE, PUT or ATOMIC that the reply cache knows is answered from it and touches no memory; one that
finds the cache full is answered BUSY and is not performed; one that is performed is entered in the cache where it applied, and is answered;
a misaligned one fails FAILED_PROTECTION.

What they do to the target's memory: a write that the space does not serve, that meets a retired page or an uncorrectable word is not
performed at all; in facet memory and, for a word of a clean sector, in HBM, nothing but its bytes changes.
It rests on model choices: notes/assumptions/82, notes/assumptions/164, notes/assumptions/167. -/
def Obligations.FabricRequestsArePerformedOnce : Prop :=
  (
    ∀ (s t : State) (node vc : Nat) (a : Arrived),
      let atomics := [(0, Instr.fabricAtomicAdd node vc, fun ty old x _ => some (atomicAdd ty old x)),
        (1, .fabricAtomicMin node vc, fun ty old x _ => some (atomicMin ty old x)),
        (2, .fabricAtomicMax node vc, fun ty old x _ => some (atomicMax ty old x)),
        (3, .fabricAtomicCas node vc, fun ty old x c =>
          if old = c % 2 ^ (8 * atomicSize ty) then some (x % 2 ^ (8 * atomicSize ty)) else none)]
      let full := t.reg Obj.FABRIC_RCACHE_ENTRIES ≤ t.fab.entries.length + t.fab.horizons.length
      let word := cacheWord a.record.fseq
      let ended := fun (u : State) (p : Performed) => Host.Outcome.next (φ := Fault) (ρ := Refusal)
        ((if p.outcome = .applied then (u.setFab { u.fab with entries := u.fab.entries ++ [(⟨a.node, a.epoch, a.record.fseq, a.record.op,
            p.status.code, 1, p.value, a.ctx, u.gen a.ctx, false⟩ : FabEntry)] }).sramWrote 6 0 word (word + 4) else u).fabReply a (a.reply p))
      (∀ e ∈ [(1, 0, Instr.fabricStore node vc), (3, 0, .fabricPutChunk node vc)] ++ atomics.map (fun e => (2, e.1, e.2.1)),
        s.takeRequest node vc (fun r => r.op == e.1 && (r.op != 2 || r.aop == e.2.1)) = some (a, t) →
        (∀ c dead u, t.fabEntry a = some c → t.sramRead 6 0 (cacheWord c.fseq) (cacheWord c.fseq + 4) c.ctx 0xFFFF = (dead, u) →
          exec e.2.2 s = .next ((u.bump Obj.FABRIC_DUP_REPLY_COUNT 0).fabReply a (if dead = [] then
            { op := c.op, status := c.status, outcome := c.outcome, cached := true, fseq := c.fseq, value := c.value }
            else { op := c.op, status := Status.failedUncorrectable.code, outcome := FabOutcome.unknown.code, cached := true,
                   fseq := c.fseq }))) ∧
        (t.fabEntry a = none → full → exec e.2.2 s = .next (((t.fabSeen a).bump Obj.FABRIC_BUSY_COUNT 0).fabReply a
          { op := a.record.op, status := 0, outcome := 0, busy := true, fseq := a.record.fseq }))) ∧
      (¬ full → t.fabEntry a = none →
        (∀ e ∈ [(1, Instr.fabricStore node vc, leBytes 8 a.record.operand, a.record.off % 8 = 0),
            (3, .fabricPutChunk node vc, a.record.data,
              a.record.off % 32 = 0 ∧ a.record.data.length % 32 = 0 ∧ a.record.data.length ≠ 0)],
          s.takeRequest node vc (fun r => r.op == e.1) = some (a, t) →
          (¬e.2.2.2 → exec e.2.1 s = ended (t.fabSeen a) { status := .failedProtection }) ∧
          (∀ st u, e.2.2.2 → (t.fabSeen a).fabWrite a.ctx a.record.off e.2.2.1 = (st, u) →
            exec e.2.1 s = ended u { status := st, outcome := if st = .ok then .applied else .notApplied })) ∧
        (∀ e ∈ atomics, s.takeRequest node vc (fun r => r.op == 2 && r.aop == e.1) = some (a, t) →
          let n := atomicSize a.record.ty
          (¬(a.record.ty ≤ 2 ∧ a.record.off % n = 0) → exec e.2.1 s = ended (t.fabSeen a) { status := .failedProtection }) ∧
          (∀ g u, a.record.ty ≤ 2 → a.record.off % n = 0 → (t.fabSeen a).ctxUpdate a.ctx a.record.off n
              (fun b => (e.2.2 a.record.ty (ofLE b) a.record.operand a.record.compare).map (leBytes n)) 10 = (g, u) →
            exec e.2.1 s = ended u (if g.status = .ok then { status := .ok, outcome := .applied, value := g.num }
              else { status := g.status })))) ∧
      (s.takeRequest node vc (fun r => r.op == 0) = some (a, t) →
        (loadFits a.record.off a.record.operand = false →
          exec (.fabricLoad node vc) s = .next ((t.fabSeen a).fabReply a (a.reply { status := .failedProtection }))) ∧
        (∀ g u, loadFits a.record.off a.record.operand = true →
          (t.fabSeen a).ctxRead a.ctx a.record.off a.record.operand 10 = (g, u) →
          exec (.fabricLoad node vc) s = .next (u.fabReply a (if g.protection then a.reply { status := .failedProtection }
            else if a.record.operand = 8 then a.reply { status := g.status, value := g.num }
            else a.reply { status := g.status, data := g.bytes })))) ∧
      (s.takeRequest node vc (fun r => r.op == 4) = some (a, t) →
        exec (.fabricResolve node vc) s = .next (t.fabReply a (a.reply (t.resolved a)))) ∧
      (∀ epoch fseq,
        let kept := s.fab.entries.filter (fun e => !(e.tomb && e.node == node && e.epoch == epoch && e.fseq == fseq))
        exec (.tombstoneExpiry node epoch fseq) s = .next (s.setFab { s.fab with entries := kept }))) ∧
  (
    ∀ (s : State) (c o : Nat) (b : Bytes) (f : Bytes → Option Bytes),
      (s.inSpace c o b.length = false → s.fabWrite c o b = (.failedProtection, s)) ∧
      (s.inSpace c o b.length = true → s.touchesRetired c o b.length = true → s.fabWrite c o b = (.failedUncorrectable, s)) ∧
      (s.inSpace c o b.length = true → s.touchesRetired c o b.length = false → s.targetLost c o b.length = true →
        s.fabWrite c o b = (.failedUncorrectable, (s.ctxRead c o b.length 10).2)) ∧
      (∀ x, o = apertureBase + x → s.inSpace c o b.length = true → s.fm.mem.wf = true → s.hbm.armed = false →
        (∀ k ∈ wordsOf x b.length, s.fm.poison.contains k = false ∧ tfind s.fm.flips k = none) →
        let holds := fun (u : State) (b : Bytes) => u = { s with fm := u.fm } ∧
          ∀ y, u.fm.mem.get y = if x ≤ y ∧ y < x + b.length then b.getD (y - x) 0 else s.fm.mem.get y
        (∃ u, s.fabWrite c o b = (.ok, u) ∧ holds u b) ∧
        (∃ u, s.ctxUpdate c o b.length f 10 = ({ bytes := s.fm.mem.getN x b.length }, u)
          ∧ (f (s.fm.mem.getN x b.length) = none → u = s)
          ∧ ∀ d, f (s.fm.mem.getN x b.length) = some d → d.length = b.length → holds u d)) ∧
      (∀ p, o < apertureBase → s.inSpace c o b.length = true → p = s.phys c o → b ≠ [] → p % 32 + b.length ≤ 32 → s.hbm.mem.wf = true →
        s.hbm.armed = false → s.pageRetired (p / 32 * 32) = false → s.mergeEntry (p / 32) = none → s.hbm.poison.contains (p / 32) = false →
        s.hbm.elsewhere.contains (p / 32) = false → tfind s.hbm.flips (p / 32) = none →
        ∃ u, s.ctxUpdate c o b.length f 10 = ({ bytes := s.hbm.mem.getN p b.length }, u)
          ∧ (∀ y, u.hbm.mem.get y = match f (s.hbm.mem.getN p b.length) with
              | some d => if d.length = b.length ∧ p ≤ y ∧ y < p + b.length then d.getD (y - p) 0
                  else if d.length = b.length then s.hbm.mem.get y else u.hbm.mem.get y
              | none => s.hbm.mem.get y)
          ∧ u = { s with objs := u.objs, hbm := u.hbm }))

/-- GET, PUT, INVALIDATE, PUBLISH, PUBLISH_CLOSE_SEND and how a request of this device ends (12_fabric_memory R333-R348,
15_faults_and_recovery R427). A GET asks for its chunks of 4,064 bytes, a PUT reads and sends them, in a mirror's slot once the buddy's commit
record is invalid; a transfer that fails a check is refused, one without a route denied. A BUSY reply asks for a resend;
any other ends its request with the status, outcome and data it brings; an acknowledged request without a reply is resent with RETRY,
at most the limit's times, or resolved once its target context is in a later generation.
It rests on model choices: notes/assumptions/28, notes/assumptions/83. -/
def Obligations.FabricTransfersAndReplies : Prop :=
  ∀ s : State,
    (∀ n it, s.item? n = some it → it.isDone = false → s.mayStart it = true →
      let code := s.fabricCheck it.ctx it.desc
      let c := it.ctx
      let a := fdRemote it.desc
      let u := s.start n
      let whole := fun (u : State) (node : Nat) => ((chunkStarts (fdLength it.desc)).foldl
        (fun s off => s.putPiece n it node off) (u.finvRange c a (fdLength it.desc))).bulkEnded n
      (∀ e ∈ [(0x60, Instr.fabGet n), (0x61, .fabPut n), (0x62, .publish n), (0x63, .invalidate n)], descOpcode it.desc = e.1 →
        code ≠ 0 → exec e.2 s = .next ((u.bump Obj.FABRIC_PROTECTION_COUNT c).refuse n 10 code)) ∧
      (∀ e ∈ [(0x60, Instr.fabGet n), (0x61, .fabPut n)], descOpcode it.desc = e.1 → code = 0 → s.fabTarget c a = none →
        exec e.2 s = .next (((u.namesNode c a).bump Obj.FABRIC_PROTECTION_COUNT c).finishWith n .failedProtection)) ∧
      (∀ node, code = 0 → s.fabTarget c a = some node →
        (descOpcode it.desc = 0x60 → exec (.fabGet n) s = .next ((chunkStarts (fdLength it.desc)).foldl
          (fun s off => s.getPiece n it node off) u)) ∧
        (descOpcode it.desc = 0x61 → s.inMirrorSlot it = false → exec (.fabPut n) s = .next (whole u node)) ∧
        (descOpcode it.desc = 0x61 → s.inMirrorSlot it = true →
          (s.mirrorTarget it node = false → exec (.fabPut n) s
            = .next ((u.bump Obj.FABRIC_PROTECTION_COUNT c).finishWith n .failedProtection)) ∧
          (s.mirrorTarget it node = true → (s.plan c).mirrorOpened = true → exec (.fabPut n) s = .next (whole u node)) ∧
          (s.mirrorTarget it node = true → (s.plan c).mirrorOpened = false →
            let v := u.setFab { s.fab with parked := s.fab.parked ++ [n] }
            let w := v.setPlan c { s.plan c with mirrorOpening := true }
            exec (.fabPut n) s = .next (if (s.plan c).mirrorOpening then v
              else (w.writeCommit c 0).getD (w.mirrorInvalidated c .failedProtection))))) ∧
      (code = 0 → descOpcode it.desc = 0x63 → exec (.invalidate n) s = .next ((u.finvRange c a (fdLength it.desc)).finish n)) ∧
      (code = 0 → descOpcode it.desc = 0x62 →
        exec (.publish n) s = .next (if (s.slotWindows it).2.isNone
          then (u.bump Obj.FABRIC_PROTECTION_COUNT c).finishWith n .failedProtection else u))) ∧
    (∀ n it scope w, s.item? n = some it → it.phase = .running → s.issuerOf it = some scope → (s.slotWindows it).2 = some w →
      descOpcode it.desc = 0x62 → s.publishWaits it.ctx scope = false → (∀ o ∈ s.outgoing, o.item ≠ some n) →
      s.unackedOf (.item n) = false →
      let o : Outgoing := { ctx := it.ctx, step := it.step, slot := it.slot, window := w, item := some n }
      (∀ st, s.publishFailure it.ctx scope = some st → exec (.publishCloseSend n) s
        = .next ((if st = .failedProtection then s.bump Obj.FABRIC_PROTECTION_COUNT it.ctx else s).finishWith n st)) ∧
      (s.publishFailure it.ctx scope = none → exec (.publishCloseSend n) s = .next (if s.windowOpen o then s.sendOutput o else s.stage o))) ∧
    (∀ node vc d t r, s.takeInbox node vc fabricsRecord = some (d, t) → t.req? node (replyAt d.bytes).fseq = some r →
      r.op = (replyAt d.bytes).op →
      let x := replyAt d.bytes
      exec (.fabricReplyReceive node vc) s = .next (if x.busy then t.setReq { r with busy := true }
        else match r.why with
          | .resolve q => t.resolveEnd r q .failedContextReset (FabOutcome.ofCode x.outcome) x.value
          | _ => t.fabEnd r (Status.ofCode x.status) (FabOutcome.ofCode x.outcome) x.value x.data)) ∧
    (∀ node fseq r, s.req? node fseq = some r → r.dead = false → r.resolving = false →
      let outdated := r.node ≠ s.node ∧ r.op ≠ 4 ∧ s.peerGen r.node r.ctx ≠ r.dstGen
      (r.busy = true → (outdated → exec (.fabricBusyResend node fseq) s = .next (s.fabResolve r))
        ∧ (¬outdated → exec (.fabricBusyResend node fseq) s = .next (s.fabSend r false))) ∧
      (r.acked = true → r.busy = false →
        (outdated → exec (.fabricReplyTimeout node fseq) s = .next (s.fabResolve r)) ∧
        (¬outdated → r.retries < s.reg Obj.FABRIC_RETRY_LIMIT → exec (.fabricReplyTimeout node fseq) s
          = .next ((s.fabSend { r with retries := r.retries + 1 } true).bump Obj.FABRIC_RETRY_COUNT r.ctx)) ∧
        (¬outdated → s.reg Obj.FABRIC_RETRY_LIMIT ≤ r.retries → exec (.fabricReplyTimeout node fseq) s
          = .next (match r.why with
            | .resolve q => s.resolveEnd r q .failedTimeout .unknown 0
            | _ => s.fabEnd r .failedTimeout .unknown 0 []))))

/-- HBM_REGION_WRITE, HBM_UNIT_WRITTEN_WRITE, HBM_RETIRED_PAGES_WRITE, MERGE_IDLE_WRITEBACK, PATROL_SCRUB_READ, the flip mask and
FM_CORRECTED_WRITEBACK (13_hbm_and_ecc R356-R373, 05_vector_engine_and_sequencer R139). A region that is granted keeps the bytes and
written-map bits of the units it does not gain; a merge entry is merged into its sector and no other byte changes, but of an uncorrectable
sector its writes are lost and their items fail; the scrub reads the next sector that counts and writes a correctable one back.
It rests on model choices: notes/assumptions/79, notes/assumptions/108. -/
def Obligations.HbmFollowsItsCommands : Prop :=
  ∀ (s : State) (who : Who),
    (∀ c base size, Takes s who Obj.HBM_REGION c true → base < 65536 → size < 65536 →
      let role := (∃ e, who = .bmc e) ∧ c = 0 ∨ (∃ f, who = .host f) ∧ c ≠ 0
      let kept := fun (u : Nat) => u < base ∨ base + size ≤ u ∨ (s.regF Obj.HBM_REGION c 0 ≤ u ∧ u < s.regF Obj.HBM_REGION c 0 + s.regF Obj.HBM_REGION c 1)
      (¬role → exec (.hbmRegionWrite who c base size) s = .next (s.answer who Obj.HBM_REGION c Abort.WRITE_NOT_PERMITTED)) ∧
      (role → s.regionRefusal c base size ≠ 0 →
        exec (.hbmRegionWrite who c base size) s = .next (s.answer who Obj.HBM_REGION c (s.regionRefusal c base size))) ∧
      (role → s.regionRefusal c base size = 0 → ∃ u, exec (.hbmRegionWrite who c base size) s = .next u
        ∧ u.regF Obj.HBM_REGION c 0 = base ∧ u.regF Obj.HBM_REGION c 1 = size ∧ SameRegs s u [Obj.HBM_REGION.key c]
        ∧ (∀ n, n ∈ u.hbm.written ↔ n ∈ s.hbm.written ∧ kept n)
        ∧ (∀ a, kept (a / unitBytes) → u.hbm.mem.get a = s.hbm.mem.get a)
        ∧ u = { s with objs := u.objs, hbm := u.hbm, out := s.out ++ [.answer who (Obj.HBM_REGION.key c) 0] })) ∧
    (∀ unit, Takes s who Obj.HBM_UNIT_WRITTEN 0 false →
      let own := ∀ n, who = .tenant n → ∃ c, c < 16 ∧ s.tenantOf n c = true ∧ s.regF Obj.HBM_REGION c 0 ≤ unit
        ∧ unit < s.regF Obj.HBM_REGION c 0 + s.regF Obj.HBM_REGION c 1
      (unit < hbmUnits → own → exec (.hbmUnitWrittenWrite who unit) s
        = .next ((s.setHbm { s.hbm with written := nsInsert s.hbm.written unit }).answer who Obj.HBM_UNIT_WRITTEN 0 0)) ∧
      (hbmUnits ≤ unit ∨ ¬own → exec (.hbmUnitWrittenWrite who unit) s
        = .next (s.answer who Obj.HBM_UNIT_WRITTEN 0 Abort.VALUE_RANGE))) ∧
    (∀ entry page ok, Takes s who Obj.HBM_RETIRED_PAGES 0 false →
      let l := s.fields Obj.HBM_RETIRED_PAGES 0
      let t := s.setRegF Obj.HBM_RETIRED_PAGES 0 entry page
      exec (.hbmRetiredPagesWrite who entry page ok) s = .next (
        if 1024 ≤ entry then s.answer who Obj.HBM_RETIRED_PAGES 0 Abort.LENGTH_MISMATCH
        else if page ≠ retireFree ∧ (l.contains page = true ∨ page % 4096 ≠ 0) then s.answer who Obj.HBM_RETIRED_PAGES 0 Abort.RETIRE_FORMAT
        else if ok = false then (s.flashFailed Obj.HBM_RETIRED_PAGES).answer who Obj.HBM_RETIRED_PAGES 0 Abort.FLASH_FAILED
        else (t.flashPut Obj.HBM_RETIRED_PAGES 0 (t.fields Obj.HBM_RETIRED_PAGES 0)).answer who Obj.HBM_RETIRED_PAGES 0 0)) ∧
    (∀ k, s.mergeEntry k = none → exec (.mergeIdleWriteback k) s = .next s) ∧
    (∀ k e, s.mergeEntry k = some e →
      ∃ u, exec (.mergeIdleWriteback k) s = .next u ∧ u.mergeEntry k = none ∧ (∀ j, j ≠ k → u.mergeEntry j = s.mergeEntry j)
        ∧ (s.sectorLost k = true → (∀ a, a / 32 ≠ k → u.hbm.mem.get a = s.hbm.mem.get a)
            ∧ ∀ n ∈ e.writers, ∀ it, s.item? n = some it → ∃ jt, u.item? n = some jt ∧ Status.failedUncorrectable ∈ jt.met)
        ∧ (s.hbm.poison.contains k = false → s.hbm.elsewhere.contains k = false → tfind s.hbm.flips k = none → s.hbm.armed = false →
            s.hbm.mem.wf = true →
            (∀ a, u.hbm.mem.get a = if 32 * k ≤ a ∧ a < 32 * k + 32 then tget (s.hbm.mem.get a) e.bytes (a - 32 * k) else s.hbm.mem.get a)
              ∧ SameRegs s u [Obj.HBM_MERGE_RMW_COUNT.key (hbmController (k * 32))] ∧ u = { s with objs := u.objs, hbm := u.hbm })) ∧
    (∀ pc flaws,
      let u := s.suffer flaws
      (512 ≤ pc ∨ u.recalibrating (pcStack pc) = true → exec (.patrolScrubRead pc flaws) s = .next u) ∧
      (pc < 512 → u.recalibrating (pcStack pc) = false →
        (u.nextScrub pc 8192 (tget 0 u.hbm.scrub pc) = none → exec (.patrolScrubRead pc flaws) s = .next (u.scrubWrap pc)) ∧
        ∀ k, u.nextScrub pc 8192 (tget 0 u.hbm.scrub pc) = some k →
          let x := pcSector pc k / 32
          let (r, v) := u.readSector x 16
          exec (.patrolScrubRead pc flaws) s = .next (v.setHbm
              { v.hbm with flips := if r.2 then v.hbm.flips else terase v.hbm.flips x, scrub := tset v.hbm.scrub pc (k + 1) }) ∧
          (u.mergeEntry x = none → u.pageRetired (x * 32) = false → u.sectorLost x = false → ∀ d, tfind u.hbm.flips x = some d →
            r.2 = false ∧ r.1 = u.hbm.mem.getN (x * 32) 32
              ∧ v.reg Obj.HBM_CORRECTED_COUNT (hbmChannel (x * 32)) = satAdd 8 (u.reg Obj.HBM_CORRECTED_COUNT (hbmChannel (x * 32))) 1))) ∧
    (Takes s who Obj.ECC_FLIP_CONTROL 6 false →
      exec (.flipMaskArm who) s = .next (
        if s.injectDenied then s.answer who Obj.ECC_FLIP_CONTROL 6 Abort.INJECT_NOT_ALLOWED
        else if s.injectMalformed then s.answer who Obj.ECC_FLIP_CONTROL 6 Abort.INJECT_FORMAT
        else ((s.setHbm { s.hbm with armed := true }).setReg Obj.ECC_FLIP_STATUS 7 1).answer who Obj.ECC_FLIP_CONTROL 6 0) ∧
      exec (.flipMaskDisarm who) s = .next
        (((s.setHbm { s.hbm with armed := false }).setReg Obj.ECC_FLIP_STATUS 7 0).answer who Obj.ECC_FLIP_CONTROL 6 0)) ∧
    (∀ w, exec (.fmCorrectedWriteback w) s = .next (if s.fm.corrected.contains w
      then s.setFm { s.fm with flips := terase s.fm.flips w, corrected := nsErase s.fm.corrected w } else s))

/-- QUEUE_CREATE, the four commands of QUEUE_CONTROL and the two doorbells (14_queues_and_pools R375-R380). A created queue is
ACTIVE and empty; RESET skips the descriptors not accepted; a queue that is held is not destroyed. A doorbell that does not fit its
queue is discarded and counted; a tail too far ahead puts the queue in ERROR; one that advances the tail is remembered until its
descriptors are accepted. -/
def Obligations.QueuesFollowTheirCommands : Prop :=
  ∀ s : State,
    (∀ who r, Takes s who Obj.QUEUE_CREATE 0 false → exec (.queueCreate who r) s = .next (
      if s.queueRefusal who r.toNat = 0 then
        ((s.setQueue (qrQueue r.toNat) { record := r.toNat }).sramWrote 8 (qrQueue r.toNat) 0 8).answer who Obj.QUEUE_CREATE 0 0
      else s.answer who Obj.QUEUE_CREATE 0 (s.queueRefusal who r.toNat))) ∧
    (∀ who q, Takes s who Obj.QUEUE_CONTROL 0 false →
      let done := fun (t : State) => Host.Outcome.next (φ := Fault) (ρ := Refusal) (t.answer who Obj.QUEUE_CONTROL 0 0)
      let no := fun (code : Nat) => Host.Outcome.next (φ := Fault) (ρ := Refusal) (s.answer who Obj.QUEUE_CONTROL 0 code)
      (s.queue? q = none ∨ s.controlRefusal who q ≠ 0 →
        ∀ i ∈ [Instr.queuePause who q, .queueResume who q, .queueReset who q, .queueDestroy who q],
          exec i s = no (if s.queue? q = none then Abort.QUEUE_STATE else s.controlRefusal who q)) ∧
      (∀ x, s.queue? q = some x → s.controlRefusal who q = 0 →
        exec (.queuePause who q) s = (if x.state = 3 then no Abort.QUEUE_STATE else done (s.setQueue q { x with state := 2 })) ∧
        exec (.queueResume who q) s = (if x.state = 3 then no Abort.QUEUE_STATE else done (s.setQueue q { x with state := 1 })) ∧
        exec (.queueReset who q) s = done (s.setQueue q { x with
          state := 1, errorCode := 0, sqHead := x.sqTail, bells := [], skipped := satAdd 8 x.skipped (ahead x.sqHead x.sqTail) }) ∧
        exec (.queueDestroy who q) s = (if s.queueHeld q x then no Abort.QUEUE_STATE else done (s.setQueues (terase s.queues q))))) ∧
    (∀ f q size v,
      (s.power.perst = true → exec (.sqTailDoorbell f q size v) s = .next s ∧ exec (.cqHeadDoorbell f q size v) s = .next s) ∧
      (s.power.perst = false → s.doorbellTakes f q size v = false →
        exec (.sqTailDoorbell f q size v) s = .next (s.bump Obj.DOORBELL_DISCARD_COUNT 0) ∧
        exec (.cqHeadDoorbell f q size v) s = .next (s.bump Obj.DOORBELL_DISCARD_COUNT 0)) ∧
      (s.power.perst = false → s.doorbellTakes f q size v = true → ∃ x, s.queue? q = some x ∧
        exec (.sqTailDoorbell f q size v) s = .next (
          if behind x.sqTail v then s.bump Obj.DOORBELL_DISCARD_COUNT 0
          else if sqSize x.record < ahead x.sqHead v then s.queueError q 1
          else s.setQueue q { x with sqTail := v, bells := if v = x.sqTail then x.bells else x.bells ++ [(v, s.nextBell)] }) ∧
        exec (.cqHeadDoorbell f q size v) s = .next (
          if qrTarget x.record ≠ q ∨ behind x.cqHead v = true ∨ ahead x.cqHead x.cqTail < ahead x.cqHead v
          then s.bump Obj.DOORBELL_DISCARD_COUNT 0 else s.setQueue q { x with cqHead := v })))

/-- DESCRIPTOR_ACCEPT, ITEM_COMPLETION, SUMMARY_FLUSH, DEFERRED_CQ_WRITE, IRQ_HOLDOFF_EXPIRY and the queue manager's NOP, DOORBELL and
BARRIER (14_queues_and_pools R380-R400). A queue record with an uncorrectable word resets the context when a descriptor is to be
accepted. The queue whose turn it is has its next descriptor accepted: one that is read without an error
becomes the newest item and SQ_HEAD advances; one that is poisoned, or has an opcode no queue takes, is accepted and fails. A finished item
gets its one completion and is gone, so that a second command about it does nothing.
It rests on model choices: notes/assumptions/6, notes/assumptions/40, notes/assumptions/168, notes/assumptions/172. -/
def Obligations.QueueItemsComeAndGo : Prop :=
  ∀ s : State,
    (∀ q, (∀ x, s.queue? q = some x → s.canAccept q x = false ∨ s.turn x = false) → exec (.descriptorAccept q) s = .next s) ∧
    (∀ q x dead r, s.queue? q = some x → s.canAccept q x = true → s.turn x = true → s.sramRead 8 q 0 8 (qrContext x.record) 0xFFFF = (dead, r) →
      dead ≠ [] → exec (.descriptorAccept q) s = .next (r.contextReset (qrContext x.record) causeContext)) ∧
    (∀ q x g t r, s.queue? q = some x → s.canAccept q x = true → s.turn x = true → s.sramRead 8 q 0 8 (qrContext x.record) 0xFFFF = ([], r) →
      r.ctxRead (qrContext x.record) (sqOffset x.record + x.sqHead % sqSize x.record * 64) 64 11 = (g, t) →
      let h := (x.sqHead + 1) % 2 ^ 32
      let k := qrClass x.record
      let anew := k != 0 && decide (classShare k ≤ s.classServed k)
      let taken : Queue := { x with sqHead := h, bells := x.bells.dropWhile (fun b => b.1 == h), served := if anew then 1 else x.served + 1 }
      let it : Item := { ctx := qrContext x.record, gen := t.gen (qrContext x.record), origin := .queued q x.sqHead, desc := g.num }
      let ends := fun (st : Status) (y : Queue) => ∃ u, exec (.descriptorAccept q) s = .next u ∧ u.queue? q = some y
        ∧ u.item? s.nextItem = some (if st = .ok then it else { it with met := [st], phase := .done (Status.report [st]) .notApplied })
        ∧ u.nextItem = s.nextItem + 1 ∧ (∀ m, m ≠ s.nextItem → ItemKept s u m)
        ∧ (∀ p, p ≠ q → u.queue? p = (s.queue? p).map (fun y => if anew then { y with served := 0 } else y))
        ∧ u = { t with objs := u.objs, log := u.log, pins := u.pins, out := u.out, queues := u.queues, items := u.items, nextItem := u.nextItem }
      (g.protection = true → exec (.descriptorAccept q) s = .next (t.queueError q 3)) ∧
      (g.protection = false → g.poison = false → queueOpcode (descOpcode g.num) = true → ends .ok taken) ∧
      (g.protection = false → g.poison = false → queueOpcode (descOpcode g.num) = false → ends .failedProtection taken) ∧
      (g.protection = false → g.poison = true → ends .failedUncorrectable { taken with state := 3, errorCode := 2 })) ∧
    (∀ n stamp, s.onLadder n = true ∨ (∀ it, s.item? n = some it → it.isDone = false) → exec (.itemCompletion n stamp) s = .next s) ∧
    (∀ n it st oc stamp, s.item? n = some it → it.phase = .done st oc → s.onLadder n = false →
      (∃ u, exec (.itemCompletion n stamp) s = .next u ∧ u.item? n = none ∧ (∀ m, m ≠ n → ItemKept s u m)
        ∧ exec (.itemCompletion n stamp) u = .next u) ∧
      ∀ q i, it.origin = .queued q i → tfind s.rcv.active it.ctx = none → exec (.itemCompletion n stamp) s
        = .next (((s.setItems (terase s.items n)).writeEntry (s.ringOf q)
            (entryWord 0 st.code oc.code q i (stamp % 1000000000) 0 0xFF)).trace (.completion it.ctx 0xFFFF 0xFF st.code))) ∧
    (∀ c, exec (.summaryFlush c) s = .next (s.flushSummary c) ∧ (s.planRing c = none → exec (.summaryFlush c) s = .next s)) ∧
    (∀ q, s.queue? q = none → exec (.deferredCqWrite q) s = .next s ∧ exec (.irqHoldoffExpiry q) s = .next s) ∧
    (∀ q x, s.queue? q = some x →
      exec (.deferredCqWrite q) s = .next (if s.facetServes (qrFacet x.record) (qrContext x.record)
        then x.deferred.foldl (fun s e => s.writeEntry q e) (s.setQueue q { x with deferred := [] }) else s) ∧
      exec (.irqHoldoffExpiry q) s = .next (
        if x.holdoff = false then s
        else if x.holdoffHit then (s.setQueue q { x with holdoff := false, holdoffHit := false }).ringInterrupt q
        else s.setQueue q { x with holdoff := false, holdoffHit := false })) ∧
    (∀ n, ∀ e ∈ [(0x80, Instr.qmNop n), (0x81, .doorbell n), (0x82, Instr.barrier n)],
      (∀ it, s.item? n = some it → it.isDone = true ∨ s.mayStart it = false ∨ descOpcode it.desc ≠ e.1) → exec e.2 s = .next s) ∧
    (∀ n it, s.item? n = some it → it.isDone = false → s.mayStart it = true →
      (∀ e ∈ [(0x80, Instr.qmNop n), (0x82, Instr.barrier n)], descOpcode it.desc = e.1 →
        ∃ u, exec e.2 s = .next u ∧ u.item? n = some { it with phase := .done (Status.report it.met) .notApplied }
          ∧ (∀ m, m ≠ n → u.item? m = s.item? m) ∧ u = { s with items := u.items }) ∧
      (descOpcode it.desc = 0x81 →
        (s.queue? (qdTarget it.desc) = none → exec (.doorbell n) s = .next ((s.start n).finishWith n .failedProtection)) ∧
        (∀ x, s.queue? (qdTarget it.desc) = some x → exec (.doorbell n) s = .next (
          if qrContext x.record ≠ it.ctx ∨ x.state ≠ 1 then (s.start n).finishWith n .failedProtection
          else if sqSize x.record < ahead x.sqHead x.sqTail + qdCount it.desc then ((s.start n).queueError (qdTarget it.desc) 1).finish n
          else ((s.start n).setTail (qdTarget it.desc) ((x.sqTail + qdCount it.desc) % 2 ^ 32)).finish n))))

/-- ACQUIRE, RELEASE, TRANSFER and the writes of POOL_CONFIG and POOL_REQUESTER (14_queues_and_pools R392-R399). An acquisition that is
granted takes one of the free handles, which is then held and charged; one that is not is counted and FAILED_QUOTA. A released handle
is free again under the next GEN. A handle that names no buffer, or another owner's, is rejected.
It rests on model choices: notes/assumptions/77, notes/assumptions/169. -/
def Obligations.PoolsKeepTheirOwners : Prop :=
  ∀ s : State,
    (∀ c r p h t, c < 16 → r < 64 → p < 8 → s.poolAcquire c r p = (some h, t) → s.reqHeld r p + 1 < 2 ^ 32 →
      h ∉ (t.pool c p).cache ∧ hIndex h ∈ (t.pool c p).held ∧ t.reqHeld r p = s.reqHeld r p + 1
        ∧ (t.pool c p).freeCount < (s.pool c p).freeCount
        ∧ ((s.pool c p).ringCount = 0 → h ∈ (s.pool c p).cache ∧ ∀ i ∈ (t.pool c p).cache, i ∈ (s.pool c p).cache)) ∧
    (∀ n, ∀ e ∈ [(0x83, Instr.acquire n), (0x84, .release n), (0x85, .transfer n)],
      (∀ it, s.item? n = some it → it.isDone = true ∨ s.mayStart it = false ∨ descOpcode it.desc ≠ e.1) → exec e.2 s = .next s) ∧
    (∀ n it, s.item? n = some it → it.isDone = false → s.mayStart it = true →
      let b := s.start n
      let r := b.itemRequester it
      let h := qdHandle it.desc
      let bad := qdSize it.desc = 0 ∨ qdAddr it.desc % 4 ≠ 0 ∨ b.reqContext r ≠ it.ctx ∨ b.inSpace it.ctx (qdAddr it.desc) 4 = false
      let none4 := fun (t : State) => (t.ctxWrite it.ctx (qdAddr it.desc) (leBytes 4 0xFFFFFFFF) (some n)).2
      (descOpcode it.desc = 0x83 →
        (bad → exec (.acquire n) s = .next (b.finishWith n .failedProtection)) ∧
        (¬bad → poolFor (qdSize it.desc) = none → exec (.acquire n) s = .next ((none4 b).finishWith n .failedProtection)) ∧
        (¬bad → ∀ p, poolFor (qdSize it.desc) = some p →
          (∀ k t, b.poolAcquire it.ctx r p = (some k, t) →
            let w := t.ctxWrite it.ctx (qdAddr it.desc) (leBytes 4 k) (some n)
            exec (.acquire n) s = .next (w.2.finishWith n w.1.status)) ∧
          (∀ t, b.poolAcquire it.ctx r p = (none, t) → exec (.acquire n) s = .next ((none4 t).finishWith n .failedQuota)))) ∧
      (descOpcode it.desc = 0x84 →
        (∀ t, b.lookHandle it.ctx h r = (.stale, t) → exec (.release n) s
          = .next ((t.bump Obj.POOL_STALE_HANDLE_COUNT it.ctx).poolReject n it h r 0xFF .failedProtection)) ∧
        (∀ o t, b.lookHandle it.ctx h r = (.foreign o, t) → exec (.release n) s
          = .next ((t.bump Obj.POOL_FOREIGN_FREE_COUNT it.ctx).poolReject n it h r o .failedProtection)) ∧
        (∀ o t, b.lookHandle it.ctx h r = (.owned o, t) →
          exec (.release n) s = .next ((t.freeBuffer it.ctx (hPool h) (hIndex h) (hGen h) o).finish n)
            ∧ (t.freeBuffer it.ctx (hPool h) (hIndex h) (hGen h) o).pool it.ctx (hPool h)
              = (let x := t.pool it.ctx (hPool h)
                 let y : Pool := { x with cache := x.cache ++ [handleOf (hPool h) ((hGen h + 1) % 32) (hIndex h)], held := nsErase x.held (hIndex h) }
                 ((t.setPool it.ctx (hPool h) y).spill it.ctx (hPool h)).pool it.ctx (hPool h)))) ∧
      (descOpcode it.desc = 0x85 →
        (b.reqContext r ≠ it.ctx → exec (.transfer n) s = .next (b.finishWith n .failedProtection)) ∧
        (b.reqContext r = it.ctx →
          (∀ t, b.lookHandle it.ctx h r = (.stale, t) → exec (.transfer n) s
            = .next ((t.bump Obj.POOL_STALE_HANDLE_COUNT it.ctx).poolReject n it h r 0xFF .failedProtection)) ∧
          (∀ o t, b.lookHandle it.ctx h r = (.foreign o, t) → exec (.transfer n) s
            = .next ((t.bump Obj.POOL_FOREIGN_FREE_COUNT it.ctx).poolReject n it h r o .failedProtection)) ∧
          (∀ o t, b.lookHandle it.ctx h r = (.owned o, t) →
            (t.reqContext (qdNewOwner it.desc) ≠ it.ctx → exec (.transfer n) s
              = .next ((t.bump Obj.POOL_STALE_HANDLE_COUNT it.ctx).poolReject n it h r o .failedProtection)) ∧
            (t.reqContext (qdNewOwner it.desc) = it.ctx → qdNewOwner it.desc = o → exec (.transfer n) s = .next (t.finish n)) ∧
            (t.reqContext (qdNewOwner it.desc) = it.ctx → qdNewOwner it.desc ≠ o →
              let q := t.transferQuota it.ctx o (qdNewOwner it.desc) (hPool h)
              let v := t.setBufEntry it.ctx (hPool h) (hIndex h) (entryOf true (qdNewOwner it.desc) (hGen h))
              exec (.transfer n) s = .next (if q = .grant
                then ((v.setRegF Obj.POOL_HELD o (hPool h) (v.reqHeld o (hPool h) - 1)).bumpF Obj.POOL_HELD (qdNewOwner it.desc) (hPool h) 1).finish n
                else (t.countQuota it.ctx (hPool h) q).poolReject n it h r o .failedQuota)))))) ∧
    (∀ who c first recs, Takes s who Obj.POOL_CONFIG c true →
      let new := (List.range 8).map (fun p => if first ≤ p ∧ p < first + recs.length then recs.getD (p - first) 0 else s.poolRec c p)
      let changed := (List.range 8).filter (fun p => new.getD p 0 != s.poolRec c p)
      let no := fun (code : Nat) => exec (.poolConfigWrite who c first recs) s = .next (s.answer who Obj.POOL_CONFIG c code)
      let form := ∃ p ∈ changed, s.poolBad c p (new.getD p 0) = true ∨ planesOverlap new p = true
      let used := ∃ p ∈ changed, (s.pool c p).held ≠ []
      let excess := ∃ p ∈ changed, prCount (new.getD p 0) < s.minSum c p
      (8 < first + recs.length → no Abort.LENGTH_MISMATCH) ∧
      (first + recs.length ≤ 8 → form → no Abort.POOL_FORMAT) ∧
      (first + recs.length ≤ 8 → ¬form → used → no Abort.POOL_IN_USE) ∧
      (first + recs.length ≤ 8 → ¬form → ¬used → excess → no Abort.QUOTA_OVERCOMMIT) ∧
      (first + recs.length ≤ 8 → ¬form → ¬used → ¬excess → exec (.poolConfigWrite who c first recs) s
        = .next ((changed.foldl (fun s p => s.poolRebuild c p (new.getD p 0)) s).answer who Obj.POOL_CONFIG c 0))) ∧
    (∀ who r c mn mx, Takes s who Obj.POOL_REQUESTER r false →
      let denied := ∃ n, who = .tenant n ∧ (s.tenantOf n (s.reqContext r) = false ∨ (c ≠ 0xFF ∧ s.tenantOf n c = false))
      let t := s.setFields Obj.POOL_REQUESTER r
        (c :: ((List.range 8).map (fun i => mn.getD i 0 % 2 ^ 32) ++ (List.range 8).map (fun i => mx.getD i 0 % 2 ^ 32)))
      let held := c ≠ s.reqContext r ∧ ∃ p, p < 8 ∧ 0 < s.reqHeld r p
      let excess := c ≠ 0xFF ∧ ∃ p, p < 8 ∧ prCount (s.poolRec c p) < t.minSum c p
      let no := fun (code : Nat) => exec (.poolRequesterWrite who r c mn mx) s = .next (s.answer who Obj.POOL_REQUESTER r code)
      (denied → no Abort.ACCESS_DENIED) ∧
      (¬denied → 15 < c → c ≠ 0xFF → no Abort.VALUE_RANGE) ∧
      (¬denied → c < 16 ∨ c = 0xFF → held → no Abort.POOL_IN_USE) ∧
      (¬denied → c < 16 ∨ c = 0xFF → ¬held → excess → no Abort.QUOTA_OVERCOMMIT) ∧
      (¬denied → c < 16 ∨ c = 0xFF → ¬held → ¬excess →
        exec (.poolRequesterWrite who r c mn mx) s = .next (t.answer who Obj.POOL_REQUESTER r 0)))

/-- The placement of ROUTE (07_expert_routing R203, R205): every assignment goes to one of its token's ranked experts, which takes tokens
and is available, in a slot below its quota; the slots that an expert gives out follow one another from 0. -/
def Obligations.RoutingKeepsQuotas : Prop :=
  ∀ (pl : List Placement) (off : List Nat) (k : Nat) (gs : List (Nat × Gate)),
    let b := placeAll pl off k gs
    (∀ a ∈ b.placed, ∃ p, pl[a.expert]? = some p ∧ p.takes = true ∧ p.gid ∉ off ∧ a.slot < p.quota ∧ a.rank < k) ∧
    (∀ e, (b.placed.filter (fun a => a.expert == e)).map (fun a => a.slot) = List.range (tget 0 b.used e)) ∧
    (∀ a ∈ b.placed, ∃ g order row, (a.token, g) ∈ gs ∧ g = .ranked order row ∧ a.expert ∈ order)

/-- The router's eight operations (07_expert_routing R199-R225, 08_backward_and_training R229-R235). A descriptor that fails a check is
refused; one of a cancelled micro-batch completes CANCELLED, and one that would have sent sends close markers alone; a ROUTE whose marks
find no room in the ledger fails with what waits in its slot; any other runs. CONSUME, COMBINE and their backward forms finish; ROUTE,
RETURN and theirs stage one output for their window, dispatch on VC1. No other item changes, but for writes of its own that are found lost,
nor any queue, facet or fabric state.
It rests on model choices: notes/assumptions/6, notes/assumptions/22, notes/assumptions/23, notes/assumptions/76. -/
def Obligations.RouterOperationsRun : Prop :=
  ∀ (s : State) (n : Nat),
    ∀ e ∈ [(0x40, Instr.route n), (0x41, .consume n), (0x42, .return n), (0x43, .combine n), (0x44, .bwdRoute n),
        (0x45, .bwdConsume n), (0x46, .bwdReturn n), (0x47, .bwdCombine n)],
      ((∀ it, s.item? n = some it → it.isDone = true ∨ s.mayStart it = false ∨ descOpcode it.desc ≠ e.1) → exec e.2 s = .next s) ∧
      ∀ it, s.item? n = some it → it.isDone = false → s.mayStart it = true → descOpcode it.desc = e.1 →
        let b := s.start n
        (b.routerCheck it ≠ 0 → exec e.2 s = .next (b.refuseRouter n it.ctx (b.routerCheck it))) ∧
        (∀ pl t w, b.routerCheck it = 0 → b.routerWindow it = some w →
          (if e.1 = 0x40 then b.placements n it (List.range (rdExperts it.desc)) else ([], b)) = (pl, t) →
          (pl.any (placementBad it.desc) = true → exec e.2 s = .next (t.refuseRouter n it.ctx 0x08)) ∧
          (pl.any (placementBad it.desc) = false → t.isCancelled it.ctx (rdMicro it.desc) = true →
            exec e.2 s = .next ((if routerSends e.1 then t.stageCloses it w else t).finishWith n .cancelled)) ∧
          (pl.any (placementBad it.desc) = false → t.isCancelled it.ctx (rdMicro it.desc) = false → e.1 = 0x40 →
            ∀ v, (t.scanSwitches it.ctx pl).routeMarks it pl = (false, v) →
              exec e.2 s = .next ((v.failWaiting n it).haltPlan it.ctx haltFail it.slot)) ∧
          (pl.any (placementBad it.desc) = false → t.isCancelled it.ctx (rdMicro it.desc) = false →
            (e.1 = 0x40 → ((t.scanSwitches it.ctx pl).routeMarks it pl).1 = true) →
            ∃ u met, exec e.2 s = .next u ∧ (∀ m, m ≠ n → ItemKept s u m) ∧ (s.memWf → u.memWf)
              ∧ u.item? n = (if routerSends e.1 then (b.item? n).map (fun x => { x with met := met })
                  else some { it with met := met, phase := .done (Status.report met) .notApplied })
              ∧ (∃ recs after, u.outgoing = s.outgoing ++ (if routerSends e.1
                  then [{ ctx := it.ctx, step := it.step, slot := it.slot, window := w, item := some n, recs := recs, after := after,
                          vc := if e.1 = 0x40 ∨ e.1 = 0x44 then some 1 else none }] else []))
              ∧ u = { s with objs := u.objs, hbm := u.hbm, fm := u.fm, log := u.log, pins := u.pins, out := u.out, freeCtr := u.freeCtr,
                             items := u.items, plans := u.plans, router := u.router, pools := u.pools, outgoing := u.outgoing }))

/-- The router's records, CLOSE_MARKER_RECEIVE, WINDOW_OUTPUT_SEND and ROUTER_CANCEL_WRITE (07_expert_routing R209, R215, R219, R221,
02_beat_and_time R61, R62, R66). A record of a window that the device takes now, from one of its sources, is counted with its
contribution and judged by what it is; one of a dropped contribution is discarded and counted with its engine; any other counts as stale
when it is a return, and else as a protocol error.
It rests on model choices: notes/assumptions/48, notes/assumptions/154. -/
def Obligations.WindowRecordsArrive : Prop :=
  ∀ (s : State) (node vc : Nat),
    (∀ e ∈ [(Instr.dispatchRecordArrive node vc, dispatchKind false, fun (s : State) c w h b => s.dispatchArrive c w false h b),
        (.bwdDispatchRecordArrive node vc, dispatchKind true, fun s c w h b => s.dispatchArrive c w true h b),
        (.returnRecordArrive node vc, (fun h => h.kind == 1 && !h.back), fun s c w h b => s.returnArrive c w false h b),
        (.bwdReturnRecordArrive node vc, (fun h => h.kind == 1 && h.back), fun s c w h b => s.returnArrive c w true h b)],
      (s.takeInbox node vc (fun d => s.routersRecord d e.2.1) = none → exec e.1 s = .next s) ∧
      ∀ d t, s.takeInbox node vc (fun d => s.routersRecord d e.2.1) = some (d, t) →
        let h := recordHeader d.bytes
        let away := exec e.1 s = .next (t.bump (if h.kind = 1 then Obj.ROUTER_STALE_COUNT else Obj.ROUTER_PROTOCOL_COUNT) d.ctx)
        ((t.plan d.ctx).image = none → away) ∧
        ∀ im, (t.plan d.ctx).image = some im →
          (im.windowOfTag h.tag = none → away) ∧
          ∀ w x, im.windowOfTag h.tag = some (w, x) →
            (t.takesStep d.ctx h.step = false ∨ (im.sources x).contains h.source = false → away) ∧
            (t.takesStep d.ctx h.step = true → (im.sources x).contains h.source = true → ∀ v,
              (t.contribRecord d.ctx h.step w h.source = (true, v) → exec e.1 s = .next (e.2.2 v d.ctx w h d.bytes)) ∧
              (t.contribRecord d.ctx h.step w h.source = (false, v) → exec e.1 s = .next (v.countLateRecord d.ctx w)))) ∧
    (∀ c e r h b, r.unplaced = false → r.filled ≠ [] → s.placeRecord c e r h b
      = (s.bufferWrite 4 c (r.base + h.slot * slotBytes (rdFmt e.desc) (rdBlock e.desc) (rdHidden e.desc)) b).setRing
          { r with filled := nsInsert r.filled h.slot }) ∧
    (s.takeInbox node vc (fun d => s.routersRecord d (fun h => h.kind == 2 && h.slot == 1)) = none →
      exec (.drainCompleteReceive node vc) s = .next s) ∧
    (∀ d t, s.takeInbox node vc (fun d => s.routersRecord d (fun h => h.kind == 2 && h.slot == 1)) = some (d, t) →
      let h := recordHeader d.bytes
      exec (.drainCompleteReceive node vc) s = .next (t.drained d.ctx h.expert h.source h.epoch)
        ∧ (t.drained d.ctx h.expert h.source h.epoch).drainedEpoch d.ctx h.expert h.epoch = true) ∧
    (s.takeInbox node vc (fun d => d.close) = none → exec (.closeMarkerReceive node vc) s = .next s) ∧
    (∀ d t, s.takeInbox node vc (fun d => d.close) = some (d, t) →
      let m := ofBE d.bytes
      let step := field m 96 32
      let rank := field m 66 14
      ((∀ im, (t.plan d.ctx).image = some im → ∀ w x, im.windowOfTag (field m 80 16) = some (w, x) →
          t.takesStep d.ctx (step % 65536) = false ∨ (im.sources x).contains rank = false) →
        exec (.closeMarkerReceive node vc) s = .next t) ∧
      ∀ im w x, (t.plan d.ctx).image = some im → im.windowOfTag (field m 80 16) = some (w, x) →
        t.takesStep d.ctx (step % 65536) = true → (im.sources x).contains rank = true →
        let k := t.contrib d.ctx step w rank
        exec (.closeMarkerReceive node vc) s = .next (if k.arrival = .droppedLate then t.countLateRecord d.ctx w
          else if k.closed.isSome = true then t
          else ((t.setContrib d.ctx step w rank { k with closed := some (field m 32 32), absent := bit m 0 }).judgeContrib
            d.ctx step w rank).followAbsent d.ctx step w rank)) ∧
    (∀ c slot, (∀ x ∈ s.outgoing, x.ctx ≠ c ∨ x.slot ≠ slot ∨ s.windowOpen x = false) → exec (.windowOutputSend c slot) s = .next s) ∧
    (∀ c slot a o b, s.outgoing = a ++ o :: b → (∀ x ∈ a, x.ctx ≠ c ∨ x.slot ≠ slot ∨ s.windowOpen x = false) →
      o.ctx = c → o.slot = slot → s.windowOpen o = true →
      exec (.windowOutputSend c slot) s = .next ((s.setOutgoing (a ++ b)).sendOutput o)) ∧
    (∀ who c mask, Takes s who Obj.ROUTER_CANCEL c true →
      exec (.routerCancelWrite who c mask) s
        = .next (((bitsOf 64 mask).foldl (fun s m => s.cancelMicro c m) s).answer who Obj.ROUTER_CANCEL c 0) ∧
      (∀ m, s.isCancelled c m = true → s.cancelMicro c m = s) ∧
      (∀ m, s.isCancelled c m = false → m < 64 → (∀ x ∈ s.items, x.2.routerOf c m = false) → s.router.bufs = [] →
        s.cancelMicro c m = (s.setRouter { s.router with cancelled := tset s.router.cancelled c (tget 0 s.router.cancelled c ||| (1 <<< m)) }).setRegF
          Obj.ROUTER_BATCH_EPOCH c m ((s.batchEpoch c m + 1) % 256)))

/-- The phases of a collective (09_collectives R260, R263-R265, R274-R277). The engine takes a descriptor that passes the checks, once
for each phase of a window. A SEND stages one output for its window, with one record list for each receiving rank; a zero-count
marker is sent as a marker alone. A RELAY consumes its first window and stages one output for its second; a FINISH consumes its
window and completes. What was staged for a consumed window is gone, and no queue or facet changes, nor any other item, but for writes of
its own that are found lost.
It rests on model choices: notes/assumptions/6, notes/assumptions/24, notes/assumptions/25, notes/assumptions/26, notes/assumptions/76. -/
def Obligations.CollectivesRunTheirPhases : Prop :=
  ∀ (s : State) (n : Nat),
    let taking := [(0x50, Instr.reduce n), (0x51, .reduceScatter n), (0x52, .allReduce n), (0x53, .allGather n), (0x54, .allToAll n),
        (0x56, .merge n), (0x57, .mergeAll n)]
    let phases := [(phSend, Instr.collSend n), (phRelay, .collRelay n), (phFinish, .collFinish n)]
    (∀ e ∈ taking, (∀ it, s.item? n = some it → it.isDone = true ∨ s.mayStart it = false ∨ descOpcode it.desc ≠ e.1) → exec e.2 s = .next s) ∧
    (∀ e ∈ phases, (∀ it, s.item? n = some it → it.isDone = true ∨ s.mayStart it = false ∨ descOpcode it.desc ∉ taking.map (·.1)) →
      exec e.2 s = .next s) ∧
    ∀ it, s.item? n = some it → it.isDone = false → s.mayStart it = true →
    let Frame := fun (u : State) => (∀ m, m ≠ n → ItemKept s u m) ∧ (s.memWf → u.memWf)
      ∧ u = { s with objs := u.objs, hbm := u.hbm, fm := u.fm, log := u.log, pins := u.pins, out := u.out, freeCtr := u.freeCtr,
                     items := u.items, plans := u.plans, router := u.router, pools := u.pools, coll := u.coll, outgoing := u.outgoing }
    let Gone := fun (u : State) w => (∀ x ∈ u.coll.nodes, x.of it.ctx it.step w = false)
      ∧ (∀ x ∈ u.coll.sources, ¬ (x.ctx = it.ctx ∧ x.step = it.step % 65536 ∧ x.window = w))
    (∀ e ∈ taking, descOpcode it.desc = e.1 →
      let b := s.start n
      (n ∈ s.coll.begun → exec e.2 s = .next b) ∧
      (n ∉ s.coll.begun → b.collCheck it ≠ 0 → exec e.2 s = .next (b.refuseColl n it.ctx (b.collCheck it))) ∧
      (n ∉ s.coll.begun → b.collCheck it = 0 → exec e.2 s = .next (b.setColl { b.coll with
        phases := b.coll.phases ++ ((b.collWindows it).filterMap id).map (fun w => ⟨it.ctx, it.step % 65536, w, cdPhase it.desc, plainDesc it.desc⟩),
        begun := b.coll.begun ++ [n] }))) ∧
    (descOpcode it.desc ∈ taking.map (·.1) →
      (∀ e ∈ phases, n ∉ s.coll.begun ∨ cdPhase it.desc ≠ e.1 → exec e.2 s = .next (s.start n)) ∧
      (n ∈ s.coll.begun →
      let b := (s.start n).setColl { s.coll with begun := s.coll.begun.filter (· != n) }
      (∀ w g, cdPhase it.desc = phSend → (b.slotWindows it).2 = some w → b.geoOf it.ctx it.desc w = some g →
        let ranks := g.targets.map (fun q => g.ranks.getD q 0)
        ∃ u met recs absent, exec (.collSend n) s = .next u ∧ Frame u
          ∧ u.item? n = (b.item? n).map (fun x => { x with met := met }) ∧ n ∉ u.coll.begun
          ∧ u.outgoing = s.outgoing ++
              [{ ctx := it.ctx, step := it.step, slot := it.slot, window := w, item := some n,
                 recs := recs, ranks := some ranks, absent := absent }]
          ∧ ((b.countWord n it).1.2 = true → recs = ranks.map (fun r => (r, collRecord (g.header it.step 0 1) [])))) ∧
      (∀ wi wo g g2, cdPhase it.desc = phRelay → b.slotWindows it = (some wi, some wo) → b.geoOf it.ctx it.desc wi = some g →
        b.geoOf it.ctx it.desc wo = some g2 →
        ∃ u met recs absent, exec (.collRelay n) s = .next u ∧ Frame u
          ∧ u.item? n = (b.item? n).map (fun x => { x with met := met }) ∧ Gone u wi
          ∧ u.outgoing = s.outgoing ++
              [{ ctx := it.ctx, step := it.step, slot := it.slot, window := wo, item := some n,
                 recs := recs, ranks := some g2.ranks, absent := absent }]) ∧
      (∀ w g, cdPhase it.desc = phFinish → (b.slotWindows it).1 = some w → b.geoOf it.ctx it.desc w = some g →
        ∃ u met, exec (.collFinish n) s = .next u ∧ Frame u
          ∧ u.item? n = some { it with met := met, phase := .done (Status.report met) .notApplied }
          ∧ Gone u w ∧ u.outgoing = s.outgoing) ∧
      (cdPhase it.desc = phSend → (∀ w, (b.slotWindows it).2 = some w → b.geoOf it.ctx it.desc w = none) → exec (.collSend n) s = .next b) ∧
      (cdPhase it.desc = phRelay → (∀ wi wo, b.slotWindows it = (some wi, some wo) →
        b.geoOf it.ctx it.desc wi = none ∨ b.geoOf it.ctx it.desc wo = none) → exec (.collRelay n) s = .next b) ∧
      (cdPhase it.desc = phFinish → (∀ w, (b.slotWindows it).1 = some w → b.geoOf it.ctx it.desc w = none) →
        exec (.collFinish n) s = .next b))) ∧
    (∀ node vc, s.takeInbox node vc s.engineRecord = none → exec (.contributionRecordArrive node vc) s = .next s) ∧
    (∀ node vc dl t, s.takeInbox node vc s.engineRecord = some (dl, t) →
      let h := collHeaderAt (ofLE (dl.bytes.take 32))
      ((∀ im, (t.plan dl.ctx).image = some im → ∀ w x, im.windowOfTag h.id = some (w, x) →
          t.takesStep dl.ctx h.step = false ∨ (im.sources x).contains h.source = false
            ∨ (im.consumers w).any (fun e => e.2.opClass == 4) = false) →
        exec (.contributionRecordArrive node vc) s = .next (t.bump Obj.COLL_DISCARD_COUNT dl.ctx)) ∧
      ∀ im w x, (t.plan dl.ctx).image = some im → im.windowOfTag h.id = some (w, x) → t.takesStep dl.ctx h.step = true →
        (im.sources x).contains h.source = true → (im.consumers w).any (fun e => e.2.opClass == 4) = true →
        (t.contribDropped dl.ctx h.step w h.source = true →
          exec (.contributionRecordArrive node vc) s = .next (t.bump Obj.COLL_DISCARD_COUNT dl.ctx)) ∧
        (t.contribDropped dl.ctx h.step w h.source = false →
          exec (.contributionRecordArrive node vc) s = .next (match t.collStage dl.ctx w h dl.bytes with
            | (true, v) => (v.contribRecord dl.ctx h.step w h.source).2
            | (false, _) => s)))

/-- TREE_JOIN and TOPK_SELECT (09_collectives R266, R267, R271, R272, R277). Two children whose parts of the segment have come are joined
into their node, in the left child's buffer, and a unit that was uncorrectable in a child is so in the node; an absent sibling lets a child
move up. Integer joins give the same words in any order. The selection takes nonzero entries alone, as many as are kept, none below one
that it leaves.
It rests on model choices: notes/assumptions/6, notes/assumptions/76. -/
def Obligations.TreeJoinsAndSelection : Prop :=
  (∀ (s t : State) (c w seg col lo size step d : Nat) (g : Geo) (x : Seg),
    (s.openStep c = none ∨ (s.collDesc c w).1 = none → exec (.treeJoin c w seg col lo size) s = .next s) ∧
    (s.openStep c = some step → s.collDesc c w = (some d, t) →
      (t.geoOf c d w = none → exec (.treeJoin c w seg col lo size) s = .next t) ∧
      (t.geoOf c d w = some g →
        let found := (g.segs (g.lands g.pos)).find? (fun x => x.index == seg && x.col == col)
        (found = none → exec (.treeJoin c w seg col lo size) s = .next t) ∧
        (found = some x →
          let absent := fun (a n : Nat) => ∀ q, a ≤ q → q < a + n → q < g.size → t.posState c step w g q = .absent
          let ready := ∀ q, lo ≤ q → q < lo + size → q < g.size → t.posState c step w g q = .absent ∨ t.covered c step w x q = true
          let joins := g.copies = false ∧ cdMerges d = false ∧ t.sequential c g = false ∧ isPow2 size = true ∧ 2 ≤ size ∧ lo % size = 0
            ∧ ready ∧ t.node? c step w x lo size = none
          let left := t.node? c step w x lo (size / 2)
          let right := t.node? c step w x (lo + size / 2) (size / 2)
          let In := fun (u : State) (old : CollNode) (nd : CollNode) => nd.lo = lo ∧ nd.size = size ∧ nd.buf = old.buf ∧ nd.seg = old.seg
            ∧ nd.col = old.col ∧ (∀ m, ItemKept t u m) ∧ u.queues = t.queues ∧ u.facets = t.facets
          (¬joins → exec (.treeJoin c w seg col lo size) s = .next t) ∧
          (joins →
            (∀ l r, left = some l → right = some r →
              ∃ u nd, exec (.treeJoin c w seg col lo size) s = .next u ∧ u.coll.nodes = (t.coll.nodes.filter (· != r)).filter (· != l) ++ [nd]
                ∧ In u l nd
                ∧ (∀ a b t' t'', t.nodeVal g x l = (a, t') → t'.nodeVal g x r = (b, t'') →
                    nd.low = min a.low b.low ∧ ∀ k, k ∈ nd.spoiled ↔ k < g.units x ∧
                      ∃ e f, a.units[k]? = some e ∧ b.units[k]? = some f ∧ (e.bad = true ∨ f.bad = true))) ∧
            (∀ l, (left = some l ∧ right = none ∧ absent (lo + size / 2) (size / 2)) ∨ (left = none ∧ right = some l ∧ absent lo (size / 2)) →
              ∃ u nd, exec (.treeJoin c w seg col lo size) s = .next u ∧ u.coll.nodes = t.coll.nodes.filter (· != l) ++ [nd] ∧ In u l nd) ∧
            ((left = none ∨ ¬absent (lo + size / 2) (size / 2)) → (right = none ∨ ¬absent lo (size / 2)) → (left = none ∨ right = none) →
              exec (.treeJoin c w seg col lo size) s = .next t)))))) ∧
  (∀ d a b c : Nat, cdElem d ∈ [3, 4, 5] → cdRedop d ≤ 2 → a < 2 ^ (8 * elemBytes d) → b < 2 ^ (8 * elemBytes d) →
    c < 2 ^ (8 * elemBytes d) → joinWord d a b = joinWord d b a ∧ joinWord d (joinWord d a b) c = joinWord d a (joinWord d b c)) ∧
  (∀ (s : State) (n : Nat), (∀ it, s.item? n = some it → it.isDone = true ∨ s.mayStart it = false ∨ descOpcode it.desc ≠ 0x55) →
    exec (.topkSelect n) s = .next s) ∧
  (∀ (s : State) (n : Nat) (it : Item), s.item? n = some it → it.isDone = false → s.mayStart it = true → descOpcode it.desc = 0x55 →
    let b := s.start n
    (b.collCheck it ≠ 0 → exec (.topkSelect n) s = .next (b.refuseColl n it.ctx (b.collCheck it))) ∧
    (b.collCheck it = 0 → ∃ u met, exec (.topkSelect n) s = .next u ∧ (∀ m, m ≠ n → ItemKept s u m) ∧ (s.memWf → u.memWf)
      ∧ u.item? n = some { it with met := met, phase := .done (Status.report met) .notApplied }
      ∧ (∀ (o : ObjDef) (sub i : Nat), o.index ∉ streamCounters → u.regF o sub i = s.regF o sub i)
      ∧ u = { s with objs := u.objs, hbm := u.hbm, fm := u.fm, log := u.log, pins := u.pins, out := u.out, freeCtr := u.freeCtr,
                     items := u.items })) ∧
  (∀ (k : Nat) (es : List RunEntry), (es.map (·.1)).Nodup →
    let live := es.filter (fun e => e.2.any (fun v => v % 2 ^ 31 != 0))
    (topkChoice k es).Sublist live ∧ (topkChoice k es).length = min k live.length ∧
    ∀ e ∈ topkChoice k es, ∀ x ∈ live, x ∉ topkChoice k es → topkKey x.2 < topkKey e.2 ∨ (topkKey x.2 = topkKey e.2 ∧ e.1 < x.1))

/-- Spoke control and training (10_lattices_and_mapping R281, R284, 11_spokes R298-R300, R306, R321-R325). A spoke that
leaves service has no lanes, no peer, no keys and nothing to send. Training goes lane lock, FEC lock, identity exchange, keys; a
miswired or refused peer holds the spoke out of service until RESET, and a timeout starts training again. What comes where it has no
place in this order changes nothing.
It rests on model choices: notes/assumptions/81, notes/assumptions/159, notes/assumptions/160, notes/assumptions/171. -/
def Obligations.SpokesTrainStepByStep : Prop :=
  ∀ (s : State) (p : Nat), p < 18 →
    let x := s.spoke p
    let st := s.spokeState p
    let offer := fun (lanes : Nat) => OrderedSet.training
      { node := s.node, epoch := s.epoch, variant := s.reg Obj.PART_VARIANT 2, mode := if s.ethernet p then 1 else 0, lanes := lanes,
        step := 3 }
    (∀ st found, st ≠ spUp → st ≠ spDegraded → let u := s.closeSpoke p st found
      u.spokeState p = st ∧ u.lanes p = 0 ∧ u.reg Obj.SPOKE_PEER p = 0xFFFF ∧ (u.spoke p).replay = [] ∧ (u.spoke p).waiting = []
        ∧ (u.spoke p).sending = none ∧ (u.spoke p).txKey = none ∧ (u.spoke p).rxKey = none ∧ (u.spoke p).step = 0) ∧
    (let u := s.trainSpoke p;
      (s.node = 0xFFFF → u.spokeState p = spDisabled ∧ (u.spoke p).step = 0) ∧
      (s.node ≠ 0xFFFF → u.spokeState p = spTraining ∧ (u.spoke p).step = 1)) ∧
    (s.ethernet p = false → ∀ t, s.sendSet p (.training t)
      = (s.emit (.orderedSet p (s.lanes p) (.training t) (setWire (.training t) []))).took) ∧
    (∀ code, ∃ k, ((s.sendKeyx p code).spoke p) = { x with waiting := x.waiting ++ [k] } ∧ k.type = 4 ∧ k.vc = 0
      ∧ k.dst = s.reg Obj.SPOKE_PEER p ∧ spdmCode k = code % 256) ∧
    (∀ who, Takes s who Obj.SPOKE_CONTROL p false →
      exec (.spokeReset who p) s = .next ((s.trainSpoke p).answer who Obj.SPOKE_CONTROL p 0) ∧
      exec (.spokeDisable who p) s
        = .next ((if st = spHeld then s else s.closeSpoke p spDisabled 0xFFFF).answer who Obj.SPOKE_CONTROL p 0) ∧
      exec (.spokeEnable who p) s = .next ((if st = spDisabled ∨ st = spDown then s.trainSpoke p else s).answer
        who Obj.SPOKE_CONTROL p 0)) ∧
    (∀ lanes, exec (.spokeLaneLock p lanes) s = .next (if st = spTraining ∧ x.step = 1 ∧ s.ethernet p = false ∧ lanes % 16 ≠ 0
      then (s.setSpoke p { x with step := 2 }).setReg Obj.PLL_STATUS (20 + p) 2 else s)) ∧
    (∀ lanes, exec (.spokeFecLock p lanes) s = .next (if st = spTraining ∧ x.step = 2 ∧ lanes % 16 ≠ 0
      then ((s.setReg Obj.SPOKE_LANES_ACTIVE p (lanes % 16)).setSpoke p { x with step := 3, failedLanes := 15 - lanes % 16 }).sendSet p
        (offer (lanes % 16)) else s)) ∧
    (∀ os,
      (st ≠ spTraining ∨ x.step ≠ 3 → exec (.trainingOsReceive p os) s = .next s) ∧
      (st = spTraining → x.step = 3 → s.miswired p os.node = true →
        exec (.trainingOsReceive p os) s = .next ((s.bump Obj.TOPO_MISWIRE_COUNT 0).closeSpoke p spHeld os.node)) ∧
      (st = spTraining → x.step = 3 → s.miswired p os.node = false →
        let v := ((s.setReg Obj.SPOKE_PEER p os.node).setSpoke p { x with step := 4, credits := fullCredits }).setSpokeState p spKeying os.node
        exec (.trainingOsReceive p os) s = .next ((v.learnEpoch os.node os.epoch).sendKeyx p spOther)
          ∧ v.spokeState p = spKeying ∧ v.reg Obj.SPOKE_PEER p = os.node ∧ os.epoch ≤ (v.learnEpoch os.node os.epoch).peerEpoch os.node)) ∧
    (∀ f,
      (st ≠ spKeying → exec (.spokeKeysInstalled p f) s = .next s) ∧
      (st = spKeying → s.peerAccepted f = true → ∃ u, exec (.spokeKeysInstalled p f) s = .next u
        ∧ u.spokeState p = (if s.ethernet p || s.lanes p == 15 then spUp else spDegraded)
        ∧ (u.spoke p).txKey.isSome = true ∧ (u.spoke p).rxKey.isSome = true ∧ (u.spoke p).sentPackets = 0 ∧ (u.spoke p).step = 0
        ∧ (u.spoke p).credits = x.credits ∧ u.lanes p = s.lanes p) ∧
      (st = spKeying → s.peerAccepted f = false → exec (.spokeKeysInstalled p f) s
        = .next ((s.bump Obj.SPOKE_PEER_REFUSED_COUNT p).closeSpoke p spHeld (s.reg Obj.SPOKE_PEER p)))) ∧
    exec (.spokeTrainingTimeout p) s = .next (if st = spTraining ∨ st = spKeying then s.trainSpoke p else s) ∧
    exec (.spokeDownRetrain p) s = .next (if st = spDown then s.trainSpoke p else s) ∧
    exec (.ethLinkUp p) s = .next (if s.ethernet p = true ∧ st = spTraining
      then ((s.setReg Obj.SPOKE_LANES_ACTIVE p 15).setSpoke p { x with step := 3 }).sendSet p (offer 15) else s) ∧
    exec (.ethLinkDown p) s = .next (if s.ethernet p = true ∧ st ∈ [spUp, spDegraded, spKeying, spTraining] then s.spokeDown p else s) ∧
    exec (.spokeRekeyTrigger p) s = .next (if s.spokeUp p = true ∧ x.txKey.isSome = true ∧ x.rekeying = false
      then (s.setSpoke p { x with rekeying := true }).sendKeyx p spKeyUpdate else s) ∧
    exec (.keyPhaseGraceEnd p) s = .next (s.setSpoke p (match s.ethernet p, x.rxNext with
      | true, some key => { x with rxKey := some key, rxNext := none, rxOld := none, rxPhase := !x.rxPhase }
      | _, _ => { x with rxOld := none }))

/-- The link layer of a spoke (11_spokes R298, R301-R306, R308, R320, R325). The expected flit is taken and the next is then
expected; one that lies behind is dropped; one that lies ahead asks once for a retry, and a bad block each time. A flit that
leaves takes the next sequence number and stays in the replay buffer until LACK covers it; a retry sends it again. Failed lanes
leave by a proposal and its echo. The copies of an ordered set that fail their tags are counted, and the first good one acts. A spoke that
carries no traffic takes and sends nothing.
It rests on model choices: notes/assumptions/80, notes/assumptions/81, notes/assumptions/160, notes/assumptions/161,
notes/assumptions/167. -/
def Obligations.LinkBlocksMoveFlits : Prop :=
  ∀ (s : State) (p : Nat), p < 18 →
    let x := s.spoke p
    let after := fun (copies : List Bool) => (copies.takeWhile (fun b => !b)).foldl (fun s _ => s.authFail p) s
    let again := fun (f : Flit) => Emit.block p (.flit f) (blockWire (.flit f))
    (s.linkUp p = false ∨ s.ethernet p = true →
      (∀ b check tagOk, exec (.flitReceive p b check tagOk) s = .next s) ∧
      (∀ lseq copies, exec (.linkRetryReceive p lseq copies) s = .next s)) ∧
    (s.linkUp p = true → s.ethernet p = false → ∀ check tagOk,
      let good := check.crcOk = true ∧ check.fec.isSome = true
      let c := match check.fec with | some n => s.bump Obj.SPOKE_FEC_CORRECTED p n | none => s.bump Obj.SPOKE_FEC_UNCORRECTED p
      (∀ h, exec (.flitReceive p (.idle h) check tagOk) s = .next (if good then c.setSpoke p (x.header h) else c)) ∧
      (∀ f, let phase := if f.piece = 0 then f.keyPhase else x.packetPhase
        let b := c.setSpoke p { x.header f.header with
          rxLseq := (x.rxLseq + 1) % 4096, retrying := false, asked := 0, lackValid := true, packetPhase := phase }
        (¬good → exec (.flitReceive p (.flit f) check tagOk) s = .next (c.askRetry p)) ∧
        (good → f.lseq = x.rxLseq → exec (.flitReceive p (.flit f) check tagOk) s
          = .next (if f.piece + 1 = packetFlits f.packet then b.packetWhole p f.packet phase tagOk else b)) ∧
        (good → f.lseq ≠ x.rxLseq → exec (.flitReceive p (.flit f) check tagOk) s
          = .next (if lseqBehind f.lseq x.rxLseq = true ∨ x.retrying = true then c else c.askRetry p)))) ∧
    (s.ethernet p = false → let u := s.askRetry p
      ∃ wire, u.spoke p = { x with retrying := true, asked := x.asked + 1 }
        ∧ u.out = s.out ++ [.orderedSet p (s.lanes p) (.linkRetry x.rxLseq) wire] ∧ SameRegs s u [Obj.SPOKE_REPLAY_COUNT.key p]) ∧
    (∀ (x : Spoke) (h : LinkHeader), (∀ f, f ∈ (x.header h).replay ↔ f ∈ x.replay ∧ ∀ l, h.lack = some l → f.lseq ≠ l ∧ lseqBehind f.lseq l = false)
      ∧ (0 < h.creditCount → tget 0 (x.header h).credits (h.creditVc * 12 + h.creditClass)
          = tget 0 x.credits (h.creditVc * 12 + h.creditClass) + h.creditCount)) ∧
    (s.linkUp p = false ∨ x.paused = true → exec (.flitTransmit p) s = .next s) ∧
    (s.linkUp p = true → x.paused = false → s.ethernet p = false →
      (∀ k i, x.replay.length < 1024 → x.sending = some (k, i) ∨ (x.sending = none ∧ i = 0 ∧ s.pick p = some k) →
        ∃ u f, exec (.flitTransmit p) s = .next u ∧ u.out = s.out ++ [again f] ∧ f.lseq = x.txLseq ∧ f.piece = i
          ∧ f.packet = k ∧ f.header.lack = (if x.lackValid then some ((x.rxLseq + 4095) % 4096) else none)
          ∧ f.payload = flitPart (if x.sending.isSome then x.sealed else s.sealed p k) i ∧ (u.spoke p).replay = x.replay ++ [f]
          ∧ (u.spoke p).txLseq = (x.txLseq + 1) % 4096
          ∧ (u.spoke p).sending = (if i + 1 = packetFlits k then none else some (k, i + 1))) ∧
      (1024 ≤ x.replay.length ∨ (x.sending = none ∧ s.pick p = none) →
        exec (.flitTransmit p) s
          = .next ((s.setSpoke p x.nextHeader.2).emit (.block p (.idle x.nextHeader.1) (blockWire (.idle x.nextHeader.1)))))) ∧
    (s.linkUp p = true → x.paused = false → s.ethernet p = true →
      (s.pick p = none → exec (.flitTransmit p) s = .next s) ∧
      (∀ k, s.pick p = some k → ∃ u frame, exec (.flitTransmit p) s = .next u ∧ u.out = s.out ++ [.datagram p k frame]
        ∧ (x.sentPackets + 1 < 2 ^ 40 → (u.spoke p).waiting = takeOut k x.waiting))) ∧
    (s.linkUp p = true → s.ethernet p = false → ∀ lseq copies, let b := after copies
      (copies.contains true = false ∨ b.linkUp p = false → exec (.linkRetryReceive p lseq copies) s = .next b) ∧
      (copies.contains true = true → b.linkUp p = true → let y := b.spoke p
        ∃ u, exec (.linkRetryReceive p lseq copies) s = .next u
          ∧ u.spoke p = { y with
              retryLseq := lseq, retryCount := if y.retryLseq = lseq ∧ y.retryCount ≠ 0 then y.retryCount + 1 else 1 }
          ∧ (y.paused = true → u.out = b.out)
          ∧ (y.paused = false → s.fm.flaws = [] → s.fm.dead = [] →
              u.out = b.out ++ (y.replay.filter (fun f => !(lseqBehind f.lseq lseq))).map again))) ∧
    exec (.linkRetryLimit p) s
      = .next (if s.linkUp p = true ∧ (8 ≤ x.retryCount ∨ 8 ≤ x.asked) then s.spokeDown p else s) ∧
    (s.spokeUp p = false ∨ s.ethernet p = true → (∀ lane, exec (.laneFail p lane) s = .next s) ∧
      ∀ lanes n echo copies, exec (.degradeReceive p lanes n echo copies) s = .next s) ∧
    (s.spokeUp p = true → s.ethernet p = false →
      (∀ lane, lane < 4 →
        let b := (s.setSpoke p { x with failedLanes := x.failedLanes ||| (1 <<< lane) }).stopRetunes p
        (bit (s.lanes p) lane = false → exec (.laneFail p lane) s = .next s) ∧
        (bit (s.lanes p) lane = true → b.goodLanes p = 0 →
          exec (.laneFail p lane) s = .next ((b.bump Obj.SPOKE_DEGRADE_COUNT p).spokeDown p)) ∧
        (bit (s.lanes p) lane = true → b.goodLanes p ≠ 0 → ∃ u n wire, exec (.laneFail p lane) s = .next u
          ∧ (u.spoke p).proposal = some (b.goodLanes p, n)
          ∧ u.out = b.out ++ [.orderedSet p (s.lanes p) (.degrade (b.goodLanes p) n false) wire])) ∧
      (∀ lanes n copies, let b := after copies
        let mask := lanes &&& b.goodLanes p
        (copies.contains true = false ∨ b.linkUp p = false → ∀ echo, exec (.degradeReceive p lanes n echo copies) s = .next b) ∧
        (copies.contains true = true → b.linkUp p = true →
          exec (.degradeReceive p lanes n false copies) s = .next ((b.sendSet p (.degrade mask n true)).agreeLanes p mask) ∧
          exec (.degradeReceive p lanes n true copies) s
            = .next (if (b.spoke p).proposal.any (fun q => q.2 == n) then b.agreeLanes p lanes else b)))) ∧
    (∀ lanes, (s.lanes p ||| x.readmit) &&& lanes ≠ 0 →
      (s.agreeLanes p lanes).lanes p = (s.lanes p ||| x.readmit) &&& lanes ∧ ((s.agreeLanes p lanes).spoke p).paused = true) ∧
    (s.spokeUp p = false ∨ x.paused = false → exec (.laneDeskewDone p) s = .next s) ∧
    (s.spokeUp p = true → x.paused = true → ∃ u, exec (.laneDeskewDone p) s = .next u ∧ u.spoke p = { x with paused := false }
      ∧ u.spokeState p = (if s.lanes p = 15 then spUp else spDegraded)
      ∧ (s.fm.flaws = [] → s.fm.dead = [] → ∃ l, u.out = s.out ++ l ++ x.replay.map again)) ∧
    (∀ node epoch reason copies, let b := after copies
      (s.spokeUp p = false → exec (.resetNoticeReceive p node epoch reason copies) s = .next s) ∧
      (s.spokeUp p = true → copies.contains true = false ∨ b.linkUp p = false →
        exec (.resetNoticeReceive p node epoch reason copies) s = .next b) ∧
      (s.spokeUp p = true → copies.contains true = true → b.linkUp p = true →
        exec (.resetNoticeReceive p node epoch reason copies) s = .next (((b.log!
          { code := 0x080, sub := 9, inst := p, info0 := node, info1 := epoch + place reason 32 8 }).loseNode node epoch).spokeDown p)))

/-- LATTICE_ROUTE_WRITE and RANK_MAP_COMMIT (10_lattices_and_mapping R286, R289, R290). A well-formed entry is stored and no other; a
staged map takes effect at once or waits for its step, when the snapshot that was committed becomes the active map and this
device's rank is the one whose entry names it.
It rests on model choices: notes/assumptions/87, notes/assumptions/129. -/
def Obligations.RoutesAndRankMapsTakeEffect : Prop :=
  ∀ (s : State) (who : Who),
    (∀ lat v, Takes s who Obj.LATTICE_ROUTE 0 false → 256 ≤ lat ∨ 2 ^ 64 ≤ v →
      exec (.latticeRouteWrite who lat v) s = .next (s.answer who Obj.LATTICE_ROUTE 0 Abort.VALUE_RANGE)) ∧
    (∀ c v, Takes s who Obj.RANK_MAP_COMMIT c true → 2 ^ 32 ≤ v →
      exec (.rankMapCommit who c v) s = .next (s.answer who Obj.RANK_MAP_COMMIT c Abort.VALUE_RANGE)) ∧
    (∀ lat v, Takes s who Obj.LATTICE_ROUTE 0 false → lat < 256 → v < 2 ^ 64 →
      (s.routeBad v = true → exec (.latticeRouteWrite who lat v) s = .next (s.answer who Obj.LATTICE_ROUTE 0 Abort.ROUTE_ENTRY_FORMAT)) ∧
      (s.routeBad v = false → ∃ u : State, exec (.latticeRouteWrite who lat v) s = .next (u.answer who Obj.LATTICE_ROUTE 0 0)
        ∧ u.route lat = v ∧ (∀ j, j ≠ lat → u.route j = s.route j) ∧ SameRegs s u [Obj.LATTICE_ROUTE.key 0] ∧ u = { s with objs := u.objs })) ∧
    (∀ c v, Takes s who Obj.RANK_MAP_COMMIT c true → v < 2 ^ 32 →
      (s.commitRefusal c v ≠ 0 →
        exec (.rankMapCommit who c v) s = .next (s.answer who Obj.RANK_MAP_COMMIT c (s.commitRefusal c v))) ∧
      (s.commitRefusal c v = 0 → v = 0xFFFFFFFF → ∃ u : State, exec (.rankMapCommit who c v) s = .next (u.answer who Obj.RANK_MAP_COMMIT c 0)
        ∧ tfind u.objs (Obj.RANK_MAP_ACTIVE.key c) = some (s.stagedMap c) ∧ u.rank c = s.ownRank (s.stagedMap c)
        ∧ u.reg Obj.RANK_MAP_PENDING_STEP c = 0xFFFFFFFF ∧ tfind u.maps c = none
        ∧ SameRegs s u [Obj.RANK_MAP_ACTIVE.key c, Obj.LOCAL_RANK.key c, Obj.RANK_MAP_PENDING_STEP.key c]
        ∧ u = { s with objs := u.objs, maps := u.maps, fab := u.fab, rcv := { s.rcv with ended := terase s.rcv.ended c } }) ∧
      (s.commitRefusal c v = 0 → v ≠ 0xFFFFFFFF → ∃ u : State, exec (.rankMapCommit who c v) s = .next (u.answer who Obj.RANK_MAP_COMMIT c 0)
        ∧ tfind u.maps c = some (s.stagedMap c) ∧ u.reg Obj.RANK_MAP_PENDING_STEP c = v
        ∧ SameRegs s u [Obj.RANK_MAP_PENDING_STEP.key c] ∧ u = { s with objs := u.objs, maps := u.maps }
        ∧ (∀ n, n < v → u.mapAtStep c n = u)
        ∧ (∀ n, v ≤ n → tfind (u.mapAtStep c n).objs (Obj.RANK_MAP_ACTIVE.key c) = some (s.stagedMap c)
            ∧ (u.mapAtStep c n).rank c = s.ownRank (s.stagedMap c) ∧ (u.mapAtStep c n).reg Obj.RANK_MAP_PENDING_STEP c = 0xFFFFFFFF))) ∧
    (∀ (c i j a b : Nat), (s.stagedMap c)[i]? = some a → (s.stagedMap c)[j]? = some b → i ≠ j → bit a 15 = true → bit b 15 = true →
      field a 0 14 = field b 0 14 → ∀ v, s.commitRefusal c v ≠ 0) ∧
    (∀ (l : List Nat) (i e : Nat), l[i]? = some e → bit e 15 = true → field e 0 14 = s.node →
      (∀ (j x : Nat), j < i → l[j]? = some x → bit x 15 = true → field x 0 14 ≠ s.node) → s.ownRank l = i)

/-- The transport (11_spokes R309-R319, R321-R326, 10_lattices_and_mapping R291). A packet for another node goes on, one of
a stale epoch is discarded, and any other acts; one that finds no room, fails its tag or is malformed is discarded and counted. Packets
are delivered in SEQ order: the expected one at once, a later one when those before it have come, one that came before not at all. An
acknowledgement frees what it covers; a packet whose timer expires is sent again under its SEQ; one that is given up leaves its flow.
It rests on model choices: notes/assumptions/8, notes/assumptions/30, notes/assumptions/81, notes/assumptions/159,
notes/assumptions/162, notes/assumptions/167. -/
def Obligations.PacketsAreDeliveredInOrder : Prop :=
  ∀ (s : State),
    (∀ src p k t1 t4,
      ∀ e ∈ [(Instr.hupDataReceive src, k.type == 0, fun (s : State) => s.flowArrive k), (.hupCloseReceive src, k.type == 2, fun s => s.flowArrive k),
          (.hupAckReceive src, k.type == 1, fun s => s.ackArrive k.src k.vc k.ack (ofLE k.payload)),
          (.epochNoticeReceive src, k.type == 3 && controlCode k == 1, fun s => s.flowArrive k),
          (.genNoticeReceive src, k.type == 3 && controlCode k == 2, fun s => s.flowArrive k),
          (.keyxReceive src, k.type == 4, fun s => s.keyxArrive p (spdmCode k)),
          (.markerPacketReceive src t1 t4, k.type == 5, fun s => s.orderedSet p k.payload t1 t4)],
        let g := s.inputGood p k
        let off := fun (r : List (Nat × Packet)) => (g.2.setHup { g.2.hup with arrived := r }).oweCredits p k
        let t := s.bumpF Obj.SPOKE_RX_BYTES p (k.vc % 8) k.payload.length
        let keyed := (s.spoke p).rxKey.isSome = true
        let acts := fun (b : State) =>
          (k.dst ≠ s.node → exec e.1 s = .next ((b.setHup { b.hup with
            transit := if s.ethernet p then b.hup.transit.filter (fun e => b.inside e.2) ++ [(p, k)] else b.hup.transit }).forward k)) ∧
          (k.dst = s.node → ∀ v, (b.epochGate k = (false, v) → exec e.1 s = .next v) ∧
            (b.epochGate k = (true, v) → exec e.1 s = .next (e.2.2 (if k.ackValid && k.type != 1 then v.ackArrive k.src k.vc k.ack 0 else v))))
        (src = .link → s.hup.arrived = [] → exec e.1 s = .next s) ∧
        (∀ r, src = .link → s.hup.arrived = (p, k) :: r →
          (e.2.1 = false → exec e.1 s = .next s) ∧
          (e.2.1 = true → g.1 = false → exec e.1 s = .next (off r)) ∧
          (e.2.1 = true → g.1 = true → p < 18 → acts (off r))) ∧
        (∀ tagOk, src = .chord p k tagOk →
          (s.ethernet p = false ∨ s.linkUp p = false → exec e.1 s = .next s) ∧
          (s.ethernet p = true → s.linkUp p = true →
            (s.chordFull p k = true → exec e.1 s = .next (s.bump Obj.SPOKE_ETH_DROP_COUNT p)) ∧
            (s.chordFull p k = false → ¬keyed → k.type ≠ 4 → exec e.1 s = .next s) ∧
            (s.chordFull p k = false → keyed → tagOk = false → exec e.1 s = .next (s.authFail p)) ∧
            (s.chordFull p k = false → (if keyed then tagOk = true else k.type = 4) →
              (packetBad k true = true → exec e.1 s = .next (t.bump Obj.HUP_FORMAT_DISCARD_COUNT 0)) ∧
              (packetBad k true = false → e.2.1 = false → exec e.1 s = .next s) ∧
              (packetBad k true = false → e.2.1 = true → p < 18 → acts t))))) ∧
    (∀ k : Packet, let f := s.rxFlow k.src k.vc
      (k.seq = f.next → f.held = [] → k.type = 0 → k.first = true → k.last = true → k.dstGen = s.gen k.ctx →
        k.srcGen = s.peerGen k.src k.ctx → s.unmapped k = false → f.arrivals < 31 →
        let u := s.flowArrive k
        u.hup.inbox = s.hup.inbox ++ [{ node := k.src, vc := k.vc, ctx := k.ctx, epoch := k.srcEpoch, close := false, bytes := k.payload }]
          ∧ (u.rxFlow k.src k.vc).next = (f.next + 1) % 2 ^ 32 ∧ (u.rxFlow k.src k.vc).held = []) ∧
      (1 ≤ ahead f.next k.seq → ahead f.next k.seq < 256 → f.held = [] → f.arrivals < 31 →
        let u := s.flowArrive k
        u.hup.inbox = s.hup.inbox ∧ (u.rxFlow k.src k.vc).next = f.next ∧ (u.rxFlow k.src k.vc).held = [k]) ∧
      (256 ≤ ahead f.next k.seq → ahead f.next k.seq < 2 ^ 31 → (∀ x ∈ f.held, x.seq ≠ k.seq) → s.flowArrive k = s) ∧
      (2 ^ 31 ≤ ahead f.next k.seq → let u := s.flowArrive k
        u.hup.inbox = s.hup.inbox ∧ (u.rxFlow k.src k.vc).next = f.next ∧ (u.rxFlow k.src k.vc).held = f.held)) ∧
    (∀ node vc, ((s.rxFlow node vc).arrivals = 0 → exec (.hupAckTimer node vc) s = .next s) ∧
      ((s.rxFlow node vc).arrivals ≠ 0 → ∃ (b : State) (k : Packet), exec (.hupAckTimer node vc) s = .next (b.dispatch k).2
        ∧ b = s.setRx node vc { s.rxFlow node vc with arrivals := 0 } ∧ k.type = 1 ∧ k.dst = node ∧ k.src = s.node ∧ k.vc = vc
        ∧ k.ackValid = true ∧ k.ack = ((s.rxFlow node vc).next + 2 ^ 32 - 1) % 2 ^ 32 ∧ k.payload.length = 32)) ∧
    (∀ node vc seq, (s.txFlow node vc).unacked.find? (fun u => u.packet.seq == seq && u.sent) = none →
      exec (.hupRtoExpiry node vc seq) s = .next s ∧ exec (.hupGiveup node vc seq) s = .next s) ∧
    (∀ node vc seq u, (s.txFlow node vc).unacked.find? (fun u => u.packet.seq == seq && u.sent) = some u →
      (∃ t, exec (.hupRtoExpiry node vc seq) s = .next t
        ∧ (t.txFlow node vc).unacked.map (fun x => x.packet.seq) = (s.txFlow node vc).unacked.map (fun x => x.packet.seq)
        ∧ t.reg Obj.HUP_RETX_COUNT = satAdd 8 (s.reg Obj.HUP_RETX_COUNT) 1
        ∧ SameRegs s t [Obj.HUP_RETX_COUNT.key 0] ∧ t = { s with objs := t.objs, spokes := t.spokes, hup := t.hup }) ∧
      exec (.hupGiveup node vc seq) s = .next ((match u.sender with
        | .item n => (((s.setTx node vc { s.txFlow node vc with
            unacked := (s.txFlow node vc).unacked.filter (fun x => x.packet.seq != seq) }).meet n .failedTimeout).sentAll n)
        | .request a b => ((s.setTx node vc { s.txFlow node vc with
            unacked := (s.txFlow node vc).unacked.filter (fun x => x.packet.seq != seq) }).fabGaveUp a b)
        | .none => s.setTx node vc { s.txFlow node vc with
            unacked := (s.txFlow node vc).unacked.filter (fun x => x.packet.seq != seq) }).pump node vc 256))

/-- A packet whose SEQ is already delivered or already held (11_spokes R314) is discarded and counted, and its flow is
acknowledged again: nothing joins what the engines consume, and the flow stays where it was. -/
def Obligations.DuplicatesAreDiscarded : Prop :=
  ∀ (s b v : State) (src : PacketFrom) (p : Nat) (k : Packet), p < 18 →
    (∃ r, src = PacketFrom.link ∧ s.hup.arrived = (p, k) :: r ∧ (s.inputGood p k).1 = true ∧
        b = (((s.inputGood p k).2.setHup { (s.inputGood p k).2.hup with arrived := r }).oweCredits p k)) ∨
      (src = .chord p k true ∧ s.ethernet p = true ∧ s.linkUp p = true ∧ s.chordFull p k = false ∧ (s.spoke p).rxKey.isSome = true
        ∧ packetBad k true = false ∧ b = s.bumpF Obj.SPOKE_RX_BYTES p (k.vc % 8) k.payload.length) →
    k.dst = s.node → b.epochGate k = (true, v) →
    ∀ e ∈ [(Instr.hupDataReceive src, k.type == 0), (.hupCloseReceive src, k.type == 2),
        (.epochNoticeReceive src, k.type == 3 && controlCode k == 1), (.genNoticeReceive src, k.type == 3 && controlCode k == 2)], e.2 = true →
      let w := if k.ackValid then v.ackArrive k.src k.vc k.ack 0 else v
      let f := w.rxFlow k.src k.vc
      2 ^ 31 ≤ ahead f.next k.seq ∨ (∃ x ∈ f.held, x.seq = k.seq) →
      ∃ (u y : State) (a : Packet), exec e.1 s = .next u ∧ u.hup.inbox = w.hup.inbox
        ∧ u.reg Obj.HUP_DUP_DISCARD_COUNT = min (w.reg Obj.HUP_DUP_DISCARD_COUNT + 1) (2 ^ 64 - 1)
        ∧ u.rxFlow k.src k.vc = { f with arrivals := 0 } ∧ u = (y.dispatch a).2
        ∧ a.type = 1 ∧ a.dst = k.src ∧ a.src = w.node ∧ a.vc = k.vc ∧ a.ackValid = true
        ∧ SameRegs w u [Obj.HUP_DUP_DISCARD_COUNT.key 0] ∧ u = { w with objs := u.objs, spokes := u.spokes, hup := u.hup }

/-- Context resets and the escalation ladder (15_faults_and_recovery R407, R410-R419). A reset begins with all that R411 says, joins one
in progress, or waits for its millisecond; it ends, with the plan LOADED, when every instance has reported the context gone. An instance
that misses its limit climbs the ladder; a facet that is reset comes back with zeroed memory.
It rests on model choices: notes/assumptions/41, notes/assumptions/53. -/
def Obligations.ContextResetsWithdrawTheirWork : Prop :=
  ∀ (s : State),
    (∀ who c, Takes s who Obj.CONTEXT_RESET c true → c < 16 →
      (∀ w, tfind s.rcv.active c = some w → exec (.contextReset who c) s
        = .next ((s.setRcv { s.rcv with active := tset s.rcv.active c w }).answer who Obj.CONTEXT_RESET c 0)) ∧
      (∀ t, tfind s.rcv.active c = none → tfind s.rcv.lastReset c = some t → s.now < t + 1000000 →
        ∃ u : State, exec (.contextReset who c) s = .next (u.answer who Obj.CONTEXT_RESET c 0) ∧ u = { s with rcv := u.rcv }
          ∧ (tfind u.rcv.deferred c).isSome = true ∧ tfind u.rcv.active c = none) ∧
      (tfind s.rcv.active c = none → (∀ t, tfind s.rcv.lastReset c = some t → t + 1000000 ≤ s.now) →
        ∃ u : State, exec (.contextReset who c) s = .next (u.answer who Obj.CONTEXT_RESET c 0) ∧ s.Begun u c)) ∧
    (∀ c, c < 16 → (tfind s.rcv.deferred c = none → exec (.contextResetDeferredStart c) s = .next s) ∧
      (∀ d, tfind s.rcv.deferred c = some d → ∃ u, exec (.contextResetDeferredStart c) s = .next u ∧ s.Begun u c)) ∧
    (∀ c, (tfind s.rcv.active c = none → exec (.contextWithdrawn c) s = .next s) ∧
      (∀ w, tfind s.rcv.active c = some w → s.allGone c w = false → exec (.contextWithdrawn c) s = .next s) ∧
      (∀ w, tfind s.rcv.active c = some w → s.allGone c w = true → s.waitsRight → c < 16 →
        ∃ t, exec (.contextWithdrawn c) s = .next t ∧ tfind t.rcv.active c = none ∧ (t.plan c).slots = []
          ∧ t.planState c = (if w.toFree = true ∨ s.planState c = planEmpty then planEmpty else planLoaded)
          ∧ (w.toFree = true → (t.plan c).image = none ∧ t.contextKeys c = { keyId := (s.contextKeys c).keyId }) ∧
            (∀ n it, s.item? n = some it → it.ctx = c → it.isDone = true → t.item? n = none))) ∧
    (∀ c i cleared, c < 16 → (tfind s.rcv.active c = none → exec (.escalationStepTimeout c i cleared) s = .next s) ∧
      (∀ w, tfind s.rcv.active c = some w →
        (w.stepOf i = 1 → ((∃ f, i = .facet f ∧ s.facetServes f c = true) ∨ (cleared = true ∧ ∀ f, i ≠ .facet f)) →
          ∃ t, exec (.escalationStepTimeout c i cleared) s = .next t ∧ t.reg Obj.CONTEXT_STATE c = 2
            ∧ (∃ x, tfind t.rcv.active c = some x ∧ x.stepOf i = 2) ∧ t.items = s.items ∧ t.hbm = s.hbm ∧ t.fm = s.fm ∧ t.plans = s.plans) ∧
        (∀ f, i = .facet f → w.stepOf i = 1 → s.facetServes f c = false → exec (.escalationStepTimeout c i cleared) s = .next s) ∧
        (∀ f, i = .facet f → w.stepOf i = 2 →
          ∃ t, exec (.escalationStepTimeout c i cleared) s = .next t ∧ t.reg Obj.CONTEXT_STATE c = 2 ∧ t.facet f = {}
            ∧ (∃ x, tfind t.rcv.active c = some x ∧ x.stepOf i = 3) ∧ t.rcv.facetResets.contains f = true) ∧
        (∀ f, i = .facet f → w.stepOf i ≠ 1 → w.stepOf i ≠ 2 → exec (.escalationStepTimeout c i cleared) s
          = .next (if s.rcv.facetResets.contains f then s.failFacet f true else s)) ∧
        ((∀ f, i ≠ .facet f) → w.stepOf i ≠ 1 ∨ cleared = false →
          exec (.escalationStepTimeout c i cleared) s = .next ((if w.stepOf i = 1 then s.takeStep c i 2 else s).lastStep c i) ∧
          (dsBoot ≤ s.devState → s.rcv.resetting = none →
            ∃ t, exec (.escalationStepTimeout c i cleared) s = .next t ∧ t.rcv.resetting = some 1 ∧ t.items = [] ∧ t.plans = [])))) ∧
    (∀ f ok v, (s.rcv.facetResets.contains f = false → exec (.facetResetDone f ok v) s = .next s) ∧
      (s.rcv.facetResets.contains f = true → ok = true → s.fm.mem.wf = true → f < 192 →
        ∃ t, exec (.facetResetDone f ok v) s = .next t ∧ t.rcv.facetResets.contains f = false
          ∧ t.reg Obj.FM_ZERO_COUNT f = satAdd 8 (s.reg Obj.FM_ZERO_COUNT f) 1 ∧ t.isRetired f = s.isRetired f) ∧
      (s.rcv.facetResets.contains f = true → ok = false → f < 192 → let b := (s.fmZero f).bump Obj.FM_ZERO_COUNT f
        exec (.facetResetDone f ok v) s
          = .next ((b.setRegF Obj.SELFTEST_RESULT 0 1 (b.regF Obj.SELFTEST_RESULT 0 1 ||| (1 <<< f))).failFacet f v))) ∧
    (∀ f cause thread, (192 ≤ f ∨ s.isRetired f = true → exec (.facetFatalFault f cause thread) s = .next s) ∧
      (f < 192 → s.isRetired f = false →
      ∃ t, exec (.facetFatalFault f cause thread) s = .next t ∧ t.facet f = {} ∧ t.rcv.facetResets.contains f = true
        ∧ (∀ c, s.servedBy f = some c → (tfind s.rcv.active c).isSome = true →
            ∃ x, tfind t.rcv.active c = some x ∧ x.stepOf (.facet f) = 3) ∧
        ∀ th, s.thread? f thread = some th → th.wait = .no →
          exec (.threadStallTimeout f thread) s = exec (.facetFatalFault f (Config.causeCode causeStall) thread) s)) ∧
    (∀ f n, (∀ th, s.thread? f n = some th → th.wait = .no → exec (.threadStallTimeout f n) s
        = .next (s.facetFatal f (Config.causeCode causeStall) n)) ∧
      ((∀ th, s.thread? f n = some th → th.wait ≠ .no) → exec (.threadStallTimeout f n) s = .next s))

/-- Device resets, and what outlasts them (15_faults_and_recovery R404, R409, R418, R420-R422, R437-R440). A device reset wipes all but
what R437 keeps and leaves the reset record; a dump is taken when it is asked for and none is held. The BMC clears a dump, the flash
log, and bits of FACET_RETIRED; a node declared lost is lost.
It rests on model choices: notes/assumptions/41, notes/assumptions/42, notes/assumptions/43, notes/assumptions/44. -/
def Obligations.DeviceResetsKeepTheirRecord : Prop :=
  ∀ (s : State),
    (∀ (e : Instr × (State → State) × Nat × Bool), dsBoot ≤ s.devState → s.rcv.resetting = none →
      ((∃ cause detail, e = (.deviceFatalFault cause detail, id, 1, true)) ∨
        (e = (.mgmtWatchdogExpiry, id, 3, true) ∧ s.rcv.capturing = false) ∨
        (∃ who, Takes s who Obj.DEVICE_RESET 0 false ∧ (e = (.warm who, (fun u => u.answer who Obj.DEVICE_RESET 0 0), 0, false) ∨
          e = (.warmWithDump who, (fun u => u.answer who Obj.DEVICE_RESET 0 0), 0, true)))) →
      ∃ u : State, exec e.1 s = .next (e.2.1 u) ∧ u.rcv.resetting = some e.2.2.1
        ∧ u.items = [] ∧ u.queues = [] ∧ u.plans = [] ∧ u.facets = [] ∧ u.hbm.mem = {} ∧ u.fm = {} ∧ u.hup = {} ∧ u.dict = {}
        ∧ u.sec.sessions = [] ∧ u.sec.keys = [] ∧ u.pending = s.pending ∧ u.flash = s.flash ∧ u.waitReset = s.waitReset
        ∧ u.devState = s.devState ∧ (tfind s.flash.store (Obj.DEVICE_EPOCH.key 0) = none → u.epoch = s.epoch) ∧ u.regF Obj.RESET_RECORD 0 0 = e.2.2.1 ∧ u.regF Obj.RESET_RECORD 0 1 = s.epoch
        ∧ u.regF Obj.RESET_RECORD 0 8 = ofBool (e.2.2.2 && s.reg Obj.CRASH_DUMP_STATE == 0)
        ∧ u.rcv.capturing = (s.rcv.capturing || (e.2.2.2 && s.reg Obj.CRASH_DUMP_STATE == 0))) ∧
    (s.devState < dsBoot ∨ s.rcv.resetting.isSome = true →
      (∀ cause detail, exec (.deviceFatalFault cause detail) s = .next s) ∧ exec .mgmtWatchdogExpiry s = .next s.cutDump ∧
      ∀ who, Takes s who Obj.DEVICE_RESET 0 false → exec (.warm who) s = .next (s.answer who Obj.DEVICE_RESET 0 0) ∧
        exec (.warmWithDump who) s = .next (s.answer who Obj.DEVICE_RESET 0 0)) ∧
    (s.rcv.capturing = true → exec .mgmtWatchdogExpiry s = .next (((s.setRcv { s.rcv with capturing := false }).setReg
      Obj.CRASH_DUMP_STATE 0 2).deviceReset 3 true)) ∧
    (∀ who node, Takes s who Obj.PEER_LOST 0 false →
      (16384 ≤ node → exec (.peerLostWrite who node) s = .next (s.answer who Obj.PEER_LOST 0 Abort.VALUE_RANGE)) ∧
      (node < 16384 → exec (.peerLostWrite who node) s = .next (((s.log! {
        code := 0x082, sub := 16, info0 := node, info1 := s.peerEpoch node }).loseNode node (s.peerEpoch node)).answer who Obj.PEER_LOST 0 0)) ∧
      (node < 16384 → (∀ r ∈ s.fab.reqs, r.node ≠ node) →
        ∃ u : State, exec (.peerLostWrite who node) s = .next (u.answer who Obj.PEER_LOST 0 0)
          ∧ u.nodeLost node = true
          ∧ u.reg Obj.PEER_LOSS_COUNT = (if s.nodeLost node then s.reg Obj.PEER_LOSS_COUNT else satAdd 8 (s.reg Obj.PEER_LOSS_COUNT) 1)
          ∧ (∀ vc, vc < 8 → u.txFlow node vc = {} ∧ u.rxFlow node vc = {})
          ∧ (∀ n vc, n ≠ node → vc < 8 → u.txFlow n vc = s.txFlow n vc ∧ u.rxFlow n vc = s.rxFlow n vc))) ∧
    (∀ r rest, s.log.toFlash = r :: rest → exec .errorFlashCopy s = .next { s with log := { s.log with
        toFlash := rest, flash := if 64 ≤ s.log.flash.length then (s.log.flash ++ [r]).tail else s.log.flash ++ [r] } }) ∧
    (s.log.toFlash = [] → exec .errorFlashCopy s = .next s) ∧
    (∀ who, Takes s who Obj.ERROR_FLASH_CLEAR 0 false → exec (.errorFlashClear who) s
        = .next (({ s with log := { s.log with flash := [] } }).answer who Obj.ERROR_FLASH_CLEAR 0 0)) ∧
    (∀ who, Takes s who Obj.CRASH_DUMP_CLEAR 0 false → ∃ u : State, exec (.crashDumpClear who) s
        = .next (u.answer who Obj.CRASH_DUMP_CLEAR 0 0) ∧ u.rcv = { s.rcv with dump := {} } ∧ u.reg Obj.CRASH_DUMP_STATE = 0
        ∧ SameRegs s u [Obj.CRASH_DUMP_STATE.key 0] ∧ u = { s with objs := u.objs, rcv := u.rcv }) ∧
    (∀ who bits ok, Takes s who Obj.FACET_RETIRED 0 false → 2 ^ 192 ≤ bits →
      exec (.facetRetiredWrite who bits ok) s = .next (s.answer who Obj.FACET_RETIRED 0 Abort.VALUE_RANGE)) ∧
    (∀ who bits ok, Takes s who Obj.FACET_RETIRED 0 false → bits < 2 ^ 192 →
      ((∃ f, f < 192 ∧ bit bits f = true ∧ bit ((s.written Obj.FACET_RETIRED 0).getD (f / 8) 0) (f % 8) = false) →
        exec (.facetRetiredWrite who bits ok) s = .next (s.answer who Obj.FACET_RETIRED 0 Abort.VALUE_RANGE)) ∧
      ((∀ f, f < 192 → bit bits f = true → bit ((s.written Obj.FACET_RETIRED 0).getD (f / 8) 0) (f % 8) = true) →
        (ok = false → ∃ u : State, exec (.facetRetiredWrite who bits ok) s = .next (u.answer who Obj.FACET_RETIRED 0 Abort.FLASH_FAILED)
          ∧ u = { s with flash := u.flash } ∧ u.flash.store = s.flash.store) ∧
        (ok = true → ∃ u : State, exec (.facetRetiredWrite who bits ok) s = .next (u.answer who Obj.FACET_RETIRED 0 0)
          ∧ (∃ l, tfind u.waitReset (Obj.FACET_RETIRED.key 0) = some l ∧ ∀ f, f < 192 → bit (l.getD (f / 8) 0) (f % 8) = bit bits f)
          ∧ (∀ f, u.isRetired f = s.isRetired f) ∧ u = { s with flash := u.flash, waitReset := u.waitReset })))

/-- Boot (16_security R443-R448, 13_hbm_and_ecc R370, 15_faults_and_recovery R406, 17_object_dictionary R492). An image is genuine when
every check of R444 passes. Boot raises the epoch, and goes on from step to step; a failed copy is tried again from the other copy, a
second failure or a failed self-test ends in FAULT; READY, or DEGRADED with a retired facet, is entered from MEASURED.
It rests on model choices: notes/assumptions/7, notes/assumptions/96, notes/assumptions/106, notes/assumptions/107. -/
def Obligations.BootRunsItsSteps : Prop :=
  ∀ (s : State),
    (∀ i kind, s.imageFails i kind = 0 ↔ manifestForm i.header kind = true ∧ mfKeyIndex i.header ≤ 3 ∧ i.vendorHashOk = true
      ∧ bit (s.regF Obj.SEC_FUSES 0 1) (mfKeyIndex i.header) = false ∧ i.vendorSigOk = true
      ∧ (bit (mfSigFlags i.header) 0 = true ∨ s.regF Obj.SEC_FUSES 0 0 = 1 → bit (mfSigFlags i.header) 0 = true ∧ i.mldsaOk = true)
      ∧ (s.customer = true → bit (mfSigFlags i.header) 1 = true ∧ i.customerOk = true)
      ∧ s.fusedSvn kind ≤ mfSvn i.header ∧ i.digestOk = true) ∧
    (∀ ms, s.heldInReset = true ∨ (¬(s.devState = dsRefQualify ∧ s.power.counting = true ∧ s.reg Obj.PLL_STATUS 0 = 1) ∧
        ¬(dsBoot ≤ s.devState ∧ s.rcv.resetting.isSome = true)) → exec (.bootEntry ms) s = .next s) ∧
    (∀ ms, s.heldInReset = false →
      (s.devState = dsRefQualify ∧ s.power.counting = true ∧ s.reg Obj.PLL_STATUS 0 = 1) ∨ (dsBoot ≤ s.devState ∧ s.rcv.resetting.isSome = true) →
      ∃ t, exec (.bootEntry ms) s = .next t ∧ t.devState = dsBoot ∧ t.sec.boot = { step := 1, copy := s.flash.header.preferred }
        ∧ t.rcv.resetting = none ∧ t.rcv.epochAon = max s.rcv.epochAon s.rcv.epochFlash + 1 ∧ t.rcv.epochFlash = t.rcv.epochAon
        ∧ t.epoch = t.rcv.epochAon ∧ t.waitReset = [] ∧ t.items = s.items ∧ t.log = s.log) ∧
    (∀ r, (s.devState ≠ dsBoot ∨ s.sec.boot.step ≠ 1 → exec (.selftestDone r) s = .next s) ∧
      (s.devState = dsBoot → s.sec.boot.step = 1 → ∃ t, exec (.selftestDone r) s = .next t
        ∧ (∀ f, f < 192 → t.isRetired f = (s.isRetired f || bit r.facets f))
        ∧ (r.shared % 2 ^ 32 = 0 → r.loopbacks % 2 ^ 16 = 0 → r.stackFails % 256 = 0 → t.devState = dsBoot ∧ t.sec.boot = { s.sec.boot with step := 3 })
        ∧ (r.shared % 2 ^ 32 ≠ 0 ∨ r.loopbacks % 2 ^ 16 ≠ 0 ∨ r.stackFails % 256 ≠ 0 → t.devState = dsFault))) ∧
    (∀ i, (s.bootAt 3 = false → exec (.loaderChecked i) s = .next s) ∧
      (s.bootAt 3 = true → s.imageFails i 1 ≠ 0 → exec (.loaderChecked i) s = .next (s.bootFail 1 (s.imageFails i 1))) ∧
      (s.bootAt 3 = true → s.imageFails i 1 = 0 → ∃ t, exec (.loaderChecked i) s = .next t
        ∧ t.sec.boot = { s.sec.boot with step := 4 } ∧ tfind t.sec.images 0 = some (runningOf i)
        ∧ (∀ k, t.regF Obj.MEASUREMENT 0 k = (hashFields (mfDigest i.header)).getD k (Obj.MEASUREMENT.defaultField k))
        ∧ (∀ k, t.regF Obj.MEASUREMENT 6 k = (hashFields Config.romDigest).getD k (Obj.MEASUREMENT.defaultField k))
        ∧ SameRegs s t [Obj.MEASUREMENT.key 0, Obj.MEASUREMENT.key 6] ∧ t = { s with objs := t.objs, sec := t.sec, flash := t.flash })) ∧
    (∀ a b c, (s.bootAt 4 = false → exec (.imagesChecked a b c) s = .next s) ∧
      (s.bootAt 4 = true → s.imageFails a 2 ≠ 0 → exec (.imagesChecked a b c) s = .next (s.bootFail 2 (s.imageFails a 2))) ∧
      (s.bootAt 4 = true → s.imageFails a 2 = 0 → s.imageFails b 3 ≠ 0 →
        exec (.imagesChecked a b c) s = .next (s.bootFail 3 (s.imageFails b 3))) ∧
      (s.bootAt 4 = true → s.imageFails a 2 = 0 → s.imageFails b 3 = 0 → s.imageFails c 4 ≠ 0 →
        exec (.imagesChecked a b c) s = .next (s.bootFail 4 (s.imageFails c 4))) ∧
      (s.bootAt 4 = true → s.imageFails a 2 = 0 → s.imageFails b 3 = 0 → s.imageFails c 4 = 0 →
        ∃ t, exec (.imagesChecked a b c) s = .next t ∧ t.sec.boot = { s.sec.boot with step := 5 }
          ∧ ∀ e ∈ [(1, a), (2, b), (3, c)], tfind t.sec.images e.1 = some (runningOf e.2)
            ∧ ∀ k, t.regF Obj.MEASUREMENT e.1 k = (hashFields (mfDigest e.2.header)).getD k (Obj.MEASUREMENT.defaultField k))) ∧
    (∀ kind check, let t := s.bootFail kind check
      (s.sec.boot.fallback = false → t.sec.boot = { step := 3, copy := 1 - s.sec.boot.copy, fallback := true } ∧ t.devState = s.devState) ∧
      (s.sec.boot.fallback = true → t.sec.boot = { s.sec.boot with step := 0 } ∧ t.devState = dsFault) ∧
      t.sec.images = [] ∧ (∀ n k, n < 16 → t.regF Obj.MEASUREMENT n k = Obj.MEASUREMENT.defaultField k)
      ∧ t.regF Obj.BOOT_STATUS 0 1 = s.sec.boot.copy ∧ t.regF Obj.BOOT_STATUS 0 2 = kind) ∧
    (∀ ms, (s.bootAt 5 = false → exec (.measuredEntry ms) s = .next s) ∧
      (s.bootAt 5 = true → ∃ t, exec (.measuredEntry ms) s = .next t ∧ t.devState = dsMeasured ∧ t.sec.boot = { s.sec.boot with step := 7 }
        ∧ (∀ k, t.regF Obj.MEASUREMENT 5 k = (hashFields (Config.sha384 s.flashImage)).getD k (Obj.MEASUREMENT.defaultField k))
        ∧ (∀ k, t.regF Obj.MEASUREMENT 4 k = (hashFields s.securityRecord).getD k (Obj.MEASUREMENT.defaultField k))
        ∧ t.regF Obj.BOOT_STATUS 0 0 = s.sec.boot.copy ∧ t.regF Obj.BOOT_STATUS 0 4 = ms % 2 ^ 32)) ∧
    (∀ ms, (s.devState ≠ dsMeasured ∨ s.rcv.resetting ≠ none → exec (.enginesInitialised ms) s = .next s) ∧
      (s.devState = dsMeasured → s.rcv.resetting = none → ∃ t, exec (.enginesInitialised ms) s = .next t
        ∧ t.devState = (if s.reg Obj.FACET_RETIRE_LIMIT < s.retiredCount then dsFault else if s.retiredCount = 0 then dsReady else dsDegraded)
        ∧ (∀ f, t.isRetired f = s.isRetired f))) ∧
    (s.devState ≠ dsBoot → exec .bootStepTimeout s = .next s) ∧
    (s.devState = dsBoot → ∃ t, exec .bootStepTimeout s = .next t ∧
      (s.sec.boot.step = 1 → t.devState = dsFault) ∧ (s.sec.boot.step = 3 → t = s.bootFail 1 7) ∧
      (s.sec.boot.step = 4 → t = s.bootFail 2 7) ∧ (s.sec.boot.step = 5 → t = s.bootFail 0 7))

/-- Attestation, sessions, and the management port (16_security R449-R453, R458, R462, 17_object_dictionary R484,
19_pins_and_interfaces R539). Requests are answered where they are served, and leave the device as it was; a session opens, is
established, and ends with the release of the contexts it held under retention SESSION.
It rests on model choices: notes/assumptions/103, notes/assumptions/104, notes/assumptions/105, notes/assumptions/111. -/
def Obligations.SessionsOpenAndEnd : Prop :=
  ∀ (s : State) (e : SpdmEnd),
    (∀ (slot index : Nat) (common signed same : Bool), s.attests = true → s.endpointThere e = true →
      (∀ c ∈ [(Instr.getVersion e, SpdmMsg.version [0x12, 0x13]), (.getCapabilities e, .capabilities s.customer),
          (.negotiateAlgorithms e common, if common then .algorithms else .error false), (.getDigests e, .digests s.chains),
          (.getCertificate e slot, if s.chains.contains slot then .certificate slot else .error false),
          (.challenge e slot, if s.chains.contains slot then .challengeAuth slot else .error false),
          (.getMeasurements e index signed, match s.measurementRecords index with
            | some l => .measurements l (s.slotValue 4) signed
            | none => .error false)], exec c.1 s = .next (s.respond e c.2)) ∧
      (∀ eid, e = .mctp eid → s.customer = true → slot = 1 → same = true →
        exec (.setCertificate e slot same) s = .next (({ s with sec := { s.sec with customerChain := true } }).respond e .certificateSet)) ∧
      ((∃ f, e = .doe f) ∨ s.customer = false ∨ slot ≠ 1 ∨ same = false →
        ∃ b, exec (.setCertificate e slot same) s = .next (s.respond e (.error b)))) ∧
    (∀ (slot index : Nat) (common signed same : Bool), s.attests = false ∨ s.endpointThere e = false →
      ∀ c ∈ [Instr.getVersion e, .getCapabilities e, .negotiateAlgorithms e common, .getDigests e, .getCertificate e slot, .challenge e slot,
        .getMeasurements e index signed, .setCertificate e slot same], exec c s = .next s) ∧
    (∀ i l, s.measurementRecords i = some l → ∀ r ∈ l, 1 ≤ r.1 ∧ r.1 ≤ 7 ∧ r.2 = s.slotValue (r.1 - 1)) ∧
    (s.sessionsServed = false ∨ s.endpointThere e = false → ∀ n v p st b, ∀ c ∈ [Instr.keyExchange e, .spdmFinish e n v p, .keyUpdate e n,
      .spdmHeartbeat e n, .endSession e n, .ideKmRequest e n st b], exec c s = .next s) ∧
    (s.sessionsServed = true → s.endpointThere e = true →
      (∀ n v p st b, ∀ c ∈ [(Instr.spdmFinish e n v p, false), (.keyUpdate e n, true), (.spdmHeartbeat e n, true), (.endSession e n, true),
          (.ideKmRequest e n st b, true)], (∀ x, tfind s.sec.sessions n = some x → x.doe ≠ doeFunction e ∨ x.established ≠ c.2) →
        exec c.1 s = .next (s.respond e (.error false))) ∧
      (32 ≤ s.sec.sessions.length → exec (.keyExchange e) s = .next (s.respond e (.error false))) ∧
      (s.sec.sessions.length < 32 → ∃ u : State, exec (.keyExchange e) s = .next (u.respond e (.keyExchange s.sec.nextSession))
        ∧ tfind u.sec.sessions s.sec.nextSession = some { doe := doeFunction e } ∧ u.sec.nextSession = s.sec.nextSession + 1
        ∧ (∀ m, m ≠ s.sec.nextSession → tfind u.sec.sessions m = tfind s.sec.sessions m) ∧ u = { s with sec := u.sec }) ∧
      (∀ n (x : Session), tfind s.sec.sessions n = some x → x.doe = doeFunction e →
        (x.established = false → (∀ p, exec (.spdmFinish e n false p) s = .next (s.respond e (.error false))) ∧
          (∀ p, ∃ u : State, exec (.spdmFinish e n true p) s = .next (u.respond e (.finish n))
            ∧ tfind u.sec.sessions n = some (match p with
                | some q => { x with established := true, key := some q.key, attested := s.anchored q.root
                                     service := q.root != 0 && q.root == Config.serviceAnchorHash }
                | none => { x with established := true })
            ∧ (∀ m, m ≠ n → tfind u.sec.sessions m = tfind s.sec.sessions m)
            ∧ SameRegs s u [Obj.SEC_SESSION_COUNT.key 0] ∧ u = { s with objs := u.objs, sec := u.sec })) ∧
        (x.established = true →
          exec (.spdmHeartbeat e n) s = .next (s.respond e (.heartbeat n)) ∧
          (∃ u : State, exec (.keyUpdate e n) s = .next (u.respond e (.keyUpdated n))
            ∧ tfind u.sec.sessions n = some { x with updates := x.updates + 1 } ∧ u = { s with sec := u.sec }) ∧
          exec (.endSession e n) s = .next ((s.endSession n).respond e (.ended n)) ∧
          (∀ st b, doeFunction e = some 0 → s.streamThere st = true →
            ∃ u : State, exec (.ideKmRequest e n st b) s = .next (u.respond e (.ideKm st))
              ∧ (st = .link → u.sec.ideLink = b ∧ u.sec.ideSelective = s.sec.ideSelective)
              ∧ (∀ f, st = .selective f → u.sec.ideSelective.contains f = b ∧ u.sec.ideLink = s.sec.ideLink)
              ∧ SameRegs s u [Obj.PCIE_LINK_STATUS.key 0] ∧ u = { s with objs := u.objs, sec := u.sec }) ∧
          (∀ st b, doeFunction e ≠ some 0 ∨ s.streamThere st = false → exec (.ideKmRequest e n st b) s = .next (s.respond e (.error false)))))) ∧
    (∀ n, exec (.spdmHeartbeatTimeout n) s = .next (s.endSession n) ∧ (tfind s.sec.sessions n = none → s.endSession n = s)) ∧
    (∀ n x, tfind s.sec.sessions n = some x → let t := s.endSession n
      tfind t.sec.sessions n = none ∧ (∀ m, m ≠ n → tfind t.sec.sessions m = tfind s.sec.sessions m)
      ∧ tfind t.dict.transfers (Who.number (.tenant n)) = none ∧ tfind t.dict.transfers (Who.number (.attested n)) = none ∧
      t.reg Obj.SEC_SESSION_COUNT = (t.sec.sessions.filter (fun e => e.2.established)).length ∧
      ∀ k c, x.key = some k → (∀ e ∈ s.sec.sessions, e.1 ≠ n → e.2.key ≠ some k) → 1 ≤ c → c < 16 → s.keyState c ≠ 0 → s.ownerKey c = k →
        s.reg Obj.CONTEXT_KEY_RETENTION c = 1 → (tfind t.rcv.active c).isSome = true ∨ (tfind t.rcv.deferred c).isSome = true) ∧
    (∀ eid, (s.answers = false ∨ 256 ≤ eid → exec (.setEndpointId eid) s = .next s) ∧
      (s.answers = false → ∀ c ∈ [Instr.getEndpointId eid, .getMctpVersionSupport eid, .getMessageTypeSupport eid,
        .getVendorDefinedMsgSupport eid], exec c s = .next s)) ∧
    (∀ eid, s.answers = true →
      (eid < 256 → ∃ u : State, exec (.setEndpointId eid) s = .next (u.emit (.mctpControl eid (.endpointIdSet eid)))
        ∧ u.regF Obj.MGMT_PORT_INFO 0 3 = eid ∧ (∀ o sub i, o.key sub ≠ Obj.MGMT_PORT_INFO.key 0 ∨ o = Obj.MGMT_PORT_INFO ∧ i ≠ 3 → u.regF o sub i = s.regF o sub i)
        ∧ u = { s with objs := u.objs }) ∧
      ∀ c ∈ [(Instr.getEndpointId eid, MctpMsg.endpointId (s.regF Obj.MGMT_PORT_INFO 0 3)), (.getMctpVersionSupport eid, .versions),
        (.getMessageTypeSupport eid, .messageTypes [0x00, 0x05, 0x06, 0x7E]), (.getVendorDefinedMsgSupport eid, .vendorId)],
        exec c.1 s = .next (s.emit (.mctpControl eid c.2))) ∧
    (∀ a b, (s.i3c = false ∨ 128 ≤ a → exec (.entdaa a) s = .next s) ∧
      (s.i3c = false ∨ 128 ≤ a ∨ b ≠ s.regF Obj.MGMT_PORT_INFO 0 1 → exec (.setdasa b a) s = .next s)) ∧
    (∀ a b, s.i3c = true → a < 128 → ∀ c ∈ [Instr.entdaa a, .setdasa b a], (c = .setdasa b a → b = s.regF Obj.MGMT_PORT_INFO 0 1) →
      ∃ u, exec c s = .next u ∧ u.regF Obj.MGMT_PORT_INFO 0 2 = a
        ∧ (∀ o sub i, o.key sub ≠ Obj.MGMT_PORT_INFO.key 0 ∨ o = Obj.MGMT_PORT_INFO ∧ i ≠ 2 → u.regF o sub i = s.regF o sub i) ∧ u = { s with objs := u.objs })

/-- Tenant contexts, keys, fuses, debug and zeroisation (16_security R454-R469). A context is claimed, keyed, rotated and released in the
states that R454 gives it, and each write meets the check that its rule states; fuses only rise. Before boot and within a reset sequence a zeroisation has nothing to erase: that is the model's
choice (notes/assumptions/102).
It rests on model choices: notes/assumptions/96, notes/assumptions/97, notes/assumptions/98, notes/assumptions/99. -/
def Obligations.KeysFollowTheirContext : Prop :=
  ∀ (s : State),
    (∀ n c, (s.answers = false → exec (.contextClaim n c) s = .next s) ∧
      (s.answers = true → c = 0 ∨ 15 < c →
        exec (.contextClaim n c) s = .next (s.answer (.tenant n) Obj.CONTEXT_CLAIM c Abort.SUB_ABSENT)) ∧
      (s.answers = true → 1 ≤ c → c ≤ 15 → s.requesterKey n ≠ none → s.served (.tenant n) Obj.CONTEXT_CLAIM true = false →
        exec (.contextClaim n c) s = .next (s.answer (.tenant n) Obj.CONTEXT_CLAIM c Abort.DEVICE_STATE))) ∧
    (∀ n c, s.answers = true → 1 ≤ c → c ≤ 15 → let who := Who.tenant n; let o := Obj.CONTEXT_CLAIM;
      (s.requesterKey n = none → exec (.contextClaim n c) s = .next (s.answer who o c Abort.ACCESS_DENIED)) ∧
      (∀ k, s.requesterKey n = some k → s.served who o true = true →
        (s.keyState c ≠ ksFree → exec (.contextClaim n c) s
          = .next (s.answer who o c (if s.ownerKey c = k then 0 else Abort.CONTEXT_OWNED))) ∧
        (s.keyState c = ksFree → ∃ u : State, exec (.contextClaim n c) s = .next (u.answer who o c 0)
          ∧ u.ownerKey c = k % 2 ^ 384 ∧ u.keyState c = ksOwned ∧ SameRegs s u [Obj.CONTEXT_OWNER.key c, Obj.CONTEXT_KEY_STATE.key c]
          ∧ u = { s with objs := u.objs, sec := u.sec } ∧ u.sec.keys = s.sec.keys))) ∧
    (∀ who c key, Takes s who Obj.CONTEXT_KEY c true →
      (s.keyState c ≠ ksOwned → exec (.contextKey who c key) s = .next (s.answer who Obj.CONTEXT_KEY c Abort.KEY_STATE)) ∧
      (s.keyState c = ksOwned → halvesEqual key = true → exec (.contextKey who c key) s = .next (s.answer who Obj.CONTEXT_KEY c Abort.KEY_FORMAT)) ∧
      (s.keyState c = ksOwned → halvesEqual key = false → ∃ u : State, exec (.contextKey who c key) s = .next (u.answer who Obj.CONTEXT_KEY c 0)
        ∧ u.keyState c = ksKeyed ∧ u.contextKeys c = { s.contextKeys c with xts := some (key % 2 ^ 512) }
        ∧ (∀ a, ¬(s.regF Obj.HBM_REGION c 0 ≤ a / unitBytes ∧ a / unitBytes < s.regF Obj.HBM_REGION c 0 + s.regF Obj.HBM_REGION c 1) →
            u.hbm.mem.get a = s.hbm.mem.get a)
        ∧ SameRegs s u [Obj.CONTEXT_KEY_STATE.key c] ∧ u = { s with objs := u.objs, sec := u.sec, hbm := u.hbm, freeCtr := u.freeCtr })) ∧
    (∀ who c key, Takes s who Obj.CONTEXT_TRANSFER_KEY c true →
      (s.keyState c = ksFree → exec (.contextTransferKey who c key) s = .next (s.answer who Obj.CONTEXT_TRANSFER_KEY c Abort.KEY_STATE)) ∧
      (s.keyState c ≠ ksFree → ∃ u : State, exec (.contextTransferKey who c key) s = .next (u.answer who Obj.CONTEXT_TRANSFER_KEY c 0)
        ∧ u.contextKeys c = { s.contextKeys c with
            transfer := some (key % 2 ^ 256), keyId := ((s.contextKeys c).keyId + 1) % 256, received := none, sent := 0 }
        ∧ u = { s with sec := u.sec })) ∧
    (∀ who c key, Takes s who Obj.CONTEXT_KEY_NEXT c true →
      (s.keyState c ≠ ksKeyed → exec (.contextKeyNext who c key) s = .next (s.answer who Obj.CONTEXT_KEY_NEXT c Abort.KEY_STATE)) ∧
      (s.keyState c = ksKeyed → halvesEqual key = true →
        exec (.contextKeyNext who c key) s = .next (s.answer who Obj.CONTEXT_KEY_NEXT c Abort.KEY_FORMAT)) ∧
      (s.keyState c = ksKeyed → halvesEqual key = false → s.regF Obj.HBM_REGION c 1 ≠ 0 →
        ∃ u : State, exec (.contextKeyNext who c key) s = .next (u.answer who Obj.CONTEXT_KEY_NEXT c 0)
          ∧ u.keyState c = ksRotating ∧ u.reg Obj.KEY_ROTATE_CURSOR c = 0
          ∧ u.contextKeys c = { s.contextKeys c with next := some (key % 2 ^ 512) }
          ∧ SameRegs s u [Obj.CONTEXT_KEY_STATE.key c, Obj.KEY_ROTATE_CURSOR.key c] ∧ u = { s with objs := u.objs, sec := u.sec }) ∧
      (s.keyState c = ksKeyed → halvesEqual key = false → s.regF Obj.HBM_REGION c 1 = 0 →
        ∃ u : State, exec (.contextKeyNext who c key) s = .next (u.answer who Obj.CONTEXT_KEY_NEXT c 0)
          ∧ u.keyState c = ksKeyed ∧ u.reg Obj.KEY_ROTATE_CURSOR c = 0
          ∧ u.contextKeys c = { s.contextKeys c with xts := some (key % 2 ^ 512), next := none }
          ∧ SameRegs s u [Obj.CONTEXT_KEY_STATE.key c, Obj.KEY_ROTATE_CURSOR.key c] ∧ u = { s with objs := u.objs, sec := u.sec })) ∧
    (∀ who c, Takes s who Obj.CONTEXT_RELEASE c true →
      (s.keyState c = ksFree → exec (.contextRelease who c) s = .next (s.answer who Obj.CONTEXT_RELEASE c 0)) ∧
      (s.keyState c ≠ ksFree → ∃ u : State, exec (.contextRelease who c) s = .next (u.answer who Obj.CONTEXT_RELEASE c 0)
        ∧ ((∃ w, tfind u.rcv.active c = some w ∧ w.toFree = true) ∨ ∃ d, tfind u.rcv.deferred c = some d ∧ d.2 = true))) ∧
    (∀ who, Takes s who Obj.SEC_FUSE_COMMIT 0 false →
      (∀ k, k = 0 ∨ 4 < k ∨ 64 ≤ s.fusedSvn k → exec (.secFuseSvn who k) s = .next (s.answer who Obj.SEC_FUSE_COMMIT 0 Abort.VALUE_RANGE)) ∧
      (∀ k, 3 < k → exec (.secFuseRevoke who k) s = .next (s.answer who Obj.SEC_FUSE_COMMIT 0 Abort.VALUE_RANGE)) ∧
      (∀ k, 1 ≤ k → k ≤ 4 → s.fusedSvn k < 64 →
        ((s.running k).svn ≤ s.fusedSvn k → exec (.secFuseSvn who k) s = .next (s.answer who Obj.SEC_FUSE_COMMIT 0 Abort.FUSE_REFUSED)) ∧
        (s.fusedSvn k < (s.running k).svn → ∃ u : State, exec (.secFuseSvn who k) s = .next (u.answer who Obj.SEC_FUSE_COMMIT 0 0)
          ∧ u.fusedSvn k = s.fusedSvn k + 1 ∧ (∀ i, i ≠ 1 + k → u.regF Obj.SEC_FUSES 0 i = s.regF Obj.SEC_FUSES 0 i)
          ∧ SameRegs s u [Obj.SEC_FUSES.key 0] ∧ u = { s with objs := u.objs })) ∧
      (∀ k, k < 4 →
        ((∃ e ∈ s.sec.images, e.2.keyIndex = k) → exec (.secFuseRevoke who k) s = .next (s.answer who Obj.SEC_FUSE_COMMIT 0 Abort.FUSE_REFUSED)) ∧
        ((∀ e ∈ s.sec.images, e.2.keyIndex ≠ k) → ∃ u : State, exec (.secFuseRevoke who k) s = .next (u.answer who Obj.SEC_FUSE_COMMIT 0 0)
          ∧ (∀ j, bit (u.regF Obj.SEC_FUSES 0 1) j = (bit (s.regF Obj.SEC_FUSES 0 1) j || decide (k = j)))
          ∧ SameRegs s u [Obj.SEC_FUSES.key 0] ∧ u = { s with objs := u.objs })) ∧
      ((∃ e ∈ s.sec.images, e.2.mldsa = false) → exec (.secFuseSigPolicy who) s = .next (s.answer who Obj.SEC_FUSE_COMMIT 0 Abort.FUSE_REFUSED)) ∧
      ((∀ e ∈ s.sec.images, e.2.mldsa = true) → ∃ u : State, exec (.secFuseSigPolicy who) s = .next (u.answer who Obj.SEC_FUSE_COMMIT 0 0)
        ∧ u.regF Obj.SEC_FUSES 0 0 = 1 ∧ SameRegs s u [Obj.SEC_FUSES.key 0] ∧ u = { s with objs := u.objs })) ∧
    (∀ who v, Takes s who Obj.DEBUG_UNLOCK 0 false →
      (v = 1 ∧ s.engineering = true ∧ s.serviceSession who = true → ∃ u : State, exec (.debugUnlock who v) s
        = .next (u.answer who Obj.DEBUG_UNLOCK 0 0) ∧ tfind u.waitReset (Obj.DEBUG_UNLOCK.key 0) = some [1]
        ∧ u = { s with waitReset := u.waitReset }) ∧
      (v ≠ 1 ∨ s.engineering = false ∨ s.serviceSession who = false →
        exec (.debugUnlock who v) s = .next (s.answer who Obj.DEBUG_UNLOCK 0 Abort.DEBUG_NOT_PERMITTED))) ∧
    exec (.jtagInstructionLoad false) s = .next { s with sec := { s.sec with jtagDrives := false } } ∧
    (s.devState < dsBoot ∨ s.rcv.resetting.isSome = true → exec .zeroiseTrigger s = .next s)

/-- EXTEST, CLAMP, HIGHZ and INTEST zeroise the device (19_pins_and_interfaces R544), as the other events of 16_security R467 do: every
tenant key, transfer key, the service key and the keys of every spoke that was up are gone, every tenant context is FREE, record 0x090 is
the newest of the log, and the device is in FAULT. -/
def Obligations.DrivingInstructionsZeroise : Prop :=
  ∀ (s : State), dsBoot ≤ s.devState → s.rcv.resetting = none → s.waitsRight →
    ∀ i ∈ [Instr.jtagInstructionLoad true, .zeroiseTrigger], ∃ t, exec i s = .next t ∧ t.devState = dsFault
      ∧ t.sec.serviceKey = none
      ∧ (∀ c, (t.contextKeys c).xts = none ∧ (t.contextKeys c).next = none ∧ (t.contextKeys c).transfer = none)
      ∧ (∀ c, 1 ≤ c → c < 16 → t.keyState c = ksFree)
      ∧ (∀ p, p < 18 → s.spokeUp p = true → (t.spoke p).txKey = none ∧ (t.spoke p).rxKey = none)
      ∧ ∃ r, t.log.ring.getLast? = some r ∧ r.code = 0x090

/-- Sealed transfers (16_security R463, 19_pins_and_interfaces R537). An inbound chunk is written to its context's memory and its counter
noted only when its form, key, stream, tag, counter and range are right; else its slot is REJECTED with a reason that applies (where
several do, the order is the model's choice, notes/assumptions/37). An outbound chunk leaves under the next counter.
It rests on model choices: notes/assumptions/99, notes/assumptions/100, notes/assumptions/101. -/
def Obligations.SealedChunksAreChecked : Prop :=
  ∀ (s : State) (f v irq header : Nat),
    (s.power.perst = true → (∀ b tag, exec (.sealSubmitInbound f v irq header b tag) s = .next s) ∧ exec (.sealSubmitOutbound f v irq header) s = .next s) ∧
    (s.windowServes f = true → (64 ≤ v → ∀ b tag, exec (.sealSubmitInbound f v irq header b tag) s = .next s) ∧
      (v < 64 ∨ 128 ≤ v → exec (.sealSubmitOutbound f v irq header) s = .next s)) ∧
    (s.power.perst = false → s.windowServes f = false →
      (∀ b tag, exec (.sealSubmitInbound f v irq header b tag) s = .next (s.bump Obj.DOORBELL_DISCARD_COUNT 0)) ∧
      exec (.sealSubmitOutbound f v irq header) s = .next (s.bump Obj.DOORBELL_DISCARD_COUNT 0)) ∧
    (s.windowServes f = true → header < 2 ^ 256 →
      let c := shContext header;
      (∀ b tag, v < 64 → tag < 2 ^ 128 →
        let ok := sealForm header 0 = true ∧ b.length = shLength header ∧ s.ideSecure f = true
          ∧ shKeyId header = (s.contextKeys c).keyId ∧ (∃ k, (s.contextKeys c).transfer = some k ∧ tag = sealTag k header b)
          ∧ (∀ n, (s.contextKeys c).received = some n → n < shCounter header) ∧ s.sealRange header = true;
        let slot : SealSlot := { state := 2, header := header, payload := b, tag := tag };
        (ok → ∃ (t : State) (k : Nat), exec (.sealSubmitInbound f v irq header b tag) s = .next t
          ∧ tfind t.sec.seals (128 * f + v) = some slot ∧ (s.contextKeys c).transfer = some k
          ∧ t.contextKeys c = { s.contextKeys c with received := some (shCounter header) }
          ∧ t.hbm = ((s.setKeys c { s.contextKeys c with received := some (shCounter header) }).ctxWrite c (shOffset header)
              (sealCrypt k header b)).2.hbm) ∧
        (¬ok → ∃ (t : State) (r : Nat), exec (.sealSubmitInbound f v irq header b tag) s = .next t
          ∧ tfind t.sec.seals (128 * f + v) = some { slot with state := 3, reason := r }
          ∧ ((r = whyFormat ∧ (sealForm header 0 = false ∨ b.length ≠ shLength header)) ∨ (r = whyNoKey ∧ (s.contextKeys c).transfer = none)
            ∨ (r = whyNotSecure ∧ s.ideSecure f = false) ∨ (r = whyKeyId ∧ shKeyId header ≠ (s.contextKeys c).keyId)
            ∨ (r = whyTag ∧ ∃ k, (s.contextKeys c).transfer = some k ∧ tag ≠ sealTag k header b)
            ∨ (r = whyCounter ∧ ∃ n, (s.contextKeys c).received = some n ∧ shCounter header ≤ n) ∨ (r = whyRange ∧ s.sealRange header = false))
          ∧ t.reg Obj.SEAL_REJECT_COUNT c = satAdd 8 (s.reg Obj.SEAL_REJECT_COUNT c) 1 ∧ SameRegs s t [Obj.SEAL_REJECT_COUNT.key c]
          ∧ t.sec.keys = s.sec.keys ∧ t = { s with objs := t.objs, sec := t.sec, out := t.out })) ∧
      (64 ≤ v → v < 128 →
        let ok := sealForm header 1 = true ∧ shKeyId header = 0 ∧ shCounter header = 0 ∧ s.ideSecure f = true
          ∧ (s.contextKeys c).transfer.isSome = true ∧ s.sealRange header = true;
        (ok → ∃ (t : State) (k : Nat) (x : SealSlot), exec (.sealSubmitOutbound f v irq header) s = .next t
          ∧ (s.contextKeys c).transfer = some k ∧ tfind t.sec.seals (128 * f + v) = some x ∧ x.state = 2
          ∧ x.header = header + place (s.contextKeys c).keyId 240 8 + place (s.contextKeys c).sent 176 64
          ∧ x.payload = sealCrypt k x.header (s.ctxRead c (shOffset header) (shLength header) 13).1.bytes
          ∧ x.tag = sealTag k x.header x.payload ∧ t.contextKeys c = { s.contextKeys c with sent := (s.contextKeys c).sent + 1 }) ∧
        (¬ok → ∃ (t : State) (r : Nat), exec (.sealSubmitOutbound f v irq header) s = .next t
          ∧ tfind t.sec.seals (128 * f + v) = some { state := 3, reason := r, header := header } ∧ r ≠ 0
          ∧ t.reg Obj.SEAL_REJECT_COUNT c = satAdd 8 (s.reg Obj.SEAL_REJECT_COUNT c) 1 ∧ t.sec.keys = s.sec.keys
          ∧ t = { s with objs := t.objs, sec := t.sec, out := t.out })))

/-- Firmware update (17_object_dictionary R495, R496, R481; 19_pins_and_interfaces R541, R542). An image is written to a copy that does
not run, in order and within its size; FINISH starts the check, whose end says whether the image is genuine; a copy of four genuine
images may become the preferred one; CANCEL ends an update.
It rests on model choices: notes/assumptions/114, notes/assumptions/115, notes/assumptions/116. -/
def Obligations.FirmwareUpdateRuns : Prop :=
  ∀ (s : State) (who : Who),
    let st := s.regF Obj.FW_UPDATE_STATUS 0 0; let got := s.regF Obj.FW_UPDATE_STATUS 0 3; let len := s.dict.updateLength
    let o := Obj.FW_UPDATE_CONTROL
    (Takes s who o 0 false → ∀ kind copy length,
      (kind = 0 ∨ 4 < kind ∨ 1 < copy ∨ 2 ^ 32 ≤ length →
        exec (.fwUpdateBegin who kind copy length) s = .next (s.answer who o 0 Abort.VALUE_RANGE)) ∧
      (1 ≤ kind → kind ≤ 4 → copy ≤ 1 → length < 2 ^ 32 →
        let place := 4 * copy + kind - 1
        let others := (([2, 3, 4].filter (· != kind)).map (fun k => tget 0 s.flash.lengths (4 * copy + k - 1))).sum
        let tooLong := (kind = 1 ∧ 12582912 < length) ∨ (kind ≠ 1 ∧ 67108864 < length + others)
        (st = 1 ∨ st = 2 ∨ tooLong → exec (.fwUpdateBegin who kind copy length) s = .next (s.answer who o 0 Abort.UPDATE_STATE)) ∧
        (st ≠ 1 → st ≠ 2 → ¬tooLong → copy = s.runningCopy →
          exec (.fwUpdateBegin who kind copy length) s = .next (s.answer who o 0 Abort.UPDATE_COPY_IN_USE)) ∧
        (st ≠ 1 → st ≠ 2 → ¬tooLong → copy ≠ s.runningCopy →
          ∃ u : State, exec (.fwUpdateBegin who kind copy length) s = .next (u.answer who o 0 0)
            ∧ (∀ i, i < 5 → u.regF Obj.FW_UPDATE_STATUS 0 i = [1, kind, copy, 0, 0].getD i 0)
            ∧ (∀ j, bit u.flash.genuine j = (bit s.flash.genuine j && decide (j ≠ place)))
            ∧ u.flash = { s.flash with lengths := tset s.flash.lengths place length, genuine := u.flash.genuine }
            ∧ u.dict = { s.dict with updateLength := length } ∧ SameRegs s u [Obj.FW_UPDATE_STATUS.key 0]
            ∧ u = { s with objs := u.objs, flash := u.flash, dict := u.dict }))) ∧
    (Takes s who Obj.FW_UPDATE_DATA 0 false → ∀ b : Bytes,
      (b.length < 32 ∨ 4096 < b.length → exec (.fwUpdateData who b) s = .next (s.answer who Obj.FW_UPDATE_DATA 0 Abort.VALUE_RANGE)) ∧
      (32 ≤ b.length → b.length ≤ 4096 →
        (st ≠ 1 ∨ len < got + b.length → exec (.fwUpdateData who b) s = .next (s.answer who Obj.FW_UPDATE_DATA 0 Abort.UPDATE_STATE)) ∧
        (st = 1 → got + b.length ≤ len →
          (b.length % 32 ≠ 0 → got + b.length ≠ len →
            exec (.fwUpdateData who b) s = .next (s.answer who Obj.FW_UPDATE_DATA 0 Abort.VALUE_RANGE)) ∧
          (b.length % 32 = 0 ∨ got + b.length = len →
            ∃ u : State, exec (.fwUpdateData who b) s = .next (u.answer who Obj.FW_UPDATE_DATA 0 0)
              ∧ u.regF Obj.FW_UPDATE_STATUS 0 3 = got + b.length
              ∧ (∀ i, i ≠ 3 → u.regF Obj.FW_UPDATE_STATUS 0 i = s.regF Obj.FW_UPDATE_STATUS 0 i)
              ∧ SameRegs s u [Obj.FW_UPDATE_STATUS.key 0] ∧ u = { s with objs := u.objs })))) ∧
    (Takes s who o 0 false →
      (st ≠ 1 ∨ got ≠ len → exec (.fwUpdateFinish who) s = .next (s.answer who o 0 Abort.UPDATE_STATE)) ∧
      (st = 1 → got = len → ∃ u : State, exec (.fwUpdateFinish who) s = .next (u.answer who o 0 0)
        ∧ u.regF Obj.FW_UPDATE_STATUS 0 0 = 2 ∧ u.dict = { s.dict with updater := some (Who.number who) }
        ∧ (∀ i, i ≠ 0 → u.regF Obj.FW_UPDATE_STATUS 0 i = s.regF Obj.FW_UPDATE_STATUS 0 i)
        ∧ SameRegs s u [Obj.FW_UPDATE_STATUS.key 0] ∧ u = { s with objs := u.objs, dict := u.dict }) ∧
      (∃ u : State, exec (.fwUpdateCancel who) s = .next (u.answer who o 0 0)
        ∧ u.regF Obj.FW_UPDATE_STATUS 0 0 = 0 ∧ u.dict.updater = none
        ∧ (∀ i, i ≠ 0 → u.regF Obj.FW_UPDATE_STATUS 0 i = s.regF Obj.FW_UPDATE_STATUS 0 i)
        ∧ SameRegs s u [Obj.FW_UPDATE_STATUS.key 0] ∧ u = { s with objs := u.objs, dict := u.dict }) ∧
      (∀ copy ok, (1 < copy → exec (.setPreferred who copy ok) s = .next (s.answer who o 0 Abort.VALUE_RANGE)) ∧
        (copy ≤ 1 → st = 1 ∨ st = 2 → exec (.setPreferred who copy ok) s = .next (s.answer who o 0 Abort.UPDATE_STATE)) ∧
        (copy ≤ 1 → st ≠ 1 → st ≠ 2 →
          let all := ∀ k, 1 ≤ k → k ≤ 4 → bit s.flash.genuine (4 * copy + k - 1) = true
          (¬all → exec (.setPreferred who copy ok) s = .next (s.answer who o 0 Abort.UPDATE_NOT_GENUINE)) ∧
          (all → ok = false → exec (.setPreferred who copy ok) s = .next (s.answer who o 0 Abort.FLASH_FAILED)) ∧
          (all → ok = true → ∃ u : State, exec (.setPreferred who copy ok) s = .next (u.answer who o 0 0)
            ∧ u = { s with flash := u.flash } ∧ u.flash = { s.flash with header0 := u.flash.header0, header1 := u.flash.header1 }
            ∧ (let h := { s.flash.header with seq := (s.flash.header.seq + 1) % 2 ^ 32, preferred := copy, valid := true }
               (s.flash.header = s.flash.header0 → u.flash.header0 = s.flash.header0 ∧ u.flash.header1 = h) ∧
               (s.flash.header ≠ s.flash.header0 → u.flash.header0 = h ∧ u.flash.header1 = s.flash.header1)))))) ∧
    (∀ i, (st ≠ 2 ∨ s.answers = false → exec (.pendingActionDone i) s = .next s) ∧
      (st = 2 → s.answers = true →
        let kind := s.regF Obj.FW_UPDATE_STATUS 0 1; let place := 4 * s.regF Obj.FW_UPDATE_STATUS 0 2 + kind - 1
        ∃ t, exec (.pendingActionDone i) s = .next t
          ∧ t.regF Obj.FW_UPDATE_STATUS 0 0 = (if s.imageFails i kind = 0 then 3 else 4)
          ∧ (s.imageFails i kind = 0 → t.regF Obj.FW_UPDATE_STATUS 0 4 = 0)
          ∧ (∀ j, bit t.flash.genuine j = if j = place then s.imageFails i kind == 0 else bit s.flash.genuine j)
          ∧ t.flash = { s.flash with genuine := t.flash.genuine } ∧ t.dict.updater = none
          ∧ (∀ r k, s.dict.updater = some r → tfind s.dict.kept r = some k → k.pending = true →
              tfind t.dict.kept r = some { k with pending := false, header := k.header - 2 ^ 242 })
          ∧ SameRegs s t [Obj.FW_UPDATE_STATUS.key 0] ∧ t = { s with objs := t.objs, flash := t.flash, dict := t.dict })) ∧
    (∀ v, Takes s who Obj.FLASH_RESTORE_DEFAULTS 0 false →
      (v ≠ 1 → exec (.flashRestoreDefaults who v) s = .next (s.answer who Obj.FLASH_RESTORE_DEFAULTS 0 Abort.VALUE_RANGE)) ∧
      (v = 1 → exec (.flashRestoreDefaults who v) s
        = .next (({ s with flash := { s.flash with restore := true } } : State).answer who Obj.FLASH_RESTORE_DEFAULTS 0 0)))

/-- The sizes of flash images (19_pins_and_interfaces R542): a BEGIN whose LENGTH would take the loader of a copy beyond 12 MiB, or its
other three images together beyond 64 MiB, is refused with UPDATE_STATE, and no BEGIN leaves a copy beyond them. -/
def Obligations.FlashCopiesKeepTheirSizes : Prop :=
  ∀ (s : State) (who : Who) (kind copy length : Nat),
    let loader := fun (t : State) (c : Nat) => tget 0 t.flash.lengths (4 * c)
    let others := fun (t : State) (c : Nat) => tget 0 t.flash.lengths (4 * c + 1) + tget 0 t.flash.lengths (4 * c + 2)
      + tget 0 t.flash.lengths (4 * c + 3)
    (Takes s who Obj.FW_UPDATE_CONTROL 0 false → copy ≤ 1 → 1 ≤ kind → kind ≤ 4 → length < 2 ^ 32 →
      (kind = 1 ∧ 12 * 2 ^ 20 < length) ∨ (2 ≤ kind ∧ 64 * 2 ^ 20 < length + others s copy - tget 0 s.flash.lengths (4 * copy + kind - 1)) →
      exec (.fwUpdateBegin who kind copy length) s = .next (s.answer who Obj.FW_UPDATE_CONTROL 0 0x0A100001)) ∧
    ∀ t, exec (.fwUpdateBegin who kind copy length) s = .next t → ∀ c, c ≤ 1 →
      loader s c ≤ 12 * 2 ^ 20 ∧ others s c ≤ 64 * 2 ^ 20 → loader t c ≤ 12 * 2 ^ 20 ∧ others t c ≤ 64 * 2 ^ 20

/-- Clocks, voltage and throttling (18_clocks_power_reset R505, R506, R511-R519). A die's facets run at the lowest of its ceilings; a
quad's rise waits for a confirmed voltage; a rail that leaves three commands in a row unanswered has failed; each mechanism moves its
own ceiling or duty by a step, and the registers show what holds. The order of the cap loop's steps is as R515 gives it.
It rests on model choices: notes/assumptions/88, notes/assumptions/89, notes/assumptions/90, notes/assumptions/91,
notes/assumptions/92, notes/assumptions/93. -/
def Obligations.ThrottlingHoldsItsCeilings : Prop :=
  ∀ (s : State),
    (∀ d, let c := min (s.reg Obj.FACET_CLOCK_LIMIT_MHZ) (min s.power.capMHz (min (tget 2100 s.power.thermal d) (tget 2100 s.power.current d)));
      s.ceiling d = if s.power.therm = true ∨ s.regF Obj.AVS_STATUS d 2 = 1 then min c 1200 else c) ∧
    (dsBoot ≤ s.devState → ∀ t, t = s.showClocks →
      (∀ q, q < 48 → t.regF Obj.CLOCK_DOMAIN_INFO q 3 = s.quadDuty q ∧ t.regF Obj.CLOCK_DOMAIN_INFO q 2 = s.regF Obj.CLOCK_DOMAIN_INFO q 2)
      ∧ (∀ d, d < 2 → t.reg Obj.FACET_CLOCK_NOW d = s.dieMHz d ∧ t.regF Obj.THROTTLE_STATUS 0 (1 + d) = s.ceiling d)
      ∧ (∀ k, k < 8 → bit (t.regF Obj.THROTTLE_STATUS 0 0) k = [decide (s.power.capMHz < 2100 ∨ s.power.capDuty < 16),
          decide (tget 2100 s.power.thermal 0 < 2100), decide (tget 2100 s.power.thermal 1 < 2100),
          decide (tget 2100 s.power.current 0 < 2100 ∨ 0 ∈ s.power.hold), decide (tget 2100 s.power.current 1 < 2100 ∨ 1 ∈ s.power.hold),
          s.power.therm, decide (s.regF Obj.AVS_STATUS 0 2 = 1 ∨ s.regF Obj.AVS_STATUS 1 2 = 1), s.power.unreachable].getD k false)
      ∧ t = { s with objs := t.objs }) ∧
    (∀ q, let d := q / 24; let f := s.quadMHz q; let c := s.ceiling d; let v := coreMillivolts c;
      (48 ≤ q ∨ s.serving = false ∨ q ∈ s.power.switched ∨ f = c → exec (.quadClockSwitch q) s = .next s) ∧
      (q < 48 → s.serving = true → q ∉ s.power.switched →
        (f < c → v ≤ s.volts d → ∃ t, exec (.quadClockSwitch q) s = .next t ∧ t.quadMHz q = c ∧ q ∈ t.power.switched
          ∧ (∀ r, r < 48 → r ≠ q → t.quadMHz r = s.quadMHz r) ∧ t.power.asked = s.power.asked ∧ t = { s with objs := t.objs, power := t.power }) ∧
        (f < c → s.volts d < v →
          ((s.regF Obj.AVS_STATUS d 2 = 1 ∨ (tfind s.power.asked d).isSome = true) → exec (.quadClockSwitch q) s = .next s) ∧
          (s.regF Obj.AVS_STATUS d 2 ≠ 1 → tfind s.power.asked d = none → exec (.quadClockSwitch q) s = .next { s with
            power := { s.power with asked := tset s.power.asked d v }, out := s.out ++ [.avs d v] })) ∧
        (c < f → ∃ t, exec (.quadClockSwitch q) s = .next t ∧ t.quadMHz q = c ∧ q ∈ t.power.switched
          ∧ (∀ r, r < 48 → r ≠ q → t.quadMHz r = s.quadMHz r)
          ∧ (t.power.asked = s.power.asked ∨ ∃ mv, mv < s.volts d ∧ (∀ r, r < 48 → r / 24 = d → coreMillivolts (t.quadMHz r) ≤ mv)
              ∧ t.power.asked = tset s.power.asked d mv ∧ .avs d mv ∈ t.out)))) ∧
    (∀ d mv da, (2 ≤ d ∨ s.regF Obj.AVS_STATUS d 2 = 1 → exec (.avsReply d mv da) s = .next s) ∧
      (d < 2 → s.regF Obj.AVS_STATUS d 2 ≠ 1 → ∃ t, exec (.avsReply d mv da) s = .next t
        ∧ t.regF Obj.AVS_STATUS d 0 = mv % 65536 ∧ t.regF Obj.AVS_STATUS d 1 = da % 65536
        ∧ (tfind s.power.asked d = some mv → t.volts d = mv ∧ tfind t.power.asked d = none)
        ∧ (tfind s.power.asked d ≠ some mv → t.power = s.power) ∧ SameRegs s t [Obj.AVS_STATUS.key d] ∧ t = { s with objs := t.objs, power := t.power })) ∧
    (∀ d n, (2 ≤ d ∨ s.regF Obj.AVS_STATUS d 2 = 1 → exec (.avsTimeout d n) s = .next s) ∧
      (d < 2 → s.regF Obj.AVS_STATUS d 2 ≠ 1 → ∃ t, exec (.avsTimeout d n) s = .next t
        ∧ t.regF Obj.AVS_STATUS d 2 = (if 3 ≤ n then 1 else s.regF Obj.AVS_STATUS d 2)
        ∧ t.power = { s.power with asked := if 3 ≤ n then terase s.power.asked d else s.power.asked } ∧ t = { s with objs := t.objs, power := t.power })) ∧
    (∀ watts mean peak amps rails, (s.devState < dsBoot → exec (.powerTick watts mean peak amps rails) s = .next s) ∧
      (dsBoot ≤ s.devState → ∃ t, exec (.powerTick watts mean peak amps rails) s = .next t
        ∧ (∀ i, i < 3 → t.regF Obj.POWER_NOW 0 i = min ([watts, mean, peak].getD i 0) 65535)
        ∧ (∀ i, i < 24 → t.regF Obj.RAIL_STATUS 0 i = rails.getD i 0 % 256 ^ (if i % 2 = 0 then 2 else 4)) ∧ t.power.switched = []
        ∧ (let limit := s.reg Obj.FACET_CLOCK_LIMIT_MHZ; let cap := s.reg Obj.POWER_CAP_W; let p := s.power; let q := t.power;
          let down := fun (c : Nat) => max 1200 (min c limit - 25); let up := fun (c : Nat) => min 2100 (c + 25);
          (cap < watts → 1200 < min p.capMHz limit → q.capMHz = down p.capMHz ∧ q.capDuty = p.capDuty) ∧
          (cap < watts → min p.capMHz limit ≤ 1200 → 2 < p.capDuty → q.capDuty = p.capDuty - 1) ∧
          (cap < watts → min p.capMHz limit ≤ 1200 → p.capDuty ≤ 2 → q.unreachable = true ∧ q.capMHz = p.capMHz ∧ q.capDuty = p.capDuty) ∧
          (watts ≤ cap → q.unreachable = false) ∧
          (watts ≤ cap → 98 * cap ≤ 100 * watts → q.below = 0 ∧ q.capMHz = p.capMHz ∧ q.capDuty = p.capDuty) ∧
          (watts ≤ cap → 100 * watts < 98 * cap → p.below < 9 → q.below = p.below + 1 ∧ q.capMHz = p.capMHz ∧ q.capDuty = p.capDuty) ∧
          (watts ≤ cap → 100 * watts < 98 * cap → 9 ≤ p.below → q.below = 0 ∧
            (p.capDuty < 16 → q.capDuty = p.capDuty + 1 ∧ q.capMHz = p.capMHz) ∧ (16 ≤ p.capDuty → q.capMHz = up p.capMHz)) ∧
          (∀ d, d < 2 → let a := amps.getD d 0; let c := tget 2100 p.current d;
            tget 2100 q.current d = if 1000 < a then down c else if a < 950 then up c else c) ∧
          (∀ d, d < 2 → tget 2100 q.thermal d =
            if d ∈ p.hot ∧ s.calibrating d = false then down (tget 2100 p.thermal d) else tget 2100 p.thermal d)))) ∧
    (∀ d, d < 2 → dsBoot ≤ s.devState → ∃ t, exec (.overcurrent d) s = .next t ∧ d ∈ t.power.hold
      ∧ (∀ q, q < 48 → q / 24 = d → t.regF Obj.CLOCK_DOMAIN_INFO q 3 ≤ 8)) ∧
    (∀ d, 2 ≤ d ∨ s.devState < dsBoot → exec (.overcurrent d) s = .next s) ∧
    (∀ d, ∃ t, exec (.overcurrentHoldEnd d) s = .next t ∧ t.power = { s.power with hold := t.power.hold } ∧ (∀ e, e ∈ t.power.hold ↔ e ∈ s.power.hold ∧ e ≠ d)) ∧
    (∀ temps, s.devState < dsBoot → exec (.thermalSample temps) s = .next s) ∧
    (∀ temps : List Int, let t := fun i => temps.getD i 0; let trips := fun i => i < 11 ∧ tripPoint i ≤ t i;
      dsBoot ≤ s.devState →
        ((∀ i, trips i → i ∉ s.power.tripping) ∨ s.rcv.resetting.isSome = true → ∃ u, exec (.thermalSample temps) s = .next u
          ∧ (∀ i, i < 11 → u.regF Obj.THERMAL_NOW 0 i = ofInt 32 (t i))
          ∧ (∀ d, d < 2 → let point : Int := 16 * (s.reg Obj.THERMAL_THROTTLE_C : Int);
              (d ∈ u.power.hot ↔ point ≤ t d ∨ (d ∈ s.power.hot ∧ point - 48 ≤ t d)))
          ∧ (∀ k, k < 8 → tget 0 u.power.stackHot k = stackLevel (tget 0 s.power.stackHot k) (t (3 + k)))
          ∧ (1600 ≤ t 2 → s.power.iodHot = false → u.regF Obj.ALARM_STATUS 0 2 = 1)
          ∧ (∀ i, i ∈ u.power.tripping ↔ trips i) ∧ u.rcv = s.rcv ∧ u.devState = s.devState) ∧
        ((∃ i, trips i ∧ i ∈ s.power.tripping) → s.rcv.resetting = none → ∃ u, exec (.thermalSample temps) s = .next u
          ∧ s.Restarted u 2 ∧ u.reg Obj.THERMAL_TRIP_COUNT = satAdd 4 (s.reg Obj.THERMAL_TRIP_COUNT) 1)) ∧
    (∀ d, (d ∈ s.power.hot ∨ s.calibrating d = true → exec (.thermalCeilingRaise d) s = .next s) ∧
      (d ∉ s.power.hot → s.calibrating d = false → ∃ t, exec (.thermalCeilingRaise d) s = .next t
        ∧ tget 2100 t.power.thermal d = min 2100 (tget 2100 s.power.thermal d + 25) ∧ t.power = { s.power with thermal := t.power.thermal }
        ∧ (∀ e, e ≠ d → tget 2100 t.power.thermal e = tget 2100 s.power.thermal e) ∧ t = { s with objs := t.objs, power := t.power })) ∧
    (∃ t, exec .thermNLow s = .next t ∧ t.power = { s.power with therm := true } ∧ (∀ d, t.ceiling d ≤ 1200) ∧ t = { s with objs := t.objs, power := t.power }) ∧
    (∃ t, exec .thermNHigh s = .next t ∧ t.power = { s.power with therm := false } ∧ t = { s with objs := t.objs, power := t.power })

/-- Power, the reference and the reset pins (18_clocks_power_reset R501, R502, R510, R520-R526; 15_faults_and_recovery R404, R420, R437;
19_pins_and_interfaces R533, R536). PWRGD latches the straps and begins the qualification of the reference; a lost reference, PLL or
rail resets the device, and a lost SPLL takes its spoke down; power loss leaves only what flash and fuses hold; the reset pins and the
link's events act as their rules say.
It rests on model choices: notes/assumptions/78, notes/assumptions/94, notes/assumptions/95. -/
def Obligations.PowerAndResetPinsAct : Prop :=
  ∀ (s : State),
    let counts := fun (t : State) => t.power.counting = true ∧ ∀ d, d = 100 ∨ d = 101 → ∀ i, i < 5 →
      t.regF Obj.CLOCK_DOMAIN_INFO d i = [1, 0, 100000, 16, 0].getD i 0;
    let runs := dsBoot ≤ s.devState ∧ s.rcv.resetting = none;
    (∀ q m a, (s.devState ≠ dsOff → s.power.down = false → exec (.pwrgdRise q m a) s = .next s) ∧
      (s.devState = dsOff ∨ s.power.down = true → ∃ t, exec (.pwrgdRise q m a) s = .next t ∧ t.devState = dsRefQualify
        ∧ t.reg Obj.REFQ_SEL = q % 8 ∧ t.regF Obj.STRAP_STATUS 0 1 = m % 2 ∧ t.regF Obj.STRAP_STATUS 0 2 = a % 4
        ∧ t.regF Obj.MGMT_PORT_INFO 0 1 = 0x60 + a % 4 ∧ (∀ n, n < 41 → t.reg Obj.PLL_STATUS n = 0) ∧ t.power.down = false
        ∧ (s.power.edges = true → counts t) ∧ t.flash = s.flash ∧ t.items = s.items)) ∧
    (∃ t, exec .refclkEdgesPresent s = .next t ∧ t.power.edges = true ∧ (s.devState = dsRefQualify → counts t)
      ∧ (s.devState ≠ dsRefQualify → t.objs = s.objs ∧ t.power.counting = s.power.counting)) ∧
    (let q := s.devState = dsRefQualify ∧ s.power.counting = true;
      (¬q → exec .refQualifyDone s = .next s) ∧
      (q → ∃ t, exec .refQualifyDone s = .next t ∧ (∀ n, n < 41 → t.reg Obj.PLL_STATUS n = 1) ∧ t = { s with objs := t.objs })) ∧
    (let q := s.devState = dsRefQualify ∧ s.reg Obj.PLL_STATUS 0 = 1;
      (¬q → exec .pllLockTimeout s = .next s) ∧
      (q → ∃ t, exec .pllLockTimeout s = .next t ∧ (∀ n, n < 41 → t.reg Obj.PLL_STATUS n = 0) ∧ (s.power.edges = true → counts t)
        ∧ t = { s with objs := t.objs, power := t.power })) ∧
    (∃ t, exec .refLost s = .next t ∧ t.power.edges = false ∧ t.power.counting = false ∧
      (dsBoot ≤ s.devState → t.devState = dsRefQualify ∧ (∀ n, n < 41 → t.reg Obj.PLL_STATUS n = 0)
        ∧ (∀ d, d < 118 → t.regF Obj.CLOCK_DOMAIN_INFO d 0 = 0)) ∧
      (runs → t.regF Obj.REF_STATUS 0 1 = satAdd 4 (s.regF Obj.REF_STATUS 0 1) 1 ∧ s.Restarted t 1)) ∧
    (∀ n, (41 ≤ n ∨ s.devState < dsBoot → exec (.pllLockLoss n) s = .next s) ∧
      (n < 41 → dsBoot ≤ s.devState → ∃ t, exec (.pllLockLoss n) s = .next t ∧
        (20 ≤ n → n ≤ 37 → t.reg Obj.PLL_STATUS n = 3 ∧ t.spokeUp (n - 20) = false ∧ t.rcv = s.rcv ∧ t.devState = s.devState) ∧
        (n < 20 ∨ 37 < n → s.rcv.resetting = none → t.reg Obj.PLL_STATUS n = 3 ∧ s.Restarted t 1))) ∧
    (∀ r, (12 ≤ r ∨ ¬runs → exec (.railFault r) s = .next s) ∧
      (r < 12 → runs → ∃ t, exec (.railFault r) s = .next t ∧ s.Restarted t 2)) ∧
    (s.devState = dsOff ∨ s.power.down = true → exec .pwrgdFall s = .next s) ∧
    (s.devState ≠ dsOff → s.power.down = false → ∃ t, exec .pwrgdFall s = .next t ∧ t.power.down = true ∧ t.power.sysReset = false ∧
      (s.devState < dsBoot → t = { s with power := t.power }) ∧ (runs → s.Restarted t 2) ∧
      (dsBoot ≤ s.devState → s.rcv.resetting ≠ none → s.rcv.capturing = true → t.rcv.capturing = false ∧ t.reg Obj.CRASH_DUMP_STATE = 2)) ∧
    (∃ t, exec .powerLoss s = .next t ∧ t.flash = s.flash ∧ t.log.flash = s.log.flash ∧ t.log.ring = [] ∧ t.items = [] ∧ t.plans = []
      ∧ t.queues = [] ∧ t.hbm = {} ∧ t.fm = {} ∧ t.hup = {} ∧ t.dict = {} ∧ t.sec = { customerChain := s.sec.customerChain }
      ∧ t.rcv = { epochFlash := s.rcv.epochFlash } ∧ t.out = s.out ∧ t.waitReset = []
      ∧ (tfind s.flash.store (Obj.DEVICE_STATE.key 0) = none → t.devState = dsOff)
      ∧ (tfind s.flash.store (Obj.SEC_FUSES.key 0) = none → ∀ i, t.regF Obj.SEC_FUSES 0 i = s.regF Obj.SEC_FUSES 0 i)) ∧
    (∃ t, exec .sysResetNLow s = .next t ∧ (s.power.down = true ∨ s.devState = dsOff → t = s) ∧
      (s.power.down = false → s.devState ≠ dsOff → t.power.sysReset = true ∧ (runs → s.Restarted t 0)
        ∧ (¬runs → t = { s with power := { s.power with sysReset := true } }))) ∧
    exec .sysResetNRise s = .next { s with power := { s.power with sysReset := false } } ∧
    (∃ t, exec .perstNLow s = .next t ∧ t.power.perst = true ∧
      (s.power.down = true ∨ s.devState = dsOff → t = { s with power := t.power }) ∧
      (s.power.down = false → runs → s.reg Obj.PERST_SCOPE = 1 → s.Restarted t 0) ∧
      (s.power.down = false → s.devState ≠ dsOff → s.reg Obj.PERST_SCOPE ≠ 1 →
        (∀ i, i < 3 → t.regF Obj.PCIE_LINK_STATUS 0 i = 0) ∧ t.functionExists 1 = false ∧ t.sec.seals = [] ∧ t.sec.ideSelective = []
        ∧ (∀ n x, tfind t.sec.sessions n = some x → x.doe = none)
        ∧ ((∀ e ∈ s.sec.sessions, e.2.doe = none) → t.pins = { s.pins with d3hot := [] } ∧ t.sec.sessions = s.sec.sessions
          ∧ (∀ f, f < 16 → tfind t.dict.mailboxes f = none ∧ tfind t.dict.transfers f = none) ∧ SameRegs s t [Obj.PCIE_LINK_STATUS.key 0]))) ∧
    exec .perstNRise s = .next { s with power := { s.power with perst := false } } ∧
    (∀ rate width flit, (s.answers = false ∨ s.power.perst = true → exec (.pcieLinkUp rate width flit) s = .next s) ∧
      (s.answers = true → s.power.perst = false → ∃ t, exec (.pcieLinkUp rate width flit) s = .next t
        ∧ (∀ i, i < 3 → t.regF Obj.PCIE_LINK_STATUS 0 i = [rate % 256, width % 256, ofBool flit].getD i 0)
        ∧ t.regF Obj.PCIE_LINK_STATUS 0 3 = (if s.regF Obj.PCIE_LINK_STATUS 0 1 = 0 then s.regF Obj.PCIE_LINK_STATUS 0 3
            else satAdd 8 (s.regF Obj.PCIE_LINK_STATUS 0 3) 1)
        ∧ SameRegs s t [Obj.PCIE_LINK_STATUS.key 0] ∧ t = { s with objs := t.objs })) ∧
    (∀ n, (15 < n ∨ s.answers = false ∨ s.power.perst = true → exec (.vfEnableWrite n) s = .next s) ∧
      (n ≤ 15 → s.answers = true → s.power.perst = false → ∃ t, exec (.vfEnableWrite n) s = .next t
        ∧ (∀ f, t.functionExists f = decide (f ≤ n)) ∧ (∀ f, n < f → f < 16 → tfind t.dict.mailboxes f = none ∧ tfind t.dict.transfers f = none)
        ∧ t.queues = s.queues ∧ t.items = s.items ∧ SameRegs s t [Obj.PCIE_LINK_STATUS.key 0])) ∧
    (∀ f d3, let q := s.functionExists f = true ∧ s.answers = true ∧ s.power.perst = false;
      (¬q → exec (.powerStateWrite f d3) s = .next s) ∧
      (q → ∃ t, exec (.powerStateWrite f d3) s = .next t ∧ (∀ g, g ∈ t.pins.d3hot ↔ (g = f ∧ d3 = true) ∨ (g ≠ f ∧ g ∈ s.pins.d3hot))
        ∧ t = { s with pins := t.pins } ∧ t.pins = { s.pins with d3hot := t.pins.d3hot }))

/-- AUXIO pins, clock observation, triggers, the trace buffer and alarms (19_pins_and_interfaces R539, R546-R549;
18_clocks_power_reset R507). A function takes a pin by the ownership order, and one that needs a timer takes the lowest-numbered free one;
a request that the order does not grant is refused. Pulses, edges and clears act as their rules say.
It rests on model choices: notes/assumptions/32, notes/assumptions/33, notes/assumptions/65, notes/assumptions/66. -/
def Obligations.PinsFollowTheirOwners : Prop :=
  ∀ (s : State) (who : Who),
    let grants := fun (p f : Nat) => s.pinOwner p = 0xFF ∨ s.pinOwner p = f ∨ fnRank f < fnRank (s.pinOwner p) ∨ (f ≤ 1 ∧ s.pinOwner p ≤ 1);
    (∀ p f pol w par ok, Takes s who Obj.AUXIO_CONFIG p false →
      let tells := fun (code : Nat) => exec (.auxioConfigWrite who p f pol w par ok) s = .next (s.answer who Obj.AUXIO_CONFIG p code);
      let fits := f ≤ 6 ∧ pol ≤ 1 ∧ w < 2 ^ 32 ∧ par < 2 ^ 64 ∧ (f = 3 → 1000 ≤ w ∧ w ≤ 500000000)
        ∧ (f = 4 → 20 ≤ w ∧ 2 * w ≤ s.cad.period ∧ par ≤ 16);
      let timed := 3 ≤ f ∧ f ≤ 6;
      (¬fits → tells Abort.VALUE_RANGE) ∧ (fits → ¬grants p f → tells Abort.RESOURCE_OWNED) ∧
      (fits → grants p f → timed → s.pinOwner p = 0xFF → (∀ e ∈ s.pins.timers, e.2 ≠ .pin p) →
        (∀ n, n < 8 → (tfind s.pins.timers n).isSome = true) → (∀ e ∈ s.pins.timers, s.holderRank e.2 ≤ fnRank f) → tells Abort.RESOURCE_OWNED) ∧
      (fits → grants p f → ¬timed ∨ (s.pinOwner p = 0xFF ∧ ∃ n, n < 8 ∧ tfind s.pins.timers n = none) →
        (ok = false → exec (.auxioConfigWrite who p f pol w par ok) s = .next (({ s with flash := { s.flash with
          lastFailed := Obj.AUXIO_CONFIG.index } } : State).answer who Obj.AUXIO_CONFIG p Abort.FLASH_FAILED)) ∧
        (ok = true → ∃ u : State, exec (.auxioConfigWrite who p f pol w par ok) s = .next (u.answer who Obj.AUXIO_CONFIG p 0)
          ∧ u.pinOwner p = f ∧ (∀ i, i < 4 → u.regF Obj.AUXIO_CONFIG p i = [f, pol, w, par].getD i 0)
          ∧ (timed → (∀ e ∈ s.pins.timers, e.2 ≠ .pin p) → ∃ n, n < 8 ∧ tfind u.pins.timers n = some (.pin p)
              ∧ (∀ m, m < n → (tfind s.pins.timers m).isSome = true) ∧ u.regF Obj.AUXIO_STATE p 2 = n)
          ∧ SameRegs s u [Obj.AUXIO_CONFIG.key p, Obj.AUXIO_STATE.key p, Obj.CLKOBS.key 0]
          ∧ u = { s with objs := u.objs, pins := u.pins, flash := u.flash }))) ∧
    (∀ rank v, s.victim rank = some v → (∃ e ∈ s.pins.timers, e.2 = v) ∧ rank < s.holderRank v
      ∧ ∀ e ∈ s.pins.timers, s.holderRank e.2 ≤ s.holderRank v) ∧
    (∀ en src dv p, Takes s who Obj.CLKOBS 0 false →
      let tells := fun (code : Nat) => exec (.clkobsWrite who en src dv p) s = .next (s.answer who Obj.CLKOBS 0 code);
      let fits := (src < 118 ∨ src = 128) ∧ dv ≤ 16 ∧ p ≤ 7;
      (¬fits → tells Abort.VALUE_RANGE) ∧
      (fits → en = true → 100000 * 2 ^ dv < clockKHz src → tells Abort.VALUE_RANGE) ∧
      (fits → en = true → clockKHz src ≤ 100000 * 2 ^ dv → ¬grants p 7 → tells Abort.RESOURCE_OWNED) ∧
      (fits → en = true → clockKHz src ≤ 100000 * 2 ^ dv → grants p 7 → ∃ u : State, exec (.clkobsWrite who en src dv p) s
        = .next (u.answer who Obj.CLKOBS 0 0) ∧ u.pinOwner p = 7 ∧ (∀ i, i < 4 → u.regF Obj.CLKOBS 0 i = [1, src, dv, p].getD i 0)) ∧
      (fits → en = false → ∃ u : State, exec (.clkobsWrite who en src dv p) s = .next (u.answer who Obj.CLKOBS 0 0)
        ∧ (∀ i, i < 4 → u.regF Obj.CLKOBS 0 i = [0, src, dv, p].getD i 0)
        ∧ (s.regF Obj.CLKOBS 0 0 = 1 → s.pinOwner (s.regF Obj.CLKOBS 0 3) = 7 → u.pinOwner (s.regF Obj.CLKOBS 0 3) = 0xFF))) ∧
    (∀ p rising, let hit := s.pinOwner p = 5 ∧ (rising = true ↔ s.regF Obj.AUXIO_CONFIG p 1 = 0);
      (¬hit → exec (.trigInEdge p rising) s = .next s) ∧
      (hit → ∃ t, exec (.trigInEdge p rising) s = .next t
        ∧ (let l := tget [] s.objs (Obj.TRIG_LOG.key 0) ++ [p, ofBool (!rising), s.beat, s.cad.sec, s.cad.ns];
          tfind t.objs (Obj.TRIG_LOG.key 0) = some (if 320 < l.length then l.drop 5 else l))
        ∧ (s.regF Obj.TRACE_CONFIG 0 0 = 1 → t.pins.trace.countdown.isSome = true)
        ∧ SameRegs s t [Obj.TRIG_LOG.key 0, Obj.TRACE_CONFIG.key 0] ∧ t = { s with objs := t.objs, pins := t.pins })) ∧
    (∀ p, exec (.ppsOutPulse p) s = .next (if s.pinOwner p = 3 then { s with out := s.out ++ [.pulse p (s.regF Obj.AUXIO_CONFIG p 2)] } else s)) ∧
    (∀ p, s.pinOwner p = 4 → s.beat % 2 ^ s.regF Obj.AUXIO_CONFIG p 3 = 0 →
      s.pinEdge p = { s with out := s.out ++ [.pulse p (s.regF Obj.AUXIO_CONFIG p 2)] }) ∧
    (∀ holder after, Takes s who Obj.TRACE_CONFIG 0 false →
      let tells := fun (code : Nat) => exec (.traceConfigWrite who holder after) s = .next (s.answer who Obj.TRACE_CONFIG 0 code);
      (1 < holder ∨ 2 ^ 32 ≤ after → tells Abort.VALUE_RANGE) ∧
      (holder = 1 → after < 2 ^ 32 → s.pins.trace.claimed = true → tells Abort.RESOURCE_OWNED) ∧
      (holder ≤ 1 → after < 2 ^ 32 → holder = 0 ∨ s.pins.trace.claimed = false → ∃ u : State, exec (.traceConfigWrite who holder after) s
        = .next (u.answer who Obj.TRACE_CONFIG 0 0) ∧ u.pins = { s.pins with trace := { entries := [], countdown := none, claimed := holder == 0 } }
        ∧ (∀ i, i < 3 → u.regF Obj.TRACE_CONFIG 0 i = [holder, after, 0].getD i 0) ∧ SameRegs s u [Obj.TRACE_CONFIG.key 0]
        ∧ u = { s with objs := u.objs, pins := u.pins })) ∧
    (Takes s who Obj.FAULT_OUT_CLEAR 0 false → exec (.faultOutClear who) s
      = .next (({ s with pins := { s.pins with faultOut := [] } } : State).answer who Obj.FAULT_OUT_CLEAR 0 0)) ∧
    (∀ classes, Takes s who Obj.ALARM_CLEAR 0 false →
      (65536 ≤ classes → exec (.alarmClear who classes) s = .next (s.answer who Obj.ALARM_CLEAR 0 Abort.VALUE_RANGE)) ∧
      (classes < 65536 → ∃ u : State, exec (.alarmClear who classes) s = .next (u.answer who Obj.ALARM_CLEAR 0 0)
        ∧ (∀ k, bit (u.regF Obj.ALARM_STATUS 0 0) k = (bit (s.regF Obj.ALARM_STATUS 0 0) k && !(bit classes k)))
        ∧ u.regF Obj.ALARM_STATUS 0 2 = (if u.regF Obj.ALARM_STATUS 0 0 = 0 then 0 else s.regF Obj.ALARM_STATUS 0 2)
        ∧ u.regF Obj.ALARM_STATUS 0 1 = s.regF Obj.ALARM_STATUS 0 1 ∧ SameRegs s u [Obj.ALARM_STATUS.key 0] ∧ u = { s with objs := u.objs }))

/-- The maintenance arbiter (20_maintenance_and_telemetry R553-R561, 16_security R459, 13_hbm_and_ecc R358). A unit that falls due joins
the queue; it starts when its resource is free, the windows give what it needs, and no unit queued before it may start; its end is told in the history and the counts, and
leaves what its activity says; a unit that waits too long is reported once.
It rests on model choices: notes/assumptions/109, notes/assumptions/110. -/
def Obligations.MaintenanceUnitsRun : Prop :=
  ∀ (s : State),
    let enabled := fun (a : Nat) => a = 4 ∨ bit (s.reg Obj.MAINT_ENABLE) a = true;
    (∀ a r, let may := s.serving = true ∧ enabled a ∧ s.unitExists a r = true;
      (¬may → exec (.maintUnitDue a r) s = .next s) ∧
      (may → exec (.maintUnitDue a r) s = .next { s with maint := { s.maint with
        queue := s.maint.queue ++ [{ activity := a, resource := r, dueBeat := s.beat }] } })) ∧
    (∀ who p, Takes s who Obj.SPOKE_RETUNE_REQUEST 0 false →
      (18 ≤ p → exec (.spokeRetuneRequest who p) s = .next (s.answer who Obj.SPOKE_RETUNE_REQUEST 0 Abort.VALUE_RANGE)) ∧
      (p < 18 → ¬enabled 2 → exec (.spokeRetuneRequest who p) s = .next (s.answer who Obj.SPOKE_RETUNE_REQUEST 0 0)) ∧
      (p < 18 → enabled 2 → ∃ u : State, exec (.spokeRetuneRequest who p) s = .next (u.answer who Obj.SPOKE_RETUNE_REQUEST 0 0)
        ∧ u.maint.queue = s.maint.queue ++ ((List.range 4).filter (fun n => bit (s.lanes p) n || bit (s.spoke p).failedLanes n)).map
            (fun n => { activity := 2, resource := 4 * p + n, dueBeat := s.beat }) ∧ u = { s with maint := u.maint })) ∧
    (∀ a r ns, ((∀ u ∈ s.maint.queue, u.activity ≠ a ∨ u.resource ≠ r) → exec (.maintUnitStart a r ns) s = .next s) ∧
      (∀ pre post u, s.maint.queue = pre ++ u :: post → u.activity = a → u.resource = r →
        (∀ v ∈ pre, v.activity ≠ a ∨ v.resource ≠ r) →
        let may := s.serving = true ∧ s.unitExists a r = true ∧ s.resourceFree a r = true ∧ s.windowGives a r ns = true
          ∧ ¬(a = 4 ∧ s.rotationPaused r = true) ∧ ∀ v ∈ pre, s.unitMayStart v.activity v.resource (unitNs v.activity) = false;
        (¬may → exec (.maintUnitStart a r ns) s = .next s) ∧
        (may → exec (.maintUnitStart a r ns) s = .next { s with maint := { s.maint with
          queue := pre ++ post
          running := s.maint.running ++ [{ activity := a, resource := r, startBeat := s.beat, startNs := s.now }] } }))) ∧
    (∀ w ns, s.fits w ns = true ↔ ns + 1000 ≤ s.windowLeft w) ∧
    (s.anyRunning = false → ∀ a r ns, a ≠ 0 → (a ≠ 3 ∨ s.facetUnnamed r = true) → s.windowGives a r ns = true) ∧
    (∀ a r ns ok vx, ((∀ x ∈ s.maint.running, x.activity ≠ a ∨ x.resource ≠ r) → exec (.maintUnitDone a r ns ok vx) s = .next s) ∧
      (∀ x ∈ s.maint.running, x.activity = a → x.resource = r → (∀ y ∈ s.maint.running, y.activity = a → y.resource = r → y = x) →
        ∃ t u : State, exec (.maintUnitDone a r ns ok vx) s = .next t
          ∧ u.maint.running = s.maint.running.filter (fun y => y != x) ∧ u.maint.queue = s.maint.queue
          ∧ u.maint.history = (let h := s.maint.history ++ [historyEntry x (if ok then 0 else 1) ns]; if 256 < h.length then h.tail else h)
          ∧ u.maint.done = (if ok then tset s.maint.done a (tget 0 s.maint.done a + 1) else s.maint.done)
          ∧ u.maint.failed = (if ok then s.maint.failed else tset s.maint.failed a (tget 0 s.maint.failed a + 1))
          ∧ (a = 0 ∨ 6 ≤ a → t = u)
          ∧ (a = 1 → ok = true → tget 0 t.maint.recalFails r = 0 ∧ t = { u with maint := t.maint })
          ∧ (a = 1 → ok = false → tget 0 s.maint.recalFails r = 0 → tget 0 t.maint.recalFails r = 1 ∧ t = { u with maint := t.maint })
          ∧ (a = 1 → ok = false → tget 0 s.maint.recalFails r ≠ 0 → dsBoot ≤ s.devState → s.rcv.resetting = none → s.Restarted t 1)
          ∧ (a = 2 → ok = false → t = u)
          ∧ (a = 3 → r < 192 → t.facet r = {} ∧ (∀ n, n < facetBytes → t.fm.mem.get (facetBytes * r + n) = 0)
              ∧ t.reg Obj.FM_ZERO_COUNT r = satAdd 8 (s.reg Obj.FM_ZERO_COUNT r) 1 ∧ (ok = false → t.isRetired r = true)
              ∧ (∀ f, f < 192 → f ≠ r → t.isRetired f = s.isRetired f))
          ∧ (a = 4 → ok = true → ∀ c, s.rotatingUnit r = some c → 
              (s.reg Obj.KEY_ROTATE_CURSOR c + 1 < s.regF Obj.HBM_REGION c 1 → t.reg Obj.KEY_ROTATE_CURSOR c = s.reg Obj.KEY_ROTATE_CURSOR c + 1
                ∧ t.keyState c = s.keyState c) ∧
              (s.regF Obj.HBM_REGION c 1 ≤ s.reg Obj.KEY_ROTATE_CURSOR c + 1 → t.keyState c = ksKeyed
                ∧ t.contextKeys c = { s.contextKeys c with xts := (s.contextKeys c).next, next := none }))
          ∧ (a = 4 → ok = false → t = u)
          ∧ (a = 5 → t.regF Obj.FLASH_STORE_INFO 0 3 = (if ok then satAdd (Obj.FLASH_STORE_INFO.width 3) (s.regF Obj.FLASH_STORE_INFO 0 3) 1
              else s.regF Obj.FLASH_STORE_INFO 0 3)))) ∧
    (∀ a r, ((∀ u ∈ s.maint.queue, u.activity ≠ a ∨ u.resource ≠ r ∨ u.overdue = true) ∨ (a ≠ 1 ∧ a ≠ 3 ∧ a ≠ 5 ∧ a ≠ 6) →
        exec (.maintOverdue a r) s = .next s) ∧
      (∀ pre post u, s.maint.queue = pre ++ u :: post → u.activity = a → u.resource = r → u.overdue = false →
        (∀ v ∈ pre, v.activity ≠ a ∨ v.resource ≠ r ∨ v.overdue = true) → a = 1 ∨ a = 3 ∨ a = 5 ∨ a = 6 →
        ∃ t, exec (.maintOverdue a r) s = .next t ∧ t.maint = { s.maint with queue := pre ++ { u with overdue := true } :: post }
          ∧ t.reg Obj.MAINT_OVERDUE_COUNT = satAdd 8 (s.reg Obj.MAINT_OVERDUE_COUNT) 1
          ∧ t.log = (s.log! { code := 0x034, sub := 16, info0 := a, info1 := r }).log))

/-- Frames of the object dictionary (17_object_dictionary R477-R481, R483-R487, R489, R490). A frame is answered with the value, the
confirmation or the abort code that its rules give, and the answer is kept; a long value opens a transfer, whose segments must follow each
other; a silent transfer is closed. A mailbox takes one frame at a time.
It rests on model choices: notes/assumptions/117, notes/assumptions/118, notes/assumptions/119, notes/assumptions/120,
notes/assumptions/121, notes/assumptions/122, notes/assumptions/123, notes/assumptions/124, notes/assumptions/125. -/
def Obligations.FramesAreAnswered : Prop :=
  ∀ (s : State) (src : FrameFrom) (b : Bytes),
    let h := ofLE (b.take 32); let p := s.party src h; let r := Who.number p.who;
    let v := s.frameHeard.closeTransfer r Abort.TRANSFER_ABORTED;
    let gives := fun (e : Instr) (header : Nat) (data : Bytes) (post : State → Prop) => ∃ t, exec e s = .next t ∧ t.Replied src p.who header data
      ∧ (∃ k, tfind t.dict.kept r = some k ∧ k.request = b ∧ k.header = header ∧ k.data = data) ∧ post t;
    let coded := fun (e : Instr) (code : Nat) (post : State → Prop) => gives e (responseHeader h true true false 0 code 0) [] post;
    let after := fun (u t : State) => SameRegs u t [Obj.DICT_STATS.key 0] ∧ t.items = u.items ∧ t.hbm = u.hbm ∧ t.flash = u.flash;
    let same := after s;
    let forms := [(0, Instr.dictRead src), (1, .dictWrite src true), (1, .dictWrite src false), (2, .dictInfo src), (3, .dictSegment src true),
      (3, .dictSegment src false), (4, .dictAbort src)];
    (∀ e ∈ forms, (s.frameBytes src = none → exec e.2 s = .next s) ∧
      (s.frameBytes src = some b → frameOfRow e.1 b = false → exec e.2 s = .next s) ∧
      (s.frameBytes src = some b → frameOfRow e.1 b = true → s.vendorFrame src b = true → exec e.2 s = .refused .vendorTestRange) ∧
      (s.NewFrame src e.1 b → (frameBad src b.length h = true → coded e.2 Abort.FRAME_FORMAT same) ∧
        (frameBad src b.length h = false → p.code = Abort.ROLE_AMBIGUOUS → coded e.2 Abort.ROLE_AMBIGUOUS same))) ∧
    (frameBad src b.length h = false → p.code ≠ Abort.ROLE_AMBIGUOUS →
      (s.NewFrame src 0 b →
        (∀ c, v.checked p.who (p.code != 0) false (hdIndex h) (hdSub h) (hdFirst h) (hdCount h) 0 = .error c → coded (.dictRead src) c same) ∧
        (∀ o, v.checked p.who (p.code != 0) false (hdIndex h) (hdSub h) (hdFirst h) (hdCount h) 0 = .ok o →
          let n := o.addressed (hdFirst h) (hdCount h); let k := o.elem.length; let size := o.bytesOf n.2; let rd := v.readObject p.who o (hdSub h);
          let bytes := putFields (o.widths (n.1 * k) (n.2 * k)) ((rd.fields.drop (n.1 * k)).take (n.2 * k));
          (o ≠ Obj.CRASH_DUMP_DATA → rd.after = { v with freeCtr := rd.after.freeCtr }) ∧
          (size ≤ 8 → rd.code = 0 → gives (.dictRead src) (responseHeader h true true false size 0 (ofLE bytes)) []
            (fun t => after rd.after t ∧ tfind t.dict.transfers r = none)) ∧
          (8 < size → v.dictFull size = true → coded (.dictRead src) Abort.BUSY same) ∧
          (8 < size → v.dictFull size = false → rd.code = 0 → gives (.dictRead src) (responseHeader h false false false size 0 0) []
            (fun t => after rd.after t ∧ tfind t.dict.transfers r = some { who := p.who, write := false, header := h, total := size, data := bytes })) ∧
          (size ≤ 8 ∨ v.dictFull size = false → rd.code ≠ 0 → coded (.dictRead src) rd.code same))) ∧
      (s.NewFrame src 1 b → ∀ ok,
        let adm := v.checked p.who (p.code != 0) true (hdIndex h) (hdSub h) (hdFirst h) (hdCount h) (hdSize h);
        (∀ c, adm = .error c → coded (.dictWrite src ok) c same) ∧
        (∀ o, adm = .ok o → (hdExpedited h = true → hdSize h ≤ 8 →
            let a := v.writeBytes p.who o (hdSub h) (hdFirst h) (hdCount h) (leBytes (hdSize h) (hdData h)) ok;
            a.2.answers = true → v.dict.updater = a.2.dict.updater →
              coded (.dictWrite src ok) a.1 (after a.2)) ∧
          (hdExpedited h = true → 8 < hdSize h → coded (.dictWrite src ok) Abort.LENGTH_MISMATCH same) ∧
          (hdExpedited h = false → v.dictFull 0 = true → coded (.dictWrite src ok) Abort.BUSY same) ∧
          (hdExpedited h = false → v.dictFull 0 = false → gives (.dictWrite src ok) (responseHeader h false false false (hdSize h) 0 0) []
            (fun t => same t ∧ tfind t.dict.transfers r = some { who := p.who, write := true, header := h, total := hdSize h })))) ∧
      (s.NewFrame src 2 b → (∀ c, findObject (hdIndex h) (hdSub h) = .error c → coded (.dictInfo src) c same) ∧
        (∀ o, findObject (hdIndex h) (hdSub h) = .ok o →
          (p.code ≠ 0 ∨ o.accessOf p.who (hdSub h) = .none → coded (.dictInfo src) Abort.ACCESS_DENIED same) ∧
          (p.code = 0 → o.accessOf p.who (hdSub h) ≠ .none → s.served p.who o false = false → coded (.dictInfo src) Abort.DEVICE_STATE same) ∧
          (p.code = 0 → o.accessOf p.who (hdSub h) ≠ .none → s.served p.who o false = true →
            gives (.dictInfo src) (responseHeader h true true false 8 0 (s.infoWord p.who o (hdSub h))) [] same))) ∧
      (s.NewFrame src 3 b → p.code = 0 → ∀ ok,
        let data := segmentData src h b; let limit := s.segmentLimit src;
        (tfind s.dict.transfers r = none → tfind s.dict.closed r = none → coded (.dictSegment src ok) Abort.NO_TRANSFER same) ∧
        (∀ code, tfind s.dict.transfers r = none → tfind s.dict.closed r = some (hdTransfer h, code) → coded (.dictSegment src ok) code
          (fun t => same t ∧ tfind t.dict.closed r = none)) ∧
        (∀ x, tfind s.dict.transfers r = some x → hdTransfer x.header = hdTransfer h →
          (hdToggle h ≠ x.toggle → coded (.dictSegment src ok) Abort.TOGGLE_ERROR (fun t => same t ∧ tfind t.dict.transfers r = none)) ∧
          (hdToggle h = x.toggle → x.write = false → hdSize h = 0 →
            let now := x.data.take limit; let rest := x.data.drop limit;
            gives (.dictSegment src ok) (responseHeader h false rest.isEmpty false now.length 0 0) now (fun t => same t ∧ tfind t.dict.transfers r =
              if rest.isEmpty then none else some { x with data := rest, toggle := !x.toggle })) ∧
          (hdToggle h = x.toggle → x.write = true → data.length = hdSize h → data.length = limit → x.data.length + limit < x.total →
            hdLast h = false → gives (.dictSegment src ok) (responseHeader h false false false 0 0 0) []
              (fun t => same t ∧ tfind t.dict.transfers r = some { x with data := x.data ++ data, toggle := !x.toggle })) ∧
          (hdToggle h = x.toggle → x.write = true → data.length = hdSize h → data.length ≤ limit → x.data.length + data.length = x.total →
            hdLast h = true → ∀ o, findObject (hdIndex x.header) (hdSub x.header) = .ok o →
            let u := s.frameHeard.endTransfer r;
            let a := u.writeBytes p.who o (hdSub x.header) (hdFirst x.header) (hdCount x.header) (x.data ++ data) ok;
            a.2.answers = true → u.dict.updater = a.2.dict.updater → gives (.dictSegment src ok) (responseHeader h false true false 0 a.1 0) []
              (after a.2)) ∧
          (hdToggle h = x.toggle → (x.write = false ∧ hdSize h ≠ 0)
              ∨ (x.write = true ∧ (data.length ≠ hdSize h ∨ limit < data.length ∨ x.total < x.data.length + data.length
                ∨ (hdLast h = true ∧ x.data.length + data.length ≠ x.total)
                ∨ (hdLast h = false ∧ (data.length ≠ limit ∨ x.data.length + data.length = x.total)))) →
            coded (.dictSegment src ok) Abort.LENGTH_MISMATCH (fun t => same t ∧ tfind t.dict.transfers r = none)))) ∧
      ((∃ c, s.NewFrame src c b ∧ 3 ≤ c ∧ c ≤ 4) → p.code ≠ 0 →
        ∀ e ∈ [(3, Instr.dictSegment src true), (3, .dictSegment src false), (4, .dictAbort src)],
          hdCommand h = e.1 → coded e.2 Abort.ACCESS_DENIED same) ∧
      (s.NewFrame src 4 b → p.code = 0 → coded (.dictAbort src) 0 (fun t => same t ∧ ∀ x, tfind s.dict.transfers r = some x →
        hdTransfer x.header = hdTransfer h → tfind t.dict.transfers r = none ∧ tfind t.dict.closed r = some (hdTransfer h, Abort.TRANSFER_ABORTED)))) ∧
    (∀ q, (tfind s.dict.transfers q = none → exec (.segmentTimeout q) s = .next s) ∧
      (∀ x, tfind s.dict.transfers q = some x → ∃ t, exec (.segmentTimeout q) s = .next t ∧ tfind t.dict.transfers q = none
        ∧ tfind t.dict.closed q = some (hdTransfer x.header, Abort.SEGMENT_TIMEOUT) ∧ SameRegs s t [Obj.DICT_STATS.key 0]
        ∧ t = { s with objs := t.objs, dict := t.dict })) ∧
    (∀ f value irq frame, let m := tget {} s.dict.mailboxes f;
      let put := fun (m : Mailbox) => ({ s with dict := { s.dict with mailboxes := tset s.dict.mailboxes f m } } : State);
      (s.mailboxReached f = false ∨ bit value 0 = false → exec (.mbxControlGo f value irq frame) s = .next s) ∧
      (s.mailboxReached f = false ∨ bit value 2 = false → exec (.mbxStatusClear f value) s = .next s) ∧
      (s.mailboxReached f = true → bit value 0 = true →
        (m.busy = true → exec (.mbxControlGo f value irq frame) s = .next (put { m with overrun := true })) ∧
        (m.busy = false → exec (.mbxControlGo f value irq frame) s
          = .next (put { m with request := frame.take 4128, irq := irq % 2048, busy := true, ready := false }))) ∧
      (s.mailboxReached f = true → bit value 2 = true → exec (.mbxStatusClear f value) s = .next (put { m with overrun := false })))

/-- Exactly once (17_object_dictionary R482). For each requester the last request frame and its response are kept. A frame that
repeats it in every byte is answered with the kept response, or with the present PENDING state, and nothing else happens than counting it
in REPEATS; any other frame that is performed and answered replaces what is kept. So a write frame that comes twice over MCTP is
performed once. (The vendor test range is no part of this.)
It rests on model choices: notes/assumptions/123, notes/assumptions/125. -/
def Obligations.RepeatedFramesAreAnsweredOnce : Prop :=
  ∀ (s : State) (src : FrameFrom) (b : Bytes) (e : Nat × Instr),
    let h := ofLE (b.take 32); let p := s.party src h; let r := Who.number p.who;
    e ∈ [(0, Instr.dictRead src), (1, .dictWrite src true), (1, .dictWrite src false), (2, .dictInfo src), (3, .dictSegment src true),
      (3, .dictSegment src false), (4, .dictAbort src)] →
    s.frameBytes src = some b → frameOfRow e.1 b = true → s.vendorFrame src b = false →
    (∀ k, tfind s.dict.kept r = some k → k.request = b →
      ∃ t, exec e.2 s = .next t ∧ t.Replied src p.who k.header k.data ∧ SameRegs s t [Obj.DICT_STATS.key 0]
        ∧ t.regF Obj.DICT_STATS 0 2 = satAdd 8 (s.regF Obj.DICT_STATS 0 2) 1
        ∧ t.dict = { s.dict with mailboxes := t.dict.mailboxes } ∧ t = { s with objs := t.objs, dict := t.dict, out := t.out }) ∧
    (∃ t, exec e.2 s = .next t ∧ (t.answers = true → ∃ k, tfind t.dict.kept r = some k ∧ k.request = b ∧ t.Replied src p.who k.header k.data)) ∧
    (∀ t eid ok, src = .mctp eid b → e.1 = 1 → exec e.2 s = .next t → t.answers = true → t.vendorFrame src b = false →
      ∃ u header data, exec (.dictWrite src ok) t = .next u ∧ t.out.getLast? = some (.frame (.bmc eid) header data)
        ∧ u.out = t.out ++ [.frame (.bmc eid) header data] ∧ u.dict = t.dict ∧ SameRegs t u [Obj.DICT_STATS.key 0]
        ∧ u = { t with objs := u.objs, out := u.out })

/-- Writes of objects (17_object_dictionary R473, R474, R490). A write that a check refuses changes nothing and is answered with the
check's code; one that passes is performed, and an object without a row of its own takes the value in its range at its apply time, so
that a read finds the value last written.
It rests on model choices: notes/assumptions/127, notes/assumptions/128, notes/assumptions/129, notes/assumptions/130,
notes/assumptions/131, notes/assumptions/132, notes/assumptions/133, notes/assumptions/136. -/
def Obligations.RegisterWritesReachTheirOwner : Prop :=
  ∀ (s : State) (who : Who) (index sub first count : Nat) (value : Bytes) (ok : Bool),
    let e : Instr := .registerWrite who index sub first count value ok;
    let told := fun (t : State) (code : Nat) => ({ t with out := t.out ++ [.answer who (index * 256 + sub) code] } : State);
    (s.answers = false → exec e s = .next s) ∧
    (∀ c, s.answers = true → s.checked who false true index sub first count value.length = .error c → exec e s = .next (told s c)) ∧
    (∀ o, s.answers = true → s.checked who false true index sub first count value.length = .ok o →
      (o.ranged = false → first ≠ 0 ∨ count ≠ 0 → exec e s = .next (told s Abort.FRAME_FORMAT)) ∧
      (o.ranged = true ∨ (first = 0 ∧ count = 0) → ∃ t code, exec e s = .next (told t code)
        ∧ (code, t) = s.writeBytes who o sub first count value ok)) ∧
    (∀ w : Write, s.rowWrite w = none → w.o ≠ Obj.TIME_SECONDS_NEXT → w.o ≠ Obj.MAINT_ENABLE → w.o ∈ Obj.table → w.o.lo ≤ w.sub → w.sub ≤ w.o.hi →
      let l := s.merged w; let r := s.performWrite w;
      (valueOk w.o l = false → r = ((if w.o = Obj.SPOKE_ETH_CONFIG then 0x0A500002 else Abort.VALUE_RANGE), s)) ∧
      (valueOk w.o l = true → w.o.flash = true → w.flashOk = false → r.1 = Abort.FLASH_FAILED ∧ r.2 = { s with flash := r.2.flash }
        ∧ r.2.flash.store = s.flash.store) ∧
      (valueOk w.o l = true → w.o.flash = false ∨ w.flashOk = true → r.1 = 0 ∧
        (w.o.perRequester = true → r.2.copyOf w.who w.o = l ∧ r.2.objs = s.objs) ∧
        (w.o.perRequester = false → w.o = Obj.FACET_CLOCK_LIMIT_MHZ →
          ∃ u, r.2 = u.showClocks ∧ tfind u.objs (w.o.key w.sub) = some l ∧ SameRegs s u [w.o.key w.sub]) ∧
        (w.o.perRequester = false → w.o = Obj.BEAT_MASTER_PRIORITY →
          ∃ u, r.2 = u.elect ∧ tfind u.objs (w.o.key w.sub) = some l ∧ SameRegs s u [w.o.key w.sub]) ∧
        (w.o.perRequester = false → w.o ≠ Obj.FACET_CLOCK_LIMIT_MHZ → w.o ≠ Obj.BEAT_MASTER_PRIORITY →
          r.2.written w.o w.sub = l ∧ (w.o.flash = true → tfind r.2.flash.store (w.o.key w.sub) = some l)
          ∧ (w.o.apply = .immediate → tfind r.2.objs (w.o.key w.sub) = some l)
          ∧ (w.o.apply = .nextStep → s.planState w.sub = planRunning → r.2.objs = s.objs ∧ tfind r.2.waitStep (w.o.key w.sub) = some l)
          ∧ (w.o.apply = .nextStep → s.planState w.sub ≠ planRunning → tfind r.2.objs (w.o.key w.sub) = some l)
          ∧ (w.o.apply = .nextReset → r.2.objs = s.objs ∧ tfind r.2.waitReset (w.o.key w.sub) = some l)
          ∧ SameRegs s r.2 [w.o.key w.sub]))) ∧
    (∀ o w, o ∈ Obj.table → o.lo ≤ w → w ≤ o.hi → findObject o.index w = .ok o)

/-- A step of the block (the model's own; notes/assumptions/1): the command at the front of the queue runs on the state with the queue's
rest; on an empty queue the block idles.
It rests on model choices: notes/assumptions/137. -/
def Obligations.StepRunsTheFrontCommand : Prop :=
  ∀ (s : State), (∀ c cs, step { s with pending := c :: cs } = exec c { s with pending := cs }) ∧ (s.pending = [] → step s = .next s)

/-- The state after power-on reset (17_object_dictionary R475, R491; 13_hbm_and_ecc R356, R371; 12_fabric_memory R330; 16_security R454):
the device is OFF, every object holds its default but HBM_REGION, FABRIC_ADDR_MODE and CONTEXT_KEY_STATE of context 0, and nothing is
queued, loaded, mapped or in flight. Defaults that the spec does not state are the model's (notes/assumptions).
It rests on model choices: notes/assumptions/3, notes/assumptions/4, notes/assumptions/5. -/
def Obligations.ResetStandsAsStated : Prop :=
  let s := State.reset
  s.devState = dsOff ∧ s.pending = [] ∧ s.items = [] ∧ s.queues = [] ∧ s.plans = [] ∧ s.facets = [] ∧ s.outgoing = [] ∧ s.out = []
    ∧ s.memWf ∧ s.waitsRight ∧ s.itemsRight ∧ s.rcv.resetting = none ∧ s.log.ring = []
    ∧ s.regF Obj.HBM_REGION 0 0 = 0 ∧ s.regF Obj.HBM_REGION 0 1 = 64 ∧ s.reg Obj.FABRIC_ADDR_MODE = 1 ∧ s.keyState 0 = ksKeyed
    ∧ ∀ o sub i, o.key sub ∉ [Obj.HBM_REGION.key 0, Obj.FABRIC_ADDR_MODE.key 0, Obj.CONTEXT_KEY_STATE.key 0] →
        s.regF o sub i = o.defaultField i

/-- Writes that a check refuses (17_object_dictionary R490, R491, R493): where the access, the instance or the device state refuses a
requester, the write is answered with that code and nothing else happens; where the owner refuses it, nothing changes but the note of a
flash failure; and where no transport answers, nothing happens at all.
It rests on model choices: notes/assumptions/112, notes/assumptions/127. -/
def Obligations.RefusedWritesChangeNothing : Prop :=
  ∀ (s : State) (who : Who) (a b c d : Nat) (en ok : Bool) (l m : List Nat) (y : Bytes) (rd : Desc),
    ∀ e ∈ [(Instr.beatPeriodNsWrite who a, Obj.BEAT_PERIOD_NS, 0, false), (.beatEpochStartSecWrite who a, Obj.BEAT_EPOCH_START_SEC, 0, false),
        (.fwUpdateBegin who a b c, Obj.FW_UPDATE_CONTROL, 0, false), (.fwUpdateData who y, Obj.FW_UPDATE_DATA, 0, false),
        (.fwUpdateFinish who, Obj.FW_UPDATE_CONTROL, 0, false), (.fwUpdateCancel who, Obj.FW_UPDATE_CONTROL, 0, false),
        (.setPreferred who a ok, Obj.FW_UPDATE_CONTROL, 0, false), (.flashRestoreDefaults who a, Obj.FLASH_RESTORE_DEFAULTS, 0, false),
        (.hbmRegionWrite who a b c, Obj.HBM_REGION, a, true), (.hbmUnitWrittenWrite who a, Obj.HBM_UNIT_WRITTEN, 0, false),
        (.hbmRetiredPagesWrite who a b ok, Obj.HBM_RETIRED_PAGES, 0, false), (.flipMaskArm who, Obj.ECC_FLIP_CONTROL, 6, false),
        (.flipMaskDisarm who, Obj.ECC_FLIP_CONTROL, 6, false), (.latticeRouteWrite who a b, Obj.LATTICE_ROUTE, 0, false),
        (.rankMapCommit who a b, Obj.RANK_MAP_COMMIT, a, true), (.spokeRetuneRequest who a, Obj.SPOKE_RETUNE_REQUEST, 0, false),
        (.auxioConfigWrite who a b c d a ok, Obj.AUXIO_CONFIG, a, false), (.clkobsWrite who en a b c, Obj.CLKOBS, 0, false),
        (.traceConfigWrite who a b, Obj.TRACE_CONFIG, 0, false), (.faultOutClear who, Obj.FAULT_OUT_CLEAR, 0, false),
        (.alarmClear who a, Obj.ALARM_CLEAR, 0, false), (.planLoad who a, Obj.PLAN_CONTROL, a, true), (.planArm who a, Obj.PLAN_CONTROL, a, true),
        (.stopAtStepEnd who a, Obj.PLAN_CONTROL, a, true), (.planHalt who a, Obj.PLAN_CONTROL, a, true),
        (.planUnload who a, Obj.PLAN_CONTROL, a, true), (.planFirstStepWrite who a b, Obj.PLAN_FIRST_STEP, a, true),
        (.dropLedgerRegionWrite who a .addr b, Obj.DROP_LEDGER_ADDR, a, true),
        (.dropLedgerRegionWrite who a .entries b, Obj.DROP_LEDGER_ENTRIES, a, true), (.poolConfigWrite who a b l, Obj.POOL_CONFIG, a, true),
        (.poolRequesterWrite who a b l m, Obj.POOL_REQUESTER, a, false), (.queueCreate who rd, Obj.QUEUE_CREATE, 0, false),
        (.queuePause who a, Obj.QUEUE_CONTROL, 0, false), (.queueResume who a, Obj.QUEUE_CONTROL, 0, false),
        (.queueReset who a, Obj.QUEUE_CONTROL, 0, false), (.queueDestroy who a, Obj.QUEUE_CONTROL, 0, false),
        (.contextReset who a, Obj.CONTEXT_RESET, a, true), (.warm who, Obj.DEVICE_RESET, 0, false),
        (.warmWithDump who, Obj.DEVICE_RESET, 0, false), (.peerLostWrite who a, Obj.PEER_LOST, 0, false),
        (.errorFlashClear who, Obj.ERROR_FLASH_CLEAR, 0, false), (.facetRetiredWrite who a ok, Obj.FACET_RETIRED, 0, false),
        (.crashDumpClear who, Obj.CRASH_DUMP_CLEAR, 0, false), (.routerCancelWrite who a b, Obj.ROUTER_CANCEL, a, true),
        (.contextKey who a b, Obj.CONTEXT_KEY, a, true), (.contextTransferKey who a b, Obj.CONTEXT_TRANSFER_KEY, a, true),
        (.contextKeyNext who a b, Obj.CONTEXT_KEY_NEXT, a, true), (.contextRelease who a, Obj.CONTEXT_RELEASE, a, true),
        (.secFuseSvn who a, Obj.SEC_FUSE_COMMIT, 0, false), (.secFuseRevoke who a, Obj.SEC_FUSE_COMMIT, 0, false),
        (.secFuseSigPolicy who, Obj.SEC_FUSE_COMMIT, 0, false), (.debugUnlock who a, Obj.DEBUG_UNLOCK, 0, false),
        (.spokeReset who a, Obj.SPOKE_CONTROL, a, false), (.spokeDisable who a, Obj.SPOKE_CONTROL, a, false),
        (.spokeEnable who a, Obj.SPOKE_CONTROL, a, false)],
      (s.answers = false → exec e.1 s = .next s) ∧
      (s.answers = true → s.rowChecks who e.2.1 e.2.2.1 e.2.2.2 ≠ 0 →
        exec e.1 s = .next (s.answer who e.2.1 e.2.2.1 (s.rowChecks who e.2.1 e.2.2.1 e.2.2.2))) ∧
      (s.answers = true → ∀ t code, exec e.1 s = .next t → code ≠ 0 → t.out.getLast? = some (.answer who (e.2.1.key e.2.2.1) code) →
        t = { s with out := s.out ++ [.answer who (e.2.1.key e.2.2.1) code], flash := t.flash }
          ∧ t.flash = { s.flash with lastFailed := t.flash.lastFailed })

/-- Each form of the state that other statements take as a premise, and the canonical form of memory, is kept by every step from every
state that has it, whatever the command (the model's own): HBM, facet memory and the crash dump list cells at strictly rising addresses and
none that an unlisted address would read as; the values that wait for a step are values of objects that take theirs there; the items lie
in the order of their numbers, all below the next.
It rests on model choices: notes/assumptions/3. -/
def Obligations.StateKeepsItsForm : Prop :=
  ∀ (s t : State), step s = .next t → (s.memWf → t.memWf) ∧ (s.waitsRight → t.waitsRight) ∧ (s.itemsRight → t.itemsRight)

/-- A step takes one command from the front of the queue and no command adds or removes another (the model's own): the queue after it is
the queue's rest.
It rests on model choices: notes/assumptions/1, notes/assumptions/137. -/
def Obligations.StepTakesOneCommand : Prop :=
  ∀ (s t : State), step s = .next t → t.pending = s.pending.tail
end

