-- ==== Sys2Proof/Laws/State.lean ====
section
/-! SUPPORT. Sys2Proof/Laws/State.lean: what the plain updates of the state leave as it was, one lemma for each update and
field. -/

namespace Sys2Proof.Machine

variable (s : State)

@[simp] theorem State.setHbm_pending (x : Hbm) : (s.setHbm x).pending = s.pending := rfl
@[simp] theorem State.setHbm_freeCtr (x : Hbm) : (s.setHbm x).freeCtr = s.freeCtr := rfl
@[simp] theorem State.setHbm_objs (x : Hbm) : (s.setHbm x).objs = s.objs := rfl
@[simp] theorem State.setHbm_cad (x : Hbm) : (s.setHbm x).cad = s.cad := rfl
@[simp] theorem State.setHbm_plans (x : Hbm) : (s.setHbm x).plans = s.plans := rfl
@[simp] theorem State.setHbm_items (x : Hbm) : (s.setHbm x).items = s.items := rfl
@[simp] theorem State.setHbm_nextItem (x : Hbm) : (s.setHbm x).nextItem = s.nextItem := rfl
@[simp] theorem State.setHbm_fm (x : Hbm) : (s.setHbm x).fm = s.fm := rfl
@[simp] theorem State.setHbm_queues (x : Hbm) : (s.setHbm x).queues = s.queues := rfl
@[simp] theorem State.setHbm_summary (x : Hbm) : (s.setHbm x).summary = s.summary := rfl
@[simp] theorem State.setHbm_pools (x : Hbm) : (s.setHbm x).pools = s.pools := rfl
@[simp] theorem State.setHbm_log (x : Hbm) : (s.setHbm x).log = s.log := rfl
@[simp] theorem State.setHbm_rcv (x : Hbm) : (s.setHbm x).rcv = s.rcv := rfl
@[simp] theorem State.setHbm_sec (x : Hbm) : (s.setHbm x).sec = s.sec := rfl
@[simp] theorem State.setHbm_dict (x : Hbm) : (s.setHbm x).dict = s.dict := rfl
@[simp] theorem State.setHbm_power (x : Hbm) : (s.setHbm x).power = s.power := rfl
@[simp] theorem State.setHbm_flash (x : Hbm) : (s.setHbm x).flash = s.flash := rfl
@[simp] theorem State.setHbm_maint (x : Hbm) : (s.setHbm x).maint = s.maint := rfl
@[simp] theorem State.setHbm_waitBeat (x : Hbm) : (s.setHbm x).waitBeat = s.waitBeat := rfl
@[simp] theorem State.setHbm_waitStep (x : Hbm) : (s.setHbm x).waitStep = s.waitStep := rfl
@[simp] theorem State.setHbm_waitReset (x : Hbm) : (s.setHbm x).waitReset = s.waitReset := rfl
@[simp] theorem State.setHbm_pins (x : Hbm) : (s.setHbm x).pins = s.pins := rfl
@[simp] theorem State.setHbm_facets (x : Hbm) : (s.setHbm x).facets = s.facets := rfl
@[simp] theorem State.setHbm_spokes (x : Hbm) : (s.setHbm x).spokes = s.spokes := rfl
@[simp] theorem State.setHbm_hup (x : Hbm) : (s.setHbm x).hup = s.hup := rfl
@[simp] theorem State.setHbm_fab (x : Hbm) : (s.setHbm x).fab = s.fab := rfl
@[simp] theorem State.setHbm_maps (x : Hbm) : (s.setHbm x).maps = s.maps := rfl
@[simp] theorem State.setHbm_router (x : Hbm) : (s.setHbm x).router = s.router := rfl
@[simp] theorem State.setHbm_outgoing (x : Hbm) : (s.setHbm x).outgoing = s.outgoing := rfl
@[simp] theorem State.setHbm_coll (x : Hbm) : (s.setHbm x).coll = s.coll := rfl
@[simp] theorem State.setHbm_slotSerial (x : Hbm) : (s.setHbm x).slotSerial = s.slotSerial := rfl
@[simp] theorem State.setHbm_out (x : Hbm) : (s.setHbm x).out = s.out := rfl
@[simp] theorem State.setHbm_hbm (x : Hbm) : (s.setHbm x).hbm = x := rfl

@[simp] theorem State.setFm_pending (x : FacetMem) : (s.setFm x).pending = s.pending := rfl
@[simp] theorem State.setFm_freeCtr (x : FacetMem) : (s.setFm x).freeCtr = s.freeCtr := rfl
@[simp] theorem State.setFm_objs (x : FacetMem) : (s.setFm x).objs = s.objs := rfl
@[simp] theorem State.setFm_cad (x : FacetMem) : (s.setFm x).cad = s.cad := rfl
@[simp] theorem State.setFm_plans (x : FacetMem) : (s.setFm x).plans = s.plans := rfl
@[simp] theorem State.setFm_items (x : FacetMem) : (s.setFm x).items = s.items := rfl
@[simp] theorem State.setFm_nextItem (x : FacetMem) : (s.setFm x).nextItem = s.nextItem := rfl
@[simp] theorem State.setFm_hbm (x : FacetMem) : (s.setFm x).hbm = s.hbm := rfl
@[simp] theorem State.setFm_queues (x : FacetMem) : (s.setFm x).queues = s.queues := rfl
@[simp] theorem State.setFm_summary (x : FacetMem) : (s.setFm x).summary = s.summary := rfl
@[simp] theorem State.setFm_pools (x : FacetMem) : (s.setFm x).pools = s.pools := rfl
@[simp] theorem State.setFm_log (x : FacetMem) : (s.setFm x).log = s.log := rfl
@[simp] theorem State.setFm_rcv (x : FacetMem) : (s.setFm x).rcv = s.rcv := rfl
@[simp] theorem State.setFm_sec (x : FacetMem) : (s.setFm x).sec = s.sec := rfl
@[simp] theorem State.setFm_dict (x : FacetMem) : (s.setFm x).dict = s.dict := rfl
@[simp] theorem State.setFm_power (x : FacetMem) : (s.setFm x).power = s.power := rfl
@[simp] theorem State.setFm_flash (x : FacetMem) : (s.setFm x).flash = s.flash := rfl
@[simp] theorem State.setFm_maint (x : FacetMem) : (s.setFm x).maint = s.maint := rfl
@[simp] theorem State.setFm_waitBeat (x : FacetMem) : (s.setFm x).waitBeat = s.waitBeat := rfl
@[simp] theorem State.setFm_waitStep (x : FacetMem) : (s.setFm x).waitStep = s.waitStep := rfl
@[simp] theorem State.setFm_waitReset (x : FacetMem) : (s.setFm x).waitReset = s.waitReset := rfl
@[simp] theorem State.setFm_pins (x : FacetMem) : (s.setFm x).pins = s.pins := rfl
@[simp] theorem State.setFm_facets (x : FacetMem) : (s.setFm x).facets = s.facets := rfl
@[simp] theorem State.setFm_spokes (x : FacetMem) : (s.setFm x).spokes = s.spokes := rfl
@[simp] theorem State.setFm_hup (x : FacetMem) : (s.setFm x).hup = s.hup := rfl
@[simp] theorem State.setFm_fab (x : FacetMem) : (s.setFm x).fab = s.fab := rfl
@[simp] theorem State.setFm_maps (x : FacetMem) : (s.setFm x).maps = s.maps := rfl
@[simp] theorem State.setFm_router (x : FacetMem) : (s.setFm x).router = s.router := rfl
@[simp] theorem State.setFm_outgoing (x : FacetMem) : (s.setFm x).outgoing = s.outgoing := rfl
@[simp] theorem State.setFm_coll (x : FacetMem) : (s.setFm x).coll = s.coll := rfl
@[simp] theorem State.setFm_slotSerial (x : FacetMem) : (s.setFm x).slotSerial = s.slotSerial := rfl
@[simp] theorem State.setFm_out (x : FacetMem) : (s.setFm x).out = s.out := rfl
@[simp] theorem State.setFm_fm (x : FacetMem) : (s.setFm x).fm = x := rfl

@[simp] theorem State.setRcv_pending (x : Recovery) : (s.setRcv x).pending = s.pending := rfl
@[simp] theorem State.setRcv_freeCtr (x : Recovery) : (s.setRcv x).freeCtr = s.freeCtr := rfl
@[simp] theorem State.setRcv_objs (x : Recovery) : (s.setRcv x).objs = s.objs := rfl
@[simp] theorem State.setRcv_cad (x : Recovery) : (s.setRcv x).cad = s.cad := rfl
@[simp] theorem State.setRcv_plans (x : Recovery) : (s.setRcv x).plans = s.plans := rfl
@[simp] theorem State.setRcv_items (x : Recovery) : (s.setRcv x).items = s.items := rfl
@[simp] theorem State.setRcv_nextItem (x : Recovery) : (s.setRcv x).nextItem = s.nextItem := rfl
@[simp] theorem State.setRcv_hbm (x : Recovery) : (s.setRcv x).hbm = s.hbm := rfl
@[simp] theorem State.setRcv_fm (x : Recovery) : (s.setRcv x).fm = s.fm := rfl
@[simp] theorem State.setRcv_queues (x : Recovery) : (s.setRcv x).queues = s.queues := rfl
@[simp] theorem State.setRcv_summary (x : Recovery) : (s.setRcv x).summary = s.summary := rfl
@[simp] theorem State.setRcv_pools (x : Recovery) : (s.setRcv x).pools = s.pools := rfl
@[simp] theorem State.setRcv_log (x : Recovery) : (s.setRcv x).log = s.log := rfl
@[simp] theorem State.setRcv_sec (x : Recovery) : (s.setRcv x).sec = s.sec := rfl
@[simp] theorem State.setRcv_dict (x : Recovery) : (s.setRcv x).dict = s.dict := rfl
@[simp] theorem State.setRcv_power (x : Recovery) : (s.setRcv x).power = s.power := rfl
@[simp] theorem State.setRcv_flash (x : Recovery) : (s.setRcv x).flash = s.flash := rfl
@[simp] theorem State.setRcv_maint (x : Recovery) : (s.setRcv x).maint = s.maint := rfl
@[simp] theorem State.setRcv_waitBeat (x : Recovery) : (s.setRcv x).waitBeat = s.waitBeat := rfl
@[simp] theorem State.setRcv_waitStep (x : Recovery) : (s.setRcv x).waitStep = s.waitStep := rfl
@[simp] theorem State.setRcv_waitReset (x : Recovery) : (s.setRcv x).waitReset = s.waitReset := rfl
@[simp] theorem State.setRcv_pins (x : Recovery) : (s.setRcv x).pins = s.pins := rfl
@[simp] theorem State.setRcv_facets (x : Recovery) : (s.setRcv x).facets = s.facets := rfl
@[simp] theorem State.setRcv_spokes (x : Recovery) : (s.setRcv x).spokes = s.spokes := rfl
@[simp] theorem State.setRcv_hup (x : Recovery) : (s.setRcv x).hup = s.hup := rfl
@[simp] theorem State.setRcv_fab (x : Recovery) : (s.setRcv x).fab = s.fab := rfl
@[simp] theorem State.setRcv_maps (x : Recovery) : (s.setRcv x).maps = s.maps := rfl
@[simp] theorem State.setRcv_router (x : Recovery) : (s.setRcv x).router = s.router := rfl
@[simp] theorem State.setRcv_outgoing (x : Recovery) : (s.setRcv x).outgoing = s.outgoing := rfl
@[simp] theorem State.setRcv_coll (x : Recovery) : (s.setRcv x).coll = s.coll := rfl
@[simp] theorem State.setRcv_slotSerial (x : Recovery) : (s.setRcv x).slotSerial = s.slotSerial := rfl
@[simp] theorem State.setRcv_out (x : Recovery) : (s.setRcv x).out = s.out := rfl
@[simp] theorem State.setRcv_rcv (x : Recovery) : (s.setRcv x).rcv = x := rfl

@[simp] theorem State.setHup_pending (x : Hupatas) : (s.setHup x).pending = s.pending := rfl
@[simp] theorem State.setHup_freeCtr (x : Hupatas) : (s.setHup x).freeCtr = s.freeCtr := rfl
@[simp] theorem State.setHup_objs (x : Hupatas) : (s.setHup x).objs = s.objs := rfl
@[simp] theorem State.setHup_cad (x : Hupatas) : (s.setHup x).cad = s.cad := rfl
@[simp] theorem State.setHup_plans (x : Hupatas) : (s.setHup x).plans = s.plans := rfl
@[simp] theorem State.setHup_items (x : Hupatas) : (s.setHup x).items = s.items := rfl
@[simp] theorem State.setHup_nextItem (x : Hupatas) : (s.setHup x).nextItem = s.nextItem := rfl
@[simp] theorem State.setHup_hbm (x : Hupatas) : (s.setHup x).hbm = s.hbm := rfl
@[simp] theorem State.setHup_fm (x : Hupatas) : (s.setHup x).fm = s.fm := rfl
@[simp] theorem State.setHup_queues (x : Hupatas) : (s.setHup x).queues = s.queues := rfl
@[simp] theorem State.setHup_summary (x : Hupatas) : (s.setHup x).summary = s.summary := rfl
@[simp] theorem State.setHup_pools (x : Hupatas) : (s.setHup x).pools = s.pools := rfl
@[simp] theorem State.setHup_log (x : Hupatas) : (s.setHup x).log = s.log := rfl
@[simp] theorem State.setHup_rcv (x : Hupatas) : (s.setHup x).rcv = s.rcv := rfl
@[simp] theorem State.setHup_sec (x : Hupatas) : (s.setHup x).sec = s.sec := rfl
@[simp] theorem State.setHup_dict (x : Hupatas) : (s.setHup x).dict = s.dict := rfl
@[simp] theorem State.setHup_power (x : Hupatas) : (s.setHup x).power = s.power := rfl
@[simp] theorem State.setHup_flash (x : Hupatas) : (s.setHup x).flash = s.flash := rfl
@[simp] theorem State.setHup_maint (x : Hupatas) : (s.setHup x).maint = s.maint := rfl
@[simp] theorem State.setHup_waitBeat (x : Hupatas) : (s.setHup x).waitBeat = s.waitBeat := rfl
@[simp] theorem State.setHup_waitStep (x : Hupatas) : (s.setHup x).waitStep = s.waitStep := rfl
@[simp] theorem State.setHup_waitReset (x : Hupatas) : (s.setHup x).waitReset = s.waitReset := rfl
@[simp] theorem State.setHup_pins (x : Hupatas) : (s.setHup x).pins = s.pins := rfl
@[simp] theorem State.setHup_facets (x : Hupatas) : (s.setHup x).facets = s.facets := rfl
@[simp] theorem State.setHup_spokes (x : Hupatas) : (s.setHup x).spokes = s.spokes := rfl
@[simp] theorem State.setHup_fab (x : Hupatas) : (s.setHup x).fab = s.fab := rfl
@[simp] theorem State.setHup_maps (x : Hupatas) : (s.setHup x).maps = s.maps := rfl
@[simp] theorem State.setHup_router (x : Hupatas) : (s.setHup x).router = s.router := rfl
@[simp] theorem State.setHup_outgoing (x : Hupatas) : (s.setHup x).outgoing = s.outgoing := rfl
@[simp] theorem State.setHup_coll (x : Hupatas) : (s.setHup x).coll = s.coll := rfl
@[simp] theorem State.setHup_slotSerial (x : Hupatas) : (s.setHup x).slotSerial = s.slotSerial := rfl
@[simp] theorem State.setHup_out (x : Hupatas) : (s.setHup x).out = s.out := rfl
@[simp] theorem State.setHup_hup (x : Hupatas) : (s.setHup x).hup = x := rfl

@[simp] theorem State.setLog_pending (x : ErrLog) : (s.setLog x).pending = s.pending := rfl
@[simp] theorem State.setLog_freeCtr (x : ErrLog) : (s.setLog x).freeCtr = s.freeCtr := rfl
@[simp] theorem State.setLog_objs (x : ErrLog) : (s.setLog x).objs = s.objs := rfl
@[simp] theorem State.setLog_cad (x : ErrLog) : (s.setLog x).cad = s.cad := rfl
@[simp] theorem State.setLog_plans (x : ErrLog) : (s.setLog x).plans = s.plans := rfl
@[simp] theorem State.setLog_items (x : ErrLog) : (s.setLog x).items = s.items := rfl
@[simp] theorem State.setLog_nextItem (x : ErrLog) : (s.setLog x).nextItem = s.nextItem := rfl
@[simp] theorem State.setLog_hbm (x : ErrLog) : (s.setLog x).hbm = s.hbm := rfl
@[simp] theorem State.setLog_fm (x : ErrLog) : (s.setLog x).fm = s.fm := rfl
@[simp] theorem State.setLog_queues (x : ErrLog) : (s.setLog x).queues = s.queues := rfl
@[simp] theorem State.setLog_summary (x : ErrLog) : (s.setLog x).summary = s.summary := rfl
@[simp] theorem State.setLog_pools (x : ErrLog) : (s.setLog x).pools = s.pools := rfl
@[simp] theorem State.setLog_rcv (x : ErrLog) : (s.setLog x).rcv = s.rcv := rfl
@[simp] theorem State.setLog_sec (x : ErrLog) : (s.setLog x).sec = s.sec := rfl
@[simp] theorem State.setLog_dict (x : ErrLog) : (s.setLog x).dict = s.dict := rfl
@[simp] theorem State.setLog_power (x : ErrLog) : (s.setLog x).power = s.power := rfl
@[simp] theorem State.setLog_flash (x : ErrLog) : (s.setLog x).flash = s.flash := rfl
@[simp] theorem State.setLog_maint (x : ErrLog) : (s.setLog x).maint = s.maint := rfl
@[simp] theorem State.setLog_waitBeat (x : ErrLog) : (s.setLog x).waitBeat = s.waitBeat := rfl
@[simp] theorem State.setLog_waitStep (x : ErrLog) : (s.setLog x).waitStep = s.waitStep := rfl
@[simp] theorem State.setLog_waitReset (x : ErrLog) : (s.setLog x).waitReset = s.waitReset := rfl
@[simp] theorem State.setLog_pins (x : ErrLog) : (s.setLog x).pins = s.pins := rfl
@[simp] theorem State.setLog_facets (x : ErrLog) : (s.setLog x).facets = s.facets := rfl
@[simp] theorem State.setLog_spokes (x : ErrLog) : (s.setLog x).spokes = s.spokes := rfl
@[simp] theorem State.setLog_hup (x : ErrLog) : (s.setLog x).hup = s.hup := rfl
@[simp] theorem State.setLog_fab (x : ErrLog) : (s.setLog x).fab = s.fab := rfl
@[simp] theorem State.setLog_maps (x : ErrLog) : (s.setLog x).maps = s.maps := rfl
@[simp] theorem State.setLog_router (x : ErrLog) : (s.setLog x).router = s.router := rfl
@[simp] theorem State.setLog_outgoing (x : ErrLog) : (s.setLog x).outgoing = s.outgoing := rfl
@[simp] theorem State.setLog_coll (x : ErrLog) : (s.setLog x).coll = s.coll := rfl
@[simp] theorem State.setLog_slotSerial (x : ErrLog) : (s.setLog x).slotSerial = s.slotSerial := rfl
@[simp] theorem State.setLog_out (x : ErrLog) : (s.setLog x).out = s.out := rfl
@[simp] theorem State.setLog_log (x : ErrLog) : (s.setLog x).log = x := rfl

@[simp] theorem State.setPins_pending (x : Pins) : (s.setPins x).pending = s.pending := rfl
@[simp] theorem State.setPins_freeCtr (x : Pins) : (s.setPins x).freeCtr = s.freeCtr := rfl
@[simp] theorem State.setPins_objs (x : Pins) : (s.setPins x).objs = s.objs := rfl
@[simp] theorem State.setPins_cad (x : Pins) : (s.setPins x).cad = s.cad := rfl
@[simp] theorem State.setPins_plans (x : Pins) : (s.setPins x).plans = s.plans := rfl
@[simp] theorem State.setPins_items (x : Pins) : (s.setPins x).items = s.items := rfl
@[simp] theorem State.setPins_nextItem (x : Pins) : (s.setPins x).nextItem = s.nextItem := rfl
@[simp] theorem State.setPins_hbm (x : Pins) : (s.setPins x).hbm = s.hbm := rfl
@[simp] theorem State.setPins_fm (x : Pins) : (s.setPins x).fm = s.fm := rfl
@[simp] theorem State.setPins_queues (x : Pins) : (s.setPins x).queues = s.queues := rfl
@[simp] theorem State.setPins_summary (x : Pins) : (s.setPins x).summary = s.summary := rfl
@[simp] theorem State.setPins_pools (x : Pins) : (s.setPins x).pools = s.pools := rfl
@[simp] theorem State.setPins_log (x : Pins) : (s.setPins x).log = s.log := rfl
@[simp] theorem State.setPins_rcv (x : Pins) : (s.setPins x).rcv = s.rcv := rfl
@[simp] theorem State.setPins_sec (x : Pins) : (s.setPins x).sec = s.sec := rfl
@[simp] theorem State.setPins_dict (x : Pins) : (s.setPins x).dict = s.dict := rfl
@[simp] theorem State.setPins_power (x : Pins) : (s.setPins x).power = s.power := rfl
@[simp] theorem State.setPins_flash (x : Pins) : (s.setPins x).flash = s.flash := rfl
@[simp] theorem State.setPins_maint (x : Pins) : (s.setPins x).maint = s.maint := rfl
@[simp] theorem State.setPins_waitBeat (x : Pins) : (s.setPins x).waitBeat = s.waitBeat := rfl
@[simp] theorem State.setPins_waitStep (x : Pins) : (s.setPins x).waitStep = s.waitStep := rfl
@[simp] theorem State.setPins_waitReset (x : Pins) : (s.setPins x).waitReset = s.waitReset := rfl
@[simp] theorem State.setPins_facets (x : Pins) : (s.setPins x).facets = s.facets := rfl
@[simp] theorem State.setPins_spokes (x : Pins) : (s.setPins x).spokes = s.spokes := rfl
@[simp] theorem State.setPins_hup (x : Pins) : (s.setPins x).hup = s.hup := rfl
@[simp] theorem State.setPins_fab (x : Pins) : (s.setPins x).fab = s.fab := rfl
@[simp] theorem State.setPins_maps (x : Pins) : (s.setPins x).maps = s.maps := rfl
@[simp] theorem State.setPins_router (x : Pins) : (s.setPins x).router = s.router := rfl
@[simp] theorem State.setPins_outgoing (x : Pins) : (s.setPins x).outgoing = s.outgoing := rfl
@[simp] theorem State.setPins_coll (x : Pins) : (s.setPins x).coll = s.coll := rfl
@[simp] theorem State.setPins_slotSerial (x : Pins) : (s.setPins x).slotSerial = s.slotSerial := rfl
@[simp] theorem State.setPins_out (x : Pins) : (s.setPins x).out = s.out := rfl
@[simp] theorem State.setPins_pins (x : Pins) : (s.setPins x).pins = x := rfl

@[simp] theorem State.setSec_pending (x : Security) : (s.setSec x).pending = s.pending := rfl
@[simp] theorem State.setSec_freeCtr (x : Security) : (s.setSec x).freeCtr = s.freeCtr := rfl
@[simp] theorem State.setSec_objs (x : Security) : (s.setSec x).objs = s.objs := rfl
@[simp] theorem State.setSec_cad (x : Security) : (s.setSec x).cad = s.cad := rfl
@[simp] theorem State.setSec_plans (x : Security) : (s.setSec x).plans = s.plans := rfl
@[simp] theorem State.setSec_items (x : Security) : (s.setSec x).items = s.items := rfl
@[simp] theorem State.setSec_nextItem (x : Security) : (s.setSec x).nextItem = s.nextItem := rfl
@[simp] theorem State.setSec_hbm (x : Security) : (s.setSec x).hbm = s.hbm := rfl
@[simp] theorem State.setSec_fm (x : Security) : (s.setSec x).fm = s.fm := rfl
@[simp] theorem State.setSec_queues (x : Security) : (s.setSec x).queues = s.queues := rfl
@[simp] theorem State.setSec_summary (x : Security) : (s.setSec x).summary = s.summary := rfl
@[simp] theorem State.setSec_pools (x : Security) : (s.setSec x).pools = s.pools := rfl
@[simp] theorem State.setSec_log (x : Security) : (s.setSec x).log = s.log := rfl
@[simp] theorem State.setSec_rcv (x : Security) : (s.setSec x).rcv = s.rcv := rfl
@[simp] theorem State.setSec_dict (x : Security) : (s.setSec x).dict = s.dict := rfl
@[simp] theorem State.setSec_power (x : Security) : (s.setSec x).power = s.power := rfl
@[simp] theorem State.setSec_flash (x : Security) : (s.setSec x).flash = s.flash := rfl
@[simp] theorem State.setSec_maint (x : Security) : (s.setSec x).maint = s.maint := rfl
@[simp] theorem State.setSec_waitBeat (x : Security) : (s.setSec x).waitBeat = s.waitBeat := rfl
@[simp] theorem State.setSec_waitStep (x : Security) : (s.setSec x).waitStep = s.waitStep := rfl
@[simp] theorem State.setSec_waitReset (x : Security) : (s.setSec x).waitReset = s.waitReset := rfl
@[simp] theorem State.setSec_pins (x : Security) : (s.setSec x).pins = s.pins := rfl
@[simp] theorem State.setSec_facets (x : Security) : (s.setSec x).facets = s.facets := rfl
@[simp] theorem State.setSec_spokes (x : Security) : (s.setSec x).spokes = s.spokes := rfl
@[simp] theorem State.setSec_hup (x : Security) : (s.setSec x).hup = s.hup := rfl
@[simp] theorem State.setSec_fab (x : Security) : (s.setSec x).fab = s.fab := rfl
@[simp] theorem State.setSec_maps (x : Security) : (s.setSec x).maps = s.maps := rfl
@[simp] theorem State.setSec_router (x : Security) : (s.setSec x).router = s.router := rfl
@[simp] theorem State.setSec_outgoing (x : Security) : (s.setSec x).outgoing = s.outgoing := rfl
@[simp] theorem State.setSec_coll (x : Security) : (s.setSec x).coll = s.coll := rfl
@[simp] theorem State.setSec_slotSerial (x : Security) : (s.setSec x).slotSerial = s.slotSerial := rfl
@[simp] theorem State.setSec_out (x : Security) : (s.setSec x).out = s.out := rfl
@[simp] theorem State.setSec_sec (x : Security) : (s.setSec x).sec = x := rfl

@[simp] theorem State.setDict_pending (x : Dict) : (s.setDict x).pending = s.pending := rfl
@[simp] theorem State.setDict_freeCtr (x : Dict) : (s.setDict x).freeCtr = s.freeCtr := rfl
@[simp] theorem State.setDict_objs (x : Dict) : (s.setDict x).objs = s.objs := rfl
@[simp] theorem State.setDict_cad (x : Dict) : (s.setDict x).cad = s.cad := rfl
@[simp] theorem State.setDict_plans (x : Dict) : (s.setDict x).plans = s.plans := rfl
@[simp] theorem State.setDict_items (x : Dict) : (s.setDict x).items = s.items := rfl
@[simp] theorem State.setDict_nextItem (x : Dict) : (s.setDict x).nextItem = s.nextItem := rfl
@[simp] theorem State.setDict_hbm (x : Dict) : (s.setDict x).hbm = s.hbm := rfl
@[simp] theorem State.setDict_fm (x : Dict) : (s.setDict x).fm = s.fm := rfl
@[simp] theorem State.setDict_queues (x : Dict) : (s.setDict x).queues = s.queues := rfl
@[simp] theorem State.setDict_summary (x : Dict) : (s.setDict x).summary = s.summary := rfl
@[simp] theorem State.setDict_pools (x : Dict) : (s.setDict x).pools = s.pools := rfl
@[simp] theorem State.setDict_log (x : Dict) : (s.setDict x).log = s.log := rfl
@[simp] theorem State.setDict_rcv (x : Dict) : (s.setDict x).rcv = s.rcv := rfl
@[simp] theorem State.setDict_sec (x : Dict) : (s.setDict x).sec = s.sec := rfl
@[simp] theorem State.setDict_power (x : Dict) : (s.setDict x).power = s.power := rfl
@[simp] theorem State.setDict_flash (x : Dict) : (s.setDict x).flash = s.flash := rfl
@[simp] theorem State.setDict_maint (x : Dict) : (s.setDict x).maint = s.maint := rfl
@[simp] theorem State.setDict_waitBeat (x : Dict) : (s.setDict x).waitBeat = s.waitBeat := rfl
@[simp] theorem State.setDict_waitStep (x : Dict) : (s.setDict x).waitStep = s.waitStep := rfl
@[simp] theorem State.setDict_waitReset (x : Dict) : (s.setDict x).waitReset = s.waitReset := rfl
@[simp] theorem State.setDict_pins (x : Dict) : (s.setDict x).pins = s.pins := rfl
@[simp] theorem State.setDict_facets (x : Dict) : (s.setDict x).facets = s.facets := rfl
@[simp] theorem State.setDict_spokes (x : Dict) : (s.setDict x).spokes = s.spokes := rfl
@[simp] theorem State.setDict_hup (x : Dict) : (s.setDict x).hup = s.hup := rfl
@[simp] theorem State.setDict_fab (x : Dict) : (s.setDict x).fab = s.fab := rfl
@[simp] theorem State.setDict_maps (x : Dict) : (s.setDict x).maps = s.maps := rfl
@[simp] theorem State.setDict_router (x : Dict) : (s.setDict x).router = s.router := rfl
@[simp] theorem State.setDict_outgoing (x : Dict) : (s.setDict x).outgoing = s.outgoing := rfl
@[simp] theorem State.setDict_coll (x : Dict) : (s.setDict x).coll = s.coll := rfl
@[simp] theorem State.setDict_slotSerial (x : Dict) : (s.setDict x).slotSerial = s.slotSerial := rfl
@[simp] theorem State.setDict_out (x : Dict) : (s.setDict x).out = s.out := rfl
@[simp] theorem State.setDict_dict (x : Dict) : (s.setDict x).dict = x := rfl

@[simp] theorem State.setPower_pending (x : Power) : (s.setPower x).pending = s.pending := rfl
@[simp] theorem State.setPower_freeCtr (x : Power) : (s.setPower x).freeCtr = s.freeCtr := rfl
@[simp] theorem State.setPower_objs (x : Power) : (s.setPower x).objs = s.objs := rfl
@[simp] theorem State.setPower_cad (x : Power) : (s.setPower x).cad = s.cad := rfl
@[simp] theorem State.setPower_plans (x : Power) : (s.setPower x).plans = s.plans := rfl
@[simp] theorem State.setPower_items (x : Power) : (s.setPower x).items = s.items := rfl
@[simp] theorem State.setPower_nextItem (x : Power) : (s.setPower x).nextItem = s.nextItem := rfl
@[simp] theorem State.setPower_hbm (x : Power) : (s.setPower x).hbm = s.hbm := rfl
@[simp] theorem State.setPower_fm (x : Power) : (s.setPower x).fm = s.fm := rfl
@[simp] theorem State.setPower_queues (x : Power) : (s.setPower x).queues = s.queues := rfl
@[simp] theorem State.setPower_summary (x : Power) : (s.setPower x).summary = s.summary := rfl
@[simp] theorem State.setPower_pools (x : Power) : (s.setPower x).pools = s.pools := rfl
@[simp] theorem State.setPower_log (x : Power) : (s.setPower x).log = s.log := rfl
@[simp] theorem State.setPower_rcv (x : Power) : (s.setPower x).rcv = s.rcv := rfl
@[simp] theorem State.setPower_sec (x : Power) : (s.setPower x).sec = s.sec := rfl
@[simp] theorem State.setPower_dict (x : Power) : (s.setPower x).dict = s.dict := rfl
@[simp] theorem State.setPower_flash (x : Power) : (s.setPower x).flash = s.flash := rfl
@[simp] theorem State.setPower_maint (x : Power) : (s.setPower x).maint = s.maint := rfl
@[simp] theorem State.setPower_waitBeat (x : Power) : (s.setPower x).waitBeat = s.waitBeat := rfl
@[simp] theorem State.setPower_waitStep (x : Power) : (s.setPower x).waitStep = s.waitStep := rfl
@[simp] theorem State.setPower_waitReset (x : Power) : (s.setPower x).waitReset = s.waitReset := rfl
@[simp] theorem State.setPower_pins (x : Power) : (s.setPower x).pins = s.pins := rfl
@[simp] theorem State.setPower_facets (x : Power) : (s.setPower x).facets = s.facets := rfl
@[simp] theorem State.setPower_spokes (x : Power) : (s.setPower x).spokes = s.spokes := rfl
@[simp] theorem State.setPower_hup (x : Power) : (s.setPower x).hup = s.hup := rfl
@[simp] theorem State.setPower_fab (x : Power) : (s.setPower x).fab = s.fab := rfl
@[simp] theorem State.setPower_maps (x : Power) : (s.setPower x).maps = s.maps := rfl
@[simp] theorem State.setPower_router (x : Power) : (s.setPower x).router = s.router := rfl
@[simp] theorem State.setPower_outgoing (x : Power) : (s.setPower x).outgoing = s.outgoing := rfl
@[simp] theorem State.setPower_coll (x : Power) : (s.setPower x).coll = s.coll := rfl
@[simp] theorem State.setPower_slotSerial (x : Power) : (s.setPower x).slotSerial = s.slotSerial := rfl
@[simp] theorem State.setPower_out (x : Power) : (s.setPower x).out = s.out := rfl
@[simp] theorem State.setPower_power (x : Power) : (s.setPower x).power = x := rfl

@[simp] theorem State.setFlash_pending (x : Flash) : (s.setFlash x).pending = s.pending := rfl
@[simp] theorem State.setFlash_freeCtr (x : Flash) : (s.setFlash x).freeCtr = s.freeCtr := rfl
@[simp] theorem State.setFlash_objs (x : Flash) : (s.setFlash x).objs = s.objs := rfl
@[simp] theorem State.setFlash_cad (x : Flash) : (s.setFlash x).cad = s.cad := rfl
@[simp] theorem State.setFlash_plans (x : Flash) : (s.setFlash x).plans = s.plans := rfl
@[simp] theorem State.setFlash_items (x : Flash) : (s.setFlash x).items = s.items := rfl
@[simp] theorem State.setFlash_nextItem (x : Flash) : (s.setFlash x).nextItem = s.nextItem := rfl
@[simp] theorem State.setFlash_hbm (x : Flash) : (s.setFlash x).hbm = s.hbm := rfl
@[simp] theorem State.setFlash_fm (x : Flash) : (s.setFlash x).fm = s.fm := rfl
@[simp] theorem State.setFlash_queues (x : Flash) : (s.setFlash x).queues = s.queues := rfl
@[simp] theorem State.setFlash_summary (x : Flash) : (s.setFlash x).summary = s.summary := rfl
@[simp] theorem State.setFlash_pools (x : Flash) : (s.setFlash x).pools = s.pools := rfl
@[simp] theorem State.setFlash_log (x : Flash) : (s.setFlash x).log = s.log := rfl
@[simp] theorem State.setFlash_rcv (x : Flash) : (s.setFlash x).rcv = s.rcv := rfl
@[simp] theorem State.setFlash_sec (x : Flash) : (s.setFlash x).sec = s.sec := rfl
@[simp] theorem State.setFlash_dict (x : Flash) : (s.setFlash x).dict = s.dict := rfl
@[simp] theorem State.setFlash_power (x : Flash) : (s.setFlash x).power = s.power := rfl
@[simp] theorem State.setFlash_maint (x : Flash) : (s.setFlash x).maint = s.maint := rfl
@[simp] theorem State.setFlash_waitBeat (x : Flash) : (s.setFlash x).waitBeat = s.waitBeat := rfl
@[simp] theorem State.setFlash_waitStep (x : Flash) : (s.setFlash x).waitStep = s.waitStep := rfl
@[simp] theorem State.setFlash_waitReset (x : Flash) : (s.setFlash x).waitReset = s.waitReset := rfl
@[simp] theorem State.setFlash_pins (x : Flash) : (s.setFlash x).pins = s.pins := rfl
@[simp] theorem State.setFlash_facets (x : Flash) : (s.setFlash x).facets = s.facets := rfl
@[simp] theorem State.setFlash_spokes (x : Flash) : (s.setFlash x).spokes = s.spokes := rfl
@[simp] theorem State.setFlash_hup (x : Flash) : (s.setFlash x).hup = s.hup := rfl
@[simp] theorem State.setFlash_fab (x : Flash) : (s.setFlash x).fab = s.fab := rfl
@[simp] theorem State.setFlash_maps (x : Flash) : (s.setFlash x).maps = s.maps := rfl
@[simp] theorem State.setFlash_router (x : Flash) : (s.setFlash x).router = s.router := rfl
@[simp] theorem State.setFlash_outgoing (x : Flash) : (s.setFlash x).outgoing = s.outgoing := rfl
@[simp] theorem State.setFlash_coll (x : Flash) : (s.setFlash x).coll = s.coll := rfl
@[simp] theorem State.setFlash_slotSerial (x : Flash) : (s.setFlash x).slotSerial = s.slotSerial := rfl
@[simp] theorem State.setFlash_out (x : Flash) : (s.setFlash x).out = s.out := rfl
@[simp] theorem State.setFlash_flash (x : Flash) : (s.setFlash x).flash = x := rfl

@[simp] theorem State.setMaint_pending (x : Maint) : (s.setMaint x).pending = s.pending := rfl
@[simp] theorem State.setMaint_freeCtr (x : Maint) : (s.setMaint x).freeCtr = s.freeCtr := rfl
@[simp] theorem State.setMaint_objs (x : Maint) : (s.setMaint x).objs = s.objs := rfl
@[simp] theorem State.setMaint_cad (x : Maint) : (s.setMaint x).cad = s.cad := rfl
@[simp] theorem State.setMaint_plans (x : Maint) : (s.setMaint x).plans = s.plans := rfl
@[simp] theorem State.setMaint_items (x : Maint) : (s.setMaint x).items = s.items := rfl
@[simp] theorem State.setMaint_nextItem (x : Maint) : (s.setMaint x).nextItem = s.nextItem := rfl
@[simp] theorem State.setMaint_hbm (x : Maint) : (s.setMaint x).hbm = s.hbm := rfl
@[simp] theorem State.setMaint_fm (x : Maint) : (s.setMaint x).fm = s.fm := rfl
@[simp] theorem State.setMaint_queues (x : Maint) : (s.setMaint x).queues = s.queues := rfl
@[simp] theorem State.setMaint_summary (x : Maint) : (s.setMaint x).summary = s.summary := rfl
@[simp] theorem State.setMaint_pools (x : Maint) : (s.setMaint x).pools = s.pools := rfl
@[simp] theorem State.setMaint_log (x : Maint) : (s.setMaint x).log = s.log := rfl
@[simp] theorem State.setMaint_rcv (x : Maint) : (s.setMaint x).rcv = s.rcv := rfl
@[simp] theorem State.setMaint_sec (x : Maint) : (s.setMaint x).sec = s.sec := rfl
@[simp] theorem State.setMaint_dict (x : Maint) : (s.setMaint x).dict = s.dict := rfl
@[simp] theorem State.setMaint_power (x : Maint) : (s.setMaint x).power = s.power := rfl
@[simp] theorem State.setMaint_flash (x : Maint) : (s.setMaint x).flash = s.flash := rfl
@[simp] theorem State.setMaint_waitBeat (x : Maint) : (s.setMaint x).waitBeat = s.waitBeat := rfl
@[simp] theorem State.setMaint_waitStep (x : Maint) : (s.setMaint x).waitStep = s.waitStep := rfl
@[simp] theorem State.setMaint_waitReset (x : Maint) : (s.setMaint x).waitReset = s.waitReset := rfl
@[simp] theorem State.setMaint_pins (x : Maint) : (s.setMaint x).pins = s.pins := rfl
@[simp] theorem State.setMaint_facets (x : Maint) : (s.setMaint x).facets = s.facets := rfl
@[simp] theorem State.setMaint_spokes (x : Maint) : (s.setMaint x).spokes = s.spokes := rfl
@[simp] theorem State.setMaint_hup (x : Maint) : (s.setMaint x).hup = s.hup := rfl
@[simp] theorem State.setMaint_fab (x : Maint) : (s.setMaint x).fab = s.fab := rfl
@[simp] theorem State.setMaint_maps (x : Maint) : (s.setMaint x).maps = s.maps := rfl
@[simp] theorem State.setMaint_router (x : Maint) : (s.setMaint x).router = s.router := rfl
@[simp] theorem State.setMaint_outgoing (x : Maint) : (s.setMaint x).outgoing = s.outgoing := rfl
@[simp] theorem State.setMaint_coll (x : Maint) : (s.setMaint x).coll = s.coll := rfl
@[simp] theorem State.setMaint_slotSerial (x : Maint) : (s.setMaint x).slotSerial = s.slotSerial := rfl
@[simp] theorem State.setMaint_out (x : Maint) : (s.setMaint x).out = s.out := rfl
@[simp] theorem State.setMaint_maint (x : Maint) : (s.setMaint x).maint = x := rfl

@[simp] theorem State.setItems_pending (x : Table Item) : (s.setItems x).pending = s.pending := rfl
@[simp] theorem State.setItems_freeCtr (x : Table Item) : (s.setItems x).freeCtr = s.freeCtr := rfl
@[simp] theorem State.setItems_objs (x : Table Item) : (s.setItems x).objs = s.objs := rfl
@[simp] theorem State.setItems_cad (x : Table Item) : (s.setItems x).cad = s.cad := rfl
@[simp] theorem State.setItems_plans (x : Table Item) : (s.setItems x).plans = s.plans := rfl
@[simp] theorem State.setItems_nextItem (x : Table Item) : (s.setItems x).nextItem = s.nextItem := rfl
@[simp] theorem State.setItems_hbm (x : Table Item) : (s.setItems x).hbm = s.hbm := rfl
@[simp] theorem State.setItems_fm (x : Table Item) : (s.setItems x).fm = s.fm := rfl
@[simp] theorem State.setItems_queues (x : Table Item) : (s.setItems x).queues = s.queues := rfl
@[simp] theorem State.setItems_summary (x : Table Item) : (s.setItems x).summary = s.summary := rfl
@[simp] theorem State.setItems_pools (x : Table Item) : (s.setItems x).pools = s.pools := rfl
@[simp] theorem State.setItems_log (x : Table Item) : (s.setItems x).log = s.log := rfl
@[simp] theorem State.setItems_rcv (x : Table Item) : (s.setItems x).rcv = s.rcv := rfl
@[simp] theorem State.setItems_sec (x : Table Item) : (s.setItems x).sec = s.sec := rfl
@[simp] theorem State.setItems_dict (x : Table Item) : (s.setItems x).dict = s.dict := rfl
@[simp] theorem State.setItems_power (x : Table Item) : (s.setItems x).power = s.power := rfl
@[simp] theorem State.setItems_flash (x : Table Item) : (s.setItems x).flash = s.flash := rfl
@[simp] theorem State.setItems_maint (x : Table Item) : (s.setItems x).maint = s.maint := rfl
@[simp] theorem State.setItems_waitBeat (x : Table Item) : (s.setItems x).waitBeat = s.waitBeat := rfl
@[simp] theorem State.setItems_waitStep (x : Table Item) : (s.setItems x).waitStep = s.waitStep := rfl
@[simp] theorem State.setItems_waitReset (x : Table Item) : (s.setItems x).waitReset = s.waitReset := rfl
@[simp] theorem State.setItems_pins (x : Table Item) : (s.setItems x).pins = s.pins := rfl
@[simp] theorem State.setItems_facets (x : Table Item) : (s.setItems x).facets = s.facets := rfl
@[simp] theorem State.setItems_spokes (x : Table Item) : (s.setItems x).spokes = s.spokes := rfl
@[simp] theorem State.setItems_hup (x : Table Item) : (s.setItems x).hup = s.hup := rfl
@[simp] theorem State.setItems_fab (x : Table Item) : (s.setItems x).fab = s.fab := rfl
@[simp] theorem State.setItems_maps (x : Table Item) : (s.setItems x).maps = s.maps := rfl
@[simp] theorem State.setItems_router (x : Table Item) : (s.setItems x).router = s.router := rfl
@[simp] theorem State.setItems_outgoing (x : Table Item) : (s.setItems x).outgoing = s.outgoing := rfl
@[simp] theorem State.setItems_coll (x : Table Item) : (s.setItems x).coll = s.coll := rfl
@[simp] theorem State.setItems_slotSerial (x : Table Item) : (s.setItems x).slotSerial = s.slotSerial := rfl
@[simp] theorem State.setItems_out (x : Table Item) : (s.setItems x).out = s.out := rfl
@[simp] theorem State.setItems_items (x : Table Item) : (s.setItems x).items = x := rfl

@[simp] theorem State.setQueues_pending (x : Table Queue) : (s.setQueues x).pending = s.pending := rfl
@[simp] theorem State.setQueues_freeCtr (x : Table Queue) : (s.setQueues x).freeCtr = s.freeCtr := rfl
@[simp] theorem State.setQueues_objs (x : Table Queue) : (s.setQueues x).objs = s.objs := rfl
@[simp] theorem State.setQueues_cad (x : Table Queue) : (s.setQueues x).cad = s.cad := rfl
@[simp] theorem State.setQueues_plans (x : Table Queue) : (s.setQueues x).plans = s.plans := rfl
@[simp] theorem State.setQueues_items (x : Table Queue) : (s.setQueues x).items = s.items := rfl
@[simp] theorem State.setQueues_nextItem (x : Table Queue) : (s.setQueues x).nextItem = s.nextItem := rfl
@[simp] theorem State.setQueues_hbm (x : Table Queue) : (s.setQueues x).hbm = s.hbm := rfl
@[simp] theorem State.setQueues_fm (x : Table Queue) : (s.setQueues x).fm = s.fm := rfl
@[simp] theorem State.setQueues_summary (x : Table Queue) : (s.setQueues x).summary = s.summary := rfl
@[simp] theorem State.setQueues_pools (x : Table Queue) : (s.setQueues x).pools = s.pools := rfl
@[simp] theorem State.setQueues_log (x : Table Queue) : (s.setQueues x).log = s.log := rfl
@[simp] theorem State.setQueues_rcv (x : Table Queue) : (s.setQueues x).rcv = s.rcv := rfl
@[simp] theorem State.setQueues_sec (x : Table Queue) : (s.setQueues x).sec = s.sec := rfl
@[simp] theorem State.setQueues_dict (x : Table Queue) : (s.setQueues x).dict = s.dict := rfl
@[simp] theorem State.setQueues_power (x : Table Queue) : (s.setQueues x).power = s.power := rfl
@[simp] theorem State.setQueues_flash (x : Table Queue) : (s.setQueues x).flash = s.flash := rfl
@[simp] theorem State.setQueues_maint (x : Table Queue) : (s.setQueues x).maint = s.maint := rfl
@[simp] theorem State.setQueues_waitBeat (x : Table Queue) : (s.setQueues x).waitBeat = s.waitBeat := rfl
@[simp] theorem State.setQueues_waitStep (x : Table Queue) : (s.setQueues x).waitStep = s.waitStep := rfl
@[simp] theorem State.setQueues_waitReset (x : Table Queue) : (s.setQueues x).waitReset = s.waitReset := rfl
@[simp] theorem State.setQueues_pins (x : Table Queue) : (s.setQueues x).pins = s.pins := rfl
@[simp] theorem State.setQueues_facets (x : Table Queue) : (s.setQueues x).facets = s.facets := rfl
@[simp] theorem State.setQueues_spokes (x : Table Queue) : (s.setQueues x).spokes = s.spokes := rfl
@[simp] theorem State.setQueues_hup (x : Table Queue) : (s.setQueues x).hup = s.hup := rfl
@[simp] theorem State.setQueues_fab (x : Table Queue) : (s.setQueues x).fab = s.fab := rfl
@[simp] theorem State.setQueues_maps (x : Table Queue) : (s.setQueues x).maps = s.maps := rfl
@[simp] theorem State.setQueues_router (x : Table Queue) : (s.setQueues x).router = s.router := rfl
@[simp] theorem State.setQueues_outgoing (x : Table Queue) : (s.setQueues x).outgoing = s.outgoing := rfl
@[simp] theorem State.setQueues_coll (x : Table Queue) : (s.setQueues x).coll = s.coll := rfl
@[simp] theorem State.setQueues_slotSerial (x : Table Queue) : (s.setQueues x).slotSerial = s.slotSerial := rfl
@[simp] theorem State.setQueues_out (x : Table Queue) : (s.setQueues x).out = s.out := rfl
@[simp] theorem State.setQueues_queues (x : Table Queue) : (s.setQueues x).queues = x := rfl

@[simp] theorem State.setFacets_pending (x : Table Facet) : (s.setFacets x).pending = s.pending := rfl
@[simp] theorem State.setFacets_freeCtr (x : Table Facet) : (s.setFacets x).freeCtr = s.freeCtr := rfl
@[simp] theorem State.setFacets_objs (x : Table Facet) : (s.setFacets x).objs = s.objs := rfl
@[simp] theorem State.setFacets_cad (x : Table Facet) : (s.setFacets x).cad = s.cad := rfl
@[simp] theorem State.setFacets_plans (x : Table Facet) : (s.setFacets x).plans = s.plans := rfl
@[simp] theorem State.setFacets_items (x : Table Facet) : (s.setFacets x).items = s.items := rfl
@[simp] theorem State.setFacets_nextItem (x : Table Facet) : (s.setFacets x).nextItem = s.nextItem := rfl
@[simp] theorem State.setFacets_hbm (x : Table Facet) : (s.setFacets x).hbm = s.hbm := rfl
@[simp] theorem State.setFacets_fm (x : Table Facet) : (s.setFacets x).fm = s.fm := rfl
@[simp] theorem State.setFacets_queues (x : Table Facet) : (s.setFacets x).queues = s.queues := rfl
@[simp] theorem State.setFacets_summary (x : Table Facet) : (s.setFacets x).summary = s.summary := rfl
@[simp] theorem State.setFacets_pools (x : Table Facet) : (s.setFacets x).pools = s.pools := rfl
@[simp] theorem State.setFacets_log (x : Table Facet) : (s.setFacets x).log = s.log := rfl
@[simp] theorem State.setFacets_rcv (x : Table Facet) : (s.setFacets x).rcv = s.rcv := rfl
@[simp] theorem State.setFacets_sec (x : Table Facet) : (s.setFacets x).sec = s.sec := rfl
@[simp] theorem State.setFacets_dict (x : Table Facet) : (s.setFacets x).dict = s.dict := rfl
@[simp] theorem State.setFacets_power (x : Table Facet) : (s.setFacets x).power = s.power := rfl
@[simp] theorem State.setFacets_flash (x : Table Facet) : (s.setFacets x).flash = s.flash := rfl
@[simp] theorem State.setFacets_maint (x : Table Facet) : (s.setFacets x).maint = s.maint := rfl
@[simp] theorem State.setFacets_waitBeat (x : Table Facet) : (s.setFacets x).waitBeat = s.waitBeat := rfl
@[simp] theorem State.setFacets_waitStep (x : Table Facet) : (s.setFacets x).waitStep = s.waitStep := rfl
@[simp] theorem State.setFacets_waitReset (x : Table Facet) : (s.setFacets x).waitReset = s.waitReset := rfl
@[simp] theorem State.setFacets_pins (x : Table Facet) : (s.setFacets x).pins = s.pins := rfl
@[simp] theorem State.setFacets_spokes (x : Table Facet) : (s.setFacets x).spokes = s.spokes := rfl
@[simp] theorem State.setFacets_hup (x : Table Facet) : (s.setFacets x).hup = s.hup := rfl
@[simp] theorem State.setFacets_fab (x : Table Facet) : (s.setFacets x).fab = s.fab := rfl
@[simp] theorem State.setFacets_maps (x : Table Facet) : (s.setFacets x).maps = s.maps := rfl
@[simp] theorem State.setFacets_router (x : Table Facet) : (s.setFacets x).router = s.router := rfl
@[simp] theorem State.setFacets_outgoing (x : Table Facet) : (s.setFacets x).outgoing = s.outgoing := rfl
@[simp] theorem State.setFacets_coll (x : Table Facet) : (s.setFacets x).coll = s.coll := rfl
@[simp] theorem State.setFacets_slotSerial (x : Table Facet) : (s.setFacets x).slotSerial = s.slotSerial := rfl
@[simp] theorem State.setFacets_out (x : Table Facet) : (s.setFacets x).out = s.out := rfl
@[simp] theorem State.setFacets_facets (x : Table Facet) : (s.setFacets x).facets = x := rfl

@[simp] theorem State.setOutgoing_pending (x : List Outgoing) : (s.setOutgoing x).pending = s.pending := rfl
@[simp] theorem State.setOutgoing_freeCtr (x : List Outgoing) : (s.setOutgoing x).freeCtr = s.freeCtr := rfl
@[simp] theorem State.setOutgoing_objs (x : List Outgoing) : (s.setOutgoing x).objs = s.objs := rfl
@[simp] theorem State.setOutgoing_cad (x : List Outgoing) : (s.setOutgoing x).cad = s.cad := rfl
@[simp] theorem State.setOutgoing_plans (x : List Outgoing) : (s.setOutgoing x).plans = s.plans := rfl
@[simp] theorem State.setOutgoing_items (x : List Outgoing) : (s.setOutgoing x).items = s.items := rfl
@[simp] theorem State.setOutgoing_nextItem (x : List Outgoing) : (s.setOutgoing x).nextItem = s.nextItem := rfl
@[simp] theorem State.setOutgoing_hbm (x : List Outgoing) : (s.setOutgoing x).hbm = s.hbm := rfl
@[simp] theorem State.setOutgoing_fm (x : List Outgoing) : (s.setOutgoing x).fm = s.fm := rfl
@[simp] theorem State.setOutgoing_queues (x : List Outgoing) : (s.setOutgoing x).queues = s.queues := rfl
@[simp] theorem State.setOutgoing_summary (x : List Outgoing) : (s.setOutgoing x).summary = s.summary := rfl
@[simp] theorem State.setOutgoing_pools (x : List Outgoing) : (s.setOutgoing x).pools = s.pools := rfl
@[simp] theorem State.setOutgoing_log (x : List Outgoing) : (s.setOutgoing x).log = s.log := rfl
@[simp] theorem State.setOutgoing_rcv (x : List Outgoing) : (s.setOutgoing x).rcv = s.rcv := rfl
@[simp] theorem State.setOutgoing_sec (x : List Outgoing) : (s.setOutgoing x).sec = s.sec := rfl
@[simp] theorem State.setOutgoing_dict (x : List Outgoing) : (s.setOutgoing x).dict = s.dict := rfl
@[simp] theorem State.setOutgoing_power (x : List Outgoing) : (s.setOutgoing x).power = s.power := rfl
@[simp] theorem State.setOutgoing_flash (x : List Outgoing) : (s.setOutgoing x).flash = s.flash := rfl
@[simp] theorem State.setOutgoing_maint (x : List Outgoing) : (s.setOutgoing x).maint = s.maint := rfl
@[simp] theorem State.setOutgoing_waitBeat (x : List Outgoing) : (s.setOutgoing x).waitBeat = s.waitBeat := rfl
@[simp] theorem State.setOutgoing_waitStep (x : List Outgoing) : (s.setOutgoing x).waitStep = s.waitStep := rfl
@[simp] theorem State.setOutgoing_waitReset (x : List Outgoing) : (s.setOutgoing x).waitReset = s.waitReset := rfl
@[simp] theorem State.setOutgoing_pins (x : List Outgoing) : (s.setOutgoing x).pins = s.pins := rfl
@[simp] theorem State.setOutgoing_facets (x : List Outgoing) : (s.setOutgoing x).facets = s.facets := rfl
@[simp] theorem State.setOutgoing_spokes (x : List Outgoing) : (s.setOutgoing x).spokes = s.spokes := rfl
@[simp] theorem State.setOutgoing_hup (x : List Outgoing) : (s.setOutgoing x).hup = s.hup := rfl
@[simp] theorem State.setOutgoing_fab (x : List Outgoing) : (s.setOutgoing x).fab = s.fab := rfl
@[simp] theorem State.setOutgoing_maps (x : List Outgoing) : (s.setOutgoing x).maps = s.maps := rfl
@[simp] theorem State.setOutgoing_router (x : List Outgoing) : (s.setOutgoing x).router = s.router := rfl
@[simp] theorem State.setOutgoing_coll (x : List Outgoing) : (s.setOutgoing x).coll = s.coll := rfl
@[simp] theorem State.setOutgoing_slotSerial (x : List Outgoing) : (s.setOutgoing x).slotSerial = s.slotSerial := rfl
@[simp] theorem State.setOutgoing_out (x : List Outgoing) : (s.setOutgoing x).out = s.out := rfl
@[simp] theorem State.setOutgoing_outgoing (x : List Outgoing) : (s.setOutgoing x).outgoing = x := rfl

@[simp] theorem State.setMaps_pending (x : Table (List Nat)) : (s.setMaps x).pending = s.pending := rfl
@[simp] theorem State.setMaps_freeCtr (x : Table (List Nat)) : (s.setMaps x).freeCtr = s.freeCtr := rfl
@[simp] theorem State.setMaps_objs (x : Table (List Nat)) : (s.setMaps x).objs = s.objs := rfl
@[simp] theorem State.setMaps_cad (x : Table (List Nat)) : (s.setMaps x).cad = s.cad := rfl
@[simp] theorem State.setMaps_plans (x : Table (List Nat)) : (s.setMaps x).plans = s.plans := rfl
@[simp] theorem State.setMaps_items (x : Table (List Nat)) : (s.setMaps x).items = s.items := rfl
@[simp] theorem State.setMaps_nextItem (x : Table (List Nat)) : (s.setMaps x).nextItem = s.nextItem := rfl
@[simp] theorem State.setMaps_hbm (x : Table (List Nat)) : (s.setMaps x).hbm = s.hbm := rfl
@[simp] theorem State.setMaps_fm (x : Table (List Nat)) : (s.setMaps x).fm = s.fm := rfl
@[simp] theorem State.setMaps_queues (x : Table (List Nat)) : (s.setMaps x).queues = s.queues := rfl
@[simp] theorem State.setMaps_summary (x : Table (List Nat)) : (s.setMaps x).summary = s.summary := rfl
@[simp] theorem State.setMaps_pools (x : Table (List Nat)) : (s.setMaps x).pools = s.pools := rfl
@[simp] theorem State.setMaps_log (x : Table (List Nat)) : (s.setMaps x).log = s.log := rfl
@[simp] theorem State.setMaps_rcv (x : Table (List Nat)) : (s.setMaps x).rcv = s.rcv := rfl
@[simp] theorem State.setMaps_sec (x : Table (List Nat)) : (s.setMaps x).sec = s.sec := rfl
@[simp] theorem State.setMaps_dict (x : Table (List Nat)) : (s.setMaps x).dict = s.dict := rfl
@[simp] theorem State.setMaps_power (x : Table (List Nat)) : (s.setMaps x).power = s.power := rfl
@[simp] theorem State.setMaps_flash (x : Table (List Nat)) : (s.setMaps x).flash = s.flash := rfl
@[simp] theorem State.setMaps_maint (x : Table (List Nat)) : (s.setMaps x).maint = s.maint := rfl
@[simp] theorem State.setMaps_waitBeat (x : Table (List Nat)) : (s.setMaps x).waitBeat = s.waitBeat := rfl
@[simp] theorem State.setMaps_waitStep (x : Table (List Nat)) : (s.setMaps x).waitStep = s.waitStep := rfl
@[simp] theorem State.setMaps_waitReset (x : Table (List Nat)) : (s.setMaps x).waitReset = s.waitReset := rfl
@[simp] theorem State.setMaps_pins (x : Table (List Nat)) : (s.setMaps x).pins = s.pins := rfl
@[simp] theorem State.setMaps_facets (x : Table (List Nat)) : (s.setMaps x).facets = s.facets := rfl
@[simp] theorem State.setMaps_spokes (x : Table (List Nat)) : (s.setMaps x).spokes = s.spokes := rfl
@[simp] theorem State.setMaps_hup (x : Table (List Nat)) : (s.setMaps x).hup = s.hup := rfl
@[simp] theorem State.setMaps_fab (x : Table (List Nat)) : (s.setMaps x).fab = s.fab := rfl
@[simp] theorem State.setMaps_router (x : Table (List Nat)) : (s.setMaps x).router = s.router := rfl
@[simp] theorem State.setMaps_outgoing (x : Table (List Nat)) : (s.setMaps x).outgoing = s.outgoing := rfl
@[simp] theorem State.setMaps_coll (x : Table (List Nat)) : (s.setMaps x).coll = s.coll := rfl
@[simp] theorem State.setMaps_slotSerial (x : Table (List Nat)) : (s.setMaps x).slotSerial = s.slotSerial := rfl
@[simp] theorem State.setMaps_out (x : Table (List Nat)) : (s.setMaps x).out = s.out := rfl
@[simp] theorem State.setMaps_maps (x : Table (List Nat)) : (s.setMaps x).maps = x := rfl

@[simp] theorem State.setRegF_pending (o : ObjDef) (sub i v : Nat) : (s.setRegF o sub i v).pending = s.pending := rfl
@[simp] theorem State.setRegF_freeCtr (o : ObjDef) (sub i v : Nat) : (s.setRegF o sub i v).freeCtr = s.freeCtr := rfl
@[simp] theorem State.setRegF_cad (o : ObjDef) (sub i v : Nat) : (s.setRegF o sub i v).cad = s.cad := rfl
@[simp] theorem State.setRegF_plans (o : ObjDef) (sub i v : Nat) : (s.setRegF o sub i v).plans = s.plans := rfl
@[simp] theorem State.setRegF_items (o : ObjDef) (sub i v : Nat) : (s.setRegF o sub i v).items = s.items := rfl
@[simp] theorem State.setRegF_nextItem (o : ObjDef) (sub i v : Nat) : (s.setRegF o sub i v).nextItem = s.nextItem := rfl
@[simp] theorem State.setRegF_hbm (o : ObjDef) (sub i v : Nat) : (s.setRegF o sub i v).hbm = s.hbm := rfl
@[simp] theorem State.setRegF_fm (o : ObjDef) (sub i v : Nat) : (s.setRegF o sub i v).fm = s.fm := rfl
@[simp] theorem State.setRegF_queues (o : ObjDef) (sub i v : Nat) : (s.setRegF o sub i v).queues = s.queues := rfl
@[simp] theorem State.setRegF_summary (o : ObjDef) (sub i v : Nat) : (s.setRegF o sub i v).summary = s.summary := rfl
@[simp] theorem State.setRegF_pools (o : ObjDef) (sub i v : Nat) : (s.setRegF o sub i v).pools = s.pools := rfl
@[simp] theorem State.setRegF_log (o : ObjDef) (sub i v : Nat) : (s.setRegF o sub i v).log = s.log := rfl
@[simp] theorem State.setRegF_rcv (o : ObjDef) (sub i v : Nat) : (s.setRegF o sub i v).rcv = s.rcv := rfl
@[simp] theorem State.setRegF_sec (o : ObjDef) (sub i v : Nat) : (s.setRegF o sub i v).sec = s.sec := rfl
@[simp] theorem State.setRegF_dict (o : ObjDef) (sub i v : Nat) : (s.setRegF o sub i v).dict = s.dict := rfl
@[simp] theorem State.setRegF_power (o : ObjDef) (sub i v : Nat) : (s.setRegF o sub i v).power = s.power := rfl
@[simp] theorem State.setRegF_flash (o : ObjDef) (sub i v : Nat) : (s.setRegF o sub i v).flash = s.flash := rfl
@[simp] theorem State.setRegF_maint (o : ObjDef) (sub i v : Nat) : (s.setRegF o sub i v).maint = s.maint := rfl
@[simp] theorem State.setRegF_waitBeat (o : ObjDef) (sub i v : Nat) : (s.setRegF o sub i v).waitBeat = s.waitBeat := rfl
@[simp] theorem State.setRegF_waitStep (o : ObjDef) (sub i v : Nat) : (s.setRegF o sub i v).waitStep = s.waitStep := rfl
@[simp] theorem State.setRegF_waitReset (o : ObjDef) (sub i v : Nat) : (s.setRegF o sub i v).waitReset = s.waitReset := rfl
@[simp] theorem State.setRegF_pins (o : ObjDef) (sub i v : Nat) : (s.setRegF o sub i v).pins = s.pins := rfl
@[simp] theorem State.setRegF_facets (o : ObjDef) (sub i v : Nat) : (s.setRegF o sub i v).facets = s.facets := rfl
@[simp] theorem State.setRegF_spokes (o : ObjDef) (sub i v : Nat) : (s.setRegF o sub i v).spokes = s.spokes := rfl
@[simp] theorem State.setRegF_hup (o : ObjDef) (sub i v : Nat) : (s.setRegF o sub i v).hup = s.hup := rfl
@[simp] theorem State.setRegF_fab (o : ObjDef) (sub i v : Nat) : (s.setRegF o sub i v).fab = s.fab := rfl
@[simp] theorem State.setRegF_maps (o : ObjDef) (sub i v : Nat) : (s.setRegF o sub i v).maps = s.maps := rfl
@[simp] theorem State.setRegF_router (o : ObjDef) (sub i v : Nat) : (s.setRegF o sub i v).router = s.router := rfl
@[simp] theorem State.setRegF_outgoing (o : ObjDef) (sub i v : Nat) : (s.setRegF o sub i v).outgoing = s.outgoing := rfl
@[simp] theorem State.setRegF_coll (o : ObjDef) (sub i v : Nat) : (s.setRegF o sub i v).coll = s.coll := rfl
@[simp] theorem State.setRegF_slotSerial (o : ObjDef) (sub i v : Nat) : (s.setRegF o sub i v).slotSerial = s.slotSerial := rfl
@[simp] theorem State.setRegF_out (o : ObjDef) (sub i v : Nat) : (s.setRegF o sub i v).out = s.out := rfl

@[simp] theorem State.setReg_pending (o : ObjDef) (sub v : Nat) : (s.setReg o sub v).pending = s.pending := rfl
@[simp] theorem State.setReg_freeCtr (o : ObjDef) (sub v : Nat) : (s.setReg o sub v).freeCtr = s.freeCtr := rfl
@[simp] theorem State.setReg_cad (o : ObjDef) (sub v : Nat) : (s.setReg o sub v).cad = s.cad := rfl
@[simp] theorem State.setReg_plans (o : ObjDef) (sub v : Nat) : (s.setReg o sub v).plans = s.plans := rfl
@[simp] theorem State.setReg_items (o : ObjDef) (sub v : Nat) : (s.setReg o sub v).items = s.items := rfl
@[simp] theorem State.setReg_nextItem (o : ObjDef) (sub v : Nat) : (s.setReg o sub v).nextItem = s.nextItem := rfl
@[simp] theorem State.setReg_hbm (o : ObjDef) (sub v : Nat) : (s.setReg o sub v).hbm = s.hbm := rfl
@[simp] theorem State.setReg_fm (o : ObjDef) (sub v : Nat) : (s.setReg o sub v).fm = s.fm := rfl
@[simp] theorem State.setReg_queues (o : ObjDef) (sub v : Nat) : (s.setReg o sub v).queues = s.queues := rfl
@[simp] theorem State.setReg_summary (o : ObjDef) (sub v : Nat) : (s.setReg o sub v).summary = s.summary := rfl
@[simp] theorem State.setReg_pools (o : ObjDef) (sub v : Nat) : (s.setReg o sub v).pools = s.pools := rfl
@[simp] theorem State.setReg_log (o : ObjDef) (sub v : Nat) : (s.setReg o sub v).log = s.log := rfl
@[simp] theorem State.setReg_rcv (o : ObjDef) (sub v : Nat) : (s.setReg o sub v).rcv = s.rcv := rfl
@[simp] theorem State.setReg_sec (o : ObjDef) (sub v : Nat) : (s.setReg o sub v).sec = s.sec := rfl
@[simp] theorem State.setReg_dict (o : ObjDef) (sub v : Nat) : (s.setReg o sub v).dict = s.dict := rfl
@[simp] theorem State.setReg_power (o : ObjDef) (sub v : Nat) : (s.setReg o sub v).power = s.power := rfl
@[simp] theorem State.setReg_flash (o : ObjDef) (sub v : Nat) : (s.setReg o sub v).flash = s.flash := rfl
@[simp] theorem State.setReg_maint (o : ObjDef) (sub v : Nat) : (s.setReg o sub v).maint = s.maint := rfl
@[simp] theorem State.setReg_waitBeat (o : ObjDef) (sub v : Nat) : (s.setReg o sub v).waitBeat = s.waitBeat := rfl
@[simp] theorem State.setReg_waitStep (o : ObjDef) (sub v : Nat) : (s.setReg o sub v).waitStep = s.waitStep := rfl
@[simp] theorem State.setReg_waitReset (o : ObjDef) (sub v : Nat) : (s.setReg o sub v).waitReset = s.waitReset := rfl
@[simp] theorem State.setReg_pins (o : ObjDef) (sub v : Nat) : (s.setReg o sub v).pins = s.pins := rfl
@[simp] theorem State.setReg_facets (o : ObjDef) (sub v : Nat) : (s.setReg o sub v).facets = s.facets := rfl
@[simp] theorem State.setReg_spokes (o : ObjDef) (sub v : Nat) : (s.setReg o sub v).spokes = s.spokes := rfl
@[simp] theorem State.setReg_hup (o : ObjDef) (sub v : Nat) : (s.setReg o sub v).hup = s.hup := rfl
@[simp] theorem State.setReg_fab (o : ObjDef) (sub v : Nat) : (s.setReg o sub v).fab = s.fab := rfl
@[simp] theorem State.setReg_maps (o : ObjDef) (sub v : Nat) : (s.setReg o sub v).maps = s.maps := rfl
@[simp] theorem State.setReg_router (o : ObjDef) (sub v : Nat) : (s.setReg o sub v).router = s.router := rfl
@[simp] theorem State.setReg_outgoing (o : ObjDef) (sub v : Nat) : (s.setReg o sub v).outgoing = s.outgoing := rfl
@[simp] theorem State.setReg_coll (o : ObjDef) (sub v : Nat) : (s.setReg o sub v).coll = s.coll := rfl
@[simp] theorem State.setReg_slotSerial (o : ObjDef) (sub v : Nat) : (s.setReg o sub v).slotSerial = s.slotSerial := rfl
@[simp] theorem State.setReg_out (o : ObjDef) (sub v : Nat) : (s.setReg o sub v).out = s.out := rfl

@[simp] theorem State.setFields_pending (o : ObjDef) (sub : Nat) (l : List Nat) : (s.setFields o sub l).pending = s.pending := rfl
@[simp] theorem State.setFields_freeCtr (o : ObjDef) (sub : Nat) (l : List Nat) : (s.setFields o sub l).freeCtr = s.freeCtr := rfl
@[simp] theorem State.setFields_cad (o : ObjDef) (sub : Nat) (l : List Nat) : (s.setFields o sub l).cad = s.cad := rfl
@[simp] theorem State.setFields_plans (o : ObjDef) (sub : Nat) (l : List Nat) : (s.setFields o sub l).plans = s.plans := rfl
@[simp] theorem State.setFields_items (o : ObjDef) (sub : Nat) (l : List Nat) : (s.setFields o sub l).items = s.items := rfl
@[simp] theorem State.setFields_nextItem (o : ObjDef) (sub : Nat) (l : List Nat) : (s.setFields o sub l).nextItem = s.nextItem := rfl
@[simp] theorem State.setFields_hbm (o : ObjDef) (sub : Nat) (l : List Nat) : (s.setFields o sub l).hbm = s.hbm := rfl
@[simp] theorem State.setFields_fm (o : ObjDef) (sub : Nat) (l : List Nat) : (s.setFields o sub l).fm = s.fm := rfl
@[simp] theorem State.setFields_queues (o : ObjDef) (sub : Nat) (l : List Nat) : (s.setFields o sub l).queues = s.queues := rfl
@[simp] theorem State.setFields_summary (o : ObjDef) (sub : Nat) (l : List Nat) : (s.setFields o sub l).summary = s.summary := rfl
@[simp] theorem State.setFields_pools (o : ObjDef) (sub : Nat) (l : List Nat) : (s.setFields o sub l).pools = s.pools := rfl
@[simp] theorem State.setFields_log (o : ObjDef) (sub : Nat) (l : List Nat) : (s.setFields o sub l).log = s.log := rfl
@[simp] theorem State.setFields_rcv (o : ObjDef) (sub : Nat) (l : List Nat) : (s.setFields o sub l).rcv = s.rcv := rfl
@[simp] theorem State.setFields_sec (o : ObjDef) (sub : Nat) (l : List Nat) : (s.setFields o sub l).sec = s.sec := rfl
@[simp] theorem State.setFields_dict (o : ObjDef) (sub : Nat) (l : List Nat) : (s.setFields o sub l).dict = s.dict := rfl
@[simp] theorem State.setFields_power (o : ObjDef) (sub : Nat) (l : List Nat) : (s.setFields o sub l).power = s.power := rfl
@[simp] theorem State.setFields_flash (o : ObjDef) (sub : Nat) (l : List Nat) : (s.setFields o sub l).flash = s.flash := rfl
@[simp] theorem State.setFields_maint (o : ObjDef) (sub : Nat) (l : List Nat) : (s.setFields o sub l).maint = s.maint := rfl
@[simp] theorem State.setFields_waitBeat (o : ObjDef) (sub : Nat) (l : List Nat) : (s.setFields o sub l).waitBeat = s.waitBeat := rfl
@[simp] theorem State.setFields_waitStep (o : ObjDef) (sub : Nat) (l : List Nat) : (s.setFields o sub l).waitStep = s.waitStep := rfl
@[simp] theorem State.setFields_waitReset (o : ObjDef) (sub : Nat) (l : List Nat) : (s.setFields o sub l).waitReset = s.waitReset := rfl
@[simp] theorem State.setFields_pins (o : ObjDef) (sub : Nat) (l : List Nat) : (s.setFields o sub l).pins = s.pins := rfl
@[simp] theorem State.setFields_facets (o : ObjDef) (sub : Nat) (l : List Nat) : (s.setFields o sub l).facets = s.facets := rfl
@[simp] theorem State.setFields_spokes (o : ObjDef) (sub : Nat) (l : List Nat) : (s.setFields o sub l).spokes = s.spokes := rfl
@[simp] theorem State.setFields_hup (o : ObjDef) (sub : Nat) (l : List Nat) : (s.setFields o sub l).hup = s.hup := rfl
@[simp] theorem State.setFields_fab (o : ObjDef) (sub : Nat) (l : List Nat) : (s.setFields o sub l).fab = s.fab := rfl
@[simp] theorem State.setFields_maps (o : ObjDef) (sub : Nat) (l : List Nat) : (s.setFields o sub l).maps = s.maps := rfl
@[simp] theorem State.setFields_router (o : ObjDef) (sub : Nat) (l : List Nat) : (s.setFields o sub l).router = s.router := rfl
@[simp] theorem State.setFields_outgoing (o : ObjDef) (sub : Nat) (l : List Nat) : (s.setFields o sub l).outgoing = s.outgoing := rfl
@[simp] theorem State.setFields_coll (o : ObjDef) (sub : Nat) (l : List Nat) : (s.setFields o sub l).coll = s.coll := rfl
@[simp] theorem State.setFields_slotSerial (o : ObjDef) (sub : Nat) (l : List Nat) : (s.setFields o sub l).slotSerial = s.slotSerial := rfl
@[simp] theorem State.setFields_out (o : ObjDef) (sub : Nat) (l : List Nat) : (s.setFields o sub l).out = s.out := rfl

@[simp] theorem State.clearReg_pending (o : ObjDef) (sub : Nat) : (s.clearReg o sub).pending = s.pending := rfl
@[simp] theorem State.clearReg_freeCtr (o : ObjDef) (sub : Nat) : (s.clearReg o sub).freeCtr = s.freeCtr := rfl
@[simp] theorem State.clearReg_cad (o : ObjDef) (sub : Nat) : (s.clearReg o sub).cad = s.cad := rfl
@[simp] theorem State.clearReg_plans (o : ObjDef) (sub : Nat) : (s.clearReg o sub).plans = s.plans := rfl
@[simp] theorem State.clearReg_items (o : ObjDef) (sub : Nat) : (s.clearReg o sub).items = s.items := rfl
@[simp] theorem State.clearReg_nextItem (o : ObjDef) (sub : Nat) : (s.clearReg o sub).nextItem = s.nextItem := rfl
@[simp] theorem State.clearReg_hbm (o : ObjDef) (sub : Nat) : (s.clearReg o sub).hbm = s.hbm := rfl
@[simp] theorem State.clearReg_fm (o : ObjDef) (sub : Nat) : (s.clearReg o sub).fm = s.fm := rfl
@[simp] theorem State.clearReg_queues (o : ObjDef) (sub : Nat) : (s.clearReg o sub).queues = s.queues := rfl
@[simp] theorem State.clearReg_summary (o : ObjDef) (sub : Nat) : (s.clearReg o sub).summary = s.summary := rfl
@[simp] theorem State.clearReg_pools (o : ObjDef) (sub : Nat) : (s.clearReg o sub).pools = s.pools := rfl
@[simp] theorem State.clearReg_log (o : ObjDef) (sub : Nat) : (s.clearReg o sub).log = s.log := rfl
@[simp] theorem State.clearReg_rcv (o : ObjDef) (sub : Nat) : (s.clearReg o sub).rcv = s.rcv := rfl
@[simp] theorem State.clearReg_sec (o : ObjDef) (sub : Nat) : (s.clearReg o sub).sec = s.sec := rfl
@[simp] theorem State.clearReg_dict (o : ObjDef) (sub : Nat) : (s.clearReg o sub).dict = s.dict := rfl
@[simp] theorem State.clearReg_power (o : ObjDef) (sub : Nat) : (s.clearReg o sub).power = s.power := rfl
@[simp] theorem State.clearReg_flash (o : ObjDef) (sub : Nat) : (s.clearReg o sub).flash = s.flash := rfl
@[simp] theorem State.clearReg_maint (o : ObjDef) (sub : Nat) : (s.clearReg o sub).maint = s.maint := rfl
@[simp] theorem State.clearReg_waitBeat (o : ObjDef) (sub : Nat) : (s.clearReg o sub).waitBeat = s.waitBeat := rfl
@[simp] theorem State.clearReg_waitStep (o : ObjDef) (sub : Nat) : (s.clearReg o sub).waitStep = s.waitStep := rfl
@[simp] theorem State.clearReg_waitReset (o : ObjDef) (sub : Nat) : (s.clearReg o sub).waitReset = s.waitReset := rfl
@[simp] theorem State.clearReg_pins (o : ObjDef) (sub : Nat) : (s.clearReg o sub).pins = s.pins := rfl
@[simp] theorem State.clearReg_facets (o : ObjDef) (sub : Nat) : (s.clearReg o sub).facets = s.facets := rfl
@[simp] theorem State.clearReg_spokes (o : ObjDef) (sub : Nat) : (s.clearReg o sub).spokes = s.spokes := rfl
@[simp] theorem State.clearReg_hup (o : ObjDef) (sub : Nat) : (s.clearReg o sub).hup = s.hup := rfl
@[simp] theorem State.clearReg_fab (o : ObjDef) (sub : Nat) : (s.clearReg o sub).fab = s.fab := rfl
@[simp] theorem State.clearReg_maps (o : ObjDef) (sub : Nat) : (s.clearReg o sub).maps = s.maps := rfl
@[simp] theorem State.clearReg_router (o : ObjDef) (sub : Nat) : (s.clearReg o sub).router = s.router := rfl
@[simp] theorem State.clearReg_outgoing (o : ObjDef) (sub : Nat) : (s.clearReg o sub).outgoing = s.outgoing := rfl
@[simp] theorem State.clearReg_coll (o : ObjDef) (sub : Nat) : (s.clearReg o sub).coll = s.coll := rfl
@[simp] theorem State.clearReg_slotSerial (o : ObjDef) (sub : Nat) : (s.clearReg o sub).slotSerial = s.slotSerial := rfl
@[simp] theorem State.clearReg_out (o : ObjDef) (sub : Nat) : (s.clearReg o sub).out = s.out := rfl

@[simp] theorem State.bumpF_pending (o : ObjDef) (sub i n : Nat) : (s.bumpF o sub i n).pending = s.pending := rfl
@[simp] theorem State.bumpF_freeCtr (o : ObjDef) (sub i n : Nat) : (s.bumpF o sub i n).freeCtr = s.freeCtr := rfl
@[simp] theorem State.bumpF_cad (o : ObjDef) (sub i n : Nat) : (s.bumpF o sub i n).cad = s.cad := rfl
@[simp] theorem State.bumpF_plans (o : ObjDef) (sub i n : Nat) : (s.bumpF o sub i n).plans = s.plans := rfl
@[simp] theorem State.bumpF_items (o : ObjDef) (sub i n : Nat) : (s.bumpF o sub i n).items = s.items := rfl
@[simp] theorem State.bumpF_nextItem (o : ObjDef) (sub i n : Nat) : (s.bumpF o sub i n).nextItem = s.nextItem := rfl
@[simp] theorem State.bumpF_hbm (o : ObjDef) (sub i n : Nat) : (s.bumpF o sub i n).hbm = s.hbm := rfl
@[simp] theorem State.bumpF_fm (o : ObjDef) (sub i n : Nat) : (s.bumpF o sub i n).fm = s.fm := rfl
@[simp] theorem State.bumpF_queues (o : ObjDef) (sub i n : Nat) : (s.bumpF o sub i n).queues = s.queues := rfl
@[simp] theorem State.bumpF_summary (o : ObjDef) (sub i n : Nat) : (s.bumpF o sub i n).summary = s.summary := rfl
@[simp] theorem State.bumpF_pools (o : ObjDef) (sub i n : Nat) : (s.bumpF o sub i n).pools = s.pools := rfl
@[simp] theorem State.bumpF_log (o : ObjDef) (sub i n : Nat) : (s.bumpF o sub i n).log = s.log := rfl
@[simp] theorem State.bumpF_rcv (o : ObjDef) (sub i n : Nat) : (s.bumpF o sub i n).rcv = s.rcv := rfl
@[simp] theorem State.bumpF_sec (o : ObjDef) (sub i n : Nat) : (s.bumpF o sub i n).sec = s.sec := rfl
@[simp] theorem State.bumpF_dict (o : ObjDef) (sub i n : Nat) : (s.bumpF o sub i n).dict = s.dict := rfl
@[simp] theorem State.bumpF_power (o : ObjDef) (sub i n : Nat) : (s.bumpF o sub i n).power = s.power := rfl
@[simp] theorem State.bumpF_flash (o : ObjDef) (sub i n : Nat) : (s.bumpF o sub i n).flash = s.flash := rfl
@[simp] theorem State.bumpF_maint (o : ObjDef) (sub i n : Nat) : (s.bumpF o sub i n).maint = s.maint := rfl
@[simp] theorem State.bumpF_waitBeat (o : ObjDef) (sub i n : Nat) : (s.bumpF o sub i n).waitBeat = s.waitBeat := rfl
@[simp] theorem State.bumpF_waitStep (o : ObjDef) (sub i n : Nat) : (s.bumpF o sub i n).waitStep = s.waitStep := rfl
@[simp] theorem State.bumpF_waitReset (o : ObjDef) (sub i n : Nat) : (s.bumpF o sub i n).waitReset = s.waitReset := rfl
@[simp] theorem State.bumpF_pins (o : ObjDef) (sub i n : Nat) : (s.bumpF o sub i n).pins = s.pins := rfl
@[simp] theorem State.bumpF_facets (o : ObjDef) (sub i n : Nat) : (s.bumpF o sub i n).facets = s.facets := rfl
@[simp] theorem State.bumpF_spokes (o : ObjDef) (sub i n : Nat) : (s.bumpF o sub i n).spokes = s.spokes := rfl
@[simp] theorem State.bumpF_hup (o : ObjDef) (sub i n : Nat) : (s.bumpF o sub i n).hup = s.hup := rfl
@[simp] theorem State.bumpF_fab (o : ObjDef) (sub i n : Nat) : (s.bumpF o sub i n).fab = s.fab := rfl
@[simp] theorem State.bumpF_maps (o : ObjDef) (sub i n : Nat) : (s.bumpF o sub i n).maps = s.maps := rfl
@[simp] theorem State.bumpF_router (o : ObjDef) (sub i n : Nat) : (s.bumpF o sub i n).router = s.router := rfl
@[simp] theorem State.bumpF_outgoing (o : ObjDef) (sub i n : Nat) : (s.bumpF o sub i n).outgoing = s.outgoing := rfl
@[simp] theorem State.bumpF_coll (o : ObjDef) (sub i n : Nat) : (s.bumpF o sub i n).coll = s.coll := rfl
@[simp] theorem State.bumpF_slotSerial (o : ObjDef) (sub i n : Nat) : (s.bumpF o sub i n).slotSerial = s.slotSerial := rfl
@[simp] theorem State.bumpF_out (o : ObjDef) (sub i n : Nat) : (s.bumpF o sub i n).out = s.out := rfl

@[simp] theorem State.bump_pending (o : ObjDef) (sub n : Nat) : (s.bump o sub n).pending = s.pending := rfl
@[simp] theorem State.bump_freeCtr (o : ObjDef) (sub n : Nat) : (s.bump o sub n).freeCtr = s.freeCtr := rfl
@[simp] theorem State.bump_cad (o : ObjDef) (sub n : Nat) : (s.bump o sub n).cad = s.cad := rfl
@[simp] theorem State.bump_plans (o : ObjDef) (sub n : Nat) : (s.bump o sub n).plans = s.plans := rfl
@[simp] theorem State.bump_items (o : ObjDef) (sub n : Nat) : (s.bump o sub n).items = s.items := rfl
@[simp] theorem State.bump_nextItem (o : ObjDef) (sub n : Nat) : (s.bump o sub n).nextItem = s.nextItem := rfl
@[simp] theorem State.bump_hbm (o : ObjDef) (sub n : Nat) : (s.bump o sub n).hbm = s.hbm := rfl
@[simp] theorem State.bump_fm (o : ObjDef) (sub n : Nat) : (s.bump o sub n).fm = s.fm := rfl
@[simp] theorem State.bump_queues (o : ObjDef) (sub n : Nat) : (s.bump o sub n).queues = s.queues := rfl
@[simp] theorem State.bump_summary (o : ObjDef) (sub n : Nat) : (s.bump o sub n).summary = s.summary := rfl
@[simp] theorem State.bump_pools (o : ObjDef) (sub n : Nat) : (s.bump o sub n).pools = s.pools := rfl
@[simp] theorem State.bump_log (o : ObjDef) (sub n : Nat) : (s.bump o sub n).log = s.log := rfl
@[simp] theorem State.bump_rcv (o : ObjDef) (sub n : Nat) : (s.bump o sub n).rcv = s.rcv := rfl
@[simp] theorem State.bump_sec (o : ObjDef) (sub n : Nat) : (s.bump o sub n).sec = s.sec := rfl
@[simp] theorem State.bump_dict (o : ObjDef) (sub n : Nat) : (s.bump o sub n).dict = s.dict := rfl
@[simp] theorem State.bump_power (o : ObjDef) (sub n : Nat) : (s.bump o sub n).power = s.power := rfl
@[simp] theorem State.bump_flash (o : ObjDef) (sub n : Nat) : (s.bump o sub n).flash = s.flash := rfl
@[simp] theorem State.bump_maint (o : ObjDef) (sub n : Nat) : (s.bump o sub n).maint = s.maint := rfl
@[simp] theorem State.bump_waitBeat (o : ObjDef) (sub n : Nat) : (s.bump o sub n).waitBeat = s.waitBeat := rfl
@[simp] theorem State.bump_waitStep (o : ObjDef) (sub n : Nat) : (s.bump o sub n).waitStep = s.waitStep := rfl
@[simp] theorem State.bump_waitReset (o : ObjDef) (sub n : Nat) : (s.bump o sub n).waitReset = s.waitReset := rfl
@[simp] theorem State.bump_pins (o : ObjDef) (sub n : Nat) : (s.bump o sub n).pins = s.pins := rfl
@[simp] theorem State.bump_facets (o : ObjDef) (sub n : Nat) : (s.bump o sub n).facets = s.facets := rfl
@[simp] theorem State.bump_spokes (o : ObjDef) (sub n : Nat) : (s.bump o sub n).spokes = s.spokes := rfl
@[simp] theorem State.bump_hup (o : ObjDef) (sub n : Nat) : (s.bump o sub n).hup = s.hup := rfl
@[simp] theorem State.bump_fab (o : ObjDef) (sub n : Nat) : (s.bump o sub n).fab = s.fab := rfl
@[simp] theorem State.bump_maps (o : ObjDef) (sub n : Nat) : (s.bump o sub n).maps = s.maps := rfl
@[simp] theorem State.bump_router (o : ObjDef) (sub n : Nat) : (s.bump o sub n).router = s.router := rfl
@[simp] theorem State.bump_outgoing (o : ObjDef) (sub n : Nat) : (s.bump o sub n).outgoing = s.outgoing := rfl
@[simp] theorem State.bump_coll (o : ObjDef) (sub n : Nat) : (s.bump o sub n).coll = s.coll := rfl
@[simp] theorem State.bump_slotSerial (o : ObjDef) (sub n : Nat) : (s.bump o sub n).slotSerial = s.slotSerial := rfl
@[simp] theorem State.bump_out (o : ObjDef) (sub n : Nat) : (s.bump o sub n).out = s.out := rfl

@[simp] theorem State.flashPut_pending (o : ObjDef) (sub : Nat) (l : List Nat) : (s.flashPut o sub l).pending = s.pending := rfl
@[simp] theorem State.flashPut_freeCtr (o : ObjDef) (sub : Nat) (l : List Nat) : (s.flashPut o sub l).freeCtr = s.freeCtr := rfl
@[simp] theorem State.flashPut_objs (o : ObjDef) (sub : Nat) (l : List Nat) : (s.flashPut o sub l).objs = s.objs := rfl
@[simp] theorem State.flashPut_cad (o : ObjDef) (sub : Nat) (l : List Nat) : (s.flashPut o sub l).cad = s.cad := rfl
@[simp] theorem State.flashPut_plans (o : ObjDef) (sub : Nat) (l : List Nat) : (s.flashPut o sub l).plans = s.plans := rfl
@[simp] theorem State.flashPut_items (o : ObjDef) (sub : Nat) (l : List Nat) : (s.flashPut o sub l).items = s.items := rfl
@[simp] theorem State.flashPut_nextItem (o : ObjDef) (sub : Nat) (l : List Nat) : (s.flashPut o sub l).nextItem = s.nextItem := rfl
@[simp] theorem State.flashPut_hbm (o : ObjDef) (sub : Nat) (l : List Nat) : (s.flashPut o sub l).hbm = s.hbm := rfl
@[simp] theorem State.flashPut_fm (o : ObjDef) (sub : Nat) (l : List Nat) : (s.flashPut o sub l).fm = s.fm := rfl
@[simp] theorem State.flashPut_queues (o : ObjDef) (sub : Nat) (l : List Nat) : (s.flashPut o sub l).queues = s.queues := rfl
@[simp] theorem State.flashPut_summary (o : ObjDef) (sub : Nat) (l : List Nat) : (s.flashPut o sub l).summary = s.summary := rfl
@[simp] theorem State.flashPut_pools (o : ObjDef) (sub : Nat) (l : List Nat) : (s.flashPut o sub l).pools = s.pools := rfl
@[simp] theorem State.flashPut_log (o : ObjDef) (sub : Nat) (l : List Nat) : (s.flashPut o sub l).log = s.log := rfl
@[simp] theorem State.flashPut_rcv (o : ObjDef) (sub : Nat) (l : List Nat) : (s.flashPut o sub l).rcv = s.rcv := rfl
@[simp] theorem State.flashPut_sec (o : ObjDef) (sub : Nat) (l : List Nat) : (s.flashPut o sub l).sec = s.sec := rfl
@[simp] theorem State.flashPut_dict (o : ObjDef) (sub : Nat) (l : List Nat) : (s.flashPut o sub l).dict = s.dict := rfl
@[simp] theorem State.flashPut_power (o : ObjDef) (sub : Nat) (l : List Nat) : (s.flashPut o sub l).power = s.power := rfl
@[simp] theorem State.flashPut_maint (o : ObjDef) (sub : Nat) (l : List Nat) : (s.flashPut o sub l).maint = s.maint := rfl
@[simp] theorem State.flashPut_waitBeat (o : ObjDef) (sub : Nat) (l : List Nat) : (s.flashPut o sub l).waitBeat = s.waitBeat := rfl
@[simp] theorem State.flashPut_waitStep (o : ObjDef) (sub : Nat) (l : List Nat) : (s.flashPut o sub l).waitStep = s.waitStep := rfl
@[simp] theorem State.flashPut_waitReset (o : ObjDef) (sub : Nat) (l : List Nat) : (s.flashPut o sub l).waitReset = s.waitReset := rfl
@[simp] theorem State.flashPut_pins (o : ObjDef) (sub : Nat) (l : List Nat) : (s.flashPut o sub l).pins = s.pins := rfl
@[simp] theorem State.flashPut_facets (o : ObjDef) (sub : Nat) (l : List Nat) : (s.flashPut o sub l).facets = s.facets := rfl
@[simp] theorem State.flashPut_spokes (o : ObjDef) (sub : Nat) (l : List Nat) : (s.flashPut o sub l).spokes = s.spokes := rfl
@[simp] theorem State.flashPut_hup (o : ObjDef) (sub : Nat) (l : List Nat) : (s.flashPut o sub l).hup = s.hup := rfl
@[simp] theorem State.flashPut_fab (o : ObjDef) (sub : Nat) (l : List Nat) : (s.flashPut o sub l).fab = s.fab := rfl
@[simp] theorem State.flashPut_maps (o : ObjDef) (sub : Nat) (l : List Nat) : (s.flashPut o sub l).maps = s.maps := rfl
@[simp] theorem State.flashPut_router (o : ObjDef) (sub : Nat) (l : List Nat) : (s.flashPut o sub l).router = s.router := rfl
@[simp] theorem State.flashPut_outgoing (o : ObjDef) (sub : Nat) (l : List Nat) : (s.flashPut o sub l).outgoing = s.outgoing := rfl
@[simp] theorem State.flashPut_coll (o : ObjDef) (sub : Nat) (l : List Nat) : (s.flashPut o sub l).coll = s.coll := rfl
@[simp] theorem State.flashPut_slotSerial (o : ObjDef) (sub : Nat) (l : List Nat) : (s.flashPut o sub l).slotSerial = s.slotSerial := rfl
@[simp] theorem State.flashPut_out (o : ObjDef) (sub : Nat) (l : List Nat) : (s.flashPut o sub l).out = s.out := rfl

@[simp] theorem State.flashFailed_pending (o : ObjDef) : (s.flashFailed o).pending = s.pending := rfl
@[simp] theorem State.flashFailed_freeCtr (o : ObjDef) : (s.flashFailed o).freeCtr = s.freeCtr := rfl
@[simp] theorem State.flashFailed_objs (o : ObjDef) : (s.flashFailed o).objs = s.objs := rfl
@[simp] theorem State.flashFailed_cad (o : ObjDef) : (s.flashFailed o).cad = s.cad := rfl
@[simp] theorem State.flashFailed_plans (o : ObjDef) : (s.flashFailed o).plans = s.plans := rfl
@[simp] theorem State.flashFailed_items (o : ObjDef) : (s.flashFailed o).items = s.items := rfl
@[simp] theorem State.flashFailed_nextItem (o : ObjDef) : (s.flashFailed o).nextItem = s.nextItem := rfl
@[simp] theorem State.flashFailed_hbm (o : ObjDef) : (s.flashFailed o).hbm = s.hbm := rfl
@[simp] theorem State.flashFailed_fm (o : ObjDef) : (s.flashFailed o).fm = s.fm := rfl
@[simp] theorem State.flashFailed_queues (o : ObjDef) : (s.flashFailed o).queues = s.queues := rfl
@[simp] theorem State.flashFailed_summary (o : ObjDef) : (s.flashFailed o).summary = s.summary := rfl
@[simp] theorem State.flashFailed_pools (o : ObjDef) : (s.flashFailed o).pools = s.pools := rfl
@[simp] theorem State.flashFailed_log (o : ObjDef) : (s.flashFailed o).log = s.log := rfl
@[simp] theorem State.flashFailed_rcv (o : ObjDef) : (s.flashFailed o).rcv = s.rcv := rfl
@[simp] theorem State.flashFailed_sec (o : ObjDef) : (s.flashFailed o).sec = s.sec := rfl
@[simp] theorem State.flashFailed_dict (o : ObjDef) : (s.flashFailed o).dict = s.dict := rfl
@[simp] theorem State.flashFailed_power (o : ObjDef) : (s.flashFailed o).power = s.power := rfl
@[simp] theorem State.flashFailed_maint (o : ObjDef) : (s.flashFailed o).maint = s.maint := rfl
@[simp] theorem State.flashFailed_waitBeat (o : ObjDef) : (s.flashFailed o).waitBeat = s.waitBeat := rfl
@[simp] theorem State.flashFailed_waitStep (o : ObjDef) : (s.flashFailed o).waitStep = s.waitStep := rfl
@[simp] theorem State.flashFailed_waitReset (o : ObjDef) : (s.flashFailed o).waitReset = s.waitReset := rfl
@[simp] theorem State.flashFailed_pins (o : ObjDef) : (s.flashFailed o).pins = s.pins := rfl
@[simp] theorem State.flashFailed_facets (o : ObjDef) : (s.flashFailed o).facets = s.facets := rfl
@[simp] theorem State.flashFailed_spokes (o : ObjDef) : (s.flashFailed o).spokes = s.spokes := rfl
@[simp] theorem State.flashFailed_hup (o : ObjDef) : (s.flashFailed o).hup = s.hup := rfl
@[simp] theorem State.flashFailed_fab (o : ObjDef) : (s.flashFailed o).fab = s.fab := rfl
@[simp] theorem State.flashFailed_maps (o : ObjDef) : (s.flashFailed o).maps = s.maps := rfl
@[simp] theorem State.flashFailed_router (o : ObjDef) : (s.flashFailed o).router = s.router := rfl
@[simp] theorem State.flashFailed_outgoing (o : ObjDef) : (s.flashFailed o).outgoing = s.outgoing := rfl
@[simp] theorem State.flashFailed_coll (o : ObjDef) : (s.flashFailed o).coll = s.coll := rfl
@[simp] theorem State.flashFailed_slotSerial (o : ObjDef) : (s.flashFailed o).slotSerial = s.slotSerial := rfl
@[simp] theorem State.flashFailed_out (o : ObjDef) : (s.flashFailed o).out = s.out := rfl

@[simp] theorem State.took_pending : (s.took).pending = s.pending := rfl
@[simp] theorem State.took_objs : (s.took).objs = s.objs := rfl
@[simp] theorem State.took_cad : (s.took).cad = s.cad := rfl
@[simp] theorem State.took_plans : (s.took).plans = s.plans := rfl
@[simp] theorem State.took_items : (s.took).items = s.items := rfl
@[simp] theorem State.took_nextItem : (s.took).nextItem = s.nextItem := rfl
@[simp] theorem State.took_hbm : (s.took).hbm = s.hbm := rfl
@[simp] theorem State.took_fm : (s.took).fm = s.fm := rfl
@[simp] theorem State.took_queues : (s.took).queues = s.queues := rfl
@[simp] theorem State.took_summary : (s.took).summary = s.summary := rfl
@[simp] theorem State.took_pools : (s.took).pools = s.pools := rfl
@[simp] theorem State.took_log : (s.took).log = s.log := rfl
@[simp] theorem State.took_rcv : (s.took).rcv = s.rcv := rfl
@[simp] theorem State.took_sec : (s.took).sec = s.sec := rfl
@[simp] theorem State.took_dict : (s.took).dict = s.dict := rfl
@[simp] theorem State.took_power : (s.took).power = s.power := rfl
@[simp] theorem State.took_flash : (s.took).flash = s.flash := rfl
@[simp] theorem State.took_maint : (s.took).maint = s.maint := rfl
@[simp] theorem State.took_waitBeat : (s.took).waitBeat = s.waitBeat := rfl
@[simp] theorem State.took_waitStep : (s.took).waitStep = s.waitStep := rfl
@[simp] theorem State.took_waitReset : (s.took).waitReset = s.waitReset := rfl
@[simp] theorem State.took_pins : (s.took).pins = s.pins := rfl
@[simp] theorem State.took_facets : (s.took).facets = s.facets := rfl
@[simp] theorem State.took_spokes : (s.took).spokes = s.spokes := rfl
@[simp] theorem State.took_hup : (s.took).hup = s.hup := rfl
@[simp] theorem State.took_fab : (s.took).fab = s.fab := rfl
@[simp] theorem State.took_maps : (s.took).maps = s.maps := rfl
@[simp] theorem State.took_router : (s.took).router = s.router := rfl
@[simp] theorem State.took_outgoing : (s.took).outgoing = s.outgoing := rfl
@[simp] theorem State.took_coll : (s.took).coll = s.coll := rfl
@[simp] theorem State.took_slotSerial : (s.took).slotSerial = s.slotSerial := rfl
@[simp] theorem State.took_out : (s.took).out = s.out := rfl

@[simp] theorem State.emit_pending (e : Emit) : (s.emit e).pending = s.pending := rfl
@[simp] theorem State.emit_freeCtr (e : Emit) : (s.emit e).freeCtr = s.freeCtr := rfl
@[simp] theorem State.emit_objs (e : Emit) : (s.emit e).objs = s.objs := rfl
@[simp] theorem State.emit_cad (e : Emit) : (s.emit e).cad = s.cad := rfl
@[simp] theorem State.emit_plans (e : Emit) : (s.emit e).plans = s.plans := rfl
@[simp] theorem State.emit_items (e : Emit) : (s.emit e).items = s.items := rfl
@[simp] theorem State.emit_nextItem (e : Emit) : (s.emit e).nextItem = s.nextItem := rfl
@[simp] theorem State.emit_hbm (e : Emit) : (s.emit e).hbm = s.hbm := rfl
@[simp] theorem State.emit_fm (e : Emit) : (s.emit e).fm = s.fm := rfl
@[simp] theorem State.emit_queues (e : Emit) : (s.emit e).queues = s.queues := rfl
@[simp] theorem State.emit_summary (e : Emit) : (s.emit e).summary = s.summary := rfl
@[simp] theorem State.emit_pools (e : Emit) : (s.emit e).pools = s.pools := rfl
@[simp] theorem State.emit_log (e : Emit) : (s.emit e).log = s.log := rfl
@[simp] theorem State.emit_rcv (e : Emit) : (s.emit e).rcv = s.rcv := rfl
@[simp] theorem State.emit_sec (e : Emit) : (s.emit e).sec = s.sec := rfl
@[simp] theorem State.emit_dict (e : Emit) : (s.emit e).dict = s.dict := rfl
@[simp] theorem State.emit_power (e : Emit) : (s.emit e).power = s.power := rfl
@[simp] theorem State.emit_flash (e : Emit) : (s.emit e).flash = s.flash := rfl
@[simp] theorem State.emit_maint (e : Emit) : (s.emit e).maint = s.maint := rfl
@[simp] theorem State.emit_waitBeat (e : Emit) : (s.emit e).waitBeat = s.waitBeat := rfl
@[simp] theorem State.emit_waitStep (e : Emit) : (s.emit e).waitStep = s.waitStep := rfl
@[simp] theorem State.emit_waitReset (e : Emit) : (s.emit e).waitReset = s.waitReset := rfl
@[simp] theorem State.emit_pins (e : Emit) : (s.emit e).pins = s.pins := rfl
@[simp] theorem State.emit_facets (e : Emit) : (s.emit e).facets = s.facets := rfl
@[simp] theorem State.emit_spokes (e : Emit) : (s.emit e).spokes = s.spokes := rfl
@[simp] theorem State.emit_hup (e : Emit) : (s.emit e).hup = s.hup := rfl
@[simp] theorem State.emit_fab (e : Emit) : (s.emit e).fab = s.fab := rfl
@[simp] theorem State.emit_maps (e : Emit) : (s.emit e).maps = s.maps := rfl
@[simp] theorem State.emit_router (e : Emit) : (s.emit e).router = s.router := rfl
@[simp] theorem State.emit_outgoing (e : Emit) : (s.emit e).outgoing = s.outgoing := rfl
@[simp] theorem State.emit_coll (e : Emit) : (s.emit e).coll = s.coll := rfl
@[simp] theorem State.emit_slotSerial (e : Emit) : (s.emit e).slotSerial = s.slotSerial := rfl

@[simp] theorem State.answer_pending (who : Who) (o : ObjDef) (sub code : Nat) : (s.answer who o sub code).pending = s.pending := rfl
@[simp] theorem State.answer_freeCtr (who : Who) (o : ObjDef) (sub code : Nat) : (s.answer who o sub code).freeCtr = s.freeCtr := rfl
@[simp] theorem State.answer_objs (who : Who) (o : ObjDef) (sub code : Nat) : (s.answer who o sub code).objs = s.objs := rfl
@[simp] theorem State.answer_cad (who : Who) (o : ObjDef) (sub code : Nat) : (s.answer who o sub code).cad = s.cad := rfl
@[simp] theorem State.answer_plans (who : Who) (o : ObjDef) (sub code : Nat) : (s.answer who o sub code).plans = s.plans := rfl
@[simp] theorem State.answer_items (who : Who) (o : ObjDef) (sub code : Nat) : (s.answer who o sub code).items = s.items := rfl
@[simp] theorem State.answer_nextItem (who : Who) (o : ObjDef) (sub code : Nat) : (s.answer who o sub code).nextItem = s.nextItem := rfl
@[simp] theorem State.answer_hbm (who : Who) (o : ObjDef) (sub code : Nat) : (s.answer who o sub code).hbm = s.hbm := rfl
@[simp] theorem State.answer_fm (who : Who) (o : ObjDef) (sub code : Nat) : (s.answer who o sub code).fm = s.fm := rfl
@[simp] theorem State.answer_queues (who : Who) (o : ObjDef) (sub code : Nat) : (s.answer who o sub code).queues = s.queues := rfl
@[simp] theorem State.answer_summary (who : Who) (o : ObjDef) (sub code : Nat) : (s.answer who o sub code).summary = s.summary := rfl
@[simp] theorem State.answer_pools (who : Who) (o : ObjDef) (sub code : Nat) : (s.answer who o sub code).pools = s.pools := rfl
@[simp] theorem State.answer_log (who : Who) (o : ObjDef) (sub code : Nat) : (s.answer who o sub code).log = s.log := rfl
@[simp] theorem State.answer_rcv (who : Who) (o : ObjDef) (sub code : Nat) : (s.answer who o sub code).rcv = s.rcv := rfl
@[simp] theorem State.answer_sec (who : Who) (o : ObjDef) (sub code : Nat) : (s.answer who o sub code).sec = s.sec := rfl
@[simp] theorem State.answer_dict (who : Who) (o : ObjDef) (sub code : Nat) : (s.answer who o sub code).dict = s.dict := rfl
@[simp] theorem State.answer_power (who : Who) (o : ObjDef) (sub code : Nat) : (s.answer who o sub code).power = s.power := rfl
@[simp] theorem State.answer_flash (who : Who) (o : ObjDef) (sub code : Nat) : (s.answer who o sub code).flash = s.flash := rfl
@[simp] theorem State.answer_maint (who : Who) (o : ObjDef) (sub code : Nat) : (s.answer who o sub code).maint = s.maint := rfl
@[simp] theorem State.answer_waitBeat (who : Who) (o : ObjDef) (sub code : Nat) : (s.answer who o sub code).waitBeat = s.waitBeat := rfl
@[simp] theorem State.answer_waitStep (who : Who) (o : ObjDef) (sub code : Nat) : (s.answer who o sub code).waitStep = s.waitStep := rfl
@[simp] theorem State.answer_waitReset (who : Who) (o : ObjDef) (sub code : Nat) : (s.answer who o sub code).waitReset = s.waitReset := rfl
@[simp] theorem State.answer_pins (who : Who) (o : ObjDef) (sub code : Nat) : (s.answer who o sub code).pins = s.pins := rfl
@[simp] theorem State.answer_facets (who : Who) (o : ObjDef) (sub code : Nat) : (s.answer who o sub code).facets = s.facets := rfl
@[simp] theorem State.answer_spokes (who : Who) (o : ObjDef) (sub code : Nat) : (s.answer who o sub code).spokes = s.spokes := rfl
@[simp] theorem State.answer_hup (who : Who) (o : ObjDef) (sub code : Nat) : (s.answer who o sub code).hup = s.hup := rfl
@[simp] theorem State.answer_fab (who : Who) (o : ObjDef) (sub code : Nat) : (s.answer who o sub code).fab = s.fab := rfl
@[simp] theorem State.answer_maps (who : Who) (o : ObjDef) (sub code : Nat) : (s.answer who o sub code).maps = s.maps := rfl
@[simp] theorem State.answer_router (who : Who) (o : ObjDef) (sub code : Nat) : (s.answer who o sub code).router = s.router := rfl
@[simp] theorem State.answer_outgoing (who : Who) (o : ObjDef) (sub code : Nat) : (s.answer who o sub code).outgoing = s.outgoing := rfl
@[simp] theorem State.answer_coll (who : Who) (o : ObjDef) (sub code : Nat) : (s.answer who o sub code).coll = s.coll := rfl
@[simp] theorem State.answer_slotSerial (who : Who) (o : ObjDef) (sub code : Nat) : (s.answer who o sub code).slotSerial = s.slotSerial := rfl

@[simp] theorem State.setPlan_pending (c : Nat) (p : Plan) : (s.setPlan c p).pending = s.pending := rfl
@[simp] theorem State.setPlan_freeCtr (c : Nat) (p : Plan) : (s.setPlan c p).freeCtr = s.freeCtr := rfl
@[simp] theorem State.setPlan_objs (c : Nat) (p : Plan) : (s.setPlan c p).objs = s.objs := rfl
@[simp] theorem State.setPlan_cad (c : Nat) (p : Plan) : (s.setPlan c p).cad = s.cad := rfl
@[simp] theorem State.setPlan_items (c : Nat) (p : Plan) : (s.setPlan c p).items = s.items := rfl
@[simp] theorem State.setPlan_nextItem (c : Nat) (p : Plan) : (s.setPlan c p).nextItem = s.nextItem := rfl
@[simp] theorem State.setPlan_hbm (c : Nat) (p : Plan) : (s.setPlan c p).hbm = s.hbm := rfl
@[simp] theorem State.setPlan_fm (c : Nat) (p : Plan) : (s.setPlan c p).fm = s.fm := rfl
@[simp] theorem State.setPlan_queues (c : Nat) (p : Plan) : (s.setPlan c p).queues = s.queues := rfl
@[simp] theorem State.setPlan_summary (c : Nat) (p : Plan) : (s.setPlan c p).summary = s.summary := rfl
@[simp] theorem State.setPlan_pools (c : Nat) (p : Plan) : (s.setPlan c p).pools = s.pools := rfl
@[simp] theorem State.setPlan_log (c : Nat) (p : Plan) : (s.setPlan c p).log = s.log := rfl
@[simp] theorem State.setPlan_rcv (c : Nat) (p : Plan) : (s.setPlan c p).rcv = s.rcv := rfl
@[simp] theorem State.setPlan_sec (c : Nat) (p : Plan) : (s.setPlan c p).sec = s.sec := rfl
@[simp] theorem State.setPlan_dict (c : Nat) (p : Plan) : (s.setPlan c p).dict = s.dict := rfl
@[simp] theorem State.setPlan_power (c : Nat) (p : Plan) : (s.setPlan c p).power = s.power := rfl
@[simp] theorem State.setPlan_flash (c : Nat) (p : Plan) : (s.setPlan c p).flash = s.flash := rfl
@[simp] theorem State.setPlan_maint (c : Nat) (p : Plan) : (s.setPlan c p).maint = s.maint := rfl
@[simp] theorem State.setPlan_waitBeat (c : Nat) (p : Plan) : (s.setPlan c p).waitBeat = s.waitBeat := rfl
@[simp] theorem State.setPlan_waitStep (c : Nat) (p : Plan) : (s.setPlan c p).waitStep = s.waitStep := rfl
@[simp] theorem State.setPlan_waitReset (c : Nat) (p : Plan) : (s.setPlan c p).waitReset = s.waitReset := rfl
@[simp] theorem State.setPlan_pins (c : Nat) (p : Plan) : (s.setPlan c p).pins = s.pins := rfl
@[simp] theorem State.setPlan_facets (c : Nat) (p : Plan) : (s.setPlan c p).facets = s.facets := rfl
@[simp] theorem State.setPlan_spokes (c : Nat) (p : Plan) : (s.setPlan c p).spokes = s.spokes := rfl
@[simp] theorem State.setPlan_hup (c : Nat) (p : Plan) : (s.setPlan c p).hup = s.hup := rfl
@[simp] theorem State.setPlan_fab (c : Nat) (p : Plan) : (s.setPlan c p).fab = s.fab := rfl
@[simp] theorem State.setPlan_maps (c : Nat) (p : Plan) : (s.setPlan c p).maps = s.maps := rfl
@[simp] theorem State.setPlan_router (c : Nat) (p : Plan) : (s.setPlan c p).router = s.router := rfl
@[simp] theorem State.setPlan_outgoing (c : Nat) (p : Plan) : (s.setPlan c p).outgoing = s.outgoing := rfl
@[simp] theorem State.setPlan_coll (c : Nat) (p : Plan) : (s.setPlan c p).coll = s.coll := rfl
@[simp] theorem State.setPlan_slotSerial (c : Nat) (p : Plan) : (s.setPlan c p).slotSerial = s.slotSerial := rfl
@[simp] theorem State.setPlan_out (c : Nat) (p : Plan) : (s.setPlan c p).out = s.out := rfl

@[simp] theorem State.setQueue_pending (q : Nat) (x : Queue) : (s.setQueue q x).pending = s.pending := rfl
@[simp] theorem State.setQueue_freeCtr (q : Nat) (x : Queue) : (s.setQueue q x).freeCtr = s.freeCtr := rfl
@[simp] theorem State.setQueue_objs (q : Nat) (x : Queue) : (s.setQueue q x).objs = s.objs := rfl
@[simp] theorem State.setQueue_cad (q : Nat) (x : Queue) : (s.setQueue q x).cad = s.cad := rfl
@[simp] theorem State.setQueue_plans (q : Nat) (x : Queue) : (s.setQueue q x).plans = s.plans := rfl
@[simp] theorem State.setQueue_items (q : Nat) (x : Queue) : (s.setQueue q x).items = s.items := rfl
@[simp] theorem State.setQueue_nextItem (q : Nat) (x : Queue) : (s.setQueue q x).nextItem = s.nextItem := rfl
@[simp] theorem State.setQueue_hbm (q : Nat) (x : Queue) : (s.setQueue q x).hbm = s.hbm := rfl
@[simp] theorem State.setQueue_fm (q : Nat) (x : Queue) : (s.setQueue q x).fm = s.fm := rfl
@[simp] theorem State.setQueue_summary (q : Nat) (x : Queue) : (s.setQueue q x).summary = s.summary := rfl
@[simp] theorem State.setQueue_pools (q : Nat) (x : Queue) : (s.setQueue q x).pools = s.pools := rfl
@[simp] theorem State.setQueue_log (q : Nat) (x : Queue) : (s.setQueue q x).log = s.log := rfl
@[simp] theorem State.setQueue_rcv (q : Nat) (x : Queue) : (s.setQueue q x).rcv = s.rcv := rfl
@[simp] theorem State.setQueue_sec (q : Nat) (x : Queue) : (s.setQueue q x).sec = s.sec := rfl
@[simp] theorem State.setQueue_dict (q : Nat) (x : Queue) : (s.setQueue q x).dict = s.dict := rfl
@[simp] theorem State.setQueue_power (q : Nat) (x : Queue) : (s.setQueue q x).power = s.power := rfl
@[simp] theorem State.setQueue_flash (q : Nat) (x : Queue) : (s.setQueue q x).flash = s.flash := rfl
@[simp] theorem State.setQueue_maint (q : Nat) (x : Queue) : (s.setQueue q x).maint = s.maint := rfl
@[simp] theorem State.setQueue_waitBeat (q : Nat) (x : Queue) : (s.setQueue q x).waitBeat = s.waitBeat := rfl
@[simp] theorem State.setQueue_waitStep (q : Nat) (x : Queue) : (s.setQueue q x).waitStep = s.waitStep := rfl
@[simp] theorem State.setQueue_waitReset (q : Nat) (x : Queue) : (s.setQueue q x).waitReset = s.waitReset := rfl
@[simp] theorem State.setQueue_pins (q : Nat) (x : Queue) : (s.setQueue q x).pins = s.pins := rfl
@[simp] theorem State.setQueue_facets (q : Nat) (x : Queue) : (s.setQueue q x).facets = s.facets := rfl
@[simp] theorem State.setQueue_spokes (q : Nat) (x : Queue) : (s.setQueue q x).spokes = s.spokes := rfl
@[simp] theorem State.setQueue_hup (q : Nat) (x : Queue) : (s.setQueue q x).hup = s.hup := rfl
@[simp] theorem State.setQueue_fab (q : Nat) (x : Queue) : (s.setQueue q x).fab = s.fab := rfl
@[simp] theorem State.setQueue_maps (q : Nat) (x : Queue) : (s.setQueue q x).maps = s.maps := rfl
@[simp] theorem State.setQueue_router (q : Nat) (x : Queue) : (s.setQueue q x).router = s.router := rfl
@[simp] theorem State.setQueue_outgoing (q : Nat) (x : Queue) : (s.setQueue q x).outgoing = s.outgoing := rfl
@[simp] theorem State.setQueue_coll (q : Nat) (x : Queue) : (s.setQueue q x).coll = s.coll := rfl
@[simp] theorem State.setQueue_slotSerial (q : Nat) (x : Queue) : (s.setQueue q x).slotSerial = s.slotSerial := rfl
@[simp] theorem State.setQueue_out (q : Nat) (x : Queue) : (s.setQueue q x).out = s.out := rfl

@[simp] theorem State.setItem_pending (n : Nat) (it : Item) : (s.setItem n it).pending = s.pending := rfl
@[simp] theorem State.setItem_freeCtr (n : Nat) (it : Item) : (s.setItem n it).freeCtr = s.freeCtr := rfl
@[simp] theorem State.setItem_objs (n : Nat) (it : Item) : (s.setItem n it).objs = s.objs := rfl
@[simp] theorem State.setItem_cad (n : Nat) (it : Item) : (s.setItem n it).cad = s.cad := rfl
@[simp] theorem State.setItem_plans (n : Nat) (it : Item) : (s.setItem n it).plans = s.plans := rfl
@[simp] theorem State.setItem_nextItem (n : Nat) (it : Item) : (s.setItem n it).nextItem = s.nextItem := rfl
@[simp] theorem State.setItem_hbm (n : Nat) (it : Item) : (s.setItem n it).hbm = s.hbm := rfl
@[simp] theorem State.setItem_fm (n : Nat) (it : Item) : (s.setItem n it).fm = s.fm := rfl
@[simp] theorem State.setItem_queues (n : Nat) (it : Item) : (s.setItem n it).queues = s.queues := rfl
@[simp] theorem State.setItem_summary (n : Nat) (it : Item) : (s.setItem n it).summary = s.summary := rfl
@[simp] theorem State.setItem_pools (n : Nat) (it : Item) : (s.setItem n it).pools = s.pools := rfl
@[simp] theorem State.setItem_log (n : Nat) (it : Item) : (s.setItem n it).log = s.log := rfl
@[simp] theorem State.setItem_rcv (n : Nat) (it : Item) : (s.setItem n it).rcv = s.rcv := rfl
@[simp] theorem State.setItem_sec (n : Nat) (it : Item) : (s.setItem n it).sec = s.sec := rfl
@[simp] theorem State.setItem_dict (n : Nat) (it : Item) : (s.setItem n it).dict = s.dict := rfl
@[simp] theorem State.setItem_power (n : Nat) (it : Item) : (s.setItem n it).power = s.power := rfl
@[simp] theorem State.setItem_flash (n : Nat) (it : Item) : (s.setItem n it).flash = s.flash := rfl
@[simp] theorem State.setItem_maint (n : Nat) (it : Item) : (s.setItem n it).maint = s.maint := rfl
@[simp] theorem State.setItem_waitBeat (n : Nat) (it : Item) : (s.setItem n it).waitBeat = s.waitBeat := rfl
@[simp] theorem State.setItem_waitStep (n : Nat) (it : Item) : (s.setItem n it).waitStep = s.waitStep := rfl
@[simp] theorem State.setItem_waitReset (n : Nat) (it : Item) : (s.setItem n it).waitReset = s.waitReset := rfl
@[simp] theorem State.setItem_pins (n : Nat) (it : Item) : (s.setItem n it).pins = s.pins := rfl
@[simp] theorem State.setItem_facets (n : Nat) (it : Item) : (s.setItem n it).facets = s.facets := rfl
@[simp] theorem State.setItem_spokes (n : Nat) (it : Item) : (s.setItem n it).spokes = s.spokes := rfl
@[simp] theorem State.setItem_hup (n : Nat) (it : Item) : (s.setItem n it).hup = s.hup := rfl
@[simp] theorem State.setItem_fab (n : Nat) (it : Item) : (s.setItem n it).fab = s.fab := rfl
@[simp] theorem State.setItem_maps (n : Nat) (it : Item) : (s.setItem n it).maps = s.maps := rfl
@[simp] theorem State.setItem_router (n : Nat) (it : Item) : (s.setItem n it).router = s.router := rfl
@[simp] theorem State.setItem_outgoing (n : Nat) (it : Item) : (s.setItem n it).outgoing = s.outgoing := rfl
@[simp] theorem State.setItem_coll (n : Nat) (it : Item) : (s.setItem n it).coll = s.coll := rfl
@[simp] theorem State.setItem_slotSerial (n : Nat) (it : Item) : (s.setItem n it).slotSerial = s.slotSerial := rfl
@[simp] theorem State.setItem_out (n : Nat) (it : Item) : (s.setItem n it).out = s.out := rfl

@[simp] theorem State.acceptItem_pending (it : Item) : (s.acceptItem it).pending = s.pending := rfl
@[simp] theorem State.acceptItem_freeCtr (it : Item) : (s.acceptItem it).freeCtr = s.freeCtr := rfl
@[simp] theorem State.acceptItem_objs (it : Item) : (s.acceptItem it).objs = s.objs := rfl
@[simp] theorem State.acceptItem_cad (it : Item) : (s.acceptItem it).cad = s.cad := rfl
@[simp] theorem State.acceptItem_plans (it : Item) : (s.acceptItem it).plans = s.plans := rfl
@[simp] theorem State.acceptItem_hbm (it : Item) : (s.acceptItem it).hbm = s.hbm := rfl
@[simp] theorem State.acceptItem_fm (it : Item) : (s.acceptItem it).fm = s.fm := rfl
@[simp] theorem State.acceptItem_queues (it : Item) : (s.acceptItem it).queues = s.queues := rfl
@[simp] theorem State.acceptItem_summary (it : Item) : (s.acceptItem it).summary = s.summary := rfl
@[simp] theorem State.acceptItem_pools (it : Item) : (s.acceptItem it).pools = s.pools := rfl
@[simp] theorem State.acceptItem_log (it : Item) : (s.acceptItem it).log = s.log := rfl
@[simp] theorem State.acceptItem_rcv (it : Item) : (s.acceptItem it).rcv = s.rcv := rfl
@[simp] theorem State.acceptItem_sec (it : Item) : (s.acceptItem it).sec = s.sec := rfl
@[simp] theorem State.acceptItem_dict (it : Item) : (s.acceptItem it).dict = s.dict := rfl
@[simp] theorem State.acceptItem_power (it : Item) : (s.acceptItem it).power = s.power := rfl
@[simp] theorem State.acceptItem_flash (it : Item) : (s.acceptItem it).flash = s.flash := rfl
@[simp] theorem State.acceptItem_maint (it : Item) : (s.acceptItem it).maint = s.maint := rfl
@[simp] theorem State.acceptItem_waitBeat (it : Item) : (s.acceptItem it).waitBeat = s.waitBeat := rfl
@[simp] theorem State.acceptItem_waitStep (it : Item) : (s.acceptItem it).waitStep = s.waitStep := rfl
@[simp] theorem State.acceptItem_waitReset (it : Item) : (s.acceptItem it).waitReset = s.waitReset := rfl
@[simp] theorem State.acceptItem_pins (it : Item) : (s.acceptItem it).pins = s.pins := rfl
@[simp] theorem State.acceptItem_facets (it : Item) : (s.acceptItem it).facets = s.facets := rfl
@[simp] theorem State.acceptItem_spokes (it : Item) : (s.acceptItem it).spokes = s.spokes := rfl
@[simp] theorem State.acceptItem_hup (it : Item) : (s.acceptItem it).hup = s.hup := rfl
@[simp] theorem State.acceptItem_fab (it : Item) : (s.acceptItem it).fab = s.fab := rfl
@[simp] theorem State.acceptItem_maps (it : Item) : (s.acceptItem it).maps = s.maps := rfl
@[simp] theorem State.acceptItem_router (it : Item) : (s.acceptItem it).router = s.router := rfl
@[simp] theorem State.acceptItem_outgoing (it : Item) : (s.acceptItem it).outgoing = s.outgoing := rfl
@[simp] theorem State.acceptItem_coll (it : Item) : (s.acceptItem it).coll = s.coll := rfl
@[simp] theorem State.acceptItem_slotSerial (it : Item) : (s.acceptItem it).slotSerial = s.slotSerial := rfl
@[simp] theorem State.acceptItem_out (it : Item) : (s.acceptItem it).out = s.out := rfl

@[simp] theorem State.setCad_pending (x : Cadence) : (s.setCad x).pending = s.pending := rfl
@[simp] theorem State.setCad_freeCtr (x : Cadence) : (s.setCad x).freeCtr = s.freeCtr := rfl
@[simp] theorem State.setCad_objs (x : Cadence) : (s.setCad x).objs = s.objs := rfl
@[simp] theorem State.setCad_plans (x : Cadence) : (s.setCad x).plans = s.plans := rfl
@[simp] theorem State.setCad_items (x : Cadence) : (s.setCad x).items = s.items := rfl
@[simp] theorem State.setCad_nextItem (x : Cadence) : (s.setCad x).nextItem = s.nextItem := rfl
@[simp] theorem State.setCad_hbm (x : Cadence) : (s.setCad x).hbm = s.hbm := rfl
@[simp] theorem State.setCad_fm (x : Cadence) : (s.setCad x).fm = s.fm := rfl
@[simp] theorem State.setCad_queues (x : Cadence) : (s.setCad x).queues = s.queues := rfl
@[simp] theorem State.setCad_summary (x : Cadence) : (s.setCad x).summary = s.summary := rfl
@[simp] theorem State.setCad_pools (x : Cadence) : (s.setCad x).pools = s.pools := rfl
@[simp] theorem State.setCad_log (x : Cadence) : (s.setCad x).log = s.log := rfl
@[simp] theorem State.setCad_rcv (x : Cadence) : (s.setCad x).rcv = s.rcv := rfl
@[simp] theorem State.setCad_sec (x : Cadence) : (s.setCad x).sec = s.sec := rfl
@[simp] theorem State.setCad_dict (x : Cadence) : (s.setCad x).dict = s.dict := rfl
@[simp] theorem State.setCad_power (x : Cadence) : (s.setCad x).power = s.power := rfl
@[simp] theorem State.setCad_flash (x : Cadence) : (s.setCad x).flash = s.flash := rfl
@[simp] theorem State.setCad_maint (x : Cadence) : (s.setCad x).maint = s.maint := rfl
@[simp] theorem State.setCad_waitBeat (x : Cadence) : (s.setCad x).waitBeat = s.waitBeat := rfl
@[simp] theorem State.setCad_waitStep (x : Cadence) : (s.setCad x).waitStep = s.waitStep := rfl
@[simp] theorem State.setCad_waitReset (x : Cadence) : (s.setCad x).waitReset = s.waitReset := rfl
@[simp] theorem State.setCad_pins (x : Cadence) : (s.setCad x).pins = s.pins := rfl
@[simp] theorem State.setCad_facets (x : Cadence) : (s.setCad x).facets = s.facets := rfl
@[simp] theorem State.setCad_spokes (x : Cadence) : (s.setCad x).spokes = s.spokes := rfl
@[simp] theorem State.setCad_hup (x : Cadence) : (s.setCad x).hup = s.hup := rfl
@[simp] theorem State.setCad_fab (x : Cadence) : (s.setCad x).fab = s.fab := rfl
@[simp] theorem State.setCad_maps (x : Cadence) : (s.setCad x).maps = s.maps := rfl
@[simp] theorem State.setCad_router (x : Cadence) : (s.setCad x).router = s.router := rfl
@[simp] theorem State.setCad_outgoing (x : Cadence) : (s.setCad x).outgoing = s.outgoing := rfl
@[simp] theorem State.setCad_coll (x : Cadence) : (s.setCad x).coll = s.coll := rfl
@[simp] theorem State.setCad_slotSerial (x : Cadence) : (s.setCad x).slotSerial = s.slotSerial := rfl
@[simp] theorem State.setCad_out (x : Cadence) : (s.setCad x).out = s.out := rfl
@[simp] theorem State.setCad_cad (x : Cadence) : (s.setCad x).cad = x := rfl

@[simp] theorem State.setTime_pending (t : Nat) : (s.setTime t).pending = s.pending := rfl
@[simp] theorem State.setTime_freeCtr (t : Nat) : (s.setTime t).freeCtr = s.freeCtr := rfl
@[simp] theorem State.setTime_objs (t : Nat) : (s.setTime t).objs = s.objs := rfl
@[simp] theorem State.setTime_plans (t : Nat) : (s.setTime t).plans = s.plans := rfl
@[simp] theorem State.setTime_items (t : Nat) : (s.setTime t).items = s.items := rfl
@[simp] theorem State.setTime_nextItem (t : Nat) : (s.setTime t).nextItem = s.nextItem := rfl
@[simp] theorem State.setTime_hbm (t : Nat) : (s.setTime t).hbm = s.hbm := rfl
@[simp] theorem State.setTime_fm (t : Nat) : (s.setTime t).fm = s.fm := rfl
@[simp] theorem State.setTime_queues (t : Nat) : (s.setTime t).queues = s.queues := rfl
@[simp] theorem State.setTime_summary (t : Nat) : (s.setTime t).summary = s.summary := rfl
@[simp] theorem State.setTime_pools (t : Nat) : (s.setTime t).pools = s.pools := rfl
@[simp] theorem State.setTime_log (t : Nat) : (s.setTime t).log = s.log := rfl
@[simp] theorem State.setTime_rcv (t : Nat) : (s.setTime t).rcv = s.rcv := rfl
@[simp] theorem State.setTime_sec (t : Nat) : (s.setTime t).sec = s.sec := rfl
@[simp] theorem State.setTime_dict (t : Nat) : (s.setTime t).dict = s.dict := rfl
@[simp] theorem State.setTime_power (t : Nat) : (s.setTime t).power = s.power := rfl
@[simp] theorem State.setTime_flash (t : Nat) : (s.setTime t).flash = s.flash := rfl
@[simp] theorem State.setTime_maint (t : Nat) : (s.setTime t).maint = s.maint := rfl
@[simp] theorem State.setTime_waitBeat (t : Nat) : (s.setTime t).waitBeat = s.waitBeat := rfl
@[simp] theorem State.setTime_waitStep (t : Nat) : (s.setTime t).waitStep = s.waitStep := rfl
@[simp] theorem State.setTime_waitReset (t : Nat) : (s.setTime t).waitReset = s.waitReset := rfl
@[simp] theorem State.setTime_pins (t : Nat) : (s.setTime t).pins = s.pins := rfl
@[simp] theorem State.setTime_facets (t : Nat) : (s.setTime t).facets = s.facets := rfl
@[simp] theorem State.setTime_spokes (t : Nat) : (s.setTime t).spokes = s.spokes := rfl
@[simp] theorem State.setTime_hup (t : Nat) : (s.setTime t).hup = s.hup := rfl
@[simp] theorem State.setTime_fab (t : Nat) : (s.setTime t).fab = s.fab := rfl
@[simp] theorem State.setTime_maps (t : Nat) : (s.setTime t).maps = s.maps := rfl
@[simp] theorem State.setTime_router (t : Nat) : (s.setTime t).router = s.router := rfl
@[simp] theorem State.setTime_outgoing (t : Nat) : (s.setTime t).outgoing = s.outgoing := rfl
@[simp] theorem State.setTime_coll (t : Nat) : (s.setTime t).coll = s.coll := rfl
@[simp] theorem State.setTime_slotSerial (t : Nat) : (s.setTime t).slotSerial = s.slotSerial := rfl
@[simp] theorem State.setTime_out (t : Nat) : (s.setTime t).out = s.out := rfl

@[simp] theorem State.setFacet_pending (f : Nat) (x : Facet) : (s.setFacet f x).pending = s.pending := rfl
@[simp] theorem State.setFacet_freeCtr (f : Nat) (x : Facet) : (s.setFacet f x).freeCtr = s.freeCtr := rfl
@[simp] theorem State.setFacet_objs (f : Nat) (x : Facet) : (s.setFacet f x).objs = s.objs := rfl
@[simp] theorem State.setFacet_cad (f : Nat) (x : Facet) : (s.setFacet f x).cad = s.cad := rfl
@[simp] theorem State.setFacet_plans (f : Nat) (x : Facet) : (s.setFacet f x).plans = s.plans := rfl
@[simp] theorem State.setFacet_items (f : Nat) (x : Facet) : (s.setFacet f x).items = s.items := rfl
@[simp] theorem State.setFacet_nextItem (f : Nat) (x : Facet) : (s.setFacet f x).nextItem = s.nextItem := rfl
@[simp] theorem State.setFacet_hbm (f : Nat) (x : Facet) : (s.setFacet f x).hbm = s.hbm := rfl
@[simp] theorem State.setFacet_fm (f : Nat) (x : Facet) : (s.setFacet f x).fm = s.fm := rfl
@[simp] theorem State.setFacet_queues (f : Nat) (x : Facet) : (s.setFacet f x).queues = s.queues := rfl
@[simp] theorem State.setFacet_summary (f : Nat) (x : Facet) : (s.setFacet f x).summary = s.summary := rfl
@[simp] theorem State.setFacet_pools (f : Nat) (x : Facet) : (s.setFacet f x).pools = s.pools := rfl
@[simp] theorem State.setFacet_log (f : Nat) (x : Facet) : (s.setFacet f x).log = s.log := rfl
@[simp] theorem State.setFacet_rcv (f : Nat) (x : Facet) : (s.setFacet f x).rcv = s.rcv := rfl
@[simp] theorem State.setFacet_sec (f : Nat) (x : Facet) : (s.setFacet f x).sec = s.sec := rfl
@[simp] theorem State.setFacet_dict (f : Nat) (x : Facet) : (s.setFacet f x).dict = s.dict := rfl
@[simp] theorem State.setFacet_power (f : Nat) (x : Facet) : (s.setFacet f x).power = s.power := rfl
@[simp] theorem State.setFacet_flash (f : Nat) (x : Facet) : (s.setFacet f x).flash = s.flash := rfl
@[simp] theorem State.setFacet_maint (f : Nat) (x : Facet) : (s.setFacet f x).maint = s.maint := rfl
@[simp] theorem State.setFacet_waitBeat (f : Nat) (x : Facet) : (s.setFacet f x).waitBeat = s.waitBeat := rfl
@[simp] theorem State.setFacet_waitStep (f : Nat) (x : Facet) : (s.setFacet f x).waitStep = s.waitStep := rfl
@[simp] theorem State.setFacet_waitReset (f : Nat) (x : Facet) : (s.setFacet f x).waitReset = s.waitReset := rfl
@[simp] theorem State.setFacet_pins (f : Nat) (x : Facet) : (s.setFacet f x).pins = s.pins := rfl
@[simp] theorem State.setFacet_spokes (f : Nat) (x : Facet) : (s.setFacet f x).spokes = s.spokes := rfl
@[simp] theorem State.setFacet_hup (f : Nat) (x : Facet) : (s.setFacet f x).hup = s.hup := rfl
@[simp] theorem State.setFacet_fab (f : Nat) (x : Facet) : (s.setFacet f x).fab = s.fab := rfl
@[simp] theorem State.setFacet_maps (f : Nat) (x : Facet) : (s.setFacet f x).maps = s.maps := rfl
@[simp] theorem State.setFacet_router (f : Nat) (x : Facet) : (s.setFacet f x).router = s.router := rfl
@[simp] theorem State.setFacet_outgoing (f : Nat) (x : Facet) : (s.setFacet f x).outgoing = s.outgoing := rfl
@[simp] theorem State.setFacet_coll (f : Nat) (x : Facet) : (s.setFacet f x).coll = s.coll := rfl
@[simp] theorem State.setFacet_slotSerial (f : Nat) (x : Facet) : (s.setFacet f x).slotSerial = s.slotSerial := rfl
@[simp] theorem State.setFacet_out (f : Nat) (x : Facet) : (s.setFacet f x).out = s.out := rfl

@[simp] theorem State.setThread_pending (f t : Nat) (x : Thread) : (s.setThread f t x).pending = s.pending := rfl
@[simp] theorem State.setThread_freeCtr (f t : Nat) (x : Thread) : (s.setThread f t x).freeCtr = s.freeCtr := rfl
@[simp] theorem State.setThread_objs (f t : Nat) (x : Thread) : (s.setThread f t x).objs = s.objs := rfl
@[simp] theorem State.setThread_cad (f t : Nat) (x : Thread) : (s.setThread f t x).cad = s.cad := rfl
@[simp] theorem State.setThread_plans (f t : Nat) (x : Thread) : (s.setThread f t x).plans = s.plans := rfl
@[simp] theorem State.setThread_items (f t : Nat) (x : Thread) : (s.setThread f t x).items = s.items := rfl
@[simp] theorem State.setThread_nextItem (f t : Nat) (x : Thread) : (s.setThread f t x).nextItem = s.nextItem := rfl
@[simp] theorem State.setThread_hbm (f t : Nat) (x : Thread) : (s.setThread f t x).hbm = s.hbm := rfl
@[simp] theorem State.setThread_fm (f t : Nat) (x : Thread) : (s.setThread f t x).fm = s.fm := rfl
@[simp] theorem State.setThread_queues (f t : Nat) (x : Thread) : (s.setThread f t x).queues = s.queues := rfl
@[simp] theorem State.setThread_summary (f t : Nat) (x : Thread) : (s.setThread f t x).summary = s.summary := rfl
@[simp] theorem State.setThread_pools (f t : Nat) (x : Thread) : (s.setThread f t x).pools = s.pools := rfl
@[simp] theorem State.setThread_log (f t : Nat) (x : Thread) : (s.setThread f t x).log = s.log := rfl
@[simp] theorem State.setThread_rcv (f t : Nat) (x : Thread) : (s.setThread f t x).rcv = s.rcv := rfl
@[simp] theorem State.setThread_sec (f t : Nat) (x : Thread) : (s.setThread f t x).sec = s.sec := rfl
@[simp] theorem State.setThread_dict (f t : Nat) (x : Thread) : (s.setThread f t x).dict = s.dict := rfl
@[simp] theorem State.setThread_power (f t : Nat) (x : Thread) : (s.setThread f t x).power = s.power := rfl
@[simp] theorem State.setThread_flash (f t : Nat) (x : Thread) : (s.setThread f t x).flash = s.flash := rfl
@[simp] theorem State.setThread_maint (f t : Nat) (x : Thread) : (s.setThread f t x).maint = s.maint := rfl
@[simp] theorem State.setThread_waitBeat (f t : Nat) (x : Thread) : (s.setThread f t x).waitBeat = s.waitBeat := rfl
@[simp] theorem State.setThread_waitStep (f t : Nat) (x : Thread) : (s.setThread f t x).waitStep = s.waitStep := rfl
@[simp] theorem State.setThread_waitReset (f t : Nat) (x : Thread) : (s.setThread f t x).waitReset = s.waitReset := rfl
@[simp] theorem State.setThread_pins (f t : Nat) (x : Thread) : (s.setThread f t x).pins = s.pins := rfl
@[simp] theorem State.setThread_spokes (f t : Nat) (x : Thread) : (s.setThread f t x).spokes = s.spokes := rfl
@[simp] theorem State.setThread_hup (f t : Nat) (x : Thread) : (s.setThread f t x).hup = s.hup := rfl
@[simp] theorem State.setThread_fab (f t : Nat) (x : Thread) : (s.setThread f t x).fab = s.fab := rfl
@[simp] theorem State.setThread_maps (f t : Nat) (x : Thread) : (s.setThread f t x).maps = s.maps := rfl
@[simp] theorem State.setThread_router (f t : Nat) (x : Thread) : (s.setThread f t x).router = s.router := rfl
@[simp] theorem State.setThread_outgoing (f t : Nat) (x : Thread) : (s.setThread f t x).outgoing = s.outgoing := rfl
@[simp] theorem State.setThread_coll (f t : Nat) (x : Thread) : (s.setThread f t x).coll = s.coll := rfl
@[simp] theorem State.setThread_slotSerial (f t : Nat) (x : Thread) : (s.setThread f t x).slotSerial = s.slotSerial := rfl
@[simp] theorem State.setThread_out (f t : Nat) (x : Thread) : (s.setThread f t x).out = s.out := rfl

@[simp] theorem State.setSpoke_pending (p : Nat) (x : Spoke) : (s.setSpoke p x).pending = s.pending := rfl
@[simp] theorem State.setSpoke_freeCtr (p : Nat) (x : Spoke) : (s.setSpoke p x).freeCtr = s.freeCtr := rfl
@[simp] theorem State.setSpoke_objs (p : Nat) (x : Spoke) : (s.setSpoke p x).objs = s.objs := rfl
@[simp] theorem State.setSpoke_cad (p : Nat) (x : Spoke) : (s.setSpoke p x).cad = s.cad := rfl
@[simp] theorem State.setSpoke_plans (p : Nat) (x : Spoke) : (s.setSpoke p x).plans = s.plans := rfl
@[simp] theorem State.setSpoke_items (p : Nat) (x : Spoke) : (s.setSpoke p x).items = s.items := rfl
@[simp] theorem State.setSpoke_nextItem (p : Nat) (x : Spoke) : (s.setSpoke p x).nextItem = s.nextItem := rfl
@[simp] theorem State.setSpoke_hbm (p : Nat) (x : Spoke) : (s.setSpoke p x).hbm = s.hbm := rfl
@[simp] theorem State.setSpoke_fm (p : Nat) (x : Spoke) : (s.setSpoke p x).fm = s.fm := rfl
@[simp] theorem State.setSpoke_queues (p : Nat) (x : Spoke) : (s.setSpoke p x).queues = s.queues := rfl
@[simp] theorem State.setSpoke_summary (p : Nat) (x : Spoke) : (s.setSpoke p x).summary = s.summary := rfl
@[simp] theorem State.setSpoke_pools (p : Nat) (x : Spoke) : (s.setSpoke p x).pools = s.pools := rfl
@[simp] theorem State.setSpoke_log (p : Nat) (x : Spoke) : (s.setSpoke p x).log = s.log := rfl
@[simp] theorem State.setSpoke_rcv (p : Nat) (x : Spoke) : (s.setSpoke p x).rcv = s.rcv := rfl
@[simp] theorem State.setSpoke_sec (p : Nat) (x : Spoke) : (s.setSpoke p x).sec = s.sec := rfl
@[simp] theorem State.setSpoke_dict (p : Nat) (x : Spoke) : (s.setSpoke p x).dict = s.dict := rfl
@[simp] theorem State.setSpoke_power (p : Nat) (x : Spoke) : (s.setSpoke p x).power = s.power := rfl
@[simp] theorem State.setSpoke_flash (p : Nat) (x : Spoke) : (s.setSpoke p x).flash = s.flash := rfl
@[simp] theorem State.setSpoke_maint (p : Nat) (x : Spoke) : (s.setSpoke p x).maint = s.maint := rfl
@[simp] theorem State.setSpoke_waitBeat (p : Nat) (x : Spoke) : (s.setSpoke p x).waitBeat = s.waitBeat := rfl
@[simp] theorem State.setSpoke_waitStep (p : Nat) (x : Spoke) : (s.setSpoke p x).waitStep = s.waitStep := rfl
@[simp] theorem State.setSpoke_waitReset (p : Nat) (x : Spoke) : (s.setSpoke p x).waitReset = s.waitReset := rfl
@[simp] theorem State.setSpoke_pins (p : Nat) (x : Spoke) : (s.setSpoke p x).pins = s.pins := rfl
@[simp] theorem State.setSpoke_facets (p : Nat) (x : Spoke) : (s.setSpoke p x).facets = s.facets := rfl
@[simp] theorem State.setSpoke_hup (p : Nat) (x : Spoke) : (s.setSpoke p x).hup = s.hup := rfl
@[simp] theorem State.setSpoke_fab (p : Nat) (x : Spoke) : (s.setSpoke p x).fab = s.fab := rfl
@[simp] theorem State.setSpoke_maps (p : Nat) (x : Spoke) : (s.setSpoke p x).maps = s.maps := rfl
@[simp] theorem State.setSpoke_router (p : Nat) (x : Spoke) : (s.setSpoke p x).router = s.router := rfl
@[simp] theorem State.setSpoke_outgoing (p : Nat) (x : Spoke) : (s.setSpoke p x).outgoing = s.outgoing := rfl
@[simp] theorem State.setSpoke_coll (p : Nat) (x : Spoke) : (s.setSpoke p x).coll = s.coll := rfl
@[simp] theorem State.setSpoke_slotSerial (p : Nat) (x : Spoke) : (s.setSpoke p x).slotSerial = s.slotSerial := rfl
@[simp] theorem State.setSpoke_out (p : Nat) (x : Spoke) : (s.setSpoke p x).out = s.out := rfl

@[simp] theorem State.setPool_pending (c p : Nat) (x : Pool) : (s.setPool c p x).pending = s.pending := rfl
@[simp] theorem State.setPool_freeCtr (c p : Nat) (x : Pool) : (s.setPool c p x).freeCtr = s.freeCtr := rfl
@[simp] theorem State.setPool_objs (c p : Nat) (x : Pool) : (s.setPool c p x).objs = s.objs := rfl
@[simp] theorem State.setPool_cad (c p : Nat) (x : Pool) : (s.setPool c p x).cad = s.cad := rfl
@[simp] theorem State.setPool_plans (c p : Nat) (x : Pool) : (s.setPool c p x).plans = s.plans := rfl
@[simp] theorem State.setPool_items (c p : Nat) (x : Pool) : (s.setPool c p x).items = s.items := rfl
@[simp] theorem State.setPool_nextItem (c p : Nat) (x : Pool) : (s.setPool c p x).nextItem = s.nextItem := rfl
@[simp] theorem State.setPool_hbm (c p : Nat) (x : Pool) : (s.setPool c p x).hbm = s.hbm := rfl
@[simp] theorem State.setPool_fm (c p : Nat) (x : Pool) : (s.setPool c p x).fm = s.fm := rfl
@[simp] theorem State.setPool_queues (c p : Nat) (x : Pool) : (s.setPool c p x).queues = s.queues := rfl
@[simp] theorem State.setPool_summary (c p : Nat) (x : Pool) : (s.setPool c p x).summary = s.summary := rfl
@[simp] theorem State.setPool_log (c p : Nat) (x : Pool) : (s.setPool c p x).log = s.log := rfl
@[simp] theorem State.setPool_rcv (c p : Nat) (x : Pool) : (s.setPool c p x).rcv = s.rcv := rfl
@[simp] theorem State.setPool_sec (c p : Nat) (x : Pool) : (s.setPool c p x).sec = s.sec := rfl
@[simp] theorem State.setPool_dict (c p : Nat) (x : Pool) : (s.setPool c p x).dict = s.dict := rfl
@[simp] theorem State.setPool_power (c p : Nat) (x : Pool) : (s.setPool c p x).power = s.power := rfl
@[simp] theorem State.setPool_flash (c p : Nat) (x : Pool) : (s.setPool c p x).flash = s.flash := rfl
@[simp] theorem State.setPool_maint (c p : Nat) (x : Pool) : (s.setPool c p x).maint = s.maint := rfl
@[simp] theorem State.setPool_waitBeat (c p : Nat) (x : Pool) : (s.setPool c p x).waitBeat = s.waitBeat := rfl
@[simp] theorem State.setPool_waitStep (c p : Nat) (x : Pool) : (s.setPool c p x).waitStep = s.waitStep := rfl
@[simp] theorem State.setPool_waitReset (c p : Nat) (x : Pool) : (s.setPool c p x).waitReset = s.waitReset := rfl
@[simp] theorem State.setPool_pins (c p : Nat) (x : Pool) : (s.setPool c p x).pins = s.pins := rfl
@[simp] theorem State.setPool_facets (c p : Nat) (x : Pool) : (s.setPool c p x).facets = s.facets := rfl
@[simp] theorem State.setPool_spokes (c p : Nat) (x : Pool) : (s.setPool c p x).spokes = s.spokes := rfl
@[simp] theorem State.setPool_hup (c p : Nat) (x : Pool) : (s.setPool c p x).hup = s.hup := rfl
@[simp] theorem State.setPool_fab (c p : Nat) (x : Pool) : (s.setPool c p x).fab = s.fab := rfl
@[simp] theorem State.setPool_maps (c p : Nat) (x : Pool) : (s.setPool c p x).maps = s.maps := rfl
@[simp] theorem State.setPool_router (c p : Nat) (x : Pool) : (s.setPool c p x).router = s.router := rfl
@[simp] theorem State.setPool_outgoing (c p : Nat) (x : Pool) : (s.setPool c p x).outgoing = s.outgoing := rfl
@[simp] theorem State.setPool_coll (c p : Nat) (x : Pool) : (s.setPool c p x).coll = s.coll := rfl
@[simp] theorem State.setPool_slotSerial (c p : Nat) (x : Pool) : (s.setPool c p x).slotSerial = s.slotSerial := rfl
@[simp] theorem State.setPool_out (c p : Nat) (x : Pool) : (s.setPool c p x).out = s.out := rfl

@[simp] theorem State.setKeys_pending (c : Nat) (k : ContextKeys) : (s.setKeys c k).pending = s.pending := rfl
@[simp] theorem State.setKeys_freeCtr (c : Nat) (k : ContextKeys) : (s.setKeys c k).freeCtr = s.freeCtr := rfl
@[simp] theorem State.setKeys_objs (c : Nat) (k : ContextKeys) : (s.setKeys c k).objs = s.objs := rfl
@[simp] theorem State.setKeys_cad (c : Nat) (k : ContextKeys) : (s.setKeys c k).cad = s.cad := rfl
@[simp] theorem State.setKeys_plans (c : Nat) (k : ContextKeys) : (s.setKeys c k).plans = s.plans := rfl
@[simp] theorem State.setKeys_items (c : Nat) (k : ContextKeys) : (s.setKeys c k).items = s.items := rfl
@[simp] theorem State.setKeys_nextItem (c : Nat) (k : ContextKeys) : (s.setKeys c k).nextItem = s.nextItem := rfl
@[simp] theorem State.setKeys_hbm (c : Nat) (k : ContextKeys) : (s.setKeys c k).hbm = s.hbm := rfl
@[simp] theorem State.setKeys_fm (c : Nat) (k : ContextKeys) : (s.setKeys c k).fm = s.fm := rfl
@[simp] theorem State.setKeys_queues (c : Nat) (k : ContextKeys) : (s.setKeys c k).queues = s.queues := rfl
@[simp] theorem State.setKeys_summary (c : Nat) (k : ContextKeys) : (s.setKeys c k).summary = s.summary := rfl
@[simp] theorem State.setKeys_pools (c : Nat) (k : ContextKeys) : (s.setKeys c k).pools = s.pools := rfl
@[simp] theorem State.setKeys_log (c : Nat) (k : ContextKeys) : (s.setKeys c k).log = s.log := rfl
@[simp] theorem State.setKeys_rcv (c : Nat) (k : ContextKeys) : (s.setKeys c k).rcv = s.rcv := rfl
@[simp] theorem State.setKeys_dict (c : Nat) (k : ContextKeys) : (s.setKeys c k).dict = s.dict := rfl
@[simp] theorem State.setKeys_power (c : Nat) (k : ContextKeys) : (s.setKeys c k).power = s.power := rfl
@[simp] theorem State.setKeys_flash (c : Nat) (k : ContextKeys) : (s.setKeys c k).flash = s.flash := rfl
@[simp] theorem State.setKeys_maint (c : Nat) (k : ContextKeys) : (s.setKeys c k).maint = s.maint := rfl
@[simp] theorem State.setKeys_waitBeat (c : Nat) (k : ContextKeys) : (s.setKeys c k).waitBeat = s.waitBeat := rfl
@[simp] theorem State.setKeys_waitStep (c : Nat) (k : ContextKeys) : (s.setKeys c k).waitStep = s.waitStep := rfl
@[simp] theorem State.setKeys_waitReset (c : Nat) (k : ContextKeys) : (s.setKeys c k).waitReset = s.waitReset := rfl
@[simp] theorem State.setKeys_pins (c : Nat) (k : ContextKeys) : (s.setKeys c k).pins = s.pins := rfl
@[simp] theorem State.setKeys_facets (c : Nat) (k : ContextKeys) : (s.setKeys c k).facets = s.facets := rfl
@[simp] theorem State.setKeys_spokes (c : Nat) (k : ContextKeys) : (s.setKeys c k).spokes = s.spokes := rfl
@[simp] theorem State.setKeys_hup (c : Nat) (k : ContextKeys) : (s.setKeys c k).hup = s.hup := rfl
@[simp] theorem State.setKeys_fab (c : Nat) (k : ContextKeys) : (s.setKeys c k).fab = s.fab := rfl
@[simp] theorem State.setKeys_maps (c : Nat) (k : ContextKeys) : (s.setKeys c k).maps = s.maps := rfl
@[simp] theorem State.setKeys_router (c : Nat) (k : ContextKeys) : (s.setKeys c k).router = s.router := rfl
@[simp] theorem State.setKeys_outgoing (c : Nat) (k : ContextKeys) : (s.setKeys c k).outgoing = s.outgoing := rfl
@[simp] theorem State.setKeys_coll (c : Nat) (k : ContextKeys) : (s.setKeys c k).coll = s.coll := rfl
@[simp] theorem State.setKeys_slotSerial (c : Nat) (k : ContextKeys) : (s.setKeys c k).slotSerial = s.slotSerial := rfl
@[simp] theorem State.setKeys_out (c : Nat) (k : ContextKeys) : (s.setKeys c k).out = s.out := rfl

@[simp] theorem State.setSession_pending (n : Nat) (x : Session) : (s.setSession n x).pending = s.pending := rfl
@[simp] theorem State.setSession_freeCtr (n : Nat) (x : Session) : (s.setSession n x).freeCtr = s.freeCtr := rfl
@[simp] theorem State.setSession_objs (n : Nat) (x : Session) : (s.setSession n x).objs = s.objs := rfl
@[simp] theorem State.setSession_cad (n : Nat) (x : Session) : (s.setSession n x).cad = s.cad := rfl
@[simp] theorem State.setSession_plans (n : Nat) (x : Session) : (s.setSession n x).plans = s.plans := rfl
@[simp] theorem State.setSession_items (n : Nat) (x : Session) : (s.setSession n x).items = s.items := rfl
@[simp] theorem State.setSession_nextItem (n : Nat) (x : Session) : (s.setSession n x).nextItem = s.nextItem := rfl
@[simp] theorem State.setSession_hbm (n : Nat) (x : Session) : (s.setSession n x).hbm = s.hbm := rfl
@[simp] theorem State.setSession_fm (n : Nat) (x : Session) : (s.setSession n x).fm = s.fm := rfl
@[simp] theorem State.setSession_queues (n : Nat) (x : Session) : (s.setSession n x).queues = s.queues := rfl
@[simp] theorem State.setSession_summary (n : Nat) (x : Session) : (s.setSession n x).summary = s.summary := rfl
@[simp] theorem State.setSession_pools (n : Nat) (x : Session) : (s.setSession n x).pools = s.pools := rfl
@[simp] theorem State.setSession_log (n : Nat) (x : Session) : (s.setSession n x).log = s.log := rfl
@[simp] theorem State.setSession_rcv (n : Nat) (x : Session) : (s.setSession n x).rcv = s.rcv := rfl
@[simp] theorem State.setSession_dict (n : Nat) (x : Session) : (s.setSession n x).dict = s.dict := rfl
@[simp] theorem State.setSession_power (n : Nat) (x : Session) : (s.setSession n x).power = s.power := rfl
@[simp] theorem State.setSession_flash (n : Nat) (x : Session) : (s.setSession n x).flash = s.flash := rfl
@[simp] theorem State.setSession_maint (n : Nat) (x : Session) : (s.setSession n x).maint = s.maint := rfl
@[simp] theorem State.setSession_waitBeat (n : Nat) (x : Session) : (s.setSession n x).waitBeat = s.waitBeat := rfl
@[simp] theorem State.setSession_waitStep (n : Nat) (x : Session) : (s.setSession n x).waitStep = s.waitStep := rfl
@[simp] theorem State.setSession_waitReset (n : Nat) (x : Session) : (s.setSession n x).waitReset = s.waitReset := rfl
@[simp] theorem State.setSession_pins (n : Nat) (x : Session) : (s.setSession n x).pins = s.pins := rfl
@[simp] theorem State.setSession_facets (n : Nat) (x : Session) : (s.setSession n x).facets = s.facets := rfl
@[simp] theorem State.setSession_spokes (n : Nat) (x : Session) : (s.setSession n x).spokes = s.spokes := rfl
@[simp] theorem State.setSession_hup (n : Nat) (x : Session) : (s.setSession n x).hup = s.hup := rfl
@[simp] theorem State.setSession_fab (n : Nat) (x : Session) : (s.setSession n x).fab = s.fab := rfl
@[simp] theorem State.setSession_maps (n : Nat) (x : Session) : (s.setSession n x).maps = s.maps := rfl
@[simp] theorem State.setSession_router (n : Nat) (x : Session) : (s.setSession n x).router = s.router := rfl
@[simp] theorem State.setSession_outgoing (n : Nat) (x : Session) : (s.setSession n x).outgoing = s.outgoing := rfl
@[simp] theorem State.setSession_coll (n : Nat) (x : Session) : (s.setSession n x).coll = s.coll := rfl
@[simp] theorem State.setSession_slotSerial (n : Nat) (x : Session) : (s.setSession n x).slotSerial = s.slotSerial := rfl
@[simp] theorem State.setSession_out (n : Nat) (x : Session) : (s.setSession n x).out = s.out := rfl

@[simp] theorem State.setRouter_pending (r : Router) : (s.setRouter r).pending = s.pending := rfl
@[simp] theorem State.setRouter_freeCtr (r : Router) : (s.setRouter r).freeCtr = s.freeCtr := rfl
@[simp] theorem State.setRouter_objs (r : Router) : (s.setRouter r).objs = s.objs := rfl
@[simp] theorem State.setRouter_cad (r : Router) : (s.setRouter r).cad = s.cad := rfl
@[simp] theorem State.setRouter_plans (r : Router) : (s.setRouter r).plans = s.plans := rfl
@[simp] theorem State.setRouter_items (r : Router) : (s.setRouter r).items = s.items := rfl
@[simp] theorem State.setRouter_nextItem (r : Router) : (s.setRouter r).nextItem = s.nextItem := rfl
@[simp] theorem State.setRouter_hbm (r : Router) : (s.setRouter r).hbm = s.hbm := rfl
@[simp] theorem State.setRouter_fm (r : Router) : (s.setRouter r).fm = s.fm := rfl
@[simp] theorem State.setRouter_queues (r : Router) : (s.setRouter r).queues = s.queues := rfl
@[simp] theorem State.setRouter_summary (r : Router) : (s.setRouter r).summary = s.summary := rfl
@[simp] theorem State.setRouter_pools (r : Router) : (s.setRouter r).pools = s.pools := rfl
@[simp] theorem State.setRouter_log (r : Router) : (s.setRouter r).log = s.log := rfl
@[simp] theorem State.setRouter_rcv (r : Router) : (s.setRouter r).rcv = s.rcv := rfl
@[simp] theorem State.setRouter_sec (r : Router) : (s.setRouter r).sec = s.sec := rfl
@[simp] theorem State.setRouter_dict (r : Router) : (s.setRouter r).dict = s.dict := rfl
@[simp] theorem State.setRouter_power (r : Router) : (s.setRouter r).power = s.power := rfl
@[simp] theorem State.setRouter_flash (r : Router) : (s.setRouter r).flash = s.flash := rfl
@[simp] theorem State.setRouter_maint (r : Router) : (s.setRouter r).maint = s.maint := rfl
@[simp] theorem State.setRouter_waitBeat (r : Router) : (s.setRouter r).waitBeat = s.waitBeat := rfl
@[simp] theorem State.setRouter_waitStep (r : Router) : (s.setRouter r).waitStep = s.waitStep := rfl
@[simp] theorem State.setRouter_waitReset (r : Router) : (s.setRouter r).waitReset = s.waitReset := rfl
@[simp] theorem State.setRouter_pins (r : Router) : (s.setRouter r).pins = s.pins := rfl
@[simp] theorem State.setRouter_facets (r : Router) : (s.setRouter r).facets = s.facets := rfl
@[simp] theorem State.setRouter_spokes (r : Router) : (s.setRouter r).spokes = s.spokes := rfl
@[simp] theorem State.setRouter_hup (r : Router) : (s.setRouter r).hup = s.hup := rfl
@[simp] theorem State.setRouter_fab (r : Router) : (s.setRouter r).fab = s.fab := rfl
@[simp] theorem State.setRouter_maps (r : Router) : (s.setRouter r).maps = s.maps := rfl
@[simp] theorem State.setRouter_outgoing (r : Router) : (s.setRouter r).outgoing = s.outgoing := rfl
@[simp] theorem State.setRouter_coll (r : Router) : (s.setRouter r).coll = s.coll := rfl
@[simp] theorem State.setRouter_slotSerial (r : Router) : (s.setRouter r).slotSerial = s.slotSerial := rfl
@[simp] theorem State.setRouter_out (r : Router) : (s.setRouter r).out = s.out := rfl
@[simp] theorem State.setRouter_router (r : Router) : (s.setRouter r).router = r := rfl

@[simp] theorem State.setColl_pending (x : Coll) : (s.setColl x).pending = s.pending := rfl
@[simp] theorem State.setColl_freeCtr (x : Coll) : (s.setColl x).freeCtr = s.freeCtr := rfl
@[simp] theorem State.setColl_objs (x : Coll) : (s.setColl x).objs = s.objs := rfl
@[simp] theorem State.setColl_cad (x : Coll) : (s.setColl x).cad = s.cad := rfl
@[simp] theorem State.setColl_plans (x : Coll) : (s.setColl x).plans = s.plans := rfl
@[simp] theorem State.setColl_items (x : Coll) : (s.setColl x).items = s.items := rfl
@[simp] theorem State.setColl_nextItem (x : Coll) : (s.setColl x).nextItem = s.nextItem := rfl
@[simp] theorem State.setColl_hbm (x : Coll) : (s.setColl x).hbm = s.hbm := rfl
@[simp] theorem State.setColl_fm (x : Coll) : (s.setColl x).fm = s.fm := rfl
@[simp] theorem State.setColl_queues (x : Coll) : (s.setColl x).queues = s.queues := rfl
@[simp] theorem State.setColl_summary (x : Coll) : (s.setColl x).summary = s.summary := rfl
@[simp] theorem State.setColl_pools (x : Coll) : (s.setColl x).pools = s.pools := rfl
@[simp] theorem State.setColl_log (x : Coll) : (s.setColl x).log = s.log := rfl
@[simp] theorem State.setColl_rcv (x : Coll) : (s.setColl x).rcv = s.rcv := rfl
@[simp] theorem State.setColl_sec (x : Coll) : (s.setColl x).sec = s.sec := rfl
@[simp] theorem State.setColl_dict (x : Coll) : (s.setColl x).dict = s.dict := rfl
@[simp] theorem State.setColl_power (x : Coll) : (s.setColl x).power = s.power := rfl
@[simp] theorem State.setColl_flash (x : Coll) : (s.setColl x).flash = s.flash := rfl
@[simp] theorem State.setColl_maint (x : Coll) : (s.setColl x).maint = s.maint := rfl
@[simp] theorem State.setColl_waitBeat (x : Coll) : (s.setColl x).waitBeat = s.waitBeat := rfl
@[simp] theorem State.setColl_waitStep (x : Coll) : (s.setColl x).waitStep = s.waitStep := rfl
@[simp] theorem State.setColl_waitReset (x : Coll) : (s.setColl x).waitReset = s.waitReset := rfl
@[simp] theorem State.setColl_pins (x : Coll) : (s.setColl x).pins = s.pins := rfl
@[simp] theorem State.setColl_facets (x : Coll) : (s.setColl x).facets = s.facets := rfl
@[simp] theorem State.setColl_spokes (x : Coll) : (s.setColl x).spokes = s.spokes := rfl
@[simp] theorem State.setColl_hup (x : Coll) : (s.setColl x).hup = s.hup := rfl
@[simp] theorem State.setColl_fab (x : Coll) : (s.setColl x).fab = s.fab := rfl
@[simp] theorem State.setColl_maps (x : Coll) : (s.setColl x).maps = s.maps := rfl
@[simp] theorem State.setColl_router (x : Coll) : (s.setColl x).router = s.router := rfl
@[simp] theorem State.setColl_outgoing (x : Coll) : (s.setColl x).outgoing = s.outgoing := rfl
@[simp] theorem State.setColl_slotSerial (x : Coll) : (s.setColl x).slotSerial = s.slotSerial := rfl
@[simp] theorem State.setColl_out (x : Coll) : (s.setColl x).out = s.out := rfl
@[simp] theorem State.setColl_coll (x : Coll) : (s.setColl x).coll = x := rfl

@[simp] theorem State.setFab_pending (f : Fabric) : (s.setFab f).pending = s.pending := rfl
@[simp] theorem State.setFab_freeCtr (f : Fabric) : (s.setFab f).freeCtr = s.freeCtr := rfl
@[simp] theorem State.setFab_objs (f : Fabric) : (s.setFab f).objs = s.objs := rfl
@[simp] theorem State.setFab_cad (f : Fabric) : (s.setFab f).cad = s.cad := rfl
@[simp] theorem State.setFab_plans (f : Fabric) : (s.setFab f).plans = s.plans := rfl
@[simp] theorem State.setFab_items (f : Fabric) : (s.setFab f).items = s.items := rfl
@[simp] theorem State.setFab_nextItem (f : Fabric) : (s.setFab f).nextItem = s.nextItem := rfl
@[simp] theorem State.setFab_hbm (f : Fabric) : (s.setFab f).hbm = s.hbm := rfl
@[simp] theorem State.setFab_fm (f : Fabric) : (s.setFab f).fm = s.fm := rfl
@[simp] theorem State.setFab_queues (f : Fabric) : (s.setFab f).queues = s.queues := rfl
@[simp] theorem State.setFab_summary (f : Fabric) : (s.setFab f).summary = s.summary := rfl
@[simp] theorem State.setFab_pools (f : Fabric) : (s.setFab f).pools = s.pools := rfl
@[simp] theorem State.setFab_log (f : Fabric) : (s.setFab f).log = s.log := rfl
@[simp] theorem State.setFab_rcv (f : Fabric) : (s.setFab f).rcv = s.rcv := rfl
@[simp] theorem State.setFab_sec (f : Fabric) : (s.setFab f).sec = s.sec := rfl
@[simp] theorem State.setFab_dict (f : Fabric) : (s.setFab f).dict = s.dict := rfl
@[simp] theorem State.setFab_power (f : Fabric) : (s.setFab f).power = s.power := rfl
@[simp] theorem State.setFab_flash (f : Fabric) : (s.setFab f).flash = s.flash := rfl
@[simp] theorem State.setFab_maint (f : Fabric) : (s.setFab f).maint = s.maint := rfl
@[simp] theorem State.setFab_waitBeat (f : Fabric) : (s.setFab f).waitBeat = s.waitBeat := rfl
@[simp] theorem State.setFab_waitStep (f : Fabric) : (s.setFab f).waitStep = s.waitStep := rfl
@[simp] theorem State.setFab_waitReset (f : Fabric) : (s.setFab f).waitReset = s.waitReset := rfl
@[simp] theorem State.setFab_pins (f : Fabric) : (s.setFab f).pins = s.pins := rfl
@[simp] theorem State.setFab_facets (f : Fabric) : (s.setFab f).facets = s.facets := rfl
@[simp] theorem State.setFab_spokes (f : Fabric) : (s.setFab f).spokes = s.spokes := rfl
@[simp] theorem State.setFab_hup (f : Fabric) : (s.setFab f).hup = s.hup := rfl
@[simp] theorem State.setFab_maps (f : Fabric) : (s.setFab f).maps = s.maps := rfl
@[simp] theorem State.setFab_router (f : Fabric) : (s.setFab f).router = s.router := rfl
@[simp] theorem State.setFab_outgoing (f : Fabric) : (s.setFab f).outgoing = s.outgoing := rfl
@[simp] theorem State.setFab_coll (f : Fabric) : (s.setFab f).coll = s.coll := rfl
@[simp] theorem State.setFab_slotSerial (f : Fabric) : (s.setFab f).slotSerial = s.slotSerial := rfl
@[simp] theorem State.setFab_out (f : Fabric) : (s.setFab f).out = s.out := rfl
@[simp] theorem State.setFab_fab (f : Fabric) : (s.setFab f).fab = f := rfl

@[simp] theorem State.setTimers_pending (t : Table TimerHolder) : (s.setTimers t).pending = s.pending := rfl
@[simp] theorem State.setTimers_freeCtr (t : Table TimerHolder) : (s.setTimers t).freeCtr = s.freeCtr := rfl
@[simp] theorem State.setTimers_objs (t : Table TimerHolder) : (s.setTimers t).objs = s.objs := rfl
@[simp] theorem State.setTimers_cad (t : Table TimerHolder) : (s.setTimers t).cad = s.cad := rfl
@[simp] theorem State.setTimers_plans (t : Table TimerHolder) : (s.setTimers t).plans = s.plans := rfl
@[simp] theorem State.setTimers_items (t : Table TimerHolder) : (s.setTimers t).items = s.items := rfl
@[simp] theorem State.setTimers_nextItem (t : Table TimerHolder) : (s.setTimers t).nextItem = s.nextItem := rfl
@[simp] theorem State.setTimers_hbm (t : Table TimerHolder) : (s.setTimers t).hbm = s.hbm := rfl
@[simp] theorem State.setTimers_fm (t : Table TimerHolder) : (s.setTimers t).fm = s.fm := rfl
@[simp] theorem State.setTimers_queues (t : Table TimerHolder) : (s.setTimers t).queues = s.queues := rfl
@[simp] theorem State.setTimers_summary (t : Table TimerHolder) : (s.setTimers t).summary = s.summary := rfl
@[simp] theorem State.setTimers_pools (t : Table TimerHolder) : (s.setTimers t).pools = s.pools := rfl
@[simp] theorem State.setTimers_log (t : Table TimerHolder) : (s.setTimers t).log = s.log := rfl
@[simp] theorem State.setTimers_rcv (t : Table TimerHolder) : (s.setTimers t).rcv = s.rcv := rfl
@[simp] theorem State.setTimers_sec (t : Table TimerHolder) : (s.setTimers t).sec = s.sec := rfl
@[simp] theorem State.setTimers_dict (t : Table TimerHolder) : (s.setTimers t).dict = s.dict := rfl
@[simp] theorem State.setTimers_power (t : Table TimerHolder) : (s.setTimers t).power = s.power := rfl
@[simp] theorem State.setTimers_flash (t : Table TimerHolder) : (s.setTimers t).flash = s.flash := rfl
@[simp] theorem State.setTimers_maint (t : Table TimerHolder) : (s.setTimers t).maint = s.maint := rfl
@[simp] theorem State.setTimers_waitBeat (t : Table TimerHolder) : (s.setTimers t).waitBeat = s.waitBeat := rfl
@[simp] theorem State.setTimers_waitStep (t : Table TimerHolder) : (s.setTimers t).waitStep = s.waitStep := rfl
@[simp] theorem State.setTimers_waitReset (t : Table TimerHolder) : (s.setTimers t).waitReset = s.waitReset := rfl
@[simp] theorem State.setTimers_facets (t : Table TimerHolder) : (s.setTimers t).facets = s.facets := rfl
@[simp] theorem State.setTimers_spokes (t : Table TimerHolder) : (s.setTimers t).spokes = s.spokes := rfl
@[simp] theorem State.setTimers_hup (t : Table TimerHolder) : (s.setTimers t).hup = s.hup := rfl
@[simp] theorem State.setTimers_fab (t : Table TimerHolder) : (s.setTimers t).fab = s.fab := rfl
@[simp] theorem State.setTimers_maps (t : Table TimerHolder) : (s.setTimers t).maps = s.maps := rfl
@[simp] theorem State.setTimers_router (t : Table TimerHolder) : (s.setTimers t).router = s.router := rfl
@[simp] theorem State.setTimers_outgoing (t : Table TimerHolder) : (s.setTimers t).outgoing = s.outgoing := rfl
@[simp] theorem State.setTimers_coll (t : Table TimerHolder) : (s.setTimers t).coll = s.coll := rfl
@[simp] theorem State.setTimers_slotSerial (t : Table TimerHolder) : (s.setTimers t).slotSerial = s.slotSerial := rfl
@[simp] theorem State.setTimers_out (t : Table TimerHolder) : (s.setTimers t).out = s.out := rfl

@[simp] theorem State.stage_pending (o : Outgoing) : (s.stage o).pending = s.pending := rfl
@[simp] theorem State.stage_freeCtr (o : Outgoing) : (s.stage o).freeCtr = s.freeCtr := rfl
@[simp] theorem State.stage_objs (o : Outgoing) : (s.stage o).objs = s.objs := rfl
@[simp] theorem State.stage_cad (o : Outgoing) : (s.stage o).cad = s.cad := rfl
@[simp] theorem State.stage_plans (o : Outgoing) : (s.stage o).plans = s.plans := rfl
@[simp] theorem State.stage_items (o : Outgoing) : (s.stage o).items = s.items := rfl
@[simp] theorem State.stage_nextItem (o : Outgoing) : (s.stage o).nextItem = s.nextItem := rfl
@[simp] theorem State.stage_hbm (o : Outgoing) : (s.stage o).hbm = s.hbm := rfl
@[simp] theorem State.stage_fm (o : Outgoing) : (s.stage o).fm = s.fm := rfl
@[simp] theorem State.stage_queues (o : Outgoing) : (s.stage o).queues = s.queues := rfl
@[simp] theorem State.stage_summary (o : Outgoing) : (s.stage o).summary = s.summary := rfl
@[simp] theorem State.stage_pools (o : Outgoing) : (s.stage o).pools = s.pools := rfl
@[simp] theorem State.stage_log (o : Outgoing) : (s.stage o).log = s.log := rfl
@[simp] theorem State.stage_rcv (o : Outgoing) : (s.stage o).rcv = s.rcv := rfl
@[simp] theorem State.stage_sec (o : Outgoing) : (s.stage o).sec = s.sec := rfl
@[simp] theorem State.stage_dict (o : Outgoing) : (s.stage o).dict = s.dict := rfl
@[simp] theorem State.stage_power (o : Outgoing) : (s.stage o).power = s.power := rfl
@[simp] theorem State.stage_flash (o : Outgoing) : (s.stage o).flash = s.flash := rfl
@[simp] theorem State.stage_maint (o : Outgoing) : (s.stage o).maint = s.maint := rfl
@[simp] theorem State.stage_waitBeat (o : Outgoing) : (s.stage o).waitBeat = s.waitBeat := rfl
@[simp] theorem State.stage_waitStep (o : Outgoing) : (s.stage o).waitStep = s.waitStep := rfl
@[simp] theorem State.stage_waitReset (o : Outgoing) : (s.stage o).waitReset = s.waitReset := rfl
@[simp] theorem State.stage_pins (o : Outgoing) : (s.stage o).pins = s.pins := rfl
@[simp] theorem State.stage_facets (o : Outgoing) : (s.stage o).facets = s.facets := rfl
@[simp] theorem State.stage_spokes (o : Outgoing) : (s.stage o).spokes = s.spokes := rfl
@[simp] theorem State.stage_hup (o : Outgoing) : (s.stage o).hup = s.hup := rfl
@[simp] theorem State.stage_fab (o : Outgoing) : (s.stage o).fab = s.fab := rfl
@[simp] theorem State.stage_maps (o : Outgoing) : (s.stage o).maps = s.maps := rfl
@[simp] theorem State.stage_router (o : Outgoing) : (s.stage o).router = s.router := rfl
@[simp] theorem State.stage_coll (o : Outgoing) : (s.stage o).coll = s.coll := rfl
@[simp] theorem State.stage_slotSerial (o : Outgoing) : (s.stage o).slotSerial = s.slotSerial := rfl
@[simp] theorem State.stage_out (o : Outgoing) : (s.stage o).out = s.out := rfl

end Sys2Proof.Machine
end

