-- ==== Sys2Proof/Laws/Regs.lean ====
section
/-! SUPPORT. Sys2Proof/Laws/Regs.lean: tables, and what a register reads after a write. -/

namespace Sys2Proof.Machine

section tables
variable {α : Type}

@[simp] theorem tfind_nil (k : Nat) : tfind ([] : Table α) k = none := rfl
@[simp] theorem tget_nil (d : α) (k : Nat) : tget d [] k = d := rfl

theorem tget_eq_tfind (d : α) (t : Table α) (k : Nat) : tget d t k = (tfind t k).getD d := by
  induction t with
  | nil => rfl
  | cons e r ih =>
    obtain ⟨j, v⟩ := e
    simp only [tget, tfind]
    split
    · rfl
    · exact ih

/-- A table entry reads as it was set. -/
@[simp] theorem tfind_tset_same (t : Table α) (k : Nat) (v : α) : tfind (tset t k v) k = some v := by
  induction t with
  | nil => simp [tset, tfind]
  | cons e r ih =>
    obtain ⟨j, w⟩ := e
    simp only [tset]
    split
    · simp [tfind]
    · split
      · simp [tfind]
      · rename_i h1 h2
        simp [tfind, Ne.symm h2, ih]

/-- Setting one entry leaves the others. -/
theorem tfind_tset_other (t : Table α) (k j : Nat) (v : α) (h : j ≠ k) : tfind (tset t k v) j = tfind t j := by
  induction t with
  | nil => simp [tset, tfind, h.symm]
  | cons e r ih =>
    obtain ⟨i, w⟩ := e
    simp only [tset]
    split
    · simp [tfind, h.symm]
    · split
      · rename_i h1 h2
        subst h2
        simp [tfind, h.symm]
      · simp only [tfind, ih]

theorem tfind_tset (t : Table α) (k j : Nat) (v : α) :
    tfind (tset t k v) j = if j = k then some v else tfind t j := by
  split
  · rename_i h; subst h; exact tfind_tset_same ..
  · rename_i h; exact tfind_tset_other _ _ _ _ h

theorem tget_tset (d : α) (t : Table α) (k j : Nat) (v : α) :
    tget d (tset t k v) j = if j = k then v else tget d t j := by
  simp only [tget_eq_tfind, tfind_tset]
  split <;> rfl

@[simp] theorem tget_tset_same (d : α) (t : Table α) (k : Nat) (v : α) : tget d (tset t k v) k = v := by
  simp [tget_tset]

theorem tfind_terase (t : Table α) (k j : Nat) : tfind (terase t k) j = if j = k then none else tfind t j := by
  induction t with
  | nil => simp [terase]
  | cons e r ih =>
    obtain ⟨i, w⟩ := e
    simp only [terase] at ih ⊢
    by_cases hik : i = k
    · subst hik
      simp only [List.filter_cons, bne_self_eq_false, Bool.false_eq_true, ↓reduceIte, tfind, ih]
      by_cases hj : i = j
      · simp [hj]
      · simp [hj, Ne.symm hj]
    · have : (i != k) = true := by simpa using hik
      simp only [List.filter_cons, this, ↓reduceIte, tfind, ih]
      by_cases hj : i = j
      · subst hj; simp [hik]
      · simp [hj]

@[simp] theorem tfind_terase_same (t : Table α) (k : Nat) : tfind (terase t k) k = none := by simp [tfind_terase]

theorem mem_tset {t : Table α} {k : Nat} {v : α} {e : Nat × α} (h : e ∈ tset t k v) : e = (k, v) ∨ e ∈ t := by
  induction t with
  | nil => rw [tset, List.mem_singleton] at h; exact .inl h
  | cons a r ih =>
    obtain ⟨j, w⟩ := a
    unfold tset at h
    split at h
    · exact List.mem_cons.1 h
    · split at h
      · exact (List.mem_cons.1 h).imp id (List.mem_cons_of_mem _)
      · rcases List.mem_cons.1 h with rfl | h
        · exact .inr (List.mem_cons_self ..)
        · exact (ih h).imp id (List.mem_cons_of_mem _)

/-- A table keeps its order as an entry is set. -/
theorem rising_tset {t : Table α} (k : Nat) (v : α) (h : (tkeys t).Pairwise (· < ·)) : (tkeys (tset t k v)).Pairwise (· < ·) := by
  unfold tkeys at *
  induction t with
  | nil => simp [tset]
  | cons a r ih =>
    obtain ⟨j, w⟩ := a
    rw [List.map_cons, List.pairwise_cons] at h
    unfold tset
    split
    · rename_i hk
      rw [List.map_cons, List.pairwise_cons, List.map_cons, List.pairwise_cons]
      refine ⟨fun x hx => ?_, h⟩
      rcases List.mem_cons.1 hx with rfl | hx
      · exact hk
      · exact Nat.lt_trans hk (h.1 x hx)
    · split
      · rename_i _ hk
        subst hk
        rw [List.map_cons, List.pairwise_cons]
        exact h
      · rename_i h1 h2
        rw [List.map_cons, List.pairwise_cons]
        refine ⟨fun x hx => ?_, ih h.2⟩
        obtain ⟨e, he, rfl⟩ := List.mem_map.1 hx
        rcases mem_tset he with rfl | he
        · show j < k; omega
        · exact h.1 _ (List.mem_map_of_mem he)

theorem rising_filter {t : Table α} (p : Nat × α → Bool) (h : (tkeys t).Pairwise (· < ·)) : (tkeys (t.filter p)).Pairwise (· < ·) := by
  unfold tkeys at *
  exact h.sublist (List.Sublist.map _ List.filter_sublist)

theorem mem_of_tfind {t : Table α} {k : Nat} {v : α} (h : tfind t k = some v) : (k, v) ∈ t := by
  induction t with
  | nil => cases h
  | cons a r ih =>
    obtain ⟨j, w⟩ := a
    unfold tfind at h
    split at h
    · rename_i hk; subst hk; cases h; exact List.mem_cons_self ..
    · exact List.mem_cons_of_mem _ (ih h)

end tables

/-- Registers of different objects lie under different keys. -/
theorem ObjDef.key_ne {o p : ObjDef} (h : o.index ≠ p.index) (i j : Nat) : o.key i ≠ p.key j := by
  simp only [ObjDef.key]; omega

/-- Different instances of an object lie under different keys. -/
theorem ObjDef.key_ne_sub (o : ObjDef) {i j : Nat} (hi : i < 256) (hj : j < 256) (h : i ≠ j) : o.key i ≠ o.key j := by
  simp only [ObjDef.key]; omega

theorem setField_same (o : ObjDef) (l : List Nat) (i v : Nat) : (setField o l i v)[i]? = some v := by
  unfold setField
  split
  · rename_i h; simp [h]
  · rename_i h
    have : (l ++ (range2 l.length i).map o.defaultField).length = i := by simp [range2]; omega
    rw [List.getElem?_append_right (by omega)]
    simp [this]

theorem setField_other (o : ObjDef) (l : List Nat) (i j v : Nat) (h : j ≠ i) :
    (setField o l i v)[j]?.getD (o.defaultField j) = l[j]?.getD (o.defaultField j) := by
  unfold setField
  split
  · rw [List.getElem?_set_ne (Ne.symm h)]
  · rename_i hl
    have hlen : (l ++ (range2 l.length i).map o.defaultField).length = i := by simp [range2]; omega
    by_cases hj : j < l.length
    · rw [List.append_assoc, List.getElem?_append_left hj]
    · rw [List.getElem?_eq_none (l := l) (by omega)]
      by_cases hji : j < i
      · rw [List.getElem?_append_left (by omega), List.getElem?_append_right (by omega)]
        simp only [range2, List.getElem?_map]
        rw [List.getElem?_range (by omega)]
        simp only [Option.map_some, Option.getD_some, Option.getD_none]
        congr 1; omega
      · rw [List.getElem?_eq_none (by simp only [List.length_append, hlen, List.length_singleton]; omega)]

@[simp] theorem regF_setRegF_same (s : State) (o : ObjDef) (sub i v : Nat) : (s.setRegF o sub i v).regF o sub i = v := by
  simp [State.regF, State.setRegF, List.getD_eq_getElem?_getD, setField_same]

/-- Writing one field leaves every other field of every object. -/
theorem regF_setRegF_other (s : State) (o p : ObjDef) (sub sub' i j v : Nat)
    (h : p.key sub' ≠ o.key sub ∨ (p = o ∧ j ≠ i)) : (s.setRegF o sub i v).regF p sub' j = s.regF p sub' j := by
  by_cases hk : p.key sub' = o.key sub
  · obtain ⟨rfl, hj⟩ := h.resolve_left (fun x => x hk)
    simp only [State.regF, State.setRegF, hk, tfind_tset_same, List.getD_eq_getElem?_getD]
    rw [setField_other _ _ _ _ _ hj]
    simp only [tget_eq_tfind]
    cases tfind s.objs (p.key sub) <;> simp
  · simp [State.regF, State.setRegF, tfind_tset_other _ _ _ _ hk]

@[simp] theorem reg_setReg_same (s : State) (o : ObjDef) (sub v : Nat) : (s.setReg o sub v).reg o sub = v :=
  regF_setRegF_same ..

/-- Writing one register leaves the registers under other keys. -/
theorem regF_setReg_other (s : State) (o p : ObjDef) (sub sub' v j : Nat) (h : p.key sub' ≠ o.key sub) :
    (s.setReg o sub v).regF p sub' j = s.regF p sub' j := regF_setRegF_other _ _ _ _ _ _ _ _ (.inl h)

@[simp] theorem regF_setFields_same (s : State) (o : ObjDef) (sub j : Nat) (l : List Nat) :
    (s.setFields o sub l).regF o sub j = l.getD j (o.defaultField j) := by
  simp [State.regF, State.setFields]

theorem regF_setFields_other (s : State) (o p : ObjDef) (sub sub' j : Nat) (l : List Nat) (h : p.key sub' ≠ o.key sub) :
    (s.setFields o sub l).regF p sub' j = s.regF p sub' j := by
  simp [State.regF, State.setFields, tfind_tset_other _ _ _ _ h]

@[simp] theorem regF_clearReg_same (s : State) (o : ObjDef) (sub j : Nat) :
    (s.clearReg o sub).regF o sub j = o.defaultField j := by
  simp [State.regF, State.clearReg]

theorem regF_clearReg_other (s : State) (o p : ObjDef) (sub sub' j : Nat) (h : p.key sub' ≠ o.key sub) :
    (s.clearReg o sub).regF p sub' j = s.regF p sub' j := by
  simp [State.regF, State.clearReg, tfind_terase, h]

/-- A register depends on the objects alone. -/
theorem regF_congr {s t : State} (h : t.objs = s.objs) (o : ObjDef) (sub i : Nat) : t.regF o sub i = s.regF o sub i := by
  simp [State.regF, h]

@[simp] theorem plan_setPlan_same (s : State) (c : Nat) (p : Plan) : (s.setPlan c p).plan c = p := by
  simp [State.plan, State.setPlan]

theorem plan_setPlan_other (s : State) (c d : Nat) (p : Plan) (h : d ≠ c) : (s.setPlan c p).plan d = s.plan d := by
  simp [State.plan, State.setPlan, tget_tset, h]

end Sys2Proof.Machine
end

