-- ==== Sys2Proof/Laws/Reads.lean ====
section
/-! SUPPORT. Sys2Proof/Laws/Reads.lean: the registers and plans read as before after an update of something else. -/

namespace Sys2Proof.Machine

variable (s : State)

/-- The plans depend on their table alone. -/
theorem plan_congr {s t : State} (h : t.plans = s.plans) (c : Nat) : t.plan c = s.plan c := by simp [State.plan, h]

theorem reg_congr {s t : State} (h : t.objs = s.objs) (o : ObjDef) (sub : Nat) : t.reg o sub = s.reg o sub := regF_congr h ..

theorem fields_congr {s t : State} (h : t.objs = s.objs) (o : ObjDef) (sub : Nat) : t.fields o sub = s.fields o sub := by
  simp [State.fields, h]

@[simp] theorem State.setHbm_regF (x : Hbm) (y : ObjDef) (j z : Nat) : (s.setHbm x).regF y j z = s.regF y j z := regF_congr rfl ..
@[simp] theorem State.setHbm_reg (x : Hbm) (y : ObjDef) (j : Nat) : (s.setHbm x).reg y j = s.reg y j := reg_congr rfl ..
@[simp] theorem State.setHbm_planState (x : Hbm) (d : Nat) : (s.setHbm x).planState d = s.planState d := reg_congr rfl ..
@[simp] theorem State.setHbm_plan (x : Hbm) (d : Nat) : (s.setHbm x).plan d = s.plan d := plan_congr rfl ..
@[simp] theorem State.setFm_regF (x : FacetMem) (y : ObjDef) (j z : Nat) : (s.setFm x).regF y j z = s.regF y j z := regF_congr rfl ..
@[simp] theorem State.setFm_reg (x : FacetMem) (y : ObjDef) (j : Nat) : (s.setFm x).reg y j = s.reg y j := reg_congr rfl ..
@[simp] theorem State.setFm_planState (x : FacetMem) (d : Nat) : (s.setFm x).planState d = s.planState d := reg_congr rfl ..
@[simp] theorem State.setFm_plan (x : FacetMem) (d : Nat) : (s.setFm x).plan d = s.plan d := plan_congr rfl ..
@[simp] theorem State.setRcv_regF (x : Recovery) (y : ObjDef) (j z : Nat) : (s.setRcv x).regF y j z = s.regF y j z := regF_congr rfl ..
@[simp] theorem State.setRcv_reg (x : Recovery) (y : ObjDef) (j : Nat) : (s.setRcv x).reg y j = s.reg y j := reg_congr rfl ..
@[simp] theorem State.setRcv_planState (x : Recovery) (d : Nat) : (s.setRcv x).planState d = s.planState d := reg_congr rfl ..
@[simp] theorem State.setRcv_plan (x : Recovery) (d : Nat) : (s.setRcv x).plan d = s.plan d := plan_congr rfl ..
@[simp] theorem State.setHup_regF (x : Hupatas) (y : ObjDef) (j z : Nat) : (s.setHup x).regF y j z = s.regF y j z := regF_congr rfl ..
@[simp] theorem State.setHup_reg (x : Hupatas) (y : ObjDef) (j : Nat) : (s.setHup x).reg y j = s.reg y j := reg_congr rfl ..
@[simp] theorem State.setHup_planState (x : Hupatas) (d : Nat) : (s.setHup x).planState d = s.planState d := reg_congr rfl ..
@[simp] theorem State.setHup_plan (x : Hupatas) (d : Nat) : (s.setHup x).plan d = s.plan d := plan_congr rfl ..
@[simp] theorem State.setLog_regF (x : ErrLog) (y : ObjDef) (j z : Nat) : (s.setLog x).regF y j z = s.regF y j z := regF_congr rfl ..
@[simp] theorem State.setLog_reg (x : ErrLog) (y : ObjDef) (j : Nat) : (s.setLog x).reg y j = s.reg y j := reg_congr rfl ..
@[simp] theorem State.setLog_planState (x : ErrLog) (d : Nat) : (s.setLog x).planState d = s.planState d := reg_congr rfl ..
@[simp] theorem State.setLog_plan (x : ErrLog) (d : Nat) : (s.setLog x).plan d = s.plan d := plan_congr rfl ..
@[simp] theorem State.setPins_regF (x : Pins) (y : ObjDef) (j z : Nat) : (s.setPins x).regF y j z = s.regF y j z := regF_congr rfl ..
@[simp] theorem State.setPins_reg (x : Pins) (y : ObjDef) (j : Nat) : (s.setPins x).reg y j = s.reg y j := reg_congr rfl ..
@[simp] theorem State.setPins_planState (x : Pins) (d : Nat) : (s.setPins x).planState d = s.planState d := reg_congr rfl ..
@[simp] theorem State.setPins_plan (x : Pins) (d : Nat) : (s.setPins x).plan d = s.plan d := plan_congr rfl ..
@[simp] theorem State.setSec_regF (x : Security) (y : ObjDef) (j z : Nat) : (s.setSec x).regF y j z = s.regF y j z := regF_congr rfl ..
@[simp] theorem State.setSec_reg (x : Security) (y : ObjDef) (j : Nat) : (s.setSec x).reg y j = s.reg y j := reg_congr rfl ..
@[simp] theorem State.setSec_planState (x : Security) (d : Nat) : (s.setSec x).planState d = s.planState d := reg_congr rfl ..
@[simp] theorem State.setSec_plan (x : Security) (d : Nat) : (s.setSec x).plan d = s.plan d := plan_congr rfl ..
@[simp] theorem State.setDict_regF (x : Dict) (y : ObjDef) (j z : Nat) : (s.setDict x).regF y j z = s.regF y j z := regF_congr rfl ..
@[simp] theorem State.setDict_reg (x : Dict) (y : ObjDef) (j : Nat) : (s.setDict x).reg y j = s.reg y j := reg_congr rfl ..
@[simp] theorem State.setDict_planState (x : Dict) (d : Nat) : (s.setDict x).planState d = s.planState d := reg_congr rfl ..
@[simp] theorem State.setDict_plan (x : Dict) (d : Nat) : (s.setDict x).plan d = s.plan d := plan_congr rfl ..
@[simp] theorem State.setPower_regF (x : Power) (y : ObjDef) (j z : Nat) : (s.setPower x).regF y j z = s.regF y j z := regF_congr rfl ..
@[simp] theorem State.setPower_reg (x : Power) (y : ObjDef) (j : Nat) : (s.setPower x).reg y j = s.reg y j := reg_congr rfl ..
@[simp] theorem State.setPower_planState (x : Power) (d : Nat) : (s.setPower x).planState d = s.planState d := reg_congr rfl ..
@[simp] theorem State.setPower_plan (x : Power) (d : Nat) : (s.setPower x).plan d = s.plan d := plan_congr rfl ..
@[simp] theorem State.setFlash_regF (x : Flash) (y : ObjDef) (j z : Nat) : (s.setFlash x).regF y j z = s.regF y j z := regF_congr rfl ..
@[simp] theorem State.setFlash_reg (x : Flash) (y : ObjDef) (j : Nat) : (s.setFlash x).reg y j = s.reg y j := reg_congr rfl ..
@[simp] theorem State.setFlash_planState (x : Flash) (d : Nat) : (s.setFlash x).planState d = s.planState d := reg_congr rfl ..
@[simp] theorem State.setFlash_plan (x : Flash) (d : Nat) : (s.setFlash x).plan d = s.plan d := plan_congr rfl ..
@[simp] theorem State.setMaint_regF (x : Maint) (y : ObjDef) (j z : Nat) : (s.setMaint x).regF y j z = s.regF y j z := regF_congr rfl ..
@[simp] theorem State.setMaint_reg (x : Maint) (y : ObjDef) (j : Nat) : (s.setMaint x).reg y j = s.reg y j := reg_congr rfl ..
@[simp] theorem State.setMaint_planState (x : Maint) (d : Nat) : (s.setMaint x).planState d = s.planState d := reg_congr rfl ..
@[simp] theorem State.setMaint_plan (x : Maint) (d : Nat) : (s.setMaint x).plan d = s.plan d := plan_congr rfl ..
@[simp] theorem State.setItems_regF (x : Table Item) (y : ObjDef) (j z : Nat) : (s.setItems x).regF y j z = s.regF y j z := regF_congr rfl ..
@[simp] theorem State.setItems_reg (x : Table Item) (y : ObjDef) (j : Nat) : (s.setItems x).reg y j = s.reg y j := reg_congr rfl ..
@[simp] theorem State.setItems_planState (x : Table Item) (d : Nat) : (s.setItems x).planState d = s.planState d := reg_congr rfl ..
@[simp] theorem State.setItems_plan (x : Table Item) (d : Nat) : (s.setItems x).plan d = s.plan d := plan_congr rfl ..
@[simp] theorem State.setQueues_regF (x : Table Queue) (y : ObjDef) (j z : Nat) : (s.setQueues x).regF y j z = s.regF y j z := regF_congr rfl ..
@[simp] theorem State.setQueues_reg (x : Table Queue) (y : ObjDef) (j : Nat) : (s.setQueues x).reg y j = s.reg y j := reg_congr rfl ..
@[simp] theorem State.setQueues_planState (x : Table Queue) (d : Nat) : (s.setQueues x).planState d = s.planState d := reg_congr rfl ..
@[simp] theorem State.setQueues_plan (x : Table Queue) (d : Nat) : (s.setQueues x).plan d = s.plan d := plan_congr rfl ..
@[simp] theorem State.setFacets_regF (x : Table Facet) (y : ObjDef) (j z : Nat) : (s.setFacets x).regF y j z = s.regF y j z := regF_congr rfl ..
@[simp] theorem State.setFacets_reg (x : Table Facet) (y : ObjDef) (j : Nat) : (s.setFacets x).reg y j = s.reg y j := reg_congr rfl ..
@[simp] theorem State.setFacets_planState (x : Table Facet) (d : Nat) : (s.setFacets x).planState d = s.planState d := reg_congr rfl ..
@[simp] theorem State.setFacets_plan (x : Table Facet) (d : Nat) : (s.setFacets x).plan d = s.plan d := plan_congr rfl ..
@[simp] theorem State.setOutgoing_regF (x : List Outgoing) (y : ObjDef) (j z : Nat) : (s.setOutgoing x).regF y j z = s.regF y j z := regF_congr rfl ..
@[simp] theorem State.setOutgoing_reg (x : List Outgoing) (y : ObjDef) (j : Nat) : (s.setOutgoing x).reg y j = s.reg y j := reg_congr rfl ..
@[simp] theorem State.setOutgoing_planState (x : List Outgoing) (d : Nat) : (s.setOutgoing x).planState d = s.planState d := reg_congr rfl ..
@[simp] theorem State.setOutgoing_plan (x : List Outgoing) (d : Nat) : (s.setOutgoing x).plan d = s.plan d := plan_congr rfl ..
@[simp] theorem State.setMaps_regF (x : Table (List Nat)) (y : ObjDef) (j z : Nat) : (s.setMaps x).regF y j z = s.regF y j z := regF_congr rfl ..
@[simp] theorem State.setMaps_reg (x : Table (List Nat)) (y : ObjDef) (j : Nat) : (s.setMaps x).reg y j = s.reg y j := reg_congr rfl ..
@[simp] theorem State.setMaps_planState (x : Table (List Nat)) (d : Nat) : (s.setMaps x).planState d = s.planState d := reg_congr rfl ..
@[simp] theorem State.setMaps_plan (x : Table (List Nat)) (d : Nat) : (s.setMaps x).plan d = s.plan d := plan_congr rfl ..
@[simp] theorem State.setRegF_plan (o : ObjDef) (sub i v : Nat) (d : Nat) : (s.setRegF o sub i v).plan d = s.plan d := plan_congr rfl ..
@[simp] theorem State.setReg_plan (o : ObjDef) (sub v : Nat) (d : Nat) : (s.setReg o sub v).plan d = s.plan d := plan_congr rfl ..
@[simp] theorem State.setFields_plan (o : ObjDef) (sub : Nat) (l : List Nat) (d : Nat) : (s.setFields o sub l).plan d = s.plan d := plan_congr rfl ..
@[simp] theorem State.clearReg_plan (o : ObjDef) (sub : Nat) (d : Nat) : (s.clearReg o sub).plan d = s.plan d := plan_congr rfl ..
@[simp] theorem State.bumpF_plan (o : ObjDef) (sub i n : Nat) (d : Nat) : (s.bumpF o sub i n).plan d = s.plan d := plan_congr rfl ..
@[simp] theorem State.bump_plan (o : ObjDef) (sub n : Nat) (d : Nat) : (s.bump o sub n).plan d = s.plan d := plan_congr rfl ..
@[simp] theorem State.flashPut_regF (o : ObjDef) (sub : Nat) (l : List Nat) (y : ObjDef) (j z : Nat) : (s.flashPut o sub l).regF y j z = s.regF y j z := regF_congr rfl ..
@[simp] theorem State.flashPut_reg (o : ObjDef) (sub : Nat) (l : List Nat) (y : ObjDef) (j : Nat) : (s.flashPut o sub l).reg y j = s.reg y j := reg_congr rfl ..
@[simp] theorem State.flashPut_planState (o : ObjDef) (sub : Nat) (l : List Nat) (d : Nat) : (s.flashPut o sub l).planState d = s.planState d := reg_congr rfl ..
@[simp] theorem State.flashPut_plan (o : ObjDef) (sub : Nat) (l : List Nat) (d : Nat) : (s.flashPut o sub l).plan d = s.plan d := plan_congr rfl ..
@[simp] theorem State.flashFailed_regF (o : ObjDef) (y : ObjDef) (j z : Nat) : (s.flashFailed o).regF y j z = s.regF y j z := regF_congr rfl ..
@[simp] theorem State.flashFailed_reg (o : ObjDef) (y : ObjDef) (j : Nat) : (s.flashFailed o).reg y j = s.reg y j := reg_congr rfl ..
@[simp] theorem State.flashFailed_planState (o : ObjDef) (d : Nat) : (s.flashFailed o).planState d = s.planState d := reg_congr rfl ..
@[simp] theorem State.flashFailed_plan (o : ObjDef) (d : Nat) : (s.flashFailed o).plan d = s.plan d := plan_congr rfl ..
@[simp] theorem State.took_regF (y : ObjDef) (j z : Nat) : (s.took).regF y j z = s.regF y j z := regF_congr rfl ..
@[simp] theorem State.took_reg (y : ObjDef) (j : Nat) : (s.took).reg y j = s.reg y j := reg_congr rfl ..
@[simp] theorem State.took_planState (d : Nat) : (s.took).planState d = s.planState d := reg_congr rfl ..
@[simp] theorem State.took_plan (d : Nat) : (s.took).plan d = s.plan d := plan_congr rfl ..
@[simp] theorem State.emit_regF (e : Emit) (y : ObjDef) (j z : Nat) : (s.emit e).regF y j z = s.regF y j z := regF_congr rfl ..
@[simp] theorem State.emit_reg (e : Emit) (y : ObjDef) (j : Nat) : (s.emit e).reg y j = s.reg y j := reg_congr rfl ..
@[simp] theorem State.emit_planState (e : Emit) (d : Nat) : (s.emit e).planState d = s.planState d := reg_congr rfl ..
@[simp] theorem State.emit_plan (e : Emit) (d : Nat) : (s.emit e).plan d = s.plan d := plan_congr rfl ..
@[simp] theorem State.answer_regF (who : Who) (o : ObjDef) (sub code : Nat) (y : ObjDef) (j z : Nat) : (s.answer who o sub code).regF y j z = s.regF y j z := regF_congr rfl ..
@[simp] theorem State.answer_reg (who : Who) (o : ObjDef) (sub code : Nat) (y : ObjDef) (j : Nat) : (s.answer who o sub code).reg y j = s.reg y j := reg_congr rfl ..
@[simp] theorem State.answer_planState (who : Who) (o : ObjDef) (sub code : Nat) (d : Nat) : (s.answer who o sub code).planState d = s.planState d := reg_congr rfl ..
@[simp] theorem State.answer_plan (who : Who) (o : ObjDef) (sub code : Nat) (d : Nat) : (s.answer who o sub code).plan d = s.plan d := plan_congr rfl ..
@[simp] theorem State.setPlan_regF (c : Nat) (p : Plan) (y : ObjDef) (j z : Nat) : (s.setPlan c p).regF y j z = s.regF y j z := regF_congr rfl ..
@[simp] theorem State.setPlan_reg (c : Nat) (p : Plan) (y : ObjDef) (j : Nat) : (s.setPlan c p).reg y j = s.reg y j := reg_congr rfl ..
@[simp] theorem State.setPlan_planState (c : Nat) (p : Plan) (d : Nat) : (s.setPlan c p).planState d = s.planState d := reg_congr rfl ..
@[simp] theorem State.setQueue_regF (q : Nat) (x : Queue) (y : ObjDef) (j z : Nat) : (s.setQueue q x).regF y j z = s.regF y j z := regF_congr rfl ..
@[simp] theorem State.setQueue_reg (q : Nat) (x : Queue) (y : ObjDef) (j : Nat) : (s.setQueue q x).reg y j = s.reg y j := reg_congr rfl ..
@[simp] theorem State.setQueue_planState (q : Nat) (x : Queue) (d : Nat) : (s.setQueue q x).planState d = s.planState d := reg_congr rfl ..
@[simp] theorem State.setQueue_plan (q : Nat) (x : Queue) (d : Nat) : (s.setQueue q x).plan d = s.plan d := plan_congr rfl ..
@[simp] theorem State.setItem_regF (n : Nat) (it : Item) (y : ObjDef) (j z : Nat) : (s.setItem n it).regF y j z = s.regF y j z := regF_congr rfl ..
@[simp] theorem State.setItem_reg (n : Nat) (it : Item) (y : ObjDef) (j : Nat) : (s.setItem n it).reg y j = s.reg y j := reg_congr rfl ..
@[simp] theorem State.setItem_planState (n : Nat) (it : Item) (d : Nat) : (s.setItem n it).planState d = s.planState d := reg_congr rfl ..
@[simp] theorem State.setItem_plan (n : Nat) (it : Item) (d : Nat) : (s.setItem n it).plan d = s.plan d := plan_congr rfl ..
@[simp] theorem State.acceptItem_regF (it : Item) (y : ObjDef) (j z : Nat) : (s.acceptItem it).regF y j z = s.regF y j z := regF_congr rfl ..
@[simp] theorem State.acceptItem_reg (it : Item) (y : ObjDef) (j : Nat) : (s.acceptItem it).reg y j = s.reg y j := reg_congr rfl ..
@[simp] theorem State.acceptItem_planState (it : Item) (d : Nat) : (s.acceptItem it).planState d = s.planState d := reg_congr rfl ..
@[simp] theorem State.acceptItem_plan (it : Item) (d : Nat) : (s.acceptItem it).plan d = s.plan d := plan_congr rfl ..
@[simp] theorem State.setCad_regF (x : Cadence) (y : ObjDef) (j z : Nat) : (s.setCad x).regF y j z = s.regF y j z := regF_congr rfl ..
@[simp] theorem State.setCad_reg (x : Cadence) (y : ObjDef) (j : Nat) : (s.setCad x).reg y j = s.reg y j := reg_congr rfl ..
@[simp] theorem State.setCad_planState (x : Cadence) (d : Nat) : (s.setCad x).planState d = s.planState d := reg_congr rfl ..
@[simp] theorem State.setCad_plan (x : Cadence) (d : Nat) : (s.setCad x).plan d = s.plan d := plan_congr rfl ..
@[simp] theorem State.setTime_regF (t : Nat) (y : ObjDef) (j z : Nat) : (s.setTime t).regF y j z = s.regF y j z := regF_congr rfl ..
@[simp] theorem State.setTime_reg (t : Nat) (y : ObjDef) (j : Nat) : (s.setTime t).reg y j = s.reg y j := reg_congr rfl ..
@[simp] theorem State.setTime_planState (t : Nat) (d : Nat) : (s.setTime t).planState d = s.planState d := reg_congr rfl ..
@[simp] theorem State.setTime_plan (t : Nat) (d : Nat) : (s.setTime t).plan d = s.plan d := plan_congr rfl ..
@[simp] theorem State.setFacet_regF (f : Nat) (x : Facet) (y : ObjDef) (j z : Nat) : (s.setFacet f x).regF y j z = s.regF y j z := regF_congr rfl ..
@[simp] theorem State.setFacet_reg (f : Nat) (x : Facet) (y : ObjDef) (j : Nat) : (s.setFacet f x).reg y j = s.reg y j := reg_congr rfl ..
@[simp] theorem State.setFacet_planState (f : Nat) (x : Facet) (d : Nat) : (s.setFacet f x).planState d = s.planState d := reg_congr rfl ..
@[simp] theorem State.setFacet_plan (f : Nat) (x : Facet) (d : Nat) : (s.setFacet f x).plan d = s.plan d := plan_congr rfl ..
@[simp] theorem State.setThread_regF (f t : Nat) (x : Thread) (y : ObjDef) (j z : Nat) : (s.setThread f t x).regF y j z = s.regF y j z := regF_congr rfl ..
@[simp] theorem State.setThread_reg (f t : Nat) (x : Thread) (y : ObjDef) (j : Nat) : (s.setThread f t x).reg y j = s.reg y j := reg_congr rfl ..
@[simp] theorem State.setThread_planState (f t : Nat) (x : Thread) (d : Nat) : (s.setThread f t x).planState d = s.planState d := reg_congr rfl ..
@[simp] theorem State.setThread_plan (f t : Nat) (x : Thread) (d : Nat) : (s.setThread f t x).plan d = s.plan d := plan_congr rfl ..
@[simp] theorem State.setSpoke_regF (p : Nat) (x : Spoke) (y : ObjDef) (j z : Nat) : (s.setSpoke p x).regF y j z = s.regF y j z := regF_congr rfl ..
@[simp] theorem State.setSpoke_reg (p : Nat) (x : Spoke) (y : ObjDef) (j : Nat) : (s.setSpoke p x).reg y j = s.reg y j := reg_congr rfl ..
@[simp] theorem State.setSpoke_planState (p : Nat) (x : Spoke) (d : Nat) : (s.setSpoke p x).planState d = s.planState d := reg_congr rfl ..
@[simp] theorem State.setSpoke_plan (p : Nat) (x : Spoke) (d : Nat) : (s.setSpoke p x).plan d = s.plan d := plan_congr rfl ..
@[simp] theorem State.setPool_regF (c p : Nat) (x : Pool) (y : ObjDef) (j z : Nat) : (s.setPool c p x).regF y j z = s.regF y j z := regF_congr rfl ..
@[simp] theorem State.setPool_reg (c p : Nat) (x : Pool) (y : ObjDef) (j : Nat) : (s.setPool c p x).reg y j = s.reg y j := reg_congr rfl ..
@[simp] theorem State.setPool_planState (c p : Nat) (x : Pool) (d : Nat) : (s.setPool c p x).planState d = s.planState d := reg_congr rfl ..
@[simp] theorem State.setPool_plan (c p : Nat) (x : Pool) (d : Nat) : (s.setPool c p x).plan d = s.plan d := plan_congr rfl ..
@[simp] theorem State.setKeys_regF (c : Nat) (k : ContextKeys) (y : ObjDef) (j z : Nat) : (s.setKeys c k).regF y j z = s.regF y j z := regF_congr rfl ..
@[simp] theorem State.setKeys_reg (c : Nat) (k : ContextKeys) (y : ObjDef) (j : Nat) : (s.setKeys c k).reg y j = s.reg y j := reg_congr rfl ..
@[simp] theorem State.setKeys_planState (c : Nat) (k : ContextKeys) (d : Nat) : (s.setKeys c k).planState d = s.planState d := reg_congr rfl ..
@[simp] theorem State.setKeys_plan (c : Nat) (k : ContextKeys) (d : Nat) : (s.setKeys c k).plan d = s.plan d := plan_congr rfl ..
@[simp] theorem State.setSession_regF (n : Nat) (x : Session) (y : ObjDef) (j z : Nat) : (s.setSession n x).regF y j z = s.regF y j z := regF_congr rfl ..
@[simp] theorem State.setSession_reg (n : Nat) (x : Session) (y : ObjDef) (j : Nat) : (s.setSession n x).reg y j = s.reg y j := reg_congr rfl ..
@[simp] theorem State.setSession_planState (n : Nat) (x : Session) (d : Nat) : (s.setSession n x).planState d = s.planState d := reg_congr rfl ..
@[simp] theorem State.setSession_plan (n : Nat) (x : Session) (d : Nat) : (s.setSession n x).plan d = s.plan d := plan_congr rfl ..
@[simp] theorem State.setRouter_regF (r : Router) (y : ObjDef) (j z : Nat) : (s.setRouter r).regF y j z = s.regF y j z := regF_congr rfl ..
@[simp] theorem State.setRouter_reg (r : Router) (y : ObjDef) (j : Nat) : (s.setRouter r).reg y j = s.reg y j := reg_congr rfl ..
@[simp] theorem State.setRouter_planState (r : Router) (d : Nat) : (s.setRouter r).planState d = s.planState d := reg_congr rfl ..
@[simp] theorem State.setRouter_plan (r : Router) (d : Nat) : (s.setRouter r).plan d = s.plan d := plan_congr rfl ..
@[simp] theorem State.setColl_regF (x : Coll) (y : ObjDef) (j z : Nat) : (s.setColl x).regF y j z = s.regF y j z := regF_congr rfl ..
@[simp] theorem State.setColl_reg (x : Coll) (y : ObjDef) (j : Nat) : (s.setColl x).reg y j = s.reg y j := reg_congr rfl ..
@[simp] theorem State.setColl_planState (x : Coll) (d : Nat) : (s.setColl x).planState d = s.planState d := reg_congr rfl ..
@[simp] theorem State.setColl_plan (x : Coll) (d : Nat) : (s.setColl x).plan d = s.plan d := plan_congr rfl ..
@[simp] theorem State.setFab_regF (f : Fabric) (y : ObjDef) (j z : Nat) : (s.setFab f).regF y j z = s.regF y j z := regF_congr rfl ..
@[simp] theorem State.setFab_reg (f : Fabric) (y : ObjDef) (j : Nat) : (s.setFab f).reg y j = s.reg y j := reg_congr rfl ..
@[simp] theorem State.setFab_planState (f : Fabric) (d : Nat) : (s.setFab f).planState d = s.planState d := reg_congr rfl ..
@[simp] theorem State.setFab_plan (f : Fabric) (d : Nat) : (s.setFab f).plan d = s.plan d := plan_congr rfl ..
@[simp] theorem State.setTimers_regF (t : Table TimerHolder) (y : ObjDef) (j z : Nat) : (s.setTimers t).regF y j z = s.regF y j z := regF_congr rfl ..
@[simp] theorem State.setTimers_reg (t : Table TimerHolder) (y : ObjDef) (j : Nat) : (s.setTimers t).reg y j = s.reg y j := reg_congr rfl ..
@[simp] theorem State.setTimers_planState (t : Table TimerHolder) (d : Nat) : (s.setTimers t).planState d = s.planState d := reg_congr rfl ..
@[simp] theorem State.setTimers_plan (t : Table TimerHolder) (d : Nat) : (s.setTimers t).plan d = s.plan d := plan_congr rfl ..
@[simp] theorem State.stage_regF (o : Outgoing) (y : ObjDef) (j z : Nat) : (s.stage o).regF y j z = s.regF y j z := regF_congr rfl ..
@[simp] theorem State.stage_reg (o : Outgoing) (y : ObjDef) (j : Nat) : (s.stage o).reg y j = s.reg y j := reg_congr rfl ..
@[simp] theorem State.stage_planState (o : Outgoing) (d : Nat) : (s.stage o).planState d = s.planState d := reg_congr rfl ..
@[simp] theorem State.stage_plan (o : Outgoing) (d : Nat) : (s.stage o).plan d = s.plan d := plan_congr rfl ..

end Sys2Proof.Machine
end

