-- ==== Sys2Proof/Laws/Log.lean ====
section
/-! SUPPORT. Sys2Proof/Laws/Log.lean: an event that is logged changes the log, the alarm and trace registers, the pins and what
leaves the device, and nothing else. -/

namespace Sys2Proof.Machine

theorem State.trace_shape (s : State) (e : TraceEntry) : ∃ x0 x1 x2 x3, s.trace e = { s with objs := x0, log := x1, pins := x2, out := x3 } := by
  have q : ∀ (t : State) (x : Pins), ∃ a b c d, t.setPins x = { t with objs := a, log := b, pins := c, out := d } :=
    fun _ _ => ⟨_, _, _, _, rfl⟩
  have k : ∀ (t : State) (x : Pins) (i v : Nat), ∃ a b c d,
      (t.setPins x).setRegF Obj.TRACE_CONFIG 0 i v = { t with objs := a, log := b, pins := c, out := d } :=
    fun _ _ _ _ => ⟨_, _, _, _, rfl⟩
  unfold State.trace
  dsimp only
  repeat' split
  all_goals first | exact q _ _ | exact k _ _ _ _ | exact ⟨_, _, _, _, rfl⟩

@[simp] theorem State.trace_pending (s : State) (e : TraceEntry) : (s.trace e).pending = s.pending := by
  obtain ⟨_, _, _, _, h⟩ := s.trace_shape e; rw [h]
@[simp] theorem State.trace_freeCtr (s : State) (e : TraceEntry) : (s.trace e).freeCtr = s.freeCtr := by
  obtain ⟨_, _, _, _, h⟩ := s.trace_shape e; rw [h]
@[simp] theorem State.trace_cad (s : State) (e : TraceEntry) : (s.trace e).cad = s.cad := by
  obtain ⟨_, _, _, _, h⟩ := s.trace_shape e; rw [h]
@[simp] theorem State.trace_plans (s : State) (e : TraceEntry) : (s.trace e).plans = s.plans := by
  obtain ⟨_, _, _, _, h⟩ := s.trace_shape e; rw [h]
@[simp] theorem State.trace_items (s : State) (e : TraceEntry) : (s.trace e).items = s.items := by
  obtain ⟨_, _, _, _, h⟩ := s.trace_shape e; rw [h]
@[simp] theorem State.trace_nextItem (s : State) (e : TraceEntry) : (s.trace e).nextItem = s.nextItem := by
  obtain ⟨_, _, _, _, h⟩ := s.trace_shape e; rw [h]
@[simp] theorem State.trace_hbm (s : State) (e : TraceEntry) : (s.trace e).hbm = s.hbm := by
  obtain ⟨_, _, _, _, h⟩ := s.trace_shape e; rw [h]
@[simp] theorem State.trace_fm (s : State) (e : TraceEntry) : (s.trace e).fm = s.fm := by
  obtain ⟨_, _, _, _, h⟩ := s.trace_shape e; rw [h]
@[simp] theorem State.trace_queues (s : State) (e : TraceEntry) : (s.trace e).queues = s.queues := by
  obtain ⟨_, _, _, _, h⟩ := s.trace_shape e; rw [h]
@[simp] theorem State.trace_summary (s : State) (e : TraceEntry) : (s.trace e).summary = s.summary := by
  obtain ⟨_, _, _, _, h⟩ := s.trace_shape e; rw [h]
@[simp] theorem State.trace_pools (s : State) (e : TraceEntry) : (s.trace e).pools = s.pools := by
  obtain ⟨_, _, _, _, h⟩ := s.trace_shape e; rw [h]
@[simp] theorem State.trace_rcv (s : State) (e : TraceEntry) : (s.trace e).rcv = s.rcv := by
  obtain ⟨_, _, _, _, h⟩ := s.trace_shape e; rw [h]
@[simp] theorem State.trace_sec (s : State) (e : TraceEntry) : (s.trace e).sec = s.sec := by
  obtain ⟨_, _, _, _, h⟩ := s.trace_shape e; rw [h]
@[simp] theorem State.trace_dict (s : State) (e : TraceEntry) : (s.trace e).dict = s.dict := by
  obtain ⟨_, _, _, _, h⟩ := s.trace_shape e; rw [h]
@[simp] theorem State.trace_power (s : State) (e : TraceEntry) : (s.trace e).power = s.power := by
  obtain ⟨_, _, _, _, h⟩ := s.trace_shape e; rw [h]
@[simp] theorem State.trace_flash (s : State) (e : TraceEntry) : (s.trace e).flash = s.flash := by
  obtain ⟨_, _, _, _, h⟩ := s.trace_shape e; rw [h]
@[simp] theorem State.trace_maint (s : State) (e : TraceEntry) : (s.trace e).maint = s.maint := by
  obtain ⟨_, _, _, _, h⟩ := s.trace_shape e; rw [h]
@[simp] theorem State.trace_waitBeat (s : State) (e : TraceEntry) : (s.trace e).waitBeat = s.waitBeat := by
  obtain ⟨_, _, _, _, h⟩ := s.trace_shape e; rw [h]
@[simp] theorem State.trace_waitStep (s : State) (e : TraceEntry) : (s.trace e).waitStep = s.waitStep := by
  obtain ⟨_, _, _, _, h⟩ := s.trace_shape e; rw [h]
@[simp] theorem State.trace_waitReset (s : State) (e : TraceEntry) : (s.trace e).waitReset = s.waitReset := by
  obtain ⟨_, _, _, _, h⟩ := s.trace_shape e; rw [h]
@[simp] theorem State.trace_facets (s : State) (e : TraceEntry) : (s.trace e).facets = s.facets := by
  obtain ⟨_, _, _, _, h⟩ := s.trace_shape e; rw [h]
@[simp] theorem State.trace_spokes (s : State) (e : TraceEntry) : (s.trace e).spokes = s.spokes := by
  obtain ⟨_, _, _, _, h⟩ := s.trace_shape e; rw [h]
@[simp] theorem State.trace_hup (s : State) (e : TraceEntry) : (s.trace e).hup = s.hup := by
  obtain ⟨_, _, _, _, h⟩ := s.trace_shape e; rw [h]
@[simp] theorem State.trace_fab (s : State) (e : TraceEntry) : (s.trace e).fab = s.fab := by
  obtain ⟨_, _, _, _, h⟩ := s.trace_shape e; rw [h]
@[simp] theorem State.trace_maps (s : State) (e : TraceEntry) : (s.trace e).maps = s.maps := by
  obtain ⟨_, _, _, _, h⟩ := s.trace_shape e; rw [h]
@[simp] theorem State.trace_router (s : State) (e : TraceEntry) : (s.trace e).router = s.router := by
  obtain ⟨_, _, _, _, h⟩ := s.trace_shape e; rw [h]
@[simp] theorem State.trace_outgoing (s : State) (e : TraceEntry) : (s.trace e).outgoing = s.outgoing := by
  obtain ⟨_, _, _, _, h⟩ := s.trace_shape e; rw [h]
@[simp] theorem State.trace_coll (s : State) (e : TraceEntry) : (s.trace e).coll = s.coll := by
  obtain ⟨_, _, _, _, h⟩ := s.trace_shape e; rw [h]
@[simp] theorem State.trace_slotSerial (s : State) (e : TraceEntry) : (s.trace e).slotSerial = s.slotSerial := by
  obtain ⟨_, _, _, _, h⟩ := s.trace_shape e; rw [h]
@[simp] theorem State.trace_plan (s : State) (e : TraceEntry) (d : Nat) : (s.trace e).plan d = s.plan d := plan_congr (State.trace_plans ..) d

theorem State.freezeTrace_shape (s : State) (k : Nat) : ∃ x0 x1 x2 x3, s.freezeTrace k = { s with objs := x0, log := x1, pins := x2, out := x3 } := by
  have q : ∀ (t : State) (x : Pins), ∃ a b c d, t.setPins x = { t with objs := a, log := b, pins := c, out := d } :=
    fun _ _ => ⟨_, _, _, _, rfl⟩
  have k : ∀ (t : State) (x : Pins) (i v : Nat), ∃ a b c d,
      (t.setPins x).setRegF Obj.TRACE_CONFIG 0 i v = { t with objs := a, log := b, pins := c, out := d } :=
    fun _ _ _ _ => ⟨_, _, _, _, rfl⟩
  unfold State.freezeTrace
  dsimp only
  repeat' split
  all_goals first | exact q _ _ | exact k _ _ _ _ | exact ⟨_, _, _, _, rfl⟩

@[simp] theorem State.freezeTrace_pending (s : State) (k : Nat) : (s.freezeTrace k).pending = s.pending := by
  obtain ⟨_, _, _, _, h⟩ := s.freezeTrace_shape k; rw [h]
@[simp] theorem State.freezeTrace_freeCtr (s : State) (k : Nat) : (s.freezeTrace k).freeCtr = s.freeCtr := by
  obtain ⟨_, _, _, _, h⟩ := s.freezeTrace_shape k; rw [h]
@[simp] theorem State.freezeTrace_cad (s : State) (k : Nat) : (s.freezeTrace k).cad = s.cad := by
  obtain ⟨_, _, _, _, h⟩ := s.freezeTrace_shape k; rw [h]
@[simp] theorem State.freezeTrace_plans (s : State) (k : Nat) : (s.freezeTrace k).plans = s.plans := by
  obtain ⟨_, _, _, _, h⟩ := s.freezeTrace_shape k; rw [h]
@[simp] theorem State.freezeTrace_items (s : State) (k : Nat) : (s.freezeTrace k).items = s.items := by
  obtain ⟨_, _, _, _, h⟩ := s.freezeTrace_shape k; rw [h]
@[simp] theorem State.freezeTrace_nextItem (s : State) (k : Nat) : (s.freezeTrace k).nextItem = s.nextItem := by
  obtain ⟨_, _, _, _, h⟩ := s.freezeTrace_shape k; rw [h]
@[simp] theorem State.freezeTrace_hbm (s : State) (k : Nat) : (s.freezeTrace k).hbm = s.hbm := by
  obtain ⟨_, _, _, _, h⟩ := s.freezeTrace_shape k; rw [h]
@[simp] theorem State.freezeTrace_fm (s : State) (k : Nat) : (s.freezeTrace k).fm = s.fm := by
  obtain ⟨_, _, _, _, h⟩ := s.freezeTrace_shape k; rw [h]
@[simp] theorem State.freezeTrace_queues (s : State) (k : Nat) : (s.freezeTrace k).queues = s.queues := by
  obtain ⟨_, _, _, _, h⟩ := s.freezeTrace_shape k; rw [h]
@[simp] theorem State.freezeTrace_summary (s : State) (k : Nat) : (s.freezeTrace k).summary = s.summary := by
  obtain ⟨_, _, _, _, h⟩ := s.freezeTrace_shape k; rw [h]
@[simp] theorem State.freezeTrace_pools (s : State) (k : Nat) : (s.freezeTrace k).pools = s.pools := by
  obtain ⟨_, _, _, _, h⟩ := s.freezeTrace_shape k; rw [h]
@[simp] theorem State.freezeTrace_rcv (s : State) (k : Nat) : (s.freezeTrace k).rcv = s.rcv := by
  obtain ⟨_, _, _, _, h⟩ := s.freezeTrace_shape k; rw [h]
@[simp] theorem State.freezeTrace_sec (s : State) (k : Nat) : (s.freezeTrace k).sec = s.sec := by
  obtain ⟨_, _, _, _, h⟩ := s.freezeTrace_shape k; rw [h]
@[simp] theorem State.freezeTrace_dict (s : State) (k : Nat) : (s.freezeTrace k).dict = s.dict := by
  obtain ⟨_, _, _, _, h⟩ := s.freezeTrace_shape k; rw [h]
@[simp] theorem State.freezeTrace_power (s : State) (k : Nat) : (s.freezeTrace k).power = s.power := by
  obtain ⟨_, _, _, _, h⟩ := s.freezeTrace_shape k; rw [h]
@[simp] theorem State.freezeTrace_flash (s : State) (k : Nat) : (s.freezeTrace k).flash = s.flash := by
  obtain ⟨_, _, _, _, h⟩ := s.freezeTrace_shape k; rw [h]
@[simp] theorem State.freezeTrace_maint (s : State) (k : Nat) : (s.freezeTrace k).maint = s.maint := by
  obtain ⟨_, _, _, _, h⟩ := s.freezeTrace_shape k; rw [h]
@[simp] theorem State.freezeTrace_waitBeat (s : State) (k : Nat) : (s.freezeTrace k).waitBeat = s.waitBeat := by
  obtain ⟨_, _, _, _, h⟩ := s.freezeTrace_shape k; rw [h]
@[simp] theorem State.freezeTrace_waitStep (s : State) (k : Nat) : (s.freezeTrace k).waitStep = s.waitStep := by
  obtain ⟨_, _, _, _, h⟩ := s.freezeTrace_shape k; rw [h]
@[simp] theorem State.freezeTrace_waitReset (s : State) (k : Nat) : (s.freezeTrace k).waitReset = s.waitReset := by
  obtain ⟨_, _, _, _, h⟩ := s.freezeTrace_shape k; rw [h]
@[simp] theorem State.freezeTrace_facets (s : State) (k : Nat) : (s.freezeTrace k).facets = s.facets := by
  obtain ⟨_, _, _, _, h⟩ := s.freezeTrace_shape k; rw [h]
@[simp] theorem State.freezeTrace_spokes (s : State) (k : Nat) : (s.freezeTrace k).spokes = s.spokes := by
  obtain ⟨_, _, _, _, h⟩ := s.freezeTrace_shape k; rw [h]
@[simp] theorem State.freezeTrace_hup (s : State) (k : Nat) : (s.freezeTrace k).hup = s.hup := by
  obtain ⟨_, _, _, _, h⟩ := s.freezeTrace_shape k; rw [h]
@[simp] theorem State.freezeTrace_fab (s : State) (k : Nat) : (s.freezeTrace k).fab = s.fab := by
  obtain ⟨_, _, _, _, h⟩ := s.freezeTrace_shape k; rw [h]
@[simp] theorem State.freezeTrace_maps (s : State) (k : Nat) : (s.freezeTrace k).maps = s.maps := by
  obtain ⟨_, _, _, _, h⟩ := s.freezeTrace_shape k; rw [h]
@[simp] theorem State.freezeTrace_router (s : State) (k : Nat) : (s.freezeTrace k).router = s.router := by
  obtain ⟨_, _, _, _, h⟩ := s.freezeTrace_shape k; rw [h]
@[simp] theorem State.freezeTrace_outgoing (s : State) (k : Nat) : (s.freezeTrace k).outgoing = s.outgoing := by
  obtain ⟨_, _, _, _, h⟩ := s.freezeTrace_shape k; rw [h]
@[simp] theorem State.freezeTrace_coll (s : State) (k : Nat) : (s.freezeTrace k).coll = s.coll := by
  obtain ⟨_, _, _, _, h⟩ := s.freezeTrace_shape k; rw [h]
@[simp] theorem State.freezeTrace_slotSerial (s : State) (k : Nat) : (s.freezeTrace k).slotSerial = s.slotSerial := by
  obtain ⟨_, _, _, _, h⟩ := s.freezeTrace_shape k; rw [h]
@[simp] theorem State.freezeTrace_plan (s : State) (k : Nat) (d : Nat) : (s.freezeTrace k).plan d = s.plan d := plan_congr (State.freezeTrace_plans ..) d

theorem State.alarm_shape (s : State) (r : ErrRec) : ∃ x0 x1 x2 x3, s.alarm r = { s with objs := x0, log := x1, pins := x2, out := x3 } := by
  have q : ∀ (t : State) (x : Pins), ∃ a b c d, t.setPins x = { t with objs := a, log := b, pins := c, out := d } :=
    fun _ _ => ⟨_, _, _, _, rfl⟩
  have k : ∀ (t : State) (x : Pins) (i v : Nat), ∃ a b c d,
      (t.setPins x).setRegF Obj.TRACE_CONFIG 0 i v = { t with objs := a, log := b, pins := c, out := d } :=
    fun _ _ _ _ => ⟨_, _, _, _, rfl⟩
  unfold State.alarm
  dsimp only
  repeat' split
  all_goals first | exact q _ _ | exact k _ _ _ _ | exact ⟨_, _, _, _, rfl⟩

@[simp] theorem State.alarm_pending (s : State) (r : ErrRec) : (s.alarm r).pending = s.pending := by
  obtain ⟨_, _, _, _, h⟩ := s.alarm_shape r; rw [h]
@[simp] theorem State.alarm_freeCtr (s : State) (r : ErrRec) : (s.alarm r).freeCtr = s.freeCtr := by
  obtain ⟨_, _, _, _, h⟩ := s.alarm_shape r; rw [h]
@[simp] theorem State.alarm_cad (s : State) (r : ErrRec) : (s.alarm r).cad = s.cad := by
  obtain ⟨_, _, _, _, h⟩ := s.alarm_shape r; rw [h]
@[simp] theorem State.alarm_plans (s : State) (r : ErrRec) : (s.alarm r).plans = s.plans := by
  obtain ⟨_, _, _, _, h⟩ := s.alarm_shape r; rw [h]
@[simp] theorem State.alarm_items (s : State) (r : ErrRec) : (s.alarm r).items = s.items := by
  obtain ⟨_, _, _, _, h⟩ := s.alarm_shape r; rw [h]
@[simp] theorem State.alarm_nextItem (s : State) (r : ErrRec) : (s.alarm r).nextItem = s.nextItem := by
  obtain ⟨_, _, _, _, h⟩ := s.alarm_shape r; rw [h]
@[simp] theorem State.alarm_hbm (s : State) (r : ErrRec) : (s.alarm r).hbm = s.hbm := by
  obtain ⟨_, _, _, _, h⟩ := s.alarm_shape r; rw [h]
@[simp] theorem State.alarm_fm (s : State) (r : ErrRec) : (s.alarm r).fm = s.fm := by
  obtain ⟨_, _, _, _, h⟩ := s.alarm_shape r; rw [h]
@[simp] theorem State.alarm_queues (s : State) (r : ErrRec) : (s.alarm r).queues = s.queues := by
  obtain ⟨_, _, _, _, h⟩ := s.alarm_shape r; rw [h]
@[simp] theorem State.alarm_summary (s : State) (r : ErrRec) : (s.alarm r).summary = s.summary := by
  obtain ⟨_, _, _, _, h⟩ := s.alarm_shape r; rw [h]
@[simp] theorem State.alarm_pools (s : State) (r : ErrRec) : (s.alarm r).pools = s.pools := by
  obtain ⟨_, _, _, _, h⟩ := s.alarm_shape r; rw [h]
@[simp] theorem State.alarm_rcv (s : State) (r : ErrRec) : (s.alarm r).rcv = s.rcv := by
  obtain ⟨_, _, _, _, h⟩ := s.alarm_shape r; rw [h]
@[simp] theorem State.alarm_sec (s : State) (r : ErrRec) : (s.alarm r).sec = s.sec := by
  obtain ⟨_, _, _, _, h⟩ := s.alarm_shape r; rw [h]
@[simp] theorem State.alarm_dict (s : State) (r : ErrRec) : (s.alarm r).dict = s.dict := by
  obtain ⟨_, _, _, _, h⟩ := s.alarm_shape r; rw [h]
@[simp] theorem State.alarm_power (s : State) (r : ErrRec) : (s.alarm r).power = s.power := by
  obtain ⟨_, _, _, _, h⟩ := s.alarm_shape r; rw [h]
@[simp] theorem State.alarm_flash (s : State) (r : ErrRec) : (s.alarm r).flash = s.flash := by
  obtain ⟨_, _, _, _, h⟩ := s.alarm_shape r; rw [h]
@[simp] theorem State.alarm_maint (s : State) (r : ErrRec) : (s.alarm r).maint = s.maint := by
  obtain ⟨_, _, _, _, h⟩ := s.alarm_shape r; rw [h]
@[simp] theorem State.alarm_waitBeat (s : State) (r : ErrRec) : (s.alarm r).waitBeat = s.waitBeat := by
  obtain ⟨_, _, _, _, h⟩ := s.alarm_shape r; rw [h]
@[simp] theorem State.alarm_waitStep (s : State) (r : ErrRec) : (s.alarm r).waitStep = s.waitStep := by
  obtain ⟨_, _, _, _, h⟩ := s.alarm_shape r; rw [h]
@[simp] theorem State.alarm_waitReset (s : State) (r : ErrRec) : (s.alarm r).waitReset = s.waitReset := by
  obtain ⟨_, _, _, _, h⟩ := s.alarm_shape r; rw [h]
@[simp] theorem State.alarm_facets (s : State) (r : ErrRec) : (s.alarm r).facets = s.facets := by
  obtain ⟨_, _, _, _, h⟩ := s.alarm_shape r; rw [h]
@[simp] theorem State.alarm_spokes (s : State) (r : ErrRec) : (s.alarm r).spokes = s.spokes := by
  obtain ⟨_, _, _, _, h⟩ := s.alarm_shape r; rw [h]
@[simp] theorem State.alarm_hup (s : State) (r : ErrRec) : (s.alarm r).hup = s.hup := by
  obtain ⟨_, _, _, _, h⟩ := s.alarm_shape r; rw [h]
@[simp] theorem State.alarm_fab (s : State) (r : ErrRec) : (s.alarm r).fab = s.fab := by
  obtain ⟨_, _, _, _, h⟩ := s.alarm_shape r; rw [h]
@[simp] theorem State.alarm_maps (s : State) (r : ErrRec) : (s.alarm r).maps = s.maps := by
  obtain ⟨_, _, _, _, h⟩ := s.alarm_shape r; rw [h]
@[simp] theorem State.alarm_router (s : State) (r : ErrRec) : (s.alarm r).router = s.router := by
  obtain ⟨_, _, _, _, h⟩ := s.alarm_shape r; rw [h]
@[simp] theorem State.alarm_outgoing (s : State) (r : ErrRec) : (s.alarm r).outgoing = s.outgoing := by
  obtain ⟨_, _, _, _, h⟩ := s.alarm_shape r; rw [h]
@[simp] theorem State.alarm_coll (s : State) (r : ErrRec) : (s.alarm r).coll = s.coll := by
  obtain ⟨_, _, _, _, h⟩ := s.alarm_shape r; rw [h]
@[simp] theorem State.alarm_slotSerial (s : State) (r : ErrRec) : (s.alarm r).slotSerial = s.slotSerial := by
  obtain ⟨_, _, _, _, h⟩ := s.alarm_shape r; rw [h]
@[simp] theorem State.alarm_plan (s : State) (r : ErrRec) (d : Nat) : (s.alarm r).plan d = s.plan d := plan_congr (State.alarm_plans ..) d

theorem State.writeRecord_shape (s : State) (r : ErrRec) : ∃ x0 x1 x2 x3, s.writeRecord r = { s with objs := x0, log := x1, pins := x2, out := x3 } := by
  obtain ⟨_, _, _, _, h1⟩ := (s.setLog (s.log.add r)).alarm_shape r
  obtain ⟨_, _, _, _, h2⟩ := ((s.setLog (s.log.add r)).alarm r).trace_shape (.error r.code r.seq)
  obtain ⟨_, _, _, _, h3⟩ := (((s.setLog (s.log.add r)).alarm r).trace (.error r.code r.seq)).freezeTrace_shape 0
  unfold State.writeRecord
  dsimp only
  split
  · rw [h3, h2, h1]; exact ⟨_, _, _, _, rfl⟩
  · rw [h2, h1]; exact ⟨_, _, _, _, rfl⟩

@[simp] theorem State.writeRecord_pending (s : State) (r : ErrRec) : (s.writeRecord r).pending = s.pending := by
  obtain ⟨_, _, _, _, h⟩ := s.writeRecord_shape r; rw [h]
@[simp] theorem State.writeRecord_freeCtr (s : State) (r : ErrRec) : (s.writeRecord r).freeCtr = s.freeCtr := by
  obtain ⟨_, _, _, _, h⟩ := s.writeRecord_shape r; rw [h]
@[simp] theorem State.writeRecord_cad (s : State) (r : ErrRec) : (s.writeRecord r).cad = s.cad := by
  obtain ⟨_, _, _, _, h⟩ := s.writeRecord_shape r; rw [h]
@[simp] theorem State.writeRecord_plans (s : State) (r : ErrRec) : (s.writeRecord r).plans = s.plans := by
  obtain ⟨_, _, _, _, h⟩ := s.writeRecord_shape r; rw [h]
@[simp] theorem State.writeRecord_items (s : State) (r : ErrRec) : (s.writeRecord r).items = s.items := by
  obtain ⟨_, _, _, _, h⟩ := s.writeRecord_shape r; rw [h]
@[simp] theorem State.writeRecord_nextItem (s : State) (r : ErrRec) : (s.writeRecord r).nextItem = s.nextItem := by
  obtain ⟨_, _, _, _, h⟩ := s.writeRecord_shape r; rw [h]
@[simp] theorem State.writeRecord_hbm (s : State) (r : ErrRec) : (s.writeRecord r).hbm = s.hbm := by
  obtain ⟨_, _, _, _, h⟩ := s.writeRecord_shape r; rw [h]
@[simp] theorem State.writeRecord_fm (s : State) (r : ErrRec) : (s.writeRecord r).fm = s.fm := by
  obtain ⟨_, _, _, _, h⟩ := s.writeRecord_shape r; rw [h]
@[simp] theorem State.writeRecord_queues (s : State) (r : ErrRec) : (s.writeRecord r).queues = s.queues := by
  obtain ⟨_, _, _, _, h⟩ := s.writeRecord_shape r; rw [h]
@[simp] theorem State.writeRecord_summary (s : State) (r : ErrRec) : (s.writeRecord r).summary = s.summary := by
  obtain ⟨_, _, _, _, h⟩ := s.writeRecord_shape r; rw [h]
@[simp] theorem State.writeRecord_pools (s : State) (r : ErrRec) : (s.writeRecord r).pools = s.pools := by
  obtain ⟨_, _, _, _, h⟩ := s.writeRecord_shape r; rw [h]
@[simp] theorem State.writeRecord_rcv (s : State) (r : ErrRec) : (s.writeRecord r).rcv = s.rcv := by
  obtain ⟨_, _, _, _, h⟩ := s.writeRecord_shape r; rw [h]
@[simp] theorem State.writeRecord_sec (s : State) (r : ErrRec) : (s.writeRecord r).sec = s.sec := by
  obtain ⟨_, _, _, _, h⟩ := s.writeRecord_shape r; rw [h]
@[simp] theorem State.writeRecord_dict (s : State) (r : ErrRec) : (s.writeRecord r).dict = s.dict := by
  obtain ⟨_, _, _, _, h⟩ := s.writeRecord_shape r; rw [h]
@[simp] theorem State.writeRecord_power (s : State) (r : ErrRec) : (s.writeRecord r).power = s.power := by
  obtain ⟨_, _, _, _, h⟩ := s.writeRecord_shape r; rw [h]
@[simp] theorem State.writeRecord_flash (s : State) (r : ErrRec) : (s.writeRecord r).flash = s.flash := by
  obtain ⟨_, _, _, _, h⟩ := s.writeRecord_shape r; rw [h]
@[simp] theorem State.writeRecord_maint (s : State) (r : ErrRec) : (s.writeRecord r).maint = s.maint := by
  obtain ⟨_, _, _, _, h⟩ := s.writeRecord_shape r; rw [h]
@[simp] theorem State.writeRecord_waitBeat (s : State) (r : ErrRec) : (s.writeRecord r).waitBeat = s.waitBeat := by
  obtain ⟨_, _, _, _, h⟩ := s.writeRecord_shape r; rw [h]
@[simp] theorem State.writeRecord_waitStep (s : State) (r : ErrRec) : (s.writeRecord r).waitStep = s.waitStep := by
  obtain ⟨_, _, _, _, h⟩ := s.writeRecord_shape r; rw [h]
@[simp] theorem State.writeRecord_waitReset (s : State) (r : ErrRec) : (s.writeRecord r).waitReset = s.waitReset := by
  obtain ⟨_, _, _, _, h⟩ := s.writeRecord_shape r; rw [h]
@[simp] theorem State.writeRecord_facets (s : State) (r : ErrRec) : (s.writeRecord r).facets = s.facets := by
  obtain ⟨_, _, _, _, h⟩ := s.writeRecord_shape r; rw [h]
@[simp] theorem State.writeRecord_spokes (s : State) (r : ErrRec) : (s.writeRecord r).spokes = s.spokes := by
  obtain ⟨_, _, _, _, h⟩ := s.writeRecord_shape r; rw [h]
@[simp] theorem State.writeRecord_hup (s : State) (r : ErrRec) : (s.writeRecord r).hup = s.hup := by
  obtain ⟨_, _, _, _, h⟩ := s.writeRecord_shape r; rw [h]
@[simp] theorem State.writeRecord_fab (s : State) (r : ErrRec) : (s.writeRecord r).fab = s.fab := by
  obtain ⟨_, _, _, _, h⟩ := s.writeRecord_shape r; rw [h]
@[simp] theorem State.writeRecord_maps (s : State) (r : ErrRec) : (s.writeRecord r).maps = s.maps := by
  obtain ⟨_, _, _, _, h⟩ := s.writeRecord_shape r; rw [h]
@[simp] theorem State.writeRecord_router (s : State) (r : ErrRec) : (s.writeRecord r).router = s.router := by
  obtain ⟨_, _, _, _, h⟩ := s.writeRecord_shape r; rw [h]
@[simp] theorem State.writeRecord_outgoing (s : State) (r : ErrRec) : (s.writeRecord r).outgoing = s.outgoing := by
  obtain ⟨_, _, _, _, h⟩ := s.writeRecord_shape r; rw [h]
@[simp] theorem State.writeRecord_coll (s : State) (r : ErrRec) : (s.writeRecord r).coll = s.coll := by
  obtain ⟨_, _, _, _, h⟩ := s.writeRecord_shape r; rw [h]
@[simp] theorem State.writeRecord_slotSerial (s : State) (r : ErrRec) : (s.writeRecord r).slotSerial = s.slotSerial := by
  obtain ⟨_, _, _, _, h⟩ := s.writeRecord_shape r; rw [h]
@[simp] theorem State.writeRecord_plan (s : State) (r : ErrRec) (d : Nat) : (s.writeRecord r).plan d = s.plan d := plan_congr (State.writeRecord_plans ..) d

theorem State.log!_shape (s : State) (e : Event) : ∃ x0 x1 x2 x3, s.log! e = { s with objs := x0, log := x1, pins := x2, out := x3 } := by
  unfold State.log!
  dsimp only
  repeat' split
  all_goals first
    | exact ⟨_, _, _, _, rfl⟩
    | exact State.writeRecord_shape s _
    | exact (State.writeRecord_shape _ _).elim fun _ h => h.elim fun _ h => h.elim fun _ h => h.elim fun _ h => ⟨_, _, _, _, h.trans rfl⟩

@[simp] theorem State.log!_pending (s : State) (e : Event) : (s.log! e).pending = s.pending := by
  obtain ⟨_, _, _, _, h⟩ := s.log!_shape e; rw [h]
@[simp] theorem State.log!_freeCtr (s : State) (e : Event) : (s.log! e).freeCtr = s.freeCtr := by
  obtain ⟨_, _, _, _, h⟩ := s.log!_shape e; rw [h]
@[simp] theorem State.log!_cad (s : State) (e : Event) : (s.log! e).cad = s.cad := by
  obtain ⟨_, _, _, _, h⟩ := s.log!_shape e; rw [h]
@[simp] theorem State.log!_plans (s : State) (e : Event) : (s.log! e).plans = s.plans := by
  obtain ⟨_, _, _, _, h⟩ := s.log!_shape e; rw [h]
@[simp] theorem State.log!_items (s : State) (e : Event) : (s.log! e).items = s.items := by
  obtain ⟨_, _, _, _, h⟩ := s.log!_shape e; rw [h]
@[simp] theorem State.log!_nextItem (s : State) (e : Event) : (s.log! e).nextItem = s.nextItem := by
  obtain ⟨_, _, _, _, h⟩ := s.log!_shape e; rw [h]
@[simp] theorem State.log!_hbm (s : State) (e : Event) : (s.log! e).hbm = s.hbm := by
  obtain ⟨_, _, _, _, h⟩ := s.log!_shape e; rw [h]
@[simp] theorem State.log!_fm (s : State) (e : Event) : (s.log! e).fm = s.fm := by
  obtain ⟨_, _, _, _, h⟩ := s.log!_shape e; rw [h]
@[simp] theorem State.log!_queues (s : State) (e : Event) : (s.log! e).queues = s.queues := by
  obtain ⟨_, _, _, _, h⟩ := s.log!_shape e; rw [h]
@[simp] theorem State.log!_summary (s : State) (e : Event) : (s.log! e).summary = s.summary := by
  obtain ⟨_, _, _, _, h⟩ := s.log!_shape e; rw [h]
@[simp] theorem State.log!_pools (s : State) (e : Event) : (s.log! e).pools = s.pools := by
  obtain ⟨_, _, _, _, h⟩ := s.log!_shape e; rw [h]
@[simp] theorem State.log!_rcv (s : State) (e : Event) : (s.log! e).rcv = s.rcv := by
  obtain ⟨_, _, _, _, h⟩ := s.log!_shape e; rw [h]
@[simp] theorem State.log!_sec (s : State) (e : Event) : (s.log! e).sec = s.sec := by
  obtain ⟨_, _, _, _, h⟩ := s.log!_shape e; rw [h]
@[simp] theorem State.log!_dict (s : State) (e : Event) : (s.log! e).dict = s.dict := by
  obtain ⟨_, _, _, _, h⟩ := s.log!_shape e; rw [h]
@[simp] theorem State.log!_power (s : State) (e : Event) : (s.log! e).power = s.power := by
  obtain ⟨_, _, _, _, h⟩ := s.log!_shape e; rw [h]
@[simp] theorem State.log!_flash (s : State) (e : Event) : (s.log! e).flash = s.flash := by
  obtain ⟨_, _, _, _, h⟩ := s.log!_shape e; rw [h]
@[simp] theorem State.log!_maint (s : State) (e : Event) : (s.log! e).maint = s.maint := by
  obtain ⟨_, _, _, _, h⟩ := s.log!_shape e; rw [h]
@[simp] theorem State.log!_waitBeat (s : State) (e : Event) : (s.log! e).waitBeat = s.waitBeat := by
  obtain ⟨_, _, _, _, h⟩ := s.log!_shape e; rw [h]
@[simp] theorem State.log!_waitStep (s : State) (e : Event) : (s.log! e).waitStep = s.waitStep := by
  obtain ⟨_, _, _, _, h⟩ := s.log!_shape e; rw [h]
@[simp] theorem State.log!_waitReset (s : State) (e : Event) : (s.log! e).waitReset = s.waitReset := by
  obtain ⟨_, _, _, _, h⟩ := s.log!_shape e; rw [h]
@[simp] theorem State.log!_facets (s : State) (e : Event) : (s.log! e).facets = s.facets := by
  obtain ⟨_, _, _, _, h⟩ := s.log!_shape e; rw [h]
@[simp] theorem State.log!_spokes (s : State) (e : Event) : (s.log! e).spokes = s.spokes := by
  obtain ⟨_, _, _, _, h⟩ := s.log!_shape e; rw [h]
@[simp] theorem State.log!_hup (s : State) (e : Event) : (s.log! e).hup = s.hup := by
  obtain ⟨_, _, _, _, h⟩ := s.log!_shape e; rw [h]
@[simp] theorem State.log!_fab (s : State) (e : Event) : (s.log! e).fab = s.fab := by
  obtain ⟨_, _, _, _, h⟩ := s.log!_shape e; rw [h]
@[simp] theorem State.log!_maps (s : State) (e : Event) : (s.log! e).maps = s.maps := by
  obtain ⟨_, _, _, _, h⟩ := s.log!_shape e; rw [h]
@[simp] theorem State.log!_router (s : State) (e : Event) : (s.log! e).router = s.router := by
  obtain ⟨_, _, _, _, h⟩ := s.log!_shape e; rw [h]
@[simp] theorem State.log!_outgoing (s : State) (e : Event) : (s.log! e).outgoing = s.outgoing := by
  obtain ⟨_, _, _, _, h⟩ := s.log!_shape e; rw [h]
@[simp] theorem State.log!_coll (s : State) (e : Event) : (s.log! e).coll = s.coll := by
  obtain ⟨_, _, _, _, h⟩ := s.log!_shape e; rw [h]
@[simp] theorem State.log!_slotSerial (s : State) (e : Event) : (s.log! e).slotSerial = s.slotSerial := by
  obtain ⟨_, _, _, _, h⟩ := s.log!_shape e; rw [h]
@[simp] theorem State.log!_plan (s : State) (e : Event) (d : Nat) : (s.log! e).plan d = s.plan d := plan_congr (State.log!_plans ..) d

/-- The registers that an event may change: the alarm status and the state of the trace buffer. -/
def alarmKeys : List Nat := [Obj.ALARM_STATUS.key 0, Obj.TRACE_CONFIG.key 0]

theorem regF_trace (s : State) (e : TraceEntry) (p : ObjDef) (sub i : Nat) (h : p.key sub ≠ Obj.TRACE_CONFIG.key 0) :
    (s.trace e).regF p sub i = s.regF p sub i := by
  have k : ∀ (t : State) (j v : Nat), (t.setRegF Obj.TRACE_CONFIG 0 j v).regF p sub i = t.regF p sub i :=
    fun t j v => regF_setRegF_other _ _ _ _ _ _ _ _ (.inl h)
  have q : ∀ (t : State) (x : Pins), (t.setPins x).regF p sub i = t.regF p sub i := fun _ _ => regF_congr rfl ..
  unfold State.trace
  dsimp only
  repeat' split
  all_goals simp only [k, q]

theorem regF_freezeTrace (s : State) (k : Nat) (p : ObjDef) (sub i : Nat) (h : p.key sub ≠ Obj.TRACE_CONFIG.key 0) :
    (s.freezeTrace k).regF p sub i = s.regF p sub i := by
  have k : ∀ (t : State) (j v : Nat), (t.setRegF Obj.TRACE_CONFIG 0 j v).regF p sub i = t.regF p sub i :=
    fun t j v => regF_setRegF_other _ _ _ _ _ _ _ _ (.inl h)
  have q : ∀ (t : State) (x : Pins), (t.setPins x).regF p sub i = t.regF p sub i := fun _ _ => regF_congr rfl ..
  unfold State.freezeTrace
  dsimp only
  repeat' split
  all_goals simp only [k, q]

theorem regF_emit (s : State) (e : Emit) (p : ObjDef) (sub i : Nat) : (s.emit e).regF p sub i = s.regF p sub i :=
  regF_congr (State.emit_objs ..) ..

theorem regF_alarm (s : State) (r : ErrRec) (p : ObjDef) (sub i : Nat) (h : p.key sub ≠ Obj.ALARM_STATUS.key 0) :
    (s.alarm r).regF p sub i = s.regF p sub i := by
  have k : ∀ (t : State) (j v : Nat), (t.setRegF Obj.ALARM_STATUS 0 j v).regF p sub i = t.regF p sub i :=
    fun t j v => regF_setRegF_other _ _ _ _ _ _ _ _ (.inl h)
  have e : ∀ (t : State) (x : Pins), (t.setPins x).regF p sub i = t.regF p sub i := fun _ _ => regF_congr rfl ..
  unfold State.alarm
  dsimp only
  rw [e]
  repeat' split
  all_goals simp only [regF_emit, k]

theorem regF_writeRecord (s : State) (r : ErrRec) (p : ObjDef) (sub i : Nat) (h : p.key sub ∉ alarmKeys) :
    (s.writeRecord r).regF p sub i = s.regF p sub i := by
  simp only [alarmKeys, List.mem_cons, List.not_mem_nil, or_false, not_or] at h
  unfold State.writeRecord
  dsimp only
  split
  · rw [regF_freezeTrace _ _ _ _ _ h.2, regF_trace _ _ _ _ _ h.2, regF_alarm _ _ _ _ _ h.1]; rfl
  · rw [regF_trace _ _ _ _ _ h.2, regF_alarm _ _ _ _ _ h.1]; rfl

/-- An event leaves every register but the alarm status and the trace configuration. -/
theorem regF_log! (s : State) (e : Event) (p : ObjDef) (sub i : Nat) (h : p.key sub ∉ alarmKeys) :
    (s.log! e).regF p sub i = s.regF p sub i := by
  unfold State.log!
  dsimp only
  repeat' split
  all_goals first
    | rfl
    | exact regF_writeRecord s _ _ _ _ h
    | exact (regF_writeRecord _ _ _ _ _ h).trans rfl

theorem State.trace_log (s : State) (e : TraceEntry) : (s.trace e).log = s.log := by
  have k : ∀ (t : State) (o : ObjDef) (j v : Nat), (t.setRegF o 0 j v).log = t.log := fun _ _ _ _ => rfl
  have q : ∀ (t : State) (x : Pins), (t.setPins x).log = t.log := fun _ _ => rfl
  have e : ∀ (t : State) (x : Emit), (t.emit x).log = t.log := fun _ _ => rfl
  unfold State.trace
  dsimp only
  repeat' split
  all_goals simp only [k, q, e]

theorem State.freezeTrace_log (s : State) (k : Nat) : (s.freezeTrace k).log = s.log := by
  have k : ∀ (t : State) (o : ObjDef) (j v : Nat), (t.setRegF o 0 j v).log = t.log := fun _ _ _ _ => rfl
  have q : ∀ (t : State) (x : Pins), (t.setPins x).log = t.log := fun _ _ => rfl
  have e : ∀ (t : State) (x : Emit), (t.emit x).log = t.log := fun _ _ => rfl
  unfold State.freezeTrace
  dsimp only
  repeat' split
  all_goals simp only [k, q, e]

theorem State.alarm_log (s : State) (r : ErrRec) : (s.alarm r).log = s.log := by
  have k : ∀ (t : State) (o : ObjDef) (j v : Nat), (t.setRegF o 0 j v).log = t.log := fun _ _ _ _ => rfl
  have q : ∀ (t : State) (x : Pins), (t.setPins x).log = t.log := fun _ _ => rfl
  have e : ∀ (t : State) (x : Emit), (t.emit x).log = t.log := fun _ _ => rfl
  unfold State.alarm
  dsimp only
  repeat' split
  all_goals simp only [k, q, e]

/-- A record goes to the ring. -/
theorem State.writeRecord_log (s : State) (r : ErrRec) : (s.writeRecord r).log = s.log.add r := by
  unfold State.writeRecord; dsimp only; split
  · rw [State.freezeTrace_log, State.trace_log, State.alarm_log]; exact State.setLog_log s _
  · rw [State.trace_log, State.alarm_log]; exact State.setLog_log s _

/-- An event that is not of class CORRECTED is recorded at once. -/
theorem State.log!_log (s : State) (e : Event) (h : codeClass e.code ≠ 0) : (s.log! e).log = s.log.add (e.record s) := by
  simp [State.log!, h, State.writeRecord_log]

end Sys2Proof.Machine
end

