-- ==== Sys2Proof/Laws/Plans.lean ====
section
/-! SUPPORT. Sys2Proof/Laws/Plans.lean: rows that write an object, the device state, and a plan's states: what each may change. -/

namespace Sys2Proof.Machine

/-- A row whose checks pass does what the object's owner says, and answers its code. -/
theorem State.row_takes (s : State) (who : Who) (o : ObjDef) (sub : Nat) (b : Bool) (act : State → Nat × State)
    (ha : s.answers = true) (hc : s.rowChecks who o sub b = 0) :
    s.row who o sub b act = (act s).2.answer who o sub (act s).1 := by simp [State.row, ha, hc]

/-- A row whose checks fail only answers the code of the first that does. -/
theorem State.row_refused (s : State) (who : Who) (o : ObjDef) (sub : Nat) (b : Bool) (act : State → Nat × State)
    (ha : s.answers = true) (hc : s.rowChecks who o sub b ≠ 0) :
    s.row who o sub b act = s.answer who o sub (s.rowChecks who o sub b) := by simp [State.row, ha, hc]

/-- Where no transport answers a row does nothing. -/
theorem State.row_silent (s : State) (who : Who) (o : ObjDef) (sub : Nat) (b : Bool) (act : State → Nat × State)
    (ha : s.answers = false) : s.row who o sub b act = s := by simp [State.row, ha]

theorem State.closeTransfer_shape (s : State) (r code : Nat) : ∃ x0, s.closeTransfer r code = { s with dict := x0 } := by
  unfold State.closeTransfer
  split
  · exact ⟨_, rfl⟩
  · exact ⟨_, rfl⟩

@[simp] theorem State.closeTransfer_pending (s : State) (r code : Nat) : (s.closeTransfer r code).pending = s.pending := by
  obtain ⟨_, h⟩ := s.closeTransfer_shape r code; rw [h]
@[simp] theorem State.closeTransfer_freeCtr (s : State) (r code : Nat) : (s.closeTransfer r code).freeCtr = s.freeCtr := by
  obtain ⟨_, h⟩ := s.closeTransfer_shape r code; rw [h]
@[simp] theorem State.closeTransfer_objs (s : State) (r code : Nat) : (s.closeTransfer r code).objs = s.objs := by
  obtain ⟨_, h⟩ := s.closeTransfer_shape r code; rw [h]
@[simp] theorem State.closeTransfer_cad (s : State) (r code : Nat) : (s.closeTransfer r code).cad = s.cad := by
  obtain ⟨_, h⟩ := s.closeTransfer_shape r code; rw [h]
@[simp] theorem State.closeTransfer_plans (s : State) (r code : Nat) : (s.closeTransfer r code).plans = s.plans := by
  obtain ⟨_, h⟩ := s.closeTransfer_shape r code; rw [h]
@[simp] theorem State.closeTransfer_items (s : State) (r code : Nat) : (s.closeTransfer r code).items = s.items := by
  obtain ⟨_, h⟩ := s.closeTransfer_shape r code; rw [h]
@[simp] theorem State.closeTransfer_nextItem (s : State) (r code : Nat) : (s.closeTransfer r code).nextItem = s.nextItem := by
  obtain ⟨_, h⟩ := s.closeTransfer_shape r code; rw [h]
@[simp] theorem State.closeTransfer_hbm (s : State) (r code : Nat) : (s.closeTransfer r code).hbm = s.hbm := by
  obtain ⟨_, h⟩ := s.closeTransfer_shape r code; rw [h]
@[simp] theorem State.closeTransfer_fm (s : State) (r code : Nat) : (s.closeTransfer r code).fm = s.fm := by
  obtain ⟨_, h⟩ := s.closeTransfer_shape r code; rw [h]
@[simp] theorem State.closeTransfer_queues (s : State) (r code : Nat) : (s.closeTransfer r code).queues = s.queues := by
  obtain ⟨_, h⟩ := s.closeTransfer_shape r code; rw [h]
@[simp] theorem State.closeTransfer_summary (s : State) (r code : Nat) : (s.closeTransfer r code).summary = s.summary := by
  obtain ⟨_, h⟩ := s.closeTransfer_shape r code; rw [h]
@[simp] theorem State.closeTransfer_pools (s : State) (r code : Nat) : (s.closeTransfer r code).pools = s.pools := by
  obtain ⟨_, h⟩ := s.closeTransfer_shape r code; rw [h]
@[simp] theorem State.closeTransfer_log (s : State) (r code : Nat) : (s.closeTransfer r code).log = s.log := by
  obtain ⟨_, h⟩ := s.closeTransfer_shape r code; rw [h]
@[simp] theorem State.closeTransfer_rcv (s : State) (r code : Nat) : (s.closeTransfer r code).rcv = s.rcv := by
  obtain ⟨_, h⟩ := s.closeTransfer_shape r code; rw [h]
@[simp] theorem State.closeTransfer_sec (s : State) (r code : Nat) : (s.closeTransfer r code).sec = s.sec := by
  obtain ⟨_, h⟩ := s.closeTransfer_shape r code; rw [h]
@[simp] theorem State.closeTransfer_power (s : State) (r code : Nat) : (s.closeTransfer r code).power = s.power := by
  obtain ⟨_, h⟩ := s.closeTransfer_shape r code; rw [h]
@[simp] theorem State.closeTransfer_flash (s : State) (r code : Nat) : (s.closeTransfer r code).flash = s.flash := by
  obtain ⟨_, h⟩ := s.closeTransfer_shape r code; rw [h]
@[simp] theorem State.closeTransfer_maint (s : State) (r code : Nat) : (s.closeTransfer r code).maint = s.maint := by
  obtain ⟨_, h⟩ := s.closeTransfer_shape r code; rw [h]
@[simp] theorem State.closeTransfer_waitBeat (s : State) (r code : Nat) : (s.closeTransfer r code).waitBeat = s.waitBeat := by
  obtain ⟨_, h⟩ := s.closeTransfer_shape r code; rw [h]
@[simp] theorem State.closeTransfer_waitStep (s : State) (r code : Nat) : (s.closeTransfer r code).waitStep = s.waitStep := by
  obtain ⟨_, h⟩ := s.closeTransfer_shape r code; rw [h]
@[simp] theorem State.closeTransfer_waitReset (s : State) (r code : Nat) : (s.closeTransfer r code).waitReset = s.waitReset := by
  obtain ⟨_, h⟩ := s.closeTransfer_shape r code; rw [h]
@[simp] theorem State.closeTransfer_pins (s : State) (r code : Nat) : (s.closeTransfer r code).pins = s.pins := by
  obtain ⟨_, h⟩ := s.closeTransfer_shape r code; rw [h]
@[simp] theorem State.closeTransfer_facets (s : State) (r code : Nat) : (s.closeTransfer r code).facets = s.facets := by
  obtain ⟨_, h⟩ := s.closeTransfer_shape r code; rw [h]
@[simp] theorem State.closeTransfer_spokes (s : State) (r code : Nat) : (s.closeTransfer r code).spokes = s.spokes := by
  obtain ⟨_, h⟩ := s.closeTransfer_shape r code; rw [h]
@[simp] theorem State.closeTransfer_hup (s : State) (r code : Nat) : (s.closeTransfer r code).hup = s.hup := by
  obtain ⟨_, h⟩ := s.closeTransfer_shape r code; rw [h]
@[simp] theorem State.closeTransfer_fab (s : State) (r code : Nat) : (s.closeTransfer r code).fab = s.fab := by
  obtain ⟨_, h⟩ := s.closeTransfer_shape r code; rw [h]
@[simp] theorem State.closeTransfer_maps (s : State) (r code : Nat) : (s.closeTransfer r code).maps = s.maps := by
  obtain ⟨_, h⟩ := s.closeTransfer_shape r code; rw [h]
@[simp] theorem State.closeTransfer_router (s : State) (r code : Nat) : (s.closeTransfer r code).router = s.router := by
  obtain ⟨_, h⟩ := s.closeTransfer_shape r code; rw [h]
@[simp] theorem State.closeTransfer_outgoing (s : State) (r code : Nat) : (s.closeTransfer r code).outgoing = s.outgoing := by
  obtain ⟨_, h⟩ := s.closeTransfer_shape r code; rw [h]
@[simp] theorem State.closeTransfer_coll (s : State) (r code : Nat) : (s.closeTransfer r code).coll = s.coll := by
  obtain ⟨_, h⟩ := s.closeTransfer_shape r code; rw [h]
@[simp] theorem State.closeTransfer_slotSerial (s : State) (r code : Nat) : (s.closeTransfer r code).slotSerial = s.slotSerial := by
  obtain ⟨_, h⟩ := s.closeTransfer_shape r code; rw [h]
@[simp] theorem State.closeTransfer_out (s : State) (r code : Nat) : (s.closeTransfer r code).out = s.out := by
  obtain ⟨_, h⟩ := s.closeTransfer_shape r code; rw [h]
@[simp] theorem State.closeTransfer_plan (s : State) (r code : Nat) (d : Nat) : (s.closeTransfer r code).plan d = s.plan d := plan_congr (State.closeTransfer_plans ..) d
@[simp] theorem State.closeTransfer_regF (s : State) (r code : Nat) (y : ObjDef) (j z : Nat) : (s.closeTransfer r code).regF y j z = s.regF y j z := regF_congr (State.closeTransfer_objs ..) ..
@[simp] theorem State.closeTransfer_reg (s : State) (r code : Nat) (y : ObjDef) (j : Nat) : (s.closeTransfer r code).reg y j = s.reg y j := reg_congr (State.closeTransfer_objs ..) ..

theorem closeEach_shape (l : Table Transfer) (s : State) : ∃ x0, l.foldl (fun (s : State) e =>
    let index := field e.2.header 216 16
    if Obj.table.any (fun o => o.index == index && s.served e.2.who o e.2.write) then s
    else s.closeTransfer e.1 Abort.DEVICE_STATE) s = { s with dict := x0 } := by
  induction l generalizing s with
  | nil => exact ⟨_, rfl⟩
  | cons e r ih =>
    rw [List.foldl_cons]
    dsimp only
    split
    · exact ih s
    · obtain ⟨x, hx⟩ := s.closeTransfer_shape e.1 Abort.DEVICE_STATE
      obtain ⟨y, hy⟩ := ih (s.closeTransfer e.1 Abort.DEVICE_STATE)
      exact ⟨y, by rw [hy, hx]⟩

theorem State.closeUnserved_shape (s : State) : ∃ x0, s.closeUnserved = { s with dict := x0 } := by
  exact closeEach_shape _ _

@[simp] theorem State.closeUnserved_pending (s : State) : (s.closeUnserved).pending = s.pending := by
  obtain ⟨_, h⟩ := s.closeUnserved_shape; rw [h]
@[simp] theorem State.closeUnserved_freeCtr (s : State) : (s.closeUnserved).freeCtr = s.freeCtr := by
  obtain ⟨_, h⟩ := s.closeUnserved_shape; rw [h]
@[simp] theorem State.closeUnserved_objs (s : State) : (s.closeUnserved).objs = s.objs := by
  obtain ⟨_, h⟩ := s.closeUnserved_shape; rw [h]
@[simp] theorem State.closeUnserved_cad (s : State) : (s.closeUnserved).cad = s.cad := by
  obtain ⟨_, h⟩ := s.closeUnserved_shape; rw [h]
@[simp] theorem State.closeUnserved_plans (s : State) : (s.closeUnserved).plans = s.plans := by
  obtain ⟨_, h⟩ := s.closeUnserved_shape; rw [h]
@[simp] theorem State.closeUnserved_items (s : State) : (s.closeUnserved).items = s.items := by
  obtain ⟨_, h⟩ := s.closeUnserved_shape; rw [h]
@[simp] theorem State.closeUnserved_nextItem (s : State) : (s.closeUnserved).nextItem = s.nextItem := by
  obtain ⟨_, h⟩ := s.closeUnserved_shape; rw [h]
@[simp] theorem State.closeUnserved_hbm (s : State) : (s.closeUnserved).hbm = s.hbm := by
  obtain ⟨_, h⟩ := s.closeUnserved_shape; rw [h]
@[simp] theorem State.closeUnserved_fm (s : State) : (s.closeUnserved).fm = s.fm := by
  obtain ⟨_, h⟩ := s.closeUnserved_shape; rw [h]
@[simp] theorem State.closeUnserved_queues (s : State) : (s.closeUnserved).queues = s.queues := by
  obtain ⟨_, h⟩ := s.closeUnserved_shape; rw [h]
@[simp] theorem State.closeUnserved_summary (s : State) : (s.closeUnserved).summary = s.summary := by
  obtain ⟨_, h⟩ := s.closeUnserved_shape; rw [h]
@[simp] theorem State.closeUnserved_pools (s : State) : (s.closeUnserved).pools = s.pools := by
  obtain ⟨_, h⟩ := s.closeUnserved_shape; rw [h]
@[simp] theorem State.closeUnserved_log (s : State) : (s.closeUnserved).log = s.log := by
  obtain ⟨_, h⟩ := s.closeUnserved_shape; rw [h]
@[simp] theorem State.closeUnserved_rcv (s : State) : (s.closeUnserved).rcv = s.rcv := by
  obtain ⟨_, h⟩ := s.closeUnserved_shape; rw [h]
@[simp] theorem State.closeUnserved_sec (s : State) : (s.closeUnserved).sec = s.sec := by
  obtain ⟨_, h⟩ := s.closeUnserved_shape; rw [h]
@[simp] theorem State.closeUnserved_power (s : State) : (s.closeUnserved).power = s.power := by
  obtain ⟨_, h⟩ := s.closeUnserved_shape; rw [h]
@[simp] theorem State.closeUnserved_flash (s : State) : (s.closeUnserved).flash = s.flash := by
  obtain ⟨_, h⟩ := s.closeUnserved_shape; rw [h]
@[simp] theorem State.closeUnserved_maint (s : State) : (s.closeUnserved).maint = s.maint := by
  obtain ⟨_, h⟩ := s.closeUnserved_shape; rw [h]
@[simp] theorem State.closeUnserved_waitBeat (s : State) : (s.closeUnserved).waitBeat = s.waitBeat := by
  obtain ⟨_, h⟩ := s.closeUnserved_shape; rw [h]
@[simp] theorem State.closeUnserved_waitStep (s : State) : (s.closeUnserved).waitStep = s.waitStep := by
  obtain ⟨_, h⟩ := s.closeUnserved_shape; rw [h]
@[simp] theorem State.closeUnserved_waitReset (s : State) : (s.closeUnserved).waitReset = s.waitReset := by
  obtain ⟨_, h⟩ := s.closeUnserved_shape; rw [h]
@[simp] theorem State.closeUnserved_pins (s : State) : (s.closeUnserved).pins = s.pins := by
  obtain ⟨_, h⟩ := s.closeUnserved_shape; rw [h]
@[simp] theorem State.closeUnserved_facets (s : State) : (s.closeUnserved).facets = s.facets := by
  obtain ⟨_, h⟩ := s.closeUnserved_shape; rw [h]
@[simp] theorem State.closeUnserved_spokes (s : State) : (s.closeUnserved).spokes = s.spokes := by
  obtain ⟨_, h⟩ := s.closeUnserved_shape; rw [h]
@[simp] theorem State.closeUnserved_hup (s : State) : (s.closeUnserved).hup = s.hup := by
  obtain ⟨_, h⟩ := s.closeUnserved_shape; rw [h]
@[simp] theorem State.closeUnserved_fab (s : State) : (s.closeUnserved).fab = s.fab := by
  obtain ⟨_, h⟩ := s.closeUnserved_shape; rw [h]
@[simp] theorem State.closeUnserved_maps (s : State) : (s.closeUnserved).maps = s.maps := by
  obtain ⟨_, h⟩ := s.closeUnserved_shape; rw [h]
@[simp] theorem State.closeUnserved_router (s : State) : (s.closeUnserved).router = s.router := by
  obtain ⟨_, h⟩ := s.closeUnserved_shape; rw [h]
@[simp] theorem State.closeUnserved_outgoing (s : State) : (s.closeUnserved).outgoing = s.outgoing := by
  obtain ⟨_, h⟩ := s.closeUnserved_shape; rw [h]
@[simp] theorem State.closeUnserved_coll (s : State) : (s.closeUnserved).coll = s.coll := by
  obtain ⟨_, h⟩ := s.closeUnserved_shape; rw [h]
@[simp] theorem State.closeUnserved_slotSerial (s : State) : (s.closeUnserved).slotSerial = s.slotSerial := by
  obtain ⟨_, h⟩ := s.closeUnserved_shape; rw [h]
@[simp] theorem State.closeUnserved_out (s : State) : (s.closeUnserved).out = s.out := by
  obtain ⟨_, h⟩ := s.closeUnserved_shape; rw [h]
@[simp] theorem State.closeUnserved_plan (s : State) (d : Nat) : (s.closeUnserved).plan d = s.plan d := plan_congr (State.closeUnserved_plans ..) d
@[simp] theorem State.closeUnserved_regF (s : State) (y : ObjDef) (j z : Nat) : (s.closeUnserved).regF y j z = s.regF y j z := regF_congr (State.closeUnserved_objs ..) ..
@[simp] theorem State.closeUnserved_reg (s : State) (y : ObjDef) (j : Nat) : (s.closeUnserved).reg y j = s.reg y j := reg_congr (State.closeUnserved_objs ..) ..

theorem State.goTo_shape (s : State) (st cause : Nat) : ∃ x0 x1 x2, s.goTo st cause = { s with cad := x0, objs := x1, dict := x2 } := by
  unfold State.goTo
  dsimp only
  exact (State.closeUnserved_shape _).elim fun _ h => ⟨_, _, _, h.trans rfl⟩

@[simp] theorem State.goTo_pending (s : State) (st cause : Nat) : (s.goTo st cause).pending = s.pending := by
  obtain ⟨_, _, _, h⟩ := s.goTo_shape st cause; rw [h]
@[simp] theorem State.goTo_freeCtr (s : State) (st cause : Nat) : (s.goTo st cause).freeCtr = s.freeCtr := by
  obtain ⟨_, _, _, h⟩ := s.goTo_shape st cause; rw [h]
@[simp] theorem State.goTo_plans (s : State) (st cause : Nat) : (s.goTo st cause).plans = s.plans := by
  obtain ⟨_, _, _, h⟩ := s.goTo_shape st cause; rw [h]
@[simp] theorem State.goTo_items (s : State) (st cause : Nat) : (s.goTo st cause).items = s.items := by
  obtain ⟨_, _, _, h⟩ := s.goTo_shape st cause; rw [h]
@[simp] theorem State.goTo_nextItem (s : State) (st cause : Nat) : (s.goTo st cause).nextItem = s.nextItem := by
  obtain ⟨_, _, _, h⟩ := s.goTo_shape st cause; rw [h]
@[simp] theorem State.goTo_hbm (s : State) (st cause : Nat) : (s.goTo st cause).hbm = s.hbm := by
  obtain ⟨_, _, _, h⟩ := s.goTo_shape st cause; rw [h]
@[simp] theorem State.goTo_fm (s : State) (st cause : Nat) : (s.goTo st cause).fm = s.fm := by
  obtain ⟨_, _, _, h⟩ := s.goTo_shape st cause; rw [h]
@[simp] theorem State.goTo_queues (s : State) (st cause : Nat) : (s.goTo st cause).queues = s.queues := by
  obtain ⟨_, _, _, h⟩ := s.goTo_shape st cause; rw [h]
@[simp] theorem State.goTo_summary (s : State) (st cause : Nat) : (s.goTo st cause).summary = s.summary := by
  obtain ⟨_, _, _, h⟩ := s.goTo_shape st cause; rw [h]
@[simp] theorem State.goTo_pools (s : State) (st cause : Nat) : (s.goTo st cause).pools = s.pools := by
  obtain ⟨_, _, _, h⟩ := s.goTo_shape st cause; rw [h]
@[simp] theorem State.goTo_log (s : State) (st cause : Nat) : (s.goTo st cause).log = s.log := by
  obtain ⟨_, _, _, h⟩ := s.goTo_shape st cause; rw [h]
@[simp] theorem State.goTo_rcv (s : State) (st cause : Nat) : (s.goTo st cause).rcv = s.rcv := by
  obtain ⟨_, _, _, h⟩ := s.goTo_shape st cause; rw [h]
@[simp] theorem State.goTo_sec (s : State) (st cause : Nat) : (s.goTo st cause).sec = s.sec := by
  obtain ⟨_, _, _, h⟩ := s.goTo_shape st cause; rw [h]
@[simp] theorem State.goTo_power (s : State) (st cause : Nat) : (s.goTo st cause).power = s.power := by
  obtain ⟨_, _, _, h⟩ := s.goTo_shape st cause; rw [h]
@[simp] theorem State.goTo_flash (s : State) (st cause : Nat) : (s.goTo st cause).flash = s.flash := by
  obtain ⟨_, _, _, h⟩ := s.goTo_shape st cause; rw [h]
@[simp] theorem State.goTo_maint (s : State) (st cause : Nat) : (s.goTo st cause).maint = s.maint := by
  obtain ⟨_, _, _, h⟩ := s.goTo_shape st cause; rw [h]
@[simp] theorem State.goTo_waitBeat (s : State) (st cause : Nat) : (s.goTo st cause).waitBeat = s.waitBeat := by
  obtain ⟨_, _, _, h⟩ := s.goTo_shape st cause; rw [h]
@[simp] theorem State.goTo_waitStep (s : State) (st cause : Nat) : (s.goTo st cause).waitStep = s.waitStep := by
  obtain ⟨_, _, _, h⟩ := s.goTo_shape st cause; rw [h]
@[simp] theorem State.goTo_waitReset (s : State) (st cause : Nat) : (s.goTo st cause).waitReset = s.waitReset := by
  obtain ⟨_, _, _, h⟩ := s.goTo_shape st cause; rw [h]
@[simp] theorem State.goTo_pins (s : State) (st cause : Nat) : (s.goTo st cause).pins = s.pins := by
  obtain ⟨_, _, _, h⟩ := s.goTo_shape st cause; rw [h]
@[simp] theorem State.goTo_facets (s : State) (st cause : Nat) : (s.goTo st cause).facets = s.facets := by
  obtain ⟨_, _, _, h⟩ := s.goTo_shape st cause; rw [h]
@[simp] theorem State.goTo_spokes (s : State) (st cause : Nat) : (s.goTo st cause).spokes = s.spokes := by
  obtain ⟨_, _, _, h⟩ := s.goTo_shape st cause; rw [h]
@[simp] theorem State.goTo_hup (s : State) (st cause : Nat) : (s.goTo st cause).hup = s.hup := by
  obtain ⟨_, _, _, h⟩ := s.goTo_shape st cause; rw [h]
@[simp] theorem State.goTo_fab (s : State) (st cause : Nat) : (s.goTo st cause).fab = s.fab := by
  obtain ⟨_, _, _, h⟩ := s.goTo_shape st cause; rw [h]
@[simp] theorem State.goTo_maps (s : State) (st cause : Nat) : (s.goTo st cause).maps = s.maps := by
  obtain ⟨_, _, _, h⟩ := s.goTo_shape st cause; rw [h]
@[simp] theorem State.goTo_router (s : State) (st cause : Nat) : (s.goTo st cause).router = s.router := by
  obtain ⟨_, _, _, h⟩ := s.goTo_shape st cause; rw [h]
@[simp] theorem State.goTo_outgoing (s : State) (st cause : Nat) : (s.goTo st cause).outgoing = s.outgoing := by
  obtain ⟨_, _, _, h⟩ := s.goTo_shape st cause; rw [h]
@[simp] theorem State.goTo_coll (s : State) (st cause : Nat) : (s.goTo st cause).coll = s.coll := by
  obtain ⟨_, _, _, h⟩ := s.goTo_shape st cause; rw [h]
@[simp] theorem State.goTo_slotSerial (s : State) (st cause : Nat) : (s.goTo st cause).slotSerial = s.slotSerial := by
  obtain ⟨_, _, _, h⟩ := s.goTo_shape st cause; rw [h]
@[simp] theorem State.goTo_out (s : State) (st cause : Nat) : (s.goTo st cause).out = s.out := by
  obtain ⟨_, _, _, h⟩ := s.goTo_shape st cause; rw [h]
@[simp] theorem State.goTo_plan (s : State) (st cause : Nat) (d : Nat) : (s.goTo st cause).plan d = s.plan d := plan_congr (State.goTo_plans ..) d

theorem State.enter_shape (s : State) (st cause : Nat) : ∃ x0 x1 x2, s.enter st cause = { s with cad := x0, objs := x1, dict := x2 } := by
  unfold State.enter
  split
  · exact ⟨_, _, _, rfl⟩
  · exact s.goTo_shape st cause

@[simp] theorem State.enter_pending (s : State) (st cause : Nat) : (s.enter st cause).pending = s.pending := by
  obtain ⟨_, _, _, h⟩ := s.enter_shape st cause; rw [h]
@[simp] theorem State.enter_freeCtr (s : State) (st cause : Nat) : (s.enter st cause).freeCtr = s.freeCtr := by
  obtain ⟨_, _, _, h⟩ := s.enter_shape st cause; rw [h]
@[simp] theorem State.enter_plans (s : State) (st cause : Nat) : (s.enter st cause).plans = s.plans := by
  obtain ⟨_, _, _, h⟩ := s.enter_shape st cause; rw [h]
@[simp] theorem State.enter_items (s : State) (st cause : Nat) : (s.enter st cause).items = s.items := by
  obtain ⟨_, _, _, h⟩ := s.enter_shape st cause; rw [h]
@[simp] theorem State.enter_nextItem (s : State) (st cause : Nat) : (s.enter st cause).nextItem = s.nextItem := by
  obtain ⟨_, _, _, h⟩ := s.enter_shape st cause; rw [h]
@[simp] theorem State.enter_hbm (s : State) (st cause : Nat) : (s.enter st cause).hbm = s.hbm := by
  obtain ⟨_, _, _, h⟩ := s.enter_shape st cause; rw [h]
@[simp] theorem State.enter_fm (s : State) (st cause : Nat) : (s.enter st cause).fm = s.fm := by
  obtain ⟨_, _, _, h⟩ := s.enter_shape st cause; rw [h]
@[simp] theorem State.enter_queues (s : State) (st cause : Nat) : (s.enter st cause).queues = s.queues := by
  obtain ⟨_, _, _, h⟩ := s.enter_shape st cause; rw [h]
@[simp] theorem State.enter_summary (s : State) (st cause : Nat) : (s.enter st cause).summary = s.summary := by
  obtain ⟨_, _, _, h⟩ := s.enter_shape st cause; rw [h]
@[simp] theorem State.enter_pools (s : State) (st cause : Nat) : (s.enter st cause).pools = s.pools := by
  obtain ⟨_, _, _, h⟩ := s.enter_shape st cause; rw [h]
@[simp] theorem State.enter_log (s : State) (st cause : Nat) : (s.enter st cause).log = s.log := by
  obtain ⟨_, _, _, h⟩ := s.enter_shape st cause; rw [h]
@[simp] theorem State.enter_rcv (s : State) (st cause : Nat) : (s.enter st cause).rcv = s.rcv := by
  obtain ⟨_, _, _, h⟩ := s.enter_shape st cause; rw [h]
@[simp] theorem State.enter_sec (s : State) (st cause : Nat) : (s.enter st cause).sec = s.sec := by
  obtain ⟨_, _, _, h⟩ := s.enter_shape st cause; rw [h]
@[simp] theorem State.enter_power (s : State) (st cause : Nat) : (s.enter st cause).power = s.power := by
  obtain ⟨_, _, _, h⟩ := s.enter_shape st cause; rw [h]
@[simp] theorem State.enter_flash (s : State) (st cause : Nat) : (s.enter st cause).flash = s.flash := by
  obtain ⟨_, _, _, h⟩ := s.enter_shape st cause; rw [h]
@[simp] theorem State.enter_maint (s : State) (st cause : Nat) : (s.enter st cause).maint = s.maint := by
  obtain ⟨_, _, _, h⟩ := s.enter_shape st cause; rw [h]
@[simp] theorem State.enter_waitBeat (s : State) (st cause : Nat) : (s.enter st cause).waitBeat = s.waitBeat := by
  obtain ⟨_, _, _, h⟩ := s.enter_shape st cause; rw [h]
@[simp] theorem State.enter_waitStep (s : State) (st cause : Nat) : (s.enter st cause).waitStep = s.waitStep := by
  obtain ⟨_, _, _, h⟩ := s.enter_shape st cause; rw [h]
@[simp] theorem State.enter_waitReset (s : State) (st cause : Nat) : (s.enter st cause).waitReset = s.waitReset := by
  obtain ⟨_, _, _, h⟩ := s.enter_shape st cause; rw [h]
@[simp] theorem State.enter_pins (s : State) (st cause : Nat) : (s.enter st cause).pins = s.pins := by
  obtain ⟨_, _, _, h⟩ := s.enter_shape st cause; rw [h]
@[simp] theorem State.enter_facets (s : State) (st cause : Nat) : (s.enter st cause).facets = s.facets := by
  obtain ⟨_, _, _, h⟩ := s.enter_shape st cause; rw [h]
@[simp] theorem State.enter_spokes (s : State) (st cause : Nat) : (s.enter st cause).spokes = s.spokes := by
  obtain ⟨_, _, _, h⟩ := s.enter_shape st cause; rw [h]
@[simp] theorem State.enter_hup (s : State) (st cause : Nat) : (s.enter st cause).hup = s.hup := by
  obtain ⟨_, _, _, h⟩ := s.enter_shape st cause; rw [h]
@[simp] theorem State.enter_fab (s : State) (st cause : Nat) : (s.enter st cause).fab = s.fab := by
  obtain ⟨_, _, _, h⟩ := s.enter_shape st cause; rw [h]
@[simp] theorem State.enter_maps (s : State) (st cause : Nat) : (s.enter st cause).maps = s.maps := by
  obtain ⟨_, _, _, h⟩ := s.enter_shape st cause; rw [h]
@[simp] theorem State.enter_router (s : State) (st cause : Nat) : (s.enter st cause).router = s.router := by
  obtain ⟨_, _, _, h⟩ := s.enter_shape st cause; rw [h]
@[simp] theorem State.enter_outgoing (s : State) (st cause : Nat) : (s.enter st cause).outgoing = s.outgoing := by
  obtain ⟨_, _, _, h⟩ := s.enter_shape st cause; rw [h]
@[simp] theorem State.enter_coll (s : State) (st cause : Nat) : (s.enter st cause).coll = s.coll := by
  obtain ⟨_, _, _, h⟩ := s.enter_shape st cause; rw [h]
@[simp] theorem State.enter_slotSerial (s : State) (st cause : Nat) : (s.enter st cause).slotSerial = s.slotSerial := by
  obtain ⟨_, _, _, h⟩ := s.enter_shape st cause; rw [h]
@[simp] theorem State.enter_out (s : State) (st cause : Nat) : (s.enter st cause).out = s.out := by
  obtain ⟨_, _, _, h⟩ := s.enter_shape st cause; rw [h]
@[simp] theorem State.enter_plan (s : State) (st cause : Nat) (d : Nat) : (s.enter st cause).plan d = s.plan d := plan_congr (State.enter_plans ..) d

theorem State.applyStep_shape (s : State) (c : Nat) : ∃ x0 x1, s.applyStep c = { s with objs := x0, waitStep := x1 } := by
  exact ⟨_, _, rfl⟩

@[simp] theorem State.applyStep_pending (s : State) (c : Nat) : (s.applyStep c).pending = s.pending := by
  obtain ⟨_, _, h⟩ := s.applyStep_shape c; rw [h]
@[simp] theorem State.applyStep_freeCtr (s : State) (c : Nat) : (s.applyStep c).freeCtr = s.freeCtr := by
  obtain ⟨_, _, h⟩ := s.applyStep_shape c; rw [h]
@[simp] theorem State.applyStep_cad (s : State) (c : Nat) : (s.applyStep c).cad = s.cad := by
  obtain ⟨_, _, h⟩ := s.applyStep_shape c; rw [h]
@[simp] theorem State.applyStep_plans (s : State) (c : Nat) : (s.applyStep c).plans = s.plans := by
  obtain ⟨_, _, h⟩ := s.applyStep_shape c; rw [h]
@[simp] theorem State.applyStep_items (s : State) (c : Nat) : (s.applyStep c).items = s.items := by
  obtain ⟨_, _, h⟩ := s.applyStep_shape c; rw [h]
@[simp] theorem State.applyStep_nextItem (s : State) (c : Nat) : (s.applyStep c).nextItem = s.nextItem := by
  obtain ⟨_, _, h⟩ := s.applyStep_shape c; rw [h]
@[simp] theorem State.applyStep_hbm (s : State) (c : Nat) : (s.applyStep c).hbm = s.hbm := by
  obtain ⟨_, _, h⟩ := s.applyStep_shape c; rw [h]
@[simp] theorem State.applyStep_fm (s : State) (c : Nat) : (s.applyStep c).fm = s.fm := by
  obtain ⟨_, _, h⟩ := s.applyStep_shape c; rw [h]
@[simp] theorem State.applyStep_queues (s : State) (c : Nat) : (s.applyStep c).queues = s.queues := by
  obtain ⟨_, _, h⟩ := s.applyStep_shape c; rw [h]
@[simp] theorem State.applyStep_summary (s : State) (c : Nat) : (s.applyStep c).summary = s.summary := by
  obtain ⟨_, _, h⟩ := s.applyStep_shape c; rw [h]
@[simp] theorem State.applyStep_pools (s : State) (c : Nat) : (s.applyStep c).pools = s.pools := by
  obtain ⟨_, _, h⟩ := s.applyStep_shape c; rw [h]
@[simp] theorem State.applyStep_log (s : State) (c : Nat) : (s.applyStep c).log = s.log := by
  obtain ⟨_, _, h⟩ := s.applyStep_shape c; rw [h]
@[simp] theorem State.applyStep_rcv (s : State) (c : Nat) : (s.applyStep c).rcv = s.rcv := by
  obtain ⟨_, _, h⟩ := s.applyStep_shape c; rw [h]
@[simp] theorem State.applyStep_sec (s : State) (c : Nat) : (s.applyStep c).sec = s.sec := by
  obtain ⟨_, _, h⟩ := s.applyStep_shape c; rw [h]
@[simp] theorem State.applyStep_dict (s : State) (c : Nat) : (s.applyStep c).dict = s.dict := by
  obtain ⟨_, _, h⟩ := s.applyStep_shape c; rw [h]
@[simp] theorem State.applyStep_power (s : State) (c : Nat) : (s.applyStep c).power = s.power := by
  obtain ⟨_, _, h⟩ := s.applyStep_shape c; rw [h]
@[simp] theorem State.applyStep_flash (s : State) (c : Nat) : (s.applyStep c).flash = s.flash := by
  obtain ⟨_, _, h⟩ := s.applyStep_shape c; rw [h]
@[simp] theorem State.applyStep_maint (s : State) (c : Nat) : (s.applyStep c).maint = s.maint := by
  obtain ⟨_, _, h⟩ := s.applyStep_shape c; rw [h]
@[simp] theorem State.applyStep_waitBeat (s : State) (c : Nat) : (s.applyStep c).waitBeat = s.waitBeat := by
  obtain ⟨_, _, h⟩ := s.applyStep_shape c; rw [h]
@[simp] theorem State.applyStep_waitReset (s : State) (c : Nat) : (s.applyStep c).waitReset = s.waitReset := by
  obtain ⟨_, _, h⟩ := s.applyStep_shape c; rw [h]
@[simp] theorem State.applyStep_pins (s : State) (c : Nat) : (s.applyStep c).pins = s.pins := by
  obtain ⟨_, _, h⟩ := s.applyStep_shape c; rw [h]
@[simp] theorem State.applyStep_facets (s : State) (c : Nat) : (s.applyStep c).facets = s.facets := by
  obtain ⟨_, _, h⟩ := s.applyStep_shape c; rw [h]
@[simp] theorem State.applyStep_spokes (s : State) (c : Nat) : (s.applyStep c).spokes = s.spokes := by
  obtain ⟨_, _, h⟩ := s.applyStep_shape c; rw [h]
@[simp] theorem State.applyStep_hup (s : State) (c : Nat) : (s.applyStep c).hup = s.hup := by
  obtain ⟨_, _, h⟩ := s.applyStep_shape c; rw [h]
@[simp] theorem State.applyStep_fab (s : State) (c : Nat) : (s.applyStep c).fab = s.fab := by
  obtain ⟨_, _, h⟩ := s.applyStep_shape c; rw [h]
@[simp] theorem State.applyStep_maps (s : State) (c : Nat) : (s.applyStep c).maps = s.maps := by
  obtain ⟨_, _, h⟩ := s.applyStep_shape c; rw [h]
@[simp] theorem State.applyStep_router (s : State) (c : Nat) : (s.applyStep c).router = s.router := by
  obtain ⟨_, _, h⟩ := s.applyStep_shape c; rw [h]
@[simp] theorem State.applyStep_outgoing (s : State) (c : Nat) : (s.applyStep c).outgoing = s.outgoing := by
  obtain ⟨_, _, h⟩ := s.applyStep_shape c; rw [h]
@[simp] theorem State.applyStep_coll (s : State) (c : Nat) : (s.applyStep c).coll = s.coll := by
  obtain ⟨_, _, h⟩ := s.applyStep_shape c; rw [h]
@[simp] theorem State.applyStep_slotSerial (s : State) (c : Nat) : (s.applyStep c).slotSerial = s.slotSerial := by
  obtain ⟨_, _, h⟩ := s.applyStep_shape c; rw [h]
@[simp] theorem State.applyStep_out (s : State) (c : Nat) : (s.applyStep c).out = s.out := by
  obtain ⟨_, _, h⟩ := s.applyStep_shape c; rw [h]
@[simp] theorem State.applyStep_plan (s : State) (c : Nat) (d : Nat) : (s.applyStep c).plan d = s.plan d := plan_congr (State.applyStep_plans ..) d

theorem State.followPlans_shape (s : State) : ∃ x0 x1 x2, s.followPlans = { s with cad := x0, objs := x1, dict := x2 } := by
  unfold State.followPlans
  repeat' split
  · exact s.enter_shape ..
  · exact s.enter_shape ..
  · exact ⟨_, _, _, rfl⟩

@[simp] theorem State.followPlans_pending (s : State) : (s.followPlans).pending = s.pending := by
  obtain ⟨_, _, _, h⟩ := s.followPlans_shape; rw [h]
@[simp] theorem State.followPlans_freeCtr (s : State) : (s.followPlans).freeCtr = s.freeCtr := by
  obtain ⟨_, _, _, h⟩ := s.followPlans_shape; rw [h]
@[simp] theorem State.followPlans_plans (s : State) : (s.followPlans).plans = s.plans := by
  obtain ⟨_, _, _, h⟩ := s.followPlans_shape; rw [h]
@[simp] theorem State.followPlans_items (s : State) : (s.followPlans).items = s.items := by
  obtain ⟨_, _, _, h⟩ := s.followPlans_shape; rw [h]
@[simp] theorem State.followPlans_nextItem (s : State) : (s.followPlans).nextItem = s.nextItem := by
  obtain ⟨_, _, _, h⟩ := s.followPlans_shape; rw [h]
@[simp] theorem State.followPlans_hbm (s : State) : (s.followPlans).hbm = s.hbm := by
  obtain ⟨_, _, _, h⟩ := s.followPlans_shape; rw [h]
@[simp] theorem State.followPlans_fm (s : State) : (s.followPlans).fm = s.fm := by
  obtain ⟨_, _, _, h⟩ := s.followPlans_shape; rw [h]
@[simp] theorem State.followPlans_queues (s : State) : (s.followPlans).queues = s.queues := by
  obtain ⟨_, _, _, h⟩ := s.followPlans_shape; rw [h]
@[simp] theorem State.followPlans_summary (s : State) : (s.followPlans).summary = s.summary := by
  obtain ⟨_, _, _, h⟩ := s.followPlans_shape; rw [h]
@[simp] theorem State.followPlans_pools (s : State) : (s.followPlans).pools = s.pools := by
  obtain ⟨_, _, _, h⟩ := s.followPlans_shape; rw [h]
@[simp] theorem State.followPlans_log (s : State) : (s.followPlans).log = s.log := by
  obtain ⟨_, _, _, h⟩ := s.followPlans_shape; rw [h]
@[simp] theorem State.followPlans_rcv (s : State) : (s.followPlans).rcv = s.rcv := by
  obtain ⟨_, _, _, h⟩ := s.followPlans_shape; rw [h]
@[simp] theorem State.followPlans_sec (s : State) : (s.followPlans).sec = s.sec := by
  obtain ⟨_, _, _, h⟩ := s.followPlans_shape; rw [h]
@[simp] theorem State.followPlans_power (s : State) : (s.followPlans).power = s.power := by
  obtain ⟨_, _, _, h⟩ := s.followPlans_shape; rw [h]
@[simp] theorem State.followPlans_flash (s : State) : (s.followPlans).flash = s.flash := by
  obtain ⟨_, _, _, h⟩ := s.followPlans_shape; rw [h]
@[simp] theorem State.followPlans_maint (s : State) : (s.followPlans).maint = s.maint := by
  obtain ⟨_, _, _, h⟩ := s.followPlans_shape; rw [h]
@[simp] theorem State.followPlans_waitBeat (s : State) : (s.followPlans).waitBeat = s.waitBeat := by
  obtain ⟨_, _, _, h⟩ := s.followPlans_shape; rw [h]
@[simp] theorem State.followPlans_waitStep (s : State) : (s.followPlans).waitStep = s.waitStep := by
  obtain ⟨_, _, _, h⟩ := s.followPlans_shape; rw [h]
@[simp] theorem State.followPlans_waitReset (s : State) : (s.followPlans).waitReset = s.waitReset := by
  obtain ⟨_, _, _, h⟩ := s.followPlans_shape; rw [h]
@[simp] theorem State.followPlans_pins (s : State) : (s.followPlans).pins = s.pins := by
  obtain ⟨_, _, _, h⟩ := s.followPlans_shape; rw [h]
@[simp] theorem State.followPlans_facets (s : State) : (s.followPlans).facets = s.facets := by
  obtain ⟨_, _, _, h⟩ := s.followPlans_shape; rw [h]
@[simp] theorem State.followPlans_spokes (s : State) : (s.followPlans).spokes = s.spokes := by
  obtain ⟨_, _, _, h⟩ := s.followPlans_shape; rw [h]
@[simp] theorem State.followPlans_hup (s : State) : (s.followPlans).hup = s.hup := by
  obtain ⟨_, _, _, h⟩ := s.followPlans_shape; rw [h]
@[simp] theorem State.followPlans_fab (s : State) : (s.followPlans).fab = s.fab := by
  obtain ⟨_, _, _, h⟩ := s.followPlans_shape; rw [h]
@[simp] theorem State.followPlans_maps (s : State) : (s.followPlans).maps = s.maps := by
  obtain ⟨_, _, _, h⟩ := s.followPlans_shape; rw [h]
@[simp] theorem State.followPlans_router (s : State) : (s.followPlans).router = s.router := by
  obtain ⟨_, _, _, h⟩ := s.followPlans_shape; rw [h]
@[simp] theorem State.followPlans_outgoing (s : State) : (s.followPlans).outgoing = s.outgoing := by
  obtain ⟨_, _, _, h⟩ := s.followPlans_shape; rw [h]
@[simp] theorem State.followPlans_coll (s : State) : (s.followPlans).coll = s.coll := by
  obtain ⟨_, _, _, h⟩ := s.followPlans_shape; rw [h]
@[simp] theorem State.followPlans_slotSerial (s : State) : (s.followPlans).slotSerial = s.slotSerial := by
  obtain ⟨_, _, _, h⟩ := s.followPlans_shape; rw [h]
@[simp] theorem State.followPlans_out (s : State) : (s.followPlans).out = s.out := by
  obtain ⟨_, _, _, h⟩ := s.followPlans_shape; rw [h]
@[simp] theorem State.followPlans_plan (s : State) (d : Nat) : (s.followPlans).plan d = s.plan d := plan_congr (State.followPlans_plans ..) d

theorem State.settle_shape (s : State) (c : Nat) : ∃ x0 x1, s.settle c = { s with objs := x0, waitStep := x1 } := by
  unfold State.settle
  split
  · exact s.applyStep_shape c
  · exact ⟨_, _, rfl⟩

@[simp] theorem State.settle_pending (s : State) (c : Nat) : (s.settle c).pending = s.pending := by
  obtain ⟨_, _, h⟩ := s.settle_shape c; rw [h]
@[simp] theorem State.settle_freeCtr (s : State) (c : Nat) : (s.settle c).freeCtr = s.freeCtr := by
  obtain ⟨_, _, h⟩ := s.settle_shape c; rw [h]
@[simp] theorem State.settle_cad (s : State) (c : Nat) : (s.settle c).cad = s.cad := by
  obtain ⟨_, _, h⟩ := s.settle_shape c; rw [h]
@[simp] theorem State.settle_plans (s : State) (c : Nat) : (s.settle c).plans = s.plans := by
  obtain ⟨_, _, h⟩ := s.settle_shape c; rw [h]
@[simp] theorem State.settle_items (s : State) (c : Nat) : (s.settle c).items = s.items := by
  obtain ⟨_, _, h⟩ := s.settle_shape c; rw [h]
@[simp] theorem State.settle_nextItem (s : State) (c : Nat) : (s.settle c).nextItem = s.nextItem := by
  obtain ⟨_, _, h⟩ := s.settle_shape c; rw [h]
@[simp] theorem State.settle_hbm (s : State) (c : Nat) : (s.settle c).hbm = s.hbm := by
  obtain ⟨_, _, h⟩ := s.settle_shape c; rw [h]
@[simp] theorem State.settle_fm (s : State) (c : Nat) : (s.settle c).fm = s.fm := by
  obtain ⟨_, _, h⟩ := s.settle_shape c; rw [h]
@[simp] theorem State.settle_queues (s : State) (c : Nat) : (s.settle c).queues = s.queues := by
  obtain ⟨_, _, h⟩ := s.settle_shape c; rw [h]
@[simp] theorem State.settle_summary (s : State) (c : Nat) : (s.settle c).summary = s.summary := by
  obtain ⟨_, _, h⟩ := s.settle_shape c; rw [h]
@[simp] theorem State.settle_pools (s : State) (c : Nat) : (s.settle c).pools = s.pools := by
  obtain ⟨_, _, h⟩ := s.settle_shape c; rw [h]
@[simp] theorem State.settle_log (s : State) (c : Nat) : (s.settle c).log = s.log := by
  obtain ⟨_, _, h⟩ := s.settle_shape c; rw [h]
@[simp] theorem State.settle_rcv (s : State) (c : Nat) : (s.settle c).rcv = s.rcv := by
  obtain ⟨_, _, h⟩ := s.settle_shape c; rw [h]
@[simp] theorem State.settle_sec (s : State) (c : Nat) : (s.settle c).sec = s.sec := by
  obtain ⟨_, _, h⟩ := s.settle_shape c; rw [h]
@[simp] theorem State.settle_dict (s : State) (c : Nat) : (s.settle c).dict = s.dict := by
  obtain ⟨_, _, h⟩ := s.settle_shape c; rw [h]
@[simp] theorem State.settle_power (s : State) (c : Nat) : (s.settle c).power = s.power := by
  obtain ⟨_, _, h⟩ := s.settle_shape c; rw [h]
@[simp] theorem State.settle_flash (s : State) (c : Nat) : (s.settle c).flash = s.flash := by
  obtain ⟨_, _, h⟩ := s.settle_shape c; rw [h]
@[simp] theorem State.settle_maint (s : State) (c : Nat) : (s.settle c).maint = s.maint := by
  obtain ⟨_, _, h⟩ := s.settle_shape c; rw [h]
@[simp] theorem State.settle_waitBeat (s : State) (c : Nat) : (s.settle c).waitBeat = s.waitBeat := by
  obtain ⟨_, _, h⟩ := s.settle_shape c; rw [h]
@[simp] theorem State.settle_waitReset (s : State) (c : Nat) : (s.settle c).waitReset = s.waitReset := by
  obtain ⟨_, _, h⟩ := s.settle_shape c; rw [h]
@[simp] theorem State.settle_pins (s : State) (c : Nat) : (s.settle c).pins = s.pins := by
  obtain ⟨_, _, h⟩ := s.settle_shape c; rw [h]
@[simp] theorem State.settle_facets (s : State) (c : Nat) : (s.settle c).facets = s.facets := by
  obtain ⟨_, _, h⟩ := s.settle_shape c; rw [h]
@[simp] theorem State.settle_spokes (s : State) (c : Nat) : (s.settle c).spokes = s.spokes := by
  obtain ⟨_, _, h⟩ := s.settle_shape c; rw [h]
@[simp] theorem State.settle_hup (s : State) (c : Nat) : (s.settle c).hup = s.hup := by
  obtain ⟨_, _, h⟩ := s.settle_shape c; rw [h]
@[simp] theorem State.settle_fab (s : State) (c : Nat) : (s.settle c).fab = s.fab := by
  obtain ⟨_, _, h⟩ := s.settle_shape c; rw [h]
@[simp] theorem State.settle_maps (s : State) (c : Nat) : (s.settle c).maps = s.maps := by
  obtain ⟨_, _, h⟩ := s.settle_shape c; rw [h]
@[simp] theorem State.settle_router (s : State) (c : Nat) : (s.settle c).router = s.router := by
  obtain ⟨_, _, h⟩ := s.settle_shape c; rw [h]
@[simp] theorem State.settle_outgoing (s : State) (c : Nat) : (s.settle c).outgoing = s.outgoing := by
  obtain ⟨_, _, h⟩ := s.settle_shape c; rw [h]
@[simp] theorem State.settle_coll (s : State) (c : Nat) : (s.settle c).coll = s.coll := by
  obtain ⟨_, _, h⟩ := s.settle_shape c; rw [h]
@[simp] theorem State.settle_slotSerial (s : State) (c : Nat) : (s.settle c).slotSerial = s.slotSerial := by
  obtain ⟨_, _, h⟩ := s.settle_shape c; rw [h]
@[simp] theorem State.settle_out (s : State) (c : Nat) : (s.settle c).out = s.out := by
  obtain ⟨_, _, h⟩ := s.settle_shape c; rw [h]
@[simp] theorem State.settle_plan (s : State) (c : Nat) (d : Nat) : (s.settle c).plan d = s.plan d := plan_congr (State.settle_plans ..) d

theorem State.planTo_shape (s : State) (c st : Nat) : ∃ x0 x1 x2 x3 x4, s.planTo c st = { s with objs := x0, maint := x1, cad := x2, dict := x3, waitStep := x4 } := by
  unfold State.planTo
  dsimp only
  generalize hx : (if st = planRunning then s.setReg Obj.PLAN_STATE c st else _) = x
  have hs : ∃ o m, x = { s with objs := o, maint := m } := by
    rw [← hx]; split <;> exact ⟨_, _, rfl⟩
  obtain ⟨_, _, h0⟩ := hs
  obtain ⟨_, _, _, h1⟩ := x.followPlans_shape
  obtain ⟨_, _, h2⟩ := x.followPlans.settle_shape c
  rw [h2, h1, h0]; exact ⟨_, _, _, _, _, rfl⟩

@[simp] theorem State.planTo_pending (s : State) (c st : Nat) : (s.planTo c st).pending = s.pending := by
  obtain ⟨_, _, _, _, _, h⟩ := s.planTo_shape c st; rw [h]
@[simp] theorem State.planTo_freeCtr (s : State) (c st : Nat) : (s.planTo c st).freeCtr = s.freeCtr := by
  obtain ⟨_, _, _, _, _, h⟩ := s.planTo_shape c st; rw [h]
@[simp] theorem State.planTo_plans (s : State) (c st : Nat) : (s.planTo c st).plans = s.plans := by
  obtain ⟨_, _, _, _, _, h⟩ := s.planTo_shape c st; rw [h]
@[simp] theorem State.planTo_items (s : State) (c st : Nat) : (s.planTo c st).items = s.items := by
  obtain ⟨_, _, _, _, _, h⟩ := s.planTo_shape c st; rw [h]
@[simp] theorem State.planTo_nextItem (s : State) (c st : Nat) : (s.planTo c st).nextItem = s.nextItem := by
  obtain ⟨_, _, _, _, _, h⟩ := s.planTo_shape c st; rw [h]
@[simp] theorem State.planTo_hbm (s : State) (c st : Nat) : (s.planTo c st).hbm = s.hbm := by
  obtain ⟨_, _, _, _, _, h⟩ := s.planTo_shape c st; rw [h]
@[simp] theorem State.planTo_fm (s : State) (c st : Nat) : (s.planTo c st).fm = s.fm := by
  obtain ⟨_, _, _, _, _, h⟩ := s.planTo_shape c st; rw [h]
@[simp] theorem State.planTo_queues (s : State) (c st : Nat) : (s.planTo c st).queues = s.queues := by
  obtain ⟨_, _, _, _, _, h⟩ := s.planTo_shape c st; rw [h]
@[simp] theorem State.planTo_summary (s : State) (c st : Nat) : (s.planTo c st).summary = s.summary := by
  obtain ⟨_, _, _, _, _, h⟩ := s.planTo_shape c st; rw [h]
@[simp] theorem State.planTo_pools (s : State) (c st : Nat) : (s.planTo c st).pools = s.pools := by
  obtain ⟨_, _, _, _, _, h⟩ := s.planTo_shape c st; rw [h]
@[simp] theorem State.planTo_log (s : State) (c st : Nat) : (s.planTo c st).log = s.log := by
  obtain ⟨_, _, _, _, _, h⟩ := s.planTo_shape c st; rw [h]
@[simp] theorem State.planTo_rcv (s : State) (c st : Nat) : (s.planTo c st).rcv = s.rcv := by
  obtain ⟨_, _, _, _, _, h⟩ := s.planTo_shape c st; rw [h]
@[simp] theorem State.planTo_sec (s : State) (c st : Nat) : (s.planTo c st).sec = s.sec := by
  obtain ⟨_, _, _, _, _, h⟩ := s.planTo_shape c st; rw [h]
@[simp] theorem State.planTo_power (s : State) (c st : Nat) : (s.planTo c st).power = s.power := by
  obtain ⟨_, _, _, _, _, h⟩ := s.planTo_shape c st; rw [h]
@[simp] theorem State.planTo_flash (s : State) (c st : Nat) : (s.planTo c st).flash = s.flash := by
  obtain ⟨_, _, _, _, _, h⟩ := s.planTo_shape c st; rw [h]
@[simp] theorem State.planTo_waitBeat (s : State) (c st : Nat) : (s.planTo c st).waitBeat = s.waitBeat := by
  obtain ⟨_, _, _, _, _, h⟩ := s.planTo_shape c st; rw [h]
@[simp] theorem State.planTo_waitReset (s : State) (c st : Nat) : (s.planTo c st).waitReset = s.waitReset := by
  obtain ⟨_, _, _, _, _, h⟩ := s.planTo_shape c st; rw [h]
@[simp] theorem State.planTo_pins (s : State) (c st : Nat) : (s.planTo c st).pins = s.pins := by
  obtain ⟨_, _, _, _, _, h⟩ := s.planTo_shape c st; rw [h]
@[simp] theorem State.planTo_facets (s : State) (c st : Nat) : (s.planTo c st).facets = s.facets := by
  obtain ⟨_, _, _, _, _, h⟩ := s.planTo_shape c st; rw [h]
@[simp] theorem State.planTo_spokes (s : State) (c st : Nat) : (s.planTo c st).spokes = s.spokes := by
  obtain ⟨_, _, _, _, _, h⟩ := s.planTo_shape c st; rw [h]
@[simp] theorem State.planTo_hup (s : State) (c st : Nat) : (s.planTo c st).hup = s.hup := by
  obtain ⟨_, _, _, _, _, h⟩ := s.planTo_shape c st; rw [h]
@[simp] theorem State.planTo_fab (s : State) (c st : Nat) : (s.planTo c st).fab = s.fab := by
  obtain ⟨_, _, _, _, _, h⟩ := s.planTo_shape c st; rw [h]
@[simp] theorem State.planTo_maps (s : State) (c st : Nat) : (s.planTo c st).maps = s.maps := by
  obtain ⟨_, _, _, _, _, h⟩ := s.planTo_shape c st; rw [h]
@[simp] theorem State.planTo_router (s : State) (c st : Nat) : (s.planTo c st).router = s.router := by
  obtain ⟨_, _, _, _, _, h⟩ := s.planTo_shape c st; rw [h]
@[simp] theorem State.planTo_outgoing (s : State) (c st : Nat) : (s.planTo c st).outgoing = s.outgoing := by
  obtain ⟨_, _, _, _, _, h⟩ := s.planTo_shape c st; rw [h]
@[simp] theorem State.planTo_coll (s : State) (c st : Nat) : (s.planTo c st).coll = s.coll := by
  obtain ⟨_, _, _, _, _, h⟩ := s.planTo_shape c st; rw [h]
@[simp] theorem State.planTo_slotSerial (s : State) (c st : Nat) : (s.planTo c st).slotSerial = s.slotSerial := by
  obtain ⟨_, _, _, _, _, h⟩ := s.planTo_shape c st; rw [h]
@[simp] theorem State.planTo_out (s : State) (c st : Nat) : (s.planTo c st).out = s.out := by
  obtain ⟨_, _, _, _, _, h⟩ := s.planTo_shape c st; rw [h]
@[simp] theorem State.planTo_plan (s : State) (c st : Nat) (d : Nat) : (s.planTo c st).plan d = s.plan d := plan_congr (State.planTo_plans ..) d

theorem State.haltPlan_shape (s : State) (c cause slot : Nat) : ∃ x0 x1 x2 x3 x4 x5 x6 x7, s.haltPlan c cause slot = { s with objs := x0, log := x1, pins := x2, out := x3, maint := x4, cad := x5, dict := x6, waitStep := x7 } := by
  unfold State.haltPlan
  split
  · dsimp only
    generalize he : ({ code := 0x060, sub := 14, ctx := c, slot := slot, info0 := Config.causeCode cause, info1 := slot } : Event) = e
    obtain ⟨_, _, _, _, h1⟩ := s.log!_shape e
    obtain ⟨_, _, _, _, _, h2⟩ := (s.log! e).planTo_shape c planHalted
    rw [h2, h1]; exact ⟨_, _, _, _, _, _, _, _, rfl⟩
  · exact ⟨_, _, _, _, _, _, _, _, rfl⟩

@[simp] theorem State.haltPlan_pending (s : State) (c cause slot : Nat) : (s.haltPlan c cause slot).pending = s.pending := by
  obtain ⟨_, _, _, _, _, _, _, _, h⟩ := s.haltPlan_shape c cause slot; rw [h]
@[simp] theorem State.haltPlan_freeCtr (s : State) (c cause slot : Nat) : (s.haltPlan c cause slot).freeCtr = s.freeCtr := by
  obtain ⟨_, _, _, _, _, _, _, _, h⟩ := s.haltPlan_shape c cause slot; rw [h]
@[simp] theorem State.haltPlan_plans (s : State) (c cause slot : Nat) : (s.haltPlan c cause slot).plans = s.plans := by
  obtain ⟨_, _, _, _, _, _, _, _, h⟩ := s.haltPlan_shape c cause slot; rw [h]
@[simp] theorem State.haltPlan_items (s : State) (c cause slot : Nat) : (s.haltPlan c cause slot).items = s.items := by
  obtain ⟨_, _, _, _, _, _, _, _, h⟩ := s.haltPlan_shape c cause slot; rw [h]
@[simp] theorem State.haltPlan_nextItem (s : State) (c cause slot : Nat) : (s.haltPlan c cause slot).nextItem = s.nextItem := by
  obtain ⟨_, _, _, _, _, _, _, _, h⟩ := s.haltPlan_shape c cause slot; rw [h]
@[simp] theorem State.haltPlan_hbm (s : State) (c cause slot : Nat) : (s.haltPlan c cause slot).hbm = s.hbm := by
  obtain ⟨_, _, _, _, _, _, _, _, h⟩ := s.haltPlan_shape c cause slot; rw [h]
@[simp] theorem State.haltPlan_fm (s : State) (c cause slot : Nat) : (s.haltPlan c cause slot).fm = s.fm := by
  obtain ⟨_, _, _, _, _, _, _, _, h⟩ := s.haltPlan_shape c cause slot; rw [h]
@[simp] theorem State.haltPlan_queues (s : State) (c cause slot : Nat) : (s.haltPlan c cause slot).queues = s.queues := by
  obtain ⟨_, _, _, _, _, _, _, _, h⟩ := s.haltPlan_shape c cause slot; rw [h]
@[simp] theorem State.haltPlan_summary (s : State) (c cause slot : Nat) : (s.haltPlan c cause slot).summary = s.summary := by
  obtain ⟨_, _, _, _, _, _, _, _, h⟩ := s.haltPlan_shape c cause slot; rw [h]
@[simp] theorem State.haltPlan_pools (s : State) (c cause slot : Nat) : (s.haltPlan c cause slot).pools = s.pools := by
  obtain ⟨_, _, _, _, _, _, _, _, h⟩ := s.haltPlan_shape c cause slot; rw [h]
@[simp] theorem State.haltPlan_rcv (s : State) (c cause slot : Nat) : (s.haltPlan c cause slot).rcv = s.rcv := by
  obtain ⟨_, _, _, _, _, _, _, _, h⟩ := s.haltPlan_shape c cause slot; rw [h]
@[simp] theorem State.haltPlan_sec (s : State) (c cause slot : Nat) : (s.haltPlan c cause slot).sec = s.sec := by
  obtain ⟨_, _, _, _, _, _, _, _, h⟩ := s.haltPlan_shape c cause slot; rw [h]
@[simp] theorem State.haltPlan_power (s : State) (c cause slot : Nat) : (s.haltPlan c cause slot).power = s.power := by
  obtain ⟨_, _, _, _, _, _, _, _, h⟩ := s.haltPlan_shape c cause slot; rw [h]
@[simp] theorem State.haltPlan_flash (s : State) (c cause slot : Nat) : (s.haltPlan c cause slot).flash = s.flash := by
  obtain ⟨_, _, _, _, _, _, _, _, h⟩ := s.haltPlan_shape c cause slot; rw [h]
@[simp] theorem State.haltPlan_waitBeat (s : State) (c cause slot : Nat) : (s.haltPlan c cause slot).waitBeat = s.waitBeat := by
  obtain ⟨_, _, _, _, _, _, _, _, h⟩ := s.haltPlan_shape c cause slot; rw [h]
@[simp] theorem State.haltPlan_waitReset (s : State) (c cause slot : Nat) : (s.haltPlan c cause slot).waitReset = s.waitReset := by
  obtain ⟨_, _, _, _, _, _, _, _, h⟩ := s.haltPlan_shape c cause slot; rw [h]
@[simp] theorem State.haltPlan_facets (s : State) (c cause slot : Nat) : (s.haltPlan c cause slot).facets = s.facets := by
  obtain ⟨_, _, _, _, _, _, _, _, h⟩ := s.haltPlan_shape c cause slot; rw [h]
@[simp] theorem State.haltPlan_spokes (s : State) (c cause slot : Nat) : (s.haltPlan c cause slot).spokes = s.spokes := by
  obtain ⟨_, _, _, _, _, _, _, _, h⟩ := s.haltPlan_shape c cause slot; rw [h]
@[simp] theorem State.haltPlan_hup (s : State) (c cause slot : Nat) : (s.haltPlan c cause slot).hup = s.hup := by
  obtain ⟨_, _, _, _, _, _, _, _, h⟩ := s.haltPlan_shape c cause slot; rw [h]
@[simp] theorem State.haltPlan_fab (s : State) (c cause slot : Nat) : (s.haltPlan c cause slot).fab = s.fab := by
  obtain ⟨_, _, _, _, _, _, _, _, h⟩ := s.haltPlan_shape c cause slot; rw [h]
@[simp] theorem State.haltPlan_maps (s : State) (c cause slot : Nat) : (s.haltPlan c cause slot).maps = s.maps := by
  obtain ⟨_, _, _, _, _, _, _, _, h⟩ := s.haltPlan_shape c cause slot; rw [h]
@[simp] theorem State.haltPlan_router (s : State) (c cause slot : Nat) : (s.haltPlan c cause slot).router = s.router := by
  obtain ⟨_, _, _, _, _, _, _, _, h⟩ := s.haltPlan_shape c cause slot; rw [h]
@[simp] theorem State.haltPlan_outgoing (s : State) (c cause slot : Nat) : (s.haltPlan c cause slot).outgoing = s.outgoing := by
  obtain ⟨_, _, _, _, _, _, _, _, h⟩ := s.haltPlan_shape c cause slot; rw [h]
@[simp] theorem State.haltPlan_coll (s : State) (c cause slot : Nat) : (s.haltPlan c cause slot).coll = s.coll := by
  obtain ⟨_, _, _, _, _, _, _, _, h⟩ := s.haltPlan_shape c cause slot; rw [h]
@[simp] theorem State.haltPlan_slotSerial (s : State) (c cause slot : Nat) : (s.haltPlan c cause slot).slotSerial = s.slotSerial := by
  obtain ⟨_, _, _, _, _, _, _, _, h⟩ := s.haltPlan_shape c cause slot; rw [h]
@[simp] theorem State.haltPlan_plan (s : State) (c cause slot : Nat) (d : Nat) : (s.haltPlan c cause slot).plan d = s.plan d := plan_congr (State.haltPlan_plans ..) d

/-- A device state change leaves every register but DEVICE_STATE and DEVICE_STATE_INFO. -/
theorem regF_goTo (s : State) (st cause : Nat) (p : ObjDef) (sub i : Nat) (h : p.key sub ≠ Obj.DEVICE_STATE.key 0)
    (h' : p.key sub ≠ Obj.DEVICE_STATE_INFO.key 0) : (s.goTo st cause).regF p sub i = s.regF p sub i := by
  unfold State.goTo
  dsimp only
  rw [regF_congr (State.closeUnserved_objs _), regF_setFields_other _ _ _ _ _ _ _ h', regF_setReg_other _ _ _ _ _ _ _ h]
  exact regF_congr rfl ..

theorem regF_enter (s : State) (st cause : Nat) (p : ObjDef) (sub i : Nat) (h : p.key sub ≠ Obj.DEVICE_STATE.key 0)
    (h' : p.key sub ≠ Obj.DEVICE_STATE_INFO.key 0) : (s.enter st cause).regF p sub i = s.regF p sub i := by
  unfold State.enter
  split
  · rfl
  · exact regF_goTo _ _ _ _ _ _ h h'

/-- The device state and its record after a change. -/
theorem devState_goTo (s : State) (st cause : Nat) : (s.goTo st cause).devState = st := by
  show State.regF _ _ _ _ = st
  unfold State.goTo
  dsimp only
  rw [regF_congr (State.closeUnserved_objs _), regF_setFields_other _ _ _ _ _ _ _ (by decide)]
  exact regF_setRegF_same ..

theorem devState_enter (s : State) (st cause : Nat) : (s.enter st cause).devState = st := by
  unfold State.enter
  split
  · assumption
  · exact devState_goTo ..

theorem regF_followPlans (s : State) (p : ObjDef) (sub i : Nat) (h : p.key sub ≠ Obj.DEVICE_STATE.key 0)
    (h' : p.key sub ≠ Obj.DEVICE_STATE_INFO.key 0) : s.followPlans.regF p sub i = s.regF p sub i := by
  unfold State.followPlans
  repeat' split
  · exact regF_enter _ _ _ _ _ _ h h'
  · exact regF_enter _ _ _ _ _ _ h h'
  · rfl

theorem putAll_other (l : List (Nat × List Nat)) (t : Table (List Nat)) (k : Nat) (h : ∀ e ∈ l, e.1 ≠ k) :
    tfind (putAll t l) k = tfind t k := by
  induction l generalizing t with
  | nil => rfl
  | cons e r ih =>
    obtain ⟨j, v⟩ := e
    simp only [putAll]
    rw [ih _ (fun x hx => h x (List.mem_cons_of_mem _ hx))]
    exact tfind_tset_other _ _ _ _ (Ne.symm (h (j, v) (List.mem_cons_self ..)))

/-- Values that await a step change only the registers they are for. -/
theorem regF_applyStep (s : State) (c : Nat) (p : ObjDef) (sub i : Nat) (h : ∀ e ∈ s.waitStep, e.1 ≠ p.key sub) :
    (s.applyStep c).regF p sub i = s.regF p sub i := by
  unfold State.applyStep State.regF
  dsimp only
  rw [putAll_other _ _ _ (fun e he => h e (List.mem_filter.mp he).1)]

theorem regF_settle (s : State) (c : Nat) (p : ObjDef) (sub i : Nat) (h : ∀ e ∈ s.waitStep, e.1 ≠ p.key sub) :
    (s.settle c).regF p sub i = s.regF p sub i := by
  unfold State.settle
  split
  · exact regF_applyStep _ _ _ _ _ h
  · rfl

/-- A plan's new state is read back, unless a value that awaits a step of the context is for PLAN_STATE itself. -/
theorem planState_planTo (s : State) (c st : Nat) (h : ∀ e ∈ s.waitStep, e.1 ≠ Obj.PLAN_STATE.key c)
    (hd : Obj.PLAN_STATE.key c ≠ Obj.DEVICE_STATE.key 0) (hi : Obj.PLAN_STATE.key c ≠ Obj.DEVICE_STATE_INFO.key 0) :
    (s.planTo c st).planState c = st := by
  show State.regF _ _ _ _ = st
  unfold State.planTo
  dsimp only
  rw [regF_settle, regF_followPlans _ _ _ _ hd hi]
  · split
    · exact regF_setRegF_same ..
    · exact (regF_congr rfl ..).trans (regF_setRegF_same ..)
  · split <;> simpa using h

theorem clearEach_shape (c : Nat) (l : List ObjDef) (s : State) :
    ∃ o, l.foldl (fun s o => State.clearReg s o c) s = { s with objs := o } := by
  induction l generalizing s with
  | nil => exact ⟨_, rfl⟩
  | cons a r ih => obtain ⟨o, h⟩ := ih (s.clearReg a c); exact ⟨o, by rw [List.foldl_cons, h]; rfl⟩

theorem clearEach_other (c : Nat) (l : List ObjDef) (s : State) (p : ObjDef) (sub i : Nat)
    (h : p.key sub ∉ l.map (fun o => o.key c)) :
    (l.foldl (fun s o => State.clearReg s o c) s).regF p sub i = s.regF p sub i := by
  induction l generalizing s with
  | nil => rfl
  | cons a r ih =>
    simp only [List.map_cons, List.mem_cons, not_or] at h
    rw [List.foldl_cons, ih _ h.2, regF_clearReg_other _ _ _ _ _ _ h.1]

theorem clearEach_same (c : Nat) (l : List ObjDef) (s : State) (o : ObjDef) (hd : (l.map (·.index)).Nodup) (ho : o ∈ l) :
    (l.foldl (fun s o => State.clearReg s o c) s).reg o c = o.defaultField 0 := by
  induction l generalizing s with
  | nil => cases ho
  | cons a r ih =>
    simp only [List.map_cons, List.nodup_cons] at hd
    rw [List.foldl_cons]
    rcases List.mem_cons.mp ho with rfl | h
    · show State.regF _ _ _ _ = _
      rw [clearEach_other]
      · exact regF_clearReg_same ..
      · intro hm
        obtain ⟨b, hb, he⟩ := List.mem_map.mp hm
        exact hd.1 (List.mem_map.mpr ⟨b, hb, by simp only [ObjDef.key] at he; omega⟩)
    · exact ih _ hd.2 h

theorem contextCounters_index : ∀ b ∈ contextCounters, b.index ≠ Obj.PLAN_STATE.index ∧ b.defaultField 0 = 0 := by decide

theorem contextCounters_nodup : (contextCounters.map (·.index)).Nodup := by decide

theorem State.clearCounters_shape (s : State) (c : Nat) : ∃ x0, s.clearCounters c = { s with objs := x0 } := by
  exact clearEach_shape ..

@[simp] theorem State.clearCounters_pending (s : State) (c : Nat) : (s.clearCounters c).pending = s.pending := by
  obtain ⟨_, h⟩ := s.clearCounters_shape c; rw [h]
@[simp] theorem State.clearCounters_freeCtr (s : State) (c : Nat) : (s.clearCounters c).freeCtr = s.freeCtr := by
  obtain ⟨_, h⟩ := s.clearCounters_shape c; rw [h]
@[simp] theorem State.clearCounters_cad (s : State) (c : Nat) : (s.clearCounters c).cad = s.cad := by
  obtain ⟨_, h⟩ := s.clearCounters_shape c; rw [h]
@[simp] theorem State.clearCounters_plans (s : State) (c : Nat) : (s.clearCounters c).plans = s.plans := by
  obtain ⟨_, h⟩ := s.clearCounters_shape c; rw [h]
@[simp] theorem State.clearCounters_items (s : State) (c : Nat) : (s.clearCounters c).items = s.items := by
  obtain ⟨_, h⟩ := s.clearCounters_shape c; rw [h]
@[simp] theorem State.clearCounters_nextItem (s : State) (c : Nat) : (s.clearCounters c).nextItem = s.nextItem := by
  obtain ⟨_, h⟩ := s.clearCounters_shape c; rw [h]
@[simp] theorem State.clearCounters_hbm (s : State) (c : Nat) : (s.clearCounters c).hbm = s.hbm := by
  obtain ⟨_, h⟩ := s.clearCounters_shape c; rw [h]
@[simp] theorem State.clearCounters_fm (s : State) (c : Nat) : (s.clearCounters c).fm = s.fm := by
  obtain ⟨_, h⟩ := s.clearCounters_shape c; rw [h]
@[simp] theorem State.clearCounters_queues (s : State) (c : Nat) : (s.clearCounters c).queues = s.queues := by
  obtain ⟨_, h⟩ := s.clearCounters_shape c; rw [h]
@[simp] theorem State.clearCounters_summary (s : State) (c : Nat) : (s.clearCounters c).summary = s.summary := by
  obtain ⟨_, h⟩ := s.clearCounters_shape c; rw [h]
@[simp] theorem State.clearCounters_pools (s : State) (c : Nat) : (s.clearCounters c).pools = s.pools := by
  obtain ⟨_, h⟩ := s.clearCounters_shape c; rw [h]
@[simp] theorem State.clearCounters_log (s : State) (c : Nat) : (s.clearCounters c).log = s.log := by
  obtain ⟨_, h⟩ := s.clearCounters_shape c; rw [h]
@[simp] theorem State.clearCounters_rcv (s : State) (c : Nat) : (s.clearCounters c).rcv = s.rcv := by
  obtain ⟨_, h⟩ := s.clearCounters_shape c; rw [h]
@[simp] theorem State.clearCounters_sec (s : State) (c : Nat) : (s.clearCounters c).sec = s.sec := by
  obtain ⟨_, h⟩ := s.clearCounters_shape c; rw [h]
@[simp] theorem State.clearCounters_dict (s : State) (c : Nat) : (s.clearCounters c).dict = s.dict := by
  obtain ⟨_, h⟩ := s.clearCounters_shape c; rw [h]
@[simp] theorem State.clearCounters_power (s : State) (c : Nat) : (s.clearCounters c).power = s.power := by
  obtain ⟨_, h⟩ := s.clearCounters_shape c; rw [h]
@[simp] theorem State.clearCounters_flash (s : State) (c : Nat) : (s.clearCounters c).flash = s.flash := by
  obtain ⟨_, h⟩ := s.clearCounters_shape c; rw [h]
@[simp] theorem State.clearCounters_maint (s : State) (c : Nat) : (s.clearCounters c).maint = s.maint := by
  obtain ⟨_, h⟩ := s.clearCounters_shape c; rw [h]
@[simp] theorem State.clearCounters_waitBeat (s : State) (c : Nat) : (s.clearCounters c).waitBeat = s.waitBeat := by
  obtain ⟨_, h⟩ := s.clearCounters_shape c; rw [h]
@[simp] theorem State.clearCounters_waitStep (s : State) (c : Nat) : (s.clearCounters c).waitStep = s.waitStep := by
  obtain ⟨_, h⟩ := s.clearCounters_shape c; rw [h]
@[simp] theorem State.clearCounters_waitReset (s : State) (c : Nat) : (s.clearCounters c).waitReset = s.waitReset := by
  obtain ⟨_, h⟩ := s.clearCounters_shape c; rw [h]
@[simp] theorem State.clearCounters_pins (s : State) (c : Nat) : (s.clearCounters c).pins = s.pins := by
  obtain ⟨_, h⟩ := s.clearCounters_shape c; rw [h]
@[simp] theorem State.clearCounters_facets (s : State) (c : Nat) : (s.clearCounters c).facets = s.facets := by
  obtain ⟨_, h⟩ := s.clearCounters_shape c; rw [h]
@[simp] theorem State.clearCounters_spokes (s : State) (c : Nat) : (s.clearCounters c).spokes = s.spokes := by
  obtain ⟨_, h⟩ := s.clearCounters_shape c; rw [h]
@[simp] theorem State.clearCounters_hup (s : State) (c : Nat) : (s.clearCounters c).hup = s.hup := by
  obtain ⟨_, h⟩ := s.clearCounters_shape c; rw [h]
@[simp] theorem State.clearCounters_fab (s : State) (c : Nat) : (s.clearCounters c).fab = s.fab := by
  obtain ⟨_, h⟩ := s.clearCounters_shape c; rw [h]
@[simp] theorem State.clearCounters_maps (s : State) (c : Nat) : (s.clearCounters c).maps = s.maps := by
  obtain ⟨_, h⟩ := s.clearCounters_shape c; rw [h]
@[simp] theorem State.clearCounters_router (s : State) (c : Nat) : (s.clearCounters c).router = s.router := by
  obtain ⟨_, h⟩ := s.clearCounters_shape c; rw [h]
@[simp] theorem State.clearCounters_outgoing (s : State) (c : Nat) : (s.clearCounters c).outgoing = s.outgoing := by
  obtain ⟨_, h⟩ := s.clearCounters_shape c; rw [h]
@[simp] theorem State.clearCounters_coll (s : State) (c : Nat) : (s.clearCounters c).coll = s.coll := by
  obtain ⟨_, h⟩ := s.clearCounters_shape c; rw [h]
@[simp] theorem State.clearCounters_slotSerial (s : State) (c : Nat) : (s.clearCounters c).slotSerial = s.slotSerial := by
  obtain ⟨_, h⟩ := s.clearCounters_shape c; rw [h]
@[simp] theorem State.clearCounters_out (s : State) (c : Nat) : (s.clearCounters c).out = s.out := by
  obtain ⟨_, h⟩ := s.clearCounters_shape c; rw [h]
@[simp] theorem State.clearCounters_plan (s : State) (c : Nat) (d : Nat) : (s.clearCounters c).plan d = s.plan d := plan_congr (State.clearCounters_plans ..) d

/-- The counters that LOAD and a context reset clear read 0 after it. -/
theorem reg_clearCounters (s : State) (c : Nat) (o : ObjDef) (h : o ∈ contextCounters) : (s.clearCounters c).reg o c = 0 :=
  (clearEach_same c _ s o contextCounters_nodup h).trans (contextCounters_index o h).2

theorem regF_clearCounters (s : State) (c : Nat) (p : ObjDef) (sub i : Nat)
    (h : p.key sub ∉ contextCounters.map (fun o => o.key c)) : (s.clearCounters c).regF p sub i = s.regF p sub i :=
  clearEach_other c _ s p sub i h

theorem planState_clearCounters (s : State) (c : Nat) : (s.clearCounters c).planState c = s.planState c :=
  regF_clearCounters s c Obj.PLAN_STATE c 0 (fun hm => by
    obtain ⟨b, hb, he⟩ := List.mem_map.mp hm
    exact (contextCounters_index b hb).1 (by simp only [ObjDef.key] at he; omega))

end Sys2Proof.Machine
end

