-- ==== Sys2Proof/Laws/Beats.lean ====
section
/-! SUPPORT. Sys2Proof/Laws/Beats.lean: the election of the beat master, and a beat edge at which nothing is due. -/

namespace Sys2Proof.Machine

theorem State.elect_shape (s : State) : ∃ x0, s.elect = { s with objs := x0 } := by
  unfold State.elect
  dsimp only
  repeat' split
  all_goals exact ⟨_, rfl⟩

@[simp] theorem State.elect_pending (s : State) : (s.elect).pending = s.pending := by
  obtain ⟨_, h⟩ := s.elect_shape; rw [h]
@[simp] theorem State.elect_freeCtr (s : State) : (s.elect).freeCtr = s.freeCtr := by
  obtain ⟨_, h⟩ := s.elect_shape; rw [h]
@[simp] theorem State.elect_cad (s : State) : (s.elect).cad = s.cad := by
  obtain ⟨_, h⟩ := s.elect_shape; rw [h]
@[simp] theorem State.elect_plans (s : State) : (s.elect).plans = s.plans := by
  obtain ⟨_, h⟩ := s.elect_shape; rw [h]
@[simp] theorem State.elect_items (s : State) : (s.elect).items = s.items := by
  obtain ⟨_, h⟩ := s.elect_shape; rw [h]
@[simp] theorem State.elect_nextItem (s : State) : (s.elect).nextItem = s.nextItem := by
  obtain ⟨_, h⟩ := s.elect_shape; rw [h]
@[simp] theorem State.elect_hbm (s : State) : (s.elect).hbm = s.hbm := by
  obtain ⟨_, h⟩ := s.elect_shape; rw [h]
@[simp] theorem State.elect_fm (s : State) : (s.elect).fm = s.fm := by
  obtain ⟨_, h⟩ := s.elect_shape; rw [h]
@[simp] theorem State.elect_queues (s : State) : (s.elect).queues = s.queues := by
  obtain ⟨_, h⟩ := s.elect_shape; rw [h]
@[simp] theorem State.elect_summary (s : State) : (s.elect).summary = s.summary := by
  obtain ⟨_, h⟩ := s.elect_shape; rw [h]
@[simp] theorem State.elect_pools (s : State) : (s.elect).pools = s.pools := by
  obtain ⟨_, h⟩ := s.elect_shape; rw [h]
@[simp] theorem State.elect_log (s : State) : (s.elect).log = s.log := by
  obtain ⟨_, h⟩ := s.elect_shape; rw [h]
@[simp] theorem State.elect_rcv (s : State) : (s.elect).rcv = s.rcv := by
  obtain ⟨_, h⟩ := s.elect_shape; rw [h]
@[simp] theorem State.elect_sec (s : State) : (s.elect).sec = s.sec := by
  obtain ⟨_, h⟩ := s.elect_shape; rw [h]
@[simp] theorem State.elect_dict (s : State) : (s.elect).dict = s.dict := by
  obtain ⟨_, h⟩ := s.elect_shape; rw [h]
@[simp] theorem State.elect_power (s : State) : (s.elect).power = s.power := by
  obtain ⟨_, h⟩ := s.elect_shape; rw [h]
@[simp] theorem State.elect_flash (s : State) : (s.elect).flash = s.flash := by
  obtain ⟨_, h⟩ := s.elect_shape; rw [h]
@[simp] theorem State.elect_maint (s : State) : (s.elect).maint = s.maint := by
  obtain ⟨_, h⟩ := s.elect_shape; rw [h]
@[simp] theorem State.elect_waitBeat (s : State) : (s.elect).waitBeat = s.waitBeat := by
  obtain ⟨_, h⟩ := s.elect_shape; rw [h]
@[simp] theorem State.elect_waitStep (s : State) : (s.elect).waitStep = s.waitStep := by
  obtain ⟨_, h⟩ := s.elect_shape; rw [h]
@[simp] theorem State.elect_waitReset (s : State) : (s.elect).waitReset = s.waitReset := by
  obtain ⟨_, h⟩ := s.elect_shape; rw [h]
@[simp] theorem State.elect_pins (s : State) : (s.elect).pins = s.pins := by
  obtain ⟨_, h⟩ := s.elect_shape; rw [h]
@[simp] theorem State.elect_facets (s : State) : (s.elect).facets = s.facets := by
  obtain ⟨_, h⟩ := s.elect_shape; rw [h]
@[simp] theorem State.elect_spokes (s : State) : (s.elect).spokes = s.spokes := by
  obtain ⟨_, h⟩ := s.elect_shape; rw [h]
@[simp] theorem State.elect_hup (s : State) : (s.elect).hup = s.hup := by
  obtain ⟨_, h⟩ := s.elect_shape; rw [h]
@[simp] theorem State.elect_fab (s : State) : (s.elect).fab = s.fab := by
  obtain ⟨_, h⟩ := s.elect_shape; rw [h]
@[simp] theorem State.elect_maps (s : State) : (s.elect).maps = s.maps := by
  obtain ⟨_, h⟩ := s.elect_shape; rw [h]
@[simp] theorem State.elect_router (s : State) : (s.elect).router = s.router := by
  obtain ⟨_, h⟩ := s.elect_shape; rw [h]
@[simp] theorem State.elect_outgoing (s : State) : (s.elect).outgoing = s.outgoing := by
  obtain ⟨_, h⟩ := s.elect_shape; rw [h]
@[simp] theorem State.elect_coll (s : State) : (s.elect).coll = s.coll := by
  obtain ⟨_, h⟩ := s.elect_shape; rw [h]
@[simp] theorem State.elect_slotSerial (s : State) : (s.elect).slotSerial = s.slotSerial := by
  obtain ⟨_, h⟩ := s.elect_shape; rw [h]
@[simp] theorem State.elect_out (s : State) : (s.elect).out = s.out := by
  obtain ⟨_, h⟩ := s.elect_shape; rw [h]
@[simp] theorem State.elect_plan (s : State) (d : Nat) : (s.elect).plan d = s.plan d := plan_congr (State.elect_plans ..) d

/-- The election changes four registers at most. -/
theorem regF_elect (s : State) (p : ObjDef) (sub i : Nat) (h : p.key sub ∉ electKeys) : s.elect.regF p sub i = s.regF p sub i := by
  simp only [electKeys, List.mem_cons, List.not_mem_nil, or_false, not_or] at h
  obtain ⟨h1, h2, h3, h4⟩ := h
  have k1 : ∀ (t : State) v, (t.setReg Obj.BEAT_MASTER_NODE 0 v).regF p sub i = t.regF p sub i := fun t v => regF_setReg_other _ _ _ _ _ _ _ h1
  have k2 : ∀ (t : State) v, (t.setReg Obj.BEAT_UPSTREAM_SPOKE 0 v).regF p sub i = t.regF p sub i := fun t v => regF_setReg_other _ _ _ _ _ _ _ h2
  have k3 : ∀ (t : State) v, (t.setReg Obj.CADENCE_STATE 0 v).regF p sub i = t.regF p sub i := fun t v => regF_setReg_other _ _ _ _ _ _ _ h3
  have k4 : ∀ (t : State) v, (t.setReg Obj.TIME_STATE 0 v).regF p sub i = t.regF p sub i := fun t v => regF_setReg_other _ _ _ _ _ _ _ h4
  unfold State.elect
  dsimp only
  repeat' split
  all_goals simp only [k1, k2, k3, k4]

theorem foldl_same {α β : Type} (f : β → α → β) (l : List α) (s : β) (h : ∀ a ∈ l, f s a = s) : l.foldl f s = s := by
  induction l with
  | nil => rfl
  | cons a r ih =>
    rw [List.foldl_cons, h a (List.mem_cons_self ..)]
    exact ih (fun b hb => h b (List.mem_cons_of_mem _ hb))

/-- A context without a plan and without running slots is not touched at an edge. -/
theorem State.plansEdge_none (s : State) (h : ∀ c, c < 16 → (s.plan c).image = none ∧ (s.plan c).slots = []) : s.plansEdge = s := by
  have he : ∀ c, c < 16 → s.edgePlan c = none := by
    intro c hc
    unfold State.edgePlan
    split
    · rfl
    · exact (h c hc).1
  have h1 : (List.range 16).foldl (fun s c => s.closeWindows c) s = s :=
    foldl_same _ _ _ (fun c hc => by simp [State.closeWindows, (h c (List.mem_range.mp hc)).2])
  have h2 : (List.range 16).foldl (fun s c => s.planEdge c) s = s :=
    foldl_same _ _ _ (fun c hc => by simp [State.planEdge, he c (List.mem_range.mp hc)])
  have h3 : ∀ b, (List.range 16).foldl (fun s c => s.startsEdge c b) s = s := fun b =>
    foldl_same _ _ _ (fun c hc => by simp [State.startsEdge, he c (List.mem_range.mp hc)])
  unfold State.plansEdge
  dsimp only
  rw [h1, h2, h3, h3]

/-- An edge at which nothing is due elects the beat master, and no more. -/
theorem State.atEdge_calm (s : State) (h : s.Calm) : s.atEdge = s.elect := by
  obtain ⟨hw, -, hu, ht, hb, hp⟩ := h
  have h0 : s.applyBeat = s := by
    unfold State.applyBeat; rw [hw]; simp only [putAll]; rw [← hw]
  have hk : ∀ (o : ObjDef) (sub i : Nat), o.key sub ∉ electKeys → s.elect.regF o sub i = s.regF o sub i := regF_elect s
  have h1 : s.elect.sendBeatMarkers = s.elect := by
    unfold State.sendBeatMarkers
    apply foldl_same
    intro p hp'
    have : s.elect.spokeUp p = false := by
      rw [← hu p (List.mem_range.mp hp')]
      simp only [State.spokeUp, State.spokeState, State.reg]
      have hq := List.mem_range.mp hp'
      rw [hk]
      simp only [electKeys, ObjDef.key, Obj.SPOKE_STATE, Obj.BEAT_MASTER_NODE, Obj.BEAT_UPSTREAM_SPOKE, Obj.CADENCE_STATE, Obj.TIME_STATE,
        List.mem_cons, List.not_mem_nil, or_false, not_or]
      omega
    simp [this]
  have ht' : ∀ x, s.elect.timerOf x = none := by intro x; simp [State.timerOf, ht]
  have h2 : s.elect.pinEdges = s.elect := by
    unfold State.pinEdges
    have : (List.range 8).foldl State.pinEdge s.elect = s.elect := by
      apply foldl_same
      intro p hp'
      have : s.elect.pinOwner p = s.pinOwner p := by
        have hq := List.mem_range.mp hp'
        apply hk
        simp only [electKeys, ObjDef.key, Obj.AUXIO_STATE, Obj.BEAT_MASTER_NODE, Obj.BEAT_UPSTREAM_SPOKE, Obj.CADENCE_STATE, Obj.TIME_STATE,
          List.mem_cons, List.not_mem_nil, or_false, not_or]
        omega
      simp [State.pinEdge, this, hb p (List.mem_range.mp hp'), ht']
    rw [this]
    apply foldl_same
    intro i _
    simp [State.triggerEdge, ht']
  unfold State.atEdge
  rw [h0, h1, h2]
  exact State.plansEdge_none _ (fun c hc => by simp [hp c hc])

end Sys2Proof.Machine
end

