-- ==== Sys2Proof/Laws/Dispatch.lean ====
section
/-! SUPPORT. Sys2Proof/Laws/Dispatch.lean: each command runs its own meaning. -/

namespace Sys2Proof.Machine

variable (s : State)

@[simp] theorem exec_beatEdge : exec .beatEdge s = execBeatEdge s := rfl
@[simp] theorem exec_slotComplete (ctx slot sinceEdgeNs : Nat) :
    exec (.slotComplete ctx slot sinceEdgeNs) s = execSlotComplete ctx slot sinceEdgeNs s := rfl
@[simp] theorem exec_lateWaitTimeout (ctx slot : Nat) : exec (.lateWaitTimeout ctx slot) s = execLateWaitTimeout ctx slot s := rfl
@[simp] theorem exec_beatPeriodNsWrite (who : Who) (value : Nat) : exec (.beatPeriodNsWrite who value) s = execBeatPeriodNsWrite who value s := rfl
@[simp] theorem exec_beatEpochStartSecWrite (who : Who) (value : Nat) :
    exec (.beatEpochStartSecWrite who value) s = execBeatEpochStartSecWrite who value s := rfl
@[simp] theorem exec_epochStart : exec .epochStart s = execEpochStart s := rfl
@[simp] theorem exec_beatMarkerReceive (spoke : Nat) (marker : Marker) (t1 t4 : Nat) (copies : List Bool) :
    exec (.beatMarkerReceive spoke marker t1 t4 copies) s = execBeatMarkerReceive spoke marker t1 t4 copies s := rfl
@[simp] theorem exec_cadenceLock : exec .cadenceLock s = execCadenceLock s := rfl
@[simp] theorem exec_upstreamLoss : exec .upstreamLoss s = execUpstreamLoss s := rfl
@[simp] theorem exec_holdoverTimeout : exec .holdoverTimeout s = execHoldoverTimeout s := rfl
@[simp] theorem exec_heartbeatSend (spoke : Nat) : exec (.heartbeatSend spoke) s = execHeartbeatSend spoke s := rfl
@[simp] theorem exec_heartbeatReceive (spoke : Nat) (heartbeat : Heartbeat) (copies : List Bool) :
    exec (.heartbeatReceive spoke heartbeat copies) s = execHeartbeatReceive spoke heartbeat copies s := rfl
@[simp] theorem exec_peerSilent (spoke : Nat) : exec (.peerSilent spoke) s = execPeerSilent spoke s := rfl
@[simp] theorem exec_ppsEdge (sinceNs : Nat) : exec (.ppsEdge sinceNs) s = execPpsEdge sinceNs s := rfl
@[simp] theorem exec_ppsLoss : exec .ppsLoss s = execPpsLoss s := rfl
@[simp] theorem exec_planLoad (who : Who) (ctx : Nat) : exec (.planLoad who ctx) s = execPlanLoad who ctx s := rfl
@[simp] theorem exec_planArm (who : Who) (ctx : Nat) : exec (.planArm who ctx) s = execPlanArm who ctx s := rfl
@[simp] theorem exec_stopAtStepEnd (who : Who) (ctx : Nat) : exec (.stopAtStepEnd who ctx) s = execStopAtStepEnd who ctx s := rfl
@[simp] theorem exec_planHalt (who : Who) (ctx : Nat) : exec (.planHalt who ctx) s = execPlanHalt who ctx s := rfl
@[simp] theorem exec_planUnload (who : Who) (ctx : Nat) : exec (.planUnload who ctx) s = execPlanUnload who ctx s := rfl
@[simp] theorem exec_planFirstStepWrite (who : Who) (ctx value : Nat) :
    exec (.planFirstStepWrite who ctx value) s = execPlanFirstStepWrite who ctx value s := rfl
@[simp] theorem exec_dropLedgerRegionWrite (who : Who) (ctx : Nat) (object : LedgerObject) (value : Nat) :
    exec (.dropLedgerRegionWrite who ctx object value) s = execDropLedgerRegionWrite who ctx object value s := rfl
@[simp] theorem exec_windowOutputSend (ctx slot : Nat) : exec (.windowOutputSend ctx slot) s = execWindowOutputSend ctx slot s := rfl
@[simp] theorem exec_closeMarkerReceive (node vc : Nat) : exec (.closeMarkerReceive node vc) s = execCloseMarkerReceive node vc s := rfl
@[simp] theorem exec_threadIssueNext (facet thread : Nat) : exec (.threadIssueNext facet thread) s = execThreadIssueNext facet thread s := rfl
@[simp] theorem exec_facetZeroDone (facet : Nat) : exec (.facetZeroDone facet) s = execFacetZeroDone facet s := rfl
@[simp] theorem exec_threadWake (facet thread : Nat) : exec (.threadWake facet thread) s = execThreadWake facet thread s := rfl
@[simp] theorem exec_vectorFrameGrant (facet : Nat) : exec (.vectorFrameGrant facet) s = execVectorFrameGrant facet s := rfl
@[simp] theorem exec_matmul (item : Nat) : exec (.matmul item) s = execMatmul item s := rfl
@[simp] theorem exec_maxIndex (item : Nat) : exec (.maxIndex item) s = execMaxIndex item s := rfl
@[simp] theorem exec_minIndex (item : Nat) : exec (.minIndex item) s = execMinIndex item s := rfl
@[simp] theorem exec_kLoopEnd (facet : Nat) : exec (.kLoopEnd facet) s = execKLoopEnd facet s := rfl
@[simp] theorem exec_accTileSwap (facet : Nat) : exec (.accTileSwap facet) s = execAccTileSwap facet s := rfl
@[simp] theorem exec_tileDrainDone (facet array : Nat) : exec (.tileDrainDone facet array) s = execTileDrainDone facet array s := rfl
@[simp] theorem exec_runProgram (item : Nat) : exec (.runProgram item) s = execRunProgram item s := rfl
@[simp] theorem exec_treeCombine (item : Nat) : exec (.treeCombine item) s = execTreeCombine item s := rfl
@[simp] theorem exec_vprogInsnLimitExceeded (facet thread : Nat) :
    exec (.vprogInsnLimitExceeded facet thread) s = execVprogInsnLimitExceeded facet thread s := rfl
@[simp] theorem exec_sadd (facet thread : Nat) : exec (.sadd facet thread) s = execSadd facet thread s := rfl
@[simp] theorem exec_saddi (facet thread : Nat) : exec (.saddi facet thread) s = execSaddi facet thread s := rfl
@[simp] theorem exec_ssub (facet thread : Nat) : exec (.ssub facet thread) s = execSsub facet thread s := rfl
@[simp] theorem exec_smul (facet thread : Nat) : exec (.smul facet thread) s = execSmul facet thread s := rfl
@[simp] theorem exec_sand (facet thread : Nat) : exec (.sand facet thread) s = execSand facet thread s := rfl
@[simp] theorem exec_sor (facet thread : Nat) : exec (.sor facet thread) s = execSor facet thread s := rfl
@[simp] theorem exec_sxor (facet thread : Nat) : exec (.sxor facet thread) s = execSxor facet thread s := rfl
@[simp] theorem exec_sshl (facet thread : Nat) : exec (.sshl facet thread) s = execSshl facet thread s := rfl
@[simp] theorem exec_sshr (facet thread : Nat) : exec (.sshr facet thread) s = execSshr facet thread s := rfl
@[simp] theorem exec_ssra (facet thread : Nat) : exec (.ssra facet thread) s = execSsra facet thread s := rfl
@[simp] theorem exec_sli (facet thread : Nat) : exec (.sli facet thread) s = execSli facet thread s := rfl
@[simp] theorem exec_slui (facet thread : Nat) : exec (.slui facet thread) s = execSlui facet thread s := rfl
@[simp] theorem exec_sfadd (facet thread : Nat) : exec (.sfadd facet thread) s = execSfadd facet thread s := rfl
@[simp] theorem exec_sfmul (facet thread : Nat) : exec (.sfmul facet thread) s = execSfmul facet thread s := rfl
@[simp] theorem exec_sfdiv (facet thread : Nat) : exec (.sfdiv facet thread) s = execSfdiv facet thread s := rfl
@[simp] theorem exec_scmplt (facet thread : Nat) : exec (.scmplt facet thread) s = execScmplt facet thread s := rfl
@[simp] theorem exec_scmpeq (facet thread : Nat) : exec (.scmpeq facet thread) s = execScmpeq facet thread s := rfl
@[simp] theorem exec_br (facet thread : Nat) : exec (.br facet thread) s = execBr facet thread s := rfl
@[simp] theorem exec_brz (facet thread : Nat) : exec (.brz facet thread) s = execBrz facet thread s := rfl
@[simp] theorem exec_jmp (facet thread : Nat) : exec (.jmp facet thread) s = execJmp facet thread s := rfl
@[simp] theorem exec_progEnd (facet thread : Nat) : exec (.progEnd facet thread) s = execProgEnd facet thread s := rfl
@[simp] theorem exec_srd (facet thread : Nat) : exec (.srd facet thread) s = execSrd facet thread s := rfl
@[simp] theorem exec_vextr (facet thread : Nat) : exec (.vextr facet thread) s = execVextr facet thread s := rfl
@[simp] theorem exec_fld (facet thread : Nat) : exec (.fld facet thread) s = execFld facet thread s := rfl
@[simp] theorem exec_fst (facet thread : Nat) : exec (.fst facet thread) s = execFst facet thread s := rfl
@[simp] theorem exec_fatomAdd (facet thread : Nat) : exec (.fatomAdd facet thread) s = execFatomAdd facet thread s := rfl
@[simp] theorem exec_fatomMin (facet thread : Nat) : exec (.fatomMin facet thread) s = execFatomMin facet thread s := rfl
@[simp] theorem exec_fatomMax (facet thread : Nat) : exec (.fatomMax facet thread) s = execFatomMax facet thread s := rfl
@[simp] theorem exec_fatomCas (facet thread : Nat) : exec (.fatomCas facet thread) s = execFatomCas facet thread s := rfl
@[simp] theorem exec_ffence (facet thread : Nat) : exec (.ffence facet thread) s = execFfence facet thread s := rfl
@[simp] theorem exec_finv (facet thread : Nat) : exec (.finv facet thread) s = execFinv facet thread s := rfl
@[simp] theorem exec_sld (facet thread : Nat) : exec (.sld facet thread) s = execSld facet thread s := rfl
@[simp] theorem exec_sst (facet thread : Nat) : exec (.sst facet thread) s = execSst facet thread s := rfl
@[simp] theorem exec_vadd (facet thread : Nat) : exec (.vadd facet thread) s = execVadd facet thread s := rfl
@[simp] theorem exec_vsub (facet thread : Nat) : exec (.vsub facet thread) s = execVsub facet thread s := rfl
@[simp] theorem exec_vmul (facet thread : Nat) : exec (.vmul facet thread) s = execVmul facet thread s := rfl
@[simp] theorem exec_vfma (facet thread : Nat) : exec (.vfma facet thread) s = execVfma facet thread s := rfl
@[simp] theorem exec_vmax (facet thread : Nat) : exec (.vmax facet thread) s = execVmax facet thread s := rfl
@[simp] theorem exec_vmin (facet thread : Nat) : exec (.vmin facet thread) s = execVmin facet thread s := rfl
@[simp] theorem exec_vdiv (facet thread : Nat) : exec (.vdiv facet thread) s = execVdiv facet thread s := rfl
@[simp] theorem exec_vsqrt (facet thread : Nat) : exec (.vsqrt facet thread) s = execVsqrt facet thread s := rfl
@[simp] theorem exec_vrcp (facet thread : Nat) : exec (.vrcp facet thread) s = execVrcp facet thread s := rfl
@[simp] theorem exec_vrsqrt (facet thread : Nat) : exec (.vrsqrt facet thread) s = execVrsqrt facet thread s := rfl
@[simp] theorem exec_vexp (facet thread : Nat) : exec (.vexp facet thread) s = execVexp facet thread s := rfl
@[simp] theorem exec_vlog (facet thread : Nat) : exec (.vlog facet thread) s = execVlog facet thread s := rfl
@[simp] theorem exec_vtanh (facet thread : Nat) : exec (.vtanh facet thread) s = execVtanh facet thread s := rfl
@[simp] theorem exec_vabs (facet thread : Nat) : exec (.vabs facet thread) s = execVabs facet thread s := rfl
@[simp] theorem exec_vneg (facet thread : Nat) : exec (.vneg facet thread) s = execVneg facet thread s := rfl
@[simp] theorem exec_vsel (facet thread : Nat) : exec (.vsel facet thread) s = execVsel facet thread s := rfl
@[simp] theorem exec_vcmplt (facet thread : Nat) : exec (.vcmplt facet thread) s = execVcmplt facet thread s := rfl
@[simp] theorem exec_vcmpeq (facet thread : Nat) : exec (.vcmpeq facet thread) s = execVcmpeq facet thread s := rfl
@[simp] theorem exec_visnan (facet thread : Nat) : exec (.visnan facet thread) s = execVisnan facet thread s := rfl
@[simp] theorem exec_viadd (facet thread : Nat) : exec (.viadd facet thread) s = execViadd facet thread s := rfl
@[simp] theorem exec_vcvti (facet thread : Nat) : exec (.vcvti facet thread) s = execVcvti facet thread s := rfl
@[simp] theorem exec_vcvtf (facet thread : Nat) : exec (.vcvtf facet thread) s = execVcvtf facet thread s := rfl
@[simp] theorem exec_viota (facet thread : Nat) : exec (.viota facet thread) s = execViota facet thread s := rfl
@[simp] theorem exec_vbcast (facet thread : Nat) : exec (.vbcast facet thread) s = execVbcast facet thread s := rfl
@[simp] theorem exec_vcadd (facet thread : Nat) : exec (.vcadd facet thread) s = execVcadd facet thread s := rfl
@[simp] theorem exec_vcred (facet thread : Nat) : exec (.vcred facet thread) s = execVcred facet thread s := rfl
@[simp] theorem exec_vdadd (facet thread : Nat) : exec (.vdadd facet thread) s = execVdadd facet thread s := rfl
@[simp] theorem exec_vdred (facet thread : Nat) : exec (.vdred facet thread) s = execVdred facet thread s := rfl
@[simp] theorem exec_vrmax (facet thread : Nat) : exec (.vrmax facet thread) s = execVrmax facet thread s := rfl
@[simp] theorem exec_vrmin (facet thread : Nat) : exec (.vrmin facet thread) s = execVrmin facet thread s := rfl
@[simp] theorem exec_vrsum (facet thread : Nat) : exec (.vrsum facet thread) s = execVrsum facet thread s := rfl
@[simp] theorem exec_vld (facet thread : Nat) : exec (.vld facet thread) s = execVld facet thread s := rfl
@[simp] theorem exec_vst (facet thread : Nat) : exec (.vst facet thread) s = execVst facet thread s := rfl
@[simp] theorem exec_vstn (facet thread : Nat) : exec (.vstn facet thread) s = execVstn facet thread s := rfl
@[simp] theorem exec_vscfg (facet thread : Nat) : exec (.vscfg facet thread) s = execVscfg facet thread s := rfl
@[simp] theorem exec_vsflush (facet thread : Nat) : exec (.vsflush facet thread) s = execVsflush facet thread s := rfl
@[simp] theorem exec_vgather (facet thread : Nat) : exec (.vgather facet thread) s = execVgather facet thread s := rfl
@[simp] theorem exec_vscatter (facet thread : Nat) : exec (.vscatter facet thread) s = execVscatter facet thread s := rfl
@[simp] theorem exec_vldm (facet thread : Nat) : exec (.vldm facet thread) s = execVldm facet thread s := rfl
@[simp] theorem exec_accnext (facet thread : Nat) : exec (.accnext facet thread) s = execAccnext facet thread s := rfl
@[simp] theorem exec_accrd (facet thread : Nat) : exec (.accrd facet thread) s = execAccrd facet thread s := rfl
@[simp] theorem exec_accrel (facet thread : Nat) : exec (.accrel facet thread) s = execAccrel facet thread s := rfl
@[simp] theorem exec_xfld (facet thread : Nat) : exec (.xfld facet thread) s = execXfld facet thread s := rfl
@[simp] theorem exec_xfst (facet thread : Nat) : exec (.xfst facet thread) s = execXfst facet thread s := rfl
@[simp] theorem exec_xfadd (facet thread : Nat) : exec (.xfadd facet thread) s = execXfadd facet thread s := rfl
@[simp] theorem exec_xfmad (facet thread : Nat) : exec (.xfmad facet thread) s = execXfmad facet thread s := rfl
@[simp] theorem exec_xfmul (facet thread : Nat) : exec (.xfmul facet thread) s = execXfmul facet thread s := rfl
@[simp] theorem exec_xfrn (facet thread : Nat) : exec (.xfrn facet thread) s = execXfrn facet thread s := rfl
@[simp] theorem exec_vdrop (facet thread : Nat) : exec (.vdrop facet thread) s = execVdrop facet thread s := rfl
@[simp] theorem exec_fmCorrectedWriteback (word : Nat) : exec (.fmCorrectedWriteback word) s = execFmCorrectedWriteback word s := rfl
@[simp] theorem exec_copy (run : StreamRun) : exec (.copy run) s = execCopy run s := rfl
@[simp] theorem exec_storeSparse (run : StreamRun) : exec (.storeSparse run) s = execStoreSparse run s := rfl
@[simp] theorem exec_predictMask (run : StreamRun) : exec (.predictMask run) s = execPredictMask run s := rfl
@[simp] theorem exec_actSave (run : StreamRun) : exec (.actSave run) s = execActSave run s := rfl
@[simp] theorem exec_actRestore (run : StreamRun) : exec (.actRestore run) s = execActRestore run s := rfl
@[simp] theorem exec_fill (run : StreamRun) : exec (.fill run) s = execFill run s := rfl
@[simp] theorem exec_gather (run : StreamRun) : exec (.gather run) s = execGather run s := rfl
@[simp] theorem exec_route (item : Nat) : exec (.route item) s = execRoute item s := rfl
@[simp] theorem exec_consume (item : Nat) : exec (.consume item) s = execConsume item s := rfl
@[simp] theorem exec_return (item : Nat) : exec (.return item) s = execReturn item s := rfl
@[simp] theorem exec_combine (item : Nat) : exec (.combine item) s = execCombine item s := rfl
@[simp] theorem exec_bwdRoute (item : Nat) : exec (.bwdRoute item) s = execBwdRoute item s := rfl
@[simp] theorem exec_bwdConsume (item : Nat) : exec (.bwdConsume item) s = execBwdConsume item s := rfl
@[simp] theorem exec_bwdReturn (item : Nat) : exec (.bwdReturn item) s = execBwdReturn item s := rfl
@[simp] theorem exec_bwdCombine (item : Nat) : exec (.bwdCombine item) s = execBwdCombine item s := rfl
@[simp] theorem exec_dispatchRecordArrive (node vc : Nat) : exec (.dispatchRecordArrive node vc) s = execDispatchRecordArrive node vc s := rfl
@[simp] theorem exec_returnRecordArrive (node vc : Nat) : exec (.returnRecordArrive node vc) s = execReturnRecordArrive node vc s := rfl
@[simp] theorem exec_bwdDispatchRecordArrive (node vc : Nat) :
    exec (.bwdDispatchRecordArrive node vc) s = execBwdDispatchRecordArrive node vc s := rfl
@[simp] theorem exec_bwdReturnRecordArrive (node vc : Nat) : exec (.bwdReturnRecordArrive node vc) s = execBwdReturnRecordArrive node vc s := rfl
@[simp] theorem exec_drainCompleteReceive (node vc : Nat) : exec (.drainCompleteReceive node vc) s = execDrainCompleteReceive node vc s := rfl
@[simp] theorem exec_routerCancelWrite (who : Who) (ctx mask : Nat) :
    exec (.routerCancelWrite who ctx mask) s = execRouterCancelWrite who ctx mask s := rfl
@[simp] theorem exec_reduce (item : Nat) : exec (.reduce item) s = execReduce item s := rfl
@[simp] theorem exec_reduceScatter (item : Nat) : exec (.reduceScatter item) s = execReduceScatter item s := rfl
@[simp] theorem exec_allReduce (item : Nat) : exec (.allReduce item) s = execAllReduce item s := rfl
@[simp] theorem exec_allGather (item : Nat) : exec (.allGather item) s = execAllGather item s := rfl
@[simp] theorem exec_allToAll (item : Nat) : exec (.allToAll item) s = execAllToAll item s := rfl
@[simp] theorem exec_topkSelect (item : Nat) : exec (.topkSelect item) s = execTopkSelect item s := rfl
@[simp] theorem exec_merge (item : Nat) : exec (.merge item) s = execMerge item s := rfl
@[simp] theorem exec_mergeAll (item : Nat) : exec (.mergeAll item) s = execMergeAll item s := rfl
@[simp] theorem exec_collSend (item : Nat) : exec (.collSend item) s = execCollSend item s := rfl
@[simp] theorem exec_collRelay (item : Nat) : exec (.collRelay item) s = execCollRelay item s := rfl
@[simp] theorem exec_collFinish (item : Nat) : exec (.collFinish item) s = execCollFinish item s := rfl
@[simp] theorem exec_contributionRecordArrive (node vc : Nat) :
    exec (.contributionRecordArrive node vc) s = execContributionRecordArrive node vc s := rfl
@[simp] theorem exec_treeJoin (ctx window seg col lo size : Nat) :
    exec (.treeJoin ctx window seg col lo size) s = execTreeJoin ctx window seg col lo size s := rfl
@[simp] theorem exec_latticeRouteWrite (who : Who) (lattice value : Nat) :
    exec (.latticeRouteWrite who lattice value) s = execLatticeRouteWrite who lattice value s := rfl
@[simp] theorem exec_rankMapCommit (who : Who) (ctx value : Nat) : exec (.rankMapCommit who ctx value) s = execRankMapCommit who ctx value s := rfl
@[simp] theorem exec_spokeReset (who : Who) (spoke : Nat) : exec (.spokeReset who spoke) s = execSpokeReset who spoke s := rfl
@[simp] theorem exec_spokeDisable (who : Who) (spoke : Nat) : exec (.spokeDisable who spoke) s = execSpokeDisable who spoke s := rfl
@[simp] theorem exec_spokeEnable (who : Who) (spoke : Nat) : exec (.spokeEnable who spoke) s = execSpokeEnable who spoke s := rfl
@[simp] theorem exec_spokeLaneLock (spoke lanes : Nat) : exec (.spokeLaneLock spoke lanes) s = execSpokeLaneLock spoke lanes s := rfl
@[simp] theorem exec_spokeFecLock (spoke lanes : Nat) : exec (.spokeFecLock spoke lanes) s = execSpokeFecLock spoke lanes s := rfl
@[simp] theorem exec_trainingOsReceive (spoke : Nat) (os : Training) : exec (.trainingOsReceive spoke os) s = execTrainingOsReceive spoke os s := rfl
@[simp] theorem exec_spokeKeysInstalled (spoke : Nat) (peer : PeerFacts) :
    exec (.spokeKeysInstalled spoke peer) s = execSpokeKeysInstalled spoke peer s := rfl
@[simp] theorem exec_spokeTrainingTimeout (spoke : Nat) : exec (.spokeTrainingTimeout spoke) s = execSpokeTrainingTimeout spoke s := rfl
@[simp] theorem exec_spokeDownRetrain (spoke : Nat) : exec (.spokeDownRetrain spoke) s = execSpokeDownRetrain spoke s := rfl
@[simp] theorem exec_flitReceive (spoke : Nat) (block : Block) (check : BlockCheck) (tagOk : Bool) :
    exec (.flitReceive spoke block check tagOk) s = execFlitReceive spoke block check tagOk s := rfl
@[simp] theorem exec_flitTransmit (spoke : Nat) : exec (.flitTransmit spoke) s = execFlitTransmit spoke s := rfl
@[simp] theorem exec_linkRetryReceive (spoke lseq : Nat) (copies : List Bool) :
    exec (.linkRetryReceive spoke lseq copies) s = execLinkRetryReceive spoke lseq copies s := rfl
@[simp] theorem exec_linkRetryLimit (spoke : Nat) : exec (.linkRetryLimit spoke) s = execLinkRetryLimit spoke s := rfl
@[simp] theorem exec_laneFail (spoke lane : Nat) : exec (.laneFail spoke lane) s = execLaneFail spoke lane s := rfl
@[simp] theorem exec_degradeReceive (spoke lanes number : Nat) (echo : Bool) (copies : List Bool) :
    exec (.degradeReceive spoke lanes number echo copies) s = execDegradeReceive spoke lanes number echo copies s := rfl
@[simp] theorem exec_laneDeskewDone (spoke : Nat) : exec (.laneDeskewDone spoke) s = execLaneDeskewDone spoke s := rfl
@[simp] theorem exec_resetNoticeReceive (spoke node epoch reason : Nat) (copies : List Bool) :
    exec (.resetNoticeReceive spoke node epoch reason copies) s = execResetNoticeReceive spoke node epoch reason copies s := rfl
@[simp] theorem exec_hupDataReceive (source : PacketFrom) : exec (.hupDataReceive source) s = execHupDataReceive source s := rfl
@[simp] theorem exec_hupAckReceive (source : PacketFrom) : exec (.hupAckReceive source) s = execHupAckReceive source s := rfl
@[simp] theorem exec_hupAckTimer (node vc : Nat) : exec (.hupAckTimer node vc) s = execHupAckTimer node vc s := rfl
@[simp] theorem exec_hupCloseReceive (source : PacketFrom) : exec (.hupCloseReceive source) s = execHupCloseReceive source s := rfl
@[simp] theorem exec_epochNoticeReceive (source : PacketFrom) : exec (.epochNoticeReceive source) s = execEpochNoticeReceive source s := rfl
@[simp] theorem exec_genNoticeReceive (source : PacketFrom) : exec (.genNoticeReceive source) s = execGenNoticeReceive source s := rfl
@[simp] theorem exec_keyxReceive (source : PacketFrom) : exec (.keyxReceive source) s = execKeyxReceive source s := rfl
@[simp] theorem exec_markerPacketReceive (source : PacketFrom) (t1 t4 : Nat) :
    exec (.markerPacketReceive source t1 t4) s = execMarkerPacketReceive source t1 t4 s := rfl
@[simp] theorem exec_hupRtoExpiry (node vc seq : Nat) : exec (.hupRtoExpiry node vc seq) s = execHupRtoExpiry node vc seq s := rfl
@[simp] theorem exec_hupGiveup (node vc seq : Nat) : exec (.hupGiveup node vc seq) s = execHupGiveup node vc seq s := rfl
@[simp] theorem exec_spokeRekeyTrigger (spoke : Nat) : exec (.spokeRekeyTrigger spoke) s = execSpokeRekeyTrigger spoke s := rfl
@[simp] theorem exec_keyPhaseGraceEnd (spoke : Nat) : exec (.keyPhaseGraceEnd spoke) s = execKeyPhaseGraceEnd spoke s := rfl
@[simp] theorem exec_ethLinkUp (spoke : Nat) : exec (.ethLinkUp spoke) s = execEthLinkUp spoke s := rfl
@[simp] theorem exec_ethLinkDown (spoke : Nat) : exec (.ethLinkDown spoke) s = execEthLinkDown spoke s := rfl
@[simp] theorem exec_fabGet (item : Nat) : exec (.fabGet item) s = execFabGet item s := rfl
@[simp] theorem exec_fabPut (item : Nat) : exec (.fabPut item) s = execFabPut item s := rfl
@[simp] theorem exec_publish (item : Nat) : exec (.publish item) s = execPublish item s := rfl
@[simp] theorem exec_publishCloseSend (item : Nat) : exec (.publishCloseSend item) s = execPublishCloseSend item s := rfl
@[simp] theorem exec_invalidate (item : Nat) : exec (.invalidate item) s = execInvalidate item s := rfl
@[simp] theorem exec_fabricLoad (node vc : Nat) : exec (.fabricLoad node vc) s = execFabricLoad node vc s := rfl
@[simp] theorem exec_fabricStore (node vc : Nat) : exec (.fabricStore node vc) s = execFabricStore node vc s := rfl
@[simp] theorem exec_fabricAtomicAdd (node vc : Nat) : exec (.fabricAtomicAdd node vc) s = execFabricAtomicAdd node vc s := rfl
@[simp] theorem exec_fabricAtomicMin (node vc : Nat) : exec (.fabricAtomicMin node vc) s = execFabricAtomicMin node vc s := rfl
@[simp] theorem exec_fabricAtomicMax (node vc : Nat) : exec (.fabricAtomicMax node vc) s = execFabricAtomicMax node vc s := rfl
@[simp] theorem exec_fabricAtomicCas (node vc : Nat) : exec (.fabricAtomicCas node vc) s = execFabricAtomicCas node vc s := rfl
@[simp] theorem exec_fabricPutChunk (node vc : Nat) : exec (.fabricPutChunk node vc) s = execFabricPutChunk node vc s := rfl
@[simp] theorem exec_fabricResolve (node vc : Nat) : exec (.fabricResolve node vc) s = execFabricResolve node vc s := rfl
@[simp] theorem exec_fabricReplyReceive (node vc : Nat) : exec (.fabricReplyReceive node vc) s = execFabricReplyReceive node vc s := rfl
@[simp] theorem exec_fabricBusyResend (node fseq : Nat) : exec (.fabricBusyResend node fseq) s = execFabricBusyResend node fseq s := rfl
@[simp] theorem exec_fabricReplyTimeout (node fseq : Nat) : exec (.fabricReplyTimeout node fseq) s = execFabricReplyTimeout node fseq s := rfl
@[simp] theorem exec_tombstoneExpiry (node epoch fseq : Nat) :
    exec (.tombstoneExpiry node epoch fseq) s = execTombstoneExpiry node epoch fseq s := rfl
@[simp] theorem exec_hbmRegionWrite (who : Who) (ctx base size : Nat) :
    exec (.hbmRegionWrite who ctx base size) s = execHbmRegionWrite who ctx base size s := rfl
@[simp] theorem exec_hbmUnitWrittenWrite (who : Who) (unit : Nat) : exec (.hbmUnitWrittenWrite who unit) s = execHbmUnitWrittenWrite who unit s := rfl
@[simp] theorem exec_hbmRetiredPagesWrite (who : Who) (entry page : Nat) (flashOk : Bool) :
    exec (.hbmRetiredPagesWrite who entry page flashOk) s = execHbmRetiredPagesWrite who entry page flashOk s := rfl
@[simp] theorem exec_mergeIdleWriteback (sector : Nat) : exec (.mergeIdleWriteback sector) s = execMergeIdleWriteback sector s := rfl
@[simp] theorem exec_patrolScrubRead (pseudoChannel : Nat) (flaws : Flaws) :
    exec (.patrolScrubRead pseudoChannel flaws) s = execPatrolScrubRead pseudoChannel flaws s := rfl
@[simp] theorem exec_flipMaskArm (who : Who) : exec (.flipMaskArm who) s = execFlipMaskArm who s := rfl
@[simp] theorem exec_flipMaskDisarm (who : Who) : exec (.flipMaskDisarm who) s = execFlipMaskDisarm who s := rfl
@[simp] theorem exec_queueCreate (who : Who) (record : Desc) : exec (.queueCreate who record) s = execQueueCreate who record s := rfl
@[simp] theorem exec_queuePause (who : Who) (queue : Nat) : exec (.queuePause who queue) s = execQueuePause who queue s := rfl
@[simp] theorem exec_queueResume (who : Who) (queue : Nat) : exec (.queueResume who queue) s = execQueueResume who queue s := rfl
@[simp] theorem exec_queueReset (who : Who) (queue : Nat) : exec (.queueReset who queue) s = execQueueReset who queue s := rfl
@[simp] theorem exec_queueDestroy (who : Who) (queue : Nat) : exec (.queueDestroy who queue) s = execQueueDestroy who queue s := rfl
@[simp] theorem exec_sqTailDoorbell (function queue size value : Nat) :
    exec (.sqTailDoorbell function queue size value) s = execSqTailDoorbell function queue size value s := rfl
@[simp] theorem exec_cqHeadDoorbell (function queue size value : Nat) :
    exec (.cqHeadDoorbell function queue size value) s = execCqHeadDoorbell function queue size value s := rfl
@[simp] theorem exec_descriptorAccept (queue : Nat) : exec (.descriptorAccept queue) s = execDescriptorAccept queue s := rfl
@[simp] theorem exec_itemCompletion (item stampNs : Nat) : exec (.itemCompletion item stampNs) s = execItemCompletion item stampNs s := rfl
@[simp] theorem exec_summaryFlush (ctx : Nat) : exec (.summaryFlush ctx) s = execSummaryFlush ctx s := rfl
@[simp] theorem exec_deferredCqWrite (queue : Nat) : exec (.deferredCqWrite queue) s = execDeferredCqWrite queue s := rfl
@[simp] theorem exec_irqHoldoffExpiry (queue : Nat) : exec (.irqHoldoffExpiry queue) s = execIrqHoldoffExpiry queue s := rfl
@[simp] theorem exec_qmNop (item : Nat) : exec (.qmNop item) s = execQmNop item s := rfl
@[simp] theorem exec_doorbell (item : Nat) : exec (.doorbell item) s = execDoorbell item s := rfl
@[simp] theorem exec_barrier (item : Nat) : exec (.barrier item) s = execBarrier item s := rfl
@[simp] theorem exec_acquire (item : Nat) : exec (.acquire item) s = execAcquire item s := rfl
@[simp] theorem exec_release (item : Nat) : exec (.release item) s = execRelease item s := rfl
@[simp] theorem exec_transfer (item : Nat) : exec (.transfer item) s = execTransfer item s := rfl
@[simp] theorem exec_poolConfigWrite (who : Who) (ctx first : Nat) (records : List Nat) :
    exec (.poolConfigWrite who ctx first records) s = execPoolConfigWrite who ctx first records s := rfl
@[simp] theorem exec_poolRequesterWrite (who : Who) (requester context : Nat) (min max : List Nat) :
    exec (.poolRequesterWrite who requester context min max) s = execPoolRequesterWrite who requester context min max s := rfl
@[simp] theorem exec_contextReset (who : Who) (ctx : Nat) : exec (.contextReset who ctx) s = execContextReset who ctx s := rfl
@[simp] theorem exec_escalationStepTimeout (ctx : Nat) (inst : EngineRef) (cleared : Bool) :
    exec (.escalationStepTimeout ctx inst cleared) s = execEscalationStepTimeout ctx inst cleared s := rfl
@[simp] theorem exec_facetResetDone (facet : Nat) (passed vertexOk : Bool) :
    exec (.facetResetDone facet passed vertexOk) s = execFacetResetDone facet passed vertexOk s := rfl
@[simp] theorem exec_contextWithdrawn (ctx : Nat) : exec (.contextWithdrawn ctx) s = execContextWithdrawn ctx s := rfl
@[simp] theorem exec_facetFatalFault (facet cause thread : Nat) :
    exec (.facetFatalFault facet cause thread) s = execFacetFatalFault facet cause thread s := rfl
@[simp] theorem exec_threadStallTimeout (facet thread : Nat) :
    exec (.threadStallTimeout facet thread) s = execThreadStallTimeout facet thread s := rfl
@[simp] theorem exec_deviceFatalFault (cause detail : Nat) : exec (.deviceFatalFault cause detail) s = execDeviceFatalFault cause detail s := rfl
@[simp] theorem exec_warm (who : Who) : exec (.warm who) s = execWarm who s := rfl
@[simp] theorem exec_warmWithDump (who : Who) : exec (.warmWithDump who) s = execWarmWithDump who s := rfl
@[simp] theorem exec_mgmtWatchdogExpiry : exec .mgmtWatchdogExpiry s = execMgmtWatchdogExpiry s := rfl
@[simp] theorem exec_peerLostWrite (who : Who) (node : Nat) : exec (.peerLostWrite who node) s = execPeerLostWrite who node s := rfl
@[simp] theorem exec_errorFlashCopy : exec .errorFlashCopy s = execErrorFlashCopy s := rfl
@[simp] theorem exec_errorFlashClear (who : Who) : exec (.errorFlashClear who) s = execErrorFlashClear who s := rfl
@[simp] theorem exec_facetRetiredWrite (who : Who) (bits : Nat) (flashOk : Bool) :
    exec (.facetRetiredWrite who bits flashOk) s = execFacetRetiredWrite who bits flashOk s := rfl
@[simp] theorem exec_crashDumpClear (who : Who) : exec (.crashDumpClear who) s = execCrashDumpClear who s := rfl
@[simp] theorem exec_bootEntry (qualifyMs : Nat) : exec (.bootEntry qualifyMs) s = execBootEntry qualifyMs s := rfl
@[simp] theorem exec_selftestDone (result : SelfTest) : exec (.selftestDone result) s = execSelftestDone result s := rfl
@[simp] theorem exec_loaderChecked (image : ImageFacts) : exec (.loaderChecked image) s = execLoaderChecked image s := rfl
@[simp] theorem exec_imagesChecked (firmware microcode router : ImageFacts) :
    exec (.imagesChecked firmware microcode router) s = execImagesChecked firmware microcode router s := rfl
@[simp] theorem exec_measuredEntry (bootMs : Nat) : exec (.measuredEntry bootMs) s = execMeasuredEntry bootMs s := rfl
@[simp] theorem exec_enginesInitialised (readyMs : Nat) : exec (.enginesInitialised readyMs) s = execEnginesInitialised readyMs s := rfl
@[simp] theorem exec_bootStepTimeout : exec .bootStepTimeout s = execBootStepTimeout s := rfl
@[simp] theorem exec_getVersion (endpoint : SpdmEnd) : exec (.getVersion endpoint) s = execGetVersion endpoint s := rfl
@[simp] theorem exec_getCapabilities (endpoint : SpdmEnd) : exec (.getCapabilities endpoint) s = execGetCapabilities endpoint s := rfl
@[simp] theorem exec_negotiateAlgorithms (endpoint : SpdmEnd) (common : Bool) :
    exec (.negotiateAlgorithms endpoint common) s = execNegotiateAlgorithms endpoint common s := rfl
@[simp] theorem exec_getDigests (endpoint : SpdmEnd) : exec (.getDigests endpoint) s = execGetDigests endpoint s := rfl
@[simp] theorem exec_getCertificate (endpoint : SpdmEnd) (slot : Nat) :
    exec (.getCertificate endpoint slot) s = execGetCertificate endpoint slot s := rfl
@[simp] theorem exec_challenge (endpoint : SpdmEnd) (slot : Nat) : exec (.challenge endpoint slot) s = execChallenge endpoint slot s := rfl
@[simp] theorem exec_getMeasurements (endpoint : SpdmEnd) (index : Nat) (signed : Bool) :
    exec (.getMeasurements endpoint index signed) s = execGetMeasurements endpoint index signed s := rfl
@[simp] theorem exec_keyExchange (endpoint : SpdmEnd) : exec (.keyExchange endpoint) s = execKeyExchange endpoint s := rfl
@[simp] theorem exec_spdmFinish (endpoint : SpdmEnd) (session : Nat) (verified : Bool) (proof : Option RequesterProof) :
    exec (.spdmFinish endpoint session verified proof) s = execSpdmFinish endpoint session verified proof s := rfl
@[simp] theorem exec_keyUpdate (endpoint : SpdmEnd) (session : Nat) : exec (.keyUpdate endpoint session) s = execKeyUpdate endpoint session s := rfl
@[simp] theorem exec_spdmHeartbeat (endpoint : SpdmEnd) (session : Nat) :
    exec (.spdmHeartbeat endpoint session) s = execSpdmHeartbeat endpoint session s := rfl
@[simp] theorem exec_endSession (endpoint : SpdmEnd) (session : Nat) :
    exec (.endSession endpoint session) s = execEndSession endpoint session s := rfl
@[simp] theorem exec_setCertificate (endpoint : SpdmEnd) (slot : Nat) (sameKey : Bool) :
    exec (.setCertificate endpoint slot sameKey) s = execSetCertificate endpoint slot sameKey s := rfl
@[simp] theorem exec_spdmHeartbeatTimeout (session : Nat) : exec (.spdmHeartbeatTimeout session) s = execSpdmHeartbeatTimeout session s := rfl
@[simp] theorem exec_ideKmRequest (endpoint : SpdmEnd) (session : Nat) (stream : IdeStream) (secure : Bool) :
    exec (.ideKmRequest endpoint session stream secure) s = execIdeKmRequest endpoint session stream secure s := rfl
@[simp] theorem exec_contextClaim (session ctx : Nat) : exec (.contextClaim session ctx) s = execContextClaim session ctx s := rfl
@[simp] theorem exec_contextKey (who : Who) (ctx key : Nat) : exec (.contextKey who ctx key) s = execContextKey who ctx key s := rfl
@[simp] theorem exec_contextTransferKey (who : Who) (ctx key : Nat) :
    exec (.contextTransferKey who ctx key) s = execContextTransferKey who ctx key s := rfl
@[simp] theorem exec_contextKeyNext (who : Who) (ctx key : Nat) : exec (.contextKeyNext who ctx key) s = execContextKeyNext who ctx key s := rfl
@[simp] theorem exec_contextRelease (who : Who) (ctx : Nat) : exec (.contextRelease who ctx) s = execContextRelease who ctx s := rfl
@[simp] theorem exec_secFuseSvn (who : Who) (arg : Nat) : exec (.secFuseSvn who arg) s = execSecFuseSvn who arg s := rfl
@[simp] theorem exec_secFuseRevoke (who : Who) (arg : Nat) : exec (.secFuseRevoke who arg) s = execSecFuseRevoke who arg s := rfl
@[simp] theorem exec_secFuseSigPolicy (who : Who) : exec (.secFuseSigPolicy who) s = execSecFuseSigPolicy who s := rfl
@[simp] theorem exec_debugUnlock (who : Who) (value : Nat) : exec (.debugUnlock who value) s = execDebugUnlock who value s := rfl
@[simp] theorem exec_jtagInstructionLoad (drives : Bool) : exec (.jtagInstructionLoad drives) s = execJtagInstructionLoad drives s := rfl
@[simp] theorem exec_zeroiseTrigger : exec .zeroiseTrigger s = execZeroiseTrigger s := rfl
@[simp] theorem exec_sealSubmitInbound (function value irq header : Nat) (payload : Bytes) (tag : Nat) :
    exec (.sealSubmitInbound function value irq header payload tag) s = execSealSubmitInbound function value irq header payload tag s := rfl
@[simp] theorem exec_sealSubmitOutbound (function value irq header : Nat) :
    exec (.sealSubmitOutbound function value irq header) s = execSealSubmitOutbound function value irq header s := rfl
@[simp] theorem exec_dictRead (source : FrameFrom) : exec (.dictRead source) s = execDictRead source s := rfl
@[simp] theorem exec_dictWrite (source : FrameFrom) (flashOk : Bool) : exec (.dictWrite source flashOk) s = execDictWrite source flashOk s := rfl
@[simp] theorem exec_dictInfo (source : FrameFrom) : exec (.dictInfo source) s = execDictInfo source s := rfl
@[simp] theorem exec_dictSegment (source : FrameFrom) (flashOk : Bool) :
    exec (.dictSegment source flashOk) s = execDictSegment source flashOk s := rfl
@[simp] theorem exec_dictAbort (source : FrameFrom) : exec (.dictAbort source) s = execDictAbort source s := rfl
@[simp] theorem exec_segmentTimeout (requester : Nat) : exec (.segmentTimeout requester) s = execSegmentTimeout requester s := rfl
@[simp] theorem exec_pendingActionDone (image : ImageFacts) : exec (.pendingActionDone image) s = execPendingActionDone image s := rfl
@[simp] theorem exec_registerWrite (who : Who) (index sub first count : Nat) (value : Bytes) (flashOk : Bool) :
    exec (.registerWrite who index sub first count value flashOk) s = execRegisterWrite who index sub first count value flashOk s := rfl
@[simp] theorem exec_mbxControlGo (function value irq : Nat) (frame : Bytes) :
    exec (.mbxControlGo function value irq frame) s = execMbxControlGo function value irq frame s := rfl
@[simp] theorem exec_mbxStatusClear (function value : Nat) : exec (.mbxStatusClear function value) s = execMbxStatusClear function value s := rfl
@[simp] theorem exec_fwUpdateBegin (who : Who) (kind copy length : Nat) :
    exec (.fwUpdateBegin who kind copy length) s = execFwUpdateBegin who kind copy length s := rfl
@[simp] theorem exec_fwUpdateData (who : Who) (piece : Bytes) : exec (.fwUpdateData who piece) s = execFwUpdateData who piece s := rfl
@[simp] theorem exec_fwUpdateFinish (who : Who) : exec (.fwUpdateFinish who) s = execFwUpdateFinish who s := rfl
@[simp] theorem exec_fwUpdateCancel (who : Who) : exec (.fwUpdateCancel who) s = execFwUpdateCancel who s := rfl
@[simp] theorem exec_setPreferred (who : Who) (copy : Nat) (flashOk : Bool) :
    exec (.setPreferred who copy flashOk) s = execSetPreferred who copy flashOk s := rfl
@[simp] theorem exec_flashRestoreDefaults (who : Who) (value : Nat) :
    exec (.flashRestoreDefaults who value) s = execFlashRestoreDefaults who value s := rfl
@[simp] theorem exec_setEndpointId (eid : Nat) : exec (.setEndpointId eid) s = execSetEndpointId eid s := rfl
@[simp] theorem exec_getEndpointId (eid : Nat) : exec (.getEndpointId eid) s = execGetEndpointId eid s := rfl
@[simp] theorem exec_getMctpVersionSupport (eid : Nat) : exec (.getMctpVersionSupport eid) s = execGetMctpVersionSupport eid s := rfl
@[simp] theorem exec_getMessageTypeSupport (eid : Nat) : exec (.getMessageTypeSupport eid) s = execGetMessageTypeSupport eid s := rfl
@[simp] theorem exec_getVendorDefinedMsgSupport (eid : Nat) : exec (.getVendorDefinedMsgSupport eid) s = execGetVendorDefinedMsgSupport eid s := rfl
@[simp] theorem exec_entdaa (address : Nat) : exec (.entdaa address) s = execEntdaa address s := rfl
@[simp] theorem exec_setdasa (static address : Nat) : exec (.setdasa static address) s = execSetdasa static address s := rfl
@[simp] theorem exec_pwrgdRise (refqSel mgmtMode smbAddr : Nat) :
    exec (.pwrgdRise refqSel mgmtMode smbAddr) s = execPwrgdRise refqSel mgmtMode smbAddr s := rfl
@[simp] theorem exec_pwrgdFall : exec .pwrgdFall s = execPwrgdFall s := rfl
@[simp] theorem exec_sysResetNLow : exec .sysResetNLow s = execSysResetNLow s := rfl
@[simp] theorem exec_sysResetNRise : exec .sysResetNRise s = execSysResetNRise s := rfl
@[simp] theorem exec_perstNLow : exec .perstNLow s = execPerstNLow s := rfl
@[simp] theorem exec_perstNRise : exec .perstNRise s = execPerstNRise s := rfl
@[simp] theorem exec_thermNLow : exec .thermNLow s = execThermNLow s := rfl
@[simp] theorem exec_thermNHigh : exec .thermNHigh s = execThermNHigh s := rfl
@[simp] theorem exec_refQualifyDone : exec .refQualifyDone s = execRefQualifyDone s := rfl
@[simp] theorem exec_pllLockTimeout : exec .pllLockTimeout s = execPllLockTimeout s := rfl
@[simp] theorem exec_refLost : exec .refLost s = execRefLost s := rfl
@[simp] theorem exec_pllLockLoss (pll : Nat) : exec (.pllLockLoss pll) s = execPllLockLoss pll s := rfl
@[simp] theorem exec_railFault (rail : Nat) : exec (.railFault rail) s = execRailFault rail s := rfl
@[simp] theorem exec_thermalSample (temps : List Int) : exec (.thermalSample temps) s = execThermalSample temps s := rfl
@[simp] theorem exec_thermalCeilingRaise (die : Nat) : exec (.thermalCeilingRaise die) s = execThermalCeilingRaise die s := rfl
@[simp] theorem exec_powerTick (watts meanSecond peakSecond : Nat) (amps : List Nat) (rails : List Nat) :
    exec (.powerTick watts meanSecond peakSecond amps rails) s = execPowerTick watts meanSecond peakSecond amps rails s := rfl
@[simp] theorem exec_overcurrent (die : Nat) : exec (.overcurrent die) s = execOvercurrent die s := rfl
@[simp] theorem exec_overcurrentHoldEnd (die : Nat) : exec (.overcurrentHoldEnd die) s = execOvercurrentHoldEnd die s := rfl
@[simp] theorem exec_quadClockSwitch (quad : Nat) : exec (.quadClockSwitch quad) s = execQuadClockSwitch quad s := rfl
@[simp] theorem exec_avsReply (die mv deciAmps : Nat) : exec (.avsReply die mv deciAmps) s = execAvsReply die mv deciAmps s := rfl
@[simp] theorem exec_avsTimeout (die unanswered : Nat) : exec (.avsTimeout die unanswered) s = execAvsTimeout die unanswered s := rfl
@[simp] theorem exec_clkobsWrite (who : Who) (enable : Bool) (source div pin : Nat) :
    exec (.clkobsWrite who enable source div pin) s = execClkobsWrite who enable source div pin s := rfl
@[simp] theorem exec_auxioConfigWrite (who : Who) (pin function polarity width param : Nat) (flashOk : Bool) :
    exec (.auxioConfigWrite who pin function polarity width param flashOk) s = execAuxioConfigWrite who pin function polarity width param flashOk s := rfl
@[simp] theorem exec_trigInEdge (pin : Nat) (rising : Bool) : exec (.trigInEdge pin rising) s = execTrigInEdge pin rising s := rfl
@[simp] theorem exec_ppsOutPulse (pin : Nat) : exec (.ppsOutPulse pin) s = execPpsOutPulse pin s := rfl
@[simp] theorem exec_traceConfigWrite (who : Who) (holder freezeAfter : Nat) :
    exec (.traceConfigWrite who holder freezeAfter) s = execTraceConfigWrite who holder freezeAfter s := rfl
@[simp] theorem exec_faultOutClear (who : Who) : exec (.faultOutClear who) s = execFaultOutClear who s := rfl
@[simp] theorem exec_alarmClear (who : Who) (classes : Nat) : exec (.alarmClear who classes) s = execAlarmClear who classes s := rfl
@[simp] theorem exec_vfEnableWrite (count : Nat) : exec (.vfEnableWrite count) s = execVfEnableWrite count s := rfl
@[simp] theorem exec_powerStateWrite (function : Nat) (d3hot : Bool) :
    exec (.powerStateWrite function d3hot) s = execPowerStateWrite function d3hot s := rfl
@[simp] theorem exec_maintUnitDue (activity resource : Nat) : exec (.maintUnitDue activity resource) s = execMaintUnitDue activity resource s := rfl
@[simp] theorem exec_maintUnitStart (activity resource durationNs : Nat) :
    exec (.maintUnitStart activity resource durationNs) s = execMaintUnitStart activity resource durationNs s := rfl
@[simp] theorem exec_maintUnitDone (activity resource durationNs : Nat) (passed vertexOk : Bool) :
    exec (.maintUnitDone activity resource durationNs passed vertexOk) s = execMaintUnitDone activity resource durationNs passed vertexOk s := rfl
@[simp] theorem exec_maintOverdue (activity resource : Nat) : exec (.maintOverdue activity resource) s = execMaintOverdue activity resource s := rfl
@[simp] theorem exec_spokeRetuneRequest (who : Who) (spoke : Nat) : exec (.spokeRetuneRequest who spoke) s = execSpokeRetuneRequest who spoke s := rfl
@[simp] theorem exec_powerLoss : exec .powerLoss s = execPowerLoss s := rfl
@[simp] theorem exec_refclkEdgesPresent : exec .refclkEdgesPresent s = execRefclkEdgesPresent s := rfl
@[simp] theorem exec_pcieLinkUp (rate width : Nat) (flit : Bool) : exec (.pcieLinkUp rate width flit) s = execPcieLinkUp rate width flit s := rfl
@[simp] theorem exec_contextResetDeferredStart (ctx : Nat) : exec (.contextResetDeferredStart ctx) s = execContextResetDeferredStart ctx s := rfl

end Sys2Proof.Machine
end

