-- ==== Sys2Proof/Laws/Memory.lean ====
section
/-! SUPPORT. Sys2Proof/Laws/Memory.lean: the canonical form of a memory, read after write, and what an access to a context's space
may change. -/

namespace Sys2Proof.Machine

/-! ### Cells -/

theorem cellsWf_mono (l : List Host.Cell) (a b : Option Nat) (h : cellsWf b l = true)
    (hab : ∀ i, a = some i → ∃ j, b = some j ∧ i ≤ j) : cellsWf a l = true := by
  cases l with
  | nil => rfl
  | cons e r =>
    obtain ⟨k, c⟩ := e
    simp only [cellsWf, Bool.and_eq_true] at h ⊢
    refine ⟨⟨?_, h.1.2⟩, h.2⟩
    cases a with
    | none => rfl
    | some i =>
      obtain ⟨j, rfl, hij⟩ := hab i rfl
      have := h.1.1
      simp only [decide_eq_true_eq] at this ⊢
      omega

theorem cellsWf_none (l : List Host.Cell) (a : Option Nat) (h : cellsWf a l = true) : cellsWf none l = true :=
  cellsWf_mono l none a h (fun i hi => by cases hi)

theorem cellsWf_putCell (l : List Host.Cell) (lo : Option Nat) (a : Nat) (b : Byte) (h : cellsWf lo l = true)
    (ha : ∀ i, lo = some i → i < a) : cellsWf lo (putCell l a b) = true := by
  induction l generalizing lo with
  | nil =>
    simp only [putCell]
    split
    · rfl
    · rename_i hb
      cases lo with
      | none => simpa [cellsWf] using hb
      | some i => simpa [cellsWf, ha i rfl] using hb
  | cons e r ih =>
    obtain ⟨k, c⟩ := e
    simp only [cellsWf, Bool.and_eq_true] at h
    simp only [putCell]
    split
    · rename_i hak
      split
      · simp only [cellsWf, Bool.and_eq_true]; exact h
      · rename_i hb
        simp only [cellsWf, Bool.and_eq_true]
        refine ⟨⟨?_, by simpa using hb⟩, ⟨by simpa using hak, h.1.2⟩, h.2⟩
        cases lo with
        | none => rfl
        | some i => simpa using ha i rfl
    · split
      · rename_i _ hak
        subst hak
        split
        · cases lo with
          | none => exact cellsWf_none _ _ h.2
          | some i => exact cellsWf_mono _ _ _ h.2 (fun j hj => ⟨a, rfl, by cases hj; exact Nat.le_of_lt (ha i rfl)⟩)
        · rename_i hb
          simp only [cellsWf, Bool.and_eq_true]
          exact ⟨⟨h.1.1, by simpa using hb⟩, h.2⟩
      · rename_i h1 h2
        simp only [cellsWf, Bool.and_eq_true]
        exact ⟨h.1, ih (some k) h.2 (fun i hi => by cases hi; omega)⟩

/-- Writing one byte keeps the canonical form. -/
theorem Memory.wf_put (m : Memory) (a : Nat) (b : Byte) (h : m.wf = true) : (m.put a b).wf = true :=
  cellsWf_putCell m.cells none a b h (fun i hi => by cases hi)

/-- Writing bytes keeps the canonical form. -/
theorem Memory.wf_putN (bs : Bytes) (m : Memory) (a : Nat) (h : m.wf = true) : (m.putN a bs).wf = true := by
  induction bs generalizing m a with
  | nil => exact h
  | cons b r ih => exact ih _ _ (m.wf_put a b h)

theorem cellsWf_filter (p : Host.Cell → Bool) (l : List Host.Cell) (lo : Option Nat) (h : cellsWf lo l = true) :
    cellsWf lo (l.filter p) = true := by
  induction l generalizing lo with
  | nil => rfl
  | cons e r ih =>
    obtain ⟨k, c⟩ := e
    simp only [cellsWf, Bool.and_eq_true] at h
    rw [List.filter_cons]
    split
    · simp only [cellsWf, Bool.and_eq_true]
      exact ⟨h.1, ih _ h.2⟩
    · apply ih
      cases lo with
      | none => exact cellsWf_none _ _ h.2
      | some i =>
        have := h.1.1
        exact cellsWf_mono _ _ _ h.2 (fun j hj => ⟨k, rfl, by cases hj; simp only [decide_eq_true_eq] at this; omega⟩)

/-- Forgetting a range keeps the canonical form. -/
theorem Memory.wf_drop (m : Memory) (lo hi : Nat) (h : m.wf = true) : (m.drop lo hi).wf = true :=
  cellsWf_filter _ _ _ h

theorem tget_putCell (l : List Host.Cell) (lo : Option Nat) (a x : Nat) (b : Byte) (h : cellsWf lo l = true) :
    tget 0 (putCell l a b) x = if x = a then b else tget 0 l x := by
  induction l generalizing lo with
  | nil =>
    simp only [putCell]
    split
    · rename_i hb; simp [hb]
    · simp only [tget]; split <;> split <;> simp_all
  | cons e r ih =>
    obtain ⟨k, c⟩ := e
    simp only [cellsWf, Bool.and_eq_true] at h
    have below : ∀ y, y ≤ k → tget 0 r y = 0 := by
      intro y hy
      have : ∀ (l : List Host.Cell) (j : Nat), cellsWf (some j) l = true → ∀ y, y ≤ j → tget (0 : Byte) l y = 0 := by
        intro l
        induction l with
        | nil => intros; rfl
        | cons e r ih =>
          obtain ⟨i, d⟩ := e
          intro j hj y hy
          simp only [cellsWf, Bool.and_eq_true, decide_eq_true_eq] at hj
          simp only [tget]
          rw [if_neg (by omega)]
          exact ih i hj.2 y (by omega)
      exact this r k h.2 y hy
    simp only [putCell]
    split
    · rename_i hak
      split
      · rename_i hb
        by_cases hx : x = a
        · subst hx
          simp only [tget, if_true, hb]
          rw [if_neg (by omega)]
          exact below x (by omega)
        · simp [hx]
      · simp only [tget]
        by_cases hx : x = a
        · subst hx; simp
        · simp [hx, Ne.symm hx]
    · split
      · rename_i _ hak
        subst hak
        split
        · rename_i hb
          by_cases hx : x = a
          · subst hx; simp only [if_true, hb]; exact below x (Nat.le_refl _)
          · simp [tget, hx, Ne.symm hx]
        · by_cases hx : x = a
          · subst hx; simp [tget]
          · simp [tget, hx, Ne.symm hx]
      · rename_i h1 h2
        simp only [tget]
        rw [ih (some k) h.2]
        by_cases hx : x = a
        · subst hx
          rw [if_neg (Ne.symm h2), if_pos rfl, if_pos rfl]
        · simp [hx]

/-- A byte reads as it was written, and every other byte as before. -/
theorem Memory.get_put (m : Memory) (a x : Nat) (b : Byte) (h : m.wf = true) :
    (m.put a b).get x = if x = a then b else m.get x := tget_putCell m.cells none a x b h

/-- After a write of several bytes each reads as it was written, and every other byte as before. -/
theorem Memory.get_putN (bs : Bytes) (m : Memory) (a x : Nat) (h : m.wf = true) :
    (m.putN a bs).get x = if a ≤ x ∧ x < a + bs.length then bs.getD (x - a) 0 else m.get x := by
  induction bs generalizing m a with
  | nil => simp only [Memory.putN, List.length_nil]; rw [if_neg (by omega)]
  | cons b r ih =>
    simp only [Memory.putN]
    rw [ih _ _ (m.wf_put a b h), m.get_put a x b h]
    simp only [List.length_cons]
    by_cases hx : x = a
    · subst hx
      rw [if_neg (by omega), if_pos rfl, if_pos (by omega)]
      simp
    · rw [if_neg hx]
      by_cases hr : a + 1 ≤ x ∧ x < a + 1 + r.length
      · rw [if_pos hr, if_pos (by omega)]
        have : x - a = (x - (a + 1)) + 1 := by omega
        rw [this]; simp
      · rw [if_neg hr, if_neg (by omega)]

/-! ### What an access changes -/

/-- Objects that an access to memory may write: counts of HBM and facet memory, the flip mask, and what records raise. -/
def accessObject (o : ObjDef) : Bool :=
  [Obj.HBM_BYTES.index, Obj.HBM_POISON_READ_COUNT.index, Obj.HBM_CORRECTED_COUNT.index, Obj.HBM_UNCORRECTABLE_COUNT.index,
   Obj.HBM_MERGE_RMW_COUNT.index, Obj.HBM_MERGE_FULL_COUNT.index, Obj.ECC_FLIP_STATUS.index, Obj.FM_CORRECTED_COUNT.index,
   Obj.SRAM_CORRECTED_COUNT.index, Obj.FM_UNCORRECTABLE_COUNT.index, Obj.SRAM_UNCORRECTABLE_COUNT.index,
   Obj.ALARM_STATUS.index, Obj.TRACE_CONFIG.index].contains o.index

theorem accessObject_ne {o p : ObjDef} (h : accessObject o = true) (hp : accessObject p = false) (i j : Nat) : p.key i ≠ o.key j :=
  ObjDef.key_ne (fun e => by unfold accessObject at h hp; rw [e, h] at hp; cases hp) _ _

/-- An item stays as it is. -/
theorem ItemKept.same {s t : State} {n : Nat} (h : tfind t.items n = tfind s.items n) : ItemKept s t n := by
  unfold ItemKept
  rw [h]
  cases tfind s.items n with
  | none => rfl
  | some it => exact ⟨0, rfl⟩

theorem ItemKept.refl (s : State) (n : Nat) : ItemKept s s n := ItemKept.same rfl

/-- What is kept twice is kept. -/
theorem ItemKept.trans {s t u : State} {n : Nat} (h : ItemKept s t n) (k : ItemKept t u n) : ItemKept s u n := by
  unfold ItemKept at *
  cases hs : tfind s.items n with
  | none => rw [hs] at h; simp only at h; rw [h] at k; exact k
  | some it =>
    rw [hs] at h
    obtain ⟨a, h⟩ := h
    rw [h] at k
    obtain ⟨b, k⟩ := k
    exact ⟨a + b, by rw [k, ← List.replicate_append_replicate, List.foldl_append]⟩

/-- `t` comes from `s` by accesses to memory: they change the memories, what counts and records their errors, and the items whose writes
are lost, and nothing else, and keep each memory's canonical form. -/
structure Accessed (s t : State) : Prop where
  rest : ∃ o h f l p u n it, t = { s with objs := o, hbm := h, fm := f, log := l, pins := p, out := u, freeCtr := n, items := it }
  regs : ∀ (o : ObjDef) (sub i : Nat), accessObject o = false → t.regF o sub i = s.regF o sub i
  hbmWf : s.hbm.mem.wf = true → t.hbm.mem.wf = true
  fmWf : s.fm.mem.wf = true → t.fm.mem.wf = true
  kept : ∀ n, ItemKept s t n
  right : s.itemsRight → t.itemsRight

/-- An access that changes no item. -/
theorem Accessed.of {s t : State} (h0 : ∃ o h f l p u n, t = { s with objs := o, hbm := h, fm := f, log := l, pins := p, out := u, freeCtr := n })
    (h1 : ∀ (o : ObjDef) (sub i : Nat), accessObject o = false → t.regF o sub i = s.regF o sub i)
    (h2 : s.hbm.mem.wf = true → t.hbm.mem.wf = true) (h3 : s.fm.mem.wf = true → t.fm.mem.wf = true) : Accessed s t := by
  obtain ⟨_, _, _, _, _, _, _, h0⟩ := h0
  subst h0
  exact ⟨⟨_, _, _, _, _, _, _, _, rfl⟩, h1, h2, h3, fun _ => ItemKept.same rfl, id⟩

theorem Accessed.refl (s : State) : Accessed s s := .of ⟨_, _, _, _, _, _, _, rfl⟩ (fun _ _ _ _ => rfl) id id

theorem Accessed.trans {s t u : State} (h : Accessed s t) (k : Accessed t u) : Accessed s u := by
  obtain ⟨_, _, _, _, _, _, _, _, h0⟩ := h.rest
  obtain ⟨_, _, _, _, _, _, _, _, k0⟩ := k.rest
  exact ⟨⟨_, _, _, _, _, _, _, _, by rw [k0, h0]⟩, fun o sub i ho => (k.regs o sub i ho).trans (h.regs o sub i ho),
    fun x => k.hbmWf (h.hbmWf x), fun x => k.fmWf (h.fmWf x), fun n => (h.kept n).trans (k.kept n), fun x => k.right (h.right x)⟩

theorem Accessed.ite {s t u : State} {c : Prop} [Decidable c] (h : Accessed s t) (k : Accessed s u) : Accessed s (if c then t else u) := by
  split <;> assumption

theorem Accessed.foldl {α : Type} (g : State → α → State) (l : List α) (s : State) (h : ∀ s a, Accessed s (g s a)) :
    Accessed s (l.foldl g s) := by
  induction l generalizing s with
  | nil => exact Accessed.refl s
  | cons a r ih => exact (h s a).trans (ih _)

theorem Accessed.setRegF (s : State) (o : ObjDef) (sub i v : Nat) (h : accessObject o = true) :
    Accessed s (s.setRegF o sub i v) :=
  .of ⟨_, _, _, _, _, _, _, rfl⟩ (fun _ _ _ hp => regF_setRegF_other _ _ _ _ _ _ _ _ (.inl (accessObject_ne h hp _ _))) id id

theorem Accessed.setReg (s : State) (o : ObjDef) (sub v : Nat) (h : accessObject o = true) : Accessed s (s.setReg o sub v) :=
  Accessed.setRegF _ _ _ _ _ h

theorem Accessed.bump (s : State) (o : ObjDef) (sub n : Nat) (h : accessObject o = true) : Accessed s (s.bump o sub n) :=
  Accessed.setRegF _ _ _ _ _ h

theorem Accessed.bumpF (s : State) (o : ObjDef) (sub i n : Nat) (h : accessObject o = true) : Accessed s (s.bumpF o sub i n) :=
  Accessed.setRegF _ _ _ _ _ h

theorem Accessed.took (s : State) : Accessed s s.took :=
  .of ⟨_, _, _, _, _, _, _, rfl⟩ (fun _ _ _ _ => regF_congr rfl ..) id id

theorem Accessed.log! (s : State) (e : Event) : Accessed s (s.log! e) := by
  refine .of ?_ (fun o sub i ho => regF_log! _ _ _ _ _ ?_) (by simp) (by simp)
  · obtain ⟨_, _, _, _, h⟩ := s.log!_shape e
    exact ⟨_, _, _, _, _, _, _, h⟩
  · simp only [alarmKeys, List.mem_cons, List.not_mem_nil, or_false, not_or]
    exact ⟨accessObject_ne (by decide) ho _ _, accessObject_ne (by decide) ho _ _⟩

theorem Accessed.hbm (s : State) (x : Hbm) (h : s.hbm.mem.wf = true → x.mem.wf = true) : Accessed s (s.setHbm x) :=
  .of ⟨_, _, _, _, _, _, _, rfl⟩ (fun _ _ _ _ => regF_congr rfl ..) h id

theorem Accessed.fm (s : State) (x : FacetMem) (h : s.fm.mem.wf = true → x.mem.wf = true) : Accessed s (s.setFm x) :=
  .of ⟨_, _, _, _, _, _, _, rfl⟩ (fun _ _ _ _ => regF_congr rfl ..) id h

/-! ### HBM -/

theorem hbmUncorrectable_accessed (s : State) (k r : Nat) : Accessed s (s.hbmUncorrectable k r) := by
  unfold State.hbmUncorrectable
  dsimp only
  refine Accessed.trans ?_ (Accessed.log! _ _)
  refine Accessed.trans ?_ (Accessed.bump _ Obj.HBM_UNCORRECTABLE_COUNT _ _ (by decide))
  exact Accessed.hbm _ _ (Memory.wf_drop _ _ _)

theorem checkSector_accessed (s : State) (k r : Nat) : Accessed s (s.checkSector k r).2 := by
  unfold State.checkSector
  dsimp only
  split
  · exact Accessed.bump _ _ _ _ (by decide)
  · split
    · exact hbmUncorrectable_accessed ..
    · split
      · exact Accessed.refl s
      · split
        · dsimp only
          exact Accessed.trans (Accessed.bump _ Obj.HBM_CORRECTED_COUNT _ _ (by decide)) (Accessed.log! _ _)
        · exact hbmUncorrectable_accessed ..

theorem storeSector_accessed (s : State) (k : Nat) (b : Bytes) : Accessed s (s.storeSector k b) := by
  unfold State.storeSector
  dsimp only
  generalize hx : s.setHbm _ = x
  have h0 : Accessed s x := by rw [← hx]; exact Accessed.hbm _ _ (Memory.wf_putN _ _ _)
  refine Accessed.trans h0 ?_
  split
  · generalize hy : State.setReg _ Obj.ECC_FLIP_STATUS 7 2 = y
    have h1 : Accessed x y := by
      rw [← hy]; refine Accessed.trans ?_ (Accessed.setReg _ _ _ _ (by decide)); exact Accessed.hbm _ _ id
    refine Accessed.trans h1 ?_
    split
    · exact Accessed.refl _
    · split
      · exact Accessed.hbm _ _ id
      · split
        · refine Accessed.trans ?_ (Accessed.took _); exact Accessed.hbm _ _ id
        · exact Accessed.trans (Accessed.hbm _ _ (Memory.wf_putN _ _ _)) (Accessed.took _)
  · exact Accessed.refl _

/-- A write that is lost fails the item that made it, and no other. -/
theorem failWriter_accessed (s : State) (n : Nat) : Accessed s (s.failWriter n) := by
  unfold State.failWriter State.failLate
  cases h : tfind s.items n with
  | none => exact Accessed.refl s
  | some it =>
    refine ⟨⟨_, _, _, _, _, _, _, _, rfl⟩, fun _ _ _ _ => regF_congr rfl .., id, id, fun j => ?_, fun hr => ⟨rising_tset n _ hr.1, fun e he => ?_⟩⟩
    · unfold ItemKept
      show match tfind s.items j with
        | none => tfind (tset s.items n _) j = none
        | some it => ∃ k, tfind (tset s.items n _) j = some ((List.replicate k Status.failedUncorrectable).foldl Item.failing it)
      rw [tfind_tset]
      by_cases hj : j = n
      · subst hj; rw [h, if_pos rfl]; exact ⟨1, rfl⟩
      · rw [if_neg hj]
        cases tfind s.items j with
        | none => rfl
        | some jt => exact ⟨0, rfl⟩
    · rcases mem_tset he with rfl | he
      · exact hr.2 (n, it) (mem_of_tfind h)
      · exact hr.2 e he

theorem mergeBack_accessed (s : State) (e : MergeEntry) (r : Nat) : Accessed s (s.mergeBack e r).2 := by
  unfold State.mergeBack
  dsimp only
  generalize hx : State.bump _ Obj.HBM_MERGE_RMW_COUNT _ _ = x
  have h0 : Accessed s x := by
    rw [← hx]; refine Accessed.trans ?_ (Accessed.bump _ _ _ _ (by decide)); exact Accessed.hbm _ _ id
  have h1 := checkSector_accessed x e.sector r
  refine Accessed.trans h0 ?_
  split
  · rename_i h; rw [h] at h1; exact h1.trans (Accessed.foldl _ _ _ failWriter_accessed)
  · rename_i h; rw [h] at h1; exact Accessed.trans h1 (storeSector_accessed ..)

theorem readSector_accessed (s : State) (k r : Nat) : Accessed s (s.readSector k r).2 := by
  unfold State.readSector
  dsimp only
  split
  · split <;> exact mergeBack_accessed ..
  · split
    · exact Accessed.refl s
    · exact checkSector_accessed ..

theorem countBytes_accessed (s : State) (k d n : Nat) : Accessed s (s.countBytes k d n) := by
  unfold State.countBytes
  exact Accessed.ite (Accessed.refl s) (Accessed.bumpF _ Obj.HBM_BYTES _ _ _ (by decide))

theorem readSectors_accessed (l : List Nat) (s : State) (r a b : Nat) : Accessed s (s.readSectors r a b l).2 := by
  induction l generalizing s with
  | nil => exact Accessed.refl s
  | cons k ks ih => exact Accessed.trans (readSector_accessed s k r) (Accessed.trans (countBytes_accessed ..) (ih _))

theorem hbmRead_accessed (s : State) (p n r : Nat) : Accessed s (s.hbmRead p n r).2 := readSectors_accessed ..

theorem writePart_accessed (s : State) (k o : Nat) (b : Bytes) (w : Option Nat) : Accessed s (s.writePart k o b w).2 := by
  unfold State.writePart
  dsimp only
  generalize mergeInto _ o b = t
  generalize hold : s.mergeEntry k = old
  clear hold
  by_cases h : s.pageRetired (k * 32) = true
  · rw [if_pos h]; exact Accessed.refl s
  rw [if_neg h]
  by_cases h : t.length = 32
  · rw [if_pos h]
    refine Accessed.trans ?_ (storeSector_accessed ..)
    generalize hx : s.setHbm _ = x
    have h0 : Accessed s x := by rw [← hx]; exact Accessed.hbm _ _ id
    refine h0.trans ?_
    exact Accessed.ite (Accessed.bump _ Obj.HBM_MERGE_FULL_COUNT _ _ (by decide)) (Accessed.refl _)
  rw [if_neg h]
  by_cases h : s.sectorLost k = true
  · rw [if_pos h]
    cases old with
    | some e => exact mergeBack_accessed ..
    | none => exact checkSector_accessed ..
  rw [if_neg h]
  cases old with
  | some e => exact Accessed.hbm _ _ id
  | none =>
    refine Accessed.trans ?_ (Accessed.hbm _ _ id)
    split
    · exact Accessed.refl s
    · split
      · exact mergeBack_accessed ..
      · exact Accessed.refl s

theorem writeSectors_accessed (l : List Nat) (s : State) (p : Nat) (b : Bytes) (w : Option Nat) :
    Accessed s (s.writeSectors p b w l).2 := by
  induction l generalizing s with
  | nil => exact Accessed.refl s
  | cons k ks ih => exact Accessed.trans (writePart_accessed ..) (Accessed.trans (countBytes_accessed ..) (ih _))

theorem hbmWrite_accessed (s : State) (p : Nat) (b : Bytes) (w : Option Nat) : Accessed s (s.hbmWrite p b w).2 := writeSectors_accessed ..

theorem storeParts_accessed (l : List Nat) (s : State) (p : Nat) (b : Bytes) : Accessed s (s.storeParts p b l) := by
  induction l generalizing s with
  | nil => exact Accessed.refl s
  | cons k ks ih => exact Accessed.trans (storeSector_accessed ..) (Accessed.trans (countBytes_accessed ..) (ih _))

theorem hbmUpdate_accessed (s : State) (p n r : Nat) (f : Bytes → Option Bytes) : Accessed s (s.hbmUpdate p n r f).2 := by
  have h := hbmRead_accessed s p n r
  unfold State.hbmUpdate
  dsimp only
  split
  · exact h
  · split
    · exact h.trans (storeParts_accessed ..)
    · exact h

/-! ### Facet memory and the other SRAM -/

theorem checkWord_accessed (s : State) (w : Nat) : Accessed s (s.checkWord w).2 := by
  unfold State.checkWord
  dsimp only
  split
  · exact Accessed.refl s
  · split
    · exact Accessed.refl s
    · split
      · dsimp only
        refine Accessed.trans ?_ (Accessed.log! _ _)
        refine Accessed.trans ?_ (Accessed.fm _ _ id)
        exact Accessed.trans (Accessed.bump _ Obj.FM_CORRECTED_COUNT _ _ (by decide))
          (Accessed.bump _ Obj.SRAM_CORRECTED_COUNT _ _ (by decide))
      · dsimp only
        refine Accessed.trans ?_ (Accessed.log! _ _)
        refine Accessed.trans ?_ (Accessed.fm _ _ id)
        exact Accessed.trans (Accessed.bump _ Obj.FM_UNCORRECTABLE_COUNT _ _ (by decide))
          (Accessed.bump _ Obj.SRAM_UNCORRECTABLE_COUNT _ _ (by decide))

theorem meetFlaw_accessed (s : State) (c k : Nat) (x : SramFlaw) : Accessed s (s.meetFlaw c k x) := by
  unfold State.meetFlaw
  dsimp only
  split
  · refine Accessed.trans ?_ (Accessed.log! _ _)
    refine Accessed.trans ?_ (Accessed.bump _ Obj.SRAM_UNCORRECTABLE_COUNT _ _ (by decide))
    exact Accessed.trans (Accessed.fm _ _ id) (Accessed.fm _ _ id)
  · refine Accessed.trans ?_ (Accessed.log! _ _)
    refine Accessed.trans ?_ (Accessed.bump _ Obj.SRAM_CORRECTED_COUNT _ _ (by decide))
    exact Accessed.fm _ _ id

theorem sramRead_accessed (s : State) (cls inst lo hi c k : Nat) : Accessed s (s.sramRead cls inst lo hi c k).2 :=
  Accessed.foldl _ _ _ (fun s x => meetFlaw_accessed s c k x)

theorem sramWrote_accessed (s : State) (cls inst lo hi : Nat) : Accessed s (s.sramWrote cls inst lo hi) := Accessed.fm _ _ id

theorem checkWords_accessed (l : List Nat) (s : State) : Accessed s (s.checkWords l).2 := by
  induction l generalizing s with
  | nil => exact Accessed.refl s
  | cons k ks ih => exact Accessed.trans (checkWord_accessed s k) (ih _)

theorem fmRead_accessed (s : State) (f a n : Nat) : Accessed s (s.fmRead f a n).2 := by
  unfold State.fmRead
  split
  · exact Accessed.refl s
  · exact checkWords_accessed ..

theorem wroteWord_accessed (s : State) (c w : Nat) (b : Bool) : Accessed s (s.wroteWord c w b) := by
  unfold State.wroteWord
  dsimp only
  generalize hx : (if b = true then _ else _ : State) = x
  have h0 : Accessed s x := by
    rw [← hx]
    split
    · exact Accessed.fm _ _ id
    · split
      · exact checkWord_accessed ..
      · exact Accessed.trans (checkWord_accessed ..) (Accessed.fm _ _ id)
  refine Accessed.trans h0 ?_
  split
  · generalize hy : State.setReg _ Obj.ECC_FLIP_STATUS 7 2 = y
    have h1 : Accessed x y := by
      rw [← hy]
      refine Accessed.trans ?_ (Accessed.setReg _ _ _ _ (by decide))
      exact Accessed.hbm _ _ id
    refine Accessed.trans h1 ?_
    split
    · exact Accessed.refl _
    · split
      · refine Accessed.trans ?_ (Accessed.took _); exact Accessed.fm _ _ id
      · exact Accessed.trans (Accessed.fm _ _ (Memory.wf_putN _ _ _)) (Accessed.took _)
  · exact Accessed.refl _

theorem wroteWords_accessed (l : List Nat) (s : State) (c b n : Nat) : Accessed s (s.wroteWords c b n l) := by
  induction l generalizing s with
  | nil => exact Accessed.refl s
  | cons k ks ih => exact Accessed.trans (wroteWord_accessed ..) (ih _)

theorem fmWrite_accessed (s : State) (c f a : Nat) (b : Bytes) : Accessed s (s.fmWrite c f a b).2 := by
  unfold State.fmWrite
  split
  · exact Accessed.refl s
  · exact Accessed.trans (Accessed.fm _ _ (Memory.wf_putN _ _ _)) (wroteWords_accessed ..)

theorem fmReads_accessed (l : List (Nat × Nat × Nat)) (s : State) : Accessed s (s.fmReads l).2 := by
  induction l generalizing s with
  | nil => exact Accessed.refl s
  | cons k ks ih => exact Accessed.trans (fmRead_accessed ..) (ih _)

theorem fmWrites_accessed (l : List (Nat × Nat × Nat)) (s : State) (c : Nat) (b : Bytes) : Accessed s (s.fmWrites c b l) := by
  induction l generalizing s b with
  | nil => exact Accessed.refl s
  | cons k ks ih => exact Accessed.trans (fmWrite_accessed ..) (ih _ _)

/-! ### The space of a context -/

/-- A read of a context's space changes only what an access may. -/
theorem ctxRead_accessed (s : State) (c o n r : Nat) : Accessed s (s.ctxRead c o n r).2 := by
  unfold State.ctxRead
  dsimp only
  split
  · split
    · exact fmReads_accessed ..
    · exact Accessed.refl s
  · split
    · exact hbmRead_accessed ..
    · exact Accessed.refl s

/-- A write to a context's space changes only what an access may. -/
theorem ctxWrite_accessed (s : State) (c o : Nat) (b : Bytes) (w : Option Nat) : Accessed s (s.ctxWrite c o b w).2 := by
  unfold State.ctxWrite
  split
  · split
    · exact fmWrites_accessed ..
    · exact Accessed.refl s
  · split
    · have := hbmWrite_accessed s (s.phys c o) b w
      split
      · rename_i h; rw [h] at this; exact this
      · rename_i h; rw [h] at this; exact this
    · exact Accessed.refl s

/-- A read-modify-write of a context's space changes only what an access may. -/
theorem ctxUpdate_accessed (s : State) (c o n : Nat) (f : Bytes → Option Bytes) (r : Nat) : Accessed s (s.ctxUpdate c o n f r).2 := by
  unfold State.ctxUpdate
  dsimp only
  split
  · split
    · exact ctxRead_accessed ..
    · split
      · exact (ctxRead_accessed ..).trans (ctxWrite_accessed ..)
      · exact ctxRead_accessed ..
  · split
    · exact hbmUpdate_accessed ..
    · exact Accessed.refl s

theorem bufferRead_accessed (s : State) (cls c o n : Nat) : Accessed s (s.bufferRead cls c o n).2 := sramRead_accessed ..

theorem bufferWrite_accessed (s : State) (cls c o : Nat) (b : Bytes) : Accessed s (s.bufferWrite cls c o b) :=
  (ctxWrite_accessed ..).trans (sramWrote_accessed ..)

end Sys2Proof.Machine
end

