-- ==== Sys2Proof/Laws/Programs.lean ====
section
/-! SUPPORT. Sys2Proof/Laws/Programs.lean: threads, programs and scalar registers read as written, and what executing one
instruction comes to. -/

namespace Sys2Proof.Machine

theorem tset_tset {α : Type} (t : Table α) (k : Nat) (v w : α) : tset (tset t k v) k w = tset t k w := by
  induction t with
  | nil => simp [tset]
  | cons e r ih =>
    obtain ⟨j, x⟩ := e
    simp only [tset]
    split
    · simp [tset]
    · split
      · simp [tset]
      · rename_i h1 h2; simp only [tset, if_neg h1, if_neg h2, ih]

theorem facet_congr {s t : State} (h : t.facets = s.facets) (f : Nat) : t.facet f = s.facet f := by simp only [State.facet, h]
theorem thread?_congr {s t : State} (h : t.facets = s.facets) (f n : Nat) : t.thread? f n = s.thread? f n := by
  simp only [State.thread?, facet_congr h]
theorem prog?_congr {s t : State} (h : t.facets = s.facets) (f n : Nat) : t.prog? f n = s.prog? f n := by
  simp only [State.prog?, thread?_congr h]

@[simp] theorem facet_setFacet_same (s : State) (f : Nat) (x : Facet) : (s.setFacet f x).facet f = x := tget_tset_same ..

theorem setFacet_setFacet (s : State) (f : Nat) (x y : Facet) : (s.setFacet f x).setFacet f y = s.setFacet f y := by
  simp only [State.setFacet, State.setFacets, tset_tset]

@[simp] theorem thread?_setThread_same (s : State) (f t : Nat) (th : Thread) : (s.setThread f t th).thread? f t = some th := by
  simp only [State.setThread, State.thread?, facet_setFacet_same, tfind_tset_same]

theorem setThread_setThread (s : State) (f t : Nat) (a b : Thread) : (s.setThread f t a).setThread f t b = s.setThread f t b := by
  simp only [State.setThread, facet_setFacet_same, setFacet_setFacet, tset_tset]

theorem setProg_of_thread {s : State} {f t : Nat} {th : Thread} (h : s.thread? f t = some th) (p : Program) :
    s.setProg f t p = s.setThread f t { th with prog := some p } := by simp only [State.setProg, h]

theorem prog?_setProg {s : State} {f t : Nat} {q : Program} (h : s.prog? f t = some q) (p : Program) :
    (s.setProg f t p).prog? f t = some p := by
  unfold State.prog? at h
  split at h
  · rename_i th ht; rw [setProg_of_thread ht]; simp only [State.prog?, thread?_setThread_same]
  · cases h

theorem setProg_setProg (s : State) (f t : Nat) (p q : Program) : (s.setProg f t p).setProg f t q = s.setProg f t q := by
  cases h : s.thread? f t with
  | none => simp only [State.setProg, h]
  | some th =>
    rw [setProg_of_thread h, setProg_of_thread h, setProg_of_thread (thread?_setThread_same ..), setThread_setThread]

@[simp] theorem thread?_sset (s : State) (f t r v : Nat) (b : Bool) (n : Nat) : (s.sset f t r v b).thread? f n = s.thread? f n := by
  unfold State.sset
  split
  · rfl
  · simp only [State.thread?, facet_setFacet_same]

@[simp] theorem prog?_sset (s : State) (f t r v : Nat) (b : Bool) (n : Nat) : (s.sset f t r v b).prog? f n = s.prog? f n := by
  simp only [State.prog?, thread?_sset]

/-- A fetch answers a thread's program, and the word at its address. -/
theorem fetch_some {s : State} {f t : Nat} {p : Program} {w : Nat} (h : s.fetch f t = some (p, w)) :
    ∃ th, s.thread? f t = some th ∧ th.prog = some p ∧ p.framed = true ∧ p.combine = false ∧ th.wait = .no ∧ p.count < s.insnLimit th.ctx
      ∧ p.address + 8 ≤ facetBytes ∧ w = ofLE (s.fm.mem.getN (facetBytes * f + p.address) 8) := by
  unfold State.fetch at h
  split at h
  · cases h
  · rename_i th ht
    split at h
    · cases h
    · rename_i q hq
      split at h
      · rename_i hc
        cases h
        exact ⟨th, ht, hq, hc.1, hc.2.1, hc.2.2.1, hc.2.2.2.1, hc.2.2.2.2, rfl⟩
      · cases h

theorem prog?_of_fetch {s : State} {f t : Nat} {p : Program} {w : Nat} (h : s.fetch f t = some (p, w)) : s.prog? f t = some p := by
  obtain ⟨th, h1, h2, _⟩ := fetch_some h
  simp only [State.prog?, h1, h2]

theorem goto_of_prog {s : State} {f t : Nat} {p : Program} (h : s.prog? f t = some p) (pc : Nat) :
    s.goto f t pc = s.onward f t p pc := by simp only [State.goto, h, State.onward]

theorem onward_setProg (s : State) (f t : Nat) (q p : Program) (pc : Nat) : (s.setProg f t q).onward f t p pc = s.onward f t p pc := by
  simp only [State.onward, setProg_setProg]

theorem onInsn_at {s : State} {f t : Nat} {p : Program} {w op : Nat} (h : s.At f t p w) (ho : iOp w = op)
    (act : Program → Nat → State → State) : s.onInsn f t op act = act p w s := by
  simp only [State.onInsn, h.1, ho, h.2, and_self, if_true]

/-- An instruction that keeps its program goes on after it. -/
theorem insn_at {s : State} {f t : Nat} {p q : Program} {w op : Nat} (h : s.At f t p w) (ho : iOp w = op)
    (act : Program → Nat → State → State) (hq : (act p w s).prog? f t = some q) :
    s.insn f t op act = (act p w s).onward f t q (p.pc + 1) := by
  rw [State.insn, onInsn_at h ho, goto_of_prog hq]

theorem bump_At {s : State} {f t : Nat} (o : ObjDef) (sub n : Nat) : (s.bump o sub n).prog? f t = s.prog? f t := prog?_congr rfl ..

theorem checkWords_clean (l : List Nat) (s : State) (h : ∀ k ∈ l, s.fm.poison.contains k = false ∧ tfind s.fm.flips k = none) :
    s.checkWords l = (false, s) := by
  induction l with
  | nil => rfl
  | cons k ks ih =>
    have hk : s.checkWord k = (false, s) := by
      obtain ⟨h1, h2⟩ := h k (by simp)
      unfold State.checkWord; dsimp only
      rw [if_neg (by simpa using h1), h2]
    unfold State.checkWords
    rw [hk]; dsimp only; rw [ih (fun j hj => h j (by simp [hj]))]; rfl

/-- A read of words without a stored error answers their bytes and changes nothing. -/
theorem fmRead_clean {s : State} {f a n : Nat} (h : s.Clean f a n) : s.fmRead f a n = ({ bytes := s.fmBytes f a n }, s) := by
  obtain ⟨h1, h2⟩ := h
  unfold State.fmRead
  rw [if_neg (by omega)]
  dsimp only
  rw [checkWords_clean _ _ h2]; rfl

theorem fmRead_outside {s : State} {f a n : Nat} (h : facetBytes < a + n) :
    s.fmRead f a n = ({ bytes := List.replicate n 0, protection := true }, s) := by
  unfold State.fmRead; rw [if_pos h]

theorem Accessed.facets {s t : State} (h : Accessed s t) : t.facets = s.facets := by
  obtain ⟨_, _, _, _, _, _, _, _, h⟩ := h.rest; rw [h]

@[simp] theorem thread?_meet (s : State) (n : Nat) (st : Status) (f t : Nat) : (s.meet n st).thread? f t = s.thread? f t := by
  unfold State.meet; split <;> rfl

theorem prog?_meet (s : State) (n : Nat) (st : Status) (f t : Nat) : (s.meet n st).prog? f t = s.prog? f t := by
  simp only [State.prog?, thread?_meet]

theorem finish_facets (s : State) (n : Nat) (o : FabOutcome) : (s.finish n o).facets = s.facets := by
  unfold State.finish
  split
  · split <;> rfl
  · rfl

@[simp] theorem thread?_dropBands (s : State) (f m t : Nat) : (s.dropBands f m).thread? f t = s.thread? f t := by
  simp only [State.dropBands, State.setBands, State.thread?, facet_setFacet_same]

theorem prog?_dropBands (s : State) (f m t : Nat) : (s.dropBands f m).prog? f t = s.prog? f t := by
  simp only [State.prog?, thread?_dropBands]

theorem prog?_leaveProgram (s : State) (f t : Nat) (p : Program) : (s.leaveProgram f t p).prog? f t = none := by
  unfold State.leaveProgram
  split
  · rename_i h; simp only [State.prog?, h]
  · rw [prog?_congr (finish_facets ..), prog?_dropBands]
    generalize p.failing = l
    rename_i th _
    have h0 : ((s.releaseTile f p).setThread f t { th with prog := none, wait := .no }).prog? f t = none := by
      simp only [State.prog?, thread?_setThread_same]
    generalize (s.releaseTile f p).setThread f t { th with prog := none, wait := .no } = a at h0
    induction l generalizing a with
    | nil => exact h0
    | cons x l ih => rw [List.foldl_cons]; exact ih _ (by rw [prog?_meet]; exact h0)

/-- A stopped program executes nothing more. -/
theorem prog?_stopProgram (s : State) (f t : Nat) (st : Status) : (s.stopProgram f t st).prog? f t = none := by
  unfold State.stopProgram
  split
  · rename_i h; simp only [State.prog?, h]
  · rename_i h1
    split
    · rename_i h2; simp only [State.prog?, h1, h2]
    · exact prog?_leaveProgram ..

theorem goto_stopped (s : State) (f t pc : Nat) (st : Status) : (s.stopProgram f t st).goto f t pc = s.stopProgram f t st := by
  unfold State.goto; rw [prog?_stopProgram]

end Sys2Proof.Machine
end

