-- ==== Sys2Proof/Laws/Keeps.lean ====
section
/-! SUPPORT. Sys2Proof/Laws/Keeps.lean: what no operation disturbs. -/

namespace Sys2Proof.Machine

/-- What no operation disturbs: the queue of commands, the memories' form, what waits for a step, and the items' order. -/
structure Keeps (s t : State) : Prop where
  pending : t.pending = s.pending
  hbm : s.hbm.mem.wf = true → t.hbm.mem.wf = true
  fm : s.fm.mem.wf = true → t.fm.mem.wf = true
  dump : s.rcv.dump.wf = true → t.rcv.dump.wf = true
  waits : s.waitsRight → t.waitsRight
  items : s.itemsRight → t.itemsRight

theorem Keeps.refl (s : State) : Keeps s s := ⟨rfl, id, id, id, id, id⟩

theorem Keeps.trans {s t u : State} (h : Keeps s t) (k : Keeps t u) : Keeps s u :=
  ⟨k.pending.trans h.pending, fun x => k.hbm (h.hbm x), fun x => k.fm (h.fm x), fun x => k.dump (h.dump x),
    fun x => k.waits (h.waits x), fun x => k.items (h.items x)⟩

/-- An update of other parts of the state. -/
theorem Keeps.upd {s t : State} (h1 : t.pending = s.pending) (h2 : t.hbm = s.hbm) (h3 : t.fm = s.fm) (h4 : t.rcv = s.rcv)
    (h5 : t.waitStep = s.waitStep) (h6 : t.items = s.items) (h7 : t.nextItem = s.nextItem) : Keeps s t :=
  ⟨h1, fun x => by rw [h2]; exact x, fun x => by rw [h3]; exact x, fun x => by rw [h4]; exact x,
    fun x => by unfold State.waitsRight; rw [h5]; exact x, fun x => by unfold State.itemsRight; rw [h6, h7]; exact x⟩

/-- A state written out with the parts that matter as they were. -/
theorem Keeps.lit (s : State) {x_freeCtr : _} {x_objs : _} {x_cad : _} {x_plans : _} {x_queues : _} {x_summary : _} {x_pools : _} {x_log : _} {x_sec : _} {x_dict : _} {x_power : _} {x_flash : _} {x_maint : _} {x_waitBeat : _} {x_waitReset : _} {x_pins : _} {x_facets : _} {x_spokes : _} {x_hup : _} {x_fab : _} {x_maps : _} {x_router : _} {x_outgoing : _} {x_coll : _} {x_slotSerial : _} {x_out : _} :
    Keeps s (State.mk s.pending x_freeCtr x_objs x_cad x_plans s.items s.nextItem s.hbm s.fm x_queues x_summary x_pools x_log s.rcv x_sec x_dict x_power x_flash x_maint x_waitBeat s.waitStep x_waitReset x_pins x_facets x_spokes x_hup x_fab x_maps x_router x_outgoing x_coll x_slotSerial x_out) :=
  Keeps.upd rfl rfl rfl rfl rfl rfl rfl

/-- The state that an operation answers beside a value. -/
theorem Keeps.of_pair {α : Type} {s u : State} {a : α} {p : α × State} (h : Keeps s p.2) (e : p = (a, u)) : Keeps s u := by rw [e] at h; exact h

theorem Keeps.of_triple {α β : Type} {s u : State} {a : α} {b : β} {p : α × β × State} (h : Keeps s p.2.2) (e : p = (a, b, u)) : Keeps s u := by
  rw [e] at h; exact h

theorem Keeps.ite {s t u : State} {c : Prop} [Decidable c] (h : Keeps s t) (k : Keeps s u) : Keeps s (if c then t else u) := by
  split <;> assumption

theorem Keeps.ite_snd {α : Type} {s : State} {p q : α × State} {c : Prop} [Decidable c] (h : Keeps s p.2) (k : Keeps s q.2) :
    Keeps s (if c then p else q).2 := by
  split <;> assumption

theorem Keeps.foldl {α : Type} (g : State → α → State) (l : List α) (s : State) (h : ∀ s a, Keeps s (g s a)) : Keeps s (l.foldl g s) := by
  induction l generalizing s with
  | nil => exact Keeps.refl s
  | cons a r ih => exact (h s a).trans (ih _)

/-- A fold that carries a value beside the state. -/
theorem Keeps.foldl_pair {α β : Type} (g : β × State → α → β × State) (l : List α) (p : β × State) (h : ∀ p a, Keeps p.2 (g p a).2) :
    Keeps p.2 (l.foldl g p).2 := by
  induction l generalizing p with
  | nil => exact Keeps.refl _
  | cons a r ih => exact (h p a).trans (ih _)

theorem Keeps.accessed {s t : State} (h : Accessed s t) : Keeps s t := by
  obtain ⟨_, _, _, _, _, _, _, _, h0⟩ := h.rest
  refine ⟨by rw [h0], h.hbmWf, h.fmWf, by rw [h0]; exact id, by rw [h0]; exact id, h.right⟩

/-- Waiting values are dropped. -/
theorem Keeps.waits_filter {s : State} (p : Nat × List Nat → Bool) (h : s.waitsRight) : ∀ e ∈ s.waitStep.filter p, waitsForStep (e.1 / 256) = true :=
  fun e he => h e (List.mem_filter.1 he).1

/-- The outcome of a command keeps it too. -/
def KeepsRes (s : State) (r : Res) : Prop := ∀ t, r = .next t → Keeps s t

theorem KeepsRes.next {s t : State} (h : Keeps s t) : KeepsRes s (.next t) := fun _ e => by cases e; exact h
theorem KeepsRes.fault (s : State) (x : Fault) : KeepsRes s (.fault x) := fun _ e => by cases e
theorem KeepsRes.refused (s : State) (x : Refusal) : KeepsRes s (.refused x) := fun _ e => by cases e

theorem State.setHbm_keeps {s : State} {x : Hbm} (h : s.hbm.mem.wf = true → x.mem.wf = true) : Keeps s (s.setHbm x) := ⟨rfl, h, id, id, id, id⟩
theorem State.setFm_keeps {s : State} {x : FacetMem} (h : s.fm.mem.wf = true → x.mem.wf = true) : Keeps s (s.setFm x) := ⟨rfl, id, h, id, id, id⟩
theorem State.setRcv_keeps {s : State} {x : Recovery} (h : s.rcv.dump.wf = true → x.dump.wf = true) : Keeps s (s.setRcv x) := ⟨rfl, id, id, h, id, id⟩

/-- An item that is there may be replaced. -/
theorem State.setItem_keeps {s : State} {n : Nat} {x it : Item} (h : s.item? n = some x) : Keeps s (s.setItem n it) := by
  refine ⟨rfl, id, id, id, id, fun hs => ⟨rising_tset n it hs.1, fun e he => ?_⟩⟩
  rcases mem_tset he with rfl | he
  · exact hs.2 (n, x) (mem_of_tfind h)
  · exact hs.2 e he

theorem State.acceptItem_keeps (s : State) (it : Item) : Keeps s (s.acceptItem it) := by
  refine ⟨rfl, id, id, id, id, fun hs => ⟨rising_tset _ it hs.1, fun e he => ?_⟩⟩
  show e.1 < s.nextItem + 1
  rcases mem_tset he with rfl | he
  · exact Nat.lt_succ_self _
  · exact Nat.lt_succ_of_lt (hs.2 e he)

theorem State.eraseItem_keeps (s : State) (n : Nat) : Keeps s (s.setItems (terase s.items n)) :=
  ⟨rfl, id, id, id, id, fun hs => ⟨rising_filter _ hs.1, fun e he => hs.2 e (List.mem_filter.1 he).1⟩⟩

/-- Waiting values of a context take effect. -/
theorem State.applyStep_keeps (s : State) (c : Nat) : Keeps s (s.applyStep c) :=
  ⟨rfl, id, id, id, Keeps.waits_filter _, id⟩

/-- A value of an object is stored; what waits for a step is a value of an object with that apply time. -/
theorem State.store_keeps (s : State) (o : ObjDef) (sub : Nat) (l : List Nat)
    (h : o.apply = .nextStep → waitsForStep o.index = true ∧ sub < 256) : Keeps s (s.store o sub l) := by
  have hd : Keeps s (s.durable o sub l) := by unfold State.durable; split <;> first | exact Keeps.refl _ | exact Keeps.upd rfl rfl rfl rfl rfl rfl rfl
  refine hd.trans ?_
  unfold State.store
  dsimp only
  generalize s.durable o sub l = s
  split
  · exact Keeps.upd rfl rfl rfl rfl rfl rfl rfl
  · split <;> exact Keeps.upd rfl rfl rfl rfl rfl rfl rfl
  · rename_i ha
    obtain ⟨h1, h2⟩ := h ha
    split
    · refine ⟨rfl, id, id, id, fun hs e he => ?_, id⟩
      rcases mem_tset he with rfl | he
      · show waitsForStep (o.key sub / 256) = true
        have : o.key sub / 256 = o.index := by unfold ObjDef.key; omega
        rw [this]; exact h1
      · exact hs e he
    · exact ⟨rfl, id, id, id, Keeps.waits_filter _, id⟩
  · exact Keeps.upd rfl rfl rfl rfl rfl rfl rfl

end Sys2Proof.Machine
end

