-- ==== Sys2Proof/Laws/KeepsParts.lean ====
section
/-! SUPPORT. Sys2Proof/Laws/KeepsParts.lean: that the shared operations, the pins, the plans, the exchange windows and the page pools keep the form of the state. -/

namespace Sys2Proof.Machine

/-! ### Ops -/

theorem State.setHup_keeps (s : State) (x : Hupatas) : Keeps s (State.setHup s x) := by
  exact Keeps.upd rfl rfl rfl rfl rfl rfl rfl

theorem State.setLog_keeps (s : State) (x : ErrLog) : Keeps s (State.setLog s x) := by
  exact Keeps.upd rfl rfl rfl rfl rfl rfl rfl

theorem State.setPins_keeps (s : State) (x : Pins) : Keeps s (State.setPins s x) := by
  exact Keeps.upd rfl rfl rfl rfl rfl rfl rfl

theorem State.setSec_keeps (s : State) (x : Security) : Keeps s (State.setSec s x) := by
  exact Keeps.upd rfl rfl rfl rfl rfl rfl rfl

theorem State.setDict_keeps (s : State) (x : Dict) : Keeps s (State.setDict s x) := by
  exact Keeps.upd rfl rfl rfl rfl rfl rfl rfl

theorem State.setPower_keeps (s : State) (x : Power) : Keeps s (State.setPower s x) := by
  exact Keeps.upd rfl rfl rfl rfl rfl rfl rfl

theorem State.setFlash_keeps (s : State) (x : Flash) : Keeps s (State.setFlash s x) := by
  exact Keeps.upd rfl rfl rfl rfl rfl rfl rfl

theorem State.setMaint_keeps (s : State) (x : Maint) : Keeps s (State.setMaint s x) := by
  exact Keeps.upd rfl rfl rfl rfl rfl rfl rfl

theorem State.setQueues_keeps (s : State) (x : Table Queue) : Keeps s (State.setQueues s x) := by
  exact Keeps.upd rfl rfl rfl rfl rfl rfl rfl

theorem State.setFacets_keeps (s : State) (x : Table Facet) : Keeps s (State.setFacets s x) := by
  exact Keeps.upd rfl rfl rfl rfl rfl rfl rfl

theorem State.setOutgoing_keeps (s : State) (x : List Outgoing) : Keeps s (State.setOutgoing s x) := by
  exact Keeps.upd rfl rfl rfl rfl rfl rfl rfl

theorem State.setMaps_keeps (s : State) (x : Table (List Nat)) : Keeps s (State.setMaps s x) := by
  exact Keeps.upd rfl rfl rfl rfl rfl rfl rfl

theorem State.setRegF_keeps (s : State) (o : ObjDef) (sub i v : Nat) : Keeps s (State.setRegF s o sub i v) := by
  exact Keeps.upd rfl rfl rfl rfl rfl rfl rfl

theorem State.setReg_keeps (s : State) (o : ObjDef) (sub v : Nat) : Keeps s (State.setReg s o sub v) := by
  exact Keeps.upd rfl rfl rfl rfl rfl rfl rfl

theorem State.setFields_keeps (s : State) (o : ObjDef) (sub : Nat) (l : List Nat) : Keeps s (State.setFields s o sub l) := by
  exact Keeps.upd rfl rfl rfl rfl rfl rfl rfl

theorem State.clearReg_keeps (s : State) (o : ObjDef) (sub : Nat) : Keeps s (State.clearReg s o sub) := by
  unfold State.clearReg
  all_goals try with_reducible apply Keeps.trans ?_ (Keeps.lit _)
  all_goals repeat' first
    | with_reducible exact Keeps.refl _

theorem State.bumpF_keeps (s : State) (o : ObjDef) (sub i n : Nat) : Keeps s (State.bumpF s o sub i n) := by
  unfold State.bumpF
  repeat' first
    | with_reducible exact Keeps.refl _
    | (with_reducible apply Keeps.trans ?_ (State.setRegF_keeps ..))

theorem State.bump_keeps (s : State) (o : ObjDef) (sub n : Nat) : Keeps s (State.bump s o sub n) := by
  unfold State.bump
  repeat' first
    | with_reducible exact Keeps.refl _
    | (with_reducible apply Keeps.trans ?_ (State.bumpF_keeps ..))

theorem State.flashPut_keeps (s : State) (o : ObjDef) (sub : Nat) (l : List Nat) : Keeps s (State.flashPut s o sub l) := by
  unfold State.flashPut
  repeat' first
    | with_reducible exact Keeps.refl _
    | (with_reducible apply Keeps.trans ?_ (State.setFlash_keeps ..))

theorem State.flashFailed_keeps (s : State) (o : ObjDef) : Keeps s (State.flashFailed s o) := by
  unfold State.flashFailed
  repeat' first
    | with_reducible exact Keeps.refl _
    | (with_reducible apply Keeps.trans ?_ (State.setFlash_keeps ..))

theorem State.took_keeps (s : State) : Keeps s (State.took s) := by
  unfold State.took
  all_goals try with_reducible apply Keeps.trans ?_ (Keeps.lit _)
  all_goals repeat' first
    | with_reducible exact Keeps.refl _

theorem State.emit_keeps (s : State) (e : Emit) : Keeps s (State.emit s e) := by
  unfold State.emit
  all_goals try with_reducible apply Keeps.trans ?_ (Keeps.lit _)
  all_goals repeat' first
    | with_reducible exact Keeps.refl _

theorem State.answer_keeps (s : State) (who : Who) (o : ObjDef) (sub code : Nat) : Keeps s (State.answer s who o sub code) := by
  unfold State.answer
  repeat' first
    | with_reducible exact Keeps.refl _
    | (with_reducible apply Keeps.trans ?_ (State.emit_keeps ..))

theorem State.setPlan_keeps (s : State) (c : Nat) (p : Plan) : Keeps s (State.setPlan s c p) := by
  exact Keeps.upd rfl rfl rfl rfl rfl rfl rfl

theorem State.trace_keeps (a0 : State) (a1 : TraceEntry) : Keeps a0 (State.trace a0 a1) := by
  obtain ⟨_, _, _, _, h⟩ := State.trace_shape a0 a1
  rw [h]; exact Keeps.lit _

theorem State.freezeTrace_keeps (a0 : State) (a1 : Nat) : Keeps a0 (State.freezeTrace a0 a1) := by
  obtain ⟨_, _, _, _, h⟩ := State.freezeTrace_shape a0 a1
  rw [h]; exact Keeps.lit _

theorem State.alarm_keeps (a0 : State) (a1 : ErrRec) : Keeps a0 (State.alarm a0 a1) := by
  obtain ⟨_, _, _, _, h⟩ := State.alarm_shape a0 a1
  rw [h]; exact Keeps.lit _

theorem State.writeRecord_keeps (a0 : State) (a1 : ErrRec) : Keeps a0 (State.writeRecord a0 a1) := by
  obtain ⟨_, _, _, _, h⟩ := State.writeRecord_shape a0 a1
  rw [h]; exact Keeps.lit _

theorem State.log!_keeps (a0 : State) (a1 : Event) : Keeps a0 (State.log! a0 a1) := Keeps.accessed (Accessed.log! ..)

theorem State.hbmUncorrectable_keeps (s : State) (sector : Nat) (requester : Nat) : Keeps s (State.hbmUncorrectable s sector requester) := Keeps.accessed (hbmUncorrectable_accessed ..)

theorem State.checkSector_keeps (s : State) (sector : Nat) (requester : Nat) : Keeps s (State.checkSector s sector requester).2 := Keeps.accessed (checkSector_accessed ..)

theorem State.storeSector_keeps (s : State) (sector : Nat) (bytes : Bytes) : Keeps s (State.storeSector s sector bytes) := Keeps.accessed (storeSector_accessed ..)

theorem State.failLate_keeps (s : State) (n : Nat) (st : Status) : Keeps s (State.failLate s n st) := by
  unfold State.failLate
  split
  · exact Keeps.refl s
  · rename_i h; exact State.setItem_keeps h

theorem State.failWriter_keeps (s : State) (n : Nat) : Keeps s (State.failWriter s n) := Keeps.accessed (failWriter_accessed ..)

theorem State.mergeBack_keeps (s : State) (e : MergeEntry) (requester : Nat) : Keeps s (State.mergeBack s e requester).2 := Keeps.accessed (mergeBack_accessed ..)

theorem State.readSector_keeps (s : State) (sector : Nat) (requester : Nat) : Keeps s (State.readSector s sector requester).2 := Keeps.accessed (readSector_accessed ..)

theorem State.countBytes_keeps (s : State) (sector : Nat) (dir : Nat) (n : Nat) : Keeps s (State.countBytes s sector dir n) := Keeps.accessed (countBytes_accessed ..)

theorem State.readSectors_keeps (s : State) (requester : Nat) (lo : Nat) (hi : Nat) (a4 : List Nat) : Keeps s (State.readSectors s requester lo hi a4).2 := Keeps.accessed (readSectors_accessed ..)

theorem State.hbmRead_keeps (s : State) (p : Nat) (n : Nat) (requester : Nat) : Keeps s (State.hbmRead s p n requester).2 := Keeps.accessed (hbmRead_accessed ..)

theorem State.writePart_keeps (s : State) (sector : Nat) (o : Nat) (bytes : Bytes) (who : Option Nat) : Keeps s (State.writePart s sector o bytes who).2 := Keeps.accessed (writePart_accessed ..)

theorem State.writeSectors_keeps (s : State) (p : Nat) (bytes : Bytes) (who : Option Nat) (a4 : List Nat) : Keeps s (State.writeSectors s p bytes who a4).2 := Keeps.accessed (writeSectors_accessed ..)

theorem State.hbmWrite_keeps (s : State) (p : Nat) (bytes : Bytes) (who : Option Nat) : Keeps s (State.hbmWrite s p bytes who).2 := Keeps.accessed (hbmWrite_accessed ..)

theorem State.storeParts_keeps (s : State) (p : Nat) (b : Bytes) (a3 : List Nat) : Keeps s (State.storeParts s p b a3) := Keeps.accessed (storeParts_accessed ..)

theorem State.hbmUpdate_keeps (s : State) (p : Nat) (n : Nat) (requester : Nat) (f : Bytes → Option Bytes) : Keeps s (State.hbmUpdate s p n requester f).2 := Keeps.accessed (hbmUpdate_accessed ..)

theorem State.checkWord_keeps (s : State) (w : Nat) : Keeps s (State.checkWord s w).2 := Keeps.accessed (checkWord_accessed ..)

theorem State.meetFlaw_keeps (s : State) (ctx : Nat) (slot : Nat) (x : SramFlaw) : Keeps s (State.meetFlaw s ctx slot x) := Keeps.accessed (meetFlaw_accessed ..)

theorem State.sramRead_keeps (s : State) (cls : Nat) (inst : Nat) (lo : Nat) (hi : Nat) (ctx : Nat) (slot : Nat) : Keeps s (State.sramRead s cls inst lo hi ctx slot).2 := Keeps.accessed (sramRead_accessed ..)

theorem State.sramWrote_keeps (s : State) (cls : Nat) (inst : Nat) (lo : Nat) (hi : Nat) : Keeps s (State.sramWrote s cls inst lo hi) := Keeps.accessed (sramWrote_accessed ..)

theorem State.checkWords_keeps (s : State) (a1 : List Nat) : Keeps s (State.checkWords s a1).2 := Keeps.accessed (checkWords_accessed ..)

theorem State.fmRead_keeps (s : State) (f : Nat) (a : Nat) (n : Nat) : Keeps s (State.fmRead s f a n).2 := Keeps.accessed (fmRead_accessed ..)

theorem State.wroteWord_keeps (s : State) (c : Nat) (w : Nat) (whole : Bool) : Keeps s (State.wroteWord s c w whole) := Keeps.accessed (wroteWord_accessed ..)

theorem State.wroteWords_keeps (s : State) (c : Nat) (b : Nat) (n : Nat) (a4 : List Nat) : Keeps s (State.wroteWords s c b n a4) := Keeps.accessed (wroteWords_accessed ..)

theorem State.fmWrite_keeps (s : State) (c : Nat) (f : Nat) (a : Nat) (bytes : Bytes) : Keeps s (State.fmWrite s c f a bytes).2 := Keeps.accessed (fmWrite_accessed ..)

theorem State.fmZero_keeps (s : State) (f : Nat) : Keeps s (State.fmZero s f) := State.setFm_keeps (Memory.wf_drop _ _ _)

theorem State.fmReads_keeps (s : State) (a1 : List (Nat × Nat × Nat)) : Keeps s (State.fmReads s a1).2 := Keeps.accessed (fmReads_accessed ..)

theorem State.fmWrites_keeps (s : State) (c : Nat) (bytes : Bytes) (a3 : List (Nat × Nat × Nat)) : Keeps s (State.fmWrites s c bytes a3) := Keeps.accessed (fmWrites_accessed ..)

theorem State.ctxRead_keeps (s : State) (c : Nat) (o : Nat) (n : Nat) (requester : Nat) : Keeps s (State.ctxRead s c o n requester).2 := Keeps.accessed (ctxRead_accessed ..)

theorem State.ctxWrite_keeps (s : State) (c : Nat) (o : Nat) (bytes : Bytes) (who : Option Nat) : Keeps s (State.ctxWrite s c o bytes who).2 := Keeps.accessed (ctxWrite_accessed ..)

theorem State.bufferRead_keeps (s : State) (cls : Nat) (c : Nat) (o : Nat) (n : Nat) : Keeps s (State.bufferRead s cls c o n).2 := Keeps.accessed (bufferRead_accessed ..)

theorem State.bufferWrite_keeps (s : State) (cls : Nat) (c : Nat) (o : Nat) (b : Bytes) : Keeps s (State.bufferWrite s cls c o b) := Keeps.accessed (bufferWrite_accessed ..)

theorem State.ctxUpdate_keeps (s : State) (c : Nat) (o : Nat) (n : Nat) (f : Bytes → Option Bytes) (requester : Nat) : Keeps s (State.ctxUpdate s c o n f requester).2 := Keeps.accessed (ctxUpdate_accessed ..)

/-! ### Access -/

theorem State.durable_keeps (s : State) (o : ObjDef) (sub : Nat) (l : List Nat) : Keeps s (State.durable s o sub l) := by
  unfold State.durable
  repeat' first
    | with_reducible exact Keeps.refl _
    | (with_reducible apply Keeps.trans ?_ (State.flashPut_keeps ..))
    | split

theorem State.applyBeat_keeps (s : State) : Keeps s (State.applyBeat s) := by
  unfold State.applyBeat
  all_goals try with_reducible apply Keeps.trans ?_ (Keeps.lit _)
  all_goals repeat' first
    | with_reducible exact Keeps.refl _

theorem State.closeTransfer_keeps (s : State) (r code : Nat) : Keeps s (State.closeTransfer s r code) := by
  unfold State.closeTransfer
  repeat' first
    | with_reducible exact Keeps.refl _
    | (with_reducible apply Keeps.trans ?_ (State.setDict_keeps ..))
    | dsimp only
    | split

theorem State.closeUnserved_keeps (s : State) : Keeps s (State.closeUnserved s) := by
  unfold State.closeUnserved
  repeat' first
    | with_reducible exact Keeps.refl _
    | (with_reducible apply Keeps.trans ?_ (State.closeTransfer_keeps ..))
    | (with_reducible apply Keeps.foldl _ _ _ ?_)
    | intro _
    | dsimp only
    | split

theorem State.goTo_keeps (s : State) (state cause : Nat) : Keeps s (State.goTo s state cause) := by
  unfold State.goTo
  repeat' first
    | (with_reducible apply Keeps.trans ?_ (State.closeUnserved_keeps ..))
    | (with_reducible apply Keeps.trans ?_ (State.setFields_keeps ..))
    | (with_reducible apply Keeps.trans ?_ (State.setReg_keeps ..))
    | dsimp only
  all_goals try with_reducible apply Keeps.trans ?_ (Keeps.lit _)
  all_goals repeat' first
    | with_reducible exact Keeps.refl _

theorem State.enter_keeps (s : State) (state cause : Nat) : Keeps s (State.enter s state cause) := by
  unfold State.enter
  repeat' first
    | with_reducible exact Keeps.refl _
    | (with_reducible apply Keeps.trans ?_ (State.goTo_keeps ..))
    | split

theorem absentSub_ne (index sub : Nat) : absentSub index sub ≠ 0 := by
  unfold absentSub; split <;> decide

theorem State.row_keeps_in (s : State) (who : Who) (o : ObjDef) (sub : Nat) (b : Bool) (act : State → Nat × State)
    (h : sub ≤ o.hi → ∀ x, Keeps x (act x).2) : Keeps s (s.row who o sub b act) := by
  unfold State.row
  split
  · exact Keeps.refl _
  · dsimp only
    split
    · rename_i hc
      have : sub ≤ o.hi := by
        unfold State.rowChecks at hc
        split at hc
        · exact absurd hc (absentSub_ne _ _)
        · omega
      exact (h this s).trans (State.answer_keeps ..)
    · exact State.answer_keeps ..

theorem State.row_keeps (a0 : State) (a1 : Who) (a2 : ObjDef) (a3 : Nat) (a4 : Bool) (a5 : State → Nat × State)
    (h5 : ∀ x, Keeps x (a5 x).2) : Keeps a0 (State.row a0 a1 a2 a3 a4 a5) := State.row_keeps_in _ _ _ _ _ _ (fun _ => h5)

/-! ### Pins -/

theorem State.setTimers_keeps (s : State) (t : Table TimerHolder) : Keeps s (State.setTimers s t) := by
  unfold State.setTimers
  repeat' first
    | with_reducible exact Keeps.refl _
    | (with_reducible apply Keeps.trans ?_ (State.setPins_keeps ..))

theorem State.freeTimer_keeps (s : State) (a1 : TimerHolder) : Keeps s (State.freeTimer s a1) := by
  unfold State.freeTimer
  repeat' first
    | with_reducible exact Keeps.refl _
    | (with_reducible apply Keeps.trans ?_ (State.setRegF_keeps ..))
    | (with_reducible apply Keeps.trans ?_ (State.setTimers_keeps ..))
    | dsimp only
    | split

theorem State.stopPin_keeps (s : State) (p : Nat) : Keeps s (State.stopPin s p) := by
  unfold State.stopPin
  repeat' first
    | with_reducible exact Keeps.refl _
    | (with_reducible apply Keeps.trans ?_ (State.freeTimer_keeps ..))
    | (with_reducible apply Keeps.trans ?_ (State.setRegF_keeps ..))
    | split

theorem State.displace_keeps (s : State) (a1 : TimerHolder) : Keeps s (State.displace s a1) := by
  unfold State.displace
  repeat' first
    | with_reducible exact Keeps.refl _
    | (with_reducible apply Keeps.trans ?_ (State.freeTimer_keeps ..))
    | (with_reducible apply Keeps.trans ?_ (State.setRegF_keeps ..))
    | (with_reducible apply Keeps.trans ?_ (State.stopPin_keeps ..))
    | dsimp only
    | split

theorem State.takeTimer_keeps (s : State) (a1 : TimerHolder) (rank : Nat) : ∀ v u, (State.takeTimer s a1 rank) = some (v, u) → Keeps s u := by
  intro v u h
  unfold State.takeTimer at h
  repeat' split at h
  all_goals cases h
  all_goals
    repeat' first
      | with_reducible exact Keeps.refl _
      | (with_reducible apply Keeps.trans ?_ (State.displace_keeps ..))
      | (with_reducible apply Keeps.trans ?_ (State.setTimers_keeps ..))

theorem State.placeFunction_keeps (a0 : State) (a1 : Nat) (a2 : Nat) : ∀ u, (State.placeFunction a0 a1 a2) = some u → Keeps a0 u := by
  intro u h
  unfold State.placeFunction at h
  dsimp only at h
  generalize ht : (if a0.pinOwner a1 = a2 ∨ a0.pinOwner a1 = fnNone then a0
    else if a2 ≤ 1 ∧ a0.pinOwner a1 ≤ 1 then a0.stopPin a1 else (a0.stopPin a1).setRegF Obj.AUXIO_STATE a1 3 (a0.pinOwner a1)) = t at h
  have kt : Keeps a0 t := by
    rw [← ht]
    repeat' first
      | with_reducible exact Keeps.refl _
      | (with_reducible apply Keeps.trans ?_ (State.setRegF_keeps ..))
      | (with_reducible apply Keeps.trans ?_ (State.stopPin_keeps ..))
      | split
  split at h
  · cases h
  · split at h
    · cases hk : t.takeTimer (.pin a1) (fnRank a2) with
      | none => rw [hk] at h; cases h
      | some p =>
        rw [hk] at h; cases h
        have := kt.trans (State.takeTimer_keeps _ _ _ p.1 p.2 hk)
        repeat' first
          | with_reducible assumption
          | (with_reducible apply Keeps.trans ?_ (State.setRegF_keeps ..))
    · cases h
      repeat' first
        | with_reducible assumption
        | (with_reducible apply Keeps.trans ?_ (State.setRegF_keeps ..))

theorem State.placeFunction_getD_keeps (s : State) (p f : Nat) : Keeps s ((s.placeFunction p f).getD s) := by
  cases h : s.placeFunction p f with
  | none => exact Keeps.refl _
  | some t => exact State.placeFunction_keeps _ _ _ t h

theorem State.auxioWrite_keeps (s : State) (p f : Nat) (polarity width param : Nat) (flashOk : Bool) : Keeps s (State.auxioWrite s p f polarity width param flashOk).2 := by
  unfold State.auxioWrite
  repeat' first
    | with_reducible exact Keeps.refl _
    | (with_reducible apply Keeps.trans ?_ (State.flashFailed_keeps ..))
    | (with_reducible apply Keeps.trans ?_ (State.placeFunction_keeps _ _ _ _ ?_); rotate_right; (with_reducible assumption))
    | (with_reducible apply Keeps.trans ?_ (State.store_keeps _ _ _ _ (fun h => absurd h (by decide))))
    | split

theorem execAuxioConfigWrite_keeps (who : Who) (pin function : Nat) (polarity width param : Nat) (flashOk : Bool) (s : State) : KeepsRes s (execAuxioConfigWrite who pin function polarity width param flashOk s) := by
  unfold execAuxioConfigWrite
  repeat' first
    | with_reducible exact Keeps.refl _
    | (with_reducible apply Keeps.trans ?_ (State.auxioWrite_keeps ..))
    | (with_reducible apply Keeps.trans ?_ (State.row_keeps (h5 := ?_) ..))
    | with_reducible apply KeepsRes.next
    | intro _

theorem State.resumePins_keeps (s : State) : Keeps s (State.resumePins s) := by
  unfold State.resumePins
  repeat' first
    | (with_reducible apply Keeps.trans ?_ (State.placeFunction_getD_keeps ..))
    | with_reducible exact Keeps.refl _
    | (with_reducible apply Keeps.foldl _ _ _ ?_)
    | intro _

theorem State.clkobsWrite_keeps (s : State) (enable : Bool) (source div pin : Nat) : Keeps s (State.clkobsWrite s enable source div pin).2 := by
  unfold State.clkobsWrite
  repeat' first
    | with_reducible exact Keeps.refl _
    | (with_reducible apply Keeps.trans ?_ (State.placeFunction_keeps _ _ _ _ ?_); rotate_right; (with_reducible assumption))
    | (with_reducible apply Keeps.trans ?_ (State.setFields_keeps ..))
    | (with_reducible apply Keeps.trans ?_ (State.stopPin_keeps ..))
    | dsimp only
    | split

theorem execClkobsWrite_keeps (who : Who) (enable : Bool) (source div pin : Nat) (s : State) : KeepsRes s (execClkobsWrite who enable source div pin s) := by
  unfold execClkobsWrite
  repeat' first
    | with_reducible exact Keeps.refl _
    | (with_reducible apply Keeps.trans ?_ (State.clkobsWrite_keeps ..))
    | (with_reducible apply Keeps.trans ?_ (State.row_keeps (h5 := ?_) ..))
    | with_reducible apply KeepsRes.next
    | intro _

theorem State.trigInternal_keeps (s : State) (i : Nat) (enable : Bool) (beat : Nat) : Keeps s (State.trigInternal s i enable beat).2 := by
  unfold State.trigInternal
  repeat' first
    | with_reducible exact Keeps.refl _
    | (with_reducible apply Keeps.trans ?_ (State.freeTimer_keeps ..))
    | (with_reducible apply Keeps.trans ?_ (State.setFields_keeps ..))
    | (with_reducible apply Keeps.trans ?_ (State.takeTimer_keeps _ _ _ _ _ ?_); rotate_right; (with_reducible assumption))
    | dsimp only
    | split

theorem State.pinEdge_keeps (s : State) (p : Nat) : Keeps s (State.pinEdge s p) := by
  unfold State.pinEdge
  repeat' first
    | with_reducible exact Keeps.refl _
    | (with_reducible apply Keeps.trans ?_ (State.emit_keeps ..))
    | (with_reducible apply Keeps.trans ?_ (State.freeTimer_keeps ..))
    | dsimp only
    | split

theorem State.triggerEdge_keeps (s : State) (i : Nat) : Keeps s (State.triggerEdge s i) := by
  unfold State.triggerEdge
  repeat' first
    | with_reducible exact Keeps.refl _
    | (with_reducible apply Keeps.trans ?_ (State.freeTimer_keeps ..))
    | (with_reducible apply Keeps.trans ?_ (State.freezeTrace_keeps ..))
    | (with_reducible apply Keeps.trans ?_ (State.setRegF_keeps ..))
    | (with_reducible apply Keeps.trans ?_ (State.trace_keeps ..))
    | dsimp only
    | split

theorem State.pinEdges_keeps (s : State) : Keeps s (State.pinEdges s) := by
  unfold State.pinEdges
  repeat' first
    | with_reducible exact Keeps.refl _
    | (with_reducible apply Keeps.trans ?_ (State.pinEdge_keeps ..))
    | (with_reducible apply Keeps.trans ?_ (State.triggerEdge_keeps ..))
    | (with_reducible apply Keeps.foldl _ _ _ ?_)
    | (with_reducible apply Keeps.trans ?_ (Keeps.foldl _ _ _ ?_))
    | intro _

theorem execTrigInEdge_keeps (pin : Nat) (rising : Bool) (s : State) : KeepsRes s (execTrigInEdge pin rising s) := by
  unfold execTrigInEdge
  repeat' first
    | with_reducible exact Keeps.refl _
    | (with_reducible apply Keeps.trans ?_ (State.freezeTrace_keeps ..))
    | (with_reducible apply Keeps.trans ?_ (State.setFields_keeps ..))
    | (with_reducible apply Keeps.trans ?_ (State.trace_keeps ..))
    | with_reducible apply KeepsRes.next
    | dsimp only
    | split

theorem execPpsOutPulse_keeps (pin : Nat) (s : State) : KeepsRes s (execPpsOutPulse pin s) := by
  unfold execPpsOutPulse
  repeat' first
    | with_reducible exact Keeps.refl _
    | (with_reducible apply Keeps.trans ?_ (State.emit_keeps ..))
    | with_reducible apply KeepsRes.next
    | split

theorem State.traceWrite_keeps (s : State) (holder freezeAfter : Nat) : Keeps s (State.traceWrite s holder freezeAfter).2 := by
  unfold State.traceWrite
  repeat' first
    | with_reducible exact Keeps.refl _
    | (with_reducible apply Keeps.trans ?_ (State.setFields_keeps ..))
    | (with_reducible apply Keeps.trans ?_ (State.setPins_keeps ..))
    | dsimp only
    | split

theorem execTraceConfigWrite_keeps (who : Who) (holder freezeAfter : Nat) (s : State) : KeepsRes s (execTraceConfigWrite who holder freezeAfter s) := by
  unfold execTraceConfigWrite
  repeat' first
    | with_reducible exact Keeps.refl _
    | (with_reducible apply Keeps.trans ?_ (State.row_keeps (h5 := ?_) ..))
    | (with_reducible apply Keeps.trans ?_ (State.traceWrite_keeps ..))
    | with_reducible apply KeepsRes.next
    | intro _

theorem execFaultOutClear_keeps (who : Who) (s : State) : KeepsRes s (execFaultOutClear who s) := by
  unfold execFaultOutClear
  repeat' first
    | with_reducible exact Keeps.refl _
    | (with_reducible apply Keeps.trans ?_ (State.row_keeps (h5 := ?_) ..))
    | (with_reducible apply Keeps.trans ?_ (State.setPins_keeps ..))
    | with_reducible apply KeepsRes.next
    | intro _

theorem execAlarmClear_keeps (who : Who) (classes : Nat) (s : State) : KeepsRes s (execAlarmClear who classes s) := by
  unfold execAlarmClear
  repeat' first
    | with_reducible exact Keeps.refl _
    | (with_reducible apply Keeps.trans ?_ (State.row_keeps (h5 := ?_) ..))
    | (with_reducible apply Keeps.trans ?_ (State.setRegF_keeps ..))
    | with_reducible apply KeepsRes.next
    | intro _
    | dsimp only
    | split

/-! ### Complete -/

theorem State.setQueue_keeps (s : State) (q : Nat) (x : Queue) : Keeps s (State.setQueue s q x) := by
  unfold State.setQueue
  repeat' first
    | with_reducible exact Keeps.refl _
    | (with_reducible apply Keeps.trans ?_ (State.setQueues_keeps ..))

theorem State.interrupt_keeps (s : State) (f v : Nat) : Keeps s (State.interrupt s f v) := by
  unfold State.interrupt
  repeat' first
    | with_reducible exact Keeps.refl _
    | (with_reducible apply Keeps.trans ?_ (State.emit_keeps ..))
    | split

theorem State.ringInterrupt_keeps (s : State) (ring : Nat) : Keeps s (State.ringInterrupt s ring) := by
  unfold State.ringInterrupt
  repeat' first
    | with_reducible exact Keeps.refl _
    | (with_reducible apply Keeps.trans ?_ (State.interrupt_keeps ..))
    | (with_reducible apply Keeps.trans ?_ (State.setQueue_keeps ..))
    | dsimp only
    | split

theorem State.queueError_keeps (s : State) (q : Nat) (code : Nat) : Keeps s (State.queueError s q code) := by
  unfold State.queueError
  all_goals try with_reducible apply Keeps.trans ?_ (Keeps.lit _)
  all_goals repeat' first
    | with_reducible exact Keeps.refl _
    | with_reducible exact Keeps.lit _
    | (with_reducible apply Keeps.trans ?_ (State.bump_keeps ..))
    | (with_reducible apply Keeps.trans ?_ (State.log!_keeps ..))
    | (with_reducible apply Keeps.trans ?_ (State.setQueue_keeps ..))
    | dsimp only
    | split
  all_goals try with_reducible apply Keeps.trans ?_ (Keeps.lit _)
  all_goals repeat' first
    | with_reducible exact Keeps.refl _
    | with_reducible exact Keeps.lit _
    | (with_reducible apply Keeps.trans ?_ (State.bump_keeps ..))
    | (with_reducible apply Keeps.trans ?_ (State.log!_keeps ..))
    | (with_reducible apply Keeps.trans ?_ (State.setQueue_keeps ..))
    | dsimp only
    | split

theorem State.writeEntry_keeps (s : State) (ring e : Nat) : Keeps s (State.writeEntry s ring e) := by
  unfold State.writeEntry
  repeat' first
    | with_reducible exact Keeps.refl _
    | (with_reducible apply Keeps.trans ?_ (Keeps.of_pair (State.ctxWrite_keeps ..) ?_); rotate_right; (with_reducible assumption))
    | (with_reducible apply Keeps.trans ?_ (State.queueError_keeps ..))
    | (with_reducible apply Keeps.trans ?_ (State.ringInterrupt_keeps ..))
    | (with_reducible apply Keeps.trans ?_ (State.setQueue_keeps ..))
    | dsimp only
    | split

theorem State.setPlaces_keeps (s : State) (c : Nat) (l : List Place) : Keeps s (State.setPlaces s c l) := by
  unfold State.setPlaces
  all_goals try with_reducible apply Keeps.trans ?_ (Keeps.lit _)
  all_goals repeat' first
    | with_reducible exact Keeps.refl _
    | with_reducible exact Keeps.lit _
    | (with_reducible apply Keeps.trans ?_ (State.setReg_keeps ..))
    | intro _
    | dsimp only
    | split
  all_goals try with_reducible apply Keeps.trans ?_ (Keeps.lit _)
  all_goals repeat' first
    | with_reducible exact Keeps.refl _
    | with_reducible exact Keeps.lit _
    | (with_reducible apply Keeps.trans ?_ (State.setReg_keeps ..))
    | intro _
    | dsimp only
    | split

theorem State.writePlace_keeps (s : State) (c ring : Nat) (a3 : Place) : Keeps s (State.writePlace s c ring a3) := by
  unfold State.writePlace
  repeat' first
    | with_reducible exact Keeps.refl _
    | (with_reducible apply Keeps.trans ?_ (State.bump_keeps ..))
    | (with_reducible apply Keeps.trans ?_ (State.writeEntry_keeps ..))
    | split

theorem State.flushPlaces_keeps (s : State) (c ring : Nat) (a3 : List Place) : Keeps s (State.flushPlaces s c ring a3) := by
  fun_induction State.flushPlaces s c ring a3 <;> try dsimp only
  all_goals
    repeat' first
      | with_reducible exact Keeps.refl _
      | (with_reducible apply Keeps.trans ?_ (State.setPlaces_keeps ..))
      | (with_reducible apply Keeps.trans ?_ (State.writePlace_keeps ..))
      | (with_reducible apply Keeps.trans ?_ ?_; rotate_right; (with_reducible assumption))

theorem State.flushSummary_keeps (s : State) (c : Nat) : Keeps s (State.flushSummary s c) := by
  unfold State.flushSummary
  repeat' first
    | with_reducible exact Keeps.refl _
    | (with_reducible apply Keeps.trans ?_ (State.flushPlaces_keeps ..))
    | split

theorem State.planCompletion_keeps (s : State) (c slot : Nat) (index facet : Nat) (step stamp : Nat) (status : Status) : Keeps s (State.planCompletion s c slot index facet step stamp status) := by
  unfold State.planCompletion
  repeat' first
    | with_reducible exact Keeps.refl _
    | (with_reducible apply Keeps.trans ?_ (State.setPlaces_keeps ..))
    | (with_reducible apply Keeps.trans ?_ (State.writeEntry_keeps ..))
    | dsimp only
    | split

theorem State.stepEndRecord_keeps (s : State) (c step : Nat) (planId overruns : Nat) (maxSlip ledger stamp : Nat) : Keeps s (State.stepEndRecord s c step planId overruns maxSlip ledger stamp) := by
  unfold State.stepEndRecord
  repeat' first
    | with_reducible exact Keeps.refl _
    | (with_reducible apply Keeps.trans ?_ (State.setPlaces_keeps ..))
    | (with_reducible apply Keeps.trans ?_ (State.writeEntry_keeps ..))
    | dsimp only
    | split

theorem State.meet_keeps (s : State) (n : Nat) (st : Status) : Keeps s (State.meet s n st) := by
  unfold State.meet
  repeat' first
    | with_reducible exact Keeps.refl _
    | (with_reducible apply Keeps.trans ?_ (State.setItem_keeps ?_); rotate_right; (with_reducible assumption))
    | split

theorem State.finish_keeps (s : State) (n : Nat) (outcome : FabOutcome) : Keeps s (State.finish s n outcome) := by
  unfold State.finish
  repeat' first
    | with_reducible exact Keeps.refl _
    | (with_reducible apply Keeps.trans ?_ (State.setItem_keeps ?_); rotate_right; (with_reducible assumption))
    | split

theorem State.finishWith_keeps (s : State) (n : Nat) (st : Status) (outcome : FabOutcome) : Keeps s (State.finishWith s n st outcome) := by
  unfold State.finishWith
  repeat' first
    | with_reducible exact Keeps.refl _
    | (with_reducible apply Keeps.trans ?_ (State.finish_keeps ..))
    | (with_reducible apply Keeps.trans ?_ (State.meet_keeps ..))

theorem State.start_keeps (s : State) (n : Nat) : Keeps s (State.start s n) := by
  unfold State.start
  repeat' first
    | with_reducible exact Keeps.refl _
    | (with_reducible apply Keeps.trans ?_ (State.setItem_keeps ?_); rotate_right; (with_reducible assumption))
    | split

theorem State.withItem_keeps (s : State) (n : Nat) (ops : List Nat) (act : Item → State → State) (h3 : ∀ (x0 : Item) (x1 : State), Keeps x1 (act x0 x1)) : Keeps s (State.withItem s n ops act) := by
  unfold State.withItem
  repeat' first
    | with_reducible exact Keeps.refl _
    | (with_reducible apply Keeps.trans ?_ (h3 ..))
    | (with_reducible apply Keeps.trans ?_ (State.start_keeps ..))
    | split

theorem State.refuse_keeps (s : State) (n sub check : Nat) : Keeps s (State.refuse s n sub check) := by
  unfold State.refuse
  repeat' first
    | with_reducible exact Keeps.refl _
    | (with_reducible apply Keeps.trans ?_ (State.finishWith_keeps ..))
    | (with_reducible apply Keeps.trans ?_ (State.log!_keeps ..))
    | dsimp only
    | split

theorem State.exhaust_keeps (s : State) (n : Nat) : Keeps s (State.exhaust s n) := by
  unfold State.exhaust
  repeat' first
    | with_reducible exact Keeps.refl _
    | (with_reducible apply Keeps.trans ?_ (State.bump_keeps ..))
    | (with_reducible apply Keeps.trans ?_ (State.meet_keeps ..))
    | split

theorem State.mirrorNote_keeps (s : State) (it : Item) (st : Status) : Keeps s (State.mirrorNote s it st) := by
  unfold State.mirrorNote
  repeat' first
    | with_reducible exact Keeps.refl _
    | (with_reducible apply Keeps.trans ?_ (State.setPlan_keeps ..))
    | (with_reducible apply Keeps.trans ?_ (State.setRegF_keeps ..))
    | dsimp only
    | split

theorem State.completeItem_keeps (s : State) (n stamp : Nat) : Keeps s (State.completeItem s n stamp) := by
  unfold State.completeItem
  repeat' first
    | (with_reducible apply Keeps.trans ?_ (State.eraseItem_keeps ..))
    | (with_reducible apply Keeps.trans ?_ (State.mirrorNote_keeps ..))
    | (with_reducible apply Keeps.trans ?_ (State.setRcv_keeps ?_))
    | (with_reducible apply Keeps.trans ?_ (State.trace_keeps ..))
    | (with_reducible apply Keeps.trans ?_ (State.writeEntry_keeps ..))
    | (with_reducible apply Keeps.trans ?_ (State.planCompletion_keeps ..))
    | with_reducible exact Keeps.refl _
    | (with_reducible exact id)
    | dsimp only
    | split

/-! ### Plan -/

theorem State.readTable_keeps (s : State) (c off : Nat) (size n : Nat) : Keeps s (State.readTable s c off size n).2.2 := by
  unfold State.readTable
  repeat' first
    | with_reducible exact Keeps.refl _
    | (with_reducible apply Keeps.trans ?_ (State.ctxRead_keeps ..))

theorem State.readImage_keeps (s : State) (c base : Nat) : Keeps s (State.readImage s c base).2 := by
  unfold State.readImage
  repeat' first
    | with_reducible exact Keeps.refl _
    | (with_reducible apply Keeps.trans ?_ (State.ctxRead_keeps ..))
    | (with_reducible apply Keeps.trans ?_ (State.readTable_keeps ..))
    | dsimp only
    | split

theorem State.clearCounters_keeps (s : State) (c : Nat) : Keeps s (State.clearCounters s c) := by
  unfold State.clearCounters
  repeat' first
    | with_reducible exact Keeps.refl _
    | (with_reducible apply Keeps.trans ?_ (State.clearReg_keeps ..))
    | (with_reducible apply Keeps.foldl _ _ _ ?_)
    | intro _

theorem State.forgetSwitches_keeps (s : State) (c : Nat) : Keeps s (State.forgetSwitches s c) := by
  unfold State.forgetSwitches
  all_goals try with_reducible apply Keeps.trans ?_ (Keeps.lit _)
  all_goals repeat' first
    | with_reducible exact Keeps.refl _
    | with_reducible exact Keeps.lit _
    | intro _
    | dsimp only
    | split

theorem State.planLoad_keeps (s : State) (c : Nat) : Keeps s (State.planLoad s c).2 := by
  unfold State.planLoad
  repeat' first
    | with_reducible exact Keeps.refl _
    | (with_reducible apply Keeps.trans ?_ (State.clearCounters_keeps ..))
    | (with_reducible apply Keeps.trans ?_ (State.forgetSwitches_keeps ..))
    | (with_reducible apply Keeps.trans ?_ (State.readImage_keeps ..))
    | (with_reducible apply Keeps.trans ?_ (Keeps.of_pair (State.readImage_keeps ..) ?_); rotate_right; (with_reducible assumption))
    | (with_reducible apply Keeps.trans ?_ (State.setPlan_keeps ..))
    | (with_reducible apply Keeps.trans ?_ (State.setReg_keeps ..))
    | dsimp only
    | split

theorem State.planArm_keeps (s : State) (c : Nat) : Keeps s (State.planArm s c).2 := by
  unfold State.planArm
  repeat' first
    | with_reducible exact Keeps.refl _
    | (with_reducible apply Keeps.trans ?_ (State.setPlan_keeps ..))
    | (with_reducible apply Keeps.trans ?_ (State.setReg_keeps ..))
    | dsimp only
    | split

theorem State.followPlans_keeps (s : State) : Keeps s (State.followPlans s) := by
  unfold State.followPlans
  repeat' first
    | with_reducible exact Keeps.refl _
    | (with_reducible apply Keeps.trans ?_ (State.enter_keeps ..))
    | split

theorem State.settle_keeps (s : State) (c : Nat) : Keeps s (State.settle s c) := by
  unfold State.settle
  repeat' first
    | with_reducible exact Keeps.refl _
    | (with_reducible apply Keeps.trans ?_ (State.applyStep_keeps ..))
    | split

theorem State.planTo_keeps (s : State) (c state : Nat) : Keeps s (State.planTo s c state) := by
  unfold State.planTo
  repeat' first
    | with_reducible exact Keeps.refl _
    | (with_reducible apply Keeps.trans ?_ (State.followPlans_keeps ..))
    | (with_reducible apply Keeps.trans ?_ (State.setMaint_keeps ..))
    | (with_reducible apply Keeps.trans ?_ (State.setReg_keeps ..))
    | (with_reducible apply Keeps.trans ?_ (State.settle_keeps ..))
    | dsimp only
    | split

theorem State.haltPlan_keeps (s : State) (c cause slot : Nat) : Keeps s (State.haltPlan s c cause slot) := by
  unfold State.haltPlan
  repeat' first
    | with_reducible exact Keeps.refl _
    | (with_reducible apply Keeps.trans ?_ (State.log!_keeps ..))
    | (with_reducible apply Keeps.trans ?_ (State.planTo_keeps ..))
    | dsimp only
    | split

theorem State.planHalt_keeps (s : State) (c : Nat) : Keeps s (State.planHalt s c).2 := by
  unfold State.planHalt
  repeat' first
    | with_reducible exact Keeps.refl _
    | (with_reducible apply Keeps.trans ?_ (State.haltPlan_keeps ..))
    | split

theorem State.planStop_keeps (s : State) (c : Nat) : Keeps s (State.planStop s c).2 := by
  unfold State.planStop
  repeat' first
    | with_reducible exact Keeps.refl _
    | (with_reducible apply Keeps.trans ?_ (State.planTo_keeps ..))
    | (with_reducible apply Keeps.trans ?_ (State.setPlan_keeps ..))
    | dsimp only
    | split

theorem State.planUnload_keeps (s : State) (c : Nat) : Keeps s (State.planUnload s c).2 := by
  unfold State.planUnload
  repeat' first
    | with_reducible exact Keeps.refl _
    | (with_reducible apply Keeps.trans ?_ (State.planTo_keeps ..))
    | (with_reducible apply Keeps.trans ?_ (State.setPlan_keeps ..))
    | split

theorem State.planControl_keeps (s : State) (c v : Nat) : Keeps s (State.planControl s c v).2 := by
  unfold State.planControl
  repeat' first
    | with_reducible exact Keeps.refl _
    | (with_reducible apply Keeps.trans ?_ (State.planArm_keeps ..))
    | (with_reducible apply Keeps.trans ?_ (State.planHalt_keeps ..))
    | (with_reducible apply Keeps.trans ?_ (State.planLoad_keeps ..))
    | (with_reducible apply Keeps.trans ?_ (State.planStop_keeps ..))
    | (with_reducible apply Keeps.trans ?_ (State.planUnload_keeps ..))
    | split

theorem execPlanLoad_keeps (who : Who) (ctx : Nat) (s : State) : KeepsRes s (execPlanLoad who ctx s) := by
  unfold execPlanLoad
  repeat' first
    | with_reducible exact Keeps.refl _
    | (with_reducible apply Keeps.trans ?_ (State.planControl_keeps ..))
    | (with_reducible apply Keeps.trans ?_ (State.row_keeps (h5 := ?_) ..))
    | with_reducible apply KeepsRes.next
    | intro _

theorem execPlanArm_keeps (who : Who) (ctx : Nat) (s : State) : KeepsRes s (execPlanArm who ctx s) := by
  unfold execPlanArm
  repeat' first
    | with_reducible exact Keeps.refl _
    | (with_reducible apply Keeps.trans ?_ (State.planControl_keeps ..))
    | (with_reducible apply Keeps.trans ?_ (State.row_keeps (h5 := ?_) ..))
    | with_reducible apply KeepsRes.next
    | intro _

theorem execStopAtStepEnd_keeps (who : Who) (ctx : Nat) (s : State) : KeepsRes s (execStopAtStepEnd who ctx s) := by
  unfold execStopAtStepEnd
  repeat' first
    | with_reducible exact Keeps.refl _
    | (with_reducible apply Keeps.trans ?_ (State.planControl_keeps ..))
    | (with_reducible apply Keeps.trans ?_ (State.row_keeps (h5 := ?_) ..))
    | with_reducible apply KeepsRes.next
    | intro _

theorem execPlanHalt_keeps (who : Who) (ctx : Nat) (s : State) : KeepsRes s (execPlanHalt who ctx s) := by
  unfold execPlanHalt
  repeat' first
    | with_reducible exact Keeps.refl _
    | (with_reducible apply Keeps.trans ?_ (State.planControl_keeps ..))
    | (with_reducible apply Keeps.trans ?_ (State.row_keeps (h5 := ?_) ..))
    | with_reducible apply KeepsRes.next
    | intro _

theorem execPlanUnload_keeps (who : Who) (ctx : Nat) (s : State) : KeepsRes s (execPlanUnload who ctx s) := by
  unfold execPlanUnload
  repeat' first
    | with_reducible exact Keeps.refl _
    | (with_reducible apply Keeps.trans ?_ (State.planControl_keeps ..))
    | (with_reducible apply Keeps.trans ?_ (State.row_keeps (h5 := ?_) ..))
    | with_reducible apply KeepsRes.next
    | intro _

theorem State.firstStep_keeps (s : State) (c v : Nat) : Keeps s (State.firstStep s c v).2 := by
  unfold State.firstStep
  repeat' first
    | with_reducible exact Keeps.refl _
    | (with_reducible apply Keeps.trans ?_ (State.store_keeps _ _ _ _ (fun h => absurd h (by decide))))
    | split

theorem execPlanFirstStepWrite_keeps (who : Who) (ctx value : Nat) (s : State) : KeepsRes s (execPlanFirstStepWrite who ctx value s) := by
  unfold execPlanFirstStepWrite
  repeat' first
    | with_reducible exact Keeps.refl _
    | (with_reducible apply Keeps.trans ?_ (State.firstStep_keeps ..))
    | (with_reducible apply Keeps.trans ?_ (State.row_keeps (h5 := ?_) ..))
    | with_reducible apply KeepsRes.next
    | intro _

set_option maxRecDepth 20000 in
theorem waits_ledger : waitsForStep Obj.DROP_LEDGER_ADDR.index = true ∧ waitsForStep Obj.DROP_LEDGER_ENTRIES.index = true := by decide

theorem State.ledgerWrite_keeps (s : State) (c : Nat) (o : LedgerObject) (v : Nat) (hc : c < 256) : Keeps s (s.ledgerWrite c o v).2 := by
  unfold State.ledgerWrite
  split
  · split
    · exact Keeps.refl _
    · exact State.store_keeps _ _ _ _ (fun _ => ⟨waits_ledger.1, hc⟩)
  · split
    · exact Keeps.refl _
    · exact State.store_keeps _ _ _ _ (fun _ => ⟨waits_ledger.2, hc⟩)

theorem execDropLedgerRegionWrite_keeps (who : Who) (ctx : Nat) (object : LedgerObject) (value : Nat) (s : State) : KeepsRes s (execDropLedgerRegionWrite who ctx object value s) := by
  unfold execDropLedgerRegionWrite
  refine KeepsRes.next (State.row_keeps_in _ _ _ _ _ _ fun h x => State.ledgerWrite_keeps _ _ _ _ ?_)
  cases object <;> exact Nat.lt_of_le_of_lt h (by decide)

/-! ### Transport -/

theorem State.setSpoke_keeps (s : State) (p : Nat) (x : Spoke) : Keeps s (State.setSpoke s p x) := by
  unfold State.setSpoke
  all_goals try with_reducible apply Keeps.trans ?_ (Keeps.lit _)
  all_goals repeat' first
    | with_reducible exact Keeps.refl _

theorem State.dispatch_keeps (s : State) (k : Packet) : Keeps s (State.dispatch s k).2 := by
  unfold State.dispatch
  repeat' first
    | with_reducible exact Keeps.refl _
    | (with_reducible apply Keeps.trans ?_ (State.setHup_keeps ..))
    | (with_reducible apply Keeps.trans ?_ (State.setSpoke_keeps ..))
    | dsimp only
    | split

theorem State.retryStuck_keeps (s : State) : Keeps s (State.retryStuck s) := by
  unfold State.retryStuck
  repeat' first
    | with_reducible exact Keeps.refl _
    | (with_reducible apply Keeps.trans ?_ (State.dispatch_keeps ..))
    | (with_reducible apply Keeps.trans ?_ (State.setHup_keeps ..))
    | (with_reducible apply Keeps.trans ?_ (Keeps.foldl _ _ _ ?_))
    | intro _

theorem State.forward_keeps (s : State) (k : Packet) : Keeps s (State.forward s k) := by
  unfold State.forward
  repeat' first
    | with_reducible exact Keeps.refl _
    | (with_reducible apply Keeps.trans ?_ (State.bump_keeps ..))
    | (with_reducible apply Keeps.trans ?_ (State.dispatch_keeps ..))
    | (with_reducible apply Keeps.trans ?_ (State.log!_keeps ..))
    | (with_reducible apply Keeps.trans ?_ (State.setHup_keeps ..))
    | dsimp only
    | split

theorem State.setTx_keeps (s : State) (node vc : Nat) (f : TxFlow) : Keeps s (State.setTx s node vc f) := by
  unfold State.setTx
  repeat' first
    | with_reducible exact Keeps.refl _
    | (with_reducible apply Keeps.trans ?_ (State.setHup_keeps ..))

theorem State.setRx_keeps (s : State) (node vc : Nat) (f : RxFlow) : Keeps s (State.setRx s node vc f) := by
  unfold State.setRx
  repeat' first
    | with_reducible exact Keeps.refl _
    | (with_reducible apply Keeps.trans ?_ (State.setHup_keeps ..))

theorem State.pump_keeps (s : State) (node vc a3 : Nat) : Keeps s (State.pump s node vc a3) := by
  fun_induction State.pump s node vc a3 <;> try dsimp only
  all_goals
    repeat' first
      | with_reducible exact Keeps.refl _
      | (with_reducible apply Keeps.trans ?_ (Keeps.of_pair (State.dispatch_keeps ..) ?_); rotate_right; (with_reducible assumption))
      | (with_reducible apply Keeps.trans ?_ (State.setTx_keeps ..))
      | (with_reducible apply Keeps.trans ?_ ?_; rotate_right; (with_reducible assumption))

theorem State.enqueue_keeps (s : State) (node : Nat) (vc : Nat) (k : Packet) (who : Sender) : Keeps s (State.enqueue s node vc k who) := by
  unfold State.enqueue
  all_goals try with_reducible apply Keeps.trans ?_ (Keeps.lit _)
  all_goals repeat' first
    | with_reducible exact Keeps.refl _
    | with_reducible exact Keeps.lit _
    | (with_reducible apply Keeps.trans ?_ (State.setTx_keeps ..))
    | dsimp only
    | split
  all_goals try with_reducible apply Keeps.trans ?_ (Keeps.lit _)
  all_goals repeat' first
    | with_reducible exact Keeps.refl _
    | with_reducible exact Keeps.lit _
    | (with_reducible apply Keeps.trans ?_ (State.setTx_keeps ..))
    | dsimp only
    | split

theorem State.enqueuePieces_keeps (s : State) (node : Nat) (vc : Nat) (c : Nat) (who : Sender) (rank : Option Nat) (first : Bool) (a7 : List Bytes) : Keeps s (State.enqueuePieces s node vc c who rank first a7) := by
  fun_induction State.enqueuePieces s node vc c who rank first a7 <;> try dsimp only
  all_goals
    repeat' first
      | with_reducible exact Keeps.refl _
      | with_reducible assumption
      | (with_reducible apply Keeps.trans ?_ (State.enqueue_keeps ..))
      | dsimp only
      | (with_reducible apply Keeps.trans ?_ ?_; rotate_right; (with_reducible assumption))
      | split

theorem State.sendRecord_keeps (s : State) (node : Nat) (vc : Nat) (c : Nat) (bytes : Bytes) (who : Sender) (rank : Option Nat) : Keeps s (State.sendRecord s node vc c bytes who rank) := by
  unfold State.sendRecord
  repeat' first
    | with_reducible exact Keeps.refl _
    | (with_reducible apply Keeps.trans ?_ (State.enqueuePieces_keeps ..))
    | (with_reducible apply Keeps.trans ?_ (State.pump_keeps ..))
    | (with_reducible apply Keeps.trans ?_ (State.setHup_keeps ..))
    | with_reducible apply Keeps.ite_snd
    | with_reducible apply Keeps.ite
    | dsimp only
    | split

theorem State.sendClose_keeps (s : State) (node : Nat) (vc : Nat) (c : Nat) (step : Nat) (tag : Nat) (rank : Nat) (count : Nat) (absent : Bool) (who : Sender) (dest : Option Nat) : Keeps s (State.sendClose s node vc c step tag rank count absent who dest) := by
  unfold State.sendClose
  repeat' first
    | with_reducible exact Keeps.refl _
    | (with_reducible apply Keeps.trans ?_ (State.enqueue_keeps ..))
    | (with_reducible apply Keeps.trans ?_ (State.pump_keeps ..))
    | (with_reducible apply Keeps.trans ?_ (State.setHup_keeps ..))
    | dsimp only
    | split

theorem State.sendControl_keeps (s : State) (node c : Nat) (code value : Nat) : Keeps s (State.sendControl s node c code value) := by
  unfold State.sendControl
  repeat' first
    | with_reducible exact Keeps.refl _
    | (with_reducible apply Keeps.trans ?_ (State.enqueue_keeps ..))
    | (with_reducible apply Keeps.trans ?_ (State.pump_keeps ..))
    | split

theorem State.dropFlows_keeps (s : State) (node : Nat) : Keeps s (State.dropFlows s node).2 := by
  unfold State.dropFlows
  repeat' first
    | with_reducible exact Keeps.refl _
    | (with_reducible apply Keeps.trans ?_ (State.setHup_keeps ..))

theorem State.genNotices_keeps (s : State) (c : Nat) : Keeps s (State.genNotices s c) := by
  unfold State.genNotices
  repeat' first
    | with_reducible exact Keeps.refl _
    | (with_reducible apply Keeps.trans ?_ (State.sendControl_keeps ..))
    | (with_reducible apply Keeps.foldl _ _ _ ?_)
    | intro _
    | split

/-! ### Exchange -/

theorem State.setContrib_keeps (s : State) (c step : Nat) (w rank : Nat) (x : Contribution) : Keeps s (State.setContrib s c step w rank x) := by
  unfold State.setContrib
  repeat' first
    | with_reducible exact Keeps.refl _
    | (with_reducible apply Keeps.trans ?_ (State.setPlan_keeps ..))

theorem State.judgeContrib_keeps (s : State) (c step : Nat) (w rank : Nat) : Keeps s (State.judgeContrib s c step w rank) := by
  unfold State.judgeContrib
  repeat' first
    | with_reducible exact Keeps.refl _
    | (with_reducible apply Keeps.trans ?_ (State.setContrib_keeps ..))
    | (with_reducible apply Keeps.trans ?_ (State.setPlan_keeps ..))
    | dsimp only
    | split

theorem State.contribRecord_keeps (s : State) (c step : Nat) (w rank : Nat) : Keeps s (State.contribRecord s c step w rank).2 := by
  unfold State.contribRecord
  repeat' first
    | with_reducible exact Keeps.refl _
    | (with_reducible apply Keeps.trans ?_ (State.judgeContrib_keeps ..))
    | (with_reducible apply Keeps.trans ?_ (State.setContrib_keeps ..))
    | dsimp only
    | split

theorem State.markAbsent_keeps (s : State) (c mb : Nat) : Keeps s (State.markAbsent s c mb) := by
  unfold State.markAbsent
  repeat' first
    | with_reducible exact Keeps.refl _
    | (with_reducible apply Keeps.trans ?_ (State.ctxWrite_keeps ..))
    | (with_reducible apply Keeps.trans ?_ (State.setReg_keeps ..))
    | dsimp only
    | split

theorem State.opDescs_keeps (s : State) (c requester : Nat) (im : PlanImage) (sl : Slot) (a5 : List Nat) : Keeps s (State.opDescs s c requester im sl a5).2 := by
  fun_induction State.opDescs s c requester im sl a5 <;> try dsimp only
  all_goals
    repeat' first
      | with_reducible exact Keeps.refl _
      | (with_reducible apply Keeps.trans ?_ (Keeps.of_pair (State.ctxRead_keeps ..) ?_); rotate_right; (with_reducible assumption))
      | (with_reducible apply Keeps.trans ?_ ?_; rotate_right; (with_reducible assumption))

theorem State.windowDescs_keeps (s : State) (c : Nat) (w : Nat) (cls : Nat) (requester : Nat) : Keeps s (State.windowDescs s c w cls requester).2 := by
  unfold State.windowDescs
  repeat' first
    | with_reducible exact Keeps.refl _
    | (with_reducible apply Keeps.trans ?_ (State.opDescs_keeps ..))
    | (with_reducible apply Keeps.trans ?_ (Keeps.of_pair (State.opDescs_keeps ..) ?_); rotate_right; (with_reducible assumption))
    | (with_reducible apply Keeps.trans ?_ (Keeps.foldl _ _ _ ?_))
    | (with_reducible apply Keeps.trans ?_ (Keeps.foldl_pair _ _ _ ?_))
    | intro _
    | dsimp only
    | split

theorem State.markHandoffs_keeps (s : State) (c : Nat) (w : Nat) : Keeps s (State.markHandoffs s c w) := by
  unfold State.markHandoffs
  repeat' first
    | with_reducible exact Keeps.refl _
    | (with_reducible apply Keeps.trans ?_ (State.markAbsent_keeps ..))
    | (with_reducible apply Keeps.trans ?_ (State.windowDescs_keeps ..))
    | (with_reducible apply Keeps.trans ?_ (Keeps.of_pair (State.windowDescs_keeps ..) ?_); rotate_right; (with_reducible assumption))
    | (with_reducible apply Keeps.trans ?_ (Keeps.foldl _ _ _ ?_))
    | (with_reducible apply Keeps.trans ?_ (Keeps.foldl_pair _ _ _ ?_))
    | intro _
    | dsimp only
    | split

theorem State.followAbsent_keeps (s : State) (c : Nat) (step : Nat) (w : Nat) (rank : Nat) : Keeps s (State.followAbsent s c step w rank) := by
  unfold State.followAbsent
  repeat' first
    | with_reducible exact Keeps.refl _
    | (with_reducible apply Keeps.trans ?_ (State.markHandoffs_keeps ..))
    | dsimp only
    | split

theorem State.countLateRecord_keeps (s : State) (c : Nat) (w : Nat) : Keeps s (State.countLateRecord s c w) := by
  unfold State.countLateRecord
  repeat' first
    | with_reducible exact Keeps.refl _
    | (with_reducible apply Keeps.trans ?_ (State.bump_keeps ..))
    | intro _
    | dsimp only
    | split

theorem State.closeArrive_keeps (s : State) (c : Nat) (step : Nat) (tag : Nat) (rank : Nat) (count : Nat) (absent : Bool) : Keeps s (State.closeArrive s c step tag rank count absent) := by
  unfold State.closeArrive
  all_goals try with_reducible apply Keeps.trans ?_ (Keeps.lit _)
  all_goals repeat' first
    | with_reducible exact Keeps.refl _
    | with_reducible exact Keeps.lit _
    | (with_reducible apply Keeps.trans ?_ (State.countLateRecord_keeps ..))
    | (with_reducible apply Keeps.trans ?_ (State.followAbsent_keeps ..))
    | (with_reducible apply Keeps.trans ?_ (State.judgeContrib_keeps ..))
    | (with_reducible apply Keeps.trans ?_ (State.setContrib_keeps ..))
    | dsimp only
    | split
  all_goals try with_reducible apply Keeps.trans ?_ (Keeps.lit _)
  all_goals repeat' first
    | with_reducible exact Keeps.refl _
    | with_reducible exact Keeps.lit _
    | (with_reducible apply Keeps.trans ?_ (State.countLateRecord_keeps ..))
    | (with_reducible apply Keeps.trans ?_ (State.followAbsent_keeps ..))
    | (with_reducible apply Keeps.trans ?_ (State.judgeContrib_keeps ..))
    | (with_reducible apply Keeps.trans ?_ (State.setContrib_keeps ..))
    | dsimp only
    | split

theorem State.takeInbox_keeps (s : State) (node vc : Nat) (want : Delivered → Bool) : ∀ v u, (State.takeInbox s node vc want) = some (v, u) → Keeps s u := by
  intro v u h
  unfold State.takeInbox at h
  dsimp only at h
  split at h
  · cases h
  · rename_i i _
    cases hd : s.hup.inbox[i]? with
    | none => rw [hd] at h; cases h
    | some d =>
      rw [hd] at h; cases h
      repeat' first
        | with_reducible exact Keeps.refl _
        | (with_reducible apply Keeps.trans ?_ (State.setHup_keeps ..))

theorem execCloseMarkerReceive_keeps (node vc : Nat) (s : State) : KeepsRes s (execCloseMarkerReceive node vc s) := by
  unfold execCloseMarkerReceive
  repeat' first
    | with_reducible exact Keeps.refl _
    | (with_reducible apply Keeps.trans ?_ (State.closeArrive_keeps ..))
    | (with_reducible apply Keeps.trans ?_ (State.takeInbox_keeps _ _ _ _ _ _ ?_); rotate_right; (with_reducible assumption))
    | with_reducible apply KeepsRes.next
    | dsimp only
    | split

theorem State.ledgerPut_keeps (s : State) (c step : Nat) (kind window : Nat) (slot source : Nat) (expert beatOff : Nat) : Keeps s (State.ledgerPut s c step kind window slot source expert beatOff) := by
  unfold State.ledgerPut
  repeat' first
    | with_reducible exact Keeps.refl _
    | (with_reducible apply Keeps.trans ?_ (State.ctxWrite_keeps ..))
    | (with_reducible apply Keeps.trans ?_ (State.setPlan_keeps ..))

theorem State.ledgerEnd_keeps (s : State) (c step : Nat) : Keeps s (State.ledgerEnd s c step) := by
  unfold State.ledgerEnd
  repeat' first
    | with_reducible exact Keeps.refl _
    | (with_reducible apply Keeps.trans ?_ (State.ctxWrite_keeps ..))
    | split

theorem State.stage_keeps (s : State) (o : Outgoing) : Keeps s (State.stage s o) := by
  unfold State.stage
  repeat' first
    | with_reducible exact Keeps.refl _
    | (with_reducible apply Keeps.trans ?_ (State.setOutgoing_keeps ..))

theorem State.noRoute_keeps (s : State) (c : Nat) (node : Nat) (item : Option Nat) : Keeps s (State.noRoute s c node item) := by
  unfold State.noRoute
  repeat' first
    | with_reducible exact Keeps.refl _
    | (with_reducible apply Keeps.trans ?_ (State.bump_keeps ..))
    | (with_reducible apply Keeps.trans ?_ (State.log!_keeps ..))
    | (with_reducible apply Keeps.trans ?_ (State.meet_keeps ..))
    | (with_reducible apply Keeps.trans ?_ (State.took_keeps ..))
    | with_reducible apply Keeps.ite_snd
    | with_reducible apply Keeps.ite
    | dsimp only
    | split

theorem State.sendToRank_keeps (s : State) (c : Nat) (vc : Nat) (rank : Nat) (bytes : Bytes) (item : Option Nat) : Keeps s (State.sendToRank s c vc rank bytes item) := by
  unfold State.sendToRank
  repeat' first
    | with_reducible exact Keeps.refl _
    | (with_reducible apply Keeps.trans ?_ (State.meet_keeps ..))
    | (with_reducible apply Keeps.trans ?_ (State.noRoute_keeps ..))
    | (with_reducible apply Keeps.trans ?_ (State.sendRecord_keeps ..))
    | dsimp only
    | split

theorem State.closeToRank_keeps (s : State) (c : Nat) (vc : Nat) (step : Nat) (tag : Nat) (rank : Nat) (count : Nat) (absent : Bool) (item : Option Nat) : Keeps s (State.closeToRank s c vc step tag rank count absent item) := by
  unfold State.closeToRank
  repeat' first
    | with_reducible exact Keeps.refl _
    | (with_reducible apply Keeps.trans ?_ (State.meet_keeps ..))
    | (with_reducible apply Keeps.trans ?_ (State.noRoute_keeps ..))
    | (with_reducible apply Keeps.trans ?_ (State.sendClose_keeps ..))
    | dsimp only
    | split

theorem State.sendRecords_keeps (s : State) (c vc : Nat) (item : Option Nat) (a4 : List (Nat × Bytes)) : Keeps s (State.sendRecords s c vc item a4) := by
  fun_induction State.sendRecords s c vc item a4 <;> try dsimp only
  all_goals
    repeat' first
      | with_reducible exact Keeps.refl _
      | (with_reducible apply Keeps.trans ?_ (State.sendToRank_keeps ..))
      | (with_reducible apply Keeps.trans ?_ ?_; rotate_right; (with_reducible assumption))

theorem State.sentAll_keeps (s : State) (n : Nat) : Keeps s (State.sentAll s n) := by
  unfold State.sentAll
  repeat' first
    | with_reducible exact Keeps.refl _
    | (with_reducible apply Keeps.trans ?_ (State.finish_keeps ..))
    | split

theorem State.sendOutput_keeps (s : State) (o : Outgoing) : Keeps s (State.sendOutput s o) := by
  unfold State.sendOutput
  repeat' first
    | with_reducible exact Keeps.refl _
    | (with_reducible apply Keeps.trans ?_ (State.closeToRank_keeps ..))
    | (with_reducible apply Keeps.trans ?_ (State.sendRecords_keeps ..))
    | (with_reducible apply Keeps.trans ?_ (State.sentAll_keeps ..))
    | (with_reducible apply Keeps.trans ?_ (Keeps.foldl _ _ _ ?_))
    | (with_reducible apply Keeps.trans ?_ (Keeps.foldl_pair _ _ _ ?_))
    | intro _
    | dsimp only
    | split

theorem execWindowOutputSend_keeps (ctx slot : Nat) (s : State) : KeepsRes s (execWindowOutputSend ctx slot s) := by
  unfold execWindowOutputSend
  repeat' first
    | with_reducible exact Keeps.refl _
    | (with_reducible apply Keeps.trans ?_ (State.sendOutput_keeps ..))
    | (with_reducible apply Keeps.trans ?_ (State.setOutgoing_keeps ..))
    | with_reducible apply KeepsRes.next
    | split

/-! ### Pool -/

theorem State.setPool_keeps (s : State) (c p : Nat) (x : Pool) : Keeps s (State.setPool s c p x) := by
  unfold State.setPool
  all_goals try with_reducible apply Keeps.trans ?_ (Keeps.lit _)
  all_goals repeat' first
    | with_reducible exact Keeps.refl _

theorem State.bufEntry_keeps (s : State) (c : Nat) (p : Nat) (i : Nat) : Keeps s (State.bufEntry s c p i).2 := by
  unfold State.bufEntry
  repeat' first
    | with_reducible exact Keeps.refl _
    | (with_reducible apply Keeps.trans ?_ (State.ctxRead_keeps ..))
    | (with_reducible apply Keeps.trans ?_ (Keeps.of_pair (State.ctxRead_keeps ..) ?_); rotate_right; (with_reducible assumption))
    | (with_reducible apply Keeps.trans ?_ (State.sramRead_keeps ..))
    | (with_reducible apply Keeps.trans ?_ (Keeps.of_pair (State.sramRead_keeps ..) ?_); rotate_right; (with_reducible assumption))
    | dsimp only
    | split

theorem State.setBufEntry_keeps (s : State) (c p : Nat) (i e : Nat) : Keeps s (State.setBufEntry s c p i e) := by
  unfold State.setBufEntry
  repeat' first
    | with_reducible exact Keeps.refl _
    | (with_reducible apply Keeps.trans ?_ (State.ctxWrite_keeps ..))

theorem State.countQuota_keeps (s : State) (c p : Nat) (a3 : Quota) : Keeps s (State.countQuota s c p a3) := by
  unfold State.countQuota
  repeat' first
    | with_reducible exact Keeps.refl _
    | (with_reducible apply Keeps.trans ?_ (State.bumpF_keeps ..))
    | split

theorem State.withhold_keeps (s : State) (c : Nat) (p : Nat) (n : Nat) : Keeps s (State.withhold s c p n) := by
  unfold State.withhold
  all_goals try with_reducible apply Keeps.trans ?_ (Keeps.lit _)
  all_goals repeat' first
    | with_reducible exact Keeps.refl _
    | with_reducible exact Keeps.lit _
    | (with_reducible apply Keeps.trans ?_ (State.bump_keeps ..))
    | (with_reducible apply Keeps.trans ?_ (State.setPool_keeps ..))
    | with_reducible apply Keeps.ite_snd
    | with_reducible apply Keeps.ite
    | dsimp only
    | split
  all_goals try with_reducible apply Keeps.trans ?_ (Keeps.lit _)
  all_goals repeat' first
    | with_reducible exact Keeps.refl _
    | with_reducible exact Keeps.lit _
    | (with_reducible apply Keeps.trans ?_ (State.bump_keeps ..))
    | (with_reducible apply Keeps.trans ?_ (State.setPool_keeps ..))
    | with_reducible apply Keeps.ite_snd
    | with_reducible apply Keeps.ite
    | dsimp only
    | split

theorem State.ringTake_keeps (s : State) (c : Nat) (p : Nat) (n : Nat) (a4 : Nat) : Keeps s (State.ringTake s c p n a4) := by
  fun_induction State.ringTake s c p n a4 <;> try dsimp only
  all_goals
    repeat' first
      | with_reducible exact Keeps.refl _
      | with_reducible assumption
      | with_reducible exact Keeps.lit _
      | (with_reducible apply Keeps.trans ?_ (State.ctxRead_keeps ..))
      | (with_reducible apply Keeps.trans ?_ (Keeps.of_pair (State.ctxRead_keeps ..) ?_); rotate_right; (with_reducible assumption))
      | (with_reducible apply Keeps.trans ?_ (State.setPool_keeps ..))
      | (with_reducible apply Keeps.trans ?_ (State.withhold_keeps ..))
      | with_reducible apply Keeps.ite_snd
      | with_reducible apply Keeps.ite
      | intro _
      | dsimp only
      | (with_reducible apply Keeps.trans ?_ ?_; rotate_right; (with_reducible assumption))
      | split

theorem State.refill_keeps (s : State) (c : Nat) (p : Nat) : Keeps s (State.refill s c p) := by
  unfold State.refill
  repeat' first
    | with_reducible exact Keeps.refl _
    | (with_reducible apply Keeps.trans ?_ (State.ringTake_keeps ..))
    | dsimp only
    | split

theorem State.spill_keeps (s : State) (c : Nat) (p : Nat) : Keeps s (State.spill s c p) := by
  unfold State.spill
  all_goals try with_reducible apply Keeps.trans ?_ (Keeps.lit _)
  all_goals repeat' first
    | with_reducible exact Keeps.refl _
    | with_reducible exact Keeps.lit _
    | (with_reducible apply Keeps.trans ?_ (State.ctxWrite_keeps ..))
    | (with_reducible apply Keeps.trans ?_ (State.setPool_keeps ..))
    | dsimp only
    | split
  all_goals try with_reducible apply Keeps.trans ?_ (Keeps.lit _)
  all_goals repeat' first
    | with_reducible exact Keeps.refl _
    | with_reducible exact Keeps.lit _
    | (with_reducible apply Keeps.trans ?_ (State.ctxWrite_keeps ..))
    | (with_reducible apply Keeps.trans ?_ (State.setPool_keeps ..))
    | dsimp only
    | split

theorem State.takeHandle_keeps (s : State) (c : Nat) (p : Nat) (r : Nat) (a4 : Nat) : Keeps s (State.takeHandle s c p r a4).2 := by
  fun_induction State.takeHandle s c p r a4 <;> try dsimp only
  all_goals
    repeat' first
      | with_reducible exact Keeps.refl _
      | with_reducible assumption
      | with_reducible exact Keeps.lit _
      | (with_reducible apply Keeps.trans ?_ (State.bufEntry_keeps ..))
      | (with_reducible apply Keeps.trans ?_ (Keeps.of_pair (State.bufEntry_keeps ..) ?_); rotate_right; (with_reducible assumption))
      | (with_reducible apply Keeps.trans ?_ (State.bumpF_keeps ..))
      | (with_reducible apply Keeps.trans ?_ (State.refill_keeps ..))
      | (with_reducible apply Keeps.trans ?_ (State.setBufEntry_keeps ..))
      | (with_reducible apply Keeps.trans ?_ (State.setPool_keeps ..))
      | (with_reducible apply Keeps.trans ?_ (State.took_keeps ..))
      | (with_reducible apply Keeps.trans ?_ (State.withhold_keeps ..))
      | dsimp only
      | (with_reducible apply Keeps.trans ?_ (Keeps.of_pair ?_ ?_); rotate_right; (with_reducible assumption); rotate_right; (with_reducible assumption))
      | (with_reducible apply Keeps.trans ?_ ?_; rotate_right; (with_reducible assumption))
      | split

theorem State.poolAcquire_keeps (s : State) (c : Nat) (r : Nat) (p : Nat) : Keeps s (State.poolAcquire s c r p).2 := by
  unfold State.poolAcquire
  repeat' first
    | with_reducible exact Keeps.refl _
    | (with_reducible apply Keeps.trans ?_ (State.countQuota_keeps ..))
    | (with_reducible apply Keeps.trans ?_ (State.takeHandle_keeps ..))
    | (with_reducible apply Keeps.trans ?_ (Keeps.of_pair (State.takeHandle_keeps ..) ?_); rotate_right; (with_reducible assumption))
    | dsimp only
    | split

theorem State.engineAcquire_keeps (s : State) (c p : Nat) : Keeps s (State.engineAcquire s c p).2 := by
  unfold State.engineAcquire
  repeat' first
    | with_reducible exact Keeps.refl _
    | (with_reducible apply Keeps.trans ?_ (State.countQuota_keeps ..))
    | (with_reducible apply Keeps.trans ?_ (State.poolAcquire_keeps ..))
    | dsimp only
    | split

theorem State.freeBuffer_keeps (s : State) (c : Nat) (p : Nat) (i : Nat) (gen : Nat) (owner : Nat) : Keeps s (State.freeBuffer s c p i gen owner) := by
  unfold State.freeBuffer
  all_goals try with_reducible apply Keeps.trans ?_ (Keeps.lit _)
  all_goals repeat' first
    | with_reducible exact Keeps.refl _
    | with_reducible exact Keeps.lit _
    | (with_reducible apply Keeps.trans ?_ (State.setBufEntry_keeps ..))
    | (with_reducible apply Keeps.trans ?_ (State.setPool_keeps ..))
    | (with_reducible apply Keeps.trans ?_ (State.setRegF_keeps ..))
    | (with_reducible apply Keeps.trans ?_ (State.spill_keeps ..))
    | dsimp only
    | split
  all_goals try with_reducible apply Keeps.trans ?_ (Keeps.lit _)
  all_goals repeat' first
    | with_reducible exact Keeps.refl _
    | with_reducible exact Keeps.lit _
    | (with_reducible apply Keeps.trans ?_ (State.setBufEntry_keeps ..))
    | (with_reducible apply Keeps.trans ?_ (State.setPool_keeps ..))
    | (with_reducible apply Keeps.trans ?_ (State.setRegF_keeps ..))
    | (with_reducible apply Keeps.trans ?_ (State.spill_keeps ..))
    | dsimp only
    | split

theorem State.lookHandle_keeps (s : State) (c a2 r : Nat) : Keeps s (State.lookHandle s c a2 r).2 := by
  unfold State.lookHandle
  repeat' first
    | with_reducible exact Keeps.refl _
    | (with_reducible apply Keeps.trans ?_ (Keeps.of_pair (State.bufEntry_keeps ..) ?_); rotate_right; (with_reducible assumption))
    | dsimp only
    | split

theorem State.poolReject_keeps (s : State) (n : Nat) (it : Item) (a3 acting owner : Nat) (st : Status) : Keeps s (State.poolReject s n it a3 acting owner st) := by
  unfold State.poolReject
  repeat' first
    | with_reducible exact Keeps.refl _
    | (with_reducible apply Keeps.trans ?_ (State.finishWith_keeps ..))
    | (with_reducible apply Keeps.trans ?_ (State.log!_keeps ..))

theorem State.acquire_keeps (s : State) (n : Nat) (it : Item) : Keeps s (State.acquire s n it) := by
  unfold State.acquire
  repeat' first
    | with_reducible exact Keeps.refl _
    | (with_reducible apply Keeps.trans ?_ (State.ctxWrite_keeps ..))
    | (with_reducible apply Keeps.trans ?_ (Keeps.of_pair (State.ctxWrite_keeps ..) ?_); rotate_right; (with_reducible assumption))
    | (with_reducible apply Keeps.trans ?_ (State.finishWith_keeps ..))
    | (with_reducible apply Keeps.trans ?_ (State.poolAcquire_keeps ..))
    | (with_reducible apply Keeps.trans ?_ (Keeps.of_pair (State.poolAcquire_keeps ..) ?_); rotate_right; (with_reducible assumption))
    | dsimp only
    | split

theorem State.release_keeps (s : State) (n : Nat) (it : Item) : Keeps s (State.release s n it) := by
  unfold State.release
  repeat' first
    | with_reducible exact Keeps.refl _
    | (with_reducible apply Keeps.trans ?_ (State.bump_keeps ..))
    | (with_reducible apply Keeps.trans ?_ (State.finish_keeps ..))
    | (with_reducible apply Keeps.trans ?_ (State.freeBuffer_keeps ..))
    | (with_reducible apply Keeps.trans ?_ (Keeps.of_pair (State.lookHandle_keeps ..) ?_); rotate_right; (with_reducible assumption))
    | (with_reducible apply Keeps.trans ?_ (State.poolReject_keeps ..))
    | dsimp only
    | split

theorem State.transfer_keeps (s : State) (n : Nat) (it : Item) : Keeps s (State.transfer s n it) := by
  unfold State.transfer
  repeat' first
    | with_reducible exact Keeps.refl _
    | (with_reducible apply Keeps.trans ?_ (State.bump_keeps ..))
    | (with_reducible apply Keeps.trans ?_ (State.bumpF_keeps ..))
    | (with_reducible apply Keeps.trans ?_ (State.countQuota_keeps ..))
    | (with_reducible apply Keeps.trans ?_ (State.finish_keeps ..))
    | (with_reducible apply Keeps.trans ?_ (State.finishWith_keeps ..))
    | (with_reducible apply Keeps.trans ?_ (Keeps.of_pair (State.lookHandle_keeps ..) ?_); rotate_right; (with_reducible assumption))
    | (with_reducible apply Keeps.trans ?_ (State.poolReject_keeps ..))
    | (with_reducible apply Keeps.trans ?_ (State.setBufEntry_keeps ..))
    | (with_reducible apply Keeps.trans ?_ (State.setRegF_keeps ..))
    | dsimp only
    | split

theorem execAcquire_keeps (item : Nat) (s : State) : KeepsRes s (execAcquire item s) := by
  unfold execAcquire
  repeat' first
    | with_reducible exact Keeps.refl _
    | (with_reducible apply Keeps.trans ?_ (State.acquire_keeps ..))
    | (with_reducible apply Keeps.trans ?_ (State.withItem_keeps (h3 := ?_) ..))
    | with_reducible apply KeepsRes.next
    | intro _

theorem execRelease_keeps (item : Nat) (s : State) : KeepsRes s (execRelease item s) := by
  unfold execRelease
  repeat' first
    | with_reducible exact Keeps.refl _
    | (with_reducible apply Keeps.trans ?_ (State.release_keeps ..))
    | (with_reducible apply Keeps.trans ?_ (State.withItem_keeps (h3 := ?_) ..))
    | with_reducible apply KeepsRes.next
    | intro _

theorem execTransfer_keeps (item : Nat) (s : State) : KeepsRes s (execTransfer item s) := by
  unfold execTransfer
  repeat' first
    | with_reducible exact Keeps.refl _
    | (with_reducible apply Keeps.trans ?_ (State.transfer_keeps ..))
    | (with_reducible apply Keeps.trans ?_ (State.withItem_keeps (h3 := ?_) ..))
    | with_reducible apply KeepsRes.next
    | intro _

theorem State.poolRebuild_keeps (s : State) (c : Nat) (p : Nat) (r : Nat) : Keeps s (State.poolRebuild s c p r) := by
  unfold State.poolRebuild
  repeat' first
    | with_reducible exact Keeps.refl _
    | (with_reducible apply Keeps.trans ?_ (State.ctxWrite_keeps ..))
    | (with_reducible apply Keeps.trans ?_ (State.setPool_keeps ..))
    | (with_reducible apply Keeps.trans ?_ (State.setRegF_keeps ..))
    | (with_reducible apply Keeps.trans ?_ (State.sramWrote_keeps ..))
    | dsimp only
    | split

theorem State.poolConfig_keeps (s : State) (c first : Nat) (recs : List Nat) : Keeps s (State.poolConfig s c first recs).2 := by
  unfold State.poolConfig
  repeat' first
    | with_reducible exact Keeps.refl _
    | (with_reducible apply Keeps.trans ?_ (State.poolRebuild_keeps ..))
    | (with_reducible apply Keeps.foldl _ _ _ ?_)
    | intro _
    | dsimp only
    | split

theorem execPoolConfigWrite_keeps (who : Who) (ctx first : Nat) (records : List Nat) (s : State) : KeepsRes s (execPoolConfigWrite who ctx first records s) := by
  unfold execPoolConfigWrite
  repeat' first
    | with_reducible exact Keeps.refl _
    | (with_reducible apply Keeps.trans ?_ (State.poolConfig_keeps ..))
    | (with_reducible apply Keeps.trans ?_ (State.row_keeps (h5 := ?_) ..))
    | with_reducible apply KeepsRes.next
    | intro _

theorem State.poolRequester_keeps (s : State) (who : Who) (r ctx : Nat) (mn mx : List Nat) : Keeps s (State.poolRequester s who r ctx mn mx).2 := by
  unfold State.poolRequester
  repeat' first
    | with_reducible exact Keeps.refl _
    | (with_reducible apply Keeps.trans ?_ (State.setFields_keeps ..))
    | dsimp only
    | split

theorem execPoolRequesterWrite_keeps (who : Who) (requester context : Nat) (min max : List Nat) (s : State) : KeepsRes s (execPoolRequesterWrite who requester context min max s) := by
  unfold execPoolRequesterWrite
  repeat' first
    | with_reducible exact Keeps.refl _
    | (with_reducible apply Keeps.trans ?_ (State.poolRequester_keeps ..))
    | (with_reducible apply Keeps.trans ?_ (State.row_keeps (h5 := ?_) ..))
    | with_reducible apply KeepsRes.next
    | intro _

theorem State.poolRelease_keeps (s : State) (c : Nat) (p : Nat) : Keeps s (State.poolRelease s c p) := by
  unfold State.poolRelease
  all_goals try with_reducible apply Keeps.trans ?_ (Keeps.lit _)
  all_goals repeat' first
    | with_reducible exact Keeps.refl _
    | with_reducible exact Keeps.lit _
    | (with_reducible apply Keeps.trans ?_ (State.bufEntry_keeps ..))
    | (with_reducible apply Keeps.trans ?_ (Keeps.of_pair (State.bufEntry_keeps ..) ?_); rotate_right; (with_reducible assumption))
    | (with_reducible apply Keeps.trans ?_ (State.freeBuffer_keeps ..))
    | (with_reducible apply Keeps.trans ?_ (State.setPool_keeps ..))
    | (with_reducible apply Keeps.trans ?_ (State.withhold_keeps ..))
    | (with_reducible apply Keeps.trans ?_ (Keeps.foldl _ _ _ ?_))
    | (with_reducible apply Keeps.trans ?_ (Keeps.foldl_pair _ _ _ ?_))
    | intro _
    | dsimp only
    | split
  all_goals try with_reducible apply Keeps.trans ?_ (Keeps.lit _)
  all_goals repeat' first
    | with_reducible exact Keeps.refl _
    | with_reducible exact Keeps.lit _
    | (with_reducible apply Keeps.trans ?_ (State.bufEntry_keeps ..))
    | (with_reducible apply Keeps.trans ?_ (Keeps.of_pair (State.bufEntry_keeps ..) ?_); rotate_right; (with_reducible assumption))
    | (with_reducible apply Keeps.trans ?_ (State.freeBuffer_keeps ..))
    | (with_reducible apply Keeps.trans ?_ (State.setPool_keeps ..))
    | (with_reducible apply Keeps.trans ?_ (State.withhold_keeps ..))
    | (with_reducible apply Keeps.trans ?_ (Keeps.foldl _ _ _ ?_))
    | (with_reducible apply Keeps.trans ?_ (Keeps.foldl_pair _ _ _ ?_))
    | intro _
    | dsimp only
    | split

theorem State.poolsReset_keeps (s : State) (c : Nat) : Keeps s (State.poolsReset s c) := by
  unfold State.poolsReset
  repeat' first
    | with_reducible exact Keeps.refl _
    | (with_reducible apply Keeps.trans ?_ (State.poolRelease_keeps ..))
    | (with_reducible apply Keeps.trans ?_ (State.setFields_keeps ..))
    | (with_reducible apply Keeps.foldl _ _ _ ?_)
    | (with_reducible apply Keeps.trans ?_ (Keeps.foldl _ _ _ ?_))
    | intro _

end Sys2Proof.Machine
end

