-- ==== Sys2Proof/Laws/KeepsUnits.lean ====
section
/-! SUPPORT. Sys2Proof/Laws/KeepsUnits.lean: that the matrix, stream, router, collective and scalar operations keep the form of the state. -/

namespace Sys2Proof.Machine

/-! ### Numerics -/

theorem State.readRecord_keeps (s : State) (c off requester : Nat) : Keeps s (State.readRecord s c off requester).2 := by
  unfold State.readRecord
  repeat' first
    | with_reducible exact Keeps.refl _
    | (with_reducible apply Keeps.trans ?_ (State.ctxRead_keeps ..))
    | dsimp only
    | split

theorem State.foldInto_keeps (s : State) (c : Nat) (off : Nat) (requester : Nat) (f : Nat → Option Nat) : Keeps s (State.foldInto s c off requester f).2 := by
  unfold State.foldInto
  repeat' first
    | with_reducible exact Keeps.refl _
    | (with_reducible apply Keeps.trans ?_ (State.ctxUpdate_keeps ..))
    | (with_reducible apply Keeps.trans ?_ (Keeps.of_pair (State.ctxUpdate_keeps ..) ?_); rotate_right; (with_reducible assumption))
    | intro _
    | dsimp only
    | split

theorem State.outerOf_keeps (s : State) (c : Nat) (rec : Option Nat) (requester : Nat) : Keeps s (State.outerOf s c rec requester).2 := by
  unfold State.outerOf
  repeat' first
    | with_reducible exact Keeps.refl _
    | (with_reducible apply Keeps.trans ?_ (Keeps.of_pair (State.readRecord_keeps ..) ?_); rotate_right; (with_reducible assumption))
    | split

theorem State.beginWrite_keeps (s : State) (c : Nat) (rec : Option Nat) (k : Nat) (requester : Nat) : Keeps s (State.beginWrite s c rec k requester).2 := by
  unfold State.beginWrite
  repeat' first
    | with_reducible exact Keeps.refl _
    | (with_reducible apply Keeps.trans ?_ (State.foldInto_keeps ..))
    | (with_reducible apply Keeps.trans ?_ (Keeps.of_pair (State.foldInto_keeps ..) ?_); rotate_right; (with_reducible assumption))
    | intro _
    | dsimp only
    | split

theorem State.countTile_keeps (s : State) (c : Nat) (rec : Option Nat) (planned : Bool) (amax : FVal) (t : TileOut) (requester : Nat) : Keeps s (State.countTile s c rec planned amax t requester) := by
  unfold State.countTile
  repeat' first
    | with_reducible exact Keeps.refl _
    | (with_reducible apply Keeps.trans ?_ (State.bump_keeps ..))
    | (with_reducible apply Keeps.trans ?_ (State.foldInto_keeps ..))
    | (with_reducible apply Keeps.trans ?_ (Keeps.of_pair (State.foldInto_keeps ..) ?_); rotate_right; (with_reducible assumption))
    | intro _
    | dsimp only
    | split

/-! ### Facet -/

theorem State.setFacet_keeps (s : State) (f : Nat) (x : Facet) : Keeps s (State.setFacet s f x) := by
  unfold State.setFacet
  repeat' first
    | with_reducible exact Keeps.refl _
    | (with_reducible apply Keeps.trans ?_ (State.setFacets_keeps ..))

theorem State.setThread_keeps (s : State) (f t : Nat) (th : Thread) : Keeps s (State.setThread s f t th) := by
  unfold State.setThread
  repeat' first
    | with_reducible exact Keeps.refl _
    | (with_reducible apply Keeps.trans ?_ (State.setFacet_keeps ..))

theorem State.issueNext_keeps (s : State) (f : Nat) (t : Nat) : Keeps s (State.issueNext s f t) := by
  unfold State.issueNext
  all_goals try with_reducible apply Keeps.trans ?_ (Keeps.lit _)
  all_goals repeat' first
    | with_reducible exact Keeps.refl _
    | with_reducible exact Keeps.lit _
    | (with_reducible apply Keeps.trans ?_ (State.setThread_keeps ..))
    | (with_reducible apply Keeps.trans ?_ (State.setItem_keeps ?_); rotate_right; (with_reducible assumption))
    | dsimp only
    | split
  all_goals try with_reducible apply Keeps.trans ?_ (Keeps.lit _)
  all_goals repeat' first
    | with_reducible exact Keeps.refl _
    | with_reducible exact Keeps.lit _
    | (with_reducible apply Keeps.trans ?_ (State.setThread_keeps ..))
    | (with_reducible apply Keeps.trans ?_ (State.setItem_keeps ?_); rotate_right; (with_reducible assumption))
    | dsimp only
    | split

theorem execThreadIssueNext_keeps (facet thread : Nat) (s : State) : KeepsRes s (execThreadIssueNext facet thread s) := by
  unfold execThreadIssueNext
  repeat' first
    | with_reducible exact Keeps.refl _
    | (with_reducible apply Keeps.trans ?_ (State.issueNext_keeps ..))
    | with_reducible apply KeepsRes.next

theorem State.zeroFacet_keeps (s : State) (f : Nat) : Keeps s (State.zeroFacet s f) := by
  unfold State.zeroFacet
  all_goals try with_reducible apply Keeps.trans ?_ (Keeps.lit _)
  all_goals repeat' first
    | with_reducible exact Keeps.refl _
    | with_reducible exact Keeps.lit _
    | (with_reducible apply Keeps.trans ?_ (State.bump_keeps ..))
    | (with_reducible apply Keeps.trans ?_ (State.fmZero_keeps ..))
    | (with_reducible apply Keeps.trans ?_ (State.setFacet_keeps ..))
    | dsimp only
    | split
  all_goals try with_reducible apply Keeps.trans ?_ (Keeps.lit _)
  all_goals repeat' first
    | with_reducible exact Keeps.refl _
    | with_reducible exact Keeps.lit _
    | (with_reducible apply Keeps.trans ?_ (State.bump_keeps ..))
    | (with_reducible apply Keeps.trans ?_ (State.fmZero_keeps ..))
    | (with_reducible apply Keeps.trans ?_ (State.setFacet_keeps ..))
    | dsimp only
    | split

theorem execFacetZeroDone_keeps (facet : Nat) (s : State) : KeepsRes s (execFacetZeroDone facet s) := by
  unfold execFacetZeroDone
  repeat' first
    | with_reducible exact Keeps.refl _
    | (with_reducible apply Keeps.trans ?_ (State.zeroFacet_keeps ..))
    | with_reducible apply KeepsRes.next
    | split

theorem execThreadWake_keeps (facet thread : Nat) (s : State) : KeepsRes s (execThreadWake facet thread s) := by
  unfold execThreadWake
  repeat' first
    | with_reducible exact Keeps.refl _
    | (with_reducible apply Keeps.trans ?_ (State.setThread_keeps ..))
    | with_reducible apply KeepsRes.next
    | split

theorem State.arrive_keeps (s : State) (f t : Nat) : Keeps s (State.arrive s f t) := by
  unfold State.arrive
  repeat' first
    | with_reducible exact Keeps.refl _
    | (with_reducible apply Keeps.trans ?_ (State.setThread_keeps ..))
    | split

theorem State.switchOut_keeps (s : State) (f t : Nat) (w : Wait) : Keeps s (State.switchOut s f t w) := by
  unfold State.switchOut
  repeat' first
    | with_reducible exact Keeps.refl _
    | (with_reducible apply Keeps.trans ?_ (State.bump_keeps ..))
    | (with_reducible apply Keeps.trans ?_ (State.setThread_keeps ..))
    | split

theorem State.tileReady_keeps (s : State) (f n : Nat) : Keeps s (State.tileReady s f n) := by
  unfold State.tileReady
  repeat' first
    | with_reducible exact Keeps.refl _
    | (with_reducible apply Keeps.trans ?_ (State.arrive_keeps ..))
    | (with_reducible apply Keeps.foldl _ _ _ ?_)
    | intro _
    | split

/-! ### Operand -/

theorem State.readDenseRow_keeps (s : State) (f : Nat) (l : TLoc) (r k0 k1 : Nat) : Keeps s (State.readDenseRow s f l r k0 k1).2 := by
  unfold State.readDenseRow
  repeat' first
    | with_reducible exact Keeps.refl _
    | (with_reducible apply Keeps.trans ?_ (State.fmRead_keeps ..))

theorem State.readPairRow_keeps (s : State) (f : Nat) (l : TLoc) (r k0 k1 : Nat) : Keeps s (State.readPairRow s f l r k0 k1).2 := by
  unfold State.readPairRow
  repeat' first
    | with_reducible exact Keeps.refl _
    | (with_reducible apply Keeps.trans ?_ (State.fmRead_keeps ..))

theorem State.readRows_keeps (s : State) (read : State → Nat → (List Nat × Bool) × State) (a2 : List Nat) (h1 : ∀ (x0 : State) (x1 : Nat), Keeps x0 (read x0 x1).2) : Keeps s (State.readRows s read a2).2 := by
  fun_induction State.readRows s read a2 <;> try dsimp only
  all_goals
    repeat' first
      | with_reducible exact Keeps.refl _
      | (with_reducible apply Keeps.trans ?_ (h1 ..))
      | (with_reducible apply Keeps.trans ?_ ?_; rotate_right; (with_reducible assumption))

theorem State.readTile_keeps (s : State) (f : Nat) (l : TLoc) (i : Nat) (j : Nat) : Keeps s (State.readTile s f l i j).2 := by
  unfold State.readTile
  repeat' first
    | with_reducible exact Keeps.refl _
    | (with_reducible apply Keeps.trans ?_ (State.fmRead_keeps ..))
    | (with_reducible apply Keeps.trans ?_ (Keeps.of_pair (State.fmRead_keeps ..) ?_); rotate_right; (with_reducible assumption))
    | with_reducible apply Keeps.ite_snd
    | with_reducible apply Keeps.ite
    | dsimp only
    | split

theorem State.readTiles_keeps (s : State) (f : Nat) (l : TLoc) (i : Nat) (a4 : List Nat) : Keeps s (State.readTiles s f l i a4).2 := by
  fun_induction State.readTiles s f l i a4 <;> try dsimp only
  all_goals
    repeat' first
      | with_reducible exact Keeps.refl _
      | (with_reducible apply Keeps.trans ?_ (State.readTile_keeps ..))
      | (with_reducible apply Keeps.trans ?_ ?_; rotate_right; (with_reducible assumption))

theorem State.readCodes_keeps (s : State) (f : Nat) (l : TLoc) (i k0 k1 : Nat) : Keeps s (State.readCodes s f l i k0 k1).2 := by
  unfold State.readCodes
  repeat' first
    | with_reducible exact Keeps.refl _
    | (with_reducible apply Keeps.trans ?_ (State.readDenseRow_keeps ..))
    | (with_reducible apply Keeps.trans ?_ (State.readPairRow_keeps ..))
    | (with_reducible apply Keeps.trans ?_ (State.readRows_keeps (h1 := ?_) ..))
    | (with_reducible apply Keeps.trans ?_ (State.readTiles_keeps ..))
    | intro _
    | dsimp only
    | split

theorem State.readScaleRow_keeps (s : State) (f : Nat) (l : TLoc) (b0 b1 r : Nat) : Keeps s (State.readScaleRow s f l b0 b1 r).2 := by
  unfold State.readScaleRow
  repeat' first
    | with_reducible exact Keeps.refl _
    | (with_reducible apply Keeps.trans ?_ (State.fmRead_keeps ..))
    | dsimp only
    | split

theorem State.readTags_keeps (s : State) (f : Nat) (l : TLoc) (i k0 k1 : Nat) : Keeps s (State.readTags s f l i k0 k1).2 := by
  unfold State.readTags
  repeat' first
    | with_reducible exact Keeps.refl _
    | (with_reducible apply Keeps.trans ?_ (State.fmRead_keeps ..))
    | dsimp only
    | split

theorem State.readBand_keeps (s : State) (f : Nat) (l : TLoc) (i k0 k1 : Nat) : Keeps s (State.readBand s f l i k0 k1).2 := by
  unfold State.readBand
  repeat' first
    | with_reducible exact Keeps.refl _
    | (with_reducible apply Keeps.trans ?_ (State.readCodes_keeps ..))
    | (with_reducible apply Keeps.trans ?_ (State.readRows_keeps (h1 := ?_) ..))
    | (with_reducible apply Keeps.trans ?_ (State.readScaleRow_keeps ..))
    | (with_reducible apply Keeps.trans ?_ (State.readTags_keeps ..))
    | intro _
    | dsimp only
    | split

/-! ### Matrix -/

theorem State.payloads_keeps (s : State) (f : Nat) (l : TLoc) : Keeps s (State.payloads s f l).2 := by
  unfold State.payloads
  repeat' first
    | with_reducible exact Keeps.refl _
    | (with_reducible apply Keeps.trans ?_ (State.fmRead_keeps ..))
    | (with_reducible apply Keeps.trans ?_ (Keeps.of_pair (State.fmRead_keeps ..) ?_); rotate_right; (with_reducible assumption))
    | (with_reducible apply Keeps.trans ?_ (Keeps.foldl _ _ _ ?_))
    | (with_reducible apply Keeps.trans ?_ (Keeps.foldl_pair _ _ _ ?_))
    | with_reducible apply Keeps.ite_snd
    | with_reducible apply Keeps.ite
    | intro _
    | dsimp only
    | split

theorem State.acceptRecord_keeps (s : State) (c : Nat) (rec : Option Nat) (fmt requester : Nat) : Keeps s (State.acceptRecord s c rec fmt requester).2 := by
  unfold State.acceptRecord
  repeat' first
    | with_reducible exact Keeps.refl _
    | (with_reducible apply Keeps.trans ?_ (Keeps.of_pair (State.readRecord_keeps ..) ?_); rotate_right; (with_reducible assumption))
    | split

theorem State.loadTile_go_keeps (f d row col : Nat) (s : State) (k n : Nat) (l : List Nat) (b : Bool) :
    Keeps s (State.loadTile.go f d row col s k n l b).2 := by
  induction k generalizing s n l b with
  | zero => exact Keeps.refl _
  | succ k ih =>
    unfold State.loadTile.go
    exact (State.fmRead_keeps ..).trans (ih _ _ _ _)

theorem State.loadTile_keeps (a0 : State) (a1 : Nat) (a2 : Nat) (a3 : Nat) (a4 : Nat) (a5 : Nat) (a6 : Nat) : Keeps a0 (State.loadTile a0 a1 a2 a3 a4 a5 a6).2 := by
  unfold State.loadTile
  dsimp only
  refine Keeps.trans ?_ (State.loadTile_go_keeps ..)
  split
  · exact State.fmRead_keeps ..
  · exact Keeps.refl _

theorem State.readMask_keeps (s : State) (f : Nat) (d : Nat) : Keeps s (State.readMask s f d).2 := by
  unfold State.readMask
  repeat' first
    | with_reducible exact Keeps.refl _
    | (with_reducible apply Keeps.trans ?_ (State.fmRead_keeps ..))
    | (with_reducible apply Keeps.trans ?_ (Keeps.of_pair (State.fmRead_keeps ..) ?_); rotate_right; (with_reducible assumption))
    | (with_reducible apply Keeps.trans ?_ (Keeps.foldl _ _ _ ?_))
    | (with_reducible apply Keeps.trans ?_ (Keeps.foldl_pair _ _ _ ?_))
    | intro _
    | dsimp only
    | split

theorem State.loadTile.go_keeps (f d : Nat) (row col : Nat) (s : State) (a5 a6 : Nat) (a7 : List Nat) (a8 : Bool) : Keeps s (State.loadTile.go f d row col s a5 a6 a7 a8).2 := by
  fun_induction State.loadTile.go f d row col s a5 a6 a7 a8 <;> try dsimp only
  all_goals
    repeat' first
      | with_reducible exact Keeps.refl _
      | (with_reducible apply Keeps.trans ?_ (Keeps.of_pair (State.fmRead_keeps ..) ?_); rotate_right; (with_reducible assumption))
      | (with_reducible apply Keeps.trans ?_ ?_; rotate_right; (with_reducible assumption))

theorem State.loadTiles_keeps (s : State) (f : Nat) (d : Nat) (r : MatRun) : Keeps s (State.loadTiles s f d r).2 := by
  unfold State.loadTiles
  all_goals try with_reducible apply Keeps.trans ?_ (Keeps.lit _)
  all_goals repeat' first
    | with_reducible exact Keeps.refl _
    | with_reducible exact Keeps.lit _
    | (with_reducible apply Keeps.trans ?_ (State.loadTile_keeps ..))
    | (with_reducible apply Keeps.trans ?_ (Keeps.of_pair (State.loadTile_keeps ..) ?_); rotate_right; (with_reducible assumption))
    | (with_reducible apply Keeps.trans ?_ (Keeps.foldl _ _ _ ?_))
    | (with_reducible apply Keeps.trans ?_ (Keeps.foldl_pair _ _ _ ?_))
    | with_reducible apply Keeps.ite_snd
    | with_reducible apply Keeps.ite
    | intro _
    | dsimp only
    | split
  all_goals try with_reducible apply Keeps.trans ?_ (Keeps.lit _)
  all_goals repeat' first
    | with_reducible exact Keeps.refl _
    | with_reducible exact Keeps.lit _
    | (with_reducible apply Keeps.trans ?_ (State.loadTile_keeps ..))
    | (with_reducible apply Keeps.trans ?_ (Keeps.of_pair (State.loadTile_keeps ..) ?_); rotate_right; (with_reducible assumption))
    | (with_reducible apply Keeps.trans ?_ (Keeps.foldl _ _ _ ?_))
    | (with_reducible apply Keeps.trans ?_ (Keeps.foldl_pair _ _ _ ?_))
    | with_reducible apply Keeps.ite_snd
    | with_reducible apply Keeps.ite
    | intro _
    | dsimp only
    | split

theorem State.refuseMatrix_keeps (s : State) (n c code : Nat) : Keeps s (State.refuseMatrix s n c code) := by
  unfold State.refuseMatrix
  repeat' first
    | with_reducible exact Keeps.refl _
    | (with_reducible apply Keeps.trans ?_ (State.bump_keeps ..))
    | (with_reducible apply Keeps.trans ?_ (State.refuse_keeps ..))

theorem State.dynCount_keeps (s : State) (f d : Nat) : Keeps s (State.dynCount s f d).2 := by
  unfold State.dynCount
  repeat' first
    | with_reducible exact Keeps.refl _
    | (with_reducible apply Keeps.trans ?_ (State.fmRead_keeps ..))
    | dsimp only
    | split

theorem State.startMatrix_keeps (s : State) (n : Nat) (it : Item) : Keeps s (State.startMatrix s n it) := by
  unfold State.startMatrix
  repeat' first
    | with_reducible exact Keeps.refl _
    | (with_reducible apply Keeps.trans ?_ (State.acceptRecord_keeps ..))
    | (with_reducible apply Keeps.trans ?_ (Keeps.of_pair (State.acceptRecord_keeps ..) ?_); rotate_right; (with_reducible assumption))
    | (with_reducible apply Keeps.trans ?_ (State.dynCount_keeps ..))
    | (with_reducible apply Keeps.trans ?_ (Keeps.of_pair (State.dynCount_keeps ..) ?_); rotate_right; (with_reducible assumption))
    | (with_reducible apply Keeps.trans ?_ (State.finishWith_keeps ..))
    | (with_reducible apply Keeps.trans ?_ (State.loadTiles_keeps ..))
    | (with_reducible apply Keeps.trans ?_ (Keeps.of_pair (State.loadTiles_keeps ..) ?_); rotate_right; (with_reducible assumption))
    | (with_reducible apply Keeps.trans ?_ (State.meet_keeps ..))
    | (with_reducible apply Keeps.trans ?_ (State.payloads_keeps ..))
    | (with_reducible apply Keeps.trans ?_ (Keeps.of_pair (State.payloads_keeps ..) ?_); rotate_right; (with_reducible assumption))
    | (with_reducible apply Keeps.trans ?_ (State.readMask_keeps ..))
    | (with_reducible apply Keeps.trans ?_ (Keeps.of_pair (State.readMask_keeps ..) ?_); rotate_right; (with_reducible assumption))
    | (with_reducible apply Keeps.trans ?_ (State.refuseMatrix_keeps ..))
    | (with_reducible apply Keeps.trans ?_ (State.setFacet_keeps ..))
    | with_reducible apply Keeps.ite_snd
    | with_reducible apply Keeps.ite
    | intro _
    | dsimp only
    | split

theorem State.matrixStart_keeps (s : State) (n op : Nat) : Keeps s (State.matrixStart s n op) := by
  unfold State.matrixStart
  repeat' first
    | with_reducible exact Keeps.refl _
    | (with_reducible apply Keeps.trans ?_ (State.startMatrix_keeps ..))
    | (with_reducible apply Keeps.trans ?_ (State.withItem_keeps (h3 := ?_) ..))
    | intro _
    | split

theorem execMatmul_keeps (item : Nat) (s : State) : KeepsRes s (execMatmul item s) := by
  unfold execMatmul
  repeat' first
    | with_reducible exact Keeps.refl _
    | (with_reducible apply Keeps.trans ?_ (State.matrixStart_keeps ..))
    | with_reducible apply KeepsRes.next

theorem execMaxIndex_keeps (item : Nat) (s : State) : KeepsRes s (execMaxIndex item s) := by
  unfold execMaxIndex
  repeat' first
    | with_reducible exact Keeps.refl _
    | (with_reducible apply Keeps.trans ?_ (State.matrixStart_keeps ..))
    | with_reducible apply KeepsRes.next

theorem execMinIndex_keeps (item : Nat) (s : State) : KeepsRes s (execMinIndex item s) := by
  unfold execMinIndex
  repeat' first
    | with_reducible exact Keeps.refl _
    | (with_reducible apply Keeps.trans ?_ (State.matrixStart_keeps ..))
    | with_reducible apply KeepsRes.next

theorem State.readBands_keeps (s : State) (f : Nat) (l : TLoc) (k0 k1 : Nat) (a5 : List Nat) : Keeps s (State.readBands s f l k0 k1 a5).2 := by
  fun_induction State.readBands s f l k0 k1 a5 <;> try dsimp only
  all_goals
    repeat' first
      | with_reducible exact Keeps.refl _
      | (with_reducible apply Keeps.trans ?_ (State.readBand_keeps ..))
      | (with_reducible apply Keeps.trans ?_ ?_; rotate_right; (with_reducible assumption))

theorem State.readSuper_keeps (s : State) (f : Nat) (d : Nat) (r : MatRun) (picks : Nat → Nat → Bool) : Keeps s (State.readSuper s f d r picks).2 := by
  unfold State.readSuper
  repeat' first
    | with_reducible exact Keeps.refl _
    | (with_reducible apply Keeps.trans ?_ (State.readBands_keeps ..))
    | (with_reducible apply Keeps.trans ?_ (Keeps.of_pair (State.readBands_keeps ..) ?_); rotate_right; (with_reducible assumption))
    | (with_reducible apply Keeps.trans ?_ (Keeps.foldl _ _ _ ?_))
    | (with_reducible apply Keeps.trans ?_ (Keeps.foldl_pair _ _ _ ?_))
    | intro _
    | dsimp only
    | split

theorem State.frontLost_keeps (s : State) (it : Item) (array : Nat) : Keeps s (State.frontLost s it array).2 := by
  unfold State.frontLost
  repeat' first
    | with_reducible exact Keeps.refl _
    | (with_reducible apply Keeps.trans ?_ (State.sramRead_keeps ..))
    | (with_reducible apply Keeps.trans ?_ (Keeps.of_pair (State.sramRead_keeps ..) ?_); rotate_right; (with_reducible assumption))
    | (with_reducible apply Keeps.trans ?_ (State.sramWrote_keeps ..))
    | with_reducible apply Keeps.ite_snd
    | with_reducible apply Keeps.ite
    | dsimp only
    | split

theorem State.tileResult_keeps (s : State) (n : Nat) (d : Nat) (it : Item) (r : MatRun) (sr : SuperRead) (t : Nat × Nat × Nat) : Keeps s (State.tileResult s n d it r sr t).2 := by
  unfold State.tileResult
  repeat' first
    | with_reducible exact Keeps.refl _
    | (with_reducible apply Keeps.trans ?_ (State.bump_keeps ..))
    | (with_reducible apply Keeps.trans ?_ (State.frontLost_keeps ..))
    | (with_reducible apply Keeps.trans ?_ (Keeps.of_pair (State.frontLost_keeps ..) ?_); rotate_right; (with_reducible assumption))
    | (with_reducible apply Keeps.trans ?_ (State.meet_keeps ..))
    | (with_reducible apply Keeps.trans ?_ (State.took_keeps ..))
    | with_reducible apply Keeps.ite_snd
    | with_reducible apply Keeps.ite
    | intro _
    | dsimp only
    | split

theorem State.tileResults_keeps (s : State) (n d : Nat) (it : Item) (r : MatRun) (sr : SuperRead) (a6 : List (Nat × Nat × Nat)) : Keeps s (State.tileResults s n d it r sr a6).2 := by
  fun_induction State.tileResults s n d it r sr a6 <;> try dsimp only
  all_goals
    repeat' first
      | with_reducible exact Keeps.refl _
      | (with_reducible apply Keeps.trans ?_ (State.tileResult_keeps ..))
      | (with_reducible apply Keeps.trans ?_ ?_; rotate_right; (with_reducible assumption))

theorem State.countMalformed_keeps (s : State) (it : Item) (t : Table BandRead) : Keeps s (State.countMalformed s it t) := by
  unfold State.countMalformed
  repeat' first
    | with_reducible exact Keeps.refl _
    | (with_reducible apply Keeps.trans ?_ (State.bump_keeps ..))
    | (with_reducible apply Keeps.trans ?_ (State.log!_keeps ..))
    | (with_reducible apply Keeps.foldl _ _ _ ?_)
    | intro _

theorem State.countCycles_keeps (s : State) (d : Nat) (it : Item) (r : MatRun) (sr : SuperRead) (retries : Nat) : Keeps s (State.countCycles s d it r sr retries) := by
  unfold State.countCycles
  repeat' first
    | with_reducible exact Keeps.refl _
    | (with_reducible apply Keeps.trans ?_ (State.bump_keeps ..))
    | with_reducible apply Keeps.ite_snd
    | with_reducible apply Keeps.ite
    | intro _
    | dsimp only
    | split

theorem State.audit_keeps (s : State) (d : Nat) (n : Nat) (it : Item) (r : MatRun) (sr : SuperRead) (tiles : List AccTile) : Keeps s (State.audit s d n it r sr tiles) := by
  unfold State.audit
  repeat' first
    | with_reducible exact Keeps.refl _
    | (with_reducible apply Keeps.trans ?_ (State.ctxUpdate_keeps ..))
    | (with_reducible apply Keeps.trans ?_ (State.row_keeps (h5 := ?_) ..))
    | (with_reducible apply Keeps.trans ?_ (Keeps.foldl _ _ _ ?_))
    | (with_reducible apply Keeps.trans ?_ (Keeps.foldl_pair _ _ _ ?_))
    | with_reducible apply Keeps.ite_snd
    | with_reducible apply Keeps.ite
    | intro _
    | dsimp only
    | split

theorem State.kLoopEnd_keeps (s : State) (f : Nat) : Keeps s (State.kLoopEnd s f) := by
  unfold State.kLoopEnd
  all_goals try with_reducible apply Keeps.trans ?_ (Keeps.lit _)
  all_goals repeat' first
    | with_reducible exact Keeps.refl _
    | with_reducible exact Keeps.lit _
    | (with_reducible apply Keeps.trans ?_ (State.audit_keeps ..))
    | (with_reducible apply Keeps.trans ?_ (State.countCycles_keeps ..))
    | (with_reducible apply Keeps.trans ?_ (State.countMalformed_keeps ..))
    | (with_reducible apply Keeps.trans ?_ (State.readSuper_keeps ..))
    | (with_reducible apply Keeps.trans ?_ (Keeps.of_pair (State.readSuper_keeps ..) ?_); rotate_right; (with_reducible assumption))
    | (with_reducible apply Keeps.trans ?_ (State.setFacet_keeps ..))
    | (with_reducible apply Keeps.trans ?_ (State.tileResults_keeps ..))
    | (with_reducible apply Keeps.trans ?_ (Keeps.of_pair (State.tileResults_keeps ..) ?_); rotate_right; (with_reducible assumption))
    | intro _
    | dsimp only
    | split
  all_goals try with_reducible apply Keeps.trans ?_ (Keeps.lit _)
  all_goals repeat' first
    | with_reducible exact Keeps.refl _
    | with_reducible exact Keeps.lit _
    | (with_reducible apply Keeps.trans ?_ (State.audit_keeps ..))
    | (with_reducible apply Keeps.trans ?_ (State.countCycles_keeps ..))
    | (with_reducible apply Keeps.trans ?_ (State.countMalformed_keeps ..))
    | (with_reducible apply Keeps.trans ?_ (State.readSuper_keeps ..))
    | (with_reducible apply Keeps.trans ?_ (Keeps.of_pair (State.readSuper_keeps ..) ?_); rotate_right; (with_reducible assumption))
    | (with_reducible apply Keeps.trans ?_ (State.setFacet_keeps ..))
    | (with_reducible apply Keeps.trans ?_ (State.tileResults_keeps ..))
    | (with_reducible apply Keeps.trans ?_ (Keeps.of_pair (State.tileResults_keeps ..) ?_); rotate_right; (with_reducible assumption))
    | intro _
    | dsimp only
    | split

theorem execKLoopEnd_keeps (facet : Nat) (s : State) : KeepsRes s (execKLoopEnd facet s) := by
  unfold execKLoopEnd
  repeat' first
    | with_reducible exact Keeps.refl _
    | (with_reducible apply Keeps.trans ?_ (State.kLoopEnd_keeps ..))
    | with_reducible apply KeepsRes.next

theorem State.tileSwap_keeps (s : State) (f : Nat) : Keeps s (State.tileSwap s f) := by
  unfold State.tileSwap
  repeat' first
    | with_reducible exact Keeps.refl _
    | (with_reducible apply Keeps.trans ?_ (State.finish_keeps ..))
    | (with_reducible apply Keeps.trans ?_ (State.loadTiles_keeps ..))
    | (with_reducible apply Keeps.trans ?_ (State.setFacet_keeps ..))
    | (with_reducible apply Keeps.trans ?_ (State.tileReady_keeps ..))
    | dsimp only
    | split

theorem execAccTileSwap_keeps (facet : Nat) (s : State) : KeepsRes s (execAccTileSwap facet s) := by
  unfold execAccTileSwap
  repeat' first
    | with_reducible exact Keeps.refl _
    | (with_reducible apply Keeps.trans ?_ (State.tileSwap_keeps ..))
    | with_reducible apply KeepsRes.next

theorem State.writeTileRows_keeps (s : State) (c f : Nat) (d base : Nat) (row col rows : Nat) (l : List Nat) (a9 : Nat) : Keeps s (State.writeTileRows s c f d base row col rows l a9) := by
  fun_induction State.writeTileRows s c f d base row col rows l a9 <;> try dsimp only
  all_goals
    repeat' first
      | with_reducible exact Keeps.refl _
      | with_reducible assumption
      | (with_reducible apply Keeps.trans ?_ (State.fmWrite_keeps ..))

theorem State.drain_keeps (s : State) (f : Nat) (it : Item) (t : AccTile) : Keeps s (State.drain s f it t) := by
  unfold State.drain
  repeat' first
    | with_reducible exact Keeps.refl _
    | (with_reducible apply Keeps.trans ?_ (State.fmWrite_keeps ..))
    | (with_reducible apply Keeps.trans ?_ (State.writeTileRows_keeps ..))
    | dsimp only
    | split

theorem State.drainDone_keeps (s : State) (f : Nat) (array : Nat) : Keeps s (State.drainDone s f array) := by
  unfold State.drainDone
  repeat' first
    | with_reducible exact Keeps.refl _
    | (with_reducible apply Keeps.trans ?_ (State.drain_keeps ..))
    | (with_reducible apply Keeps.trans ?_ (State.finish_keeps ..))
    | (with_reducible apply Keeps.trans ?_ (State.meet_keeps ..))
    | (with_reducible apply Keeps.trans ?_ (State.row_keeps (h5 := ?_) ..))
    | (with_reducible apply Keeps.trans ?_ (State.setFacet_keeps ..))
    | (with_reducible apply Keeps.trans ?_ (State.sramRead_keeps ..))
    | (with_reducible apply Keeps.trans ?_ (Keeps.of_pair (State.sramRead_keeps ..) ?_); rotate_right; (with_reducible assumption))
    | (with_reducible apply Keeps.trans ?_ (State.sramWrote_keeps ..))
    | (with_reducible apply Keeps.trans ?_ (State.took_keeps ..))
    | with_reducible apply Keeps.ite_snd
    | with_reducible apply Keeps.ite
    | intro _
    | dsimp only
    | split

theorem execTileDrainDone_keeps (facet array : Nat) (s : State) : KeepsRes s (execTileDrainDone facet array s) := by
  unfold execTileDrainDone
  repeat' first
    | with_reducible exact Keeps.refl _
    | (with_reducible apply Keeps.trans ?_ (State.drainDone_keeps ..))
    | with_reducible apply KeepsRes.next

/-! ### Program -/

theorem State.sset_keeps (s : State) (f t : Nat) (r v : Nat) (poison : Bool) : Keeps s (State.sset s f t r v poison) := by
  unfold State.sset
  repeat' first
    | with_reducible exact Keeps.refl _
    | (with_reducible apply Keeps.trans ?_ (State.setFacet_keeps ..))
    | dsimp only
    | split

theorem State.setProg_keeps (s : State) (f t : Nat) (p : Program) : Keeps s (State.setProg s f t p) := by
  unfold State.setProg
  repeat' first
    | with_reducible exact Keeps.refl _
    | (with_reducible apply Keeps.trans ?_ (State.setThread_keeps ..))
    | split

theorem State.commitTile_keeps (s : State) (f : Nat) (b : Band) (outer : Outer) (k0 : Nat) (k1 : Nat) : Keeps s (State.commitTile s f b outer k0 k1) := by
  unfold State.commitTile
  repeat' first
    | with_reducible exact Keeps.refl _
    | (with_reducible apply Keeps.trans ?_ (State.countTile_keeps ..))
    | (with_reducible apply Keeps.trans ?_ (State.exhaust_keeps ..))
    | (with_reducible apply Keeps.trans ?_ (State.fmWrite_keeps ..))
    | (with_reducible apply Keeps.trans ?_ (State.row_keeps (h5 := ?_) ..))
    | (with_reducible apply Keeps.trans ?_ (Keeps.foldl _ _ _ ?_))
    | (with_reducible apply Keeps.trans ?_ (Keeps.foldl_pair _ _ _ ?_))
    | with_reducible apply Keeps.ite_snd
    | with_reducible apply Keeps.ite
    | intro _
    | dsimp only
    | split

theorem State.commitBand_keeps (s : State) (f : Nat) (b : Band) : Keeps s (State.commitBand s f b) := by
  unfold State.commitBand
  repeat' first
    | with_reducible exact Keeps.refl _
    | (with_reducible apply Keeps.trans ?_ (State.beginWrite_keeps ..))
    | (with_reducible apply Keeps.trans ?_ (Keeps.of_pair (State.beginWrite_keeps ..) ?_); rotate_right; (with_reducible assumption))
    | (with_reducible apply Keeps.trans ?_ (State.commitTile_keeps ..))
    | (with_reducible apply Keeps.trans ?_ (State.meet_keeps ..))
    | (with_reducible apply Keeps.trans ?_ (State.sramRead_keeps ..))
    | (with_reducible apply Keeps.trans ?_ (Keeps.of_pair (State.sramRead_keeps ..) ?_); rotate_right; (with_reducible assumption))
    | (with_reducible apply Keeps.trans ?_ (Keeps.foldl _ _ _ ?_))
    | (with_reducible apply Keeps.trans ?_ (Keeps.foldl_pair _ _ _ ?_))
    | with_reducible apply Keeps.ite_snd
    | with_reducible apply Keeps.ite
    | intro _
    | dsimp only
    | split

theorem State.commitBands_keeps (s : State) (f : Nat) (l : List Band) : Keeps s (State.commitBands s f l) := by
  unfold State.commitBands
  repeat' first
    | with_reducible exact Keeps.refl _
    | (with_reducible apply Keeps.trans ?_ (State.commitBand_keeps ..))
    | (with_reducible apply Keeps.trans ?_ (Keeps.foldl _ _ _ ?_))
    | (with_reducible apply Keeps.trans ?_ (Keeps.foldl_pair _ _ _ ?_))
    | intro _
    | dsimp only
    | split

theorem State.setBands_keeps (s : State) (f : Nat) (l : List Band) : Keeps s (State.setBands s f l) := by
  unfold State.setBands
  repeat' first
    | with_reducible exact Keeps.refl _
    | (with_reducible apply Keeps.trans ?_ (State.setFacet_keeps ..))
    | dsimp only
    | split

theorem State.dropBands_keeps (s : State) (f : Nat) (n : Nat) : Keeps s (State.dropBands s f n) := by
  unfold State.dropBands
  repeat' first
    | with_reducible exact Keeps.refl _
    | (with_reducible apply Keeps.trans ?_ (State.setBands_keeps ..))
    | intro _
    | dsimp only
    | split

theorem State.flushBands_keeps (s : State) (f : Nat) (n : Nat) : Keeps s (State.flushBands s f n) := by
  unfold State.flushBands
  repeat' first
    | with_reducible exact Keeps.refl _
    | (with_reducible apply Keeps.trans ?_ (State.commitBands_keeps ..))
    | (with_reducible apply Keeps.trans ?_ (State.dropBands_keeps ..))
    | intro _
    | dsimp only
    | split

theorem State.releaseTile_keeps (s : State) (f : Nat) (p : Program) : Keeps s (State.releaseTile s f p) := by
  unfold State.releaseTile
  repeat' first
    | with_reducible exact Keeps.refl _
    | (with_reducible apply Keeps.trans ?_ (State.setFacet_keeps ..))
    | dsimp only
    | split

theorem State.leaveProgram_keeps (s : State) (f : Nat) (t : Nat) (p : Program) : Keeps s (State.leaveProgram s f t p) := by
  unfold State.leaveProgram
  all_goals try with_reducible apply Keeps.trans ?_ (Keeps.lit _)
  all_goals repeat' first
    | with_reducible exact Keeps.refl _
    | with_reducible exact Keeps.lit _
    | (with_reducible apply Keeps.trans ?_ (State.dropBands_keeps ..))
    | (with_reducible apply Keeps.trans ?_ (State.finish_keeps ..))
    | (with_reducible apply Keeps.trans ?_ (State.meet_keeps ..))
    | (with_reducible apply Keeps.trans ?_ (State.releaseTile_keeps ..))
    | (with_reducible apply Keeps.trans ?_ (State.setThread_keeps ..))
    | (with_reducible apply Keeps.trans ?_ (Keeps.foldl _ _ _ ?_))
    | (with_reducible apply Keeps.trans ?_ (Keeps.foldl_pair _ _ _ ?_))
    | intro _
    | dsimp only
    | split
  all_goals try with_reducible apply Keeps.trans ?_ (Keeps.lit _)
  all_goals repeat' first
    | with_reducible exact Keeps.refl _
    | with_reducible exact Keeps.lit _
    | (with_reducible apply Keeps.trans ?_ (State.dropBands_keeps ..))
    | (with_reducible apply Keeps.trans ?_ (State.finish_keeps ..))
    | (with_reducible apply Keeps.trans ?_ (State.meet_keeps ..))
    | (with_reducible apply Keeps.trans ?_ (State.releaseTile_keeps ..))
    | (with_reducible apply Keeps.trans ?_ (State.setThread_keeps ..))
    | (with_reducible apply Keeps.trans ?_ (Keeps.foldl _ _ _ ?_))
    | (with_reducible apply Keeps.trans ?_ (Keeps.foldl_pair _ _ _ ?_))
    | intro _
    | dsimp only
    | split

theorem State.stopProgram_keeps (s : State) (f t : Nat) (st : Status) : Keeps s (State.stopProgram s f t st) := by
  unfold State.stopProgram
  repeat' first
    | with_reducible exact Keeps.refl _
    | (with_reducible apply Keeps.trans ?_ (State.bump_keeps ..))
    | (with_reducible apply Keeps.trans ?_ (State.leaveProgram_keeps ..))
    | (with_reducible apply Keeps.trans ?_ (State.meet_keeps ..))
    | split

theorem State.endProgram_keeps (s : State) (f : Nat) (t : Nat) (zeroWork : Bool) : Keeps s (State.endProgram s f t zeroWork) := by
  unfold State.endProgram
  repeat' first
    | with_reducible exact Keeps.refl _
    | (with_reducible apply Keeps.trans ?_ (State.flushBands_keeps ..))
    | (with_reducible apply Keeps.trans ?_ (State.leaveProgram_keeps ..))
    | (with_reducible apply Keeps.trans ?_ (State.meet_keeps ..))
    | with_reducible apply Keeps.ite_snd
    | with_reducible apply Keeps.ite
    | dsimp only
    | split

theorem State.reach_keeps (s : State) (f t : Nat) : Keeps s (State.reach s f t) := by
  unfold State.reach
  repeat' first
    | with_reducible exact Keeps.refl _
    | (with_reducible apply Keeps.trans ?_ (State.fmRead_keeps ..))
    | (with_reducible apply Keeps.trans ?_ (State.stopProgram_keeps ..))
    | dsimp only
    | split

theorem State.goto_keeps (s : State) (f t pc : Nat) : Keeps s (State.goto s f t pc) := by
  unfold State.goto
  repeat' first
    | with_reducible exact Keeps.refl _
    | (with_reducible apply Keeps.trans ?_ (State.reach_keeps ..))
    | (with_reducible apply Keeps.trans ?_ (State.setProg_keeps ..))
    | split

theorem State.onInsn_keeps (s : State) (f t op : Nat) (act : Program → Nat → State → State) (h4 : ∀ (x0 : Program) (x1 : Nat) (x2 : State), Keeps x2 (act x0 x1 x2)) : Keeps s (State.onInsn s f t op act) := by
  unfold State.onInsn
  repeat' first
    | with_reducible exact Keeps.refl _
    | (with_reducible apply Keeps.trans ?_ (h4 ..))
    | split

theorem State.insn_keeps (s : State) (f t op : Nat) (act : Program → Nat → State → State) (h4 : ∀ (x0 : Program) (x1 : Nat) (x2 : State), Keeps x2 (act x0 x1 x2)) : Keeps s (State.insn s f t op act) := by
  unfold State.insn
  repeat' first
    | with_reducible exact Keeps.refl _
    | (with_reducible apply Keeps.trans ?_ (h4 ..))
    | (with_reducible apply Keeps.trans ?_ (State.goto_keeps ..))
    | (with_reducible apply Keeps.trans ?_ (State.onInsn_keeps (h4 := ?_) ..))
    | intro _

theorem State.vinsn_keeps (s : State) (f t : Nat) (op issue : Nat) (act : Program → Nat → State → State) (h5 : ∀ (x0 : Program) (x1 : Nat) (x2 : State), Keeps x2 (act x0 x1 x2)) : Keeps s (State.vinsn s f t op issue act) := by
  unfold State.vinsn
  repeat' first
    | with_reducible exact Keeps.refl _
    | (with_reducible apply Keeps.trans ?_ (h5 ..))
    | (with_reducible apply Keeps.trans ?_ (State.bump_keeps ..))
    | (with_reducible apply Keeps.trans ?_ (State.insn_keeps (h4 := ?_) ..))
    | intro _

/-! ### Stream -/

theorem State.refuseStream_keeps (s : State) (n c code : Nat) : Keeps s (State.refuseStream s n c code) := by
  unfold State.refuseStream
  repeat' first
    | with_reducible exact Keeps.refl _
    | (with_reducible apply Keeps.trans ?_ (State.bump_keeps ..))
    | (with_reducible apply Keeps.trans ?_ (State.refuse_keeps ..))

theorem State.sRead_keeps (s : State) (n c : Nat) (o len : Nat) : Keeps s (State.sRead s n c o len).2 := by
  unfold State.sRead
  repeat' first
    | with_reducible exact Keeps.refl _
    | (with_reducible apply Keeps.trans ?_ (State.ctxRead_keeps ..))
    | (with_reducible apply Keeps.trans ?_ (State.meet_keeps ..))
    | dsimp only
    | split

theorem State.sWrite_keeps (s : State) (n : Nat) (c : Nat) (o : Nat) (b : Bytes) : Keeps s (State.sWrite s n c o b) := by
  unfold State.sWrite
  repeat' first
    | with_reducible exact Keeps.refl _
    | (with_reducible apply Keeps.trans ?_ (State.ctxWrite_keeps ..))
    | (with_reducible apply Keeps.trans ?_ (Keeps.of_pair (State.ctxWrite_keeps ..) ?_); rotate_right; (with_reducible assumption))
    | (with_reducible apply Keeps.trans ?_ (State.meet_keeps ..))
    | dsimp only
    | split

theorem State.markByte_keeps (s : State) (c o : Nat) : Keeps s (State.markByte s c o) := by
  unfold State.markByte
  repeat' first
    | with_reducible exact Keeps.refl _
    | (with_reducible apply Keeps.trans ?_ (State.setFm_keeps ?_))
    | (with_reducible apply Keeps.trans ?_ (State.setHbm_keeps ?_))
    | (with_reducible exact id)
    | with_reducible exact Memory.wf_drop _ _ _
    | dsimp only
    | split

theorem State.markBytes_keeps (s : State) (c : Nat) (a2 : List Nat) : Keeps s (State.markBytes s c a2) := by
  fun_induction State.markBytes s c a2 <;> try dsimp only
  all_goals
    repeat' first
      | with_reducible exact Keeps.refl _
      | (with_reducible apply Keeps.trans ?_ (State.markByte_keeps ..))
      | (with_reducible apply Keeps.trans ?_ ?_; rotate_right; (with_reducible assumption))

theorem State.streamCount_keeps (s : State) (n c : Nat) (d limit : Nat) : Keeps s (State.streamCount s n c d limit).2 := by
  unfold State.streamCount
  repeat' first
    | with_reducible exact Keeps.refl _
    | (with_reducible apply Keeps.trans ?_ (State.sRead_keeps ..))
    | dsimp only
    | split

theorem State.srcRow_keeps (s : State) (n c : Nat) (fmt base k : Nat) : Keeps s (State.srcRow s n c fmt base k).2 := by
  unfold State.srcRow
  repeat' first
    | with_reducible exact Keeps.refl _
    | (with_reducible apply Keeps.trans ?_ (State.sRead_keeps ..))

theorem State.srcRows_keeps (s : State) (n c d : Nat) (a4 : List Nat) : Keeps s (State.srcRows s n c d a4).2 := by
  fun_induction State.srcRows s n c d a4 <;> try dsimp only
  all_goals
    repeat' first
      | with_reducible exact Keeps.refl _
      | (with_reducible apply Keeps.trans ?_ (State.srcRow_keeps ..))
      | (with_reducible apply Keeps.trans ?_ ?_; rotate_right; (with_reducible assumption))

theorem State.source_keeps (s : State) (n c : Nat) (d m : Nat) (spoiled : Bool) : Keeps s (State.source s n c d m spoiled).2 := by
  unfold State.source
  repeat' first
    | with_reducible exact Keeps.refl _
    | (with_reducible apply Keeps.trans ?_ (State.srcRows_keeps ..))

theorem State.copyBytes_keeps (s : State) (n c : Nat) (src dst len : Nat) (spoiled : Bool) : Keeps s (State.copyBytes s n c src dst len spoiled) := by
  unfold State.copyBytes
  repeat' first
    | with_reducible exact Keeps.refl _
    | (with_reducible apply Keeps.trans ?_ (State.markBytes_keeps ..))
    | (with_reducible apply Keeps.trans ?_ (State.sRead_keeps ..))
    | (with_reducible apply Keeps.trans ?_ (State.sWrite_keeps ..))

theorem State.runCopy_keeps (s : State) (n : Nat) (it : Item) : Keeps s (State.runCopy s n it) := by
  unfold State.runCopy
  repeat' first
    | with_reducible exact Keeps.refl _
    | (with_reducible apply Keeps.trans ?_ (State.copyBytes_keeps ..))
    | (with_reducible apply Keeps.trans ?_ (State.meet_keeps ..))
    | (with_reducible apply Keeps.trans ?_ (State.streamCount_keeps ..))
    | dsimp only
    | split

theorem State.coverUnits_keeps (s : State) (c o len : Nat) : Keeps s (State.coverUnits s c o len) := by
  unfold State.coverUnits
  repeat' first
    | with_reducible exact Keeps.refl _
    | (with_reducible apply Keeps.trans ?_ (State.setHbm_keeps ?_))
    | (with_reducible apply Keeps.foldl _ _ _ ?_)
    | (with_reducible exact id)
    | intro _
    | dsimp only
    | split

theorem State.runFill_keeps (s : State) (n : Nat) (it : Item) : Keeps s (State.runFill s n it) := by
  unfold State.runFill
  repeat' first
    | with_reducible exact Keeps.refl _
    | (with_reducible apply Keeps.trans ?_ (State.coverUnits_keeps ..))
    | (with_reducible apply Keeps.trans ?_ (State.sWrite_keeps ..))

theorem State.gatherIndex_keeps (s : State) (n : Nat) (c : Nat) (d : Nat) (i : Nat) : Keeps s (State.gatherIndex s n c d i).2 := by
  unfold State.gatherIndex
  repeat' first
    | with_reducible exact Keeps.refl _
    | (with_reducible apply Keeps.trans ?_ (State.meet_keeps ..))
    | (with_reducible apply Keeps.trans ?_ (State.sRead_keeps ..))
    | (with_reducible apply Keeps.trans ?_ (Keeps.of_pair (State.sRead_keeps ..) ?_); rotate_right; (with_reducible assumption))
    | dsimp only
    | split

theorem State.gatherIndexes_keeps (s : State) (n : Nat) (c : Nat) (d : Nat) (a4 : List Nat) : Keeps s (State.gatherIndexes s n c d a4).2 := by
  fun_induction State.gatherIndexes s n c d a4 <;> try dsimp only
  all_goals
    repeat' first
      | with_reducible exact Keeps.refl _
      | with_reducible assumption
      | (with_reducible apply Keeps.trans ?_ (State.gatherIndex_keeps ..))
      | dsimp only
      | (with_reducible apply Keeps.trans ?_ (Keeps.of_pair ?_ ?_); rotate_right; (with_reducible assumption); rotate_right; (with_reducible assumption))
      | (with_reducible apply Keeps.trans ?_ ?_; rotate_right; (with_reducible assumption))
      | split

theorem State.gatherWindow_keeps (s : State) (n : Nat) (c : Nat) (d : Nat) (is : List Nat) : Keeps s (State.gatherWindow s n c d is).2 := by
  unfold State.gatherWindow
  repeat' first
    | with_reducible exact Keeps.refl _
    | (with_reducible apply Keeps.trans ?_ (State.gatherIndexes_keeps ..))
    | (with_reducible apply Keeps.trans ?_ (Keeps.of_pair (State.gatherIndexes_keeps ..) ?_); rotate_right; (with_reducible assumption))
    | (with_reducible apply Keeps.trans ?_ (State.sRead_keeps ..))
    | (with_reducible apply Keeps.trans ?_ (Keeps.of_pair (State.sRead_keeps ..) ?_); rotate_right; (with_reducible assumption))
    | (with_reducible apply Keeps.trans ?_ (Keeps.foldl _ _ _ ?_))
    | (with_reducible apply Keeps.trans ?_ (Keeps.foldl_pair _ _ _ ?_))
    | intro _
    | dsimp only
    | split

theorem State.gatherAll_keeps (s : State) (n : Nat) (c : Nat) (d : Nat) (a4 : List (List Nat)) : Keeps s (State.gatherAll s n c d a4).2 := by
  fun_induction State.gatherAll s n c d a4 <;> try dsimp only
  all_goals
    repeat' first
      | with_reducible exact Keeps.refl _
      | with_reducible assumption
      | (with_reducible apply Keeps.trans ?_ (State.gatherWindow_keeps ..))
      | dsimp only
      | (with_reducible apply Keeps.trans ?_ (Keeps.of_pair ?_ ?_); rotate_right; (with_reducible assumption); rotate_right; (with_reducible assumption))
      | (with_reducible apply Keeps.trans ?_ ?_; rotate_right; (with_reducible assumption))
      | split

theorem State.runGather_keeps (s : State) (n : Nat) (it : Item) : Keeps s (State.runGather s n it) := by
  unfold State.runGather
  repeat' first
    | with_reducible exact Keeps.refl _
    | (with_reducible apply Keeps.trans ?_ (State.gatherAll_keeps ..))
    | (with_reducible apply Keeps.trans ?_ (Keeps.of_pair (State.gatherAll_keeps ..) ?_); rotate_right; (with_reducible assumption))
    | (with_reducible apply Keeps.trans ?_ (State.markBytes_keeps ..))
    | (with_reducible apply Keeps.trans ?_ (State.meet_keeps ..))
    | (with_reducible apply Keeps.trans ?_ (State.sWrite_keeps ..))
    | (with_reducible apply Keeps.trans ?_ (State.streamCount_keeps ..))
    | (with_reducible apply Keeps.trans ?_ (Keeps.of_pair (State.streamCount_keeps ..) ?_); rotate_right; (with_reducible assumption))
    | intro _
    | dsimp only
    | split

theorem State.encodeTile_keeps (s : State) (n c : Nat) (e : EncCfg) (rows : List (List FVal)) : Keeps s (State.encodeTile s n c e rows).2 := by
  unfold State.encodeTile
  repeat' first
    | with_reducible exact Keeps.refl _
    | (with_reducible apply Keeps.trans ?_ (State.countTile_keeps ..))
    | (with_reducible apply Keeps.trans ?_ (State.exhaust_keeps ..))
    | dsimp only
    | split

theorem State.encodeTiles_keeps (s : State) (n c : Nat) (e : EncCfg) (band : List (List FVal)) (a5 : List Nat) : Keeps s (State.encodeTiles s n c e band a5).2 := by
  fun_induction State.encodeTiles s n c e band a5 <;> try dsimp only
  all_goals
    repeat' first
      | with_reducible exact Keeps.refl _
      | (with_reducible apply Keeps.trans ?_ (State.encodeTile_keeps ..))
      | (with_reducible apply Keeps.trans ?_ ?_; rotate_right; (with_reducible assumption))

theorem State.encodeBands_keeps (s : State) (n : Nat) (c : Nat) (k : Nat) (e : EncCfg) (a5 : List (List (List FVal))) : Keeps s (State.encodeBands s n c k e a5).2 := by
  fun_induction State.encodeBands s n c k e a5 <;> try dsimp only
  all_goals
    repeat' first
      | with_reducible exact Keeps.refl _
      | with_reducible assumption
      | (with_reducible apply Keeps.trans ?_ (State.encodeTiles_keeps ..))
      | (with_reducible apply Keeps.trans ?_ (Keeps.of_pair (State.encodeTiles_keeps ..) ?_); rotate_right; (with_reducible assumption))
      | (with_reducible apply Keeps.trans ?_ (State.store_keeps ..))
      | intro _
      | dsimp only
      | (with_reducible apply Keeps.trans ?_ (Keeps.of_pair ?_ ?_); rotate_right; (with_reducible assumption); rotate_right; (with_reducible assumption))
      | (with_reducible apply Keeps.trans ?_ ?_; rotate_right; (with_reducible assumption))
      | split

theorem State.encode_keeps (s : State) (n c k : Nat) (e : EncCfg) (rows : List (List FVal)) : Keeps s (State.encode s n c k e rows).2 := by
  unfold State.encode
  repeat' first
    | with_reducible exact Keeps.refl _
    | (with_reducible apply Keeps.trans ?_ (State.encodeBands_keeps ..))

theorem State.storeTile_keeps (s : State) (n c d : Nat) (codes : List (List Nat)) (tk : Nat) (p : Packed) (t : Nat) : Keeps s (State.storeTile s n c d codes tk p t).2 := by
  unfold State.storeTile
  repeat' first
    | with_reducible exact Keeps.refl _
    | (with_reducible apply Keeps.trans ?_ (State.bump_keeps ..))
    | (with_reducible apply Keeps.trans ?_ (State.sWrite_keeps ..))
    | dsimp only
    | split

theorem State.storeTiles_keeps (s : State) (n c d : Nat) (codes : List (List Nat)) (tk : Nat) (p : Packed) (a7 : List Nat) : Keeps s (State.storeTiles s n c d codes tk p a7).2 := by
  fun_induction State.storeTiles s n c d codes tk p a7 <;> try dsimp only
  all_goals
    repeat' first
      | with_reducible exact Keeps.refl _
      | (with_reducible apply Keeps.trans ?_ (State.storeTile_keeps ..))
      | (with_reducible apply Keeps.trans ?_ ?_; rotate_right; (with_reducible assumption))

theorem State.writeRows_keeps (s : State) (n c : Nat) (base pitch a5 : Nat) (a6 : List Bytes) : Keeps s (State.writeRows s n c base pitch a5 a6) := by
  fun_induction State.writeRows s n c base pitch a5 a6 <;> try dsimp only
  all_goals
    repeat' first
      | with_reducible exact Keeps.refl _
      | (with_reducible apply Keeps.trans ?_ (State.sWrite_keeps ..))
      | (with_reducible apply Keeps.trans ?_ ?_; rotate_right; (with_reducible assumption))

theorem State.storeBlockTiles_keeps (s : State) (n c d : Nat) (e : Encoded) (tm tk : Nat) : Keeps s (State.storeBlockTiles s n c d e tm tk) := by
  unfold State.storeBlockTiles
  repeat' first
    | with_reducible exact Keeps.refl _
    | (with_reducible apply Keeps.trans ?_ (State.sWrite_keeps ..))
    | (with_reducible apply Keeps.trans ?_ (State.writeRows_keeps ..))
    | (with_reducible apply Keeps.foldl _ _ _ ?_)
    | intro _

theorem State.storeData_keeps (s : State) (n c : Nat) (d m : Nat) (e : Encoded) (kept : List (List (List Nat))) : Keeps s (State.storeData s n c d m e kept).2 := by
  unfold State.storeData
  repeat' first
    | with_reducible exact Keeps.refl _
    | (with_reducible apply Keeps.trans ?_ (State.storeBlockTiles_keeps ..))
    | (with_reducible apply Keeps.trans ?_ (State.storeTiles_keeps ..))
    | (with_reducible apply Keeps.trans ?_ (State.writeRows_keeps ..))
    | dsimp only
    | split

theorem State.storeSides_keeps (s : State) (n c d : Nat) (e : Encoded) : Keeps s (State.storeSides s n c d e) := by
  unfold State.storeSides
  repeat' first
    | with_reducible exact Keeps.refl _
    | (with_reducible apply Keeps.trans ?_ (State.writeRows_keeps ..))
    | dsimp only
    | split

theorem State.writeSize_keeps (s : State) (n c d : Nat) (p : Packed) : Keeps s (State.writeSize s n c d p) := by
  unfold State.writeSize
  repeat' first
    | with_reducible exact Keeps.refl _
    | (with_reducible apply Keeps.trans ?_ (State.sWrite_keeps ..))
    | split

theorem State.runStore_keeps (s : State) (n : Nat) (it : Item) : Keeps s (State.runStore s n it) := by
  unfold State.runStore
  repeat' first
    | with_reducible exact Keeps.refl _
    | (with_reducible apply Keeps.trans ?_ (State.beginWrite_keeps ..))
    | (with_reducible apply Keeps.trans ?_ (Keeps.of_pair (State.beginWrite_keeps ..) ?_); rotate_right; (with_reducible assumption))
    | (with_reducible apply Keeps.trans ?_ (State.bump_keeps ..))
    | (with_reducible apply Keeps.trans ?_ (State.encode_keeps ..))
    | (with_reducible apply Keeps.trans ?_ (Keeps.of_pair (State.encode_keeps ..) ?_); rotate_right; (with_reducible assumption))
    | (with_reducible apply Keeps.trans ?_ (State.meet_keeps ..))
    | (with_reducible apply Keeps.trans ?_ (State.outerOf_keeps ..))
    | (with_reducible apply Keeps.trans ?_ (Keeps.of_pair (State.outerOf_keeps ..) ?_); rotate_right; (with_reducible assumption))
    | (with_reducible apply Keeps.trans ?_ (State.sWrite_keeps ..))
    | (with_reducible apply Keeps.trans ?_ (State.source_keeps ..))
    | (with_reducible apply Keeps.trans ?_ (Keeps.of_pair (State.source_keeps ..) ?_); rotate_right; (with_reducible assumption))
    | (with_reducible apply Keeps.trans ?_ (State.storeData_keeps ..))
    | (with_reducible apply Keeps.trans ?_ (Keeps.of_pair (State.storeData_keeps ..) ?_); rotate_right; (with_reducible assumption))
    | (with_reducible apply Keeps.trans ?_ (State.storeSides_keeps ..))
    | (with_reducible apply Keeps.trans ?_ (State.streamCount_keeps ..))
    | (with_reducible apply Keeps.trans ?_ (Keeps.of_pair (State.streamCount_keeps ..) ?_); rotate_right; (with_reducible assumption))
    | (with_reducible apply Keeps.trans ?_ (State.writeSize_keeps ..))
    | (with_reducible apply Keeps.trans ?_ (Keeps.foldl _ _ _ ?_))
    | (with_reducible apply Keeps.trans ?_ (Keeps.foldl_pair _ _ _ ?_))
    | with_reducible apply Keeps.ite_snd
    | with_reducible apply Keeps.ite
    | intro _
    | dsimp only
    | split

theorem State.runPredict_keeps (s : State) (n : Nat) (it : Item) : Keeps s (State.runPredict s n it) := by
  unfold State.runPredict
  repeat' first
    | with_reducible exact Keeps.refl _
    | (with_reducible apply Keeps.trans ?_ (State.meet_keeps ..))
    | (with_reducible apply Keeps.trans ?_ (State.sWrite_keeps ..))
    | (with_reducible apply Keeps.trans ?_ (State.source_keeps ..))
    | (with_reducible apply Keeps.trans ?_ (State.streamCount_keeps ..))
    | dsimp only
    | split

theorem State.saveBands_keeps (s : State) (n c : Nat) (d e k : Nat) (rows : List (List Nat)) (used : Nat) (a8 : List Nat) : Keeps s (State.saveBands s n c d e k rows used a8).2 := by
  induction a8 generalizing s used with
  | nil => exact Keeps.refl _
  | cons t ts ih =>
    unfold State.saveBands
    dsimp only
    refine Keeps.trans ?_ (ih _ _)
    refine Keeps.trans ?_ (State.sWrite_keeps ..)
    split
    · exact Keeps.refl _
    · exact State.sWrite_keeps ..

theorem State.runSave_keeps (s : State) (n : Nat) (it : Item) : Keeps s (State.runSave s n it) := by
  unfold State.runSave
  repeat' first
    | with_reducible exact Keeps.refl _
    | (with_reducible apply Keeps.trans ?_ (State.bump_keeps ..))
    | (with_reducible apply Keeps.trans ?_ (State.encode_keeps ..))
    | (with_reducible apply Keeps.trans ?_ (State.meet_keeps ..))
    | (with_reducible apply Keeps.trans ?_ (State.saveBands_keeps ..))
    | (with_reducible apply Keeps.trans ?_ (State.source_keeps ..))
    | (with_reducible apply Keeps.trans ?_ (State.streamCount_keeps ..))
    | (with_reducible apply Keeps.trans ?_ (State.writeRows_keeps ..))
    | (with_reducible apply Keeps.trans ?_ (State.writeSize_keeps ..))
    | dsimp only
    | split

theorem State.readBack_keeps (s : State) (n c : Nat) (d e t : Nat) : Keeps s (State.readBack s n c d e t).2 := by
  unfold State.readBack
  repeat' first
    | with_reducible exact Keeps.refl _
    | (with_reducible apply Keeps.trans ?_ (State.sRead_keeps ..))
    | dsimp only
    | split

theorem State.restoreBand_keeps (s : State) (n : Nat) (it : Item) (spoiled : Bool) (sm sk t : Nat) : Keeps s (State.restoreBand s n it spoiled sm sk t) := by
  unfold State.restoreBand
  repeat' first
    | with_reducible exact Keeps.refl _
    | (with_reducible apply Keeps.trans ?_ (State.bump_keeps ..))
    | (with_reducible apply Keeps.trans ?_ (State.log!_keeps ..))
    | (with_reducible apply Keeps.trans ?_ (State.markBytes_keeps ..))
    | (with_reducible apply Keeps.trans ?_ (State.meet_keeps ..))
    | (with_reducible apply Keeps.trans ?_ (State.readBack_keeps ..))
    | (with_reducible apply Keeps.trans ?_ (State.sWrite_keeps ..))
    | (with_reducible apply Keeps.trans ?_ (Keeps.foldl _ _ _ ?_))
    | intro _
    | split

theorem State.runRestore_keeps (s : State) (n : Nat) (it : Item) : Keeps s (State.runRestore s n it) := by
  unfold State.runRestore
  repeat' first
    | with_reducible exact Keeps.refl _
    | (with_reducible apply Keeps.trans ?_ (State.meet_keeps ..))
    | (with_reducible apply Keeps.trans ?_ (State.restoreBand_keeps ..))
    | (with_reducible apply Keeps.trans ?_ (State.streamCount_keeps ..))
    | (with_reducible apply Keeps.trans ?_ (Keeps.foldl _ _ _ ?_))
    | intro _
    | dsimp only
    | split

theorem State.recordDiffers_keeps (s : State) (c d : Nat) : Keeps s (State.recordDiffers s c d).2 := by
  unfold State.recordDiffers
  repeat' first
    | with_reducible exact Keeps.refl _
    | (with_reducible apply Keeps.trans ?_ (Keeps.of_pair (State.readRecord_keeps ..) ?_); rotate_right; (with_reducible assumption))
    | split

theorem State.writtenSoFar_keeps (s : State) (done : State) (n : Nat) (it : Item) (l : List (Nat × Nat)) : Keeps s (State.writtenSoFar s done n it l) := by
  unfold State.writtenSoFar
  repeat' first
    | with_reducible exact Keeps.refl _
    | (with_reducible apply Keeps.trans ?_ (State.ctxRead_keeps ..))
    | (with_reducible apply Keeps.trans ?_ (State.markBytes_keeps ..))
    | (with_reducible apply Keeps.trans ?_ (State.sWrite_keeps ..))
    | (with_reducible apply Keeps.trans ?_ (Keeps.foldl _ _ _ ?_))
    | (with_reducible apply Keeps.trans ?_ (Keeps.foldl_pair _ _ _ ?_))
    | intro _
    | dsimp only
    | split

theorem State.stream_keeps (s : State) (n : Nat) (part : Option (List (Nat × Nat))) (op : Nat) (run : State → Nat → Item → State) (h4 : ∀ b0 b1 b2, Keeps b0 (run b0 b1 b2)) : Keeps s (State.stream s n part op run) := by
  unfold State.stream
  repeat' first
    | with_reducible exact Keeps.refl _
    | (with_reducible apply Keeps.trans ?_ (State.finish_keeps ..))
    | (with_reducible apply Keeps.trans ?_ (State.recordDiffers_keeps ..))
    | (with_reducible apply Keeps.trans ?_ (Keeps.of_pair (State.recordDiffers_keeps ..) ?_); rotate_right; (with_reducible assumption))
    | (with_reducible apply Keeps.trans ?_ (State.refuseStream_keeps ..))
    | (with_reducible apply Keeps.trans ?_ (State.withItem_keeps (h3 := ?_) ..))
    | (with_reducible apply Keeps.trans ?_ (State.writtenSoFar_keeps ..))
    | (with_reducible apply Keeps.trans ?_ (h4 ..))
    | with_reducible apply Keeps.ite_snd
    | with_reducible apply Keeps.ite
    | intro _
    | dsimp only
    | split

theorem execCopy_keeps (run : StreamRun) (s : State) : KeepsRes s (execCopy run s) := by
  unfold execCopy
  repeat' first
    | with_reducible exact Keeps.refl _
    | (with_reducible apply Keeps.trans ?_ (State.runCopy_keeps ..))
    | (with_reducible apply Keeps.trans ?_ (State.stream_keeps (h4 := ?_) ..))
    | with_reducible apply KeepsRes.next
    | with_reducible exact KeepsRes.fault _ _
    | with_reducible exact KeepsRes.refused _ _
    | intro _
    | dsimp only
    | split

theorem execStoreSparse_keeps (run : StreamRun) (s : State) : KeepsRes s (execStoreSparse run s) := by
  unfold execStoreSparse
  repeat' first
    | with_reducible exact Keeps.refl _
    | (with_reducible apply Keeps.trans ?_ (State.runStore_keeps ..))
    | (with_reducible apply Keeps.trans ?_ (State.stream_keeps (h4 := ?_) ..))
    | with_reducible apply KeepsRes.next
    | with_reducible exact KeepsRes.fault _ _
    | with_reducible exact KeepsRes.refused _ _
    | intro _
    | dsimp only
    | split

theorem execPredictMask_keeps (run : StreamRun) (s : State) : KeepsRes s (execPredictMask run s) := by
  unfold execPredictMask
  repeat' first
    | with_reducible exact Keeps.refl _
    | (with_reducible apply Keeps.trans ?_ (State.runPredict_keeps ..))
    | (with_reducible apply Keeps.trans ?_ (State.stream_keeps (h4 := ?_) ..))
    | with_reducible apply KeepsRes.next
    | with_reducible exact KeepsRes.fault _ _
    | with_reducible exact KeepsRes.refused _ _
    | intro _
    | dsimp only
    | split

theorem execActSave_keeps (run : StreamRun) (s : State) : KeepsRes s (execActSave run s) := by
  unfold execActSave
  repeat' first
    | with_reducible exact Keeps.refl _
    | (with_reducible apply Keeps.trans ?_ (State.runSave_keeps ..))
    | (with_reducible apply Keeps.trans ?_ (State.stream_keeps (h4 := ?_) ..))
    | with_reducible apply KeepsRes.next
    | with_reducible exact KeepsRes.fault _ _
    | with_reducible exact KeepsRes.refused _ _
    | intro _
    | dsimp only
    | split

theorem execActRestore_keeps (run : StreamRun) (s : State) : KeepsRes s (execActRestore run s) := by
  unfold execActRestore
  repeat' first
    | with_reducible exact Keeps.refl _
    | (with_reducible apply Keeps.trans ?_ (State.runRestore_keeps ..))
    | (with_reducible apply Keeps.trans ?_ (State.stream_keeps (h4 := ?_) ..))
    | with_reducible apply KeepsRes.next
    | with_reducible exact KeepsRes.fault _ _
    | with_reducible exact KeepsRes.refused _ _
    | intro _
    | dsimp only
    | split

theorem execFill_keeps (run : StreamRun) (s : State) : KeepsRes s (execFill run s) := by
  unfold execFill
  repeat' first
    | with_reducible exact Keeps.refl _
    | (with_reducible apply Keeps.trans ?_ (State.runFill_keeps ..))
    | (with_reducible apply Keeps.trans ?_ (State.stream_keeps (h4 := ?_) ..))
    | with_reducible apply KeepsRes.next
    | with_reducible exact KeepsRes.fault _ _
    | with_reducible exact KeepsRes.refused _ _
    | intro _
    | dsimp only
    | split

theorem execGather_keeps (run : StreamRun) (s : State) : KeepsRes s (execGather run s) := by
  unfold execGather
  repeat' first
    | with_reducible exact Keeps.refl _
    | (with_reducible apply Keeps.trans ?_ (State.runGather_keeps ..))
    | (with_reducible apply Keeps.trans ?_ (State.stream_keeps (h4 := ?_) ..))
    | with_reducible apply KeepsRes.next
    | with_reducible exact KeepsRes.fault _ _
    | with_reducible exact KeepsRes.refused _ _
    | intro _
    | dsimp only
    | split

/-! ### Router -/

theorem State.rRead_keeps (s : State) (n c : Nat) (o len : Nat) : Keeps s (State.rRead s n c o len).2 := by
  unfold State.rRead
  repeat' first
    | with_reducible exact Keeps.refl _
    | (with_reducible apply Keeps.trans ?_ (State.ctxRead_keeps ..))
    | (with_reducible apply Keeps.trans ?_ (State.meet_keeps ..))
    | dsimp only
    | split

theorem State.ringRead_keeps (s : State) (n : Nat) (c : Nat) (o : Nat) (len : Nat) : Keeps s (State.ringRead s n c o len).2 := by
  unfold State.ringRead
  repeat' first
    | with_reducible exact Keeps.refl _
    | (with_reducible apply Keeps.trans ?_ (State.bufferRead_keeps ..))
    | (with_reducible apply Keeps.trans ?_ (Keeps.of_pair (State.bufferRead_keeps ..) ?_); rotate_right; (with_reducible assumption))
    | (with_reducible apply Keeps.trans ?_ (State.meet_keeps ..))
    | (with_reducible apply Keeps.trans ?_ (State.rRead_keeps ..))
    | (with_reducible apply Keeps.trans ?_ (Keeps.of_pair (State.rRead_keeps ..) ?_); rotate_right; (with_reducible assumption))
    | dsimp only
    | split

theorem State.rNum_keeps (s : State) (n c : Nat) (o len : Nat) : Keeps s (State.rNum s n c o len).2 := by
  unfold State.rNum
  repeat' first
    | with_reducible exact Keeps.refl _
    | (with_reducible apply Keeps.trans ?_ (State.rRead_keeps ..))

theorem State.readPayload_keeps (s : State) (n c : Nat) (fmt block : Nat) (hidden data scale : Nat) : Keeps s (State.readPayload s n c fmt block hidden data scale).2 := by
  unfold State.readPayload
  repeat' first
    | with_reducible exact Keeps.refl _
    | (with_reducible apply Keeps.trans ?_ (State.rRead_keeps ..))

theorem State.countList_keeps (s : State) (n c : Nat) (o a4 : Nat) : Keeps s (State.countList s n c o a4).2 := by
  fun_induction State.countList s n c o a4 <;> try dsimp only
  all_goals
    repeat' first
      | with_reducible exact Keeps.refl _
      | (with_reducible apply Keeps.trans ?_ (Keeps.of_pair (State.rNum_keeps ..) ?_); rotate_right; (with_reducible assumption))
      | (with_reducible apply Keeps.trans ?_ ?_; rotate_right; (with_reducible assumption))

theorem State.writeCounts_keeps (s : State) (n c : Nat) (o v : Nat) : Keeps s (State.writeCounts s n c o v) := by
  unfold State.writeCounts
  repeat' first
    | with_reducible exact Keeps.refl _
    | (with_reducible apply Keeps.trans ?_ (State.countList_keeps ..))
    | (with_reducible apply Keeps.trans ?_ (State.sWrite_keeps ..))
    | (with_reducible apply Keeps.trans ?_ (Keeps.foldl _ _ _ ?_))
    | intro _

theorem State.hostTable_keeps (s : State) (n c d : Nat) (a4 : List Nat) : Keeps s (State.hostTable s n c d a4).2 := by
  fun_induction State.hostTable s n c d a4 <;> try dsimp only
  all_goals
    repeat' first
      | with_reducible exact Keeps.refl _
      | (with_reducible apply Keeps.trans ?_ (Keeps.of_pair (State.rNum_keeps ..) ?_); rotate_right; (with_reducible assumption))
      | (with_reducible apply Keeps.trans ?_ ?_; rotate_right; (with_reducible assumption))

theorem State.consumingDescs_keeps (s : State) (c : Nat) (w : Nat) (op : Nat) : Keeps s (State.consumingDescs s c w op).2 := by
  unfold State.consumingDescs
  repeat' first
    | with_reducible exact Keeps.refl _
    | (with_reducible apply Keeps.trans ?_ (State.windowDescs_keeps ..))
    | (with_reducible apply Keeps.trans ?_ (Keeps.of_pair (State.windowDescs_keeps ..) ?_); rotate_right; (with_reducible assumption))
    | intro _
    | dsimp only
    | split

theorem State.engineRelease_keeps (s : State) (c : Nat) (h : Nat) : Keeps s (State.engineRelease s c h) := by
  unfold State.engineRelease
  all_goals try with_reducible apply Keeps.trans ?_ (Keeps.lit _)
  all_goals repeat' first
    | with_reducible exact Keeps.refl _
    | with_reducible exact Keeps.lit _
    | (with_reducible apply Keeps.trans ?_ (State.bufEntry_keeps ..))
    | (with_reducible apply Keeps.trans ?_ (Keeps.of_pair (State.bufEntry_keeps ..) ?_); rotate_right; (with_reducible assumption))
    | (with_reducible apply Keeps.trans ?_ (State.freeBuffer_keeps ..))
    | (with_reducible apply Keeps.trans ?_ (State.setPool_keeps ..))
    | (with_reducible apply Keeps.trans ?_ (State.withhold_keeps ..))
    | dsimp only
    | split
  all_goals try with_reducible apply Keeps.trans ?_ (Keeps.lit _)
  all_goals repeat' first
    | with_reducible exact Keeps.refl _
    | with_reducible exact Keeps.lit _
    | (with_reducible apply Keeps.trans ?_ (State.bufEntry_keeps ..))
    | (with_reducible apply Keeps.trans ?_ (Keeps.of_pair (State.bufEntry_keeps ..) ?_); rotate_right; (with_reducible assumption))
    | (with_reducible apply Keeps.trans ?_ (State.freeBuffer_keeps ..))
    | (with_reducible apply Keeps.trans ?_ (State.setPool_keeps ..))
    | (with_reducible apply Keeps.trans ?_ (State.withhold_keeps ..))
    | dsimp only
    | split

theorem State.setRouter_keeps (s : State) (r : Router) : Keeps s (State.setRouter s r) := by
  unfold State.setRouter
  all_goals try with_reducible apply Keeps.trans ?_ (Keeps.lit _)
  all_goals repeat' first
    | with_reducible exact Keeps.refl _

theorem State.releaseBufs_keeps (s : State) (p : RetBuf → Bool) : Keeps s (State.releaseBufs s p) := by
  unfold State.releaseBufs
  repeat' first
    | with_reducible exact Keeps.refl _
    | (with_reducible apply Keeps.trans ?_ (State.engineRelease_keeps ..))
    | (with_reducible apply Keeps.trans ?_ (State.setRouter_keeps ..))
    | (with_reducible apply Keeps.trans ?_ (Keeps.foldl _ _ _ ?_))
    | intro _

theorem State.releaseRings_keeps (s : State) (p : SubRing → Bool) : Keeps s (State.releaseRings s p) := by
  unfold State.releaseRings
  repeat' first
    | with_reducible exact Keeps.refl _
    | (with_reducible apply Keeps.trans ?_ (State.engineRelease_keeps ..))
    | (with_reducible apply Keeps.trans ?_ (State.setRouter_keeps ..))
    | (with_reducible apply Keeps.trans ?_ (Keeps.foldl _ _ _ ?_))
    | intro _

theorem State.routerDropped_keeps (s : State) (c step : Nat) (w source : Nat) : Keeps s (State.routerDropped s c step w source) := by
  unfold State.routerDropped
  repeat' first
    | with_reducible exact Keeps.refl _
    | (with_reducible apply Keeps.trans ?_ (State.releaseRings_keeps ..))

theorem State.takeBufs_keeps (s : State) (c layer : Nat) (micro p : Nat) (a5 : List Nat) : Keeps s (State.takeBufs s c layer micro p a5).2 := by
  fun_induction State.takeBufs s c layer micro p a5 <;> try dsimp only
  all_goals
    repeat' first
      | with_reducible exact Keeps.refl _
      | (with_reducible apply Keeps.trans ?_ (Keeps.of_pair (State.engineAcquire_keeps ..) ?_); rotate_right; (with_reducible assumption))
      | (with_reducible apply Keeps.trans ?_ (State.releaseBufs_keeps ..))
      | (with_reducible apply Keeps.trans ?_ (State.setRouter_keeps ..))
      | (with_reducible apply Keeps.trans ?_ ?_; rotate_right; (with_reducible assumption))

theorem State.acquireBufs_keeps (s : State) (c d : Nat) (tokens : List Nat) : Keeps s (State.acquireBufs s c d tokens).2 := by
  unfold State.acquireBufs
  repeat' first
    | with_reducible exact Keeps.refl _
    | (with_reducible apply Keeps.trans ?_ (State.takeBufs_keeps ..))
    | split

theorem State.refuseRouter_keeps (s : State) (n c code : Nat) : Keeps s (State.refuseRouter s n c code) := by
  unfold State.refuseRouter
  repeat' first
    | with_reducible exact Keeps.refl _
    | (with_reducible apply Keeps.trans ?_ (State.bump_keeps ..))
    | (with_reducible apply Keeps.trans ?_ (State.refuse_keeps ..))

theorem State.placements_keeps (s : State) (n : Nat) (it : Item) (a3 : List Nat) : Keeps s (State.placements s n it a3).2 := by
  fun_induction State.placements s n it a3 <;> try dsimp only
  all_goals
    repeat' first
      | with_reducible exact Keeps.refl _
      | (with_reducible apply Keeps.trans ?_ (Keeps.of_pair (State.rNum_keeps ..) ?_); rotate_right; (with_reducible assumption))
      | (with_reducible apply Keeps.trans ?_ ?_; rotate_right; (with_reducible assumption))

theorem State.stageRecords_keeps (s : State) (n : Nat) (it : Item) (w : Nat) (recs : List (Nat × Bytes)) (after : List (Nat × Bytes)) : Keeps s (State.stageRecords s n it w recs after) := by
  unfold State.stageRecords
  repeat' first
    | with_reducible exact Keeps.refl _
    | (with_reducible apply Keeps.trans ?_ (State.stage_keeps ..))
    | dsimp only
    | split

theorem State.stageCloses_keeps (s : State) (it : Item) (w : Nat) : Keeps s (State.stageCloses s it w) := by
  unfold State.stageCloses
  repeat' first
    | with_reducible exact Keeps.refl _
    | (with_reducible apply Keeps.trans ?_ (State.stage_keeps ..))
    | dsimp only
    | split

theorem State.routerOp_keeps (s : State) (n op : Nat) (run : State → Nat → Item → Nat → List Placement → State) (h3 : ∀ (x0 : State) (x1 : Nat) (x2 : Item) (x3 : Nat) (x4 : List Placement), Keeps x0 (run x0 x1 x2 x3 x4)) : Keeps s (State.routerOp s n op run) := by
  unfold State.routerOp
  repeat' first
    | with_reducible exact Keeps.refl _
    | (with_reducible apply Keeps.trans ?_ (h3 ..))
    | (with_reducible apply Keeps.trans ?_ (State.finishWith_keeps ..))
    | (with_reducible apply Keeps.trans ?_ (State.placements_keeps ..))
    | (with_reducible apply Keeps.trans ?_ (State.refuseRouter_keeps ..))
    | (with_reducible apply Keeps.trans ?_ (State.stageCloses_keeps ..))
    | (with_reducible apply Keeps.trans ?_ (State.withItem_keeps (h3 := ?_) ..))
    | intro _
    | dsimp only
    | split

theorem State.countDrains_keeps (s : State) (c : Nat) : Keeps s (State.countDrains s c) := by
  unfold State.countDrains
  repeat' first
    | with_reducible exact Keeps.refl _
    | (with_reducible apply Keeps.trans ?_ (State.setReg_keeps ..))
    | (with_reducible apply Keeps.trans ?_ (Keeps.foldl _ _ _ ?_))
    | (with_reducible apply Keeps.trans ?_ (Keeps.foldl_pair _ _ _ ?_))
    | intro _
    | dsimp only
    | split

theorem State.scanSwitches_keeps (s : State) (c : Nat) (pl : List Placement) : Keeps s (State.scanSwitches s c pl) := by
  unfold State.scanSwitches
  repeat' first
    | with_reducible exact Keeps.refl _
    | (with_reducible apply Keeps.trans ?_ (State.countDrains_keeps ..))
    | (with_reducible apply Keeps.trans ?_ (State.setRouter_keeps ..))

theorem State.drained_keeps (s : State) (c : Nat) (expert : Nat) (source : Nat) (epoch : Nat) : Keeps s (State.drained s c expert source epoch) := by
  unfold State.drained
  all_goals try with_reducible apply Keeps.trans ?_ (Keeps.lit _)
  all_goals repeat' first
    | with_reducible exact Keeps.refl _
    | with_reducible exact Keeps.lit _
    | (with_reducible apply Keeps.trans ?_ (State.countDrains_keeps ..))
    | (with_reducible apply Keeps.trans ?_ (State.setRouter_keeps ..))
    | with_reducible apply Keeps.ite_snd
    | with_reducible apply Keeps.ite
    | intro _
    | dsimp only
    | split
  all_goals try with_reducible apply Keeps.trans ?_ (Keeps.lit _)
  all_goals repeat' first
    | with_reducible exact Keeps.refl _
    | with_reducible exact Keeps.lit _
    | (with_reducible apply Keeps.trans ?_ (State.countDrains_keeps ..))
    | (with_reducible apply Keeps.trans ?_ (State.setRouter_keeps ..))
    | with_reducible apply Keeps.ite_snd
    | with_reducible apply Keeps.ite
    | intro _
    | dsimp only
    | split

theorem State.markExpert_keeps (s : State) (c gid : Nat) : Keeps s (State.markExpert s c gid) := by
  unfold State.markExpert
  repeat' first
    | with_reducible exact Keeps.refl _
    | (with_reducible apply Keeps.trans ?_ (State.setPlan_keeps ..))

theorem State.markLost_keeps (s : State) (it : Item) (beatOff : Nat) (a3 : List Placement) : Keeps s (State.markLost s it beatOff a3).2 := by
  fun_induction State.markLost s it beatOff a3 <;> try dsimp only
  all_goals
    repeat' first
      | with_reducible exact Keeps.refl _
      | with_reducible assumption
      | (with_reducible apply Keeps.trans ?_ (State.bump_keeps ..))
      | (with_reducible apply Keeps.trans ?_ (State.ledgerPut_keeps ..))
      | (with_reducible apply Keeps.trans ?_ (State.markExpert_keeps ..))
      | (with_reducible apply Keeps.trans ?_ ?_; rotate_right; (with_reducible assumption))

theorem State.routeMarks_keeps (s : State) (it : Item) (pl : List Placement) : Keeps s (State.routeMarks s it pl).2 := by
  unfold State.routeMarks
  repeat' first
    | with_reducible exact Keeps.refl _
    | (with_reducible apply Keeps.trans ?_ (State.markExpert_keeps ..))
    | (with_reducible apply Keeps.trans ?_ (State.markLost_keeps ..))
    | (with_reducible apply Keeps.foldl _ _ _ ?_)
    | intro _
    | dsimp only
    | split

theorem State.gateOf_keeps (s : State) (n : Nat) (it : Item) (pl : List Placement) (t : Nat) : Keeps s (State.gateOf s n it pl t).2 := by
  unfold State.gateOf
  repeat' first
    | with_reducible exact Keeps.refl _
    | (with_reducible apply Keeps.trans ?_ (State.rNum_keeps ..))
    | (with_reducible apply Keeps.trans ?_ (State.rRead_keeps ..))
    | dsimp only
    | split

theorem State.gates_keeps (s : State) (n : Nat) (it : Item) (pl : List Placement) (a4 : List Nat) : Keeps s (State.gates s n it pl a4).2 := by
  fun_induction State.gates s n it pl a4 <;> try dsimp only
  all_goals
    repeat' first
      | with_reducible exact Keeps.refl _
      | (with_reducible apply Keeps.trans ?_ (Keeps.of_pair (State.gateOf_keeps ..) ?_); rotate_right; (with_reducible assumption))
      | (with_reducible apply Keeps.trans ?_ ?_; rotate_right; (with_reducible assumption))

theorem State.tokenRecords_keeps (s : State) (n : Nat) (it : Item) (tag : Nat) (pl : List Placement) (b : Board) (x : Nat × Gate) : Keeps s (State.tokenRecords s n it tag pl b x).2 := by
  unfold State.tokenRecords
  repeat' first
    | with_reducible exact Keeps.refl _
    | (with_reducible apply Keeps.trans ?_ (State.readPayload_keeps ..))
    | dsimp only
    | split

theorem State.allRecords_keeps (s : State) (n : Nat) (it : Item) (tag : Nat) (pl : List Placement) (b : Board) (a6 : List (Nat × Gate)) : Keeps s (State.allRecords s n it tag pl b a6).2 := by
  fun_induction State.allRecords s n it tag pl b a6 <;> try dsimp only
  all_goals
    repeat' first
      | with_reducible exact Keeps.refl _
      | (with_reducible apply Keeps.trans ?_ (Keeps.of_pair (State.tokenRecords_keeps ..) ?_); rotate_right; (with_reducible assumption))
      | (with_reducible apply Keeps.trans ?_ ?_; rotate_right; (with_reducible assumption))

theorem State.writeTable_keeps (s : State) (n : Nat) (it : Item) (pl : List Placement) (b : Board) (gs : List (Nat × Gate)) : Keeps s (State.writeTable s n it pl b gs) := by
  unfold State.writeTable
  repeat' first
    | with_reducible exact Keeps.refl _
    | (with_reducible apply Keeps.trans ?_ (State.sWrite_keeps ..))
    | (with_reducible apply Keeps.foldl _ _ _ ?_)
    | intro _

theorem State.countRoute_keeps (s : State) (c : Nat) (b : Board) (gs : List (Nat × Gate)) : Keeps s (State.countRoute s c b gs) := by
  unfold State.countRoute
  repeat' first
    | with_reducible exact Keeps.refl _
    | (with_reducible apply Keeps.trans ?_ (State.bump_keeps ..))

theorem State.failWaiting_keeps (s : State) (n : Nat) (it : Item) : Keeps s (State.failWaiting s n it) := by
  unfold State.failWaiting
  repeat' first
    | with_reducible exact Keeps.refl _
    | (with_reducible apply Keeps.trans ?_ (State.finishWith_keeps ..))
    | (with_reducible apply Keeps.trans ?_ (Keeps.foldl _ _ _ ?_))
    | (with_reducible apply Keeps.trans ?_ (Keeps.foldl_pair _ _ _ ?_))
    | intro _
    | dsimp only
    | split

theorem State.runRoute_keeps (s : State) (n : Nat) (it : Item) (w : Nat) (pl : List Placement) : Keeps s (State.runRoute s n it w pl) := by
  unfold State.runRoute
  repeat' first
    | with_reducible exact Keeps.refl _
    | (with_reducible apply Keeps.trans ?_ (State.acquireBufs_keeps ..))
    | (with_reducible apply Keeps.trans ?_ (Keeps.of_pair (State.acquireBufs_keeps ..) ?_); rotate_right; (with_reducible assumption))
    | (with_reducible apply Keeps.trans ?_ (State.allRecords_keeps ..))
    | (with_reducible apply Keeps.trans ?_ (Keeps.of_pair (State.allRecords_keeps ..) ?_); rotate_right; (with_reducible assumption))
    | (with_reducible apply Keeps.trans ?_ (State.countRoute_keeps ..))
    | (with_reducible apply Keeps.trans ?_ (State.failWaiting_keeps ..))
    | (with_reducible apply Keeps.trans ?_ (State.gates_keeps ..))
    | (with_reducible apply Keeps.trans ?_ (Keeps.of_pair (State.gates_keeps ..) ?_); rotate_right; (with_reducible assumption))
    | (with_reducible apply Keeps.trans ?_ (State.haltPlan_keeps ..))
    | (with_reducible apply Keeps.trans ?_ (State.meet_keeps ..))
    | (with_reducible apply Keeps.trans ?_ (State.routeMarks_keeps ..))
    | (with_reducible apply Keeps.trans ?_ (Keeps.of_pair (State.routeMarks_keeps ..) ?_); rotate_right; (with_reducible assumption))
    | (with_reducible apply Keeps.trans ?_ (State.sWrite_keeps ..))
    | (with_reducible apply Keeps.trans ?_ (State.scanSwitches_keeps ..))
    | (with_reducible apply Keeps.trans ?_ (State.stageRecords_keeps ..))
    | (with_reducible apply Keeps.trans ?_ (State.writeTable_keeps ..))
    | intro _
    | dsimp only
    | split

theorem execRoute_keeps (item : Nat) (s : State) : KeepsRes s (execRoute item s) := by
  unfold execRoute
  repeat' first
    | with_reducible exact Keeps.refl _
    | (with_reducible apply Keeps.trans ?_ (State.routerOp_keeps (h3 := ?_) ..))
    | (with_reducible apply Keeps.trans ?_ (State.runRoute_keeps ..))
    | with_reducible apply KeepsRes.next
    | intro _

theorem State.setRing_keeps (s : State) (b : SubRing) : Keeps s (State.setRing s b) := by
  unfold State.setRing
  repeat' first
    | with_reducible exact Keeps.refl _
    | (with_reducible apply Keeps.trans ?_ (State.setRouter_keeps ..))

theorem State.damage_keeps (s : State) (o : ObjDef) (c step : Nat) (w loc source : Nat) : Keeps s (State.damage s o c step w loc source) := by
  unfold State.damage
  repeat' first
    | with_reducible exact Keeps.refl _
    | (with_reducible apply Keeps.trans ?_ (State.bump_keeps ..))
    | (with_reducible apply Keeps.trans ?_ (State.setRing_keeps ..))

theorem State.stray_keeps (s : State) (c step : Nat) (w source : Nat) : Keeps s (State.stray s c step w source) := by
  unfold State.stray
  repeat' first
    | with_reducible exact Keeps.refl _
    | (with_reducible apply Keeps.trans ?_ (State.bump_keeps ..))
    | (with_reducible apply Keeps.trans ?_ (State.setRouter_keeps ..))

theorem State.hostEntries_keeps (s : State) (c w op : Nat) : Keeps s (State.hostEntries s c w op).2 := by
  unfold State.hostEntries
  repeat' first
    | with_reducible exact Keeps.refl _
    | (with_reducible apply Keeps.trans ?_ (State.consumingDescs_keeps ..))
    | (with_reducible apply Keeps.trans ?_ (State.hostTable_keeps ..))
    | (with_reducible apply Keeps.trans ?_ (Keeps.foldl_pair _ _ _ ?_))
    | intro _

theorem State.placeRecord_keeps (s : State) (c : Nat) (e : HostEntry) (r : SubRing) (h : TokenHeader) (b : Bytes) : Keeps s (State.placeRecord s c e r h b) := by
  unfold State.placeRecord
  all_goals try with_reducible apply Keeps.trans ?_ (Keeps.lit _)
  all_goals repeat' first
    | with_reducible exact Keeps.refl _
    | with_reducible exact Keeps.lit _
    | (with_reducible apply Keeps.trans ?_ (State.bufferWrite_keeps ..))
    | (with_reducible apply Keeps.trans ?_ (State.engineAcquire_keeps ..))
    | (with_reducible apply Keeps.trans ?_ (Keeps.of_pair (State.engineAcquire_keeps ..) ?_); rotate_right; (with_reducible assumption))
    | (with_reducible apply Keeps.trans ?_ (State.setRing_keeps ..))
    | intro _
    | dsimp only
    | split
  all_goals try with_reducible apply Keeps.trans ?_ (Keeps.lit _)
  all_goals repeat' first
    | with_reducible exact Keeps.refl _
    | with_reducible exact Keeps.lit _
    | (with_reducible apply Keeps.trans ?_ (State.bufferWrite_keeps ..))
    | (with_reducible apply Keeps.trans ?_ (State.engineAcquire_keeps ..))
    | (with_reducible apply Keeps.trans ?_ (Keeps.of_pair (State.engineAcquire_keeps ..) ?_); rotate_right; (with_reducible assumption))
    | (with_reducible apply Keeps.trans ?_ (State.setRing_keeps ..))
    | intro _
    | dsimp only
    | split

theorem State.dispatchArrive_keeps (s : State) (c w : Nat) (back : Bool) (a4 : TokenHeader) (b : Bytes) : Keeps s (State.dispatchArrive s c w back a4 b) := by
  unfold State.dispatchArrive
  repeat' first
    | with_reducible exact Keeps.refl _
    | (with_reducible apply Keeps.trans ?_ (State.damage_keeps ..))
    | (with_reducible apply Keeps.trans ?_ (State.hostEntries_keeps ..))
    | (with_reducible apply Keeps.trans ?_ (State.placeRecord_keeps ..))
    | (with_reducible apply Keeps.trans ?_ (State.stray_keeps ..))
    | dsimp only
    | split

theorem State.routerArrive_keeps (s : State) (node : Nat) (vc : Nat) (kind : TokenHeader → Bool) (take : State → Nat → Nat → TokenHeader → Bytes → State) (h4 : ∀ b0 b1 b2 b3 b4, Keeps b0 (take b0 b1 b2 b3 b4)) : Keeps s (State.routerArrive s node vc kind take) := by
  unfold State.routerArrive
  repeat' first
    | with_reducible exact Keeps.refl _
    | (with_reducible apply Keeps.trans ?_ (State.bump_keeps ..))
    | (with_reducible apply Keeps.trans ?_ (State.contribRecord_keeps ..))
    | (with_reducible apply Keeps.trans ?_ (Keeps.of_pair (State.contribRecord_keeps ..) ?_); rotate_right; (with_reducible assumption))
    | (with_reducible apply Keeps.trans ?_ (State.countLateRecord_keeps ..))
    | (with_reducible apply Keeps.trans ?_ (State.source_keeps ..))
    | (with_reducible apply Keeps.trans ?_ (Keeps.of_pair (State.source_keeps ..) ?_); rotate_right; (with_reducible assumption))
    | (with_reducible apply Keeps.trans ?_ (State.takeInbox_keeps _ _ _ _ _ _ ?_); rotate_right; (with_reducible assumption))
    | (with_reducible apply Keeps.trans ?_ (h4 ..))
    | with_reducible apply Keeps.ite_snd
    | with_reducible apply Keeps.ite
    | intro _
    | dsimp only
    | split

theorem execDispatchRecordArrive_keeps (node vc : Nat) (s : State) : KeepsRes s (execDispatchRecordArrive node vc s) := by
  unfold execDispatchRecordArrive
  repeat' first
    | with_reducible exact Keeps.refl _
    | (with_reducible apply Keeps.trans ?_ (State.dispatchArrive_keeps ..))
    | (with_reducible apply Keeps.trans ?_ (State.routerArrive_keeps (h4 := ?_) ..))
    | with_reducible apply KeepsRes.next
    | intro _

theorem execBwdDispatchRecordArrive_keeps (node vc : Nat) (s : State) : KeepsRes s (execBwdDispatchRecordArrive node vc s) := by
  unfold execBwdDispatchRecordArrive
  repeat' first
    | with_reducible exact Keeps.refl _
    | (with_reducible apply Keeps.trans ?_ (State.dispatchArrive_keeps ..))
    | (with_reducible apply Keeps.trans ?_ (State.routerArrive_keeps (h4 := ?_) ..))
    | with_reducible apply KeepsRes.next
    | intro _

theorem execDrainCompleteReceive_keeps (node vc : Nat) (s : State) : KeepsRes s (execDrainCompleteReceive node vc s) := by
  unfold execDrainCompleteReceive
  repeat' first
    | with_reducible exact Keeps.refl _
    | (with_reducible apply Keeps.trans ?_ (State.drained_keeps ..))
    | (with_reducible apply Keeps.trans ?_ (State.takeInbox_keeps _ _ _ _ _ _ ?_); rotate_right; (with_reducible assumption))
    | with_reducible apply KeepsRes.next
    | dsimp only
    | split

theorem State.staleReturn_keeps (s : State) (c : Nat) : Keeps s (State.staleReturn s c) := by
  unfold State.staleReturn
  repeat' first
    | with_reducible exact Keeps.refl _
    | (with_reducible apply Keeps.trans ?_ (State.bump_keeps ..))

theorem State.returnArrive_keeps (s : State) (c w : Nat) (back : Bool) (a4 : TokenHeader) (b : Bytes) : Keeps s (State.returnArrive s c w back a4 b) := by
  unfold State.returnArrive
  repeat' first
    | with_reducible exact Keeps.refl _
    | (with_reducible apply Keeps.trans ?_ (State.consumingDescs_keeps ..))
    | (with_reducible apply Keeps.trans ?_ (State.ctxRead_keeps ..))
    | (with_reducible apply Keeps.trans ?_ (State.ctxWrite_keeps ..))
    | (with_reducible apply Keeps.trans ?_ (State.staleReturn_keeps ..))
    | dsimp only
    | split

theorem execReturnRecordArrive_keeps (node vc : Nat) (s : State) : KeepsRes s (execReturnRecordArrive node vc s) := by
  unfold execReturnRecordArrive
  repeat' first
    | with_reducible exact Keeps.refl _
    | (with_reducible apply Keeps.trans ?_ (State.returnArrive_keeps ..))
    | (with_reducible apply Keeps.trans ?_ (State.routerArrive_keeps (h4 := ?_) ..))
    | with_reducible apply KeepsRes.next
    | intro _

theorem execBwdReturnRecordArrive_keeps (node vc : Nat) (s : State) : KeepsRes s (execBwdReturnRecordArrive node vc s) := by
  unfold execBwdReturnRecordArrive
  repeat' first
    | with_reducible exact Keeps.refl _
    | (with_reducible apply Keeps.trans ?_ (State.returnArrive_keeps ..))
    | (with_reducible apply Keeps.trans ?_ (State.routerArrive_keeps (h4 := ?_) ..))
    | with_reducible apply KeepsRes.next
    | intro _

theorem State.meetWindow_keeps (s : State) (n : Nat) (it : Item) (w : Nat) (locs : List Nat) : Keeps s (State.meetWindow s n it w locs) := by
  unfold State.meetWindow
  repeat' first
    | with_reducible exact Keeps.refl _
    | (with_reducible apply Keeps.trans ?_ (State.meet_keeps ..))
    | dsimp only
    | split

theorem State.compactRow_keeps (s : State) (n : Nat) (it : Item) (entry : Nat) (r : Nat) (x : Nat × Nat) : Keeps s (State.compactRow s n it entry r x) := by
  unfold State.compactRow
  repeat' first
    | with_reducible exact Keeps.refl _
    | (with_reducible apply Keeps.trans ?_ (State.ringRead_keeps ..))
    | (with_reducible apply Keeps.trans ?_ (Keeps.of_pair (State.ringRead_keeps ..) ?_); rotate_right; (with_reducible assumption))
    | (with_reducible apply Keeps.trans ?_ (State.sWrite_keeps ..))
    | with_reducible apply Keeps.ite_snd
    | with_reducible apply Keeps.ite
    | dsimp only
    | split

theorem State.compactRows_keeps (s : State) (n : Nat) (it : Item) (entry a4 : Nat) (a5 : List (Nat × Nat)) : Keeps s (State.compactRows s n it entry a4 a5) := by
  fun_induction State.compactRows s n it entry a4 a5 <;> try dsimp only
  all_goals
    repeat' first
      | with_reducible exact Keeps.refl _
      | (with_reducible apply Keeps.trans ?_ (State.compactRow_keeps ..))
      | (with_reducible apply Keeps.trans ?_ ?_; rotate_right; (with_reducible assumption))

theorem State.setRows_keeps (s : State) (x : HostRows) : Keeps s (State.setRows s x) := by
  unfold State.setRows
  repeat' first
    | with_reducible exact Keeps.refl _
    | (with_reducible apply Keeps.trans ?_ (State.setRouter_keeps ..))

theorem State.closeQueue_keeps (s : State) (it : Item) (w loc : Nat) : Keeps s (State.closeQueue s it w loc) := by
  unfold State.closeQueue
  repeat' first
    | with_reducible exact Keeps.refl _
    | (with_reducible apply Keeps.trans ?_ (State.releaseRings_keeps ..))
    | (with_reducible apply Keeps.trans ?_ (State.setRouter_keeps ..))

theorem State.consumeOne_keeps (s : State) (n : Nat) (it : Item) (w : Nat) (e : Nat × Nat) : Keeps s (State.consumeOne s n it w e).2 := by
  unfold State.consumeOne
  repeat' first
    | with_reducible exact Keeps.refl _
    | (with_reducible apply Keeps.trans ?_ (State.closeQueue_keeps ..))
    | (with_reducible apply Keeps.trans ?_ (State.compactRows_keeps ..))
    | (with_reducible apply Keeps.trans ?_ (State.meet_keeps ..))
    | (with_reducible apply Keeps.trans ?_ (State.rNum_keeps ..))
    | (with_reducible apply Keeps.trans ?_ (State.sWrite_keeps ..))
    | (with_reducible apply Keeps.trans ?_ (State.setPlan_keeps ..))
    | (with_reducible apply Keeps.trans ?_ (State.setRows_keeps ..))
    | (with_reducible apply Keeps.trans ?_ (State.writeCounts_keeps ..))
    | split

theorem State.consumeAll_keeps (s : State) (one : State → Nat × Nat → Nat × State) (a2 : List (Nat × Nat)) (h1 : ∀ (x0 : State) (x1 : Nat × Nat), Keeps x0 (one x0 x1).2) : Keeps s (State.consumeAll s one a2).2 := by
  fun_induction State.consumeAll s one a2 <;> try dsimp only
  all_goals
    repeat' first
      | with_reducible exact Keeps.refl _
      | (with_reducible apply Keeps.trans ?_ (h1 ..))
      | (with_reducible apply Keeps.trans ?_ ?_; rotate_right; (with_reducible assumption))

theorem State.runConsume_keeps (s : State) (n : Nat) (it : Item) (w : Nat) (a4 : List Placement) : Keeps s (State.runConsume s n it w a4) := by
  unfold State.runConsume
  repeat' first
    | with_reducible exact Keeps.refl _
    | (with_reducible apply Keeps.trans ?_ (State.consumeAll_keeps (h1 := ?_) ..))
    | (with_reducible apply Keeps.trans ?_ (State.consumeOne_keeps ..))
    | (with_reducible apply Keeps.trans ?_ (State.finish_keeps ..))
    | (with_reducible apply Keeps.trans ?_ (State.hostTable_keeps ..))
    | (with_reducible apply Keeps.trans ?_ (State.meet_keeps ..))
    | (with_reducible apply Keeps.trans ?_ (State.meetWindow_keeps ..))
    | intro _
    | split

theorem execConsume_keeps (item : Nat) (s : State) : KeepsRes s (execConsume item s) := by
  unfold execConsume
  repeat' first
    | with_reducible exact Keeps.refl _
    | (with_reducible apply Keeps.trans ?_ (State.routerOp_keeps (h3 := ?_) ..))
    | (with_reducible apply Keeps.trans ?_ (State.runConsume_keeps ..))
    | with_reducible apply KeepsRes.next
    | intro _

theorem State.returnRows_keeps (s : State) (n : Nat) (it : Item) (tag entry : Nat) (a5 : List Nat) : Keeps s (State.returnRows s n it tag entry a5).2 := by
  fun_induction State.returnRows s n it tag entry a5 <;> try dsimp only
  all_goals
    repeat' first
      | with_reducible exact Keeps.refl _
      | (with_reducible apply Keeps.trans ?_ (Keeps.of_pair (State.rNum_keeps ..) ?_); rotate_right; (with_reducible assumption))
      | (with_reducible apply Keeps.trans ?_ (Keeps.of_pair (State.readPayload_keeps ..) ?_); rotate_right; (with_reducible assumption))
      | (with_reducible apply Keeps.trans ?_ ?_; rotate_right; (with_reducible assumption))

theorem State.returnAll_keeps (s : State) (rows : State → Nat × Nat → List (Nat × Bytes) × State) (a2 : List (Nat × Nat)) (h1 : ∀ (x0 : State) (x1 : Nat × Nat), Keeps x0 (rows x0 x1).2) : Keeps s (State.returnAll s rows a2).2 := by
  fun_induction State.returnAll s rows a2 <;> try dsimp only
  all_goals
    repeat' first
      | with_reducible exact Keeps.refl _
      | (with_reducible apply Keeps.trans ?_ (h1 ..))
      | (with_reducible apply Keeps.trans ?_ ?_; rotate_right; (with_reducible assumption))

theorem State.runReturn_keeps (s : State) (n : Nat) (it : Item) (w : Nat) (a4 : List Placement) : Keeps s (State.runReturn s n it w a4) := by
  unfold State.runReturn
  repeat' first
    | with_reducible exact Keeps.refl _
    | (with_reducible apply Keeps.trans ?_ (State.hostTable_keeps ..))
    | (with_reducible apply Keeps.trans ?_ (State.returnAll_keeps (h1 := ?_) ..))
    | (with_reducible apply Keeps.trans ?_ (State.returnRows_keeps ..))
    | (with_reducible apply Keeps.trans ?_ (State.stageRecords_keeps ..))
    | intro _

theorem execReturn_keeps (item : Nat) (s : State) : KeepsRes s (execReturn item s) := by
  unfold execReturn
  repeat' first
    | with_reducible exact Keeps.refl _
    | (with_reducible apply Keeps.trans ?_ (State.routerOp_keeps (h3 := ?_) ..))
    | (with_reducible apply Keeps.trans ?_ (State.runReturn_keeps ..))
    | with_reducible apply KeepsRes.next
    | intro _

theorem State.loseAssignment_keeps (s : State) (n : Nat) (it : Item) (w o a : Nat) : Keeps s (State.loseAssignment s n it w o a) := by
  unfold State.loseAssignment
  repeat' first
    | with_reducible exact Keeps.refl _
    | (with_reducible apply Keeps.trans ?_ (State.meet_keeps ..))
    | (with_reducible apply Keeps.trans ?_ (State.sWrite_keeps ..))
    | dsimp only
    | split

theorem State.returnedRow_keeps (s : State) (n : Nat) (it : Item) (t r : Nat) : Keeps s (State.returnedRow s n it t r).2 := by
  unfold State.returnedRow
  repeat' first
    | with_reducible exact Keeps.refl _
    | (with_reducible apply Keeps.trans ?_ (State.rRead_keeps ..))
    | dsimp only
    | split

theorem State.combineRank_keeps (s : State) (n : Nat) (it : Item) (w : Nat) (t : Nat) (back : Bool) (x : Sum) (r : Nat) (a : Nat) : Keeps s (State.combineRank s n it w t back x r a).2 := by
  unfold State.combineRank
  all_goals try with_reducible apply Keeps.trans ?_ (Keeps.lit _)
  all_goals repeat' first
    | with_reducible exact Keeps.refl _
    | with_reducible exact Keeps.lit _
    | (with_reducible apply Keeps.trans ?_ (State.gates_keeps ..))
    | (with_reducible apply Keeps.trans ?_ (Keeps.of_pair (State.gates_keeps ..) ?_); rotate_right; (with_reducible assumption))
    | (with_reducible apply Keeps.trans ?_ (State.loseAssignment_keeps ..))
    | (with_reducible apply Keeps.trans ?_ (State.returnedRow_keeps ..))
    | (with_reducible apply Keeps.trans ?_ (Keeps.of_pair (State.returnedRow_keeps ..) ?_); rotate_right; (with_reducible assumption))
    | intro _
    | dsimp only
    | split
  all_goals try with_reducible apply Keeps.trans ?_ (Keeps.lit _)
  all_goals repeat' first
    | with_reducible exact Keeps.refl _
    | with_reducible exact Keeps.lit _
    | (with_reducible apply Keeps.trans ?_ (State.gates_keeps ..))
    | (with_reducible apply Keeps.trans ?_ (Keeps.of_pair (State.gates_keeps ..) ?_); rotate_right; (with_reducible assumption))
    | (with_reducible apply Keeps.trans ?_ (State.loseAssignment_keeps ..))
    | (with_reducible apply Keeps.trans ?_ (State.returnedRow_keeps ..))
    | (with_reducible apply Keeps.trans ?_ (Keeps.of_pair (State.returnedRow_keeps ..) ?_); rotate_right; (with_reducible assumption))
    | intro _
    | dsimp only
    | split

theorem State.combineRanks_keeps (s : State) (n : Nat) (it : Item) (w t : Nat) (back : Bool) (x : Sum) (a7 : List (Nat × Nat)) : Keeps s (State.combineRanks s n it w t back x a7).2 := by
  fun_induction State.combineRanks s n it w t back x a7 <;> try dsimp only
  all_goals
    repeat' first
      | with_reducible exact Keeps.refl _
      | (with_reducible apply Keeps.trans ?_ (Keeps.of_pair (State.combineRank_keeps ..) ?_); rotate_right; (with_reducible assumption))
      | (with_reducible apply Keeps.trans ?_ ?_; rotate_right; (with_reducible assumption))

theorem State.combineToken_keeps (s : State) (n : Nat) (it : Item) (w t : Nat) (back : Bool) : Keeps s (State.combineToken s n it w t back).2 := by
  unfold State.combineToken
  repeat' first
    | with_reducible exact Keeps.refl _
    | (with_reducible apply Keeps.trans ?_ (State.combineRanks_keeps ..))
    | (with_reducible apply Keeps.trans ?_ (State.rNum_keeps ..))
    | (with_reducible apply Keeps.trans ?_ (State.rRead_keeps ..))
    | (with_reducible apply Keeps.trans ?_ (State.sWrite_keeps ..))
    | dsimp only
    | split

theorem State.combineTokens_keeps (s : State) (n : Nat) (it : Item) (w : Nat) (back : Bool) (a5 : List Nat) : Keeps s (State.combineTokens s n it w back a5).2 := by
  fun_induction State.combineTokens s n it w back a5 <;> try dsimp only
  all_goals
    repeat' first
      | with_reducible exact Keeps.refl _
      | (with_reducible apply Keeps.trans ?_ (Keeps.of_pair (State.combineToken_keeps ..) ?_); rotate_right; (with_reducible assumption))
      | (with_reducible apply Keeps.trans ?_ ?_; rotate_right; (with_reducible assumption))

theorem State.runCombine_keeps (s : State) (n : Nat) (it : Item) (w : Nat) (back : Bool) : Keeps s (State.runCombine s n it w back) := by
  unfold State.runCombine
  repeat' first
    | with_reducible exact Keeps.refl _
    | (with_reducible apply Keeps.trans ?_ (State.combineTokens_keeps ..))
    | (with_reducible apply Keeps.trans ?_ (State.finish_keeps ..))
    | (with_reducible apply Keeps.trans ?_ (State.meet_keeps ..))
    | (with_reducible apply Keeps.trans ?_ (State.releaseBufs_keeps ..))
    | split

theorem execCombine_keeps (item : Nat) (s : State) : KeepsRes s (execCombine item s) := by
  unfold execCombine
  repeat' first
    | with_reducible exact Keeps.refl _
    | (with_reducible apply Keeps.trans ?_ (State.routerOp_keeps (h3 := ?_) ..))
    | (with_reducible apply Keeps.trans ?_ (State.runCombine_keeps ..))
    | with_reducible apply KeepsRes.next
    | intro _

theorem State.cancelItem_keeps (s : State) (n : Nat) (it : Item) : Keeps s (State.cancelItem s n it) := by
  unfold State.cancelItem
  repeat' first
    | with_reducible exact Keeps.refl _
    | (with_reducible apply Keeps.trans ?_ (State.finishWith_keeps ..))
    | (with_reducible apply Keeps.trans ?_ (State.setOutgoing_keeps ..))
    | (with_reducible apply Keeps.trans ?_ (State.stageCloses_keeps ..))
    | dsimp only
    | split

theorem State.cancelMicro_keeps (s : State) (c m : Nat) : Keeps s (State.cancelMicro s c m) := by
  unfold State.cancelMicro
  repeat' first
    | with_reducible exact Keeps.refl _
    | (with_reducible apply Keeps.trans ?_ (State.cancelItem_keeps ..))
    | (with_reducible apply Keeps.trans ?_ (State.releaseBufs_keeps ..))
    | (with_reducible apply Keeps.trans ?_ (State.setRegF_keeps ..))
    | (with_reducible apply Keeps.trans ?_ (State.setRouter_keeps ..))
    | (with_reducible apply Keeps.trans ?_ (Keeps.foldl _ _ _ ?_))
    | intro _
    | dsimp only
    | split

theorem State.routerCancel_keeps (s : State) (c mask : Nat) : Keeps s (State.routerCancel s c mask).2 := by
  unfold State.routerCancel
  repeat' first
    | with_reducible exact Keeps.refl _
    | (with_reducible apply Keeps.trans ?_ (State.cancelMicro_keeps ..))
    | (with_reducible apply Keeps.foldl _ _ _ ?_)
    | intro _

theorem execRouterCancelWrite_keeps (who : Who) (ctx mask : Nat) (s : State) : KeepsRes s (execRouterCancelWrite who ctx mask s) := by
  unfold execRouterCancelWrite
  repeat' first
    | with_reducible exact Keeps.refl _
    | (with_reducible apply Keeps.trans ?_ (State.routerCancel_keeps ..))
    | (with_reducible apply Keeps.trans ?_ (State.row_keeps (h5 := ?_) ..))
    | with_reducible apply KeepsRes.next
    | intro _

theorem State.routerNewStep_keeps (s : State) (c step : Nat) : Keeps s (State.routerNewStep s c step) := by
  unfold State.routerNewStep
  repeat' first
    | with_reducible exact Keeps.refl _
    | (with_reducible apply Keeps.trans ?_ (State.releaseBufs_keeps ..))
    | (with_reducible apply Keeps.trans ?_ (State.releaseRings_keeps ..))
    | (with_reducible apply Keeps.trans ?_ (State.setRouter_keeps ..))

theorem State.routerStepEnd_keeps (s : State) (c : Nat) : Keeps s (State.routerStepEnd s c) := by
  unfold State.routerStepEnd
  repeat' first
    | with_reducible exact Keeps.refl _
    | (with_reducible apply Keeps.trans ?_ (State.countDrains_keeps ..))
    | (with_reducible apply Keeps.trans ?_ (State.setRouter_keeps ..))

theorem State.routerForget_keeps (s : State) (c : Nat) : Keeps s (State.routerForget s c) := by
  unfold State.routerForget
  repeat' first
    | with_reducible exact Keeps.refl _
    | (with_reducible apply Keeps.trans ?_ (State.countDrains_keeps ..))
    | (with_reducible apply Keeps.trans ?_ (State.setRouter_keeps ..))
    | intro _
    | dsimp only
    | split

/-! ### Collective -/

theorem State.setColl_keeps (s : State) (x : Coll) : Keeps s (State.setColl s x) := by
  unfold State.setColl
  all_goals try with_reducible apply Keeps.trans ?_ (Keeps.lit _)
  all_goals repeat' first
    | with_reducible exact Keeps.refl _

theorem State.stagingBuffer_keeps (s : State) (c : Nat) : Keeps s (State.stagingBuffer s c).2 := by
  unfold State.stagingBuffer
  repeat' first
    | with_reducible exact Keeps.refl _
    | (with_reducible apply Keeps.trans ?_ (State.takeHandle_keeps ..))
    | dsimp only
    | split

theorem State.dropNodes_keeps (s : State) (p : CollNode → Bool) : Keeps s (State.dropNodes s p) := by
  unfold State.dropNodes
  repeat' first
    | with_reducible exact Keeps.refl _
    | (with_reducible apply Keeps.trans ?_ (State.engineRelease_keeps ..))
    | (with_reducible apply Keeps.trans ?_ (State.setColl_keeps ..))
    | (with_reducible apply Keeps.trans ?_ (Keeps.foldl _ _ _ ?_))
    | intro _
    | split

theorem State.nodeBytes_keeps (s : State) (nd : CollNode) : Keeps s (State.nodeBytes s nd).2 := by
  unfold State.nodeBytes
  repeat' first
    | with_reducible exact Keeps.refl _
    | (with_reducible apply Keeps.trans ?_ (State.bufferRead_keeps ..))
    | (with_reducible apply Keeps.trans ?_ (Keeps.of_pair (State.bufferRead_keeps ..) ?_); rotate_right; (with_reducible assumption))
    | (with_reducible apply Keeps.trans ?_ (State.ctxRead_keeps ..))
    | (with_reducible apply Keeps.trans ?_ (Keeps.of_pair (State.ctxRead_keeps ..) ?_); rotate_right; (with_reducible assumption))
    | intro _
    | dsimp only
    | split

theorem State.nodeVal_keeps (s : State) (g : Geo) (x : Seg) (nd : CollNode) : Keeps s (State.nodeVal s g x nd).2 := by
  unfold State.nodeVal
  all_goals try with_reducible apply Keeps.trans ?_ (Keeps.lit _)
  all_goals repeat' first
    | with_reducible exact Keeps.refl _
    | with_reducible exact Keeps.lit _
    | (with_reducible apply Keeps.trans ?_ (State.nodeBytes_keeps ..))
    | (with_reducible apply Keeps.trans ?_ (Keeps.of_pair (State.nodeBytes_keeps ..) ?_); rotate_right; (with_reducible assumption))
    | with_reducible apply Keeps.ite_snd
    | with_reducible apply Keeps.ite
    | intro _
    | dsimp only
    | split
  all_goals try with_reducible apply Keeps.trans ?_ (Keeps.lit _)
  all_goals repeat' first
    | with_reducible exact Keeps.refl _
    | with_reducible exact Keeps.lit _
    | (with_reducible apply Keeps.trans ?_ (State.nodeBytes_keeps ..))
    | (with_reducible apply Keeps.trans ?_ (Keeps.of_pair (State.nodeBytes_keeps ..) ?_); rotate_right; (with_reducible assumption))
    | with_reducible apply Keeps.ite_snd
    | with_reducible apply Keeps.ite
    | intro _
    | dsimp only
    | split

theorem State.readSpans_keeps (s : State) (n c : Nat) (base w poison : Nat) (a6 : List Span) : Keeps s (State.readSpans s n c base w poison a6).2 := by
  induction a6 generalizing s with
  | nil => exact Keeps.refl _
  | cons p ps ih =>
    unfold State.readSpans
    dsimp only
    refine Keeps.trans ?_ (ih _)
    split
    · exact State.ctxRead_keeps ..
    · exact (State.ctxRead_keeps ..).trans (State.meet_keeps ..)

theorem State.readSeg_keeps (s : State) (n : Nat) (it : Item) (g : Geo) (r : Region) (x : Seg) : Keeps s (State.readSeg s n it g r x).2 := by
  unfold State.readSeg
  repeat' first
    | with_reducible exact Keeps.refl _
    | (with_reducible apply Keeps.trans ?_ (State.readSpans_keeps ..))
    | dsimp only
    | split

theorem State.readSegs_keeps (s : State) (n : Nat) (it : Item) (g : Geo) (r : Region) (a5 : List Seg) : Keeps s (State.readSegs s n it g r a5).2 := by
  fun_induction State.readSegs s n it g r a5 <;> try dsimp only
  all_goals
    repeat' first
      | with_reducible exact Keeps.refl _
      | (with_reducible apply Keeps.trans ?_ (Keeps.of_pair (State.readSeg_keeps ..) ?_); rotate_right; (with_reducible assumption))
      | (with_reducible apply Keeps.trans ?_ ?_; rotate_right; (with_reducible assumption))

theorem State.sendTo_keeps (s : State) (n : Nat) (it : Item) (g : Geo) (visits kind : Nat) (a6 : List Nat) : Keeps s (State.sendTo s n it g visits kind a6).2 := by
  fun_induction State.sendTo s n it g visits kind a6 <;> try dsimp only
  all_goals
    repeat' first
      | with_reducible exact Keeps.refl _
      | (with_reducible apply Keeps.trans ?_ (Keeps.of_pair (State.readSegs_keeps ..) ?_); rotate_right; (with_reducible assumption))
      | (with_reducible apply Keeps.trans ?_ ?_; rotate_right; (with_reducible assumption))

theorem State.refuseColl_keeps (s : State) (n c code : Nat) : Keeps s (State.refuseColl s n c code) := by
  unfold State.refuseColl
  repeat' first
    | with_reducible exact Keeps.refl _
    | (with_reducible apply Keeps.trans ?_ (State.bump_keeps ..))
    | (with_reducible apply Keeps.trans ?_ (State.refuse_keeps ..))

theorem State.collBegin_keeps (s : State) (n op : Nat) : Keeps s (State.collBegin s n op) := by
  unfold State.collBegin
  repeat' first
    | with_reducible exact Keeps.refl _
    | (with_reducible apply Keeps.trans ?_ (State.refuseColl_keeps ..))
    | (with_reducible apply Keeps.trans ?_ (State.setColl_keeps ..))
    | (with_reducible apply Keeps.trans ?_ (State.withItem_keeps (h3 := ?_) ..))
    | intro _
    | dsimp only
    | split

theorem State.collPhase_keeps (s : State) (n phase : Nat) (run : State → Item → State) (h3 : ∀ (x0 : State) (x1 : Item), Keeps x0 (run x0 x1)) : Keeps s (State.collPhase s n phase run) := by
  unfold State.collPhase
  repeat' first
    | with_reducible exact Keeps.refl _
    | (with_reducible apply Keeps.trans ?_ (h3 ..))
    | (with_reducible apply Keeps.trans ?_ (State.setColl_keeps ..))
    | (with_reducible apply Keeps.trans ?_ (State.withItem_keeps (h3 := ?_) ..))
    | intro _
    | dsimp only
    | split

theorem execReduce_keeps (item : Nat) (s : State) : KeepsRes s (execReduce item s) := by
  unfold execReduce
  repeat' first
    | with_reducible exact Keeps.refl _
    | (with_reducible apply Keeps.trans ?_ (State.collBegin_keeps ..))
    | with_reducible apply KeepsRes.next

theorem execReduceScatter_keeps (item : Nat) (s : State) : KeepsRes s (execReduceScatter item s) := by
  unfold execReduceScatter
  repeat' first
    | with_reducible exact Keeps.refl _
    | (with_reducible apply Keeps.trans ?_ (State.collBegin_keeps ..))
    | with_reducible apply KeepsRes.next

theorem execAllReduce_keeps (item : Nat) (s : State) : KeepsRes s (execAllReduce item s) := by
  unfold execAllReduce
  repeat' first
    | with_reducible exact Keeps.refl _
    | (with_reducible apply Keeps.trans ?_ (State.collBegin_keeps ..))
    | with_reducible apply KeepsRes.next

theorem execAllGather_keeps (item : Nat) (s : State) : KeepsRes s (execAllGather item s) := by
  unfold execAllGather
  repeat' first
    | with_reducible exact Keeps.refl _
    | (with_reducible apply Keeps.trans ?_ (State.collBegin_keeps ..))
    | with_reducible apply KeepsRes.next

theorem execAllToAll_keeps (item : Nat) (s : State) : KeepsRes s (execAllToAll item s) := by
  unfold execAllToAll
  repeat' first
    | with_reducible exact Keeps.refl _
    | (with_reducible apply Keeps.trans ?_ (State.collBegin_keeps ..))
    | with_reducible apply KeepsRes.next

theorem execMerge_keeps (item : Nat) (s : State) : KeepsRes s (execMerge item s) := by
  unfold execMerge
  repeat' first
    | with_reducible exact Keeps.refl _
    | (with_reducible apply Keeps.trans ?_ (State.collBegin_keeps ..))
    | with_reducible apply KeepsRes.next

theorem execMergeAll_keeps (item : Nat) (s : State) : KeepsRes s (execMergeAll item s) := by
  unfold execMergeAll
  repeat' first
    | with_reducible exact Keeps.refl _
    | (with_reducible apply Keeps.trans ?_ (State.collBegin_keeps ..))
    | with_reducible apply KeepsRes.next

theorem State.countWord_keeps (s : State) (n : Nat) (it : Item) : Keeps s (State.countWord s n it).2 := by
  unfold State.countWord
  repeat' first
    | with_reducible exact Keeps.refl _
    | (with_reducible apply Keeps.trans ?_ (State.ctxRead_keeps ..))
    | (with_reducible apply Keeps.trans ?_ (State.meet_keeps ..))
    | dsimp only
    | split

theorem State.stageColl_keeps (s : State) (n : Nat) (it : Item) (w : Nat) (recs : List (Nat × Bytes)) (ranks : List Nat) : Keeps s (State.stageColl s n it w recs ranks) := by
  unfold State.stageColl
  repeat' first
    | with_reducible exact Keeps.refl _
    | (with_reducible apply Keeps.trans ?_ (State.stage_keeps ..))

theorem State.sendMarkers_keeps (s : State) (n : Nat) (it : Item) (g : Geo) (w : Nat) : Keeps s (State.sendMarkers s n it g w) := by
  unfold State.sendMarkers
  repeat' first
    | with_reducible exact Keeps.refl _
    | (with_reducible apply Keeps.trans ?_ (State.bump_keeps ..))
    | (with_reducible apply Keeps.trans ?_ (State.stageColl_keeps ..))

theorem State.readRun_keeps (s : State) (n : Nat) (it : Item) : Keeps s (State.readRun s n it).2 := by
  unfold State.readRun
  repeat' first
    | with_reducible exact Keeps.refl _
    | (with_reducible apply Keeps.trans ?_ (State.ctxRead_keeps ..))
    | (with_reducible apply Keeps.trans ?_ (State.meet_keeps ..))
    | (with_reducible apply Keeps.trans ?_ (State.readSpans_keeps ..))
    | dsimp only
    | split

theorem State.collSend_keeps (s : State) (n : Nat) (it : Item) : Keeps s (State.collSend s n it) := by
  unfold State.collSend
  repeat' first
    | with_reducible exact Keeps.refl _
    | (with_reducible apply Keeps.trans ?_ (State.countWord_keeps ..))
    | (with_reducible apply Keeps.trans ?_ (Keeps.of_pair (State.readRun_keeps ..) ?_); rotate_right; (with_reducible assumption))
    | (with_reducible apply Keeps.trans ?_ (State.readSegs_keeps ..))
    | (with_reducible apply Keeps.trans ?_ (State.sendMarkers_keeps ..))
    | (with_reducible apply Keeps.trans ?_ (State.sendTo_keeps ..))
    | (with_reducible apply Keeps.trans ?_ (State.stageColl_keeps ..))
    | dsimp only
    | split

theorem execCollSend_keeps (item : Nat) (s : State) : KeepsRes s (execCollSend item s) := by
  unfold execCollSend
  repeat' first
    | with_reducible exact Keeps.refl _
    | (with_reducible apply Keeps.trans ?_ (State.collPhase_keeps (h3 := ?_) ..))
    | (with_reducible apply Keeps.trans ?_ (State.collSend_keeps ..))
    | with_reducible apply KeepsRes.next
    | intro _

theorem State.collDesc_keeps (s : State) (c : Nat) (w : Nat) : Keeps s (State.collDesc s c w).2 := by
  unfold State.collDesc
  repeat' first
    | with_reducible exact Keeps.refl _
    | (with_reducible apply Keeps.trans ?_ (State.windowDescs_keeps ..))
    | (with_reducible apply Keeps.trans ?_ (Keeps.of_pair (State.windowDescs_keeps ..) ?_); rotate_right; (with_reducible assumption))
    | intro _
    | dsimp only
    | split

theorem State.collDamage_keeps (s : State) (c step : Nat) (w rank : Nat) (seg : Option (Nat × Nat)) : Keeps s (State.collDamage s c step w rank seg) := by
  unfold State.collDamage
  repeat' first
    | with_reducible exact Keeps.refl _
    | (with_reducible apply Keeps.trans ?_ (State.bump_keeps ..))
    | (with_reducible apply Keeps.trans ?_ (State.setColl_keeps ..))

theorem State.noteSource_keeps (s : State) (c step w : Nat) (a4 : CollHeader) : Keeps s (State.noteSource s c step w a4) := by
  unfold State.noteSource
  repeat' first
    | with_reducible exact Keeps.refl _
    | (with_reducible apply Keeps.trans ?_ (State.setColl_keeps ..))

theorem State.addNode_keeps (s : State) (nd : CollNode) : Keeps s (State.addNode s nd) := by
  unfold State.addNode
  repeat' first
    | with_reducible exact Keeps.refl _
    | (with_reducible apply Keeps.trans ?_ (State.setColl_keeps ..))
    | dsimp only
    | split

theorem State.putNode_keeps (s : State) (old : CollNode) (nd : CollNode) : Keeps s (State.putNode s old nd) := by
  unfold State.putNode
  repeat' first
    | with_reducible exact Keeps.refl _
    | (with_reducible apply Keeps.trans ?_ (State.setColl_keeps ..))
    | dsimp only
    | split

theorem State.stageLeaf_keeps (s : State) (c : Nat) (step : Nat) (w : Nat) (q : Nat) (rank : Nat) (x : Seg) (b : Bytes) (tags : List Nat) (buf : Option (Nat × Nat)) : Keeps s (State.stageLeaf s c step w q rank x b tags buf) := by
  unfold State.stageLeaf
  repeat' first
    | with_reducible exact Keeps.refl _
    | (with_reducible apply Keeps.trans ?_ (State.addNode_keeps ..))
    | (with_reducible apply Keeps.trans ?_ (State.bufferWrite_keeps ..))
    | with_reducible apply Keeps.ite_snd
    | with_reducible apply Keeps.ite
    | dsimp only
    | split

theorem State.splitNode_keeps (s : State) (keep : Nat → Bool) (nd : CollNode) : Keeps s (State.splitNode s keep nd) := by
  unfold State.splitNode
  repeat' first
    | with_reducible exact Keeps.refl _
    | (with_reducible apply Keeps.trans ?_ (State.addNode_keeps ..))
    | (with_reducible apply Keeps.trans ?_ (State.dropNodes_keeps ..))
    | (with_reducible apply Keeps.trans ?_ (Keeps.foldl _ _ _ ?_))
    | (with_reducible apply Keeps.trans ?_ (Keeps.foldl_pair _ _ _ ?_))
    | intro _
    | dsimp only
    | split

theorem State.joinNodes_keeps (s : State) (g : Geo) (x : Seg) (l : CollNode) (r : CollNode) (lo : Nat) (size : Nat) : Keeps s (State.joinNodes s g x l r lo size) := by
  unfold State.joinNodes
  repeat' first
    | with_reducible exact Keeps.refl _
    | (with_reducible apply Keeps.trans ?_ (State.bufferWrite_keeps ..))
    | (with_reducible apply Keeps.trans ?_ (State.bump_keeps ..))
    | (with_reducible apply Keeps.trans ?_ (State.dropNodes_keeps ..))
    | (with_reducible apply Keeps.trans ?_ (State.nodeBytes_keeps ..))
    | (with_reducible apply Keeps.trans ?_ (Keeps.of_pair (State.nodeBytes_keeps ..) ?_); rotate_right; (with_reducible assumption))
    | (with_reducible apply Keeps.trans ?_ (State.nodeVal_keeps ..))
    | (with_reducible apply Keeps.trans ?_ (Keeps.of_pair (State.nodeVal_keeps ..) ?_); rotate_right; (with_reducible assumption))
    | (with_reducible apply Keeps.trans ?_ (State.putNode_keeps ..))
    | (exact Memory.wf_putN _ _ _)
    | dsimp only
    | split

theorem State.accumulate_keeps (s : State) (c : Nat) (step : Nat) (w : Nat) (q : Nat) (rank : Nat) (g : Geo) (x : Seg) (b : Bytes) (tags : List Nat) : Keeps s (State.accumulate s c step w q rank g x b tags).2 := by
  unfold State.accumulate
  repeat' first
    | with_reducible exact Keeps.refl _
    | (with_reducible apply Keeps.trans ?_ (State.addNode_keeps ..))
    | (with_reducible apply Keeps.trans ?_ (State.bufferWrite_keeps ..))
    | (with_reducible apply Keeps.trans ?_ (State.joinNodes_keeps ..))
    | (with_reducible apply Keeps.trans ?_ (State.stagingBuffer_keeps ..))
    | (with_reducible apply Keeps.trans ?_ (Keeps.of_pair (State.stagingBuffer_keeps ..) ?_); rotate_right; (with_reducible assumption))
    | dsimp only
    | split

theorem State.collStage_keeps (s : State) (c : Nat) (w : Nat) (h : CollHeader) (b : Bytes) : Keeps s (State.collStage s c w h b).2 := by
  unfold State.collStage
  repeat' first
    | with_reducible exact Keeps.refl _
    | (with_reducible apply Keeps.trans ?_ (State.accumulate_keeps ..))
    | (with_reducible apply Keeps.trans ?_ (Keeps.of_pair (State.accumulate_keeps ..) ?_); rotate_right; (with_reducible assumption))
    | (with_reducible apply Keeps.trans ?_ (State.bump_keeps ..))
    | (with_reducible apply Keeps.trans ?_ (State.collDamage_keeps ..))
    | (with_reducible apply Keeps.trans ?_ (State.collDesc_keeps ..))
    | (with_reducible apply Keeps.trans ?_ (Keeps.of_pair (State.collDesc_keeps ..) ?_); rotate_right; (with_reducible assumption))
    | (with_reducible apply Keeps.trans ?_ (State.noteSource_keeps ..))
    | (with_reducible apply Keeps.trans ?_ (State.source_keeps ..))
    | (with_reducible apply Keeps.trans ?_ (Keeps.of_pair (State.source_keeps ..) ?_); rotate_right; (with_reducible assumption))
    | (with_reducible apply Keeps.trans ?_ (State.stageLeaf_keeps ..))
    | (with_reducible apply Keeps.trans ?_ (State.stagingBuffer_keeps ..))
    | (with_reducible apply Keeps.trans ?_ (Keeps.of_pair (State.stagingBuffer_keeps ..) ?_); rotate_right; (with_reducible assumption))
    | with_reducible apply Keeps.ite_snd
    | with_reducible apply Keeps.ite
    | dsimp only
    | split

theorem State.contributionArrive_keeps (s : State) (node vc : Nat) : Keeps s (State.contributionArrive s node vc) := by
  unfold State.contributionArrive
  repeat' first
    | with_reducible exact Keeps.refl _
    | (with_reducible apply Keeps.trans ?_ (State.bump_keeps ..))
    | (with_reducible apply Keeps.trans ?_ (Keeps.of_pair (State.collStage_keeps ..) ?_); rotate_right; (with_reducible assumption))
    | (with_reducible apply Keeps.trans ?_ (State.contribRecord_keeps ..))
    | (with_reducible apply Keeps.trans ?_ (State.takeInbox_keeps _ _ _ _ _ _ ?_); rotate_right; (with_reducible assumption))
    | dsimp only
    | split

theorem execContributionRecordArrive_keeps (node vc : Nat) (s : State) : KeepsRes s (execContributionRecordArrive node vc s) := by
  unfold execContributionRecordArrive
  repeat' first
    | with_reducible exact Keeps.refl _
    | (with_reducible apply Keeps.trans ?_ (State.contributionArrive_keeps ..))
    | with_reducible apply KeepsRes.next

theorem State.leafOf_keeps (s : State) (c : Nat) (step : Nat) (w : Nat) (g : Geo) (x : Seg) (q : Nat) : Keeps s (State.leafOf s c step w g x q).2 := by
  unfold State.leafOf
  repeat' first
    | with_reducible exact Keeps.refl _
    | (with_reducible apply Keeps.trans ?_ (State.nodeVal_keeps ..))
    | (with_reducible apply Keeps.trans ?_ (Keeps.of_pair (State.nodeVal_keeps ..) ?_); rotate_right; (with_reducible assumption))
    | dsimp only
    | split

theorem State.treeVal_keeps (s : State) (c : Nat) (step : Nat) (w : Nat) (g : Geo) (x : Seg) (a6 : Nat) (a7 : Nat) : Keeps s (State.treeVal s c step w g x a6 a7).2 := by
  fun_induction State.treeVal s c step w g x a6 a7 <;> try dsimp only
  all_goals
    repeat' first
      | with_reducible exact Keeps.refl _
      | with_reducible assumption
      | (with_reducible apply Keeps.trans ?_ (State.leafOf_keeps ..))
      | (with_reducible apply Keeps.trans ?_ (Keeps.of_pair (State.leafOf_keeps ..) ?_); rotate_right; (with_reducible assumption))
      | (with_reducible apply Keeps.trans ?_ (State.nodeVal_keeps ..))
      | (with_reducible apply Keeps.trans ?_ (Keeps.of_pair (State.nodeVal_keeps ..) ?_); rotate_right; (with_reducible assumption))
      | dsimp only
      | (with_reducible apply Keeps.trans ?_ (Keeps.of_pair ?_ ?_); rotate_right; (with_reducible assumption); rotate_right; (with_reducible assumption))
      | (with_reducible apply Keeps.trans ?_ ?_; rotate_right; (with_reducible assumption))
      | split

theorem State.seqVal_keeps (s : State) (c : Nat) (step : Nat) (w : Nat) (g : Geo) (x : Seg) (a6 : List Nat) (a7 : Option CVal) (a8 : Tally) : Keeps s (State.seqVal s c step w g x a6 a7 a8).2 := by
  fun_induction State.seqVal s c step w g x a6 a7 a8 <;> try dsimp only
  all_goals
    repeat' first
      | with_reducible exact Keeps.refl _
      | with_reducible assumption
      | (with_reducible apply Keeps.trans ?_ (State.leafOf_keeps ..))
      | (with_reducible apply Keeps.trans ?_ (Keeps.of_pair (State.leafOf_keeps ..) ?_); rotate_right; (with_reducible assumption))
      | dsimp only
      | (with_reducible apply Keeps.trans ?_ (Keeps.of_pair ?_ ?_); rotate_right; (with_reducible assumption); rotate_right; (with_reducible assumption))
      | (with_reducible apply Keeps.trans ?_ ?_; rotate_right; (with_reducible assumption))
      | split

theorem State.accVal_keeps (s : State) (c : Nat) (step : Nat) (w : Nat) (g : Geo) (x : Seg) : Keeps s (State.accVal s c step w g x).2 := by
  unfold State.accVal
  repeat' first
    | with_reducible exact Keeps.refl _
    | (with_reducible apply Keeps.trans ?_ (State.nodeVal_keeps ..))
    | (with_reducible apply Keeps.trans ?_ (Keeps.of_pair (State.nodeVal_keeps ..) ?_); rotate_right; (with_reducible assumption))
    | (with_reducible apply Keeps.trans ?_ (State.seqVal_keeps ..))
    | (with_reducible apply Keeps.trans ?_ (Keeps.of_pair (State.seqVal_keeps ..) ?_); rotate_right; (with_reducible assumption))
    | intro _
    | dsimp only
    | split

theorem State.segVal_keeps (s : State) (n : Nat) (it : Item) (w : Nat) (g : Geo) (x : Seg) : Keeps s (State.segVal s n it w g x).2 := by
  unfold State.segVal
  all_goals try with_reducible apply Keeps.trans ?_ (Keeps.lit _)
  all_goals repeat' first
    | with_reducible exact Keeps.refl _
    | with_reducible exact Keeps.lit _
    | (with_reducible apply Keeps.trans ?_ (State.accVal_keeps ..))
    | (with_reducible apply Keeps.trans ?_ (Keeps.of_pair (State.accVal_keeps ..) ?_); rotate_right; (with_reducible assumption))
    | (with_reducible apply Keeps.trans ?_ (State.bump_keeps ..))
    | (with_reducible apply Keeps.trans ?_ (State.meet_keeps ..))
    | (with_reducible apply Keeps.trans ?_ (State.treeVal_keeps ..))
    | (with_reducible apply Keeps.trans ?_ (Keeps.of_pair (State.treeVal_keeps ..) ?_); rotate_right; (with_reducible assumption))
    | (with_reducible apply Keeps.trans ?_ (Keeps.foldl _ _ _ ?_))
    | (with_reducible apply Keeps.trans ?_ (Keeps.foldl_pair _ _ _ ?_))
    | with_reducible apply Keeps.ite_snd
    | with_reducible apply Keeps.ite
    | intro _
    | dsimp only
    | split
  all_goals try with_reducible apply Keeps.trans ?_ (Keeps.lit _)
  all_goals repeat' first
    | with_reducible exact Keeps.refl _
    | with_reducible exact Keeps.lit _
    | (with_reducible apply Keeps.trans ?_ (State.accVal_keeps ..))
    | (with_reducible apply Keeps.trans ?_ (Keeps.of_pair (State.accVal_keeps ..) ?_); rotate_right; (with_reducible assumption))
    | (with_reducible apply Keeps.trans ?_ (State.bump_keeps ..))
    | (with_reducible apply Keeps.trans ?_ (State.meet_keeps ..))
    | (with_reducible apply Keeps.trans ?_ (State.treeVal_keeps ..))
    | (with_reducible apply Keeps.trans ?_ (Keeps.of_pair (State.treeVal_keeps ..) ?_); rotate_right; (with_reducible assumption))
    | (with_reducible apply Keeps.trans ?_ (Keeps.foldl _ _ _ ?_))
    | (with_reducible apply Keeps.trans ?_ (Keeps.foldl_pair _ _ _ ?_))
    | with_reducible apply Keeps.ite_snd
    | with_reducible apply Keeps.ite
    | intro _
    | dsimp only
    | split

theorem State.treeJoin_keeps (s : State) (c : Nat) (w : Nat) (seg : Nat) (col : Nat) (lo : Nat) (size : Nat) : Keeps s (State.treeJoin s c w seg col lo size) := by
  unfold State.treeJoin
  repeat' first
    | with_reducible exact Keeps.refl _
    | (with_reducible apply Keeps.trans ?_ (State.collDesc_keeps ..))
    | (with_reducible apply Keeps.trans ?_ (Keeps.of_pair (State.collDesc_keeps ..) ?_); rotate_right; (with_reducible assumption))
    | (with_reducible apply Keeps.trans ?_ (State.joinNodes_keeps ..))
    | (with_reducible apply Keeps.trans ?_ (State.nodeBytes_keeps ..))
    | (with_reducible apply Keeps.trans ?_ (Keeps.of_pair (State.nodeBytes_keeps ..) ?_); rotate_right; (with_reducible assumption))
    | (with_reducible apply Keeps.trans ?_ (State.nodeVal_keeps ..))
    | (with_reducible apply Keeps.trans ?_ (Keeps.of_pair (State.nodeVal_keeps ..) ?_); rotate_right; (with_reducible assumption))
    | (with_reducible apply Keeps.trans ?_ (State.putNode_keeps ..))
    | (exact Memory.wf_putN _ _ _)
    | intro _
    | dsimp only
    | split

theorem execTreeJoin_keeps (ctx window : Nat) (seg col : Nat) (lo size : Nat) (s : State) : KeepsRes s (execTreeJoin ctx window seg col lo size s) := by
  unfold execTreeJoin
  repeat' first
    | with_reducible exact Keeps.refl _
    | (with_reducible apply Keeps.trans ?_ (State.treeJoin_keeps ..))
    | with_reducible apply KeepsRes.next

theorem State.writeSpans_keeps (s : State) (n c : Nat) (base w : Nat) (a5 : List Span) (a6 : List Nat) : Keeps s (State.writeSpans s n c base w a5 a6) := by
  fun_induction State.writeSpans s n c base w a5 a6 <;> try dsimp only
  all_goals
    repeat' first
      | with_reducible exact Keeps.refl _
      | (with_reducible apply Keeps.trans ?_ (State.sWrite_keeps ..))
      | (with_reducible apply Keeps.trans ?_ ?_; rotate_right; (with_reducible assumption))

theorem State.writeSeg_keeps (s : State) (n : Nat) (it : Item) (g : Geo) (r : Region) (x : Seg) (v : CVal) : Keeps s (State.writeSeg s n it g r x v) := by
  unfold State.writeSeg
  repeat' first
    | with_reducible exact Keeps.refl _
    | (with_reducible apply Keeps.trans ?_ (State.sWrite_keeps ..))
    | (with_reducible apply Keeps.trans ?_ (State.writeSpans_keeps ..))
    | dsimp only
    | split

theorem State.writeNans_keeps (s : State) (n : Nat) (it : Item) (g : Geo) (a : Wrote) : Keeps s (State.writeNans s n it g a) := by
  unfold State.writeNans
  repeat' first
    | with_reducible exact Keeps.refl _
    | (with_reducible apply Keeps.trans ?_ (State.bump_keeps ..))
    | (with_reducible apply Keeps.trans ?_ (State.sWrite_keeps ..))
    | dsimp only
    | split

theorem State.applyAbsence_keeps (s : State) (n : Nat) (it : Item) (w : Nat) (g : Geo) : Keeps s (State.applyAbsence s n it w g) := by
  unfold State.applyAbsence
  repeat' first
    | with_reducible exact Keeps.refl _
    | (with_reducible apply Keeps.trans ?_ (State.bump_keeps ..))
    | (with_reducible apply Keeps.trans ?_ (State.meet_keeps ..))
    | intro _
    | dsimp only
    | split

theorem State.collDone_keeps (s : State) (c step w : Nat) : Keeps s (State.collDone s c step w) := by
  unfold State.collDone
  repeat' first
    | with_reducible exact Keeps.refl _
    | (with_reducible apply Keeps.trans ?_ (State.dropNodes_keeps ..))
    | (with_reducible apply Keeps.trans ?_ (State.setColl_keeps ..))

theorem State.strayBad_keeps (s : State) (n : Nat) (it : Item) (w : Nat) : Keeps s (State.strayBad s n it w) := by
  unfold State.strayBad
  repeat' first
    | with_reducible exact Keeps.refl _
    | (with_reducible apply Keeps.trans ?_ (State.meet_keeps ..))
    | split

theorem State.reduceSegs_keeps (s : State) (n : Nat) (it : Item) (w : Nat) (g : Geo) (out : State → Seg → CVal → State) (a : Wrote) (a7 : List Seg) (h5 : ∀ (x0 : State) (x1 : Seg) (x2 : CVal), Keeps x0 (out x0 x1 x2)) : Keeps s (State.reduceSegs s n it w g out a a7).2 := by
  fun_induction State.reduceSegs s n it w g out a a7 <;> try dsimp only
  all_goals
    repeat' first
      | with_reducible exact Keeps.refl _
      | (with_reducible apply Keeps.trans ?_ (h5 ..))
      | (with_reducible apply Keeps.trans ?_ (Keeps.of_pair (State.segVal_keeps ..) ?_); rotate_right; (with_reducible assumption))
      | (with_reducible apply Keeps.trans ?_ (Keeps.of_pair ?_ ?_); rotate_right; (with_reducible assumption); rotate_right; (with_reducible assumption))

theorem State.copySeg_keeps (s : State) (n : Nat) (it : Item) (w : Nat) (g : Geo) (q : Nat) (x : Seg) : Keeps s (State.copySeg s n it w g q x).2 := by
  unfold State.copySeg
  all_goals try with_reducible apply Keeps.trans ?_ (Keeps.lit _)
  all_goals repeat' first
    | with_reducible exact Keeps.refl _
    | with_reducible exact Keeps.lit _
    | (with_reducible apply Keeps.trans ?_ (State.meet_keeps ..))
    | (with_reducible apply Keeps.trans ?_ (State.nodeVal_keeps ..))
    | (with_reducible apply Keeps.trans ?_ (Keeps.of_pair (State.nodeVal_keeps ..) ?_); rotate_right; (with_reducible assumption))
    | intro _
    | dsimp only
    | split
  all_goals try with_reducible apply Keeps.trans ?_ (Keeps.lit _)
  all_goals repeat' first
    | with_reducible exact Keeps.refl _
    | with_reducible exact Keeps.lit _
    | (with_reducible apply Keeps.trans ?_ (State.meet_keeps ..))
    | (with_reducible apply Keeps.trans ?_ (State.nodeVal_keeps ..))
    | (with_reducible apply Keeps.trans ?_ (Keeps.of_pair (State.nodeVal_keeps ..) ?_); rotate_right; (with_reducible assumption))
    | intro _
    | dsimp only
    | split

theorem State.copySegs_keeps (s : State) (n : Nat) (it : Item) (w : Nat) (g : Geo) (q : Nat) (a : Wrote) (a7 : List Seg) : Keeps s (State.copySegs s n it w g q a a7).2 := by
  fun_induction State.copySegs s n it w g q a a7 <;> try dsimp only
  all_goals
    repeat' first
      | with_reducible exact Keeps.refl _
      | (with_reducible apply Keeps.trans ?_ (Keeps.of_pair (State.copySeg_keeps ..) ?_); rotate_right; (with_reducible assumption))
      | (with_reducible apply Keeps.trans ?_ (State.writeSeg_keeps ..))
      | (with_reducible apply Keeps.trans ?_ ?_; rotate_right; (with_reducible assumption))

theorem State.copyAll_keeps (s : State) (n : Nat) (it : Item) (w : Nat) (g : Geo) (a : Wrote) (a6 : List Nat) : Keeps s (State.copyAll s n it w g a a6).2 := by
  fun_induction State.copyAll s n it w g a a6 <;> try dsimp only
  all_goals
    repeat' first
      | with_reducible exact Keeps.refl _
      | (with_reducible apply Keeps.trans ?_ (Keeps.of_pair (State.copySegs_keeps ..) ?_); rotate_right; (with_reducible assumption))
      | (with_reducible apply Keeps.trans ?_ ?_; rotate_right; (with_reducible assumption))

theorem State.writeVisits_keeps (s : State) (n : Nat) (it : Item) (v : Nat) : Keeps s (State.writeVisits s n it v) := by
  unfold State.writeVisits
  repeat' first
    | with_reducible exact Keeps.refl _
    | (with_reducible apply Keeps.trans ?_ (State.sWrite_keeps ..))
    | split

theorem State.finishDense_keeps (s : State) (n : Nat) (it : Item) (w : Nat) (g : Geo) : Keeps s (State.finishDense s n it w g) := by
  unfold State.finishDense
  repeat' first
    | with_reducible exact Keeps.refl _
    | (with_reducible apply Keeps.trans ?_ (State.applyAbsence_keeps ..))
    | (with_reducible apply Keeps.trans ?_ (State.collDone_keeps ..))
    | (with_reducible apply Keeps.trans ?_ (State.copyAll_keeps ..))
    | (with_reducible apply Keeps.trans ?_ (State.finish_keeps ..))
    | (with_reducible apply Keeps.trans ?_ (State.meet_keeps ..))
    | (with_reducible apply Keeps.trans ?_ (State.reduceSegs_keeps (h5 := ?_) ..))
    | (with_reducible apply Keeps.trans ?_ (State.strayBad_keeps ..))
    | (with_reducible apply Keeps.trans ?_ (State.writeNans_keeps ..))
    | (with_reducible apply Keeps.trans ?_ (State.writeSeg_keeps ..))
    | (with_reducible apply Keeps.trans ?_ (State.writeVisits_keeps ..))
    | intro _
    | dsimp only
    | split

theorem State.collRelay_keeps (s : State) (n : Nat) (it : Item) : Keeps s (State.collRelay s n it) := by
  unfold State.collRelay
  repeat' first
    | with_reducible exact Keeps.refl _
    | (with_reducible apply Keeps.trans ?_ (State.applyAbsence_keeps ..))
    | (with_reducible apply Keeps.trans ?_ (State.collDone_keeps ..))
    | (with_reducible apply Keeps.trans ?_ (State.meet_keeps ..))
    | (with_reducible apply Keeps.trans ?_ (State.reduceSegs_keeps (h5 := ?_) ..))
    | (with_reducible apply Keeps.trans ?_ (State.stageColl_keeps ..))
    | (with_reducible apply Keeps.trans ?_ (State.strayBad_keeps ..))
    | (with_reducible apply Keeps.trans ?_ (State.writeNans_keeps ..))
    | intro _
    | dsimp only
    | split

theorem execCollRelay_keeps (item : Nat) (s : State) : KeepsRes s (execCollRelay item s) := by
  unfold execCollRelay
  repeat' first
    | with_reducible exact Keeps.refl _
    | (with_reducible apply Keeps.trans ?_ (State.collPhase_keeps (h3 := ?_) ..))
    | (with_reducible apply Keeps.trans ?_ (State.collRelay_keeps ..))
    | with_reducible apply KeepsRes.next
    | intro _

theorem State.collDropped_keeps (s : State) (c : Nat) (step : Nat) (w : Nat) (source : Nat) : Keeps s (State.collDropped s c step w source) := by
  unfold State.collDropped
  repeat' first
    | with_reducible exact Keeps.refl _
    | (with_reducible apply Keeps.trans ?_ (State.dropNodes_keeps ..))
    | (with_reducible apply Keeps.trans ?_ (State.markHandoffs_keeps ..))
    | (with_reducible apply Keeps.trans ?_ (State.splitNode_keeps ..))
    | (with_reducible apply Keeps.trans ?_ (Keeps.foldl _ _ _ ?_))
    | (with_reducible apply Keeps.trans ?_ (Keeps.foldl_pair _ _ _ ?_))
    | intro _
    | dsimp only
    | split

theorem State.splitAccs_keeps (s : State) (c : Nat) : Keeps s (State.splitAccs s c) := by
  unfold State.splitAccs
  repeat' first
    | with_reducible exact Keeps.refl _
    | (with_reducible apply Keeps.trans ?_ (State.splitNode_keeps ..))
    | (with_reducible apply Keeps.trans ?_ (Keeps.foldl _ _ _ ?_))
    | (with_reducible apply Keeps.trans ?_ (Keeps.foldl_pair _ _ _ ?_))
    | with_reducible apply Keeps.ite_snd
    | with_reducible apply Keeps.ite
    | intro _
    | dsimp only
    | split

theorem State.collNewStep_keeps (s : State) (c : Nat) (step : Nat) : Keeps s (State.collNewStep s c step) := by
  unfold State.collNewStep
  repeat' first
    | with_reducible exact Keeps.refl _
    | (with_reducible apply Keeps.trans ?_ (State.dropNodes_keeps ..))
    | (with_reducible apply Keeps.trans ?_ (State.setColl_keeps ..))
    | (with_reducible apply Keeps.trans ?_ (State.splitAccs_keeps ..))
    | intro _
    | dsimp only
    | split

theorem State.collForget_keeps (s : State) (c : Nat) : Keeps s (State.collForget s c) := by
  unfold State.collForget
  repeat' first
    | with_reducible exact Keeps.refl _
    | (with_reducible apply Keeps.trans ?_ (State.setColl_keeps ..))

/-! ### Scalar -/

theorem State.refuseVector_keeps (s : State) (n c code : Nat) : Keeps s (State.refuseVector s n c code) := by
  unfold State.refuseVector
  repeat' first
    | with_reducible exact Keeps.refl _
    | (with_reducible apply Keeps.trans ?_ (State.bump_keeps ..))
    | (with_reducible apply Keeps.trans ?_ (State.refuse_keeps ..))

theorem State.loadArgs_keeps (s : State) (f t d : Nat) : Keeps s (State.loadArgs s f t d) := by
  unfold State.loadArgs
  repeat' first
    | with_reducible exact Keeps.refl _
    | (with_reducible apply Keeps.trans ?_ (State.sset_keeps ..))
    | (with_reducible apply Keeps.foldl _ _ _ ?_)
    | intro _

theorem State.awaitFrame_keeps (s : State) (f : Nat) (t : Nat) (p : Program) : Keeps s (State.awaitFrame s f t p) := by
  unfold State.awaitFrame
  all_goals try with_reducible apply Keeps.trans ?_ (Keeps.lit _)
  all_goals repeat' first
    | with_reducible exact Keeps.refl _
    | with_reducible exact Keeps.lit _
    | (with_reducible apply Keeps.trans ?_ (State.setFacet_keeps ..))
    | (with_reducible apply Keeps.trans ?_ (State.setProg_keeps ..))
    | (with_reducible apply Keeps.trans ?_ (State.switchOut_keeps ..))
    | dsimp only
    | split
  all_goals try with_reducible apply Keeps.trans ?_ (Keeps.lit _)
  all_goals repeat' first
    | with_reducible exact Keeps.refl _
    | with_reducible exact Keeps.lit _
    | (with_reducible apply Keeps.trans ?_ (State.setFacet_keeps ..))
    | (with_reducible apply Keeps.trans ?_ (State.setProg_keeps ..))
    | (with_reducible apply Keeps.trans ?_ (State.switchOut_keeps ..))
    | dsimp only
    | split

theorem State.startProgram_keeps (s : State) (n : Nat) (it : Item) (t : Nat) (th : Thread) : Keeps s (State.startProgram s n it t th) := by
  unfold State.startProgram
  all_goals try with_reducible apply Keeps.trans ?_ (Keeps.lit _)
  all_goals repeat' first
    | with_reducible exact Keeps.refl _
    | with_reducible exact Keeps.lit _
    | (with_reducible apply Keeps.trans ?_ (State.awaitFrame_keeps ..))
    | (with_reducible apply Keeps.trans ?_ (State.loadArgs_keeps ..))
    | (with_reducible apply Keeps.trans ?_ (State.reach_keeps ..))
    | (with_reducible apply Keeps.trans ?_ (State.refuseVector_keeps ..))
    | (with_reducible apply Keeps.trans ?_ (State.setProg_keeps ..))
    | dsimp only
    | split
  all_goals try with_reducible apply Keeps.trans ?_ (Keeps.lit _)
  all_goals repeat' first
    | with_reducible exact Keeps.refl _
    | with_reducible exact Keeps.lit _
    | (with_reducible apply Keeps.trans ?_ (State.awaitFrame_keeps ..))
    | (with_reducible apply Keeps.trans ?_ (State.loadArgs_keeps ..))
    | (with_reducible apply Keeps.trans ?_ (State.reach_keeps ..))
    | (with_reducible apply Keeps.trans ?_ (State.refuseVector_keeps ..))
    | (with_reducible apply Keeps.trans ?_ (State.setProg_keeps ..))
    | dsimp only
    | split

theorem State.onThread_keeps (s : State) (n op : Nat) (act : Item → Nat → Thread → State → State) (h3 : ∀ (x0 : Item) (x1 : Nat) (x2 : Thread) (x3 : State), Keeps x3 (act x0 x1 x2 x3)) : Keeps s (State.onThread s n op act) := by
  unfold State.onThread
  repeat' first
    | with_reducible exact Keeps.refl _
    | (with_reducible apply Keeps.trans ?_ (h3 ..))
    | (with_reducible apply Keeps.trans ?_ (State.withItem_keeps (h3 := ?_) ..))
    | intro _
    | split

theorem execRunProgram_keeps (item : Nat) (s : State) : KeepsRes s (execRunProgram item s) := by
  unfold execRunProgram
  repeat' first
    | with_reducible exact Keeps.refl _
    | (with_reducible apply Keeps.trans ?_ (State.onThread_keeps (h3 := ?_) ..))
    | (with_reducible apply Keeps.trans ?_ (State.startProgram_keeps ..))
    | with_reducible apply KeepsRes.next
    | intro _

theorem execVectorFrameGrant_keeps (facet : Nat) (s : State) : KeepsRes s (execVectorFrameGrant facet s) := by
  unfold execVectorFrameGrant
  all_goals try with_reducible apply Keeps.trans ?_ (Keeps.lit _)
  all_goals repeat' first
    | with_reducible exact Keeps.refl _
    | with_reducible exact Keeps.lit _
    | (with_reducible apply Keeps.trans ?_ (State.arrive_keeps ..))
    | (with_reducible apply Keeps.trans ?_ (State.reach_keeps ..))
    | (with_reducible apply Keeps.trans ?_ (State.setFacet_keeps ..))
    | (with_reducible apply Keeps.trans ?_ (State.setProg_keeps ..))
    | with_reducible apply KeepsRes.next
    | with_reducible exact KeepsRes.fault _ _
    | with_reducible exact KeepsRes.refused _ _
    | dsimp only
    | split
  all_goals try with_reducible apply Keeps.trans ?_ (Keeps.lit _)
  all_goals repeat' first
    | with_reducible exact Keeps.refl _
    | with_reducible exact Keeps.lit _
    | (with_reducible apply Keeps.trans ?_ (State.arrive_keeps ..))
    | (with_reducible apply Keeps.trans ?_ (State.reach_keeps ..))
    | (with_reducible apply Keeps.trans ?_ (State.setFacet_keeps ..))
    | (with_reducible apply Keeps.trans ?_ (State.setProg_keeps ..))
    | with_reducible apply KeepsRes.next
    | with_reducible exact KeepsRes.fault _ _
    | with_reducible exact KeepsRes.refused _ _
    | dsimp only
    | split

theorem execVprogInsnLimitExceeded_keeps (facet : Nat) (thread : Nat) (s : State) : KeepsRes s (execVprogInsnLimitExceeded facet thread s) := by
  unfold execVprogInsnLimitExceeded
  repeat' first
    | with_reducible exact Keeps.refl _
    | (with_reducible apply Keeps.trans ?_ (State.stopProgram_keeps ..))
    | with_reducible apply KeepsRes.next
    | with_reducible exact KeepsRes.fault _ _
    | with_reducible exact KeepsRes.refused _ _
    | dsimp only
    | split

theorem State.scalar2_keeps (s : State) (f t op : Nat) (g : Nat → Nat → Nat) : Keeps s (State.scalar2 s f t op g) := by
  unfold State.scalar2
  repeat' first
    | with_reducible exact Keeps.refl _
    | (with_reducible apply Keeps.trans ?_ (State.insn_keeps (h4 := ?_) ..))
    | (with_reducible apply Keeps.trans ?_ (State.sset_keeps ..))
    | intro _

theorem State.scalarImm_keeps (s : State) (f t op : Nat) (g : Nat → Nat → Nat) : Keeps s (State.scalarImm s f t op g) := by
  unfold State.scalarImm
  repeat' first
    | with_reducible exact Keeps.refl _
    | (with_reducible apply Keeps.trans ?_ (State.insn_keeps (h4 := ?_) ..))
    | (with_reducible apply Keeps.trans ?_ (State.sset_keeps ..))
    | intro _

theorem execSadd_keeps (facet thread : Nat) (s : State) : KeepsRes s (execSadd facet thread s) := by
  unfold execSadd
  repeat' first
    | with_reducible exact Keeps.refl _
    | (with_reducible apply Keeps.trans ?_ (State.scalar2_keeps ..))
    | with_reducible apply KeepsRes.next

theorem execSaddi_keeps (facet thread : Nat) (s : State) : KeepsRes s (execSaddi facet thread s) := by
  unfold execSaddi
  repeat' first
    | with_reducible exact Keeps.refl _
    | (with_reducible apply Keeps.trans ?_ (State.scalarImm_keeps ..))
    | with_reducible apply KeepsRes.next

theorem execSsub_keeps (facet thread : Nat) (s : State) : KeepsRes s (execSsub facet thread s) := by
  unfold execSsub
  repeat' first
    | with_reducible exact Keeps.refl _
    | (with_reducible apply Keeps.trans ?_ (State.scalar2_keeps ..))
    | with_reducible apply KeepsRes.next

theorem execSmul_keeps (facet thread : Nat) (s : State) : KeepsRes s (execSmul facet thread s) := by
  unfold execSmul
  repeat' first
    | with_reducible exact Keeps.refl _
    | (with_reducible apply Keeps.trans ?_ (State.scalar2_keeps ..))
    | with_reducible apply KeepsRes.next

theorem execSand_keeps (facet thread : Nat) (s : State) : KeepsRes s (execSand facet thread s) := by
  unfold execSand
  repeat' first
    | with_reducible exact Keeps.refl _
    | (with_reducible apply Keeps.trans ?_ (State.scalar2_keeps ..))
    | with_reducible apply KeepsRes.next

theorem execSor_keeps (facet thread : Nat) (s : State) : KeepsRes s (execSor facet thread s) := by
  unfold execSor
  repeat' first
    | with_reducible exact Keeps.refl _
    | (with_reducible apply Keeps.trans ?_ (State.scalar2_keeps ..))
    | with_reducible apply KeepsRes.next

theorem execSxor_keeps (facet thread : Nat) (s : State) : KeepsRes s (execSxor facet thread s) := by
  unfold execSxor
  repeat' first
    | with_reducible exact Keeps.refl _
    | (with_reducible apply Keeps.trans ?_ (State.scalar2_keeps ..))
    | with_reducible apply KeepsRes.next

theorem execSshl_keeps (facet thread : Nat) (s : State) : KeepsRes s (execSshl facet thread s) := by
  unfold execSshl
  repeat' first
    | with_reducible exact Keeps.refl _
    | (with_reducible apply Keeps.trans ?_ (State.scalarImm_keeps ..))
    | with_reducible apply KeepsRes.next

theorem execSshr_keeps (facet thread : Nat) (s : State) : KeepsRes s (execSshr facet thread s) := by
  unfold execSshr
  repeat' first
    | with_reducible exact Keeps.refl _
    | (with_reducible apply Keeps.trans ?_ (State.scalarImm_keeps ..))
    | with_reducible apply KeepsRes.next

theorem execSsra_keeps (facet thread : Nat) (s : State) : KeepsRes s (execSsra facet thread s) := by
  unfold execSsra
  repeat' first
    | with_reducible exact Keeps.refl _
    | (with_reducible apply Keeps.trans ?_ (State.scalarImm_keeps ..))
    | with_reducible apply KeepsRes.next

theorem execSli_keeps (facet thread : Nat) (s : State) : KeepsRes s (execSli facet thread s) := by
  unfold execSli
  repeat' first
    | with_reducible exact Keeps.refl _
    | (with_reducible apply Keeps.trans ?_ (State.insn_keeps (h4 := ?_) ..))
    | (with_reducible apply Keeps.trans ?_ (State.sset_keeps ..))
    | with_reducible apply KeepsRes.next
    | intro _

theorem execSlui_keeps (facet thread : Nat) (s : State) : KeepsRes s (execSlui facet thread s) := by
  unfold execSlui
  repeat' first
    | with_reducible exact Keeps.refl _
    | (with_reducible apply Keeps.trans ?_ (State.insn_keeps (h4 := ?_) ..))
    | (with_reducible apply Keeps.trans ?_ (State.sset_keeps ..))
    | with_reducible apply KeepsRes.next
    | intro _

theorem execSfadd_keeps (facet thread : Nat) (s : State) : KeepsRes s (execSfadd facet thread s) := by
  unfold execSfadd
  repeat' first
    | with_reducible exact Keeps.refl _
    | (with_reducible apply Keeps.trans ?_ (State.scalar2_keeps ..))
    | with_reducible apply KeepsRes.next

theorem execSfmul_keeps (facet thread : Nat) (s : State) : KeepsRes s (execSfmul facet thread s) := by
  unfold execSfmul
  repeat' first
    | with_reducible exact Keeps.refl _
    | (with_reducible apply Keeps.trans ?_ (State.scalar2_keeps ..))
    | with_reducible apply KeepsRes.next

theorem execSfdiv_keeps (facet thread : Nat) (s : State) : KeepsRes s (execSfdiv facet thread s) := by
  unfold execSfdiv
  repeat' first
    | with_reducible exact Keeps.refl _
    | (with_reducible apply Keeps.trans ?_ (State.scalar2_keeps ..))
    | with_reducible apply KeepsRes.next

theorem execScmplt_keeps (facet thread : Nat) (s : State) : KeepsRes s (execScmplt facet thread s) := by
  unfold execScmplt
  repeat' first
    | with_reducible exact Keeps.refl _
    | (with_reducible apply Keeps.trans ?_ (State.scalar2_keeps ..))
    | with_reducible apply KeepsRes.next

theorem execScmpeq_keeps (facet thread : Nat) (s : State) : KeepsRes s (execScmpeq facet thread s) := by
  unfold execScmpeq
  repeat' first
    | with_reducible exact Keeps.refl _
    | (with_reducible apply Keeps.trans ?_ (State.scalar2_keeps ..))
    | with_reducible apply KeepsRes.next

theorem execBr_keeps (facet thread : Nat) (s : State) : KeepsRes s (execBr facet thread s) := by
  unfold execBr
  repeat' first
    | with_reducible exact Keeps.refl _
    | (with_reducible apply Keeps.trans ?_ (State.goto_keeps ..))
    | (with_reducible apply Keeps.trans ?_ (State.onInsn_keeps (h4 := ?_) ..))
    | with_reducible apply KeepsRes.next
    | intro _

theorem execBrz_keeps (facet thread : Nat) (s : State) : KeepsRes s (execBrz facet thread s) := by
  unfold execBrz
  repeat' first
    | with_reducible exact Keeps.refl _
    | (with_reducible apply Keeps.trans ?_ (State.goto_keeps ..))
    | (with_reducible apply Keeps.trans ?_ (State.onInsn_keeps (h4 := ?_) ..))
    | with_reducible apply KeepsRes.next
    | intro _

theorem execJmp_keeps (facet thread : Nat) (s : State) : KeepsRes s (execJmp facet thread s) := by
  unfold execJmp
  repeat' first
    | with_reducible exact Keeps.refl _
    | (with_reducible apply Keeps.trans ?_ (State.goto_keeps ..))
    | (with_reducible apply Keeps.trans ?_ (State.onInsn_keeps (h4 := ?_) ..))
    | with_reducible apply KeepsRes.next
    | intro _

theorem execProgEnd_keeps (facet thread : Nat) (s : State) : KeepsRes s (execProgEnd facet thread s) := by
  unfold execProgEnd
  repeat' first
    | with_reducible exact Keeps.refl _
    | (with_reducible apply Keeps.trans ?_ (State.endProgram_keeps ..))
    | (with_reducible apply Keeps.trans ?_ (State.onInsn_keeps (h4 := ?_) ..))
    | with_reducible apply KeepsRes.next
    | intro _

theorem execSrd_keeps (facet thread : Nat) (s : State) : KeepsRes s (execSrd facet thread s) := by
  unfold execSrd
  repeat' first
    | with_reducible exact Keeps.refl _
    | (with_reducible apply Keeps.trans ?_ (State.insn_keeps (h4 := ?_) ..))
    | (with_reducible apply Keeps.trans ?_ (State.sset_keeps ..))
    | with_reducible apply KeepsRes.next
    | intro _

theorem State.poisonItem_keeps (s : State) (f t : Nat) : Keeps s (State.poisonItem s f t) := by
  unfold State.poisonItem
  repeat' first
    | with_reducible exact Keeps.refl _
    | (with_reducible apply Keeps.trans ?_ (State.meet_keeps ..))
    | split

theorem execSld_keeps (facet : Nat) (thread : Nat) (s : State) : KeepsRes s (execSld facet thread s) := by
  unfold execSld
  repeat' first
    | with_reducible exact Keeps.refl _
    | (with_reducible apply Keeps.trans ?_ (State.fmRead_keeps ..))
    | (with_reducible apply Keeps.trans ?_ (Keeps.of_pair (State.fmRead_keeps ..) ?_); rotate_right; (with_reducible assumption))
    | (with_reducible apply Keeps.trans ?_ (State.insn_keeps (h4 := ?_) ..))
    | (with_reducible apply Keeps.trans ?_ (State.poisonItem_keeps ..))
    | (with_reducible apply Keeps.trans ?_ (State.sset_keeps ..))
    | (with_reducible apply Keeps.trans ?_ (State.stopProgram_keeps ..))
    | (with_reducible apply Keeps.trans ?_ (State.took_keeps ..))
    | with_reducible apply KeepsRes.next
    | with_reducible exact KeepsRes.fault _ _
    | with_reducible exact KeepsRes.refused _ _
    | intro _
    | dsimp only
    | split

theorem execSst_keeps (facet thread : Nat) (s : State) : KeepsRes s (execSst facet thread s) := by
  unfold execSst
  repeat' first
    | with_reducible exact Keeps.refl _
    | (with_reducible apply Keeps.trans ?_ (Keeps.of_pair (State.fmWrite_keeps ..) ?_); rotate_right; (with_reducible assumption))
    | (with_reducible apply Keeps.trans ?_ (State.insn_keeps (h4 := ?_) ..))
    | (with_reducible apply Keeps.trans ?_ (State.stopProgram_keeps ..))
    | (with_reducible apply Keeps.trans ?_ (State.took_keeps ..))
    | with_reducible apply KeepsRes.next
    | intro _
    | dsimp only
    | split

end Sys2Proof.Machine
end

