-- ==== Sys2Proof/Laws/KeepsNode.lean ====
section
/-! SUPPORT. Sys2Proof/Laws/KeepsNode.lean: that fabric memory, the queues, recovery, power, memory, security, boot and the run of a step keep the form of the state. -/

namespace Sys2Proof.Machine

/-! ### Fabric -/

theorem State.setFab_keeps (s : State) (f : Fabric) : Keeps s (State.setFab s f) := by
  unfold State.setFab
  all_goals try with_reducible apply Keeps.trans ?_ (Keeps.lit _)
  all_goals repeat' first
    | with_reducible exact Keeps.refl _

theorem State.setReq_keeps (s : State) (r : FabReq) : Keeps s (State.setReq s r) := by
  unfold State.setReq
  repeat' first
    | with_reducible exact Keeps.refl _
    | (with_reducible apply Keeps.trans ?_ (State.setFab_keeps ..))

theorem State.fabSend_keeps (s : State) (r : FabReq) (retry : Bool) : Keeps s (State.fabSend s r retry) := by
  unfold State.fabSend
  repeat' first
    | with_reducible exact Keeps.refl _
    | (with_reducible apply Keeps.trans ?_ (State.sendRecord_keeps ..))
    | (with_reducible apply Keeps.trans ?_ (State.setReq_keeps ..))

theorem State.fabLaunch_keeps (s : State) (r : FabReq) : Keeps s (State.fabLaunch s r) := by
  unfold State.fabLaunch
  repeat' first
    | with_reducible exact Keeps.refl _
    | (with_reducible apply Keeps.trans ?_ (State.fabSend_keeps ..))
    | (with_reducible apply Keeps.trans ?_ (State.setFab_keeps ..))

theorem State.fabIssue_keeps (s : State) (r : FabReq) : Keeps s (State.fabIssue s r) := by
  unfold State.fabIssue
  all_goals try with_reducible apply Keeps.trans ?_ (Keeps.lit _)
  all_goals repeat' first
    | with_reducible exact Keeps.refl _
    | with_reducible exact Keeps.lit _
    | (with_reducible apply Keeps.trans ?_ (State.fabLaunch_keeps ..))
    | (with_reducible apply Keeps.trans ?_ (State.setFab_keeps ..))
    | dsimp only
    | split
  all_goals try with_reducible apply Keeps.trans ?_ (Keeps.lit _)
  all_goals repeat' first
    | with_reducible exact Keeps.refl _
    | with_reducible exact Keeps.lit _
    | (with_reducible apply Keeps.trans ?_ (State.fabLaunch_keeps ..))
    | (with_reducible apply Keeps.trans ?_ (State.setFab_keeps ..))
    | dsimp only
    | split

theorem State.fabPump_keeps (s : State) : Keeps s (State.fabPump s) := by
  unfold State.fabPump
  repeat' first
    | with_reducible exact Keeps.refl _
    | (with_reducible apply Keeps.trans ?_ (State.fabLaunch_keeps ..))
    | (with_reducible apply Keeps.trans ?_ (State.setFab_keeps ..))
    | intro _
    | dsimp only
    | split

theorem State.fabResolve_keeps (s : State) (r : FabReq) : Keeps s (State.fabResolve s r) := by
  unfold State.fabResolve
  repeat' first
    | with_reducible exact Keeps.refl _
    | (with_reducible apply Keeps.trans ?_ (State.fabLaunch_keeps ..))
    | (with_reducible apply Keeps.trans ?_ (State.setFab_keeps ..))
    | (with_reducible apply Keeps.trans ?_ (State.setReq_keeps ..))

theorem State.dropLines_keeps (s : State) (c a n : Nat) : Keeps s (State.dropLines s c a n) := by
  unfold State.dropLines
  repeat' first
    | with_reducible exact Keeps.refl _
    | (with_reducible apply Keeps.trans ?_ (State.setFab_keeps ..))

theorem State.stopFills_keeps (s : State) (c : Nat) : Keeps s (State.stopFills s c) := by
  unfold State.stopFills
  repeat' first
    | with_reducible exact Keeps.refl _
    | (with_reducible apply Keeps.trans ?_ (State.setFab_keeps ..))

theorem State.dropContextLines_keeps (s : State) (c : Nat) : Keeps s (State.dropContextLines s c) := by
  unfold State.dropContextLines
  repeat' first
    | with_reducible exact Keeps.refl _
    | (with_reducible apply Keeps.trans ?_ (State.setFab_keeps ..))
    | (with_reducible apply Keeps.trans ?_ (State.stopFills_keeps ..))

theorem State.finvRange_keeps (s : State) (c a n : Nat) : Keeps s (State.finvRange s c a n) := by
  unfold State.finvRange
  repeat' first
    | with_reducible exact Keeps.refl _
    | (with_reducible apply Keeps.trans ?_ (State.dropLines_keeps ..))
    | (with_reducible apply Keeps.trans ?_ (State.stopFills_keeps ..))

theorem State.fillLine_keeps (s : State) (l : FabLine) : Keeps s (State.fillLine s l) := by
  unfold State.fillLine
  repeat' first
    | with_reducible exact Keeps.refl _
    | (with_reducible apply Keeps.trans ?_ (State.setFab_keeps ..))
    | intro _
    | dsimp only
    | split

theorem State.remoteEnded_keeps (s : State) (f t : Nat) (kind addr : Nat) (st : Status) : Keeps s (State.remoteEnded s f t kind addr st) := by
  unfold State.remoteEnded
  repeat' first
    | with_reducible exact Keeps.refl _
    | (with_reducible apply Keeps.trans ?_ (State.setProg_keeps ..))
    | dsimp only
    | split

theorem State.storeEnded_keeps (s : State) (f : Nat) (t : Nat) (n : Nat) (addr : Nat) (st : Status) : Keeps s (State.storeEnded s f t n addr st) := by
  unfold State.storeEnded
  repeat' first
    | with_reducible exact Keeps.refl _
    | (with_reducible apply Keeps.trans ?_ (State.failLate_keeps ..))
    | (with_reducible apply Keeps.trans ?_ (State.remoteEnded_keeps ..))
    | dsimp only
    | split

theorem State.loadEnded_keeps (s : State) (f t : Nat) (sd sb addr : Nat) (st : Status) (oc : FabOutcome) (value : Nat) (poison : Bool) : Keeps s (State.loadEnded s f t sd sb addr st oc value poison) := by
  unfold State.loadEnded
  repeat' first
    | with_reducible exact Keeps.refl _
    | (with_reducible apply Keeps.trans ?_ (State.remoteEnded_keeps ..))
    | (with_reducible apply Keeps.trans ?_ (State.sset_keeps ..))

theorem State.postedEnded_keeps (s : State) (f t serial : Nat) (st : Status) : Keeps s (State.postedEnded s f t serial st) := by
  unfold State.postedEnded
  repeat' first
    | with_reducible exact Keeps.refl _
    | (with_reducible apply Keeps.trans ?_ (State.arrive_keeps ..))
    | (with_reducible apply Keeps.trans ?_ (State.setThread_keeps ..))
    | (with_reducible apply Keeps.trans ?_ (State.sset_keeps ..))
    | dsimp only
    | split

theorem State.atomicEnded_keeps (s : State) (r : FabReq) (f t sd : Nat) (st : Status) (oc : FabOutcome) (value : Nat) : Keeps s (State.atomicEnded s r f t sd st oc value) := by
  unfold State.atomicEnded
  repeat' first
    | with_reducible exact Keeps.refl _
    | (with_reducible apply Keeps.trans ?_ (State.arrive_keeps ..))
    | (with_reducible apply Keeps.trans ?_ (State.postedEnded_keeps ..))
    | (with_reducible apply Keeps.trans ?_ (State.remoteEnded_keeps ..))
    | (with_reducible apply Keeps.trans ?_ (State.sset_keeps ..))
    | dsimp only
    | split

theorem State.chunkOutcome_keeps (s : State) (l : List (Status × FabOutcome)) : Keeps s (State.chunkOutcome s l).2 := by
  unfold State.chunkOutcome
  repeat' first
    | with_reducible exact Keeps.refl _
    | (with_reducible apply Keeps.trans ?_ (State.took_keeps ..))
    | dsimp only
    | split

theorem State.bulkEnded_keeps (s : State) (n : Nat) : Keeps s (State.bulkEnded s n) := by
  unfold State.bulkEnded
  repeat' first
    | with_reducible exact Keeps.refl _
    | (with_reducible apply Keeps.trans ?_ (State.bump_keeps ..))
    | (with_reducible apply Keeps.trans ?_ (State.chunkOutcome_keeps ..))
    | (with_reducible apply Keeps.trans ?_ (Keeps.of_pair (State.chunkOutcome_keeps ..) ?_); rotate_right; (with_reducible assumption))
    | (with_reducible apply Keeps.trans ?_ (State.finish_keeps ..))
    | (with_reducible apply Keeps.trans ?_ (State.meet_keeps ..))
    | (with_reducible apply Keeps.trans ?_ (State.setFab_keeps ..))
    | (with_reducible apply Keeps.trans ?_ (Keeps.foldl _ _ _ ?_))
    | (with_reducible apply Keeps.trans ?_ (Keeps.foldl_pair _ _ _ ?_))
    | with_reducible apply Keeps.ite_snd
    | with_reducible apply Keeps.ite
    | intro _
    | dsimp only
    | split

theorem State.noteChunk_keeps (s : State) (n : Nat) (st : Status) (oc : FabOutcome) : Keeps s (State.noteChunk s n st oc) := by
  unfold State.noteChunk
  repeat' first
    | with_reducible exact Keeps.refl _
    | (with_reducible apply Keeps.trans ?_ (State.setFab_keeps ..))
    | dsimp only
    | split

theorem State.noteFailure_keeps (s : State) (c : Nat) (issuer : Option (Nat × Nat)) (st : Status) : Keeps s (State.noteFailure s c issuer st) := by
  unfold State.noteFailure
  repeat' first
    | with_reducible exact Keeps.refl _
    | (with_reducible apply Keeps.trans ?_ (State.setFab_keeps ..))
    | dsimp only
    | split

theorem State.getChunk_keeps (s : State) (n : Nat) (off : Nat) (st : Status) (data : Bytes) : Keeps s (State.getChunk s n off st data).2 := by
  unfold State.getChunk
  repeat' first
    | with_reducible exact Keeps.refl _
    | (with_reducible apply Keeps.trans ?_ (State.ctxWrite_keeps ..))
    | (with_reducible apply Keeps.trans ?_ (Keeps.of_pair (State.ctxWrite_keeps ..) ?_); rotate_right; (with_reducible assumption))
    | (with_reducible apply Keeps.trans ?_ (State.markBytes_keeps ..))
    | intro _
    | dsimp only
    | split

theorem State.writeCommit_keeps (a0 : State) (a1 : Nat) (a2 : Nat) : ∀ u, (State.writeCommit a0 a1 a2) = some u → Keeps a0 u := by
  unfold State.writeCommit
  intro u h
  split at h
  · cases h
  · split at h
    · cases h
      exact State.fabIssue_keeps ..
    · cases h

theorem State.writeCommit_getD_keeps (r s t : State) (c part : Nat) (hs : Keeps r s) (h : Keeps r t) :
    Keeps r ((s.writeCommit c part).getD t) := by
  match e : s.writeCommit c part with
  | none => exact h
  | some u => exact hs.trans (State.writeCommit_keeps _ _ _ _ e)

theorem State.mirrorFailed_keeps (s : State) (c status : Nat) : Keeps s (State.mirrorFailed s c status) := by
  unfold State.mirrorFailed
  repeat' first
    | with_reducible exact Keeps.refl _
    | (with_reducible apply Keeps.trans ?_ (State.bumpF_keeps ..))
    | (with_reducible apply Keeps.trans ?_ (State.log!_keeps ..))
    | (with_reducible apply Keeps.trans ?_ (State.setRegF_keeps ..))

theorem State.mirrorClosed_keeps (s : State) (c : Nat) (st : Status) : Keeps s (State.mirrorClosed s c st) := by
  unfold State.mirrorClosed
  repeat' first
    | with_reducible exact Keeps.refl _
    | (with_reducible apply Keeps.trans ?_ (State.mirrorFailed_keeps ..))
    | (with_reducible apply Keeps.trans ?_ (State.setPlan_keeps ..))
    | (with_reducible apply Keeps.trans ?_ (State.setRegF_keeps ..))
    | dsimp only
    | split

theorem State.refuseFabric_keeps (s : State) (n c code : Nat) : Keeps s (State.refuseFabric s n c code) := by
  unfold State.refuseFabric
  repeat' first
    | with_reducible exact Keeps.refl _
    | (with_reducible apply Keeps.trans ?_ (State.bump_keeps ..))
    | (with_reducible apply Keeps.trans ?_ (State.refuse_keeps ..))

theorem State.denyFabric_keeps (s : State) (n c : Nat) : Keeps s (State.denyFabric s n c) := by
  unfold State.denyFabric
  repeat' first
    | with_reducible exact Keeps.refl _
    | (with_reducible apply Keeps.trans ?_ (State.bump_keeps ..))
    | (with_reducible apply Keeps.trans ?_ (State.finishWith_keeps ..))

theorem State.endFabric_keeps (s : State) (n : Nat) (c : Nat) (st : Status) : Keeps s (State.endFabric s n c st) := by
  unfold State.endFabric
  repeat' first
    | with_reducible exact Keeps.refl _
    | (with_reducible apply Keeps.trans ?_ (State.denyFabric_keeps ..))
    | (with_reducible apply Keeps.trans ?_ (State.finishWith_keeps ..))
    | dsimp only
    | split

theorem State.namesNode_keeps (s : State) (c : Nat) (a : Nat) : Keeps s (State.namesNode s c a) := by
  unfold State.namesNode
  repeat' first
    | with_reducible exact Keeps.refl _
    | (with_reducible apply Keeps.trans ?_ (State.noRoute_keeps ..))
    | dsimp only
    | split

theorem State.getPiece_keeps (s : State) (n : Nat) (it : Item) (node off : Nat) : Keeps s (State.getPiece s n it node off) := by
  unfold State.getPiece
  repeat' first
    | with_reducible exact Keeps.refl _
    | (with_reducible apply Keeps.trans ?_ (State.fabIssue_keeps ..))

theorem State.putPiece_keeps (s : State) (n : Nat) (it : Item) (node off : Nat) : Keeps s (State.putPiece s n it node off) := by
  unfold State.putPiece
  repeat' first
    | with_reducible exact Keeps.refl _
    | (with_reducible apply Keeps.trans ?_ (State.ctxRead_keeps ..))
    | (with_reducible apply Keeps.trans ?_ (State.fabIssue_keeps ..))
    | (with_reducible apply Keeps.trans ?_ (State.noteChunk_keeps ..))
    | (with_reducible apply Keeps.trans ?_ (State.noteFailure_keeps ..))
    | dsimp only
    | split

theorem State.putAllPieces_keeps (s : State) (n : Nat) (it : Item) (node : Nat) : Keeps s (State.putAllPieces s n it node) := by
  unfold State.putAllPieces
  repeat' first
    | with_reducible exact Keeps.refl _
    | (with_reducible apply Keeps.trans ?_ (State.bulkEnded_keeps ..))
    | (with_reducible apply Keeps.trans ?_ (State.finvRange_keeps ..))
    | (with_reducible apply Keeps.trans ?_ (State.putPiece_keeps ..))
    | (with_reducible apply Keeps.trans ?_ (Keeps.foldl _ _ _ ?_))
    | (with_reducible apply Keeps.trans ?_ (Keeps.foldl_pair _ _ _ ?_))
    | intro _
    | dsimp only
    | split

theorem State.runBulk_keeps (s : State) (n : Nat) (it : Item) (act : Nat → State → State) (h3 : ∀ b0 b1, Keeps b1 (act b0 b1)) : Keeps s (State.runBulk s n it act) := by
  unfold State.runBulk
  repeat' first
    | with_reducible exact Keeps.refl _
    | (with_reducible apply Keeps.trans ?_ (State.denyFabric_keeps ..))
    | (with_reducible apply Keeps.trans ?_ (State.namesNode_keeps ..))
    | (with_reducible apply Keeps.trans ?_ (State.refuseFabric_keeps ..))
    | (with_reducible apply Keeps.trans ?_ (h3 ..))
    | dsimp only
    | split

theorem execFabGet_keeps (item : Nat) (s : State) : KeepsRes s (execFabGet item s) := by
  unfold execFabGet
  repeat' first
    | with_reducible exact Keeps.refl _
    | (with_reducible apply Keeps.trans ?_ (State.getPiece_keeps ..))
    | (with_reducible apply Keeps.trans ?_ (State.runBulk_keeps (h3 := ?_) ..))
    | (with_reducible apply Keeps.trans ?_ (State.withItem_keeps (h3 := ?_) ..))
    | with_reducible apply KeepsRes.next
    | (with_reducible apply Keeps.foldl _ _ _ ?_)
    | intro _

theorem State.mirrorInvalidated_keeps (s : State) (c : Nat) (st : Status) : Keeps s (State.mirrorInvalidated s c st) := by
  unfold State.mirrorInvalidated
  all_goals try with_reducible apply Keeps.trans ?_ (Keeps.lit _)
  all_goals repeat' first
    | with_reducible exact Keeps.refl _
    | with_reducible exact Keeps.lit _
    | (with_reducible apply Keeps.trans ?_ (State.denyFabric_keeps ..))
    | (with_reducible apply Keeps.trans ?_ (State.endFabric_keeps ..))
    | (with_reducible apply Keeps.trans ?_ (State.namesNode_keeps ..))
    | (with_reducible apply Keeps.trans ?_ (State.putAllPieces_keeps ..))
    | (with_reducible apply Keeps.trans ?_ (State.setFab_keeps ..))
    | (with_reducible apply Keeps.trans ?_ (State.setPlan_keeps ..))
    | (with_reducible apply Keeps.trans ?_ (Keeps.foldl _ _ _ ?_))
    | (with_reducible apply Keeps.trans ?_ (Keeps.foldl_pair _ _ _ ?_))
    | intro _
    | dsimp only
    | split
  all_goals try with_reducible apply Keeps.trans ?_ (Keeps.lit _)
  all_goals repeat' first
    | with_reducible exact Keeps.refl _
    | with_reducible exact Keeps.lit _
    | (with_reducible apply Keeps.trans ?_ (State.denyFabric_keeps ..))
    | (with_reducible apply Keeps.trans ?_ (State.endFabric_keeps ..))
    | (with_reducible apply Keeps.trans ?_ (State.namesNode_keeps ..))
    | (with_reducible apply Keeps.trans ?_ (State.putAllPieces_keeps ..))
    | (with_reducible apply Keeps.trans ?_ (State.setFab_keeps ..))
    | (with_reducible apply Keeps.trans ?_ (State.setPlan_keeps ..))
    | (with_reducible apply Keeps.trans ?_ (Keeps.foldl _ _ _ ?_))
    | (with_reducible apply Keeps.trans ?_ (Keeps.foldl_pair _ _ _ ?_))
    | intro _
    | dsimp only
    | split

theorem State.mirrorPut_keeps (s : State) (n : Nat) (it : Item) (node : Nat) : Keeps s (State.mirrorPut s n it node) := by
  unfold State.mirrorPut
  dsimp only
  split
  · exact State.denyFabric_keeps ..
  · split
    · exact State.putAllPieces_keeps ..
    · split
      · exact State.setFab_keeps ..
      · refine State.writeCommit_getD_keeps _ _ _ _ _ ?_ ?_
        · exact (State.setFab_keeps ..).trans (State.setPlan_keeps ..)
        · exact (State.setFab_keeps ..).trans ((State.setPlan_keeps ..).trans (State.mirrorInvalidated_keeps ..))

theorem execFabPut_keeps (item : Nat) (s : State) : KeepsRes s (execFabPut item s) := by
  unfold execFabPut
  repeat' first
    | with_reducible exact Keeps.refl _
    | (with_reducible apply Keeps.trans ?_ (State.mirrorPut_keeps ..))
    | (with_reducible apply Keeps.trans ?_ (State.putAllPieces_keeps ..))
    | (with_reducible apply Keeps.trans ?_ (State.runBulk_keeps (h3 := ?_) ..))
    | (with_reducible apply Keeps.trans ?_ (State.withItem_keeps (h3 := ?_) ..))
    | with_reducible apply KeepsRes.next
    | intro _
    | split

theorem execInvalidate_keeps (item : Nat) (s : State) : KeepsRes s (execInvalidate item s) := by
  unfold execInvalidate
  repeat' first
    | with_reducible exact Keeps.refl _
    | (with_reducible apply Keeps.trans ?_ (State.finish_keeps ..))
    | (with_reducible apply Keeps.trans ?_ (State.finvRange_keeps ..))
    | (with_reducible apply Keeps.trans ?_ (State.refuseFabric_keeps ..))
    | (with_reducible apply Keeps.trans ?_ (State.withItem_keeps (h3 := ?_) ..))
    | with_reducible apply KeepsRes.next
    | intro _
    | dsimp only
    | split

theorem State.dropReq_keeps (s : State) (r : FabReq) : Keeps s (State.dropReq s r) := by
  unfold State.dropReq
  repeat' first
    | with_reducible exact Keeps.refl _
    | (with_reducible apply Keeps.trans ?_ (State.fabPump_keeps ..))
    | (with_reducible apply Keeps.trans ?_ (State.setFab_keeps ..))
    | intro _
    | dsimp only
    | split

theorem State.deliver_keeps (s : State) (r : FabReq) (st : Status) (oc : FabOutcome) (value : Nat) (data : Bytes) : Keeps s (State.deliver s r st oc value data) := by
  unfold State.deliver
  repeat' first
    | with_reducible exact Keeps.refl _
    | (with_reducible apply Keeps.trans ?_ (State.arrive_keeps ..))
    | (with_reducible apply Keeps.trans ?_ (State.atomicEnded_keeps ..))
    | (with_reducible apply Keeps.trans ?_ (State.bulkEnded_keeps ..))
    | (with_reducible apply Keeps.trans ?_ (State.fillLine_keeps ..))
    | (with_reducible apply Keeps.trans ?_ (State.getChunk_keeps ..))
    | (with_reducible apply Keeps.trans ?_ (Keeps.of_pair (State.getChunk_keeps ..) ?_); rotate_right; (with_reducible assumption))
    | (with_reducible apply Keeps.trans ?_ (State.loadEnded_keeps ..))
    | (with_reducible apply Keeps.trans ?_ (State.mirrorClosed_keeps ..))
    | (with_reducible apply Keeps.trans ?_ (State.mirrorInvalidated_keeps ..))
    | (with_reducible apply Keeps.trans ?_ (State.noteChunk_keeps ..))
    | (with_reducible apply Keeps.trans ?_ (State.noteFailure_keeps ..))
    | (with_reducible apply Keeps.trans ?_ (State.postedEnded_keeps ..))
    | (with_reducible apply Keeps.trans ?_ (State.store_keeps ..))
    | (with_reducible apply Keeps.trans ?_ (State.storeEnded_keeps ..))
    | (with_reducible apply Keeps.trans ?_ (State.store_keeps _ _ _ _ (fun h => absurd h (by decide))))
    | with_reducible apply Keeps.ite_snd
    | with_reducible apply Keeps.ite
    | dsimp only
    | split

theorem State.fabEnd_keeps (s : State) (r : FabReq) (st : Status) (oc : FabOutcome) (value : Nat) (data : Bytes) : Keeps s (State.fabEnd s r st oc value data) := by
  unfold State.fabEnd
  repeat' first
    | with_reducible exact Keeps.refl _
    | (with_reducible apply Keeps.trans ?_ (State.bump_keeps ..))
    | (with_reducible apply Keeps.trans ?_ (State.deliver_keeps ..))
    | (with_reducible apply Keeps.trans ?_ (State.dropReq_keeps ..))
    | dsimp only
    | split

theorem State.resolveEnd_keeps (s : State) (q : FabReq) (fseq : Nat) (st : Status) (oc : FabOutcome) (value : Nat) : Keeps s (State.resolveEnd s q fseq st oc value) := by
  unfold State.resolveEnd
  repeat' first
    | with_reducible exact Keeps.refl _
    | (with_reducible apply Keeps.trans ?_ (State.dropReq_keeps ..))
    | (with_reducible apply Keeps.trans ?_ (State.fabEnd_keeps ..))
    | dsimp only
    | split

theorem State.fabFail_keeps (s : State) (r : FabReq) (st : Status) (oc : FabOutcome) : Keeps s (State.fabFail s r st oc) := by
  unfold State.fabFail
  repeat' first
    | with_reducible exact Keeps.refl _
    | (with_reducible apply Keeps.trans ?_ (State.fabEnd_keeps ..))
    | (with_reducible apply Keeps.trans ?_ (State.resolveEnd_keeps ..))
    | split

theorem execFabricReplyReceive_keeps (node : Nat) (vc : Nat) (s : State) : KeepsRes s (execFabricReplyReceive node vc s) := by
  unfold execFabricReplyReceive
  all_goals try with_reducible apply Keeps.trans ?_ (Keeps.lit _)
  all_goals repeat' first
    | with_reducible exact Keeps.refl _
    | with_reducible exact Keeps.lit _
    | (with_reducible apply Keeps.trans ?_ (State.fabEnd_keeps ..))
    | (with_reducible apply Keeps.trans ?_ (State.resolveEnd_keeps ..))
    | (with_reducible apply Keeps.trans ?_ (State.setReq_keeps ..))
    | (with_reducible apply Keeps.trans ?_ (State.takeInbox_keeps _ _ _ _ _ _ ?_); rotate_right; (with_reducible assumption))
    | with_reducible apply KeepsRes.next
    | with_reducible exact KeepsRes.fault _ _
    | with_reducible exact KeepsRes.refused _ _
    | dsimp only
    | split
  all_goals try with_reducible apply Keeps.trans ?_ (Keeps.lit _)
  all_goals repeat' first
    | with_reducible exact Keeps.refl _
    | with_reducible exact Keeps.lit _
    | (with_reducible apply Keeps.trans ?_ (State.fabEnd_keeps ..))
    | (with_reducible apply Keeps.trans ?_ (State.resolveEnd_keeps ..))
    | (with_reducible apply Keeps.trans ?_ (State.setReq_keeps ..))
    | (with_reducible apply Keeps.trans ?_ (State.takeInbox_keeps _ _ _ _ _ _ ?_); rotate_right; (with_reducible assumption))
    | with_reducible apply KeepsRes.next
    | with_reducible exact KeepsRes.fault _ _
    | with_reducible exact KeepsRes.refused _ _
    | dsimp only
    | split

theorem execFabricBusyResend_keeps (node : Nat) (fseq : Nat) (s : State) : KeepsRes s (execFabricBusyResend node fseq s) := by
  unfold execFabricBusyResend
  repeat' first
    | with_reducible exact Keeps.refl _
    | (with_reducible apply Keeps.trans ?_ (State.fabResolve_keeps ..))
    | (with_reducible apply Keeps.trans ?_ (State.fabSend_keeps ..))
    | with_reducible apply KeepsRes.next
    | with_reducible exact KeepsRes.fault _ _
    | with_reducible exact KeepsRes.refused _ _
    | dsimp only
    | split

theorem execFabricReplyTimeout_keeps (node : Nat) (fseq : Nat) (s : State) : KeepsRes s (execFabricReplyTimeout node fseq s) := by
  unfold execFabricReplyTimeout
  all_goals try with_reducible apply Keeps.trans ?_ (Keeps.lit _)
  all_goals repeat' first
    | with_reducible exact Keeps.refl _
    | with_reducible exact Keeps.lit _
    | (with_reducible apply Keeps.trans ?_ (State.bump_keeps ..))
    | (with_reducible apply Keeps.trans ?_ (State.fabFail_keeps ..))
    | (with_reducible apply Keeps.trans ?_ (State.fabResolve_keeps ..))
    | (with_reducible apply Keeps.trans ?_ (State.fabSend_keeps ..))
    | with_reducible apply KeepsRes.next
    | with_reducible exact KeepsRes.fault _ _
    | with_reducible exact KeepsRes.refused _ _
    | dsimp only
    | split
  all_goals try with_reducible apply Keeps.trans ?_ (Keeps.lit _)
  all_goals repeat' first
    | with_reducible exact Keeps.refl _
    | with_reducible exact Keeps.lit _
    | (with_reducible apply Keeps.trans ?_ (State.bump_keeps ..))
    | (with_reducible apply Keeps.trans ?_ (State.fabFail_keeps ..))
    | (with_reducible apply Keeps.trans ?_ (State.fabResolve_keeps ..))
    | (with_reducible apply Keeps.trans ?_ (State.fabSend_keeps ..))
    | with_reducible apply KeepsRes.next
    | with_reducible exact KeepsRes.fault _ _
    | with_reducible exact KeepsRes.refused _ _
    | dsimp only
    | split

theorem State.fabAcked_keeps (s : State) (node fseq : Nat) : Keeps s (State.fabAcked s node fseq) := by
  unfold State.fabAcked
  repeat' first
    | with_reducible exact Keeps.refl _
    | (with_reducible apply Keeps.trans ?_ (State.dropReq_keeps ..))
    | (with_reducible apply Keeps.trans ?_ (State.setReq_keeps ..))
    | split

theorem State.fabGaveUp_keeps (s : State) (node fseq : Nat) : Keeps s (State.fabGaveUp s node fseq) := by
  unfold State.fabGaveUp
  repeat' first
    | with_reducible exact Keeps.refl _
    | (with_reducible apply Keeps.trans ?_ (State.fabFail_keeps ..))
    | split

theorem State.fabResolveAll_keeps (s : State) (node : Nat) (c : Nat) : Keeps s (State.fabResolveAll s node c) := by
  unfold State.fabResolveAll
  repeat' first
    | with_reducible exact Keeps.refl _
    | (with_reducible apply Keeps.trans ?_ (State.dropReq_keeps ..))
    | (with_reducible apply Keeps.trans ?_ (State.fabResolve_keeps ..))
    | (with_reducible apply Keeps.trans ?_ (Keeps.foldl _ _ _ ?_))
    | (with_reducible apply Keeps.trans ?_ (Keeps.foldl_pair _ _ _ ?_))
    | intro _
    | dsimp only
    | split

theorem State.fabPeerLost_keeps (s : State) (node : Nat) (epoch : Nat) : Keeps s (State.fabPeerLost s node epoch) := by
  unfold State.fabPeerLost
  repeat' first
    | with_reducible exact Keeps.refl _
    | (with_reducible apply Keeps.trans ?_ (State.dropReq_keeps ..))
    | (with_reducible apply Keeps.trans ?_ (State.fabEnd_keeps ..))
    | (with_reducible apply Keeps.trans ?_ (State.setFab_keeps ..))
    | (with_reducible apply Keeps.trans ?_ (State.setHup_keeps ..))
    | (with_reducible apply Keeps.trans ?_ (Keeps.foldl _ _ _ ?_))
    | (with_reducible apply Keeps.trans ?_ (Keeps.foldl_pair _ _ _ ?_))
    | intro _
    | dsimp only
    | split

theorem State.raiseHorizons_keeps (s : State) (c : Nat) : Keeps s (State.raiseHorizons s c) := by
  unfold State.raiseHorizons
  repeat' first
    | with_reducible exact Keeps.refl _
    | (with_reducible apply Keeps.trans ?_ (State.setFab_keeps ..))

theorem State.withdrawPackets_keeps (s : State) (c : Nat) : Keeps s (State.withdrawPackets s c) := by
  unfold State.withdrawPackets
  repeat' first
    | with_reducible exact Keeps.refl _
    | (with_reducible apply Keeps.trans ?_ (State.setHup_keeps ..))
    | intro _
    | dsimp only
    | split

theorem State.fabContextReset_keeps (s : State) (c : Nat) : Keeps s (State.fabContextReset s c) := by
  unfold State.fabContextReset
  all_goals try with_reducible apply Keeps.trans ?_ (Keeps.lit _)
  all_goals repeat' first
    | with_reducible exact Keeps.refl _
    | with_reducible exact Keeps.lit _
    | (with_reducible apply Keeps.trans ?_ (State.dropContextLines_keeps ..))
    | (with_reducible apply Keeps.trans ?_ (State.dropReq_keeps ..))
    | (with_reducible apply Keeps.trans ?_ (State.raiseHorizons_keeps ..))
    | (with_reducible apply Keeps.trans ?_ (State.setFab_keeps ..))
    | (with_reducible apply Keeps.trans ?_ (State.withdrawPackets_keeps ..))
    | (with_reducible apply Keeps.trans ?_ (Keeps.foldl _ _ _ ?_))
    | (with_reducible apply Keeps.trans ?_ (Keeps.foldl_pair _ _ _ ?_))
    | intro _
    | dsimp only
    | split
  all_goals try with_reducible apply Keeps.trans ?_ (Keeps.lit _)
  all_goals repeat' first
    | with_reducible exact Keeps.refl _
    | with_reducible exact Keeps.lit _
    | (with_reducible apply Keeps.trans ?_ (State.dropContextLines_keeps ..))
    | (with_reducible apply Keeps.trans ?_ (State.dropReq_keeps ..))
    | (with_reducible apply Keeps.trans ?_ (State.raiseHorizons_keeps ..))
    | (with_reducible apply Keeps.trans ?_ (State.setFab_keeps ..))
    | (with_reducible apply Keeps.trans ?_ (State.withdrawPackets_keeps ..))
    | (with_reducible apply Keeps.trans ?_ (Keeps.foldl _ _ _ ?_))
    | (with_reducible apply Keeps.trans ?_ (Keeps.foldl_pair _ _ _ ?_))
    | intro _
    | dsimp only
    | split

theorem execPublish_keeps (item : Nat) (s : State) : KeepsRes s (execPublish item s) := by
  unfold execPublish
  repeat' first
    | with_reducible exact Keeps.refl _
    | (with_reducible apply Keeps.trans ?_ (State.denyFabric_keeps ..))
    | (with_reducible apply Keeps.trans ?_ (State.refuseFabric_keeps ..))
    | (with_reducible apply Keeps.trans ?_ (State.withItem_keeps (h3 := ?_) ..))
    | with_reducible apply KeepsRes.next
    | intro _
    | dsimp only
    | split

theorem execPublishCloseSend_keeps (item : Nat) (s : State) : KeepsRes s (execPublishCloseSend item s) := by
  unfold execPublishCloseSend
  repeat' first
    | with_reducible exact Keeps.refl _
    | (with_reducible apply Keeps.trans ?_ (State.endFabric_keeps ..))
    | (with_reducible apply Keeps.trans ?_ (State.sendOutput_keeps ..))
    | (with_reducible apply Keeps.trans ?_ (State.stage_keeps ..))
    | with_reducible apply KeepsRes.next
    | with_reducible exact KeepsRes.fault _ _
    | with_reducible exact KeepsRes.refused _ _
    | intro _
    | dsimp only
    | split

/-! ### Lattice -/

theorem execLatticeRouteWrite_keeps (who : Who) (lattice value : Nat) (s : State) : KeepsRes s (execLatticeRouteWrite who lattice value s) := by
  unfold execLatticeRouteWrite
  repeat' first
    | with_reducible exact Keeps.refl _
    | (with_reducible apply Keeps.trans ?_ (State.row_keeps (h5 := ?_) ..))
    | (with_reducible apply Keeps.trans ?_ (State.setRegF_keeps ..))
    | with_reducible apply KeepsRes.next
    | intro _
    | split

theorem State.mapTakes_keeps (s : State) (c : Nat) (l : List Nat) : Keeps s (State.mapTakes s c l) := by
  unfold State.mapTakes
  repeat' first
    | with_reducible exact Keeps.refl _
    | (with_reducible apply Keeps.trans ?_ (State.dropContextLines_keeps ..))
    | (with_reducible apply Keeps.trans ?_ (State.setFields_keeps ..))
    | (with_reducible apply Keeps.trans ?_ (State.setReg_keeps ..))
    | (with_reducible apply Keeps.trans ?_ (State.setRcv_keeps ?_))
    | (with_reducible exact id)
    | dsimp only
    | split

theorem State.mapAtStep_keeps (s : State) (c n : Nat) : Keeps s (State.mapAtStep s c n) := by
  unfold State.mapAtStep
  repeat' first
    | with_reducible exact Keeps.refl _
    | (with_reducible apply Keeps.trans ?_ (State.mapTakes_keeps ..))
    | (with_reducible apply Keeps.trans ?_ (State.setMaps_keeps ..))
    | (with_reducible apply Keeps.trans ?_ (State.setReg_keeps ..))
    | dsimp only
    | split

theorem State.dropPendingMap_keeps (s : State) (c : Nat) : Keeps s (State.dropPendingMap s c) := by
  unfold State.dropPendingMap
  repeat' first
    | with_reducible exact Keeps.refl _
    | (with_reducible apply Keeps.trans ?_ (State.setMaps_keeps ..))
    | (with_reducible apply Keeps.trans ?_ (State.setReg_keeps ..))

theorem execRankMapCommit_keeps (who : Who) (ctx value : Nat) (s : State) : KeepsRes s (execRankMapCommit who ctx value s) := by
  unfold execRankMapCommit
  repeat' first
    | with_reducible exact Keeps.refl _
    | (with_reducible apply Keeps.trans ?_ (State.dropPendingMap_keeps ..))
    | (with_reducible apply Keeps.trans ?_ (State.mapTakes_keeps ..))
    | (with_reducible apply Keeps.trans ?_ (State.row_keeps (h5 := ?_) ..))
    | (with_reducible apply Keeps.trans ?_ (State.setMaps_keeps ..))
    | (with_reducible apply Keeps.trans ?_ (State.setReg_keeps ..))
    | with_reducible apply KeepsRes.next
    | intro _
    | dsimp only
    | split

/-! ### Peers -/

theorem State.failSenders_keeps (s : State) (l : List Sender) (st : Status) : Keeps s (State.failSenders s l st) := by
  unfold State.failSenders
  repeat' first
    | with_reducible exact Keeps.refl _
    | (with_reducible apply Keeps.trans ?_ (State.meet_keeps ..))
    | (with_reducible apply Keeps.foldl _ _ _ ?_)
    | intro _
    | split

theorem State.settleSenders_keeps (s : State) (l : List Sender) : Keeps s (State.settleSenders s l) := by
  unfold State.settleSenders
  repeat' first
    | with_reducible exact Keeps.refl _
    | (with_reducible apply Keeps.trans ?_ (State.sentAll_keeps ..))
    | (with_reducible apply Keeps.foldl _ _ _ ?_)
    | intro _
    | split

theorem State.endEpoch_keeps (s : State) (node : Nat) (epoch : Nat) : Keeps s (State.endEpoch s node epoch) := by
  unfold State.endEpoch
  repeat' first
    | with_reducible exact Keeps.refl _
    | (with_reducible apply Keeps.trans ?_ (State.dropFlows_keeps ..))
    | (with_reducible apply Keeps.trans ?_ (Keeps.of_pair (State.dropFlows_keeps ..) ?_); rotate_right; (with_reducible assumption))
    | (with_reducible apply Keeps.trans ?_ (State.fabPeerLost_keeps ..))
    | (with_reducible apply Keeps.trans ?_ (State.failSenders_keeps ..))
    | (with_reducible apply Keeps.trans ?_ (State.settleSenders_keeps ..))
    | (with_reducible apply Keeps.trans ?_ (State.setRcv_keeps ?_))
    | (with_reducible exact id)
    | (with_reducible apply Keeps.trans ?_ (Keeps.foldl _ _ _ ?_))
    | (with_reducible apply Keeps.trans ?_ (Keeps.foldl_pair _ _ _ ?_))
    | intro _
    | dsimp only
    | split

theorem State.loseNode_keeps (s : State) (node epoch : Nat) : Keeps s (State.loseNode s node epoch) := by
  unfold State.loseNode
  repeat' first
    | with_reducible exact Keeps.refl _
    | (with_reducible apply Keeps.trans ?_ (State.bump_keeps ..))
    | (with_reducible apply Keeps.trans ?_ (State.endEpoch_keeps ..))
    | (with_reducible apply Keeps.trans ?_ (State.setRcv_keeps ?_))
    | (with_reducible exact id)
    | split

theorem State.learnEpoch_keeps (s : State) (node : Nat) (e : Nat) : Keeps s (State.learnEpoch s node e) := by
  unfold State.learnEpoch
  repeat' first
    | with_reducible exact Keeps.refl _
    | (with_reducible apply Keeps.trans ?_ (State.endEpoch_keeps ..))
    | (with_reducible apply Keeps.trans ?_ (State.setHup_keeps ..))
    | (with_reducible apply Keeps.trans ?_ (State.setRcv_keeps ?_))
    | (with_reducible exact id)
    | intro _
    | dsimp only
    | split

theorem State.learnGen_keeps (s : State) (node : Nat) (c : Nat) (g : Nat) : Keeps s (State.learnGen s node c g) := by
  unfold State.learnGen
  repeat' first
    | with_reducible exact Keeps.refl _
    | (with_reducible apply Keeps.trans ?_ (State.setHup_keeps ..))
    | with_reducible apply Keeps.ite_snd
    | with_reducible apply Keeps.ite
    | dsimp only
    | split

theorem State.notice_keeps (s : State) (node kind : Nat) (c value : Nat) : Keeps s (State.notice s node kind c value) := by
  unfold State.notice
  repeat' first
    | with_reducible exact Keeps.refl _
    | (with_reducible apply Keeps.trans ?_ (State.sendControl_keeps ..))
    | (with_reducible apply Keeps.trans ?_ (State.setHup_keeps ..))
    | dsimp only
    | split

theorem State.setSpokeState_keeps (s : State) (p state found : Nat) : Keeps s (State.setSpokeState s p state found) := by
  unfold State.setSpokeState
  repeat' first
    | with_reducible exact Keeps.refl _
    | (with_reducible apply Keeps.trans ?_ (State.log!_keeps ..))
    | (with_reducible apply Keeps.trans ?_ (State.setReg_keeps ..))
    | split

theorem State.closeSpoke_keeps (s : State) (p : Nat) (state : Nat) (found : Nat) : Keeps s (State.closeSpoke s p state found) := by
  unfold State.closeSpoke
  all_goals try with_reducible apply Keeps.trans ?_ (Keeps.lit _)
  all_goals repeat' first
    | with_reducible exact Keeps.refl _
    | with_reducible exact Keeps.lit _
    | (with_reducible apply Keeps.trans ?_ (State.bump_keeps ..))
    | (with_reducible apply Keeps.trans ?_ (State.dispatch_keeps ..))
    | (with_reducible apply Keeps.trans ?_ (State.setReg_keeps ..))
    | (with_reducible apply Keeps.trans ?_ (State.setSpoke_keeps ..))
    | (with_reducible apply Keeps.trans ?_ (State.setSpokeState_keeps ..))
    | (with_reducible apply Keeps.trans ?_ (Keeps.foldl _ _ _ ?_))
    | (with_reducible apply Keeps.trans ?_ (Keeps.foldl_pair _ _ _ ?_))
    | intro _
    | dsimp only
    | split
  all_goals try with_reducible apply Keeps.trans ?_ (Keeps.lit _)
  all_goals repeat' first
    | with_reducible exact Keeps.refl _
    | with_reducible exact Keeps.lit _
    | (with_reducible apply Keeps.trans ?_ (State.bump_keeps ..))
    | (with_reducible apply Keeps.trans ?_ (State.dispatch_keeps ..))
    | (with_reducible apply Keeps.trans ?_ (State.setReg_keeps ..))
    | (with_reducible apply Keeps.trans ?_ (State.setSpoke_keeps ..))
    | (with_reducible apply Keeps.trans ?_ (State.setSpokeState_keeps ..))
    | (with_reducible apply Keeps.trans ?_ (Keeps.foldl _ _ _ ?_))
    | (with_reducible apply Keeps.trans ?_ (Keeps.foldl_pair _ _ _ ?_))
    | intro _
    | dsimp only
    | split

theorem State.trainSpoke_keeps (s : State) (p : Nat) : Keeps s (State.trainSpoke s p) := by
  unfold State.trainSpoke
  repeat' first
    | with_reducible exact Keeps.refl _
    | (with_reducible apply Keeps.trans ?_ (State.closeSpoke_keeps ..))
    | (with_reducible apply Keeps.trans ?_ (State.setSpoke_keeps ..))
    | dsimp only
    | split

theorem State.spokeDown_keeps (s : State) (p : Nat) : Keeps s (State.spokeDown s p) := by
  unfold State.spokeDown
  repeat' first
    | with_reducible exact Keeps.refl _
    | (with_reducible apply Keeps.trans ?_ (State.closeSpoke_keeps ..))

theorem State.authFail_keeps (s : State) (p : Nat) : Keeps s (State.authFail s p) := by
  unfold State.authFail
  all_goals try with_reducible apply Keeps.trans ?_ (Keeps.lit _)
  all_goals repeat' first
    | with_reducible exact Keeps.refl _
    | with_reducible exact Keeps.lit _
    | (with_reducible apply Keeps.trans ?_ (State.bump_keeps ..))
    | (with_reducible apply Keeps.trans ?_ (State.setSpoke_keeps ..))
    | (with_reducible apply Keeps.trans ?_ (State.spokeDown_keeps ..))
    | intro _
    | dsimp only
    | split
  all_goals try with_reducible apply Keeps.trans ?_ (Keeps.lit _)
  all_goals repeat' first
    | with_reducible exact Keeps.refl _
    | with_reducible exact Keeps.lit _
    | (with_reducible apply Keeps.trans ?_ (State.bump_keeps ..))
    | (with_reducible apply Keeps.trans ?_ (State.setSpoke_keeps ..))
    | (with_reducible apply Keeps.trans ?_ (State.spokeDown_keeps ..))
    | intro _
    | dsimp only
    | split

theorem State.tagged_keeps (s : State) (p : Nat) (copies : List Bool) (act : State → State) (h3 : ∀ b0, Keeps b0 (act b0)) : Keeps s (State.tagged s p copies act) := by
  unfold State.tagged
  repeat' first
    | with_reducible exact Keeps.refl _
    | (with_reducible apply Keeps.trans ?_ (State.authFail_keeps ..))
    | (with_reducible apply Keeps.trans ?_ (Keeps.foldl _ _ _ ?_))
    | (with_reducible apply Keeps.trans ?_ (Keeps.foldl_pair _ _ _ ?_))
    | (with_reducible apply Keeps.trans ?_ (h3 ..))
    | intro _
    | dsimp only
    | split

theorem State.sendKeyx_keeps (s : State) (p : Nat) (code : Nat) : Keeps s (State.sendKeyx s p code) := by
  unfold State.sendKeyx
  repeat' first
    | with_reducible exact Keeps.refl _
    | (with_reducible apply Keeps.trans ?_ (State.setSpoke_keeps ..))
    | (with_reducible apply Keeps.trans ?_ (State.took_keeps ..))
    | dsimp only
    | split

theorem State.startRekey_keeps (s : State) (p : Nat) : Keeps s (State.startRekey s p) := by
  unfold State.startRekey
  all_goals try with_reducible apply Keeps.trans ?_ (Keeps.lit _)
  all_goals repeat' first
    | with_reducible exact Keeps.refl _
    | with_reducible exact Keeps.lit _
    | (with_reducible apply Keeps.trans ?_ (State.sendKeyx_keeps ..))
    | (with_reducible apply Keeps.trans ?_ (State.setSpoke_keeps ..))
    | dsimp only
    | split
  all_goals try with_reducible apply Keeps.trans ?_ (Keeps.lit _)
  all_goals repeat' first
    | with_reducible exact Keeps.refl _
    | with_reducible exact Keeps.lit _
    | (with_reducible apply Keeps.trans ?_ (State.sendKeyx_keeps ..))
    | (with_reducible apply Keeps.trans ?_ (State.setSpoke_keeps ..))
    | dsimp only
    | split

theorem State.countSent_keeps (s : State) (p : Nat) : Keeps s (State.countSent s p) := by
  unfold State.countSent
  all_goals try with_reducible apply Keeps.trans ?_ (Keeps.lit _)
  all_goals repeat' first
    | with_reducible exact Keeps.refl _
    | with_reducible exact Keeps.lit _
    | (with_reducible apply Keeps.trans ?_ (State.setSpoke_keeps ..))
    | (with_reducible apply Keeps.trans ?_ (State.startRekey_keeps ..))
    | dsimp only
    | split
  all_goals try with_reducible apply Keeps.trans ?_ (Keeps.lit _)
  all_goals repeat' first
    | with_reducible exact Keeps.refl _
    | with_reducible exact Keeps.lit _
    | (with_reducible apply Keeps.trans ?_ (State.setSpoke_keeps ..))
    | (with_reducible apply Keeps.trans ?_ (State.startRekey_keeps ..))
    | dsimp only
    | split

theorem State.sendDatagram_keeps (s : State) (p : Nat) (k : Packet) : Keeps s (State.sendDatagram s p k) := by
  unfold State.sendDatagram
  repeat' first
    | with_reducible exact Keeps.refl _
    | (with_reducible apply Keeps.trans ?_ (State.countSent_keeps ..))
    | (with_reducible apply Keeps.trans ?_ (State.emit_keeps ..))
    | (with_reducible apply Keeps.trans ?_ (State.took_keeps ..))
    | dsimp only
    | split

theorem State.sendSet_keeps (s : State) (p : Nat) (o : OrderedSet) : Keeps s (State.sendSet s p o) := by
  unfold State.sendSet
  repeat' first
    | with_reducible exact Keeps.refl _
    | (with_reducible apply Keeps.trans ?_ (State.emit_keeps ..))
    | (with_reducible apply Keeps.trans ?_ (State.sendDatagram_keeps ..))
    | (with_reducible apply Keeps.trans ?_ (State.took_keeps ..))
    | with_reducible apply Keeps.ite_snd
    | with_reducible apply Keeps.ite
    | dsimp only
    | split

/-! ### Queue -/

theorem State.queueCreate_keeps (s : State) (who : Who) (r : Nat) : Keeps s (State.queueCreate s who r).2 := by
  unfold State.queueCreate
  repeat' first
    | with_reducible exact Keeps.refl _
    | (with_reducible apply Keeps.trans ?_ (State.setQueue_keeps ..))
    | (with_reducible apply Keeps.trans ?_ (State.sramWrote_keeps ..))
    | dsimp only
    | split

theorem State.queueControl_keeps (a0 : State) (a1 : Who) (a2 : Nat) (a3 : Queue → Option State)
    (h3 : ∀ x t, a3 x = some t → Keeps a0 t) : Keeps a0 (State.queueControl a0 a1 a2 a3).2 := by
  unfold State.queueControl
  split
  · exact Keeps.refl _
  · dsimp only
    split
    · split
      · exact h3 _ _ ‹_›
      · exact Keeps.refl _
    · exact Keeps.refl _

theorem State.queuePause_keeps (s : State) (who : Who) (q : Nat) : Keeps s (State.queuePause s who q).2 := by
  unfold State.queuePause
  refine State.queueControl_keeps _ _ _ _ (fun x t h => ?_)
  first
    | (split at h <;> cases h)
    | cases h
  repeat' first
    | with_reducible exact Keeps.refl _
    | (with_reducible apply Keeps.trans ?_ (State.setQueue_keeps ..))

theorem State.queueResume_keeps (s : State) (who : Who) (q : Nat) : Keeps s (State.queueResume s who q).2 := by
  unfold State.queueResume
  refine State.queueControl_keeps _ _ _ _ (fun x t h => ?_)
  first
    | (split at h <;> cases h)
    | cases h
  repeat' first
    | with_reducible exact Keeps.refl _
    | (with_reducible apply Keeps.trans ?_ (State.setQueue_keeps ..))

theorem State.queueReset_keeps (s : State) (who : Who) (q : Nat) : Keeps s (State.queueReset s who q).2 := by
  unfold State.queueReset
  refine State.queueControl_keeps _ _ _ _ (fun x t h => ?_)
  first
    | (split at h <;> cases h)
    | cases h
  repeat' first
    | with_reducible exact Keeps.refl _
    | (with_reducible apply Keeps.trans ?_ (State.setQueue_keeps ..))

theorem State.queueDestroy_keeps (s : State) (who : Who) (q : Nat) : Keeps s (State.queueDestroy s who q).2 := by
  unfold State.queueDestroy
  refine State.queueControl_keeps _ _ _ _ (fun x t h => ?_)
  first
    | (split at h <;> cases h)
    | cases h
  repeat' first
    | with_reducible exact Keeps.refl _
    | (with_reducible apply Keeps.trans ?_ (State.setQueues_keeps ..))

theorem execQueueCreate_keeps (who : Who) (record : Desc) (s : State) : KeepsRes s (execQueueCreate who record s) := by
  unfold execQueueCreate
  repeat' first
    | with_reducible exact Keeps.refl _
    | (with_reducible apply Keeps.trans ?_ (State.queueCreate_keeps ..))
    | (with_reducible apply Keeps.trans ?_ (State.row_keeps (h5 := ?_) ..))
    | with_reducible apply KeepsRes.next
    | intro _

theorem execQueuePause_keeps (who : Who) (queue : Nat) (s : State) : KeepsRes s (execQueuePause who queue s) := by
  unfold execQueuePause
  repeat' first
    | with_reducible exact Keeps.refl _
    | (with_reducible apply Keeps.trans ?_ (State.queuePause_keeps ..))
    | (with_reducible apply Keeps.trans ?_ (State.row_keeps (h5 := ?_) ..))
    | with_reducible apply KeepsRes.next
    | intro _

theorem execQueueResume_keeps (who : Who) (queue : Nat) (s : State) : KeepsRes s (execQueueResume who queue s) := by
  unfold execQueueResume
  repeat' first
    | with_reducible exact Keeps.refl _
    | (with_reducible apply Keeps.trans ?_ (State.queueResume_keeps ..))
    | (with_reducible apply Keeps.trans ?_ (State.row_keeps (h5 := ?_) ..))
    | with_reducible apply KeepsRes.next
    | intro _

theorem execQueueReset_keeps (who : Who) (queue : Nat) (s : State) : KeepsRes s (execQueueReset who queue s) := by
  unfold execQueueReset
  repeat' first
    | with_reducible exact Keeps.refl _
    | (with_reducible apply Keeps.trans ?_ (State.queueReset_keeps ..))
    | (with_reducible apply Keeps.trans ?_ (State.row_keeps (h5 := ?_) ..))
    | with_reducible apply KeepsRes.next
    | intro _

theorem execQueueDestroy_keeps (who : Who) (queue : Nat) (s : State) : KeepsRes s (execQueueDestroy who queue s) := by
  unfold execQueueDestroy
  repeat' first
    | with_reducible exact Keeps.refl _
    | (with_reducible apply Keeps.trans ?_ (State.queueDestroy_keeps ..))
    | (with_reducible apply Keeps.trans ?_ (State.row_keeps (h5 := ?_) ..))
    | with_reducible apply KeepsRes.next
    | intro _

theorem State.discardDoorbell_keeps (s : State) : Keeps s (State.discardDoorbell s) := by
  unfold State.discardDoorbell
  repeat' first
    | with_reducible exact Keeps.refl _
    | (with_reducible apply Keeps.trans ?_ (State.bump_keeps ..))

theorem State.setTail_keeps (s : State) (q : Nat) (v : Nat) : Keeps s (State.setTail s q v) := by
  unfold State.setTail
  all_goals try with_reducible apply Keeps.trans ?_ (Keeps.lit _)
  all_goals repeat' first
    | with_reducible exact Keeps.refl _
    | with_reducible exact Keeps.lit _
    | (with_reducible apply Keeps.trans ?_ (State.discardDoorbell_keeps ..))
    | (with_reducible apply Keeps.trans ?_ (State.queueError_keeps ..))
    | (with_reducible apply Keeps.trans ?_ (State.setQueue_keeps ..))
    | with_reducible apply Keeps.ite_snd
    | with_reducible apply Keeps.ite
    | dsimp only
    | split
  all_goals try with_reducible apply Keeps.trans ?_ (Keeps.lit _)
  all_goals repeat' first
    | with_reducible exact Keeps.refl _
    | with_reducible exact Keeps.lit _
    | (with_reducible apply Keeps.trans ?_ (State.discardDoorbell_keeps ..))
    | (with_reducible apply Keeps.trans ?_ (State.queueError_keeps ..))
    | (with_reducible apply Keeps.trans ?_ (State.setQueue_keeps ..))
    | with_reducible apply Keeps.ite_snd
    | with_reducible apply Keeps.ite
    | dsimp only
    | split

theorem execSqTailDoorbell_keeps (function queue : Nat) (size value : Nat) (s : State) : KeepsRes s (execSqTailDoorbell function queue size value s) := by
  unfold execSqTailDoorbell
  repeat' first
    | with_reducible exact Keeps.refl _
    | (with_reducible apply Keeps.trans ?_ (State.discardDoorbell_keeps ..))
    | (with_reducible apply Keeps.trans ?_ (State.setTail_keeps ..))
    | with_reducible apply KeepsRes.next
    | split

theorem State.setCqHead_keeps (s : State) (q v : Nat) : Keeps s (State.setCqHead s q v) := by
  unfold State.setCqHead
  repeat' first
    | with_reducible exact Keeps.refl _
    | (with_reducible apply Keeps.trans ?_ (State.discardDoorbell_keeps ..))
    | (with_reducible apply Keeps.trans ?_ (State.setQueue_keeps ..))
    | split

theorem execCqHeadDoorbell_keeps (function queue : Nat) (size value : Nat) (s : State) : KeepsRes s (execCqHeadDoorbell function queue size value s) := by
  unfold execCqHeadDoorbell
  repeat' first
    | with_reducible exact Keeps.refl _
    | (with_reducible apply Keeps.trans ?_ (State.discardDoorbell_keeps ..))
    | (with_reducible apply Keeps.trans ?_ (State.setCqHead_keeps ..))
    | with_reducible apply KeepsRes.next
    | split

theorem State.takeHead_keeps (s : State) (q : Nat) (x : Queue) : Keeps s (State.takeHead s q x) := by
  unfold State.takeHead
  all_goals try with_reducible apply Keeps.trans ?_ (Keeps.lit _)
  all_goals repeat' first
    | with_reducible exact Keeps.refl _
    | with_reducible exact Keeps.lit _
    | (with_reducible apply Keeps.trans ?_ (State.setQueue_keeps ..))
    | (with_reducible apply Keeps.trans ?_ (State.setQueues_keeps ..))
    | with_reducible apply Keeps.ite_snd
    | with_reducible apply Keeps.ite
    | intro _
    | dsimp only
    | split
  all_goals try with_reducible apply Keeps.trans ?_ (Keeps.lit _)
  all_goals repeat' first
    | with_reducible exact Keeps.refl _
    | with_reducible exact Keeps.lit _
    | (with_reducible apply Keeps.trans ?_ (State.setQueue_keeps ..))
    | (with_reducible apply Keeps.trans ?_ (State.setQueues_keeps ..))
    | with_reducible apply Keeps.ite_snd
    | with_reducible apply Keeps.ite
    | intro _
    | dsimp only
    | split

theorem State.acceptHead_keeps (s : State) (q : Nat) (x : Queue) : Keeps s (State.acceptHead s q x) := by
  unfold State.acceptHead
  all_goals try with_reducible apply Keeps.trans ?_ (Keeps.lit _)
  all_goals repeat' first
    | with_reducible exact Keeps.refl _
    | with_reducible exact Keeps.lit _
    | (with_reducible apply Keeps.trans ?_ (State.acceptItem_keeps ..))
    | (with_reducible apply Keeps.trans ?_ (State.ctxRead_keeps ..))
    | (with_reducible apply Keeps.trans ?_ (Keeps.of_pair (State.ctxRead_keeps ..) ?_); rotate_right; (with_reducible assumption))
    | (with_reducible apply Keeps.trans ?_ (State.finishWith_keeps ..))
    | (with_reducible apply Keeps.trans ?_ (State.queueError_keeps ..))
    | (with_reducible apply Keeps.trans ?_ (State.refuse_keeps ..))
    | (with_reducible apply Keeps.trans ?_ (State.takeHead_keeps ..))
    | with_reducible apply Keeps.ite_snd
    | with_reducible apply Keeps.ite
    | dsimp only
    | split
  all_goals try with_reducible apply Keeps.trans ?_ (Keeps.lit _)
  all_goals repeat' first
    | with_reducible exact Keeps.refl _
    | with_reducible exact Keeps.lit _
    | (with_reducible apply Keeps.trans ?_ (State.acceptItem_keeps ..))
    | (with_reducible apply Keeps.trans ?_ (State.ctxRead_keeps ..))
    | (with_reducible apply Keeps.trans ?_ (Keeps.of_pair (State.ctxRead_keeps ..) ?_); rotate_right; (with_reducible assumption))
    | (with_reducible apply Keeps.trans ?_ (State.finishWith_keeps ..))
    | (with_reducible apply Keeps.trans ?_ (State.queueError_keeps ..))
    | (with_reducible apply Keeps.trans ?_ (State.refuse_keeps ..))
    | (with_reducible apply Keeps.trans ?_ (State.takeHead_keeps ..))
    | with_reducible apply Keeps.ite_snd
    | with_reducible apply Keeps.ite
    | dsimp only
    | split

theorem execItemCompletion_keeps (item stampNs : Nat) (s : State) : KeepsRes s (execItemCompletion item stampNs s) := by
  unfold execItemCompletion
  repeat' first
    | with_reducible exact Keeps.refl _
    | (with_reducible apply Keeps.trans ?_ (State.completeItem_keeps ..))
    | with_reducible apply KeepsRes.next
    | split

theorem execSummaryFlush_keeps (ctx : Nat) (s : State) : KeepsRes s (execSummaryFlush ctx s) := by
  unfold execSummaryFlush
  repeat' first
    | with_reducible exact Keeps.refl _
    | (with_reducible apply Keeps.trans ?_ (State.flushSummary_keeps ..))
    | with_reducible apply KeepsRes.next

theorem State.writeDeferred_keeps (s : State) (q : Nat) (a2 : List Nat) : Keeps s (State.writeDeferred s q a2) := by
  fun_induction State.writeDeferred s q a2 <;> try dsimp only
  all_goals
    repeat' first
      | with_reducible exact Keeps.refl _
      | (with_reducible apply Keeps.trans ?_ (State.writeEntry_keeps ..))
      | (with_reducible apply Keeps.trans ?_ ?_; rotate_right; (with_reducible assumption))

theorem execDeferredCqWrite_keeps (queue : Nat) (s : State) : KeepsRes s (execDeferredCqWrite queue s) := by
  unfold execDeferredCqWrite
  repeat' first
    | with_reducible exact Keeps.refl _
    | (with_reducible apply Keeps.trans ?_ (State.setQueue_keeps ..))
    | (with_reducible apply Keeps.trans ?_ (State.writeDeferred_keeps ..))
    | with_reducible apply KeepsRes.next
    | split

theorem execIrqHoldoffExpiry_keeps (queue : Nat) (s : State) : KeepsRes s (execIrqHoldoffExpiry queue s) := by
  unfold execIrqHoldoffExpiry
  repeat' first
    | with_reducible exact Keeps.refl _
    | (with_reducible apply Keeps.trans ?_ (State.ringInterrupt_keeps ..))
    | (with_reducible apply Keeps.trans ?_ (State.setQueue_keeps ..))
    | with_reducible apply KeepsRes.next
    | dsimp only
    | split

theorem execQmNop_keeps (item : Nat) (s : State) : KeepsRes s (execQmNop item s) := by
  unfold execQmNop
  repeat' first
    | with_reducible exact Keeps.refl _
    | (with_reducible apply Keeps.trans ?_ (State.finish_keeps ..))
    | (with_reducible apply Keeps.trans ?_ (State.withItem_keeps (h3 := ?_) ..))
    | with_reducible apply KeepsRes.next
    | intro _

theorem State.qmDoorbell_keeps (s : State) (n : Nat) (it : Item) : Keeps s (State.qmDoorbell s n it) := by
  unfold State.qmDoorbell
  repeat' first
    | with_reducible exact Keeps.refl _
    | (with_reducible apply Keeps.trans ?_ (State.finish_keeps ..))
    | (with_reducible apply Keeps.trans ?_ (State.finishWith_keeps ..))
    | (with_reducible apply Keeps.trans ?_ (State.queueError_keeps ..))
    | (with_reducible apply Keeps.trans ?_ (State.setTail_keeps ..))
    | dsimp only
    | split

theorem execDoorbell_keeps (item : Nat) (s : State) : KeepsRes s (execDoorbell item s) := by
  unfold execDoorbell
  repeat' first
    | with_reducible exact Keeps.refl _
    | (with_reducible apply Keeps.trans ?_ (State.qmDoorbell_keeps ..))
    | (with_reducible apply Keeps.trans ?_ (State.withItem_keeps (h3 := ?_) ..))
    | with_reducible apply KeepsRes.next
    | intro _

theorem execBarrier_keeps (item : Nat) (s : State) : KeepsRes s (execBarrier item s) := by
  unfold execBarrier
  repeat' first
    | with_reducible exact Keeps.refl _
    | (with_reducible apply Keeps.trans ?_ (State.finish_keeps ..))
    | (with_reducible apply Keeps.trans ?_ (State.withItem_keeps (h3 := ?_) ..))
    | with_reducible apply KeepsRes.next
    | intro _

/-! ### Recovery -/

theorem State.pauseQueues_keeps (s : State) (c : Nat) : Keeps s (State.pauseQueues s c) := by
  unfold State.pauseQueues
  repeat' first
    | with_reducible exact Keeps.refl _
    | (with_reducible apply Keeps.trans ?_ (State.setQueues_keeps ..))

theorem State.failItems_keeps (s : State) (c : Nat) : Keeps s (State.failItems s c) := by
  unfold State.failItems
  repeat' first
    | with_reducible exact Keeps.refl _
    | (with_reducible apply Keeps.trans ?_ (State.finishWith_keeps ..))
    | (with_reducible apply Keeps.foldl _ _ _ ?_)
    | intro _

theorem State.withdrawWork_keeps (s : State) (c : Nat) : Keeps s (State.withdrawWork s c) := by
  unfold State.withdrawWork
  repeat' first
    | (with_reducible apply Keeps.trans ?_ (State.collForget_keeps ..))
    | (with_reducible apply Keeps.trans ?_ (State.routerForget_keeps ..))
    | (with_reducible apply Keeps.trans ?_ (State.setPlan_keeps ..))
    | dsimp only
  all_goals try with_reducible apply Keeps.trans ?_ (Keeps.lit _)
  all_goals repeat' first
    | with_reducible exact Keeps.refl _
    | (with_reducible apply Keeps.trans ?_ (State.failItems_keeps ..))
    | (with_reducible apply Keeps.trans ?_ (State.setFacets_keeps ..))

theorem State.beginReset_keeps (s : State) (c : Nat) (cause : Nat) (toFree : Bool) : Keeps s (State.beginReset s c cause toFree) := by
  unfold State.beginReset
  repeat' first
    | with_reducible exact Keeps.refl _
    | (with_reducible apply Keeps.trans ?_ (State.bump_keeps ..))
    | (with_reducible apply Keeps.trans ?_ (State.clearCounters_keeps ..))
    | (with_reducible apply Keeps.trans ?_ (State.dropPendingMap_keeps ..))
    | (with_reducible apply Keeps.trans ?_ (State.fabContextReset_keeps ..))
    | (with_reducible apply Keeps.trans ?_ (State.genNotices_keeps ..))
    | (with_reducible apply Keeps.trans ?_ (State.log!_keeps ..))
    | (with_reducible apply Keeps.trans ?_ (State.pauseQueues_keeps ..))
    | (with_reducible apply Keeps.trans ?_ (State.poolsReset_keeps ..))
    | (with_reducible apply Keeps.trans ?_ (State.setMaint_keeps ..))
    | (with_reducible apply Keeps.trans ?_ (State.setReg_keeps ..))
    | (with_reducible apply Keeps.trans ?_ (State.withdrawWork_keeps ..))
    | (with_reducible apply Keeps.trans ?_ (State.setRcv_keeps ?_))
    | (with_reducible exact id)
    | intro _
    | dsimp only
    | split

theorem State.contextReset_keeps (s : State) (c cause : Nat) (toFree : Bool) : Keeps s (State.contextReset s c cause toFree) := by
  unfold State.contextReset
  repeat' first
    | with_reducible exact Keeps.refl _
    | (with_reducible apply Keeps.trans ?_ (State.beginReset_keeps ..))
    | (with_reducible apply Keeps.trans ?_ (State.setRcv_keeps ?_))
    | (with_reducible exact id)
    | dsimp only
    | split

theorem State.acceptNext_keeps (s : State) (q : Nat) : Keeps s (State.acceptNext s q) := by
  unfold State.acceptNext
  repeat' first
    | with_reducible exact Keeps.refl _
    | (with_reducible apply Keeps.trans ?_ (State.acceptHead_keeps ..))
    | (with_reducible apply Keeps.trans ?_ (State.contextReset_keeps ..))
    | (with_reducible apply Keeps.trans ?_ (State.sramRead_keeps ..))
    | (with_reducible apply Keeps.trans ?_ (Keeps.of_pair (State.sramRead_keeps ..) ?_); rotate_right; (with_reducible assumption))
    | dsimp only
    | split

theorem execDescriptorAccept_keeps (queue : Nat) (s : State) : KeepsRes s (execDescriptorAccept queue s) := by
  unfold execDescriptorAccept
  repeat' first
    | with_reducible exact Keeps.refl _
    | (with_reducible apply Keeps.trans ?_ (State.acceptNext_keeps ..))
    | with_reducible apply KeepsRes.next

theorem execContextReset_keeps (who : Who) (ctx : Nat) (s : State) : KeepsRes s (execContextReset who ctx s) := by
  unfold execContextReset
  repeat' first
    | with_reducible exact Keeps.refl _
    | (with_reducible apply Keeps.trans ?_ (State.contextReset_keeps ..))
    | (with_reducible apply Keeps.trans ?_ (State.row_keeps (h5 := ?_) ..))
    | with_reducible apply KeepsRes.next
    | intro _

theorem execContextResetDeferredStart_keeps (ctx : Nat) (s : State) : KeepsRes s (execContextResetDeferredStart ctx s) := by
  unfold execContextResetDeferredStart
  repeat' first
    | with_reducible exact Keeps.refl _
    | (with_reducible apply Keeps.trans ?_ (State.beginReset_keeps ..))
    | (with_reducible apply Keeps.trans ?_ (State.setRcv_keeps ?_))
    | with_reducible apply KeepsRes.next
    | (with_reducible exact id)
    | dsimp only
    | split

theorem State.writeResetRecord_keeps (s : State) (reason causeSeq : Nat) (dump : Bool) : Keeps s (State.writeResetRecord s reason causeSeq dump) := by
  unfold State.writeResetRecord
  repeat' first
    | with_reducible exact Keeps.refl _
    | (with_reducible apply Keeps.trans ?_ (State.setFields_keeps ..))

theorem State.flipDump_keeps (s : State) (len : Nat) : Keeps s (State.flipDump s len) := by
  unfold State.flipDump
  repeat' first
    | with_reducible exact Keeps.refl _
    | (with_reducible apply Keeps.trans ?_ (State.setReg_keeps ..))
    | (with_reducible apply Keeps.trans ?_ (State.took_keeps ..))
    | (with_reducible apply Keeps.trans ?_ (State.setHbm_keeps ?_))
    | (with_reducible apply Keeps.trans ?_ (State.setRcv_keeps ?_))
    | (with_reducible exact id)
    | exact Memory.wf_putN _ _ _
    | dsimp only
    | split

theorem State.beginDump_keeps (s : State) (reason : Nat) : Keeps s (State.beginDump s reason) := by
  unfold State.beginDump
  dsimp only
  refine Keeps.trans ?_ (State.flipDump_keeps ..)
  refine Keeps.trans ?_ (State.took_keeps ..)
  refine Keeps.trans ?_ (State.setHbm_keeps id)
  exact State.setRcv_keeps (fun _ => Memory.wf_putN _ _ _ rfl)

theorem State.wipe_keeps (s : State) : Keeps s (State.wipe s) := by
  exact ⟨rfl, fun _ => rfl, fun _ => rfl, id, fun _ => (List.forall_mem_nil _), fun _ => ⟨List.Pairwise.nil, List.forall_mem_nil _⟩⟩

theorem State.sendResetNotices_keeps (s : State) (reason : Nat) : Keeps s (State.sendResetNotices s reason) := by
  unfold State.sendResetNotices
  repeat' first
    | with_reducible exact Keeps.refl _
    | (with_reducible apply Keeps.trans ?_ (State.sendSet_keeps ..))
    | (with_reducible apply Keeps.trans ?_ (Keeps.foldl _ _ _ ?_))
    | (with_reducible apply Keeps.trans ?_ (Keeps.foldl_pair _ _ _ ?_))
    | intro _
    | dsimp only
    | split

theorem State.deviceReset_keeps (s : State) (reason : Nat) (dump : Bool) (causeSeq : Nat) : Keeps s (State.deviceReset s reason dump causeSeq) := by
  unfold State.deviceReset
  repeat' first
    | with_reducible exact Keeps.refl _
    | (with_reducible apply Keeps.trans ?_ (State.beginDump_keeps ..))
    | (with_reducible apply Keeps.trans ?_ (State.bump_keeps ..))
    | (with_reducible apply Keeps.trans ?_ (State.log!_keeps ..))
    | (with_reducible apply Keeps.trans ?_ (State.sendResetNotices_keeps ..))
    | (with_reducible apply Keeps.trans ?_ (State.setRcv_keeps ?_))
    | (with_reducible apply Keeps.trans ?_ (State.wipe_keeps ..))
    | (with_reducible apply Keeps.trans ?_ (State.writeResetRecord_keeps ..))
    | (with_reducible exact id)
    | dsimp only
    | split

theorem State.deviceFatal_keeps (s : State) (cause detail reason : Nat) : Keeps s (State.deviceFatal s cause detail reason) := by
  unfold State.deviceFatal
  repeat' first
    | with_reducible exact Keeps.refl _
    | (with_reducible apply Keeps.trans ?_ (State.deviceReset_keeps ..))
    | (with_reducible apply Keeps.trans ?_ (State.log!_keeps ..))
    | dsimp only
    | split

theorem execDeviceFatalFault_keeps (cause detail : Nat) (s : State) : KeepsRes s (execDeviceFatalFault cause detail s) := by
  unfold execDeviceFatalFault
  repeat' first
    | with_reducible exact Keeps.refl _
    | (with_reducible apply Keeps.trans ?_ (State.deviceFatal_keeps ..))
    | with_reducible apply KeepsRes.next

theorem execWarm_keeps (who : Who) (s : State) : KeepsRes s (execWarm who s) := by
  unfold execWarm
  repeat' first
    | with_reducible exact Keeps.refl _
    | (with_reducible apply Keeps.trans ?_ (State.deviceReset_keeps ..))
    | (with_reducible apply Keeps.trans ?_ (State.row_keeps (h5 := ?_) ..))
    | with_reducible apply KeepsRes.next
    | intro _

theorem execWarmWithDump_keeps (who : Who) (s : State) : KeepsRes s (execWarmWithDump who s) := by
  unfold execWarmWithDump
  repeat' first
    | with_reducible exact Keeps.refl _
    | (with_reducible apply Keeps.trans ?_ (State.deviceReset_keeps ..))
    | (with_reducible apply Keeps.trans ?_ (State.row_keeps (h5 := ?_) ..))
    | with_reducible apply KeepsRes.next
    | intro _

theorem State.cutDump_keeps (s : State) : Keeps s (State.cutDump s) := by
  unfold State.cutDump
  repeat' first
    | with_reducible exact Keeps.refl _
    | (with_reducible apply Keeps.trans ?_ (State.setRcv_keeps ?_))
    | (with_reducible apply Keeps.trans ?_ (State.setReg_keeps ..))
    | (with_reducible exact id)
    | dsimp only
    | split

theorem execMgmtWatchdogExpiry_keeps (s : State) : KeepsRes s (execMgmtWatchdogExpiry s) := by
  unfold execMgmtWatchdogExpiry
  repeat' first
    | with_reducible exact Keeps.refl _
    | (with_reducible apply Keeps.trans ?_ (State.cutDump_keeps ..))
    | (with_reducible apply Keeps.trans ?_ (State.deviceReset_keeps ..))
    | with_reducible apply KeepsRes.next

theorem State.setRetired_keeps (s : State) (f : Nat) : Keeps s (State.setRetired s f) := by
  unfold State.setRetired
  repeat' first
    | with_reducible exact Keeps.refl _
    | (with_reducible apply Keeps.trans ?_ (State.flashPut_keeps ..))
    | (with_reducible apply Keeps.trans ?_ (State.setFields_keeps ..))
    | dsimp only
    | split
  all_goals try with_reducible apply Keeps.trans ?_ (Keeps.lit _)
  all_goals repeat' first
    | with_reducible exact Keeps.refl _
    | (with_reducible apply Keeps.trans ?_ (State.setFields_keeps ..))

theorem State.emptyPlans_keeps (s : State) (f : Nat) : Keeps s (State.emptyPlans s f) := by
  unfold State.emptyPlans
  repeat' first
    | with_reducible exact Keeps.refl _
    | (with_reducible apply Keeps.trans ?_ (State.planTo_keeps ..))
    | (with_reducible apply Keeps.trans ?_ (State.setPlan_keeps ..))
    | (with_reducible apply Keeps.foldl _ _ _ ?_)
    | intro _
    | split

theorem State.retireFacet_keeps (s : State) (f : Nat) (vertexOk : Bool) : Keeps s (State.retireFacet s f vertexOk) := by
  unfold State.retireFacet
  repeat' first
    | with_reducible exact Keeps.refl _
    | (with_reducible apply Keeps.trans ?_ (State.emptyPlans_keeps ..))
    | (with_reducible apply Keeps.trans ?_ (State.enter_keeps ..))
    | (with_reducible apply Keeps.trans ?_ (State.log!_keeps ..))
    | (with_reducible apply Keeps.trans ?_ (State.setRetired_keeps ..))
    | dsimp only
    | split

theorem State.takeStep_keeps (s : State) (c : Nat) (i : EngineRef) (step : Nat) : Keeps s (State.takeStep s c i step) := by
  unfold State.takeStep
  repeat' first
    | with_reducible exact Keeps.refl _
    | (with_reducible apply Keeps.trans ?_ (State.log!_keeps ..))
    | (with_reducible apply Keeps.trans ?_ (State.setRcv_keeps ?_))
    | (with_reducible apply Keeps.trans ?_ (State.setReg_keeps ..))
    | (with_reducible exact id)
    | dsimp only
    | split

theorem State.leaveStep_keeps (s : State) (c f : Nat) : Keeps s (State.leaveStep s c f) := by
  unfold State.leaveStep
  repeat' first
    | with_reducible exact Keeps.refl _
    | (with_reducible apply Keeps.trans ?_ (State.completeItem_keeps ..))
    | (with_reducible apply Keeps.foldl _ _ _ ?_)
    | intro _

theorem State.startFacetReset_keeps (s : State) (f : Nat) : Keeps s (State.startFacetReset s f) := by
  unfold State.startFacetReset
  repeat' first
    | with_reducible exact Keeps.refl _
    | (with_reducible apply Keeps.trans ?_ (State.setFacet_keeps ..))
    | (with_reducible apply Keeps.trans ?_ (State.setRcv_keeps ?_))
    | (with_reducible exact id)

theorem State.leaveLadder_keeps (s : State) (f c : Nat) : Keeps s (State.leaveLadder s f c) := by
  unfold State.leaveLadder
  repeat' first
    | with_reducible exact Keeps.refl _
    | (with_reducible apply Keeps.trans ?_ (State.leaveStep_keeps ..))
    | (with_reducible apply Keeps.trans ?_ (State.setRcv_keeps ?_))
    | (with_reducible exact id)
    | dsimp only
    | split

theorem State.failFacet_keeps (s : State) (f : Nat) (vertexOk : Bool) : Keeps s (State.failFacet s f vertexOk) := by
  unfold State.failFacet
  repeat' first
    | with_reducible exact Keeps.refl _
    | (with_reducible apply Keeps.trans ?_ (State.leaveLadder_keeps ..))
    | (with_reducible apply Keeps.trans ?_ (State.log!_keeps ..))
    | (with_reducible apply Keeps.trans ?_ (State.retireFacet_keeps ..))
    | (with_reducible apply Keeps.trans ?_ (State.setRcv_keeps ?_))
    | (with_reducible apply Keeps.trans ?_ (State.takeStep_keeps ..))
    | (with_reducible apply Keeps.foldl _ _ _ ?_)
    | (with_reducible apply Keeps.trans ?_ (Keeps.foldl _ _ _ ?_))
    | (with_reducible exact id)
    | intro _
    | split

theorem State.lastStep_keeps (s : State) (c : Nat) (i : EngineRef) : Keeps s (State.lastStep s c i) := by
  unfold State.lastStep
  repeat' first
    | with_reducible exact Keeps.refl _
    | (with_reducible apply Keeps.trans ?_ (State.deviceFatal_keeps ..))
    | (with_reducible apply Keeps.trans ?_ (State.takeStep_keeps ..))

theorem execEscalationStepTimeout_keeps (ctx : Nat) (inst : EngineRef) (cleared : Bool) (s : State) : KeepsRes s (execEscalationStepTimeout ctx inst cleared s) := by
  unfold execEscalationStepTimeout
  repeat' first
    | with_reducible exact Keeps.refl _
    | (with_reducible apply Keeps.trans ?_ (State.failFacet_keeps ..))
    | (with_reducible apply Keeps.trans ?_ (State.lastStep_keeps ..))
    | (with_reducible apply Keeps.trans ?_ (State.leaveStep_keeps ..))
    | (with_reducible apply Keeps.trans ?_ (State.startFacetReset_keeps ..))
    | (with_reducible apply Keeps.trans ?_ (State.takeStep_keeps ..))
    | with_reducible apply KeepsRes.next
    | dsimp only
    | split

theorem execFacetResetDone_keeps (facet : Nat) (passed vertexOk : Bool) (s : State) : KeepsRes s (execFacetResetDone facet passed vertexOk s) := by
  unfold execFacetResetDone
  repeat' first
    | with_reducible exact Keeps.refl _
    | (with_reducible apply Keeps.trans ?_ (State.bump_keeps ..))
    | (with_reducible apply Keeps.trans ?_ (State.failFacet_keeps ..))
    | (with_reducible apply Keeps.trans ?_ (State.fmZero_keeps ..))
    | (with_reducible apply Keeps.trans ?_ (State.leaveLadder_keeps ..))
    | (with_reducible apply Keeps.trans ?_ (State.setRcv_keeps ?_))
    | (with_reducible apply Keeps.trans ?_ (State.setRegF_keeps ..))
    | with_reducible apply KeepsRes.next
    | (with_reducible apply Keeps.trans ?_ (Keeps.foldl _ _ _ ?_))
    | (with_reducible exact id)
    | intro _
    | dsimp only
    | split

theorem State.facetFatal_keeps (s : State) (f cause thread : Nat) : Keeps s (State.facetFatal s f cause thread) := by
  unfold State.facetFatal
  repeat' first
    | with_reducible exact Keeps.refl _
    | (with_reducible apply Keeps.trans ?_ (State.contextReset_keeps ..))
    | (with_reducible apply Keeps.trans ?_ (State.log!_keeps ..))
    | (with_reducible apply Keeps.trans ?_ (State.startFacetReset_keeps ..))
    | (with_reducible apply Keeps.trans ?_ (State.takeStep_keeps ..))
    | dsimp only
    | split

theorem execFacetFatalFault_keeps (facet cause thread : Nat) (s : State) : KeepsRes s (execFacetFatalFault facet cause thread s) := by
  unfold execFacetFatalFault
  repeat' first
    | with_reducible exact Keeps.refl _
    | (with_reducible apply Keeps.trans ?_ (State.facetFatal_keeps ..))
    | with_reducible apply KeepsRes.next
    | split

theorem execThreadStallTimeout_keeps (facet thread : Nat) (s : State) : KeepsRes s (execThreadStallTimeout facet thread s) := by
  unfold execThreadStallTimeout
  repeat' first
    | with_reducible exact Keeps.refl _
    | (with_reducible apply Keeps.trans ?_ (State.facetFatal_keeps ..))
    | with_reducible apply KeepsRes.next
    | split

theorem State.withdrawn_keeps (s : State) (c : Nat) (w : Withdrawal) : Keeps s (State.withdrawn s c w) := by
  unfold State.withdrawn
  repeat' first
    | with_reducible exact Keeps.refl _
    | (with_reducible apply Keeps.trans ?_ (State.completeItem_keeps ..))
    | (with_reducible apply Keeps.trans ?_ (State.log!_keeps ..))
    | (with_reducible apply Keeps.trans ?_ (State.planTo_keeps ..))
    | (with_reducible apply Keeps.trans ?_ (State.setPlan_keeps ..))
    | (with_reducible apply Keeps.trans ?_ (State.setReg_keeps ..))
    | (with_reducible apply Keeps.trans ?_ (State.settle_keeps ..))
    | (with_reducible apply Keeps.trans ?_ (State.setRcv_keeps ?_))
    | (with_reducible exact id)
    | (with_reducible apply Keeps.trans ?_ (Keeps.foldl _ _ _ ?_))
    | (with_reducible apply Keeps.trans ?_ (Keeps.foldl_pair _ _ _ ?_))
    | intro _
    | dsimp only
    | split

theorem execPeerLostWrite_keeps (who : Who) (node : Nat) (s : State) : KeepsRes s (execPeerLostWrite who node s) := by
  unfold execPeerLostWrite
  repeat' first
    | with_reducible exact Keeps.refl _
    | (with_reducible apply Keeps.trans ?_ (State.log!_keeps ..))
    | (with_reducible apply Keeps.trans ?_ (State.loseNode_keeps ..))
    | (with_reducible apply Keeps.trans ?_ (State.row_keeps (h5 := ?_) ..))
    | with_reducible apply KeepsRes.next
    | intro _
    | dsimp only
    | split

theorem execErrorFlashCopy_keeps (s : State) : KeepsRes s (execErrorFlashCopy s) := by
  unfold execErrorFlashCopy
  repeat' first
    | with_reducible exact Keeps.refl _
    | (with_reducible apply Keeps.trans ?_ (State.setLog_keeps ..))
    | with_reducible apply KeepsRes.next
    | dsimp only
    | split

theorem execErrorFlashClear_keeps (who : Who) (s : State) : KeepsRes s (execErrorFlashClear who s) := by
  unfold execErrorFlashClear
  repeat' first
    | with_reducible exact Keeps.refl _
    | (with_reducible apply Keeps.trans ?_ (State.row_keeps (h5 := ?_) ..))
    | (with_reducible apply Keeps.trans ?_ (State.setLog_keeps ..))
    | with_reducible apply KeepsRes.next
    | intro _

theorem execFacetRetiredWrite_keeps (who : Who) (bits : Nat) (flashOk : Bool) (s : State) : KeepsRes s (execFacetRetiredWrite who bits flashOk s) := by
  unfold execFacetRetiredWrite
  repeat' first
    | with_reducible exact Keeps.refl _
    | (with_reducible apply Keeps.trans ?_ (State.flashFailed_keeps ..))
    | (with_reducible apply Keeps.trans ?_ (State.row_keeps (h5 := ?_) ..))
    | (with_reducible apply Keeps.trans ?_ (State.store_keeps _ _ _ _ (fun h => absurd h (by decide))))
    | with_reducible apply KeepsRes.next
    | intro _
    | dsimp only
    | split

theorem execCrashDumpClear_keeps (who : Who) (s : State) : KeepsRes s (execCrashDumpClear who s) := by
  unfold execCrashDumpClear
  refine KeepsRes.next (State.row_keeps _ _ _ _ _ _ (fun x => ?_))
  exact (State.setRcv_keeps (fun _ => rfl)).trans (State.setReg_keeps ..)

/-! ### Requester -/

theorem State.dropRequester_keeps (s : State) (r : Nat) : Keeps s (State.dropRequester s r) := by
  unfold State.dropRequester
  repeat' first
    | with_reducible exact Keeps.refl _
    | (with_reducible apply Keeps.trans ?_ (State.closeTransfer_keeps ..))
    | (with_reducible apply Keeps.trans ?_ (State.setDict_keeps ..))

theorem State.resetMailbox_keeps (s : State) (f : Nat) : Keeps s (State.resetMailbox s f) := by
  unfold State.resetMailbox
  repeat' first
    | with_reducible exact Keeps.refl _
    | (with_reducible apply Keeps.trans ?_ (State.closeTransfer_keeps ..))
    | (with_reducible apply Keeps.trans ?_ (State.setDict_keeps ..))

theorem State.setKeys_keeps (s : State) (c : Nat) (k : ContextKeys) : Keeps s (State.setKeys s c k) := by
  unfold State.setKeys
  repeat' first
    | with_reducible exact Keeps.refl _
    | (with_reducible apply Keeps.trans ?_ (State.setSec_keeps ..))

theorem State.eraseKeys_keeps (s : State) (c : Nat) : Keeps s (State.eraseKeys s c) := by
  unfold State.eraseKeys
  repeat' first
    | with_reducible exact Keeps.refl _
    | (with_reducible apply Keeps.trans ?_ (State.setKeys_keeps ..))

theorem State.defaultTenantObjects_keeps (s : State) (c : Nat) : Keeps s (State.defaultTenantObjects s c) := by
  unfold State.defaultTenantObjects
  exact ⟨rfl, id, id, id, Keeps.waits_filter _, id⟩

theorem State.toFree_keeps (s : State) (c : Nat) : Keeps s (State.toFree s c) := by
  unfold State.toFree
  repeat' first
    | with_reducible exact Keeps.refl _
    | (with_reducible apply Keeps.trans ?_ (State.clearReg_keeps ..))
    | (with_reducible apply Keeps.trans ?_ (State.closeTransfer_keeps ..))
    | (with_reducible apply Keeps.trans ?_ (State.defaultTenantObjects_keeps ..))
    | (with_reducible apply Keeps.trans ?_ (State.eraseKeys_keeps ..))
    | (with_reducible apply Keeps.trans ?_ (State.planTo_keeps ..))
    | (with_reducible apply Keeps.trans ?_ (State.setPlan_keeps ..))
    | (with_reducible apply Keeps.trans ?_ (State.setSec_keeps ..))
    | (with_reducible apply Keeps.foldl _ _ _ ?_)
    | intro _

theorem execContextWithdrawn_keeps (ctx : Nat) (s : State) : KeepsRes s (execContextWithdrawn ctx s) := by
  unfold execContextWithdrawn
  repeat' first
    | with_reducible exact Keeps.refl _
    | (with_reducible apply Keeps.trans ?_ (State.toFree_keeps ..))
    | (with_reducible apply Keeps.trans ?_ (State.withdrawn_keeps ..))
    | with_reducible apply KeepsRes.next
    | with_reducible exact KeepsRes.fault _ _
    | with_reducible exact KeepsRes.refused _ _
    | dsimp only
    | split

theorem State.countSessions_keeps (s : State) : Keeps s (State.countSessions s) := by
  unfold State.countSessions
  repeat' first
    | with_reducible exact Keeps.refl _
    | (with_reducible apply Keeps.trans ?_ (State.setReg_keeps ..))

theorem State.endSession_keeps (s : State) (n : Nat) : Keeps s (State.endSession s n) := by
  unfold State.endSession
  repeat' first
    | with_reducible exact Keeps.refl _
    | (with_reducible apply Keeps.trans ?_ (State.contextReset_keeps ..))
    | (with_reducible apply Keeps.trans ?_ (State.countSessions_keeps ..))
    | (with_reducible apply Keeps.trans ?_ (State.dropRequester_keeps ..))
    | (with_reducible apply Keeps.trans ?_ (State.setSec_keeps ..))
    | (with_reducible apply Keeps.trans ?_ (Keeps.foldl _ _ _ ?_))
    | intro _
    | dsimp only
    | split

theorem State.endSessions_keeps (s : State) (p : Session → Bool) : Keeps s (State.endSessions s p) := by
  unfold State.endSessions
  repeat' first
    | with_reducible exact Keeps.refl _
    | (with_reducible apply Keeps.trans ?_ (State.endSession_keeps ..))
    | (with_reducible apply Keeps.foldl _ _ _ ?_)
    | intro _

/-! ### Power -/

theorem State.showClocks_keeps (s : State) : Keeps s (State.showClocks s) := by
  unfold State.showClocks
  repeat' first
    | with_reducible exact Keeps.refl _
    | (with_reducible apply Keeps.trans ?_ (State.setFields_keeps ..))
    | (with_reducible apply Keeps.trans ?_ (State.setRegF_keeps ..))
    | (with_reducible apply Keeps.foldl _ _ _ ?_)
    | (with_reducible apply Keeps.trans ?_ (Keeps.foldl _ _ _ ?_))
    | intro _
    | dsimp only
    | split

theorem State.stopClocks_keeps (s : State) : Keeps s (State.stopClocks s) := by
  unfold State.stopClocks
  repeat' first
    | with_reducible exact Keeps.refl _
    | (with_reducible apply Keeps.trans ?_ (State.setRegF_keeps ..))
    | (with_reducible apply Keeps.foldl _ _ _ ?_)
    | intro _

theorem State.startClocks_keeps (s : State) : Keeps s (State.startClocks s) := by
  unfold State.startClocks
  repeat' first
    | with_reducible exact Keeps.refl _
    | (with_reducible apply Keeps.trans ?_ (State.setFields_keeps ..))
    | (with_reducible apply Keeps.foldl _ _ _ ?_)
    | intro _

theorem State.writeVoltage_keeps (s : State) (d mv : Nat) : Keeps s (State.writeVoltage s d mv) := by
  unfold State.writeVoltage
  repeat' first
    | with_reducible exact Keeps.refl _
    | (with_reducible apply Keeps.trans ?_ (State.emit_keeps ..))
    | (with_reducible apply Keeps.trans ?_ (State.setPower_keeps ..))
    | dsimp only
    | split

theorem State.setQuad_keeps (s : State) (q mhz : Nat) : Keeps s (State.setQuad s q mhz) := by
  unfold State.setQuad
  repeat' first
    | with_reducible exact Keeps.refl _
    | (with_reducible apply Keeps.trans ?_ (State.bumpF_keeps ..))
    | (with_reducible apply Keeps.trans ?_ (State.setPower_keeps ..))
    | (with_reducible apply Keeps.trans ?_ (State.setRegF_keeps ..))

theorem State.switchQuad_keeps (s : State) (q : Nat) : Keeps s (State.switchQuad s q) := by
  unfold State.switchQuad
  repeat' first
    | with_reducible exact Keeps.refl _
    | (with_reducible apply Keeps.trans ?_ (State.setQuad_keeps ..))
    | (with_reducible apply Keeps.trans ?_ (State.showClocks_keeps ..))
    | (with_reducible apply Keeps.trans ?_ (State.writeVoltage_keeps ..))
    | dsimp only
    | split

theorem execQuadClockSwitch_keeps (quad : Nat) (s : State) : KeepsRes s (execQuadClockSwitch quad s) := by
  unfold execQuadClockSwitch
  repeat' first
    | with_reducible exact Keeps.refl _
    | (with_reducible apply Keeps.trans ?_ (State.switchQuad_keeps ..))
    | with_reducible apply KeepsRes.next

theorem execAvsReply_keeps (die mv deciAmps : Nat) (s : State) : KeepsRes s (execAvsReply die mv deciAmps s) := by
  unfold execAvsReply
  repeat' first
    | with_reducible exact Keeps.refl _
    | (with_reducible apply Keeps.trans ?_ (State.setPower_keeps ..))
    | (with_reducible apply Keeps.trans ?_ (State.setRegF_keeps ..))
    | with_reducible apply KeepsRes.next
    | dsimp only
    | split

theorem execAvsTimeout_keeps (die unanswered : Nat) (s : State) : KeepsRes s (execAvsTimeout die unanswered s) := by
  unfold execAvsTimeout
  repeat' first
    | with_reducible exact Keeps.refl _
    | (with_reducible apply Keeps.trans ?_ (State.bumpF_keeps ..))
    | (with_reducible apply Keeps.trans ?_ (State.setPower_keeps ..))
    | (with_reducible apply Keeps.trans ?_ (State.setRegF_keeps ..))
    | (with_reducible apply Keeps.trans ?_ (State.showClocks_keeps ..))
    | with_reducible apply KeepsRes.next
    | dsimp only
    | split

theorem State.capLoop_keeps (s : State) (watts : Nat) : Keeps s (State.capLoop s watts) := by
  unfold State.capLoop
  repeat' first
    | with_reducible exact Keeps.refl _
    | (with_reducible apply Keeps.trans ?_ (State.setPower_keeps ..))
    | dsimp only
    | split

theorem State.currentLoop_keeps (s : State) (d amps : Nat) : Keeps s (State.currentLoop s d amps) := by
  unfold State.currentLoop
  repeat' first
    | with_reducible exact Keeps.refl _
    | (with_reducible apply Keeps.trans ?_ (State.setPower_keeps ..))

theorem State.thermalLoop_keeps (s : State) (d : Nat) : Keeps s (State.thermalLoop s d) := by
  unfold State.thermalLoop
  repeat' first
    | with_reducible exact Keeps.refl _
    | (with_reducible apply Keeps.trans ?_ (State.setPower_keeps ..))
    | dsimp only
    | split

theorem execPowerTick_keeps (watts meanSecond peakSecond : Nat) (amps rails : List Nat) (s : State) : KeepsRes s (execPowerTick watts meanSecond peakSecond amps rails s) := by
  unfold execPowerTick
  repeat' first
    | with_reducible exact Keeps.refl _
    | (with_reducible apply Keeps.trans ?_ (State.bumpF_keeps ..))
    | (with_reducible apply Keeps.trans ?_ (State.capLoop_keeps ..))
    | (with_reducible apply Keeps.trans ?_ (State.currentLoop_keeps ..))
    | (with_reducible apply Keeps.trans ?_ (State.setFields_keeps ..))
    | (with_reducible apply Keeps.trans ?_ (State.setPower_keeps ..))
    | (with_reducible apply Keeps.trans ?_ (State.showClocks_keeps ..))
    | (with_reducible apply Keeps.trans ?_ (State.thermalLoop_keeps ..))
    | with_reducible apply KeepsRes.next
    | (with_reducible apply Keeps.trans ?_ (Keeps.foldl _ _ _ ?_))
    | intro _
    | dsimp only
    | split

theorem execOvercurrent_keeps (die : Nat) (s : State) : KeepsRes s (execOvercurrent die s) := by
  unfold execOvercurrent
  repeat' first
    | with_reducible exact Keeps.refl _
    | (with_reducible apply Keeps.trans ?_ (State.setPower_keeps ..))
    | (with_reducible apply Keeps.trans ?_ (State.showClocks_keeps ..))
    | with_reducible apply KeepsRes.next
    | dsimp only
    | split

theorem execOvercurrentHoldEnd_keeps (die : Nat) (s : State) : KeepsRes s (execOvercurrentHoldEnd die s) := by
  unfold execOvercurrentHoldEnd
  repeat' first
    | with_reducible exact Keeps.refl _
    | (with_reducible apply Keeps.trans ?_ (State.setPower_keeps ..))
    | (with_reducible apply Keeps.trans ?_ (State.showClocks_keeps ..))
    | with_reducible apply KeepsRes.next

theorem State.assertAlert_keeps (s : State) : Keeps s (State.assertAlert s) := by
  unfold State.assertAlert
  repeat' first
    | with_reducible exact Keeps.refl _
    | (with_reducible apply Keeps.trans ?_ (State.emit_keeps ..))
    | (with_reducible apply Keeps.trans ?_ (State.setRegF_keeps ..))
    | dsimp only
    | split

theorem State.throttlePoints_keeps (s : State) (t : Nat → Int) : Keeps s (State.throttlePoints s t) := by
  unfold State.throttlePoints
  repeat' first
    | with_reducible exact Keeps.refl _
    | (with_reducible apply Keeps.trans ?_ (State.assertAlert_keeps ..))
    | (with_reducible apply Keeps.trans ?_ (State.setPower_keeps ..))
    | dsimp only
    | split

theorem execThermalSample_keeps (temps : List Int) (s : State) : KeepsRes s (execThermalSample temps s) := by
  unfold execThermalSample
  repeat' first
    | with_reducible exact Keeps.refl _
    | (with_reducible apply Keeps.trans ?_ (State.bump_keeps ..))
    | (with_reducible apply Keeps.trans ?_ (State.deviceFatal_keeps ..))
    | (with_reducible apply Keeps.trans ?_ (State.setFields_keeps ..))
    | (with_reducible apply Keeps.trans ?_ (State.setPower_keeps ..))
    | (with_reducible apply Keeps.trans ?_ (State.throttlePoints_keeps ..))
    | with_reducible apply KeepsRes.next
    | dsimp only
    | split

theorem execThermalCeilingRaise_keeps (die : Nat) (s : State) : KeepsRes s (execThermalCeilingRaise die s) := by
  unfold execThermalCeilingRaise
  repeat' first
    | with_reducible exact Keeps.refl _
    | (with_reducible apply Keeps.trans ?_ (State.setPower_keeps ..))
    | (with_reducible apply Keeps.trans ?_ (State.showClocks_keeps ..))
    | with_reducible apply KeepsRes.next
    | dsimp only
    | split

theorem execThermNLow_keeps (s : State) : KeepsRes s (execThermNLow s) := by
  unfold execThermNLow
  repeat' first
    | with_reducible exact Keeps.refl _
    | (with_reducible apply Keeps.trans ?_ (State.setPower_keeps ..))
    | (with_reducible apply Keeps.trans ?_ (State.showClocks_keeps ..))
    | with_reducible apply KeepsRes.next

theorem execThermNHigh_keeps (s : State) : KeepsRes s (execThermNHigh s) := by
  unfold execThermNHigh
  repeat' first
    | with_reducible exact Keeps.refl _
    | (with_reducible apply Keeps.trans ?_ (State.setPower_keeps ..))
    | (with_reducible apply Keeps.trans ?_ (State.showClocks_keeps ..))
    | with_reducible apply KeepsRes.next

theorem State.setPlls_keeps (s : State) (v : Nat) : Keeps s (State.setPlls s v) := by
  unfold State.setPlls
  repeat' first
    | with_reducible exact Keeps.refl _
    | (with_reducible apply Keeps.trans ?_ (State.setReg_keeps ..))
    | (with_reducible apply Keeps.foldl _ _ _ ?_)
    | intro _

theorem State.startCount_keeps (s : State) : Keeps s (State.startCount s) := by
  unfold State.startCount
  repeat' first
    | with_reducible exact Keeps.refl _
    | (with_reducible apply Keeps.trans ?_ (State.setFields_keeps ..))
    | (with_reducible apply Keeps.trans ?_ (State.setPower_keeps ..))
    | (with_reducible apply Keeps.trans ?_ (Keeps.foldl _ _ _ ?_))
    | intro _
    | dsimp only
    | split

theorem execPwrgdRise_keeps (refqSel mgmtMode smbAddr : Nat) (s : State) : KeepsRes s (execPwrgdRise refqSel mgmtMode smbAddr s) := by
  unfold execPwrgdRise
  repeat' first
    | with_reducible exact Keeps.refl _
    | (with_reducible apply Keeps.trans ?_ (State.enter_keeps ..))
    | (with_reducible apply Keeps.trans ?_ (State.setFields_keeps ..))
    | (with_reducible apply Keeps.trans ?_ (State.setPlls_keeps ..))
    | (with_reducible apply Keeps.trans ?_ (State.setPower_keeps ..))
    | (with_reducible apply Keeps.trans ?_ (State.setReg_keeps ..))
    | (with_reducible apply Keeps.trans ?_ (State.startCount_keeps ..))
    | with_reducible apply KeepsRes.next
    | dsimp only
    | split

theorem execRefclkEdgesPresent_keeps (s : State) : KeepsRes s (execRefclkEdgesPresent s) := by
  unfold execRefclkEdgesPresent
  repeat' first
    | with_reducible exact Keeps.refl _
    | (with_reducible apply Keeps.trans ?_ (State.setPower_keeps ..))
    | (with_reducible apply Keeps.trans ?_ (State.startCount_keeps ..))
    | with_reducible apply KeepsRes.next

theorem execRefQualifyDone_keeps (s : State) : KeepsRes s (execRefQualifyDone s) := by
  unfold execRefQualifyDone
  repeat' first
    | with_reducible exact Keeps.refl _
    | (with_reducible apply Keeps.trans ?_ (State.setPlls_keeps ..))
    | with_reducible apply KeepsRes.next
    | split

theorem execPllLockTimeout_keeps (s : State) : KeepsRes s (execPllLockTimeout s) := by
  unfold execPllLockTimeout
  repeat' first
    | with_reducible exact Keeps.refl _
    | (with_reducible apply Keeps.trans ?_ (State.setPlls_keeps ..))
    | (with_reducible apply Keeps.trans ?_ (State.startCount_keeps ..))
    | with_reducible apply KeepsRes.next
    | split

theorem execRefLost_keeps (s : State) : KeepsRes s (execRefLost s) := by
  unfold execRefLost
  repeat' first
    | with_reducible exact Keeps.refl _
    | (with_reducible apply Keeps.trans ?_ (State.bumpF_keeps ..))
    | (with_reducible apply Keeps.trans ?_ (State.deviceFatal_keeps ..))
    | (with_reducible apply Keeps.trans ?_ (State.enter_keeps ..))
    | (with_reducible apply Keeps.trans ?_ (State.setPlls_keeps ..))
    | (with_reducible apply Keeps.trans ?_ (State.setPower_keeps ..))
    | (with_reducible apply Keeps.trans ?_ (State.stopClocks_keeps ..))
    | with_reducible apply KeepsRes.next
    | dsimp only
    | split

theorem execPllLockLoss_keeps (pll : Nat) (s : State) : KeepsRes s (execPllLockLoss pll s) := by
  unfold execPllLockLoss
  repeat' first
    | with_reducible exact Keeps.refl _
    | (with_reducible apply Keeps.trans ?_ (State.deviceFatal_keeps ..))
    | (with_reducible apply Keeps.trans ?_ (State.setReg_keeps ..))
    | (with_reducible apply Keeps.trans ?_ (State.spokeDown_keeps ..))
    | with_reducible apply KeepsRes.next
    | dsimp only
    | split

theorem execRailFault_keeps (rail : Nat) (s : State) : KeepsRes s (execRailFault rail s) := by
  unfold execRailFault
  repeat' first
    | with_reducible exact Keeps.refl _
    | (with_reducible apply Keeps.trans ?_ (State.deviceFatal_keeps ..))
    | with_reducible apply KeepsRes.next
    | split

theorem execPwrgdFall_keeps (s : State) : KeepsRes s (execPwrgdFall s) := by
  unfold execPwrgdFall
  repeat' first
    | with_reducible exact Keeps.refl _
    | (with_reducible apply Keeps.trans ?_ (State.cutDump_keeps ..))
    | (with_reducible apply Keeps.trans ?_ (State.log!_keeps ..))
    | (with_reducible apply Keeps.trans ?_ (State.sendResetNotices_keeps ..))
    | (with_reducible apply Keeps.trans ?_ (State.setPower_keeps ..))
    | (with_reducible apply Keeps.trans ?_ (State.setRcv_keeps ?_))
    | (with_reducible apply Keeps.trans ?_ (State.wipe_keeps ..))
    | with_reducible apply KeepsRes.next
    | (with_reducible exact id)
    | dsimp only
    | split

theorem execPowerLoss_keeps (s : State) : KeepsRes s (execPowerLoss s) :=
  KeepsRes.next ⟨rfl, fun _ => rfl, fun _ => rfl, fun _ => rfl, fun _ => (List.forall_mem_nil _), fun _ => ⟨List.Pairwise.nil, List.forall_mem_nil _⟩⟩

theorem execSysResetNLow_keeps (s : State) : KeepsRes s (execSysResetNLow s) := by
  unfold execSysResetNLow
  repeat' first
    | with_reducible exact Keeps.refl _
    | (with_reducible apply Keeps.trans ?_ (State.deviceReset_keeps ..))
    | (with_reducible apply Keeps.trans ?_ (State.setPower_keeps ..))
    | with_reducible apply KeepsRes.next
    | dsimp only
    | split

theorem execSysResetNRise_keeps (s : State) : KeepsRes s (execSysResetNRise s) := by
  unfold execSysResetNRise
  repeat' first
    | with_reducible exact Keeps.refl _
    | (with_reducible apply Keeps.trans ?_ (State.setPower_keeps ..))
    | with_reducible apply KeepsRes.next

theorem State.hostInterfaceReset_keeps (s : State) : Keeps s (State.hostInterfaceReset s) := by
  unfold State.hostInterfaceReset
  repeat' first
    | with_reducible exact Keeps.refl _
    | (with_reducible apply Keeps.trans ?_ (State.endSessions_keeps ..))
    | (with_reducible apply Keeps.trans ?_ (State.resetMailbox_keeps ..))
    | (with_reducible apply Keeps.trans ?_ (Keeps.foldl _ _ _ ?_))
    | intro _
    | dsimp only
  all_goals try with_reducible apply Keeps.trans ?_ (Keeps.lit _)
  all_goals repeat' first
    | with_reducible exact Keeps.refl _
    | (with_reducible apply Keeps.trans ?_ (State.setFields_keeps ..))

theorem execPerstNLow_keeps (s : State) : KeepsRes s (execPerstNLow s) := by
  unfold execPerstNLow
  repeat' first
    | with_reducible exact Keeps.refl _
    | (with_reducible apply Keeps.trans ?_ (State.deviceReset_keeps ..))
    | (with_reducible apply Keeps.trans ?_ (State.hostInterfaceReset_keeps ..))
    | (with_reducible apply Keeps.trans ?_ (State.setPower_keeps ..))
    | with_reducible apply KeepsRes.next
    | dsimp only
    | split

theorem execPerstNRise_keeps (s : State) : KeepsRes s (execPerstNRise s) := by
  unfold execPerstNRise
  repeat' first
    | with_reducible exact Keeps.refl _
    | (with_reducible apply Keeps.trans ?_ (State.setPower_keeps ..))
    | with_reducible apply KeepsRes.next

theorem execPcieLinkUp_keeps (rate width : Nat) (flit : Bool) (s : State) : KeepsRes s (execPcieLinkUp rate width flit s) := by
  unfold execPcieLinkUp
  repeat' first
    | with_reducible exact Keeps.refl _
    | (with_reducible apply Keeps.trans ?_ (State.bumpF_keeps ..))
    | (with_reducible apply Keeps.trans ?_ (State.setFields_keeps ..))
    | with_reducible apply KeepsRes.next
    | dsimp only
    | split

theorem execVfEnableWrite_keeps (count : Nat) (s : State) : KeepsRes s (execVfEnableWrite count s) := by
  unfold execVfEnableWrite
  repeat' first
    | with_reducible exact Keeps.refl _
    | (with_reducible apply Keeps.trans ?_ (State.setRegF_keeps ..))
    | with_reducible apply KeepsRes.next
    | dsimp only
    | split
  all_goals try with_reducible apply Keeps.trans ?_ (Keeps.lit _)
  all_goals repeat' first
    | with_reducible exact Keeps.refl _
    | (with_reducible apply Keeps.trans ?_ (State.resetMailbox_keeps ..))
    | (with_reducible apply Keeps.foldl _ _ _ ?_)
    | intro _

theorem execPowerStateWrite_keeps (function : Nat) (d3hot : Bool) (s : State) : KeepsRes s (execPowerStateWrite function d3hot s) := by
  unfold execPowerStateWrite
  repeat' first
    | with_reducible exact Keeps.refl _
    | (with_reducible apply Keeps.trans ?_ (State.setPins_keeps ..))
    | with_reducible apply KeepsRes.next
    | dsimp only
    | split

/-! ### Hbm -/

theorem State.scramble_keeps (s : State) (p : Nat → Bool) : Keeps s (State.scramble s p) := by
  unfold State.scramble
  exact State.setHbm_keeps (fun h => cellsWf_filter _ _ _ h)

theorem State.forgetUnits_keeps (s : State) (gained : Nat → Bool) : Keeps s (State.forgetUnits s gained) := by
  unfold State.forgetUnits
  repeat' first
    | with_reducible exact Keeps.refl _
    | (with_reducible apply Keeps.trans ?_ (State.scramble_keeps ..))
    | (with_reducible apply Keeps.trans ?_ (State.setHbm_keeps ?_))
    | (with_reducible exact id)

theorem State.moveRegion_keeps (s : State) (c base size : Nat) : Keeps s (State.moveRegion s c base size) := by
  unfold State.moveRegion
  repeat' first
    | with_reducible exact Keeps.refl _
    | (with_reducible apply Keeps.trans ?_ (State.forgetUnits_keeps ..))
    | (with_reducible apply Keeps.trans ?_ (State.setFields_keeps ..))

theorem State.writeRegion_keeps (s : State) (who : Who) (c base size : Nat) : Keeps s (State.writeRegion s who c base size).2 := by
  unfold State.writeRegion
  repeat' first
    | with_reducible exact Keeps.refl _
    | (with_reducible apply Keeps.trans ?_ (State.moveRegion_keeps ..))
    | dsimp only
    | split

theorem execHbmRegionWrite_keeps (who : Who) (ctx base size : Nat) (s : State) : KeepsRes s (execHbmRegionWrite who ctx base size s) := by
  unfold execHbmRegionWrite
  repeat' first
    | with_reducible exact Keeps.refl _
    | (with_reducible apply Keeps.trans ?_ (State.row_keeps (h5 := ?_) ..))
    | (with_reducible apply Keeps.trans ?_ (State.writeRegion_keeps ..))
    | with_reducible apply KeepsRes.next
    | intro _

theorem State.declareWritten_keeps (s : State) (who : Who) (unit : Nat) : Keeps s (State.declareWritten s who unit).2 := by
  unfold State.declareWritten
  repeat' first
    | with_reducible exact Keeps.refl _
    | (with_reducible apply Keeps.trans ?_ (State.setHbm_keeps ?_))
    | (with_reducible exact id)
    | dsimp only
    | split

theorem execHbmUnitWrittenWrite_keeps (who : Who) (unit : Nat) (s : State) : KeepsRes s (execHbmUnitWrittenWrite who unit s) := by
  unfold execHbmUnitWrittenWrite
  repeat' first
    | with_reducible exact Keeps.refl _
    | (with_reducible apply Keeps.trans ?_ (State.declareWritten_keeps ..))
    | (with_reducible apply Keeps.trans ?_ (State.row_keeps (h5 := ?_) ..))
    | with_reducible apply KeepsRes.next
    | intro _

theorem State.retirePage_keeps (s : State) (entry page : Nat) (flashOk : Bool) : Keeps s (State.retirePage s entry page flashOk).2 := by
  unfold State.retirePage
  repeat' first
    | with_reducible exact Keeps.refl _
    | (with_reducible apply Keeps.trans ?_ (State.flashFailed_keeps ..))
    | (with_reducible apply Keeps.trans ?_ (State.flashPut_keeps ..))
    | (with_reducible apply Keeps.trans ?_ (State.setRegF_keeps ..))
    | dsimp only
    | split

theorem execHbmRetiredPagesWrite_keeps (who : Who) (entry page : Nat) (flashOk : Bool) (s : State) : KeepsRes s (execHbmRetiredPagesWrite who entry page flashOk s) := by
  unfold execHbmRetiredPagesWrite
  repeat' first
    | with_reducible exact Keeps.refl _
    | (with_reducible apply Keeps.trans ?_ (State.retirePage_keeps ..))
    | (with_reducible apply Keeps.trans ?_ (State.row_keeps (h5 := ?_) ..))
    | with_reducible apply KeepsRes.next
    | intro _

theorem execMergeIdleWriteback_keeps (sector : Nat) (s : State) : KeepsRes s (execMergeIdleWriteback sector s) := by
  unfold execMergeIdleWriteback
  repeat' first
    | with_reducible exact Keeps.refl _
    | (with_reducible apply Keeps.trans ?_ (State.mergeBack_keeps ..))
    | (with_reducible apply Keeps.trans ?_ (Keeps.of_pair (State.mergeBack_keeps ..) ?_); rotate_right; (with_reducible assumption))
    | with_reducible apply KeepsRes.next
    | with_reducible exact KeepsRes.fault _ _
    | with_reducible exact KeepsRes.refused _ _
    | dsimp only
    | split

theorem State.scrubWrap_keeps (s : State) (pc : Nat) : Keeps s (State.scrubWrap s pc) := by
  unfold State.scrubWrap
  repeat' first
    | with_reducible exact Keeps.refl _
    | (with_reducible apply Keeps.trans ?_ (State.bump_keeps ..))
    | (with_reducible apply Keeps.trans ?_ (State.setHbm_keeps ?_))
    | (with_reducible exact id)
    | dsimp only
    | split

theorem State.strike_keeps (s : State) (a1 : HbmFlaw) : Keeps s (State.strike s a1) := by
  unfold State.strike
  repeat' first
    | with_reducible exact Keeps.refl _
    | (exact Memory.wf_putN _ _ _)
    | (with_reducible apply Keeps.trans ?_ (State.setHbm_keeps ?_))
    | (with_reducible exact id)
    | dsimp only
    | split

theorem State.strikeSram_keeps (s : State) (x : SramFlaw) : Keeps s (State.strikeSram s x) := by
  unfold State.strikeSram
  repeat' first
    | with_reducible exact Keeps.refl _
    | (with_reducible apply Keeps.trans ?_ (State.setFm_keeps ?_))
    | (with_reducible exact id)
    | with_reducible apply Keeps.ite_snd
    | with_reducible apply Keeps.ite
    | dsimp only
    | split

theorem State.suffer_keeps (s : State) (x : Flaws) : Keeps s (State.suffer s x) := by
  unfold State.suffer
  repeat' first
    | with_reducible exact Keeps.refl _
    | (with_reducible apply Keeps.trans ?_ (State.bump_keeps ..))
    | (with_reducible apply Keeps.trans ?_ (State.strike_keeps ..))
    | (with_reducible apply Keeps.trans ?_ (State.strikeSram_keeps ..))
    | (with_reducible apply Keeps.trans ?_ (Keeps.foldl _ _ _ ?_))
    | (with_reducible apply Keeps.trans ?_ (Keeps.foldl_pair _ _ _ ?_))
    | intro _
    | dsimp only
    | split

theorem State.scrubSector_keeps (s : State) (sector : Nat) : Keeps s (State.scrubSector s sector) := by
  unfold State.scrubSector
  repeat' first
    | with_reducible exact Keeps.refl _
    | (with_reducible apply Keeps.trans ?_ (State.readSector_keeps ..))
    | (with_reducible apply Keeps.trans ?_ (Keeps.of_pair (State.readSector_keeps ..) ?_); rotate_right; (with_reducible assumption))
    | (with_reducible apply Keeps.trans ?_ (State.setHbm_keeps ?_))
    | (with_reducible exact id)
    | dsimp only
    | split

theorem State.patrol_keeps (s : State) (pc : Nat) (flaws : Flaws) : Keeps s (State.patrol s pc flaws) := by
  unfold State.patrol
  repeat' first
    | with_reducible exact Keeps.refl _
    | (with_reducible apply Keeps.trans ?_ (State.scrubSector_keeps ..))
    | (with_reducible apply Keeps.trans ?_ (State.scrubWrap_keeps ..))
    | (with_reducible apply Keeps.trans ?_ (State.suffer_keeps ..))
    | (with_reducible apply Keeps.trans ?_ (State.setHbm_keeps ?_))
    | (with_reducible exact id)
    | dsimp only
    | split

theorem execPatrolScrubRead_keeps (pseudoChannel : Nat) (flaws : Flaws) (s : State) : KeepsRes s (execPatrolScrubRead pseudoChannel flaws s) := by
  unfold execPatrolScrubRead
  repeat' first
    | with_reducible exact Keeps.refl _
    | (with_reducible apply Keeps.trans ?_ (State.patrol_keeps ..))
    | with_reducible apply KeepsRes.next
    | with_reducible exact KeepsRes.fault _ _
    | with_reducible exact KeepsRes.refused _ _
    | dsimp only
    | split

theorem State.flipArm_keeps (s : State) : Keeps s (State.flipArm s).2 := by
  unfold State.flipArm
  repeat' first
    | with_reducible exact Keeps.refl _
    | (with_reducible apply Keeps.trans ?_ (State.setHbm_keeps ?_))
    | (with_reducible apply Keeps.trans ?_ (State.setReg_keeps ..))
    | (with_reducible exact id)
    | dsimp only
    | split

theorem State.flipDisarm_keeps (s : State) : Keeps s (State.flipDisarm s).2 := by
  unfold State.flipDisarm
  repeat' first
    | with_reducible exact Keeps.refl _
    | (with_reducible apply Keeps.trans ?_ (State.setHbm_keeps ?_))
    | (with_reducible apply Keeps.trans ?_ (State.setReg_keeps ..))
    | (with_reducible exact id)

theorem execFlipMaskArm_keeps (who : Who) (s : State) : KeepsRes s (execFlipMaskArm who s) := by
  unfold execFlipMaskArm
  repeat' first
    | with_reducible exact Keeps.refl _
    | (with_reducible apply Keeps.trans ?_ (State.flipArm_keeps ..))
    | (with_reducible apply Keeps.trans ?_ (State.row_keeps (h5 := ?_) ..))
    | with_reducible apply KeepsRes.next
    | intro _

theorem execFlipMaskDisarm_keeps (who : Who) (s : State) : KeepsRes s (execFlipMaskDisarm who s) := by
  unfold execFlipMaskDisarm
  repeat' first
    | with_reducible exact Keeps.refl _
    | (with_reducible apply Keeps.trans ?_ (State.flipDisarm_keeps ..))
    | (with_reducible apply Keeps.trans ?_ (State.row_keeps (h5 := ?_) ..))
    | with_reducible apply KeepsRes.next
    | intro _

theorem execFmCorrectedWriteback_keeps (word : Nat) (s : State) : KeepsRes s (execFmCorrectedWriteback word s) := by
  unfold execFmCorrectedWriteback
  repeat' first
    | with_reducible exact Keeps.refl _
    | (with_reducible apply Keeps.trans ?_ (State.setFm_keeps ?_))
    | with_reducible apply KeepsRes.next
    | (with_reducible exact id)
    | dsimp only
    | split

/-! ### Security -/

theorem State.claim_keeps (s : State) (c key : Nat) : Keeps s (State.claim s c key).2 := by
  unfold State.claim
  repeat' first
    | with_reducible exact Keeps.refl _
    | (with_reducible apply Keeps.trans ?_ (State.setFields_keeps ..))
    | (with_reducible apply Keeps.trans ?_ (State.setReg_keeps ..))
    | (with_reducible apply Keeps.trans ?_ (State.setSec_keeps ..))
    | dsimp only
    | split

theorem execContextClaim_keeps (session ctx : Nat) (s : State) : KeepsRes s (execContextClaim session ctx s) := by
  unfold execContextClaim
  repeat' first
    | with_reducible exact Keeps.refl _
    | (with_reducible apply Keeps.trans ?_ (State.answer_keeps ..))
    | (with_reducible apply Keeps.trans ?_ (State.claim_keeps ..))
    | with_reducible apply KeepsRes.next
    | dsimp only
    | split

theorem State.scrambleRegion_keeps (s : State) (c : Nat) : Keeps s (State.scrambleRegion s c) := by
  unfold State.scrambleRegion
  repeat' first
    | with_reducible exact Keeps.refl _
    | (with_reducible apply Keeps.trans ?_ (State.scramble_keeps ..))

theorem State.deliverKey_keeps (s : State) (c key : Nat) : Keeps s (State.deliverKey s c key).2 := by
  unfold State.deliverKey
  repeat' first
    | with_reducible exact Keeps.refl _
    | (with_reducible apply Keeps.trans ?_ (State.scrambleRegion_keeps ..))
    | (with_reducible apply Keeps.trans ?_ (State.setKeys_keeps ..))
    | (with_reducible apply Keeps.trans ?_ (State.setReg_keeps ..))
    | dsimp only
    | split

theorem execContextKey_keeps (who : Who) (ctx key : Nat) (s : State) : KeepsRes s (execContextKey who ctx key s) := by
  unfold execContextKey
  repeat' first
    | with_reducible exact Keeps.refl _
    | (with_reducible apply Keeps.trans ?_ (State.deliverKey_keeps ..))
    | (with_reducible apply Keeps.trans ?_ (State.row_keeps (h5 := ?_) ..))
    | with_reducible apply KeepsRes.next
    | intro _

theorem State.deliverTransferKey_keeps (s : State) (c key : Nat) : Keeps s (State.deliverTransferKey s c key).2 := by
  unfold State.deliverTransferKey
  repeat' first
    | with_reducible exact Keeps.refl _
    | (with_reducible apply Keeps.trans ?_ (State.setKeys_keeps ..))
    | dsimp only
    | split

theorem execContextTransferKey_keeps (who : Who) (ctx key : Nat) (s : State) : KeepsRes s (execContextTransferKey who ctx key s) := by
  unfold execContextTransferKey
  repeat' first
    | with_reducible exact Keeps.refl _
    | (with_reducible apply Keeps.trans ?_ (State.deliverTransferKey_keeps ..))
    | (with_reducible apply Keeps.trans ?_ (State.row_keeps (h5 := ?_) ..))
    | with_reducible apply KeepsRes.next
    | intro _

theorem State.endRotation_keeps (s : State) (c : Nat) : Keeps s (State.endRotation s c) := by
  unfold State.endRotation
  repeat' first
    | with_reducible exact Keeps.refl _
    | (with_reducible apply Keeps.trans ?_ (State.setKeys_keeps ..))
    | (with_reducible apply Keeps.trans ?_ (State.setReg_keeps ..))

theorem State.startRotation_keeps (s : State) (c key : Nat) : Keeps s (State.startRotation s c key).2 := by
  unfold State.startRotation
  repeat' first
    | with_reducible exact Keeps.refl _
    | (with_reducible apply Keeps.trans ?_ (State.endRotation_keeps ..))
    | (with_reducible apply Keeps.trans ?_ (State.setKeys_keeps ..))
    | (with_reducible apply Keeps.trans ?_ (State.setReg_keeps ..))
    | dsimp only
    | split

theorem execContextKeyNext_keeps (who : Who) (ctx key : Nat) (s : State) : KeepsRes s (execContextKeyNext who ctx key s) := by
  unfold execContextKeyNext
  repeat' first
    | with_reducible exact Keeps.refl _
    | (with_reducible apply Keeps.trans ?_ (State.row_keeps (h5 := ?_) ..))
    | (with_reducible apply Keeps.trans ?_ (State.startRotation_keeps ..))
    | with_reducible apply KeepsRes.next
    | intro _

theorem State.releaseContext_keeps (s : State) (c : Nat) : Keeps s (State.releaseContext s c).2 := by
  unfold State.releaseContext
  repeat' first
    | with_reducible exact Keeps.refl _
    | (with_reducible apply Keeps.trans ?_ (State.contextReset_keeps ..))
    | dsimp only
    | split

theorem execContextRelease_keeps (who : Who) (ctx : Nat) (s : State) : KeepsRes s (execContextRelease who ctx s) := by
  unfold execContextRelease
  repeat' first
    | with_reducible exact Keeps.refl _
    | (with_reducible apply Keeps.trans ?_ (State.releaseContext_keeps ..))
    | (with_reducible apply Keeps.trans ?_ (State.row_keeps (h5 := ?_) ..))
    | with_reducible apply KeepsRes.next
    | intro _

theorem State.fuseSvn_keeps (s : State) (kind : Nat) : Keeps s (State.fuseSvn s kind).2 := by
  unfold State.fuseSvn
  repeat' first
    | with_reducible exact Keeps.refl _
    | (with_reducible apply Keeps.trans ?_ (State.setRegF_keeps ..))
    | split

theorem execSecFuseSvn_keeps (who : Who) (arg : Nat) (s : State) : KeepsRes s (execSecFuseSvn who arg s) := by
  unfold execSecFuseSvn
  repeat' first
    | with_reducible exact Keeps.refl _
    | (with_reducible apply Keeps.trans ?_ (State.fuseSvn_keeps ..))
    | (with_reducible apply Keeps.trans ?_ (State.row_keeps (h5 := ?_) ..))
    | with_reducible apply KeepsRes.next
    | intro _

theorem State.fuseRevoke_keeps (s : State) (key : Nat) : Keeps s (State.fuseRevoke s key).2 := by
  unfold State.fuseRevoke
  repeat' first
    | with_reducible exact Keeps.refl _
    | (with_reducible apply Keeps.trans ?_ (State.setRegF_keeps ..))
    | split

theorem execSecFuseRevoke_keeps (who : Who) (arg : Nat) (s : State) : KeepsRes s (execSecFuseRevoke who arg s) := by
  unfold execSecFuseRevoke
  repeat' first
    | with_reducible exact Keeps.refl _
    | (with_reducible apply Keeps.trans ?_ (State.fuseRevoke_keeps ..))
    | (with_reducible apply Keeps.trans ?_ (State.row_keeps (h5 := ?_) ..))
    | with_reducible apply KeepsRes.next
    | intro _

theorem State.fuseSigPolicy_keeps (s : State) : Keeps s (State.fuseSigPolicy s).2 := by
  unfold State.fuseSigPolicy
  repeat' first
    | with_reducible exact Keeps.refl _
    | (with_reducible apply Keeps.trans ?_ (State.setRegF_keeps ..))
    | split

theorem execSecFuseSigPolicy_keeps (who : Who) (s : State) : KeepsRes s (execSecFuseSigPolicy who s) := by
  unfold execSecFuseSigPolicy
  repeat' first
    | with_reducible exact Keeps.refl _
    | (with_reducible apply Keeps.trans ?_ (State.fuseSigPolicy_keeps ..))
    | (with_reducible apply Keeps.trans ?_ (State.row_keeps (h5 := ?_) ..))
    | with_reducible apply KeepsRes.next
    | intro _

theorem State.debugUnlock_keeps (s : State) (who : Who) (value : Nat) : Keeps s (State.debugUnlock s who value).2 := by
  unfold State.debugUnlock
  repeat' first
    | with_reducible exact Keeps.refl _
    | (with_reducible apply Keeps.trans ?_ (State.store_keeps _ _ _ _ (fun h => absurd h (by decide))))
    | split

theorem execDebugUnlock_keeps (who : Who) (value : Nat) (s : State) : KeepsRes s (execDebugUnlock who value s) := by
  unfold execDebugUnlock
  repeat' first
    | with_reducible exact Keeps.refl _
    | (with_reducible apply Keeps.trans ?_ (State.debugUnlock_keeps ..))
    | (with_reducible apply Keeps.trans ?_ (State.row_keeps (h5 := ?_) ..))
    | with_reducible apply KeepsRes.next
    | intro _

theorem State.zeroiseContext_keeps (s : State) (c : Nat) : Keeps s (State.zeroiseContext s c) := by
  unfold State.zeroiseContext
  repeat' first
    | with_reducible exact Keeps.refl _
    | (with_reducible apply Keeps.trans ?_ (State.beginReset_keeps ..))
    | (with_reducible apply Keeps.trans ?_ (State.setRcv_keeps ?_))
    | (with_reducible apply Keeps.trans ?_ (State.toFree_keeps ..))
    | (with_reducible exact id)
    | dsimp only
    | split

theorem State.zeroise_keeps (s : State) : Keeps s (State.zeroise s) := by
  unfold State.zeroise
  repeat' first
    | with_reducible exact Keeps.refl _
    | (with_reducible apply Keeps.trans ?_ (State.bump_keeps ..))
    | (with_reducible apply Keeps.trans ?_ (State.enter_keeps ..))
    | (with_reducible apply Keeps.trans ?_ (State.log!_keeps ..))
    | (with_reducible apply Keeps.trans ?_ (State.setSec_keeps ..))
    | (with_reducible apply Keeps.trans ?_ (State.setSpoke_keeps ..))
    | (with_reducible apply Keeps.trans ?_ (State.spokeDown_keeps ..))
    | (with_reducible apply Keeps.trans ?_ (State.zeroiseContext_keeps ..))
    | (with_reducible apply Keeps.trans ?_ (Keeps.foldl _ _ _ ?_))
    | (with_reducible apply Keeps.trans ?_ (Keeps.foldl_pair _ _ _ ?_))
    | with_reducible apply Keeps.ite_snd
    | with_reducible apply Keeps.ite
    | intro _
    | dsimp only
    | split

theorem execZeroiseTrigger_keeps (s : State) : KeepsRes s (execZeroiseTrigger s) := by
  unfold execZeroiseTrigger
  repeat' first
    | with_reducible exact Keeps.refl _
    | (with_reducible apply Keeps.trans ?_ (State.zeroise_keeps ..))
    | with_reducible apply KeepsRes.next

theorem execJtagInstructionLoad_keeps (drives : Bool) (s : State) : KeepsRes s (execJtagInstructionLoad drives s) := by
  unfold execJtagInstructionLoad
  repeat' first
    | with_reducible exact Keeps.refl _
    | (with_reducible apply Keeps.trans ?_ (State.setSec_keeps ..))
    | (with_reducible apply Keeps.trans ?_ (State.zeroise_keeps ..))
    | with_reducible apply KeepsRes.next
    | dsimp only
    | split

theorem State.sealEnd_keeps (s : State) (f slot irq : Nat) (x : SealSlot) : Keeps s (State.sealEnd s f slot irq x) := by
  unfold State.sealEnd
  repeat' first
    | with_reducible exact Keeps.refl _
    | (with_reducible apply Keeps.trans ?_ (State.interrupt_keeps ..))
    | (with_reducible apply Keeps.trans ?_ (State.setSec_keeps ..))

theorem State.sealReject_keeps (s : State) (f slot : Nat) (irq reason : Nat) (x : SealSlot) : Keeps s (State.sealReject s f slot irq reason x) := by
  unfold State.sealReject
  repeat' first
    | with_reducible exact Keeps.refl _
    | (with_reducible apply Keeps.trans ?_ (State.bump_keeps ..))
    | (with_reducible apply Keeps.trans ?_ (State.emit_keeps ..))
    | (with_reducible apply Keeps.trans ?_ (State.sealEnd_keeps ..))
    | split

theorem State.sealOpen_keeps (s : State) (f slot irq : Nat) (x : SealSlot) : Keeps s (State.sealOpen s f slot irq x) := by
  unfold State.sealOpen
  repeat' first
    | with_reducible exact Keeps.refl _
    | (with_reducible apply Keeps.trans ?_ (State.ctxWrite_keeps ..))
    | (with_reducible apply Keeps.trans ?_ (State.sealEnd_keeps ..))
    | (with_reducible apply Keeps.trans ?_ (State.sealReject_keeps ..))
    | (with_reducible apply Keeps.trans ?_ (State.setKeys_keeps ..))
    | dsimp only
    | split

theorem State.sealClose_keeps (s : State) (f slot : Nat) (irq header : Nat) : Keeps s (State.sealClose s f slot irq header) := by
  unfold State.sealClose
  repeat' first
    | with_reducible exact Keeps.refl _
    | (with_reducible apply Keeps.trans ?_ (State.ctxRead_keeps ..))
    | (with_reducible apply Keeps.trans ?_ (State.sealEnd_keeps ..))
    | (with_reducible apply Keeps.trans ?_ (State.sealReject_keeps ..))
    | (with_reducible apply Keeps.trans ?_ (State.setKeys_keeps ..))
    | dsimp only
    | split

theorem execSealSubmitInbound_keeps (function value : Nat) (irq header : Nat) (payload : Bytes) (tag : Nat) (s : State) : KeepsRes s (execSealSubmitInbound function value irq header payload tag s) := by
  unfold execSealSubmitInbound
  repeat' first
    | with_reducible exact Keeps.refl _
    | (with_reducible apply Keeps.trans ?_ (State.bump_keeps ..))
    | (with_reducible apply Keeps.trans ?_ (State.sealOpen_keeps ..))
    | with_reducible apply KeepsRes.next
    | split

theorem execSealSubmitOutbound_keeps (function value : Nat) (irq header : Nat) (s : State) : KeepsRes s (execSealSubmitOutbound function value irq header s) := by
  unfold execSealSubmitOutbound
  repeat' first
    | with_reducible exact Keeps.refl _
    | (with_reducible apply Keeps.trans ?_ (State.bump_keeps ..))
    | (with_reducible apply Keeps.trans ?_ (State.sealClose_keeps ..))
    | with_reducible apply KeepsRes.next
    | split

/-! ### Boot -/

theorem State.measureImage_keeps (s : State) (i : ImageFacts) (kind : Nat) : Keeps s (State.measureImage s i kind) := by
  unfold State.measureImage
  repeat' first
    | (with_reducible apply Keeps.trans ?_ (State.setFields_keeps ..))
    | dsimp only
  all_goals try with_reducible apply Keeps.trans ?_ (Keeps.lit _)
  all_goals repeat' first
    | with_reducible exact Keeps.refl _

theorem State.restoreFlash_keeps (s : State) : Keeps s (State.restoreFlash s) := by
  unfold State.restoreFlash
  repeat' first
    | with_reducible exact Keeps.refl _
    | dsimp only
    | split
  all_goals try with_reducible apply Keeps.trans ?_ (Keeps.lit _)
  all_goals repeat' first
    | with_reducible exact Keeps.refl _

theorem State.applyReset_keeps (s : State) : Keeps s (State.applyReset s) := by
  unfold State.applyReset
  repeat' first
    | (with_reducible apply Keeps.trans ?_ (State.clearReg_keeps ..))
    | dsimp only
  all_goals try with_reducible apply Keeps.trans ?_ (Keeps.lit _)
  all_goals repeat' first
    | with_reducible exact Keeps.refl _

theorem State.raiseEpoch_keeps (s : State) : Keeps s (State.raiseEpoch s) := by
  unfold State.raiseEpoch
  repeat' first
    | with_reducible exact Keeps.refl _
    | (with_reducible apply Keeps.trans ?_ (State.setRcv_keeps ?_))
    | (with_reducible apply Keeps.trans ?_ (State.setReg_keeps ..))
    | (with_reducible exact id)

theorem State.startBoot_keeps (s : State) (cause : Nat) : Keeps s (State.startBoot s cause) := by
  unfold State.startBoot
  dsimp only
  refine Keeps.trans (t := (if s.rcv.capturing then s.setReg Obj.CRASH_DUMP_STATE 0 1 else s)) ?_ ?_
  · split
    · exact State.setReg_keeps ..
    · exact Keeps.refl _
  · generalize (if s.rcv.capturing then s.setReg Obj.CRASH_DUMP_STATE 0 1 else s) = s
    refine Keeps.trans (t := { s with rcv := { s.rcv with capturing := false, resetting := none }, cad := { s.cad with up := 0 } }) ⟨rfl, id, id, id, id, id⟩ ?_
    generalize ({ s with rcv := { s.rcv with capturing := false, resetting := none }, cad := { s.cad with up := 0 } } : State) = s
    repeat' first
      | with_reducible exact Keeps.refl _
      | (with_reducible apply Keeps.trans ?_ (State.applyReset_keeps ..))
      | (with_reducible apply Keeps.trans ?_ (State.goTo_keeps ..))
      | (with_reducible apply Keeps.trans ?_ (State.raiseEpoch_keeps ..))
      | (with_reducible apply Keeps.trans ?_ (State.restoreFlash_keeps ..))
      | (with_reducible apply Keeps.trans ?_ (State.setRegF_keeps ..))
      | (with_reducible apply Keeps.trans ?_ (State.setSec_keeps ..))
      | (with_reducible apply Keeps.trans ?_ (State.showClocks_keeps ..))
      | (with_reducible apply Keeps.trans ?_ (State.startClocks_keeps ..))
      | (with_reducible apply Keeps.trans ?_ (State.took_keeps ..))
      | (with_reducible apply Keeps.trans ?_ (State.setPlls_keeps ..))
      | (with_reducible apply Keeps.trans ?_ (Keeps.foldl _ _ _ ?_))
      | intro _

theorem execBootEntry_keeps (qualifyMs : Nat) (s : State) : KeepsRes s (execBootEntry qualifyMs s) := by
  unfold execBootEntry
  repeat' first
    | with_reducible exact Keeps.refl _
    | (with_reducible apply Keeps.trans ?_ (State.setRegF_keeps ..))
    | (with_reducible apply Keeps.trans ?_ (State.startBoot_keeps ..))
    | with_reducible apply KeepsRes.next
    | with_reducible exact KeepsRes.fault _ _
    | with_reducible exact KeepsRes.refused _ _
    | dsimp only
    | split

theorem execSelftestDone_keeps (result : SelfTest) (s : State) : KeepsRes s (execSelftestDone result s) := by
  unfold execSelftestDone
  repeat' first
    | with_reducible exact Keeps.refl _
    | (with_reducible apply Keeps.trans ?_ (State.bump_keeps ..))
    | (with_reducible apply Keeps.trans ?_ (State.enter_keeps ..))
    | (with_reducible apply Keeps.trans ?_ (State.log!_keeps ..))
    | (with_reducible apply Keeps.trans ?_ (State.setFields_keeps ..))
    | (with_reducible apply Keeps.trans ?_ (State.setRetired_keeps ..))
    | (with_reducible apply Keeps.trans ?_ (State.setSec_keeps ..))
    | with_reducible apply KeepsRes.next
    | (with_reducible apply Keeps.trans ?_ (Keeps.foldl _ _ _ ?_))
    | intro _
    | dsimp only
    | split

theorem State.bootFail_keeps (s : State) (kind check : Nat) : Keeps s (State.bootFail s kind check) := by
  unfold State.bootFail
  repeat' first
    | (with_reducible apply Keeps.trans ?_ (State.enter_keeps ..))
    | (with_reducible apply Keeps.trans ?_ (State.log!_keeps ..))
    | (with_reducible apply Keeps.trans ?_ (State.setSec_keeps ..))
    | dsimp only
    | split
  all_goals try with_reducible apply Keeps.trans ?_ (Keeps.lit _)
  all_goals repeat' first
    | with_reducible exact Keeps.refl _
    | (with_reducible apply Keeps.trans ?_ (State.clearReg_keeps ..))
    | (with_reducible apply Keeps.trans ?_ (State.setFields_keeps ..))
    | (with_reducible apply Keeps.foldl _ _ _ ?_)
    | intro _

theorem State.bootStep_keeps (s : State) (step : Nat) : Keeps s (State.bootStep s step) := by
  unfold State.bootStep
  repeat' first
    | with_reducible exact Keeps.refl _
    | (with_reducible apply Keeps.trans ?_ (State.setSec_keeps ..))

theorem execLoaderChecked_keeps (image : ImageFacts) (s : State) : KeepsRes s (execLoaderChecked image s) := by
  unfold execLoaderChecked
  repeat' first
    | with_reducible exact Keeps.refl _
    | (with_reducible apply Keeps.trans ?_ (State.bootFail_keeps ..))
    | (with_reducible apply Keeps.trans ?_ (State.bootStep_keeps ..))
    | (with_reducible apply Keeps.trans ?_ (State.measureImage_keeps ..))
    | (with_reducible apply Keeps.trans ?_ (State.setFields_keeps ..))
    | with_reducible apply KeepsRes.next
    | split

theorem execImagesChecked_keeps (firmware microcode router : ImageFacts) (s : State) : KeepsRes s (execImagesChecked firmware microcode router s) := by
  unfold execImagesChecked
  repeat' first
    | with_reducible exact Keeps.refl _
    | (with_reducible apply Keeps.trans ?_ (State.bootFail_keeps ..))
    | (with_reducible apply Keeps.trans ?_ (State.bootStep_keeps ..))
    | (with_reducible apply Keeps.trans ?_ (State.measureImage_keeps ..))
    | with_reducible apply KeepsRes.next
    | split

theorem execMeasuredEntry_keeps (bootMs : Nat) (s : State) : KeepsRes s (execMeasuredEntry bootMs s) := by
  unfold execMeasuredEntry
  repeat' first
    | with_reducible exact Keeps.refl _
    | (with_reducible apply Keeps.trans ?_ (State.bootStep_keeps ..))
    | (with_reducible apply Keeps.trans ?_ (State.enter_keeps ..))
    | (with_reducible apply Keeps.trans ?_ (State.resumePins_keeps ..))
    | (with_reducible apply Keeps.trans ?_ (State.setFields_keeps ..))
    | with_reducible apply KeepsRes.next
    | dsimp only
    | split

theorem execEnginesInitialised_keeps (readyMs : Nat) (s : State) : KeepsRes s (execEnginesInitialised readyMs s) := by
  unfold execEnginesInitialised
  repeat' first
    | with_reducible exact Keeps.refl _
    | (with_reducible apply Keeps.trans ?_ (State.bootStep_keeps ..))
    | (with_reducible apply Keeps.trans ?_ (State.enter_keeps ..))
    | (with_reducible apply Keeps.trans ?_ (State.log!_keeps ..))
    | (with_reducible apply Keeps.trans ?_ (State.setRegF_keeps ..))
    | with_reducible apply KeepsRes.next
    | dsimp only
    | split

theorem execBootStepTimeout_keeps (s : State) : KeepsRes s (execBootStepTimeout s) := by
  unfold execBootStepTimeout
  repeat' first
    | with_reducible exact Keeps.refl _
    | (with_reducible apply Keeps.trans ?_ (State.bootFail_keeps ..))
    | (with_reducible apply Keeps.trans ?_ (State.enter_keeps ..))
    | with_reducible apply KeepsRes.next
    | split

/-! ### FwUpdate -/

theorem State.noteGenuine_keeps (s : State) (place : Nat) (genuine : Bool) : Keeps s (State.noteGenuine s place genuine) := by
  unfold State.noteGenuine
  repeat' first
    | with_reducible exact Keeps.refl _
    | (with_reducible apply Keeps.trans ?_ (State.setFlash_keeps ..))

theorem State.fwBegin_keeps (s : State) (kind copy length : Nat) : Keeps s (State.fwBegin s kind copy length).2 := by
  unfold State.fwBegin
  repeat' first
    | with_reducible exact Keeps.refl _
    | (with_reducible apply Keeps.trans ?_ (State.setFields_keeps ..))
    | dsimp only
    | split
  all_goals try with_reducible apply Keeps.trans ?_ (Keeps.lit _)
  all_goals repeat' first
    | with_reducible exact Keeps.refl _
    | (with_reducible apply Keeps.trans ?_ (State.noteGenuine_keeps ..))

theorem State.fwData_keeps (s : State) (piece : Bytes) : Keeps s (State.fwData s piece).2 := by
  unfold State.fwData
  repeat' first
    | with_reducible exact Keeps.refl _
    | (with_reducible apply Keeps.trans ?_ (State.setRegF_keeps ..))
    | dsimp only
    | split

theorem State.fwFinish_keeps (s : State) (who : Who) : Keeps s (State.fwFinish s who).2 := by
  unfold State.fwFinish
  repeat' first
    | with_reducible exact Keeps.refl _
    | (with_reducible apply Keeps.trans ?_ (State.setDict_keeps ..))
    | (with_reducible apply Keeps.trans ?_ (State.setRegF_keeps ..))
    | dsimp only
    | split

theorem State.settleKept_keeps (s : State) (r : Nat) : Keeps s (State.settleKept s r) := by
  unfold State.settleKept
  repeat' first
    | with_reducible exact Keeps.refl _
    | (with_reducible apply Keeps.trans ?_ (State.setDict_keeps ..))
    | dsimp only
    | split

theorem State.fwEnds_keeps (s : State) : Keeps s (State.fwEnds s) := by
  unfold State.fwEnds
  repeat' first
    | with_reducible exact Keeps.refl _
    | (with_reducible apply Keeps.trans ?_ (State.setDict_keeps ..))
    | (with_reducible apply Keeps.trans ?_ (State.settleKept_keeps ..))
    | dsimp only
    | split

theorem State.fwCancel_keeps (s : State) : Keeps s (State.fwCancel s).2 := by
  unfold State.fwCancel
  repeat' first
    | with_reducible exact Keeps.refl _
    | (with_reducible apply Keeps.trans ?_ (State.fwEnds_keeps ..))
    | (with_reducible apply Keeps.trans ?_ (State.setRegF_keeps ..))

theorem State.fwPrefer_keeps (s : State) (copy : Nat) (flashOk : Bool) : Keeps s (State.fwPrefer s copy flashOk).2 := by
  unfold State.fwPrefer
  repeat' first
    | with_reducible exact Keeps.refl _
    | (with_reducible apply Keeps.trans ?_ (State.setFlash_keeps ..))
    | dsimp only
    | split

theorem execFwUpdateBegin_keeps (who : Who) (kind copy length : Nat) (s : State) : KeepsRes s (execFwUpdateBegin who kind copy length s) := by
  unfold execFwUpdateBegin
  repeat' first
    | with_reducible exact Keeps.refl _
    | (with_reducible apply Keeps.trans ?_ (State.fwBegin_keeps ..))
    | (with_reducible apply Keeps.trans ?_ (State.row_keeps (h5 := ?_) ..))
    | with_reducible apply KeepsRes.next
    | intro _

theorem execFwUpdateData_keeps (who : Who) (piece : Bytes) (s : State) : KeepsRes s (execFwUpdateData who piece s) := by
  unfold execFwUpdateData
  repeat' first
    | with_reducible exact Keeps.refl _
    | (with_reducible apply Keeps.trans ?_ (State.fwData_keeps ..))
    | (with_reducible apply Keeps.trans ?_ (State.row_keeps (h5 := ?_) ..))
    | with_reducible apply KeepsRes.next
    | intro _

theorem execFwUpdateFinish_keeps (who : Who) (s : State) : KeepsRes s (execFwUpdateFinish who s) := by
  unfold execFwUpdateFinish
  repeat' first
    | with_reducible exact Keeps.refl _
    | (with_reducible apply Keeps.trans ?_ (State.fwFinish_keeps ..))
    | (with_reducible apply Keeps.trans ?_ (State.row_keeps (h5 := ?_) ..))
    | with_reducible apply KeepsRes.next
    | intro _

theorem execFwUpdateCancel_keeps (who : Who) (s : State) : KeepsRes s (execFwUpdateCancel who s) := by
  unfold execFwUpdateCancel
  repeat' first
    | with_reducible exact Keeps.refl _
    | (with_reducible apply Keeps.trans ?_ (State.fwCancel_keeps ..))
    | (with_reducible apply Keeps.trans ?_ (State.row_keeps (h5 := ?_) ..))
    | with_reducible apply KeepsRes.next
    | intro _

theorem execSetPreferred_keeps (who : Who) (copy : Nat) (flashOk : Bool) (s : State) : KeepsRes s (execSetPreferred who copy flashOk s) := by
  unfold execSetPreferred
  repeat' first
    | with_reducible exact Keeps.refl _
    | (with_reducible apply Keeps.trans ?_ (State.fwPrefer_keeps ..))
    | (with_reducible apply Keeps.trans ?_ (State.row_keeps (h5 := ?_) ..))
    | with_reducible apply KeepsRes.next
    | intro _

theorem execPendingActionDone_keeps (image : ImageFacts) (s : State) : KeepsRes s (execPendingActionDone image s) := by
  unfold execPendingActionDone
  repeat' first
    | with_reducible exact Keeps.refl _
    | (with_reducible apply Keeps.trans ?_ (State.fwEnds_keeps ..))
    | (with_reducible apply Keeps.trans ?_ (State.noteGenuine_keeps ..))
    | (with_reducible apply Keeps.trans ?_ (State.setFields_keeps ..))
    | with_reducible apply KeepsRes.next
    | dsimp only
    | split

theorem State.askRestore_keeps (s : State) (value : Nat) : Keeps s (State.askRestore s value).2 := by
  unfold State.askRestore
  repeat' first
    | with_reducible exact Keeps.refl _
    | (with_reducible apply Keeps.trans ?_ (State.setFlash_keeps ..))
    | dsimp only
    | split

theorem execFlashRestoreDefaults_keeps (who : Who) (value : Nat) (s : State) : KeepsRes s (execFlashRestoreDefaults who value s) := by
  unfold execFlashRestoreDefaults
  repeat' first
    | with_reducible exact Keeps.refl _
    | (with_reducible apply Keeps.trans ?_ (State.askRestore_keeps ..))
    | (with_reducible apply Keeps.trans ?_ (State.row_keeps (h5 := ?_) ..))
    | with_reducible apply KeepsRes.next
    | intro _

/-! ### StepEnd -/

theorem State.publishTiming_keeps (s : State) (c : Nat) : Keeps s (State.publishTiming s c) := by
  unfold State.publishTiming
  repeat' first
    | with_reducible exact Keeps.refl _
    | (with_reducible apply Keeps.trans ?_ (State.setFields_keeps ..))

theorem State.publishStragglers_keeps (s : State) (c : Nat) : Keeps s (State.publishStragglers s c) := by
  unfold State.publishStragglers
  repeat' first
    | with_reducible exact Keeps.refl _
    | (with_reducible apply Keeps.trans ?_ (State.log!_keeps ..))
    | (with_reducible apply Keeps.trans ?_ (State.setFields_keeps ..))
    | (with_reducible apply Keeps.trans ?_ (Keeps.foldl _ _ _ ?_))
    | intro _

theorem State.telemetryPut_keeps (s : State) (c type : Nat) (subject value : Nat) : Keeps s (State.telemetryPut s c type subject value) := by
  unfold State.telemetryPut
  repeat' first
    | with_reducible exact Keeps.refl _
    | (with_reducible apply Keeps.trans ?_ (State.bump_keeps ..))
    | (with_reducible apply Keeps.trans ?_ (State.writeEntry_keeps ..))
    | dsimp only
    | split

theorem State.telemetryAll_keeps (s : State) (c type : Nat) (l : List (Nat × Nat)) : Keeps s (State.telemetryAll s c type l) := by
  unfold State.telemetryAll
  repeat' first
    | with_reducible exact Keeps.refl _
    | (with_reducible apply Keeps.trans ?_ (State.telemetryPut_keeps ..))
    | (with_reducible apply Keeps.foldl _ _ _ ?_)
    | intro _

theorem State.predictorEntries_keeps (s : State) (c : Nat) (a2 : List Nat) : Keeps s (State.predictorEntries s c a2) := by
  fun_induction State.predictorEntries s c a2 <;> try dsimp only
  all_goals
    repeat' first
      | with_reducible exact Keeps.refl _
      | (with_reducible apply Keeps.trans ?_ (Keeps.of_pair (State.ctxRead_keeps ..) ?_); rotate_right; (with_reducible assumption))
      | (with_reducible apply Keeps.trans ?_ (State.telemetryPut_keeps ..))
      | (with_reducible apply Keeps.trans ?_ (State.took_keeps ..))
      | (with_reducible apply Keeps.trans ?_ ?_; rotate_right; (with_reducible assumption))

theorem State.telemetryType_keeps (s : State) (c type : Nat) : Keeps s (State.telemetryType s c type) := by
  unfold State.telemetryType
  repeat' first
    | with_reducible exact Keeps.refl _
    | (with_reducible apply Keeps.trans ?_ (State.predictorEntries_keeps ..))
    | (with_reducible apply Keeps.trans ?_ (State.telemetryAll_keeps ..))
    | split

theorem State.telemetry_keeps (s : State) (c : Nat) : Keeps s (State.telemetry s c) := by
  unfold State.telemetry
  repeat' first
    | with_reducible exact Keeps.refl _
    | (with_reducible apply Keeps.trans ?_ (State.telemetryType_keeps ..))
    | (with_reducible apply Keeps.foldl _ _ _ ?_)
    | intro _
    | split

theorem State.endStep_keeps (s : State) (c endNs : Nat) : Keeps s (State.endStep s c endNs) := by
  unfold State.endStep
  repeat' first
    | with_reducible exact Keeps.refl _
    | (with_reducible apply Keeps.trans ?_ (State.ledgerEnd_keeps ..))
    | (with_reducible apply Keeps.trans ?_ (State.planTo_keeps ..))
    | (with_reducible apply Keeps.trans ?_ (State.publishStragglers_keeps ..))
    | (with_reducible apply Keeps.trans ?_ (State.publishTiming_keeps ..))
    | (with_reducible apply Keeps.trans ?_ (State.routerStepEnd_keeps ..))
    | (with_reducible apply Keeps.trans ?_ (State.setPlan_keeps ..))
    | (with_reducible apply Keeps.trans ?_ (State.stepEndRecord_keeps ..))
    | (with_reducible apply Keeps.trans ?_ (State.telemetry_keeps ..))
    | dsimp only
    | split

/-! ### Merge -/

theorem State.runPieces_keeps (s : State) (a1 : List CollNode) : Keeps s (State.runPieces s a1).2 := by
  fun_induction State.runPieces s a1 <;> try dsimp only
  all_goals
    repeat' first
      | with_reducible exact Keeps.refl _
      | (with_reducible apply Keeps.trans ?_ (Keeps.of_pair (State.nodeBytes_keeps ..) ?_); rotate_right; (with_reducible assumption))
      | (with_reducible apply Keeps.trans ?_ (Keeps.of_pair ?_ ?_); rotate_right; (with_reducible assumption); rotate_right; (with_reducible assumption))

theorem State.positionRun_keeps (s : State) (c step w : Nat) (g : Geo) (q : Nat) : Keeps s (State.positionRun s c step w g q).2 := by
  unfold State.positionRun
  repeat' first
    | with_reducible exact Keeps.refl _
    | (with_reducible apply Keeps.trans ?_ (State.runPieces_keeps ..))
    | dsimp only
    | split

theorem State.allRuns_keeps (s : State) (c step w : Nat) (g : Geo) (a5 : List Nat) : Keeps s (State.allRuns s c step w g a5).2 := by
  fun_induction State.allRuns s c step w g a5 <;> try dsimp only
  all_goals
    repeat' first
      | with_reducible exact Keeps.refl _
      | (with_reducible apply Keeps.trans ?_ (Keeps.of_pair (State.positionRun_keeps ..) ?_); rotate_right; (with_reducible assumption))
      | (with_reducible apply Keeps.trans ?_ (Keeps.of_pair ?_ ?_); rotate_right; (with_reducible assumption); rotate_right; (with_reducible assumption))

theorem State.writeDense_keeps (s : State) (n : Nat) (it : Item) (width : Nat) (l : List (Nat × List Sourced)) : Keeps s (State.writeDense s n it width l) := by
  unfold State.writeDense
  repeat' first
    | with_reducible exact Keeps.refl _
    | (with_reducible apply Keeps.trans ?_ (State.writeRows_keeps ..))

theorem State.finishMerge_keeps (s : State) (n : Nat) (it : Item) (w : Nat) (g : Geo) : Keeps s (State.finishMerge s n it w g) := by
  unfold State.finishMerge
  repeat' first
    | with_reducible exact Keeps.refl _
    | (with_reducible apply Keeps.trans ?_ (State.allRuns_keeps ..))
    | (with_reducible apply Keeps.trans ?_ (State.applyAbsence_keeps ..))
    | (with_reducible apply Keeps.trans ?_ (State.collDone_keeps ..))
    | (with_reducible apply Keeps.trans ?_ (State.finish_keeps ..))
    | (with_reducible apply Keeps.trans ?_ (State.meet_keeps ..))
    | (with_reducible apply Keeps.trans ?_ (State.sWrite_keeps ..))
    | (with_reducible apply Keeps.trans ?_ (State.writeDense_keeps ..))
    | (with_reducible apply Keeps.trans ?_ (State.writeNans_keeps ..))
    | (with_reducible apply Keeps.trans ?_ (State.writeVisits_keeps ..))
    | dsimp only
    | split

theorem State.collFinish_keeps (s : State) (n : Nat) (it : Item) : Keeps s (State.collFinish s n it) := by
  unfold State.collFinish
  repeat' first
    | with_reducible exact Keeps.refl _
    | (with_reducible apply Keeps.trans ?_ (State.finishDense_keeps ..))
    | (with_reducible apply Keeps.trans ?_ (State.finishMerge_keeps ..))
    | split

theorem execCollFinish_keeps (item : Nat) (s : State) : KeepsRes s (execCollFinish item s) := by
  unfold execCollFinish
  repeat' first
    | with_reducible exact Keeps.refl _
    | (with_reducible apply Keeps.trans ?_ (State.collFinish_keeps ..))
    | (with_reducible apply Keeps.trans ?_ (State.collPhase_keeps (h3 := ?_) ..))
    | with_reducible apply KeepsRes.next
    | intro _

theorem State.topkRow_keeps (s : State) (n : Nat) (it : Item) (r : Nat) : Keeps s (State.topkRow s n it r).2 := by
  unfold State.topkRow
  repeat' first
    | with_reducible exact Keeps.refl _
    | (with_reducible apply Keeps.trans ?_ (State.readSpans_keeps ..))
    | dsimp only
    | split

theorem State.topkRows_keeps (s : State) (n : Nat) (it : Item) (a3 : List Nat) : Keeps s (State.topkRows s n it a3).2 := by
  fun_induction State.topkRows s n it a3 <;> try dsimp only
  all_goals
    repeat' first
      | with_reducible exact Keeps.refl _
      | (with_reducible apply Keeps.trans ?_ (Keeps.of_pair (State.topkRow_keeps ..) ?_); rotate_right; (with_reducible assumption))
      | (with_reducible apply Keeps.trans ?_ ?_; rotate_right; (with_reducible assumption))

theorem State.topkSelect_keeps (s : State) (n : Nat) (it : Item) : Keeps s (State.topkSelect s n it) := by
  unfold State.topkSelect
  repeat' first
    | with_reducible exact Keeps.refl _
    | (with_reducible apply Keeps.trans ?_ (State.finish_keeps ..))
    | (with_reducible apply Keeps.trans ?_ (State.meet_keeps ..))
    | (with_reducible apply Keeps.trans ?_ (State.sWrite_keeps ..))
    | (with_reducible apply Keeps.trans ?_ (State.topkRows_keeps ..))
    | (with_reducible apply Keeps.trans ?_ (State.writeRows_keeps ..))
    | dsimp only
    | split

theorem execTopkSelect_keeps (item : Nat) (s : State) : KeepsRes s (execTopkSelect item s) := by
  unfold execTopkSelect
  repeat' first
    | with_reducible exact Keeps.refl _
    | (with_reducible apply Keeps.trans ?_ (State.refuseColl_keeps ..))
    | (with_reducible apply Keeps.trans ?_ (State.topkSelect_keeps ..))
    | (with_reducible apply Keeps.trans ?_ (State.withItem_keeps (h3 := ?_) ..))
    | with_reducible apply KeepsRes.next
    | intro _
    | dsimp only
    | split

/-! ### Run -/

theorem State.setSlip_keeps (s : State) (c v : Nat) : Keeps s (State.setSlip s c v) := by
  unfold State.setSlip
  repeat' first
    | with_reducible exact Keeps.refl _
    | (with_reducible apply Keeps.trans ?_ (State.setPlan_keeps ..))
    | (with_reducible apply Keeps.trans ?_ (State.setReg_keeps ..))

theorem State.countBusy_keeps (s : State) (c t f : Nat) : Keeps s (State.countBusy s c t f) := by
  unfold State.countBusy
  repeat' first
    | with_reducible exact Keeps.refl _
    | (with_reducible apply Keeps.trans ?_ (State.bump_keeps ..))
    | (with_reducible apply Keeps.trans ?_ (State.setPlan_keeps ..))
    | dsimp only
    | split

theorem State.freeFacets_keeps (s : State) (c t : Nat) (fs : List Nat) : Keeps s (State.freeFacets s c t fs) := by
  unfold State.freeFacets
  repeat' first
    | with_reducible exact Keeps.refl _
    | (with_reducible apply Keeps.trans ?_ (State.countBusy_keeps ..))
    | (with_reducible apply Keeps.trans ?_ (State.setPlan_keeps ..))
    | (with_reducible apply Keeps.foldl _ _ _ ?_)
    | intro _
    | dsimp only
    | split

theorem State.readReplay_keeps (s : State) (c step : Nat) (a3 a4 : Nat) : Keeps s (State.readReplay s c step a3 a4).2 := by
  fun_induction State.readReplay s c step a3 a4 <;> try dsimp only
  all_goals
    repeat' first
      | with_reducible exact Keeps.refl _
      | (with_reducible apply Keeps.trans ?_ (Keeps.of_pair (State.ctxRead_keeps ..) ?_); rotate_right; (with_reducible assumption))
      | (with_reducible apply Keeps.trans ?_ ?_; rotate_right; (with_reducible assumption))

theorem State.openPlanStep_keeps (s : State) (c n planned : Nat) : Keeps s (State.openPlanStep s c n planned) := by
  unfold State.openPlanStep
  repeat' first
    | with_reducible exact Keeps.refl _
    | (with_reducible apply Keeps.trans ?_ (State.applyStep_keeps ..))
    | (with_reducible apply Keeps.trans ?_ (State.collNewStep_keeps ..))
    | (with_reducible apply Keeps.trans ?_ (State.countBusy_keeps ..))
    | (with_reducible apply Keeps.trans ?_ (State.mapAtStep_keeps ..))
    | (with_reducible apply Keeps.trans ?_ (State.readReplay_keeps ..))
    | (with_reducible apply Keeps.trans ?_ (State.routerNewStep_keeps ..))
    | (with_reducible apply Keeps.trans ?_ (State.setPlan_keeps ..))
    | (with_reducible apply Keeps.trans ?_ (State.setReg_keeps ..))
    | (with_reducible apply Keeps.trans ?_ (State.setSlip_keeps ..))
    | (with_reducible apply Keeps.trans ?_ (Keeps.foldl _ _ _ ?_))
    | intro _
    | split

theorem State.openNext_keeps (s : State) (c : Nat) (im : PlanImage) : Keeps s (State.openNext s c im) := by
  unfold State.openNext
  repeat' first
    | with_reducible exact Keeps.refl _
    | (with_reducible apply Keeps.trans ?_ (State.openPlanStep_keeps ..))
    | dsimp only
    | split

theorem State.slotOverrun_keeps (s : State) (c i : Nat) (r : SlotRun) : Keeps s (State.slotOverrun s c i r) := by
  unfold State.slotOverrun
  repeat' first
    | with_reducible exact Keeps.refl _
    | (with_reducible apply Keeps.trans ?_ (State.log!_keeps ..))
    | (with_reducible apply Keeps.trans ?_ (State.setPlan_keeps ..))

theorem State.deadlines_keeps (s : State) (c : Nat) (im : PlanImage) : Keeps s (State.deadlines s c im) := by
  unfold State.deadlines
  repeat' first
    | with_reducible exact Keeps.refl _
    | (with_reducible apply Keeps.trans ?_ (State.slotOverrun_keeps ..))
    | (with_reducible apply Keeps.foldl _ _ _ ?_)
    | intro _

theorem State.releaseHold_keeps (s : State) (c : Nat) (im : PlanImage) : Keeps s (State.releaseHold s c im) := by
  unfold State.releaseHold
  all_goals try with_reducible apply Keeps.trans ?_ (Keeps.lit _)
  all_goals repeat' first
    | with_reducible exact Keeps.refl _
    | with_reducible exact Keeps.lit _
    | (with_reducible apply Keeps.trans ?_ (State.setPlan_keeps ..))
    | (with_reducible apply Keeps.trans ?_ (State.setSlip_keeps ..))
    | (with_reducible apply Keeps.trans ?_ (State.start_keeps ..))
    | intro _
    | dsimp only
    | split
  all_goals try with_reducible apply Keeps.trans ?_ (Keeps.lit _)
  all_goals repeat' first
    | with_reducible exact Keeps.refl _
    | with_reducible exact Keeps.lit _
    | (with_reducible apply Keeps.trans ?_ (State.setPlan_keeps ..))
    | (with_reducible apply Keeps.trans ?_ (State.setSlip_keeps ..))
    | (with_reducible apply Keeps.trans ?_ (State.start_keeps ..))
    | intro _
    | dsimp only
    | split

theorem State.noteWait_keeps (s : State) (c : Nat) (im : PlanImage) : Keeps s (State.noteWait s c im) := by
  unfold State.noteWait
  all_goals try with_reducible apply Keeps.trans ?_ (Keeps.lit _)
  all_goals repeat' first
    | with_reducible exact Keeps.refl _
    | with_reducible exact Keeps.lit _
    | (with_reducible apply Keeps.trans ?_ (State.setPlan_keeps ..))
    | (with_reducible apply Keeps.trans ?_ (State.start_keeps ..))
    | dsimp only
    | split
  all_goals try with_reducible apply Keeps.trans ?_ (Keeps.lit _)
  all_goals repeat' first
    | with_reducible exact Keeps.refl _
    | with_reducible exact Keeps.lit _
    | (with_reducible apply Keeps.trans ?_ (State.setPlan_keeps ..))
    | (with_reducible apply Keeps.trans ?_ (State.start_keeps ..))
    | dsimp only
    | split

theorem State.refuseClass_keeps (s : State) (cls n c : Nat) : Keeps s (State.refuseClass s cls n c) := by
  unfold State.refuseClass
  repeat' first
    | with_reducible exact Keeps.refl _
    | (with_reducible apply Keeps.trans ?_ (State.refuseColl_keeps ..))
    | (with_reducible apply Keeps.trans ?_ (State.refuseFabric_keeps ..))
    | (with_reducible apply Keeps.trans ?_ (State.refuseMatrix_keeps ..))
    | (with_reducible apply Keeps.trans ?_ (State.refuseRouter_keeps ..))
    | (with_reducible apply Keeps.trans ?_ (State.refuseStream_keeps ..))
    | (with_reducible apply Keeps.trans ?_ (State.refuseVector_keeps ..))
    | split

theorem State.acceptDescs_keeps (s : State) (c i : Nat) (facet first step : Nat) (issued : Bool) (a7 : Nat) (a8 : List Nat) : Keeps s (State.acceptDescs s c i facet first step issued a7 a8).2 := by
  fun_induction State.acceptDescs s c i facet first step issued a7 a8 <;> try dsimp only
  all_goals
    repeat' first
      | with_reducible exact Keeps.refl _
      | (with_reducible apply Keeps.trans ?_ (State.acceptItem_keeps ..))
      | (with_reducible apply Keeps.trans ?_ ?_; rotate_right; (with_reducible assumption))

theorem State.slotDescs_keeps (s : State) (c : Nat) (im : PlanImage) (sl : Slot) : Keeps s (State.slotDescs s c im sl).2.2 := by
  unfold State.slotDescs
  repeat' first
    | with_reducible exact Keeps.refl _
    | (with_reducible apply Keeps.trans ?_ (State.ctxRead_keeps ..))

theorem State.failSlot_keeps (s : State) (c : Nat) (im : PlanImage) (e : Nat × Slot) : Keeps s (State.failSlot s c im e) := by
  unfold State.failSlot
  repeat' first
    | with_reducible exact Keeps.refl _
    | (with_reducible apply Keeps.trans ?_ (State.acceptDescs_keeps ..))
    | (with_reducible apply Keeps.trans ?_ (State.finishWith_keeps ..))
    | (with_reducible apply Keeps.trans ?_ (State.slotDescs_keeps ..))
    | (with_reducible apply Keeps.trans ?_ (Keeps.foldl _ _ _ ?_))
    | intro _

theorem State.dropContribution_keeps (s : State) (c w source : Nat) : Keeps s (State.dropContribution s c w source) := by
  unfold State.dropContribution
  repeat' first
    | with_reducible exact Keeps.refl _
    | (with_reducible apply Keeps.trans ?_ (State.collDropped_keeps ..))
    | (with_reducible apply Keeps.trans ?_ (State.routerDropped_keeps ..))
    | (with_reducible apply Keeps.trans ?_ (State.setContrib_keeps ..))

theorem State.failWindow_keeps (s : State) (c : Nat) (im : PlanImage) (w cause : Nat) : Keeps s (State.failWindow s c im w cause) := by
  unfold State.failWindow
  repeat' first
    | with_reducible exact Keeps.refl _
    | (with_reducible apply Keeps.trans ?_ (State.failSlot_keeps ..))
    | (with_reducible apply Keeps.trans ?_ (State.haltPlan_keeps ..))
    | (with_reducible apply Keeps.foldl _ _ _ ?_)
    | intro _

theorem State.countLate_keeps (s : State) (c w : Nat) : Keeps s (State.countLate s c w) := by
  unfold State.countLate
  repeat' first
    | with_reducible exact Keeps.refl _
    | (with_reducible apply Keeps.trans ?_ (State.setPlan_keeps ..))

theorem State.dropLate_keeps (s : State) (c : Nat) (im : PlanImage) (w slot off : Nat) (a6 : List Nat) : Keeps s (State.dropLate s c im w slot off a6) := by
  fun_induction State.dropLate s c im w slot off a6 <;> try dsimp only
  all_goals
    repeat' first
      | with_reducible exact Keeps.refl _
      | (with_reducible apply Keeps.trans ?_ (State.dropContribution_keeps ..))
      | (with_reducible apply Keeps.trans ?_ (State.failWindow_keeps ..))
      | (with_reducible apply Keeps.trans ?_ (State.ledgerPut_keeps ..))
      | (with_reducible apply Keeps.trans ?_ ?_; rotate_right; (with_reducible assumption))

theorem State.waitLate_keeps (s : State) (c slot : Nat) : Keeps s (State.waitLate s c slot) := by
  unfold State.waitLate
  repeat' first
    | with_reducible exact Keeps.refl _
    | (with_reducible apply Keeps.trans ?_ (State.log!_keeps ..))

theorem State.judgeWindow_keeps (s : State) (c : Nat) (im : PlanImage) (e : Nat × Window) : Keeps s (State.judgeWindow s c im e) := by
  unfold State.judgeWindow
  repeat' first
    | with_reducible exact Keeps.refl _
    | (with_reducible apply Keeps.trans ?_ (State.countLate_keeps ..))
    | (with_reducible apply Keeps.trans ?_ (State.dropContribution_keeps ..))
    | (with_reducible apply Keeps.trans ?_ (State.dropLate_keeps ..))
    | (with_reducible apply Keeps.trans ?_ (State.failWindow_keeps ..))
    | (with_reducible apply Keeps.trans ?_ (State.setPlan_keeps ..))
    | (with_reducible apply Keeps.trans ?_ (State.waitLate_keeps ..))
    | (with_reducible apply Keeps.trans ?_ (Keeps.foldl _ _ _ ?_))
    | intro _
    | dsimp only
    | split

theorem State.judgeWindows_keeps (s : State) (c : Nat) (im : PlanImage) : Keeps s (State.judgeWindows s c im) := by
  unfold State.judgeWindows
  repeat' first
    | with_reducible exact Keeps.refl _
    | (with_reducible apply Keeps.trans ?_ (State.judgeWindow_keeps ..))
    | (with_reducible apply Keeps.foldl _ _ _ ?_)
    | intro _

theorem State.slotDone_keeps (s : State) (c key t : Nat) : Keeps s (State.slotDone s c key t) := by
  unfold State.slotDone
  repeat' first
    | with_reducible exact Keeps.refl _
    | (with_reducible apply Keeps.trans ?_ (State.endStep_keeps ..))
    | (with_reducible apply Keeps.trans ?_ (State.freeFacets_keeps ..))
    | (with_reducible apply Keeps.trans ?_ (State.setFacets_keeps ..))
    | (with_reducible apply Keeps.trans ?_ (State.setMaint_keeps ..))
    | (with_reducible apply Keeps.trans ?_ (State.setPlan_keeps ..))
    | (with_reducible apply Keeps.trans ?_ (State.settle_keeps ..))
    | (with_reducible apply Keeps.trans ?_ (State.trace_keeps ..))
    | dsimp only
    | split

theorem State.closeWindows_keeps (s : State) (c : Nat) : Keeps s (State.closeWindows s c) := by
  unfold State.closeWindows
  repeat' first
    | with_reducible exact Keeps.refl _
    | (with_reducible apply Keeps.trans ?_ (State.slotDone_keeps ..))
    | (with_reducible apply Keeps.foldl _ _ _ ?_)
    | intro _

theorem execSlotComplete_keeps (ctx slot sinceEdgeNs : Nat) (s : State) : KeepsRes s (execSlotComplete ctx slot sinceEdgeNs s) := by
  unfold execSlotComplete
  repeat' first
    | with_reducible exact Keeps.refl _
    | (with_reducible apply Keeps.trans ?_ (State.slotDone_keeps ..))
    | with_reducible apply KeepsRes.next
    | split

theorem State.beginAbsent_keeps (s : State) (c : Nat) : Keeps s (State.beginAbsent s c) := by
  unfold State.beginAbsent
  repeat' first
    | with_reducible exact Keeps.refl _
    | (with_reducible apply Keeps.trans ?_ (State.ctxWrite_keeps ..))
    | (with_reducible apply Keeps.trans ?_ (State.followAbsent_keeps ..))
    | (with_reducible apply Keeps.trans ?_ (State.setReg_keeps ..))
    | (with_reducible apply Keeps.trans ?_ (Keeps.foldl _ _ _ ?_))
    | intro _
    | split

theorem State.ownFacet_keeps (s : State) (c f : Nat) : Keeps s (State.ownFacet s c f) := by
  unfold State.ownFacet
  repeat' first
    | with_reducible exact Keeps.refl _
    | (with_reducible apply Keeps.trans ?_ (State.setFacet_keeps ..))

theorem State.giveThread_keeps (s : State) (f : Nat) (th : Thread) : Keeps s (State.giveThread s f th) := by
  unfold State.giveThread
  repeat' first
    | with_reducible exact Keeps.refl _
    | (with_reducible apply Keeps.trans ?_ (State.setThread_keeps ..))
    | split

theorem State.placeItems_keeps (s : State) (c i : Nat) (im : PlanImage) (sl : Slot) (serial : Nat) (ds : List Nat) : Keeps s (State.placeItems s c i im sl serial ds) := by
  unfold State.placeItems
  repeat' first
    | with_reducible exact Keeps.refl _
    | (with_reducible apply Keeps.trans ?_ (State.acceptDescs_keeps ..))
    | (with_reducible apply Keeps.trans ?_ (State.finish_keeps ..))
    | (with_reducible apply Keeps.trans ?_ (State.giveThread_keeps ..))
    | (with_reducible apply Keeps.trans ?_ (State.refuseClass_keeps ..))
    | (with_reducible apply Keeps.foldl _ _ _ ?_)
    | (with_reducible apply Keeps.trans ?_ (Keeps.foldl _ _ _ ?_))
    | intro _
    | dsimp only
    | split

theorem State.closeMirror_keeps (s : State) (c : Nat) : Keeps s (State.closeMirror s c) := by
  unfold State.closeMirror
  dsimp only
  split
  · exact State.mirrorFailed_keeps ..
  · refine State.writeCommit_getD_keeps _ _ _ _ _ ?_ ?_
    · exact State.setPlan_keeps ..
    · exact State.mirrorClosed_keeps ..

theorem State.markDropped_keeps (s : State) (c i step : Nat) (sl : Slot) : Keeps s (State.markDropped s c i step sl) := by
  unfold State.markDropped
  repeat' first
    | with_reducible exact Keeps.refl _
    | (with_reducible apply Keeps.trans ?_ (State.meet_keeps ..))
    | (with_reducible apply Keeps.foldl _ _ _ ?_)
    | intro _
    | split

theorem State.startSlot_keeps (s : State) (c i : Nat) (im : PlanImage) (sl : Slot) : Keeps s (State.startSlot s c i im sl) := by
  unfold State.startSlot
  repeat' first
    | with_reducible exact Keeps.refl _
    | (with_reducible apply Keeps.trans ?_ (State.beginAbsent_keeps ..))
    | (with_reducible apply Keeps.trans ?_ (State.closeMirror_keeps ..))
    | (with_reducible apply Keeps.trans ?_ (State.contextReset_keeps ..))
    | (with_reducible apply Keeps.trans ?_ (State.markDropped_keeps ..))
    | (with_reducible apply Keeps.trans ?_ (State.ownFacet_keeps ..))
    | (with_reducible apply Keeps.trans ?_ (State.placeItems_keeps ..))
    | (with_reducible apply Keeps.trans ?_ (State.setMaint_keeps ..))
    | (with_reducible apply Keeps.trans ?_ (State.slotDescs_keeps ..))
    | (with_reducible apply Keeps.trans ?_ (State.slotDone_keeps ..))
    | (with_reducible apply Keeps.trans ?_ (State.trace_keeps ..))
    | (with_reducible apply Keeps.trans ?_ (Keeps.foldl _ _ _ ?_))
    | intro _
    | dsimp only
    | split
  all_goals try with_reducible apply Keeps.trans ?_ (Keeps.lit _)
  all_goals repeat' first
    | with_reducible exact Keeps.refl _
    | (with_reducible apply Keeps.trans ?_ (State.beginAbsent_keeps ..))
    | (with_reducible apply Keeps.trans ?_ (State.setPlan_keeps ..))
    | (with_reducible apply Keeps.trans ?_ (State.slotDescs_keeps ..))

theorem State.tryStart_keeps (s : State) (c : Nat) (im : PlanImage) (onTime : Bool) : Keeps s (State.tryStart s c im onTime).2 := by
  unfold State.tryStart
  all_goals try with_reducible apply Keeps.trans ?_ (Keeps.lit _)
  all_goals repeat' first
    | with_reducible exact Keeps.refl _
    | with_reducible exact Keeps.lit _
    | (with_reducible apply Keeps.trans ?_ (State.bump_keeps ..))
    | (with_reducible apply Keeps.trans ?_ (State.setPlan_keeps ..))
    | (with_reducible apply Keeps.trans ?_ (State.setSlip_keeps ..))
    | (with_reducible apply Keeps.trans ?_ (State.start_keeps ..))
    | (with_reducible apply Keeps.trans ?_ (State.startSlot_keeps ..))
    | with_reducible apply Keeps.ite_snd
    | with_reducible apply Keeps.ite
    | dsimp only
    | split
  all_goals try with_reducible apply Keeps.trans ?_ (Keeps.lit _)
  all_goals repeat' first
    | with_reducible exact Keeps.refl _
    | with_reducible exact Keeps.lit _
    | (with_reducible apply Keeps.trans ?_ (State.bump_keeps ..))
    | (with_reducible apply Keeps.trans ?_ (State.setPlan_keeps ..))
    | (with_reducible apply Keeps.trans ?_ (State.setSlip_keeps ..))
    | (with_reducible apply Keeps.trans ?_ (State.start_keeps ..))
    | (with_reducible apply Keeps.trans ?_ (State.startSlot_keeps ..))
    | with_reducible apply Keeps.ite_snd
    | with_reducible apply Keeps.ite
    | dsimp only
    | split

theorem State.starts_keeps (s : State) (c : Nat) (im : PlanImage) (onTime : Bool) (a4 : Nat) : Keeps s (State.starts s c im onTime a4) := by
  fun_induction State.starts s c im onTime a4 <;> try dsimp only
  all_goals
    repeat' first
      | with_reducible exact Keeps.refl _
      | with_reducible assumption
      | (with_reducible apply Keeps.trans ?_ (State.tryStart_keeps ..))
      | (with_reducible apply Keeps.trans ?_ (Keeps.of_pair (State.tryStart_keeps ..) ?_); rotate_right; (with_reducible assumption))
      | dsimp only
      | (with_reducible apply Keeps.trans ?_ ?_; rotate_right; (with_reducible assumption))
      | split

theorem execLateWaitTimeout_keeps (ctx slot : Nat) (s : State) : KeepsRes s (execLateWaitTimeout ctx slot s) := by
  unfold execLateWaitTimeout
  repeat' first
    | with_reducible exact Keeps.refl _
    | (with_reducible apply Keeps.trans ?_ (State.failWindow_keeps ..))
    | with_reducible apply KeepsRes.next
    | dsimp only
    | split

theorem State.planEdge_keeps (s : State) (c : Nat) : Keeps s (State.planEdge s c) := by
  unfold State.planEdge
  repeat' first
    | with_reducible exact Keeps.refl _
    | (with_reducible apply Keeps.trans ?_ (State.deadlines_keeps ..))
    | (with_reducible apply Keeps.trans ?_ (State.judgeWindows_keeps ..))
    | (with_reducible apply Keeps.trans ?_ (State.noteWait_keeps ..))
    | (with_reducible apply Keeps.trans ?_ (State.openNext_keeps ..))
    | (with_reducible apply Keeps.trans ?_ (State.planTo_keeps ..))
    | (with_reducible apply Keeps.trans ?_ (State.releaseHold_keeps ..))
    | with_reducible apply Keeps.ite_snd
    | with_reducible apply Keeps.ite
    | dsimp only
    | split

theorem State.startsEdge_keeps (s : State) (c : Nat) (onTime : Bool) : Keeps s (State.startsEdge s c onTime) := by
  unfold State.startsEdge
  repeat' first
    | with_reducible exact Keeps.refl _
    | (with_reducible apply Keeps.trans ?_ (State.starts_keeps ..))
    | dsimp only
    | split

theorem State.plansEdge_keeps (s : State) : Keeps s (State.plansEdge s) := by
  unfold State.plansEdge
  repeat' first
    | with_reducible exact Keeps.refl _
    | (with_reducible apply Keeps.trans ?_ (State.closeWindows_keeps ..))
    | (with_reducible apply Keeps.trans ?_ (State.planEdge_keeps ..))
    | (with_reducible apply Keeps.trans ?_ (State.startsEdge_keeps ..))
    | (with_reducible apply Keeps.trans ?_ (Keeps.foldl _ _ _ ?_))
    | (with_reducible apply Keeps.trans ?_ (Keeps.foldl_pair _ _ _ ?_))
    | intro _
    | dsimp only
    | split

/-! ### Upkeep -/

theorem State.unitEnds_keeps (s : State) (r : MaintRun) (failed : Bool) (durationNs : Nat) : Keeps s (State.unitEnds s r failed durationNs) := by
  unfold State.unitEnds
  repeat' first
    | with_reducible exact Keeps.refl _
    | (with_reducible apply Keeps.trans ?_ (State.log!_keeps ..))
    | (with_reducible apply Keeps.trans ?_ (State.setMaint_keeps ..))
    | dsimp only
    | split

theorem State.stopRetunes_keeps (s : State) (p : Nat) : Keeps s (State.stopRetunes s p) := by
  unfold State.stopRetunes
  repeat' first
    | with_reducible exact Keeps.refl _
    | (with_reducible apply Keeps.trans ?_ (State.unitEnds_keeps ..))
    | (with_reducible apply Keeps.foldl _ _ _ ?_)
    | intro _

end Sys2Proof.Machine
end

