-- ==== Sys2Proof/Laws/KeepsService.lean ====
section
/-! SUPPORT. Sys2Proof/Laws/KeepsService.lean: that the spokes, maintenance, the beat, the dictionary, SPDM, the fabric target and the vector instructions keep the form of the state. -/

namespace Sys2Proof.Machine

/-! ### Spokes -/

theorem execSpokeReset_keeps (who : Who) (spoke : Nat) (s : State) : KeepsRes s (execSpokeReset who spoke s) := by
  unfold execSpokeReset
  repeat' first
    | with_reducible exact Keeps.refl _
    | (with_reducible apply Keeps.trans ?_ (State.row_keeps (h5 := ?_) ..))
    | (with_reducible apply Keeps.trans ?_ (State.trainSpoke_keeps ..))
    | with_reducible apply KeepsRes.next
    | intro _

theorem execSpokeDisable_keeps (who : Who) (spoke : Nat) (s : State) : KeepsRes s (execSpokeDisable who spoke s) := by
  unfold execSpokeDisable
  repeat' first
    | with_reducible exact Keeps.refl _
    | (with_reducible apply Keeps.trans ?_ (State.closeSpoke_keeps ..))
    | (with_reducible apply Keeps.trans ?_ (State.row_keeps (h5 := ?_) ..))
    | with_reducible apply KeepsRes.next
    | with_reducible exact KeepsRes.fault _ _
    | with_reducible exact KeepsRes.refused _ _
    | intro _
    | dsimp only
    | split

theorem execSpokeEnable_keeps (who : Who) (spoke : Nat) (s : State) : KeepsRes s (execSpokeEnable who spoke s) := by
  unfold execSpokeEnable
  repeat' first
    | with_reducible exact Keeps.refl _
    | (with_reducible apply Keeps.trans ?_ (State.row_keeps (h5 := ?_) ..))
    | (with_reducible apply Keeps.trans ?_ (State.trainSpoke_keeps ..))
    | with_reducible apply KeepsRes.next
    | intro _
    | dsimp only
    | split

theorem execSpokeLaneLock_keeps (spoke : Nat) (lanes : Nat) (s : State) : KeepsRes s (execSpokeLaneLock spoke lanes s) := by
  unfold execSpokeLaneLock
  repeat' first
    | with_reducible exact Keeps.refl _
    | (with_reducible apply Keeps.trans ?_ (State.setReg_keeps ..))
    | (with_reducible apply Keeps.trans ?_ (State.setSpoke_keeps ..))
    | with_reducible apply KeepsRes.next
    | with_reducible exact KeepsRes.fault _ _
    | with_reducible exact KeepsRes.refused _ _
    | dsimp only
    | split

theorem execSpokeFecLock_keeps (spoke : Nat) (lanes : Nat) (s : State) : KeepsRes s (execSpokeFecLock spoke lanes s) := by
  unfold execSpokeFecLock
  repeat' first
    | with_reducible exact Keeps.refl _
    | (with_reducible apply Keeps.trans ?_ (State.sendSet_keeps ..))
    | (with_reducible apply Keeps.trans ?_ (State.setReg_keeps ..))
    | (with_reducible apply Keeps.trans ?_ (State.setSpoke_keeps ..))
    | with_reducible apply KeepsRes.next
    | with_reducible exact KeepsRes.fault _ _
    | with_reducible exact KeepsRes.refused _ _
    | dsimp only
    | split

theorem execTrainingOsReceive_keeps (spoke : Nat) (os : Training) (s : State) : KeepsRes s (execTrainingOsReceive spoke os s) := by
  unfold execTrainingOsReceive
  repeat' first
    | with_reducible exact Keeps.refl _
    | (with_reducible apply Keeps.trans ?_ (State.bump_keeps ..))
    | (with_reducible apply Keeps.trans ?_ (State.closeSpoke_keeps ..))
    | (with_reducible apply Keeps.trans ?_ (State.learnEpoch_keeps ..))
    | (with_reducible apply Keeps.trans ?_ (State.sendKeyx_keeps ..))
    | (with_reducible apply Keeps.trans ?_ (State.setReg_keeps ..))
    | (with_reducible apply Keeps.trans ?_ (State.setSpoke_keeps ..))
    | (with_reducible apply Keeps.trans ?_ (State.setSpokeState_keeps ..))
    | with_reducible apply KeepsRes.next
    | with_reducible exact KeepsRes.fault _ _
    | with_reducible exact KeepsRes.refused _ _
    | dsimp only
    | split

theorem execSpokeKeysInstalled_keeps (spoke : Nat) (peer : PeerFacts) (s : State) : KeepsRes s (execSpokeKeysInstalled spoke peer s) := by
  unfold execSpokeKeysInstalled
  repeat' first
    | with_reducible exact Keeps.refl _
    | (with_reducible apply Keeps.trans ?_ (State.bump_keeps ..))
    | (with_reducible apply Keeps.trans ?_ (State.closeSpoke_keeps ..))
    | (with_reducible apply Keeps.trans ?_ (State.retryStuck_keeps ..))
    | (with_reducible apply Keeps.trans ?_ (State.setSpoke_keeps ..))
    | (with_reducible apply Keeps.trans ?_ (State.setSpokeState_keeps ..))
    | (with_reducible apply Keeps.trans ?_ (State.took_keeps ..))
    | with_reducible apply KeepsRes.next
    | with_reducible exact KeepsRes.fault _ _
    | with_reducible exact KeepsRes.refused _ _
    | dsimp only
    | split

theorem execSpokeTrainingTimeout_keeps (spoke : Nat) (s : State) : KeepsRes s (execSpokeTrainingTimeout spoke s) := by
  unfold execSpokeTrainingTimeout
  repeat' first
    | with_reducible exact Keeps.refl _
    | (with_reducible apply Keeps.trans ?_ (State.trainSpoke_keeps ..))
    | with_reducible apply KeepsRes.next
    | split

theorem execSpokeDownRetrain_keeps (spoke : Nat) (s : State) : KeepsRes s (execSpokeDownRetrain spoke s) := by
  unfold execSpokeDownRetrain
  repeat' first
    | with_reducible exact Keeps.refl _
    | (with_reducible apply Keeps.trans ?_ (State.trainSpoke_keeps ..))
    | with_reducible apply KeepsRes.next
    | split

theorem execEthLinkUp_keeps (spoke : Nat) (s : State) : KeepsRes s (execEthLinkUp spoke s) := by
  unfold execEthLinkUp
  repeat' first
    | with_reducible exact Keeps.refl _
    | (with_reducible apply Keeps.trans ?_ (State.sendSet_keeps ..))
    | (with_reducible apply Keeps.trans ?_ (State.setReg_keeps ..))
    | (with_reducible apply Keeps.trans ?_ (State.setSpoke_keeps ..))
    | with_reducible apply KeepsRes.next
    | with_reducible exact KeepsRes.fault _ _
    | with_reducible exact KeepsRes.refused _ _
    | dsimp only
    | split

theorem execEthLinkDown_keeps (spoke : Nat) (s : State) : KeepsRes s (execEthLinkDown spoke s) := by
  unfold execEthLinkDown
  repeat' first
    | with_reducible exact Keeps.refl _
    | (with_reducible apply Keeps.trans ?_ (State.spokeDown_keeps ..))
    | with_reducible apply KeepsRes.next
    | with_reducible exact KeepsRes.fault _ _
    | with_reducible exact KeepsRes.refused _ _
    | dsimp only
    | split

theorem State.oweCredits_keeps (s : State) (p : Nat) (k : Packet) : Keeps s (State.oweCredits s p k) := by
  unfold State.oweCredits
  repeat' first
    | with_reducible exact Keeps.refl _
    | (with_reducible apply Keeps.trans ?_ (State.setSpoke_keeps ..))
    | dsimp only
    | split

theorem State.packetWhole_keeps (s : State) (p : Nat) (k : Packet) (phase : Bool) (tagOk : Bool) : Keeps s (State.packetWhole s p k phase tagOk) := by
  unfold State.packetWhole
  repeat' first
    | with_reducible exact Keeps.refl _
    | (with_reducible apply Keeps.trans ?_ (State.authFail_keeps ..))
    | (with_reducible apply Keeps.trans ?_ (State.bump_keeps ..))
    | (with_reducible apply Keeps.trans ?_ (State.bumpF_keeps ..))
    | (with_reducible apply Keeps.trans ?_ (State.oweCredits_keeps ..))
    | (with_reducible apply Keeps.trans ?_ (State.setHup_keeps ..))
    | (with_reducible apply Keeps.trans ?_ (State.setSpoke_keeps ..))
    | intro _
    | dsimp only
    | split

theorem State.askRetry_keeps (s : State) (p : Nat) : Keeps s (State.askRetry s p) := by
  unfold State.askRetry
  all_goals try with_reducible apply Keeps.trans ?_ (Keeps.lit _)
  all_goals repeat' first
    | with_reducible exact Keeps.refl _
    | with_reducible exact Keeps.lit _
    | (with_reducible apply Keeps.trans ?_ (State.bump_keeps ..))
    | (with_reducible apply Keeps.trans ?_ (State.sendSet_keeps ..))
    | (with_reducible apply Keeps.trans ?_ (State.setSpoke_keeps ..))
    | dsimp only
    | split
  all_goals try with_reducible apply Keeps.trans ?_ (Keeps.lit _)
  all_goals repeat' first
    | with_reducible exact Keeps.refl _
    | with_reducible exact Keeps.lit _
    | (with_reducible apply Keeps.trans ?_ (State.bump_keeps ..))
    | (with_reducible apply Keeps.trans ?_ (State.sendSet_keeps ..))
    | (with_reducible apply Keeps.trans ?_ (State.setSpoke_keeps ..))
    | dsimp only
    | split

theorem State.flitIn_keeps (s : State) (p : Nat) (f : Flit) (tagOk : Bool) : Keeps s (State.flitIn s p f tagOk) := by
  unfold State.flitIn
  all_goals try with_reducible apply Keeps.trans ?_ (Keeps.lit _)
  all_goals repeat' first
    | with_reducible exact Keeps.refl _
    | with_reducible exact Keeps.lit _
    | (with_reducible apply Keeps.trans ?_ (State.askRetry_keeps ..))
    | (with_reducible apply Keeps.trans ?_ (State.packetWhole_keeps ..))
    | (with_reducible apply Keeps.trans ?_ (State.setSpoke_keeps ..))
    | with_reducible apply Keeps.ite_snd
    | with_reducible apply Keeps.ite
    | dsimp only
    | split
  all_goals try with_reducible apply Keeps.trans ?_ (Keeps.lit _)
  all_goals repeat' first
    | with_reducible exact Keeps.refl _
    | with_reducible exact Keeps.lit _
    | (with_reducible apply Keeps.trans ?_ (State.askRetry_keeps ..))
    | (with_reducible apply Keeps.trans ?_ (State.packetWhole_keeps ..))
    | (with_reducible apply Keeps.trans ?_ (State.setSpoke_keeps ..))
    | with_reducible apply Keeps.ite_snd
    | with_reducible apply Keeps.ite
    | dsimp only
    | split

theorem State.countFec_keeps (s : State) (p : Nat) (fec : Option Nat) : Keeps s (State.countFec s p fec) := by
  unfold State.countFec
  repeat' first
    | with_reducible exact Keeps.refl _
    | (with_reducible apply Keeps.trans ?_ (State.bump_keeps ..))
    | dsimp only
    | split

theorem execFlitReceive_keeps (spoke : Nat) (block : Block) (check : BlockCheck) (tagOk : Bool) (s : State) : KeepsRes s (execFlitReceive spoke block check tagOk s) := by
  unfold execFlitReceive
  repeat' first
    | with_reducible exact Keeps.refl _
    | (with_reducible apply Keeps.trans ?_ (State.askRetry_keeps ..))
    | (with_reducible apply Keeps.trans ?_ (State.countFec_keeps ..))
    | (with_reducible apply Keeps.trans ?_ (State.flitIn_keeps ..))
    | (with_reducible apply Keeps.trans ?_ (State.setSpoke_keeps ..))
    | with_reducible apply KeepsRes.next
    | with_reducible exact KeepsRes.fault _ _
    | with_reducible exact KeepsRes.refused _ _
    | dsimp only
    | split

theorem State.countLeaving_keeps (s : State) (p : Nat) (k : Packet) : Keeps s (State.countLeaving s p k) := by
  unfold State.countLeaving
  repeat' first
    | with_reducible exact Keeps.refl _
    | (with_reducible apply Keeps.trans ?_ (State.bumpF_keeps ..))
    | (with_reducible apply Keeps.trans ?_ (State.setHup_keeps ..))
    | with_reducible apply Keeps.ite_snd
    | with_reducible apply Keeps.ite
    | dsimp only
    | split

theorem State.beginPacket_keeps (s : State) (p : Nat) (k : Packet) : Keeps s (State.beginPacket s p k) := by
  unfold State.beginPacket
  all_goals try with_reducible apply Keeps.trans ?_ (Keeps.lit _)
  all_goals repeat' first
    | with_reducible exact Keeps.refl _
    | with_reducible exact Keeps.lit _
    | (with_reducible apply Keeps.trans ?_ (State.countLeaving_keeps ..))
    | (with_reducible apply Keeps.trans ?_ (State.countSent_keeps ..))
    | (with_reducible apply Keeps.trans ?_ (State.setSpoke_keeps ..))
    | (with_reducible apply Keeps.trans ?_ (State.took_keeps ..))
    | dsimp only
    | split
  all_goals try with_reducible apply Keeps.trans ?_ (Keeps.lit _)
  all_goals repeat' first
    | with_reducible exact Keeps.refl _
    | with_reducible exact Keeps.lit _
    | (with_reducible apply Keeps.trans ?_ (State.countLeaving_keeps ..))
    | (with_reducible apply Keeps.trans ?_ (State.countSent_keeps ..))
    | (with_reducible apply Keeps.trans ?_ (State.setSpoke_keeps ..))
    | (with_reducible apply Keeps.trans ?_ (State.took_keeps ..))
    | dsimp only
    | split

theorem State.putFlit_keeps (s : State) (p : Nat) (f : Flit) : Keeps s (State.putFlit s p f) := by
  unfold State.putFlit
  repeat' first
    | with_reducible exact Keeps.refl _
    | (with_reducible apply Keeps.trans ?_ (State.emit_keeps ..))
    | dsimp only
    | split

theorem State.sendFlit_keeps (s : State) (p : Nat) (k : Packet) (piece : Nat) : Keeps s (State.sendFlit s p k piece) := by
  unfold State.sendFlit
  all_goals try with_reducible apply Keeps.trans ?_ (Keeps.lit _)
  all_goals repeat' first
    | with_reducible exact Keeps.refl _
    | with_reducible exact Keeps.lit _
    | (with_reducible apply Keeps.trans ?_ (State.putFlit_keeps ..))
    | (with_reducible apply Keeps.trans ?_ (State.setSpoke_keeps ..))
    | (with_reducible apply Keeps.trans ?_ (State.sramWrote_keeps ..))
    | with_reducible apply Keeps.ite_snd
    | with_reducible apply Keeps.ite
    | dsimp only
    | split
  all_goals try with_reducible apply Keeps.trans ?_ (Keeps.lit _)
  all_goals repeat' first
    | with_reducible exact Keeps.refl _
    | with_reducible exact Keeps.lit _
    | (with_reducible apply Keeps.trans ?_ (State.putFlit_keeps ..))
    | (with_reducible apply Keeps.trans ?_ (State.setSpoke_keeps ..))
    | (with_reducible apply Keeps.trans ?_ (State.sramWrote_keeps ..))
    | with_reducible apply Keeps.ite_snd
    | with_reducible apply Keeps.ite
    | dsimp only
    | split

theorem execFlitTransmit_keeps (spoke : Nat) (s : State) : KeepsRes s (execFlitTransmit spoke s) := by
  unfold execFlitTransmit
  all_goals try with_reducible apply Keeps.trans ?_ (Keeps.lit _)
  all_goals repeat' first
    | with_reducible exact Keeps.refl _
    | with_reducible exact Keeps.lit _
    | (with_reducible apply Keeps.trans ?_ (State.beginPacket_keeps ..))
    | (with_reducible apply Keeps.trans ?_ (State.countLeaving_keeps ..))
    | (with_reducible apply Keeps.trans ?_ (State.emit_keeps ..))
    | (with_reducible apply Keeps.trans ?_ (State.sendDatagram_keeps ..))
    | (with_reducible apply Keeps.trans ?_ (State.sendFlit_keeps ..))
    | (with_reducible apply Keeps.trans ?_ (State.setSpoke_keeps ..))
    | with_reducible apply KeepsRes.next
    | with_reducible exact KeepsRes.fault _ _
    | with_reducible exact KeepsRes.refused _ _
    | intro _
    | dsimp only
    | split
  all_goals try with_reducible apply Keeps.trans ?_ (Keeps.lit _)
  all_goals repeat' first
    | with_reducible exact Keeps.refl _
    | with_reducible exact Keeps.lit _
    | (with_reducible apply Keeps.trans ?_ (State.beginPacket_keeps ..))
    | (with_reducible apply Keeps.trans ?_ (State.countLeaving_keeps ..))
    | (with_reducible apply Keeps.trans ?_ (State.emit_keeps ..))
    | (with_reducible apply Keeps.trans ?_ (State.sendDatagram_keeps ..))
    | (with_reducible apply Keeps.trans ?_ (State.sendFlit_keeps ..))
    | (with_reducible apply Keeps.trans ?_ (State.setSpoke_keeps ..))
    | with_reducible apply KeepsRes.next
    | with_reducible exact KeepsRes.fault _ _
    | with_reducible exact KeepsRes.refused _ _
    | intro _
    | dsimp only
    | split

theorem State.putAgain_keeps (s : State) (p : Nat) (f : Flit) : Keeps s (State.putAgain s p f) := by
  unfold State.putAgain
  repeat' first
    | with_reducible exact Keeps.refl _
    | (with_reducible apply Keeps.trans ?_ (State.putFlit_keeps ..))
    | (with_reducible apply Keeps.trans ?_ (State.sramRead_keeps ..))
    | (with_reducible apply Keeps.trans ?_ (Keeps.of_pair (State.sramRead_keeps ..) ?_); rotate_right; (with_reducible assumption))
    | dsimp only
    | split

theorem State.resend_keeps (s : State) (p : Nat) (lseq : Nat) : Keeps s (State.resend s p lseq) := by
  unfold State.resend
  repeat' first
    | with_reducible exact Keeps.refl _
    | (with_reducible apply Keeps.trans ?_ (State.putAgain_keeps ..))
    | (with_reducible apply Keeps.trans ?_ (Keeps.foldl _ _ _ ?_))
    | (with_reducible apply Keeps.trans ?_ (Keeps.foldl_pair _ _ _ ?_))
    | intro _
    | dsimp only
    | split

theorem execLinkRetryReceive_keeps (spoke : Nat) (lseq : Nat) (copies : List Bool) (s : State) : KeepsRes s (execLinkRetryReceive spoke lseq copies s) := by
  unfold execLinkRetryReceive
  all_goals try with_reducible apply Keeps.trans ?_ (Keeps.lit _)
  all_goals repeat' first
    | with_reducible exact Keeps.refl _
    | with_reducible exact Keeps.lit _
    | (with_reducible apply Keeps.trans ?_ (State.resend_keeps ..))
    | (with_reducible apply Keeps.trans ?_ (State.setSpoke_keeps ..))
    | (with_reducible apply Keeps.trans ?_ (State.tagged_keeps (h3 := ?_) ..))
    | with_reducible apply KeepsRes.next
    | with_reducible exact KeepsRes.fault _ _
    | with_reducible exact KeepsRes.refused _ _
    | with_reducible apply Keeps.ite_snd
    | with_reducible apply Keeps.ite
    | intro _
    | dsimp only
    | split
  all_goals try with_reducible apply Keeps.trans ?_ (Keeps.lit _)
  all_goals repeat' first
    | with_reducible exact Keeps.refl _
    | with_reducible exact Keeps.lit _
    | (with_reducible apply Keeps.trans ?_ (State.resend_keeps ..))
    | (with_reducible apply Keeps.trans ?_ (State.setSpoke_keeps ..))
    | (with_reducible apply Keeps.trans ?_ (State.tagged_keeps (h3 := ?_) ..))
    | with_reducible apply KeepsRes.next
    | with_reducible exact KeepsRes.fault _ _
    | with_reducible exact KeepsRes.refused _ _
    | with_reducible apply Keeps.ite_snd
    | with_reducible apply Keeps.ite
    | intro _
    | dsimp only
    | split

theorem execLinkRetryLimit_keeps (spoke : Nat) (s : State) : KeepsRes s (execLinkRetryLimit spoke s) := by
  unfold execLinkRetryLimit
  repeat' first
    | with_reducible exact Keeps.refl _
    | (with_reducible apply Keeps.trans ?_ (State.spokeDown_keeps ..))
    | with_reducible apply KeepsRes.next
    | with_reducible exact KeepsRes.fault _ _
    | with_reducible exact KeepsRes.refused _ _
    | dsimp only
    | split

theorem State.agreeLanes_keeps (s : State) (p mask : Nat) : Keeps s (State.agreeLanes s p mask) := by
  unfold State.agreeLanes
  repeat' first
    | with_reducible exact Keeps.refl _
    | (with_reducible apply Keeps.trans ?_ (State.bump_keeps ..))
    | (with_reducible apply Keeps.trans ?_ (State.setReg_keeps ..))
    | (with_reducible apply Keeps.trans ?_ (State.setSpoke_keeps ..))
    | (with_reducible apply Keeps.trans ?_ (State.spokeDown_keeps ..))
    | dsimp only
    | split

theorem State.proposeLanes_keeps (s : State) (p : Nat) : Keeps s (State.proposeLanes s p) := by
  unfold State.proposeLanes
  all_goals try with_reducible apply Keeps.trans ?_ (Keeps.lit _)
  all_goals repeat' first
    | with_reducible exact Keeps.refl _
    | with_reducible exact Keeps.lit _
    | (with_reducible apply Keeps.trans ?_ (State.sendSet_keeps ..))
    | (with_reducible apply Keeps.trans ?_ (State.setSpoke_keeps ..))
    | dsimp only
    | split
  all_goals try with_reducible apply Keeps.trans ?_ (Keeps.lit _)
  all_goals repeat' first
    | with_reducible exact Keeps.refl _
    | with_reducible exact Keeps.lit _
    | (with_reducible apply Keeps.trans ?_ (State.sendSet_keeps ..))
    | (with_reducible apply Keeps.trans ?_ (State.setSpoke_keeps ..))
    | dsimp only
    | split

theorem execLaneFail_keeps (spoke lane : Nat) (s : State) : KeepsRes s (execLaneFail spoke lane s) := by
  unfold execLaneFail
  repeat' first
    | with_reducible exact Keeps.refl _
    | (with_reducible apply Keeps.trans ?_ (State.bump_keeps ..))
    | (with_reducible apply Keeps.trans ?_ (State.proposeLanes_keeps ..))
    | (with_reducible apply Keeps.trans ?_ (State.setSpoke_keeps ..))
    | (with_reducible apply Keeps.trans ?_ (State.spokeDown_keeps ..))
    | (with_reducible apply Keeps.trans ?_ (State.stopRetunes_keeps ..))
    | with_reducible apply KeepsRes.next
    | dsimp only
    | split

theorem execDegradeReceive_keeps (spoke : Nat) (lanes : Nat) (number : Nat) (echo : Bool) (copies : List Bool) (s : State) : KeepsRes s (execDegradeReceive spoke lanes number echo copies s) := by
  unfold execDegradeReceive
  repeat' first
    | with_reducible exact Keeps.refl _
    | (with_reducible apply Keeps.trans ?_ (State.agreeLanes_keeps ..))
    | (with_reducible apply Keeps.trans ?_ (State.sendSet_keeps ..))
    | (with_reducible apply Keeps.trans ?_ (State.tagged_keeps (h3 := ?_) ..))
    | with_reducible apply KeepsRes.next
    | with_reducible exact KeepsRes.fault _ _
    | with_reducible exact KeepsRes.refused _ _
    | intro _
    | dsimp only
    | split

theorem execLaneDeskewDone_keeps (spoke : Nat) (s : State) : KeepsRes s (execLaneDeskewDone spoke s) := by
  unfold execLaneDeskewDone
  all_goals try with_reducible apply Keeps.trans ?_ (Keeps.lit _)
  all_goals repeat' first
    | with_reducible exact Keeps.refl _
    | with_reducible exact Keeps.lit _
    | (with_reducible apply Keeps.trans ?_ (State.putAgain_keeps ..))
    | (with_reducible apply Keeps.trans ?_ (State.setSpoke_keeps ..))
    | (with_reducible apply Keeps.trans ?_ (State.setSpokeState_keeps ..))
    | (with_reducible apply Keeps.trans ?_ (Keeps.foldl _ _ _ ?_))
    | (with_reducible apply Keeps.trans ?_ (Keeps.foldl_pair _ _ _ ?_))
    | with_reducible apply KeepsRes.next
    | with_reducible exact KeepsRes.fault _ _
    | with_reducible exact KeepsRes.refused _ _
    | intro _
    | dsimp only
    | split
  all_goals try with_reducible apply Keeps.trans ?_ (Keeps.lit _)
  all_goals repeat' first
    | with_reducible exact Keeps.refl _
    | with_reducible exact Keeps.lit _
    | (with_reducible apply Keeps.trans ?_ (State.putAgain_keeps ..))
    | (with_reducible apply Keeps.trans ?_ (State.setSpoke_keeps ..))
    | (with_reducible apply Keeps.trans ?_ (State.setSpokeState_keeps ..))
    | (with_reducible apply Keeps.trans ?_ (Keeps.foldl _ _ _ ?_))
    | (with_reducible apply Keeps.trans ?_ (Keeps.foldl_pair _ _ _ ?_))
    | with_reducible apply KeepsRes.next
    | with_reducible exact KeepsRes.fault _ _
    | with_reducible exact KeepsRes.refused _ _
    | intro _
    | dsimp only
    | split

theorem execResetNoticeReceive_keeps (spoke : Nat) (node : Nat) (epoch : Nat) (reason : Nat) (copies : List Bool) (s : State) : KeepsRes s (execResetNoticeReceive spoke node epoch reason copies s) := by
  unfold execResetNoticeReceive
  repeat' first
    | with_reducible exact Keeps.refl _
    | (with_reducible apply Keeps.trans ?_ (State.log!_keeps ..))
    | (with_reducible apply Keeps.trans ?_ (State.loseNode_keeps ..))
    | (with_reducible apply Keeps.trans ?_ (State.spokeDown_keeps ..))
    | (with_reducible apply Keeps.trans ?_ (State.tagged_keeps (h3 := ?_) ..))
    | with_reducible apply KeepsRes.next
    | with_reducible exact KeepsRes.fault _ _
    | with_reducible exact KeepsRes.refused _ _
    | intro _
    | dsimp only
    | split

theorem execSpokeRekeyTrigger_keeps (spoke : Nat) (s : State) : KeepsRes s (execSpokeRekeyTrigger spoke s) := by
  unfold execSpokeRekeyTrigger
  repeat' first
    | with_reducible exact Keeps.refl _
    | (with_reducible apply Keeps.trans ?_ (State.startRekey_keeps ..))
    | with_reducible apply KeepsRes.next
    | with_reducible exact KeepsRes.fault _ _
    | with_reducible exact KeepsRes.refused _ _
    | dsimp only
    | split

theorem execKeyPhaseGraceEnd_keeps (spoke : Nat) (s : State) : KeepsRes s (execKeyPhaseGraceEnd spoke s) := by
  unfold execKeyPhaseGraceEnd
  all_goals try with_reducible apply Keeps.trans ?_ (Keeps.lit _)
  all_goals repeat' first
    | with_reducible exact Keeps.refl _
    | with_reducible exact Keeps.lit _
    | (with_reducible apply Keeps.trans ?_ (State.setSpoke_keeps ..))
    | with_reducible apply KeepsRes.next
    | with_reducible exact KeepsRes.fault _ _
    | with_reducible exact KeepsRes.refused _ _
    | dsimp only
    | split
  all_goals try with_reducible apply Keeps.trans ?_ (Keeps.lit _)
  all_goals repeat' first
    | with_reducible exact Keeps.refl _
    | with_reducible exact Keeps.lit _
    | (with_reducible apply Keeps.trans ?_ (State.setSpoke_keeps ..))
    | with_reducible apply KeepsRes.next
    | with_reducible exact KeepsRes.fault _ _
    | with_reducible exact KeepsRes.refused _ _
    | dsimp only
    | split

/-! ### Maint -/

theorem State.queueUnit_keeps (s : State) (a r : Nat) : Keeps s (State.queueUnit s a r) := by
  unfold State.queueUnit
  repeat' first
    | with_reducible exact Keeps.refl _
    | (with_reducible apply Keeps.trans ?_ (State.setMaint_keeps ..))

theorem execMaintUnitDue_keeps (activity resource : Nat) (s : State) : KeepsRes s (execMaintUnitDue activity resource s) := by
  unfold execMaintUnitDue
  repeat' first
    | with_reducible exact Keeps.refl _
    | (with_reducible apply Keeps.trans ?_ (State.queueUnit_keeps ..))
    | with_reducible apply KeepsRes.next
    | split

theorem State.requestRetune_keeps (s : State) (p : Nat) : Keeps s (State.requestRetune s p).2 := by
  unfold State.requestRetune
  repeat' first
    | with_reducible exact Keeps.refl _
    | (with_reducible apply Keeps.trans ?_ (State.queueUnit_keeps ..))
    | (with_reducible apply Keeps.foldl _ _ _ ?_)
    | intro _
    | dsimp only
    | split

theorem execSpokeRetuneRequest_keeps (who : Who) (spoke : Nat) (s : State) : KeepsRes s (execSpokeRetuneRequest who spoke s) := by
  unfold execSpokeRetuneRequest
  repeat' first
    | with_reducible exact Keeps.refl _
    | (with_reducible apply Keeps.trans ?_ (State.requestRetune_keeps ..))
    | (with_reducible apply Keeps.trans ?_ (State.row_keeps (h5 := ?_) ..))
    | with_reducible apply KeepsRes.next
    | intro _

theorem execMaintUnitStart_keeps (activity : Nat) (resource : Nat) (durationNs : Nat) (s : State) : KeepsRes s (execMaintUnitStart activity resource durationNs s) := by
  unfold execMaintUnitStart
  repeat' first
    | with_reducible exact Keeps.refl _
    | (with_reducible apply Keeps.trans ?_ (State.setMaint_keeps ..))
    | with_reducible apply KeepsRes.next
    | with_reducible exact KeepsRes.fault _ _
    | with_reducible exact KeepsRes.refused _ _
    | intro _
    | dsimp only
    | split

theorem State.recalEnds_keeps (s : State) (stack : Nat) (passed : Bool) : Keeps s (State.recalEnds s stack passed) := by
  unfold State.recalEnds
  repeat' first
    | with_reducible exact Keeps.refl _
    | (with_reducible apply Keeps.trans ?_ (State.deviceFatal_keeps ..))
    | (with_reducible apply Keeps.trans ?_ (State.setMaint_keeps ..))
    | dsimp only
    | split

theorem State.retuneEnds_keeps (s : State) (lane : Nat) (passed : Bool) : Keeps s (State.retuneEnds s lane passed) := by
  unfold State.retuneEnds
  repeat' first
    | with_reducible exact Keeps.refl _
    | (with_reducible apply Keeps.trans ?_ (State.proposeLanes_keeps ..))
    | (with_reducible apply Keeps.trans ?_ (State.setSpoke_keeps ..))
    | dsimp only
    | split

theorem State.facetTestEnds_keeps (s : State) (f : Nat) (passed vertexOk : Bool) : Keeps s (State.facetTestEnds s f passed vertexOk) := by
  unfold State.facetTestEnds
  repeat' first
    | with_reducible exact Keeps.refl _
    | (with_reducible apply Keeps.trans ?_ (State.bump_keeps ..))
    | (with_reducible apply Keeps.trans ?_ (State.fmZero_keeps ..))
    | (with_reducible apply Keeps.trans ?_ (State.retireFacet_keeps ..))
    | (with_reducible apply Keeps.trans ?_ (State.setFacet_keeps ..))
    | (with_reducible apply Keeps.trans ?_ (State.setRegF_keeps ..))
    | dsimp only
    | split

theorem State.rotateEnds_keeps (s : State) (unit : Nat) : Keeps s (State.rotateEnds s unit) := by
  unfold State.rotateEnds
  repeat' first
    | with_reducible exact Keeps.refl _
    | (with_reducible apply Keeps.trans ?_ (State.endRotation_keeps ..))
    | (with_reducible apply Keeps.trans ?_ (State.setReg_keeps ..))
    | dsimp only
    | split

theorem State.activityEnds_keeps (s : State) (a r : Nat) (passed vertexOk : Bool) : Keeps s (State.activityEnds s a r passed vertexOk) := by
  unfold State.activityEnds
  repeat' first
    | with_reducible exact Keeps.refl _
    | (with_reducible apply Keeps.trans ?_ (State.bumpF_keeps ..))
    | (with_reducible apply Keeps.trans ?_ (State.facetTestEnds_keeps ..))
    | (with_reducible apply Keeps.trans ?_ (State.recalEnds_keeps ..))
    | (with_reducible apply Keeps.trans ?_ (State.retuneEnds_keeps ..))
    | (with_reducible apply Keeps.trans ?_ (State.rotateEnds_keeps ..))
    | split

theorem execMaintUnitDone_keeps (activity resource durationNs : Nat) (passed vertexOk : Bool) (s : State) : KeepsRes s (execMaintUnitDone activity resource durationNs passed vertexOk s) := by
  unfold execMaintUnitDone
  repeat' first
    | with_reducible exact Keeps.refl _
    | (with_reducible apply Keeps.trans ?_ (State.activityEnds_keeps ..))
    | (with_reducible apply Keeps.trans ?_ (State.unitEnds_keeps ..))
    | with_reducible apply KeepsRes.next
    | split

theorem execMaintOverdue_keeps (activity resource : Nat) (s : State) : KeepsRes s (execMaintOverdue activity resource s) := by
  unfold execMaintOverdue
  repeat' first
    | with_reducible exact Keeps.refl _
    | (with_reducible apply Keeps.trans ?_ (State.bump_keeps ..))
    | (with_reducible apply Keeps.trans ?_ (State.log!_keeps ..))
    | (with_reducible apply Keeps.trans ?_ (State.setMaint_keeps ..))
    | with_reducible apply KeepsRes.next
    | dsimp only
    | split

/-! ### DictRead -/

theorem State.setCopy_keeps (s : State) (who : Who) (o : ObjDef) (l : List Nat) : Keeps s (State.setCopy s who o l) := by
  unfold State.setCopy
  repeat' first
    | with_reducible exact Keeps.refl _
    | (with_reducible apply Keeps.trans ?_ (State.setDict_keeps ..))

theorem State.foundFree_keeps (s : State) (o : ObjDef) : Keeps s (s.foundFree o).after := State.took_keeps ..

theorem State.logRecord_keeps (s : State) (who : Who) : Keeps s (s.logRecord who).after := by
  unfold State.logRecord
  dsimp only
  repeat' split
  all_goals first | exact State.foundFree_keeps .. | exact Keeps.refl _

theorem State.flashLog_keeps (s : State) : Keeps s s.flashLog.after := State.foundFree_keeps s Obj.ERROR_FLASH_LOG
theorem State.flashInfo_keeps (s : State) : Keeps s s.flashInfo.after := State.foundFree_keeps s Obj.FLASH_STORE_INFO
theorem State.found_keeps (s : State) (l : List Nat) : Keeps s (s.found l).after := Keeps.refl s

theorem State.dumpPage_keeps (s : State) (who : Who) : Keeps s (s.dumpPage who).after :=
  Keeps.foldl _ _ _ (fun _ _ => State.checkSector_keeps ..)

theorem State.queueStateOf_keeps (s : State) (who : Who) : Keeps s (s.queueStateOf who).after := by
  unfold State.queueStateOf
  dsimp only
  repeat' split
  all_goals exact Keeps.refl _

theorem State.pinState_keeps (s : State) (p : Nat) : Keeps s (s.pinState p).after := by
  unfold State.pinState
  dsimp only
  split
  · exact Keeps.refl _
  · exact Keeps.refl _
  · exact State.took_keeps ..

theorem State.gpioIn_keeps (s : State) : Keeps s s.gpioIn.after := by
  unfold State.gpioIn
  dsimp only
  refine Keeps.foldl_pair (fun (r : Nat × State) p => (r.1 ||| ((r.2.pinState p).fields.getD 1 0 <<< p), (r.2.pinState p).after)) _ (0, s) ?_
  intro p a
  exact State.pinState_keeps ..

/-- What a read of a value leaves, if the device keeps it elsewhere. -/
def KeepsRead (s : State) (o : Option Read) : Prop := ∀ r, o = Option.some r → Keeps s r.after

theorem KeepsRead.some {s : State} {r : Read} (h : Keeps s r.after) : KeepsRead s (Option.some r) := fun _ e => by cases e; exact h
theorem KeepsRead.none (s : State) : KeepsRead s Option.none := fun _ e => by cases e
theorem KeepsRead.ite {s : State} {a b : Option Read} {c : Prop} [Decidable c] (h : KeepsRead s a) (k : KeepsRead s b) :
    KeepsRead s (if c then a else b) := by
  split <;> assumption

theorem State.derived_keeps (s : State) (who : Who) (o : ObjDef) (sub : Nat) : KeepsRead s (s.derived who o sub) := by
  unfold State.derived
  dsimp only
  repeat' (with_reducible apply KeepsRead.ite)
  all_goals first
    | exact KeepsRead.none _
    | refine KeepsRead.some ?_
      first
        | (with_reducible exact State.logRecord_keeps ..)
        | (with_reducible exact State.queueStateOf_keeps ..)
        | (with_reducible exact State.pinState_keeps ..)
        | (with_reducible exact State.gpioIn_keeps ..)
        | (with_reducible exact State.dumpPage_keeps ..)
        | (with_reducible exact State.foundFree_keeps ..)
        | (with_reducible exact State.flashLog_keeps ..)
        | (with_reducible exact State.flashInfo_keeps ..)
        | (with_reducible exact State.found_keeps ..)

theorem State.readObject_keeps (s : State) (who : Who) (o : ObjDef) (sub : Nat) : Keeps s (s.readObject who o sub).after := by
  unfold State.readObject
  split
  · exact State.found_keeps ..
  · split
    · exact State.derived_keeps s _ _ _ _ ‹_›
    · exact State.found_keeps ..

/-! ### Hupatas -/

theorem State.sendAck_keeps (s : State) (node vc : Nat) : Keeps s (State.sendAck s node vc) := by
  unfold State.sendAck
  repeat' first
    | with_reducible exact Keeps.refl _
    | (with_reducible apply Keeps.trans ?_ (State.dispatch_keeps ..))
    | (with_reducible apply Keeps.trans ?_ (State.setRx_keeps ..))

theorem execHupAckTimer_keeps (node vc : Nat) (s : State) : KeepsRes s (execHupAckTimer node vc s) := by
  unfold execHupAckTimer
  repeat' first
    | with_reducible exact Keeps.refl _
    | (with_reducible apply Keeps.trans ?_ (State.sendAck_keeps ..))
    | with_reducible apply KeepsRes.next
    | split

theorem State.retransmit_keeps (s : State) (node : Nat) (vc : Nat) (seq : Nat) : Keeps s (State.retransmit s node vc seq) := by
  unfold State.retransmit
  all_goals try with_reducible apply Keeps.trans ?_ (Keeps.lit _)
  all_goals repeat' first
    | with_reducible exact Keeps.refl _
    | with_reducible exact Keeps.lit _
    | (with_reducible apply Keeps.trans ?_ (State.bump_keeps ..))
    | (with_reducible apply Keeps.trans ?_ (State.dispatch_keeps ..))
    | (with_reducible apply Keeps.trans ?_ (Keeps.of_pair (State.dispatch_keeps ..) ?_); rotate_right; (with_reducible assumption))
    | (with_reducible apply Keeps.trans ?_ (State.setTx_keeps ..))
    | with_reducible apply Keeps.ite_snd
    | with_reducible apply Keeps.ite
    | intro _
    | dsimp only
    | split
  all_goals try with_reducible apply Keeps.trans ?_ (Keeps.lit _)
  all_goals repeat' first
    | with_reducible exact Keeps.refl _
    | with_reducible exact Keeps.lit _
    | (with_reducible apply Keeps.trans ?_ (State.bump_keeps ..))
    | (with_reducible apply Keeps.trans ?_ (State.dispatch_keeps ..))
    | (with_reducible apply Keeps.trans ?_ (Keeps.of_pair (State.dispatch_keeps ..) ?_); rotate_right; (with_reducible assumption))
    | (with_reducible apply Keeps.trans ?_ (State.setTx_keeps ..))
    | with_reducible apply Keeps.ite_snd
    | with_reducible apply Keeps.ite
    | intro _
    | dsimp only
    | split

theorem State.ackedSender_keeps (s : State) (a1 : Sender) : Keeps s (State.ackedSender s a1) := by
  unfold State.ackedSender
  repeat' first
    | with_reducible exact Keeps.refl _
    | (with_reducible apply Keeps.trans ?_ (State.fabAcked_keeps ..))
    | (with_reducible apply Keeps.trans ?_ (State.sentAll_keeps ..))
    | split

theorem State.ackArrive_keeps (s : State) (node vc : Nat) (ack bits : Nat) : Keeps s (State.ackArrive s node vc ack bits) := by
  unfold State.ackArrive
  repeat' first
    | with_reducible exact Keeps.refl _
    | (with_reducible apply Keeps.trans ?_ (State.ackedSender_keeps ..))
    | (with_reducible apply Keeps.trans ?_ (State.pump_keeps ..))
    | (with_reducible apply Keeps.trans ?_ (State.retransmit_keeps ..))
    | (with_reducible apply Keeps.trans ?_ (State.setTx_keeps ..))
    | (with_reducible apply Keeps.trans ?_ (Keeps.foldl _ _ _ ?_))
    | intro _
    | dsimp only
    | split

theorem execHupRtoExpiry_keeps (node vc seq : Nat) (s : State) : KeepsRes s (execHupRtoExpiry node vc seq s) := by
  unfold execHupRtoExpiry
  repeat' first
    | with_reducible exact Keeps.refl _
    | (with_reducible apply Keeps.trans ?_ (State.retransmit_keeps ..))
    | with_reducible apply KeepsRes.next

theorem execHupGiveup_keeps (node vc seq : Nat) (s : State) : KeepsRes s (execHupGiveup node vc seq s) := by
  unfold execHupGiveup
  repeat' first
    | with_reducible exact Keeps.refl _
    | (with_reducible apply Keeps.trans ?_ (State.fabGaveUp_keeps ..))
    | (with_reducible apply Keeps.trans ?_ (State.meet_keeps ..))
    | (with_reducible apply Keeps.trans ?_ (State.pump_keeps ..))
    | (with_reducible apply Keeps.trans ?_ (State.sentAll_keeps ..))
    | (with_reducible apply Keeps.trans ?_ (State.setTx_keeps ..))
    | with_reducible apply KeepsRes.next
    | dsimp only
    | split

theorem State.stale_keeps (s : State) : Keeps s (State.stale s) := by
  unfold State.stale
  repeat' first
    | with_reducible exact Keeps.refl _
    | (with_reducible apply Keeps.trans ?_ (State.bump_keeps ..))

theorem State.epochGate_keeps (s : State) (k : Packet) : Keeps s (State.epochGate s k).2 := by
  unfold State.epochGate
  repeat' first
    | with_reducible exact Keeps.refl _
    | (with_reducible apply Keeps.trans ?_ (State.learnEpoch_keeps ..))
    | (with_reducible apply Keeps.trans ?_ (State.notice_keeps ..))
    | (with_reducible apply Keeps.trans ?_ (State.stale_keeps ..))
    | dsimp only
    | split

theorem State.genGate_keeps (s : State) (k : Packet) : Keeps s (State.genGate s k).2 := by
  unfold State.genGate
  repeat' first
    | with_reducible exact Keeps.refl _
    | (with_reducible apply Keeps.trans ?_ (State.learnGen_keeps ..))
    | (with_reducible apply Keeps.trans ?_ (State.notice_keeps ..))
    | (with_reducible apply Keeps.trans ?_ (State.stale_keeps ..))
    | with_reducible apply Keeps.ite_snd
    | with_reducible apply Keeps.ite
    | dsimp only
    | split

theorem State.deliverData_keeps (s : State) (k : Packet) : Keeps s (State.deliverData s k) := by
  unfold State.deliverData
  all_goals try with_reducible apply Keeps.trans ?_ (Keeps.lit _)
  all_goals repeat' first
    | with_reducible exact Keeps.refl _
    | with_reducible exact Keeps.lit _
    | (with_reducible apply Keeps.trans ?_ (State.bump_keeps ..))
    | (with_reducible apply Keeps.trans ?_ (State.genGate_keeps ..))
    | (with_reducible apply Keeps.trans ?_ (Keeps.of_pair (State.genGate_keeps ..) ?_); rotate_right; (with_reducible assumption))
    | (with_reducible apply Keeps.trans ?_ (State.setHup_keeps ..))
    | (with_reducible apply Keeps.trans ?_ (State.setRx_keeps ..))
    | with_reducible apply Keeps.ite_snd
    | with_reducible apply Keeps.ite
    | dsimp only
    | split
  all_goals try with_reducible apply Keeps.trans ?_ (Keeps.lit _)
  all_goals repeat' first
    | with_reducible exact Keeps.refl _
    | with_reducible exact Keeps.lit _
    | (with_reducible apply Keeps.trans ?_ (State.bump_keeps ..))
    | (with_reducible apply Keeps.trans ?_ (State.genGate_keeps ..))
    | (with_reducible apply Keeps.trans ?_ (Keeps.of_pair (State.genGate_keeps ..) ?_); rotate_right; (with_reducible assumption))
    | (with_reducible apply Keeps.trans ?_ (State.setHup_keeps ..))
    | (with_reducible apply Keeps.trans ?_ (State.setRx_keeps ..))
    | with_reducible apply Keeps.ite_snd
    | with_reducible apply Keeps.ite
    | dsimp only
    | split

theorem State.deliverClose_keeps (s : State) (k : Packet) : Keeps s (State.deliverClose s k) := by
  unfold State.deliverClose
  repeat' first
    | with_reducible exact Keeps.refl _
    | (with_reducible apply Keeps.trans ?_ (State.bump_keeps ..))
    | (with_reducible apply Keeps.trans ?_ (State.genGate_keeps ..))
    | (with_reducible apply Keeps.trans ?_ (Keeps.of_pair (State.genGate_keeps ..) ?_); rotate_right; (with_reducible assumption))
    | (with_reducible apply Keeps.trans ?_ (State.setHup_keeps ..))
    | dsimp only
    | split

theorem State.deliverControl_keeps (s : State) (k : Packet) : Keeps s (State.deliverControl s k) := by
  unfold State.deliverControl
  repeat' first
    | with_reducible exact Keeps.refl _
    | (with_reducible apply Keeps.trans ?_ (State.fabResolveAll_keeps ..))
    | (with_reducible apply Keeps.trans ?_ (State.learnEpoch_keeps ..))
    | (with_reducible apply Keeps.trans ?_ (State.learnGen_keeps ..))
    | dsimp only
    | split

theorem State.deliverPacket_keeps (s : State) (k : Packet) : Keeps s (State.deliverPacket s k) := by
  unfold State.deliverPacket
  repeat' first
    | with_reducible exact Keeps.refl _
    | (with_reducible apply Keeps.trans ?_ (State.deliverClose_keeps ..))
    | (with_reducible apply Keeps.trans ?_ (State.deliverControl_keeps ..))
    | (with_reducible apply Keeps.trans ?_ (State.deliverData_keeps ..))
    | split

theorem State.deliverRun_keeps (s : State) (node vc a3 : Nat) : Keeps s (State.deliverRun s node vc a3) := by
  fun_induction State.deliverRun s node vc a3 <;> try dsimp only
  all_goals
    repeat' first
      | with_reducible exact Keeps.refl _
      | (with_reducible apply Keeps.trans ?_ (State.deliverPacket_keeps ..))
      | (with_reducible apply Keeps.trans ?_ (State.setRx_keeps ..))
      | (with_reducible apply Keeps.trans ?_ ?_; rotate_right; (with_reducible assumption))

theorem State.flowArrive_keeps (s : State) (k : Packet) : Keeps s (State.flowArrive s k) := by
  unfold State.flowArrive
  repeat' first
    | with_reducible exact Keeps.refl _
    | (with_reducible apply Keeps.trans ?_ (State.bump_keeps ..))
    | (with_reducible apply Keeps.trans ?_ (State.deliverRun_keeps ..))
    | (with_reducible apply Keeps.trans ?_ (State.sendAck_keeps ..))
    | (with_reducible apply Keeps.trans ?_ (State.setRx_keeps ..))
    | dsimp only
    | split

theorem State.inputGood_keeps (s : State) (p : Nat) (k : Packet) : Keeps s (State.inputGood s p k).2 := by
  unfold State.inputGood
  repeat' first
    | with_reducible exact Keeps.refl _
    | (with_reducible apply Keeps.trans ?_ (State.sramRead_keeps ..))
    | (with_reducible apply Keeps.trans ?_ (Keeps.of_pair (State.sramRead_keeps ..) ?_); rotate_right; (with_reducible assumption))
    | (with_reducible apply Keeps.trans ?_ (State.sramWrote_keeps ..))
    | dsimp only
    | split

theorem State.takePacket_keeps (s : State) (src : PacketFrom) (want : Packet → Bool) : Keeps s (State.takePacket s src want).2 := by
  unfold State.takePacket
  repeat' first
    | with_reducible exact Keeps.refl _
    | (with_reducible apply Keeps.trans ?_ (State.authFail_keeps ..))
    | (with_reducible apply Keeps.trans ?_ (State.bump_keeps ..))
    | (with_reducible apply Keeps.trans ?_ (State.bumpF_keeps ..))
    | (with_reducible apply Keeps.trans ?_ (State.inputGood_keeps ..))
    | (with_reducible apply Keeps.trans ?_ (Keeps.of_pair (State.inputGood_keeps ..) ?_); rotate_right; (with_reducible assumption))
    | (with_reducible apply Keeps.trans ?_ (State.oweCredits_keeps ..))
    | (with_reducible apply Keeps.trans ?_ (State.setHup_keeps ..))
    | dsimp only
    | split

theorem State.receive_keeps (s : State) (src : PacketFrom) (want : Packet → Bool) (act : State → Nat → Packet → State) (h3 : ∀ b0 b1 b2, Keeps b0 (act b0 b1 b2)) : Keeps s (State.receive s src want act) := by
  unfold State.receive
  repeat' first
    | with_reducible exact Keeps.refl _
    | (with_reducible apply Keeps.trans ?_ (State.ackArrive_keeps ..))
    | (with_reducible apply Keeps.trans ?_ (State.epochGate_keeps ..))
    | (with_reducible apply Keeps.trans ?_ (Keeps.of_pair (State.epochGate_keeps ..) ?_); rotate_right; (with_reducible assumption))
    | (with_reducible apply Keeps.trans ?_ (State.forward_keeps ..))
    | (with_reducible apply Keeps.trans ?_ (State.setHup_keeps ..))
    | (with_reducible apply Keeps.trans ?_ (State.takePacket_keeps ..))
    | (with_reducible apply Keeps.trans ?_ (Keeps.of_pair (State.takePacket_keeps ..) ?_); rotate_right; (with_reducible assumption))
    | (with_reducible apply Keeps.trans ?_ (h3 ..))
    | with_reducible apply Keeps.ite_snd
    | with_reducible apply Keeps.ite
    | intro _
    | dsimp only
    | split

theorem execHupDataReceive_keeps (source : PacketFrom) (s : State) : KeepsRes s (execHupDataReceive source s) := by
  unfold execHupDataReceive
  repeat' first
    | with_reducible exact Keeps.refl _
    | (with_reducible apply Keeps.trans ?_ (State.flowArrive_keeps ..))
    | (with_reducible apply Keeps.trans ?_ (State.receive_keeps (h3 := ?_) ..))
    | with_reducible apply KeepsRes.next
    | intro _

theorem execHupCloseReceive_keeps (source : PacketFrom) (s : State) : KeepsRes s (execHupCloseReceive source s) := by
  unfold execHupCloseReceive
  repeat' first
    | with_reducible exact Keeps.refl _
    | (with_reducible apply Keeps.trans ?_ (State.flowArrive_keeps ..))
    | (with_reducible apply Keeps.trans ?_ (State.receive_keeps (h3 := ?_) ..))
    | with_reducible apply KeepsRes.next
    | intro _

theorem execHupAckReceive_keeps (source : PacketFrom) (s : State) : KeepsRes s (execHupAckReceive source s) := by
  unfold execHupAckReceive
  repeat' first
    | with_reducible exact Keeps.refl _
    | (with_reducible apply Keeps.trans ?_ (State.ackArrive_keeps ..))
    | (with_reducible apply Keeps.trans ?_ (State.receive_keeps (h3 := ?_) ..))
    | with_reducible apply KeepsRes.next
    | intro _

theorem execEpochNoticeReceive_keeps (source : PacketFrom) (s : State) : KeepsRes s (execEpochNoticeReceive source s) := by
  unfold execEpochNoticeReceive
  repeat' first
    | with_reducible exact Keeps.refl _
    | (with_reducible apply Keeps.trans ?_ (State.flowArrive_keeps ..))
    | (with_reducible apply Keeps.trans ?_ (State.receive_keeps (h3 := ?_) ..))
    | with_reducible apply KeepsRes.next
    | intro _

theorem execGenNoticeReceive_keeps (source : PacketFrom) (s : State) : KeepsRes s (execGenNoticeReceive source s) := by
  unfold execGenNoticeReceive
  repeat' first
    | with_reducible exact Keeps.refl _
    | (with_reducible apply Keeps.trans ?_ (State.flowArrive_keeps ..))
    | (with_reducible apply Keeps.trans ?_ (State.receive_keeps (h3 := ?_) ..))
    | with_reducible apply KeepsRes.next
    | intro _

theorem State.keyxArrive_keeps (s : State) (p : Nat) (code : Nat) : Keeps s (State.keyxArrive s p code) := by
  unfold State.keyxArrive
  all_goals try with_reducible apply Keeps.trans ?_ (Keeps.lit _)
  all_goals repeat' first
    | with_reducible exact Keeps.refl _
    | with_reducible exact Keeps.lit _
    | (with_reducible apply Keeps.trans ?_ (State.sendKeyx_keeps ..))
    | (with_reducible apply Keeps.trans ?_ (State.setSpoke_keeps ..))
    | (with_reducible apply Keeps.trans ?_ (State.took_keeps ..))
    | dsimp only
    | split
  all_goals try with_reducible apply Keeps.trans ?_ (Keeps.lit _)
  all_goals repeat' first
    | with_reducible exact Keeps.refl _
    | with_reducible exact Keeps.lit _
    | (with_reducible apply Keeps.trans ?_ (State.sendKeyx_keeps ..))
    | (with_reducible apply Keeps.trans ?_ (State.setSpoke_keeps ..))
    | (with_reducible apply Keeps.trans ?_ (State.took_keeps ..))
    | dsimp only
    | split

theorem execKeyxReceive_keeps (source : PacketFrom) (s : State) : KeepsRes s (execKeyxReceive source s) := by
  unfold execKeyxReceive
  repeat' first
    | with_reducible exact Keeps.refl _
    | (with_reducible apply Keeps.trans ?_ (State.keyxArrive_keeps ..))
    | (with_reducible apply Keeps.trans ?_ (State.receive_keeps (h3 := ?_) ..))
    | with_reducible apply KeepsRes.next
    | with_reducible exact KeepsRes.fault _ _
    | with_reducible exact KeepsRes.refused _ _
    | intro _
    | dsimp only
    | split

/-! ### Beat -/

theorem State.setCad_keeps (s : State) (x : Cadence) : Keeps s (State.setCad s x) := by
  unfold State.setCad
  all_goals try with_reducible apply Keeps.trans ?_ (Keeps.lit _)
  all_goals repeat' first
    | with_reducible exact Keeps.refl _

theorem State.setTime_keeps (s : State) (t : Nat) : Keeps s (State.setTime s t) := by
  unfold State.setTime
  repeat' first
    | with_reducible exact Keeps.refl _
    | (with_reducible apply Keeps.trans ?_ (State.setCad_keeps ..))

theorem State.elect_keeps (s : State) : Keeps s (State.elect s) := by
  unfold State.elect
  repeat' first
    | with_reducible exact Keeps.refl _
    | (with_reducible apply Keeps.trans ?_ (State.setReg_keeps ..))
    | with_reducible apply Keeps.ite_snd
    | with_reducible apply Keeps.ite
    | dsimp only
    | split

theorem State.sendBeatMarkers_keeps (s : State) : Keeps s (State.sendBeatMarkers s) := by
  unfold State.sendBeatMarkers
  repeat' first
    | with_reducible exact Keeps.refl _
    | (with_reducible apply Keeps.trans ?_ (State.sendSet_keeps ..))
    | (with_reducible apply Keeps.trans ?_ (State.took_keeps ..))
    | (with_reducible apply Keeps.trans ?_ (Keeps.foldl _ _ _ ?_))
    | (with_reducible apply Keeps.trans ?_ (Keeps.foldl_pair _ _ _ ?_))
    | intro _
    | dsimp only
    | split

theorem execHeartbeatSend_keeps (spoke : Nat) (s : State) : KeepsRes s (execHeartbeatSend spoke s) := by
  unfold execHeartbeatSend
  all_goals try with_reducible apply Keeps.trans ?_ (Keeps.lit _)
  all_goals repeat' first
    | with_reducible exact Keeps.refl _
    | with_reducible exact Keeps.lit _
    | (with_reducible apply Keeps.trans ?_ (State.sendSet_keeps ..))
    | (with_reducible apply Keeps.trans ?_ (State.setSpoke_keeps ..))
    | (with_reducible apply Keeps.trans ?_ (State.took_keeps ..))
    | with_reducible apply KeepsRes.next
    | with_reducible exact KeepsRes.fault _ _
    | with_reducible exact KeepsRes.refused _ _
    | with_reducible apply Keeps.ite_snd
    | with_reducible apply Keeps.ite
    | dsimp only
    | split
  all_goals try with_reducible apply Keeps.trans ?_ (Keeps.lit _)
  all_goals repeat' first
    | with_reducible exact Keeps.refl _
    | with_reducible exact Keeps.lit _
    | (with_reducible apply Keeps.trans ?_ (State.sendSet_keeps ..))
    | (with_reducible apply Keeps.trans ?_ (State.setSpoke_keeps ..))
    | (with_reducible apply Keeps.trans ?_ (State.took_keeps ..))
    | with_reducible apply KeepsRes.next
    | with_reducible exact KeepsRes.fault _ _
    | with_reducible exact KeepsRes.refused _ _
    | with_reducible apply Keeps.ite_snd
    | with_reducible apply Keeps.ite
    | dsimp only
    | split

theorem State.atEdge_keeps (s : State) : Keeps s (State.atEdge s) := by
  unfold State.atEdge
  repeat' first
    | with_reducible exact Keeps.refl _
    | (with_reducible apply Keeps.trans ?_ (State.applyBeat_keeps ..))
    | (with_reducible apply Keeps.trans ?_ (State.elect_keeps ..))
    | (with_reducible apply Keeps.trans ?_ (State.pinEdges_keeps ..))
    | (with_reducible apply Keeps.trans ?_ (State.plansEdge_keeps ..))
    | (with_reducible apply Keeps.trans ?_ (State.sendBeatMarkers_keeps ..))
    | dsimp only
    | split

theorem execBeatEdge_keeps (s : State) : KeepsRes s (execBeatEdge s) := by
  unfold execBeatEdge
  repeat' first
    | with_reducible exact Keeps.refl _
    | (with_reducible apply Keeps.trans ?_ (State.atEdge_keeps ..))
    | (with_reducible apply Keeps.trans ?_ (State.setCad_keeps ..))
    | (with_reducible apply Keeps.trans ?_ (State.setReg_keeps ..))
    | (with_reducible apply Keeps.trans ?_ (State.setTime_keeps ..))
    | with_reducible apply KeepsRes.next
    | dsimp only
    | split

theorem execBeatPeriodNsWrite_keeps (who : Who) (value : Nat) (s : State) : KeepsRes s (execBeatPeriodNsWrite who value s) := by
  unfold execBeatPeriodNsWrite
  repeat' first
    | with_reducible exact Keeps.refl _
    | (with_reducible apply Keeps.trans ?_ (State.row_keeps (h5 := ?_) ..))
    | (with_reducible apply Keeps.trans ?_ (State.store_keeps _ _ _ _ (fun h => absurd h (by decide))))
    | with_reducible apply KeepsRes.next
    | intro _
    | split

theorem execBeatEpochStartSecWrite_keeps (who : Who) (value : Nat) (s : State) : KeepsRes s (execBeatEpochStartSecWrite who value s) := by
  unfold execBeatEpochStartSecWrite
  repeat' first
    | with_reducible exact Keeps.refl _
    | (with_reducible apply Keeps.trans ?_ (State.row_keeps (h5 := ?_) ..))
    | (with_reducible apply Keeps.trans ?_ (State.setCad_keeps ..))
    | (with_reducible apply Keeps.trans ?_ (State.store_keeps _ _ _ _ (fun h => absurd h (by decide))))
    | with_reducible apply KeepsRes.next
    | intro _
    | dsimp only
    | split

theorem State.haltAll_keeps (s : State) : Keeps s (State.haltAll s) := by
  unfold State.haltAll
  repeat' first
    | with_reducible exact Keeps.refl _
    | (with_reducible apply Keeps.trans ?_ (State.haltPlan_keeps ..))
    | (with_reducible apply Keeps.foldl _ _ _ ?_)
    | intro _

theorem execEpochStart_keeps (s : State) : KeepsRes s (execEpochStart s) := by
  unfold execEpochStart
  repeat' first
    | with_reducible exact Keeps.refl _
    | (with_reducible apply Keeps.trans ?_ (State.atEdge_keeps ..))
    | (with_reducible apply Keeps.trans ?_ (State.haltAll_keeps ..))
    | (with_reducible apply Keeps.trans ?_ (State.setCad_keeps ..))
    | (with_reducible apply Keeps.trans ?_ (State.setReg_keeps ..))
    | (with_reducible apply Keeps.trans ?_ (State.setTime_keeps ..))
    | with_reducible apply KeepsRes.next
    | dsimp only
    | split

theorem State.servo_keeps (s : State) : Keeps s (State.servo s) := by
  unfold State.servo
  repeat' first
    | with_reducible exact Keeps.refl _
    | (with_reducible apply Keeps.trans ?_ (State.setCad_keeps ..))
    | (with_reducible apply Keeps.trans ?_ (State.took_keeps ..))

theorem State.hearEpoch_keeps (s : State) (m : Marker) : Keeps s (State.hearEpoch s m) := by
  unfold State.hearEpoch
  repeat' first
    | with_reducible exact Keeps.refl _
    | (with_reducible apply Keeps.trans ?_ (State.haltAll_keeps ..))
    | (with_reducible apply Keeps.trans ?_ (State.setCad_keeps ..))
    | dsimp only
    | split

theorem State.lockTo_keeps (s : State) (m : Marker) : Keeps s (State.lockTo s m) := by
  unfold State.lockTo
  repeat' first
    | with_reducible exact Keeps.refl _
    | (with_reducible apply Keeps.trans ?_ (State.setCad_keeps ..))
    | (with_reducible apply Keeps.trans ?_ (State.setReg_keeps ..))
    | dsimp only
    | split

theorem State.shiftTime_keeps (s : State) (d : Int) : Keeps s (State.shiftTime s d) := by
  unfold State.shiftTime
  repeat' first
    | with_reducible exact Keeps.refl _
    | (with_reducible apply Keeps.trans ?_ (State.setCad_keeps ..))
    | (with_reducible apply Keeps.trans ?_ (State.setTime_keeps ..))
    | dsimp only
    | split

theorem State.takeTime_keeps (s : State) (offset : Int) : Keeps s (State.takeTime s offset) := by
  unfold State.takeTime
  repeat' first
    | with_reducible exact Keeps.refl _
    | (with_reducible apply Keeps.trans ?_ (State.setReg_keeps ..))
    | (with_reducible apply Keeps.trans ?_ (State.shiftTime_keeps ..))
    | with_reducible apply Keeps.ite_snd
    | with_reducible apply Keeps.ite
    | dsimp only
    | split

theorem State.follow_keeps (s : State) (p : Nat) (m : Marker) (t1 : Int) (t4 : Int) : Keeps s (State.follow s p m t1 t4) := by
  unfold State.follow
  repeat' first
    | with_reducible exact Keeps.refl _
    | (with_reducible apply Keeps.trans ?_ (State.hearEpoch_keeps ..))
    | (with_reducible apply Keeps.trans ?_ (State.lockTo_keeps ..))
    | (with_reducible apply Keeps.trans ?_ (State.log!_keeps ..))
    | (with_reducible apply Keeps.trans ?_ (State.servo_keeps ..))
    | (with_reducible apply Keeps.trans ?_ (State.setCad_keeps ..))
    | (with_reducible apply Keeps.trans ?_ (State.setReg_keeps ..))
    | (with_reducible apply Keeps.trans ?_ (State.setTime_keeps ..))
    | (with_reducible apply Keeps.trans ?_ (State.takeTime_keeps ..))
    | with_reducible apply Keeps.ite_snd
    | with_reducible apply Keeps.ite
    | dsimp only
    | split

theorem State.markerIn_keeps (s : State) (p : Nat) (m : Marker) (t1 : Nat) (t4 : Nat) : Keeps s (State.markerIn s p m t1 t4) := by
  unfold State.markerIn
  repeat' first
    | with_reducible exact Keeps.refl _
    | (with_reducible apply Keeps.trans ?_ (State.elect_keeps ..))
    | (with_reducible apply Keeps.trans ?_ (State.follow_keeps ..))
    | (with_reducible apply Keeps.trans ?_ (State.setCad_keeps ..))
    | dsimp only
    | split

theorem execBeatMarkerReceive_keeps (spoke : Nat) (marker : Marker) (t1 : Nat) (t4 : Nat) (copies : List Bool) (s : State) : KeepsRes s (execBeatMarkerReceive spoke marker t1 t4 copies s) := by
  unfold execBeatMarkerReceive
  repeat' first
    | with_reducible exact Keeps.refl _
    | (with_reducible apply Keeps.trans ?_ (State.markerIn_keeps ..))
    | (with_reducible apply Keeps.trans ?_ (State.tagged_keeps (h3 := ?_) ..))
    | with_reducible apply KeepsRes.next
    | with_reducible exact KeepsRes.fault _ _
    | with_reducible exact KeepsRes.refused _ _
    | intro _
    | dsimp only
    | split

theorem State.heartbeatIn_keeps (s : State) (p : Nat) (h : Heartbeat) : Keeps s (State.heartbeatIn s p h) := by
  unfold State.heartbeatIn
  all_goals try with_reducible apply Keeps.trans ?_ (Keeps.lit _)
  all_goals repeat' first
    | with_reducible exact Keeps.refl _
    | with_reducible exact Keeps.lit _
    | (with_reducible apply Keeps.trans ?_ (State.elect_keeps ..))
    | (with_reducible apply Keeps.trans ?_ (State.setCad_keeps ..))
    | dsimp only
    | split
  all_goals try with_reducible apply Keeps.trans ?_ (Keeps.lit _)
  all_goals repeat' first
    | with_reducible exact Keeps.refl _
    | with_reducible exact Keeps.lit _
    | (with_reducible apply Keeps.trans ?_ (State.elect_keeps ..))
    | (with_reducible apply Keeps.trans ?_ (State.setCad_keeps ..))
    | dsimp only
    | split

theorem execHeartbeatReceive_keeps (spoke : Nat) (heartbeat : Heartbeat) (copies : List Bool) (s : State) : KeepsRes s (execHeartbeatReceive spoke heartbeat copies s) := by
  unfold execHeartbeatReceive
  repeat' first
    | with_reducible exact Keeps.refl _
    | (with_reducible apply Keeps.trans ?_ (State.heartbeatIn_keeps ..))
    | (with_reducible apply Keeps.trans ?_ (State.tagged_keeps (h3 := ?_) ..))
    | with_reducible apply KeepsRes.next
    | with_reducible exact KeepsRes.fault _ _
    | with_reducible exact KeepsRes.refused _ _
    | intro _
    | dsimp only
    | split

theorem State.orderedSet_keeps (s : State) (p : Nat) (bytes : Bytes) (t1 t4 : Nat) : Keeps s (State.orderedSet s p bytes t1 t4) := by
  unfold State.orderedSet
  repeat' first
    | with_reducible exact Keeps.refl _
    | (with_reducible apply Keeps.trans ?_ (State.heartbeatIn_keeps ..))
    | (with_reducible apply Keeps.trans ?_ (State.log!_keeps ..))
    | (with_reducible apply Keeps.trans ?_ (State.loseNode_keeps ..))
    | (with_reducible apply Keeps.trans ?_ (State.markerIn_keeps ..))
    | (with_reducible apply Keeps.trans ?_ (State.spokeDown_keeps ..))
    | dsimp only
    | split

theorem execMarkerPacketReceive_keeps (source : PacketFrom) (t1 t4 : Nat) (s : State) : KeepsRes s (execMarkerPacketReceive source t1 t4 s) := by
  unfold execMarkerPacketReceive
  repeat' first
    | with_reducible exact Keeps.refl _
    | (with_reducible apply Keeps.trans ?_ (State.orderedSet_keeps ..))
    | (with_reducible apply Keeps.trans ?_ (State.receive_keeps (h3 := ?_) ..))
    | with_reducible apply KeepsRes.next
    | intro _

theorem execCadenceLock_keeps (s : State) : KeepsRes s (execCadenceLock s) := by
  unfold execCadenceLock
  repeat' first
    | with_reducible exact Keeps.refl _
    | (with_reducible apply Keeps.trans ?_ (State.lockTo_keeps ..))
    | (with_reducible apply Keeps.trans ?_ (State.setReg_keeps ..))
    | with_reducible apply KeepsRes.next
    | with_reducible exact KeepsRes.fault _ _
    | with_reducible exact KeepsRes.refused _ _
    | dsimp only
    | split

theorem State.unheard_keeps (s : State) (p : Nat) : Keeps s (State.unheard s p) := by
  unfold State.unheard
  repeat' first
    | with_reducible exact Keeps.refl _
    | (with_reducible apply Keeps.trans ?_ (State.elect_keeps ..))
    | (with_reducible apply Keeps.trans ?_ (State.setCad_keeps ..))

theorem execUpstreamLoss_keeps (s : State) : KeepsRes s (execUpstreamLoss s) := by
  unfold execUpstreamLoss
  repeat' first
    | with_reducible exact Keeps.refl _
    | (with_reducible apply Keeps.trans ?_ (State.unheard_keeps ..))
    | with_reducible apply KeepsRes.next
    | split

theorem execHoldoverTimeout_keeps (s : State) : KeepsRes s (execHoldoverTimeout s) := by
  unfold execHoldoverTimeout
  repeat' first
    | with_reducible exact Keeps.refl _
    | (with_reducible apply Keeps.trans ?_ (State.setCad_keeps ..))
    | (with_reducible apply Keeps.trans ?_ (State.setReg_keeps ..))
    | with_reducible apply KeepsRes.next
    | dsimp only
    | split

theorem execPeerSilent_keeps (spoke : Nat) (s : State) : KeepsRes s (execPeerSilent spoke s) := by
  unfold execPeerSilent
  repeat' first
    | with_reducible exact Keeps.refl _
    | (with_reducible apply Keeps.trans ?_ (State.log!_keeps ..))
    | (with_reducible apply Keeps.trans ?_ (State.loseNode_keeps ..))
    | (with_reducible apply Keeps.trans ?_ (State.unheard_keeps ..))
    | with_reducible apply KeepsRes.next
    | with_reducible exact KeepsRes.fault _ _
    | with_reducible exact KeepsRes.refused _ _
    | dsimp only
    | split

theorem execPpsEdge_keeps (sinceNs : Nat) (s : State) : KeepsRes s (execPpsEdge sinceNs s) := by
  unfold execPpsEdge
  repeat' first
    | with_reducible exact Keeps.refl _
    | (with_reducible apply Keeps.trans ?_ (State.bumpF_keeps ..))
    | (with_reducible apply Keeps.trans ?_ (State.setCad_keeps ..))
    | (with_reducible apply Keeps.trans ?_ (State.setReg_keeps ..))
    | (with_reducible apply Keeps.trans ?_ (State.setRegF_keeps ..))
    | (with_reducible apply Keeps.trans ?_ (State.setTime_keeps ..))
    | with_reducible apply KeepsRes.next
    | dsimp only
    | split

theorem execPpsLoss_keeps (s : State) : KeepsRes s (execPpsLoss s) := by
  unfold execPpsLoss
  repeat' first
    | with_reducible exact Keeps.refl _
    | (with_reducible apply Keeps.trans ?_ (State.setReg_keeps ..))
    | with_reducible apply KeepsRes.next
    | split

/-! ### DictWrite -/

theorem outcomeOf_keeps (s : State) (r : Res) (h : KeepsRes s r) : Keeps s (outcomeOf s r).2 := by
  unfold outcomeOf
  split
  · split
    · exact (h _ rfl).trans (Keeps.upd rfl rfl rfl rfl rfl rfl rfl)
    · exact Keeps.refl _
  · exact Keeps.refl _

/-- What a write of a row leaves, if the row has it. -/
def KeepsPair (s : State) (o : Option (Nat × State)) : Prop := ∀ r, o = Option.some r → Keeps s r.2

theorem KeepsPair.some {s : State} {r : Nat × State} (h : Keeps s r.2) : KeepsPair s (Option.some r) := fun _ e => by cases e; exact h
theorem KeepsPair.none (s : State) : KeepsPair s Option.none := fun _ e => by cases e
theorem KeepsPair.ite {s : State} {a b : Option (Nat × State)} {c : Prop} [Decidable c] (h : KeepsPair s a) (k : KeepsPair s b) :
    KeepsPair s (if c then a else b) := by
  split <;> assumption

theorem KeepsPair.pick {s : State} {l : List (Nat × Res)} (code : Nat) (h : ∀ e ∈ l, KeepsRes s e.2) :
    KeepsPair s (Option.some (match tfind l code with | .some r => outcomeOf s r | .none => (Abort.VALUE_RANGE, s))) := by
  refine KeepsPair.some ?_
  split
  · rename_i r e
    exact outcomeOf_keeps _ _ (h _ (mem_of_tfind e))
  · exact Keeps.refl _

theorem eachElement_keeps (row : Nat → Nat → State → Res) (old : Nat → Nat) (orig : State) (h : ∀ i v s, KeepsRes s (row i v s))
    (i : Nat) (l : List Nat) (s : State) (hs : Keeps orig s) : Keeps orig (eachElement row old orig i l s).2 := by
  induction l generalizing i s with
  | nil => exact hs
  | cons v vs ih =>
    unfold eachElement
    split
    · exact ih _ _ hs
    · dsimp only
      split
      · exact ih _ _ (hs.trans (outcomeOf_keeps _ _ (h _ _ _)))
      · exact State.setFlash_keeps ..

theorem onlyOne_keeps (s : State) (w : Write) (r : Res) (h : KeepsRes s r) : Keeps s (onlyOne s w r).2 := by
  unfold onlyOne
  split
  · exact outcomeOf_keeps _ _ h
  · exact Keeps.refl _

theorem State.actionWrite_keeps (s : State) (w : Write) : KeepsPair s (s.actionWrite w) := by
  unfold State.actionWrite
  dsimp only
  repeat' (with_reducible apply KeepsPair.ite)
  all_goals first
    | exact KeepsPair.none _
    | refine KeepsPair.pick _ ?_
      simp only [List.forall_mem_cons]
      repeat' (with_reducible apply And.intro)
      all_goals first
        | (with_reducible exact execFlipMaskArm_keeps ..)
        | (with_reducible exact execFlipMaskDisarm_keeps ..)
        | (with_reducible exact execFwUpdateBegin_keeps ..)
        | (with_reducible exact execFwUpdateCancel_keeps ..)
        | (with_reducible exact execFwUpdateFinish_keeps ..)
        | (with_reducible exact execPlanArm_keeps ..)
        | (with_reducible exact execPlanHalt_keeps ..)
        | (with_reducible exact execPlanLoad_keeps ..)
        | (with_reducible exact execPlanUnload_keeps ..)
        | (with_reducible exact execQueueDestroy_keeps ..)
        | (with_reducible exact execQueuePause_keeps ..)
        | (with_reducible exact execQueueReset_keeps ..)
        | (with_reducible exact execQueueResume_keeps ..)
        | (with_reducible exact execSecFuseRevoke_keeps ..)
        | (with_reducible exact execSecFuseSigPolicy_keeps ..)
        | (with_reducible exact execSecFuseSvn_keeps ..)
        | (with_reducible exact execSetPreferred_keeps ..)
        | (with_reducible exact execSpokeDisable_keeps ..)
        | (with_reducible exact execSpokeEnable_keeps ..)
        | (with_reducible exact execSpokeReset_keeps ..)
        | (with_reducible exact execStopAtStepEnd_keeps ..)
        | (with_reducible exact execWarm_keeps ..)
        | (with_reducible exact execWarmWithDump_keeps ..)
        | exact List.forall_mem_nil _

theorem State.rowWrite_keeps (s : State) (w : Write) : KeepsPair s (s.rowWrite w) := by
  unfold State.rowWrite onlyOne
  dsimp only
  repeat' first
    | (with_reducible apply KeepsPair.ite)
    | (with_reducible apply Keeps.ite_snd)
    | (with_reducible exact State.actionWrite_keeps ..)
    | (with_reducible apply KeepsPair.some)
    | (with_reducible apply outcomeOf_keeps)
    | (with_reducible exact Keeps.refl _)
    | (with_reducible exact State.trigInternal_keeps ..)
    | (with_reducible apply eachElement_keeps _ _ _ (fun i v t => ?_) _ _ _ (Keeps.refl _))
    | (with_reducible exact execAlarmClear_keeps ..)
    | (with_reducible exact execAuxioConfigWrite_keeps ..)
    | (with_reducible exact execBeatEpochStartSecWrite_keeps ..)
    | (with_reducible exact execBeatPeriodNsWrite_keeps ..)
    | (with_reducible exact execClkobsWrite_keeps ..)
    | (with_reducible exact execContextClaim_keeps ..)
    | (with_reducible exact execContextKey_keeps ..)
    | (with_reducible exact execContextKeyNext_keeps ..)
    | (with_reducible exact execContextRelease_keeps ..)
    | (with_reducible exact execContextReset_keeps ..)
    | (with_reducible exact execContextTransferKey_keeps ..)
    | (with_reducible exact execCrashDumpClear_keeps ..)
    | (with_reducible exact execDebugUnlock_keeps ..)
    | (with_reducible exact execDropLedgerRegionWrite_keeps ..)
    | (with_reducible exact execErrorFlashClear_keeps ..)
    | (with_reducible exact execFacetRetiredWrite_keeps ..)
    | (with_reducible exact execFaultOutClear_keeps ..)
    | (with_reducible exact execFlashRestoreDefaults_keeps ..)
    | (with_reducible exact execFwUpdateData_keeps ..)
    | (with_reducible exact execHbmRegionWrite_keeps ..)
    | (with_reducible exact execHbmRetiredPagesWrite_keeps ..)
    | (with_reducible exact execHbmUnitWrittenWrite_keeps ..)
    | (with_reducible exact execLatticeRouteWrite_keeps ..)
    | (with_reducible exact execPeerLostWrite_keeps ..)
    | (with_reducible exact execPlanFirstStepWrite_keeps ..)
    | (with_reducible exact execPoolConfigWrite_keeps ..)
    | (with_reducible exact execPoolRequesterWrite_keeps ..)
    | (with_reducible exact execQueueCreate_keeps ..)
    | (with_reducible exact execRankMapCommit_keeps ..)
    | (with_reducible exact execRouterCancelWrite_keeps ..)
    | (with_reducible exact execSpokeRetuneRequest_keeps ..)
    | (with_reducible exact execTraceConfigWrite_keeps ..)
    | split

theorem State.afterWrite_keeps (s : State) (o : ObjDef) : Keeps s (State.afterWrite s o) := by
  unfold State.afterWrite
  repeat' first
    | with_reducible exact Keeps.refl _
    | (with_reducible apply Keeps.trans ?_ (State.elect_keeps ..))
    | (with_reducible apply Keeps.trans ?_ (State.setMaint_keeps ..))
    | (with_reducible apply Keeps.trans ?_ (State.showClocks_keeps ..))
    | with_reducible apply Keeps.ite_snd
    | with_reducible apply Keeps.ite
    | intro _
    | dsimp only
    | split

theorem State.plainWrite_keeps (s : State) (w : Write) (h : w.o.apply = .nextStep → waitsForStep w.o.index = true ∧ w.sub < 256) :
    Keeps s (s.plainWrite w).2 := by
  unfold State.plainWrite
  dsimp only
  split
  · exact Keeps.refl _
  · split
    · exact State.flashFailed_keeps ..
    · split
      · exact State.setCopy_keeps ..
      · split
        · exact Keeps.upd rfl rfl rfl rfl rfl rfl rfl
        · exact (State.store_keeps _ _ _ _ h).trans (State.afterWrite_keeps ..)

theorem State.performWrite_keeps (s : State) (w : Write) (h : w.o.apply = .nextStep → waitsForStep w.o.index = true ∧ w.sub < 256) :
    Keeps s (s.performWrite w).2 := by
  unfold State.performWrite
  split
  · exact State.rowWrite_keeps _ _ _ ‹_›
  · exact State.plainWrite_keeps _ _ h

theorem State.writeBytes_keeps (s : State) (who : Who) (o : ObjDef) (sub first count : Nat) (bytes : Bytes) (flashOk : Bool)
    (h : o.apply = .nextStep → waitsForStep o.index = true ∧ sub < 256) : Keeps s (s.writeBytes who o sub first count bytes flashOk).2 :=
  State.performWrite_keeps _ _ h

theorem waits_findObject {index sub : Nat} {o : ObjDef} (h : findObject index sub = .ok o) :
    o.apply = .nextStep → waitsForStep o.index = true ∧ sub < 256 := by
  intro ha
  unfold findObject at h
  split at h
  · rename_i x hx
    cases h
    have h1 := List.mem_of_find?_eq_some hx
    have h2 := List.find?_some hx
    simp only [Bool.and_eq_true, beq_iff_eq, decide_eq_true_eq] at h2
    have h3 : ∀ o ∈ Obj.table, o.hi < 256 := by decide +kernel
    refine ⟨?_, Nat.lt_of_le_of_lt h2.2 (h3 _ h1)⟩
    unfold waitsForStep
    rw [List.any_eq_true]
    exact ⟨_, h1, by rw [ha]; simp⟩
  · cases h

theorem waits_checked {s : State} {who : Who} {d w : Bool} {index sub first count size : Nat} {o : ObjDef}
    (h : s.checked who d w index sub first count size = .ok o) : o.apply = .nextStep → waitsForStep o.index = true ∧ sub < 256 := by
  unfold State.checked at h
  split at h
  · cases h
  · rename_i x hx
    dsimp only at h
    repeat' (split at h; · cases h)
    cases h
    exact waits_findObject hx

theorem execRegisterWrite_keeps (who : Who) (index sub : Nat) (first count : Nat) (value : Bytes) (flashOk : Bool) (s : State) : KeepsRes s (execRegisterWrite who index sub first count value flashOk s) := by
  unfold execRegisterWrite
  refine KeepsRes.next ?_
  split
  · exact Keeps.refl _
  · refine Keeps.trans ?_ (State.emit_keeps ..)
    split
    · exact Keeps.refl _
    · split
      · exact Keeps.refl _
      · exact State.writeBytes_keeps _ _ _ _ _ _ _ _ (waits_checked ‹_›)

/-! ### Spdm -/

theorem State.respond_keeps (s : State) (e : SpdmEnd) (m : SpdmMsg) : Keeps s (State.respond s e m) := by
  unfold State.respond
  repeat' first
    | with_reducible exact Keeps.refl _
    | (with_reducible apply Keeps.trans ?_ (State.emit_keeps ..))

theorem State.attest_keeps (s : State) (e : SpdmEnd) (act : State → State) (h2 : ∀ (x0 : State), Keeps x0 (act x0)) : Keeps s (State.attest s e act) := by
  unfold State.attest
  repeat' first
    | with_reducible exact Keeps.refl _
    | (with_reducible apply Keeps.trans ?_ (h2 ..))
    | split

theorem execGetVersion_keeps (endpoint : SpdmEnd) (s : State) : KeepsRes s (execGetVersion endpoint s) := by
  unfold execGetVersion
  repeat' first
    | with_reducible exact Keeps.refl _
    | (with_reducible apply Keeps.trans ?_ (State.attest_keeps (h2 := ?_) ..))
    | (with_reducible apply Keeps.trans ?_ (State.respond_keeps ..))
    | with_reducible apply KeepsRes.next
    | intro _

theorem execGetCapabilities_keeps (endpoint : SpdmEnd) (s : State) : KeepsRes s (execGetCapabilities endpoint s) := by
  unfold execGetCapabilities
  repeat' first
    | with_reducible exact Keeps.refl _
    | (with_reducible apply Keeps.trans ?_ (State.attest_keeps (h2 := ?_) ..))
    | (with_reducible apply Keeps.trans ?_ (State.respond_keeps ..))
    | with_reducible apply KeepsRes.next
    | intro _

theorem execNegotiateAlgorithms_keeps (endpoint : SpdmEnd) (common : Bool) (s : State) : KeepsRes s (execNegotiateAlgorithms endpoint common s) := by
  unfold execNegotiateAlgorithms
  repeat' first
    | with_reducible exact Keeps.refl _
    | (with_reducible apply Keeps.trans ?_ (State.attest_keeps (h2 := ?_) ..))
    | (with_reducible apply Keeps.trans ?_ (State.respond_keeps ..))
    | with_reducible apply KeepsRes.next
    | intro _

theorem execGetDigests_keeps (endpoint : SpdmEnd) (s : State) : KeepsRes s (execGetDigests endpoint s) := by
  unfold execGetDigests
  repeat' first
    | with_reducible exact Keeps.refl _
    | (with_reducible apply Keeps.trans ?_ (State.attest_keeps (h2 := ?_) ..))
    | (with_reducible apply Keeps.trans ?_ (State.respond_keeps ..))
    | with_reducible apply KeepsRes.next
    | intro _

theorem execGetCertificate_keeps (endpoint : SpdmEnd) (slot : Nat) (s : State) : KeepsRes s (execGetCertificate endpoint slot s) := by
  unfold execGetCertificate
  repeat' first
    | with_reducible exact Keeps.refl _
    | (with_reducible apply Keeps.trans ?_ (State.attest_keeps (h2 := ?_) ..))
    | (with_reducible apply Keeps.trans ?_ (State.respond_keeps ..))
    | with_reducible apply KeepsRes.next
    | intro _

theorem execChallenge_keeps (endpoint : SpdmEnd) (slot : Nat) (s : State) : KeepsRes s (execChallenge endpoint slot s) := by
  unfold execChallenge
  repeat' first
    | with_reducible exact Keeps.refl _
    | (with_reducible apply Keeps.trans ?_ (State.attest_keeps (h2 := ?_) ..))
    | (with_reducible apply Keeps.trans ?_ (State.respond_keeps ..))
    | with_reducible apply KeepsRes.next
    | intro _

theorem execGetMeasurements_keeps (endpoint : SpdmEnd) (index : Nat) (signed : Bool) (s : State) : KeepsRes s (execGetMeasurements endpoint index signed s) := by
  unfold execGetMeasurements
  repeat' first
    | with_reducible exact Keeps.refl _
    | (with_reducible apply Keeps.trans ?_ (State.attest_keeps (h2 := ?_) ..))
    | (with_reducible apply Keeps.trans ?_ (State.respond_keeps ..))
    | with_reducible apply KeepsRes.next
    | intro _

theorem execSetCertificate_keeps (endpoint : SpdmEnd) (slot : Nat) (sameKey : Bool) (s : State) : KeepsRes s (execSetCertificate endpoint slot sameKey s) := by
  unfold execSetCertificate
  repeat' first
    | with_reducible exact Keeps.refl _
    | (with_reducible apply Keeps.trans ?_ (State.attest_keeps (h2 := ?_) ..))
    | (with_reducible apply Keeps.trans ?_ (State.respond_keeps ..))
    | (with_reducible apply Keeps.trans ?_ (State.setSec_keeps ..))
    | with_reducible apply KeepsRes.next
    | intro _
    | dsimp only
    | split

theorem execKeyExchange_keeps (endpoint : SpdmEnd) (s : State) : KeepsRes s (execKeyExchange endpoint s) := by
  unfold execKeyExchange
  repeat' first
    | with_reducible exact Keeps.refl _
    | (with_reducible apply Keeps.trans ?_ (State.respond_keeps ..))
    | (with_reducible apply Keeps.trans ?_ (State.setSec_keeps ..))
    | with_reducible apply KeepsRes.next
    | dsimp only
    | split

theorem State.inSession_keeps (s : State) (e : SpdmEnd) (n : Nat) (established : Bool) (act : State → Session → State) (h4 : ∀ (x0 : State) (x1 : Session), Keeps x0 (act x0 x1)) : Keeps s (State.inSession s e n established act) := by
  unfold State.inSession
  repeat' first
    | with_reducible exact Keeps.refl _
    | (with_reducible apply Keeps.trans ?_ (h4 ..))
    | (with_reducible apply Keeps.trans ?_ (State.respond_keeps ..))
    | split

theorem State.setSession_keeps (s : State) (n : Nat) (x : Session) : Keeps s (State.setSession s n x) := by
  unfold State.setSession
  repeat' first
    | with_reducible exact Keeps.refl _
    | (with_reducible apply Keeps.trans ?_ (State.setSec_keeps ..))

theorem execSpdmFinish_keeps (endpoint : SpdmEnd) (session : Nat) (verified : Bool) (proof : Option RequesterProof) (s : State) : KeepsRes s (execSpdmFinish endpoint session verified proof s) := by
  unfold execSpdmFinish
  repeat' first
    | with_reducible exact Keeps.refl _
    | (with_reducible apply Keeps.trans ?_ (State.countSessions_keeps ..))
    | (with_reducible apply Keeps.trans ?_ (State.inSession_keeps (h4 := ?_) ..))
    | (with_reducible apply Keeps.trans ?_ (State.respond_keeps ..))
    | (with_reducible apply Keeps.trans ?_ (State.setSession_keeps ..))
    | with_reducible apply KeepsRes.next
    | intro _
    | dsimp only
    | split

theorem execKeyUpdate_keeps (endpoint : SpdmEnd) (session : Nat) (s : State) : KeepsRes s (execKeyUpdate endpoint session s) := by
  unfold execKeyUpdate
  repeat' first
    | with_reducible exact Keeps.refl _
    | (with_reducible apply Keeps.trans ?_ (State.inSession_keeps (h4 := ?_) ..))
    | (with_reducible apply Keeps.trans ?_ (State.respond_keeps ..))
    | (with_reducible apply Keeps.trans ?_ (State.setSession_keeps ..))
    | with_reducible apply KeepsRes.next
    | intro _

theorem execSpdmHeartbeat_keeps (endpoint : SpdmEnd) (session : Nat) (s : State) : KeepsRes s (execSpdmHeartbeat endpoint session s) := by
  unfold execSpdmHeartbeat
  repeat' first
    | with_reducible exact Keeps.refl _
    | (with_reducible apply Keeps.trans ?_ (State.inSession_keeps (h4 := ?_) ..))
    | (with_reducible apply Keeps.trans ?_ (State.respond_keeps ..))
    | with_reducible apply KeepsRes.next
    | intro _

theorem execEndSession_keeps (endpoint : SpdmEnd) (session : Nat) (s : State) : KeepsRes s (execEndSession endpoint session s) := by
  unfold execEndSession
  repeat' first
    | with_reducible exact Keeps.refl _
    | (with_reducible apply Keeps.trans ?_ (State.endSession_keeps ..))
    | (with_reducible apply Keeps.trans ?_ (State.inSession_keeps (h4 := ?_) ..))
    | (with_reducible apply Keeps.trans ?_ (State.respond_keeps ..))
    | with_reducible apply KeepsRes.next
    | intro _

theorem execSpdmHeartbeatTimeout_keeps (session : Nat) (s : State) : KeepsRes s (execSpdmHeartbeatTimeout session s) := by
  unfold execSpdmHeartbeatTimeout
  repeat' first
    | with_reducible exact Keeps.refl _
    | (with_reducible apply Keeps.trans ?_ (State.endSession_keeps ..))
    | with_reducible apply KeepsRes.next

theorem State.setStream_keeps (s : State) (stream : IdeStream) (secure : Bool) : Keeps s (State.setStream s stream secure) := by
  unfold State.setStream
  repeat' first
    | with_reducible exact Keeps.refl _
    | (with_reducible apply Keeps.trans ?_ (State.setRegF_keeps ..))
    | (with_reducible apply Keeps.trans ?_ (State.setSec_keeps ..))
    | dsimp only
    | split

theorem execIdeKmRequest_keeps (endpoint : SpdmEnd) (session : Nat) (stream : IdeStream) (secure : Bool) (s : State) : KeepsRes s (execIdeKmRequest endpoint session stream secure s) := by
  unfold execIdeKmRequest
  repeat' first
    | with_reducible exact Keeps.refl _
    | (with_reducible apply Keeps.trans ?_ (State.inSession_keeps (h4 := ?_) ..))
    | (with_reducible apply Keeps.trans ?_ (State.respond_keeps ..))
    | (with_reducible apply Keeps.trans ?_ (State.setStream_keeps ..))
    | with_reducible apply KeepsRes.next
    | intro _
    | split

theorem State.control_keeps (s : State) (eid : Nat) (m : MctpMsg) : Keeps s (State.control s eid m) := by
  unfold State.control
  repeat' first
    | with_reducible exact Keeps.refl _
    | (with_reducible apply Keeps.trans ?_ (State.emit_keeps ..))
    | split

theorem execSetEndpointId_keeps (eid : Nat) (s : State) : KeepsRes s (execSetEndpointId eid s) := by
  unfold execSetEndpointId
  repeat' first
    | with_reducible exact Keeps.refl _
    | (with_reducible apply Keeps.trans ?_ (State.control_keeps ..))
    | (with_reducible apply Keeps.trans ?_ (State.setRegF_keeps ..))
    | with_reducible apply KeepsRes.next
    | split

theorem execGetEndpointId_keeps (eid : Nat) (s : State) : KeepsRes s (execGetEndpointId eid s) := by
  unfold execGetEndpointId
  repeat' first
    | with_reducible exact Keeps.refl _
    | (with_reducible apply Keeps.trans ?_ (State.control_keeps ..))
    | with_reducible apply KeepsRes.next

theorem execGetMctpVersionSupport_keeps (eid : Nat) (s : State) : KeepsRes s (execGetMctpVersionSupport eid s) := by
  unfold execGetMctpVersionSupport
  repeat' first
    | with_reducible exact Keeps.refl _
    | (with_reducible apply Keeps.trans ?_ (State.control_keeps ..))
    | with_reducible apply KeepsRes.next

theorem execGetMessageTypeSupport_keeps (eid : Nat) (s : State) : KeepsRes s (execGetMessageTypeSupport eid s) := by
  unfold execGetMessageTypeSupport
  repeat' first
    | with_reducible exact Keeps.refl _
    | (with_reducible apply Keeps.trans ?_ (State.control_keeps ..))
    | with_reducible apply KeepsRes.next

theorem execGetVendorDefinedMsgSupport_keeps (eid : Nat) (s : State) : KeepsRes s (execGetVendorDefinedMsgSupport eid s) := by
  unfold execGetVendorDefinedMsgSupport
  repeat' first
    | with_reducible exact Keeps.refl _
    | (with_reducible apply Keeps.trans ?_ (State.control_keeps ..))
    | with_reducible apply KeepsRes.next

theorem execEntdaa_keeps (address : Nat) (s : State) : KeepsRes s (execEntdaa address s) := by
  unfold execEntdaa
  repeat' first
    | with_reducible exact Keeps.refl _
    | (with_reducible apply Keeps.trans ?_ (State.setRegF_keeps ..))
    | with_reducible apply KeepsRes.next
    | split

theorem execSetdasa_keeps (static address : Nat) (s : State) : KeepsRes s (execSetdasa static address s) := by
  unfold execSetdasa
  repeat' first
    | with_reducible exact Keeps.refl _
    | (with_reducible apply Keeps.trans ?_ (State.setRegF_keeps ..))
    | with_reducible apply KeepsRes.next
    | split

/-! ### Dictionary -/

theorem State.setTransfer_keeps (s : State) (r : Nat) (t : Transfer) : Keeps s (State.setTransfer s r t) := by
  unfold State.setTransfer
  repeat' first
    | with_reducible exact Keeps.refl _
    | (with_reducible apply Keeps.trans ?_ (State.setDict_keeps ..))

theorem State.endTransfer_keeps (s : State) (r : Nat) : Keeps s (State.endTransfer s r) := by
  unfold State.endTransfer
  repeat' first
    | with_reducible exact Keeps.refl _
    | (with_reducible apply Keeps.trans ?_ (State.setDict_keeps ..))

theorem State.frameRead_keeps (a0 : State) (a1 : Party) (a2 : Nat) : Keeps a0 (State.frameRead a0 a1 a2).2 := by
  unfold State.frameRead
  split
  · exact Keeps.refl _
  · dsimp only
    repeat' split
    · exact Keeps.refl _
    · exact Keeps.refl _
    · exact State.readObject_keeps ..
    · exact (State.readObject_keeps ..).trans (State.setTransfer_keeps ..)

theorem State.applyValue_keeps (s : State) (who : Who) (a2 : Nat) (bytes : Bytes) (flashOk : Bool) : Keeps s (State.applyValue s who a2 bytes flashOk).2.2 := by
  unfold State.applyValue
  split
  · exact Keeps.refl _
  · exact State.writeBytes_keeps _ _ _ _ _ _ _ _ (waits_findObject ‹_›)

theorem State.frameWrite_keeps (s : State) (p : Party) (a2 : Nat) (flashOk : Bool) : Keeps s (State.frameWrite s p a2 flashOk).2 := by
  unfold State.frameWrite
  repeat' first
    | with_reducible exact Keeps.refl _
    | (with_reducible apply Keeps.trans ?_ (State.applyValue_keeps ..))
    | (with_reducible apply Keeps.trans ?_ (State.setTransfer_keeps ..))
    | dsimp only
    | split

theorem State.frameInfo_keeps (s : State) (p : Party) (a2 : Nat) : Keeps s (State.frameInfo s p a2).2 := by
  unfold State.frameInfo
  repeat' first
    | with_reducible exact Keeps.refl _
    | split

theorem State.segmentIn_keeps (s : State) (p : Party) (t : Transfer) (a3 limit : Nat) (data : Bytes) (flashOk : Bool) : Keeps s (State.segmentIn s p t a3 limit data flashOk).2 := by
  unfold State.segmentIn
  repeat' first
    | with_reducible exact Keeps.refl _
    | (with_reducible apply Keeps.trans ?_ (State.applyValue_keeps ..))
    | (with_reducible apply Keeps.trans ?_ (State.endTransfer_keeps ..))
    | (with_reducible apply Keeps.trans ?_ (State.setTransfer_keeps ..))
    | dsimp only
    | split

theorem State.segmentOut_keeps (s : State) (p : Party) (t : Transfer) (a3 limit : Nat) : Keeps s (State.segmentOut s p t a3 limit).2 := by
  unfold State.segmentOut
  repeat' first
    | with_reducible exact Keeps.refl _
    | (with_reducible apply Keeps.trans ?_ (State.endTransfer_keeps ..))
    | (with_reducible apply Keeps.trans ?_ (State.setTransfer_keeps ..))
    | dsimp only
    | split

theorem State.noTransfer_keeps (s : State) (r a2 : Nat) : Keeps s (State.noTransfer s r a2).2 := by
  unfold State.noTransfer
  repeat' first
    | with_reducible exact Keeps.refl _
    | (with_reducible apply Keeps.trans ?_ (State.setDict_keeps ..))
    | dsimp only
    | split

theorem State.frameSegment_keeps (s : State) (p : Party) (a2 limit : Nat) (data : Bytes) (flashOk : Bool) : Keeps s (State.frameSegment s p a2 limit data flashOk).2 := by
  unfold State.frameSegment
  repeat' first
    | with_reducible exact Keeps.refl _
    | (with_reducible apply Keeps.trans ?_ (State.endTransfer_keeps ..))
    | (with_reducible apply Keeps.trans ?_ (State.noTransfer_keeps ..))
    | (with_reducible apply Keeps.trans ?_ (State.segmentIn_keeps ..))
    | (with_reducible apply Keeps.trans ?_ (State.segmentOut_keeps ..))
    | dsimp only
    | split

theorem State.frameAbort_keeps (s : State) (p : Party) (a2 : Nat) : Keeps s (State.frameAbort s p a2).2 := by
  unfold State.frameAbort
  repeat' first
    | with_reducible exact Keeps.refl _
    | (with_reducible apply Keeps.trans ?_ (State.closeTransfer_keeps ..))
    | dsimp only
    | split

theorem State.performFrame_keeps (s : State) (src : FrameFrom) (p : Party) (b : Bytes) (a4 : Nat) (flashOk : Bool) : Keeps s (State.performFrame s src p b a4 flashOk).2 := by
  unfold State.performFrame
  repeat' first
    | with_reducible exact Keeps.refl _
    | (with_reducible apply Keeps.trans ?_ (State.closeTransfer_keeps ..))
    | (with_reducible apply Keeps.trans ?_ (State.frameAbort_keeps ..))
    | (with_reducible apply Keeps.trans ?_ (State.frameInfo_keeps ..))
    | (with_reducible apply Keeps.trans ?_ (State.frameRead_keeps ..))
    | (with_reducible apply Keeps.trans ?_ (State.frameSegment_keeps ..))
    | (with_reducible apply Keeps.trans ?_ (State.frameWrite_keeps ..))
    | dsimp only
    | split

theorem State.setMailbox_keeps (s : State) (f : Nat) (m : Mailbox) : Keeps s (State.setMailbox s f m) := by
  unfold State.setMailbox
  repeat' first
    | with_reducible exact Keeps.refl _
    | (with_reducible apply Keeps.trans ?_ (State.setDict_keeps ..))

theorem State.sendReply_keeps (s : State) (src : FrameFrom) (who : Who) (header : Nat) (data : Bytes) : Keeps s (State.sendReply s src who header data) := by
  unfold State.sendReply
  repeat' first
    | with_reducible exact Keeps.refl _
    | (with_reducible apply Keeps.trans ?_ (State.emit_keeps ..))
    | (with_reducible apply Keeps.trans ?_ (State.interrupt_keeps ..))
    | (with_reducible apply Keeps.trans ?_ (State.setMailbox_keeps ..))
    | dsimp only
    | split

theorem State.countReply_keeps (s : State) (code : Nat) : Keeps s (State.countReply s code) := by
  unfold State.countReply
  repeat' first
    | with_reducible exact Keeps.refl _
    | (with_reducible apply Keeps.trans ?_ (State.bumpF_keeps ..))
    | dsimp only
    | split

theorem State.frameIn_keeps (s : State) (src : FrameFrom) (b : Bytes) (flashOk : Bool) : Keeps s (State.frameIn s src b flashOk) := by
  unfold State.frameIn
  repeat' first
    | with_reducible exact Keeps.refl _
    | (with_reducible apply Keeps.trans ?_ (State.bumpF_keeps ..))
    | (with_reducible apply Keeps.trans ?_ (State.countReply_keeps ..))
    | (with_reducible apply Keeps.trans ?_ (State.performFrame_keeps ..))
    | (with_reducible apply Keeps.trans ?_ (State.sendReply_keeps ..))
    | (with_reducible apply Keeps.trans ?_ (State.setDict_keeps ..))
    | dsimp only
    | split

theorem frameRow_keeps (cmd : Nat) (source : FrameFrom) (flashOk : Bool) (s : State) : KeepsRes s (frameRow cmd source flashOk s) := by
  unfold frameRow
  split
  · exact KeepsRes.next (Keeps.refl _)
  · split
    · exact KeepsRes.next (Keeps.refl _)
    · split
      · exact KeepsRes.refused _ _
      · exact KeepsRes.next (State.frameIn_keeps ..)

theorem execDictRead_keeps (source : FrameFrom) (s : State) : KeepsRes s (execDictRead source s) := by
  unfold execDictRead
  repeat' first
    | (with_reducible exact frameRow_keeps ..)

theorem execDictWrite_keeps (source : FrameFrom) (flashOk : Bool) (s : State) : KeepsRes s (execDictWrite source flashOk s) := by
  unfold execDictWrite
  repeat' first
    | (with_reducible exact frameRow_keeps ..)

theorem execDictInfo_keeps (source : FrameFrom) (s : State) : KeepsRes s (execDictInfo source s) := by
  unfold execDictInfo
  repeat' first
    | (with_reducible exact frameRow_keeps ..)

theorem execDictSegment_keeps (source : FrameFrom) (flashOk : Bool) (s : State) : KeepsRes s (execDictSegment source flashOk s) := by
  unfold execDictSegment
  repeat' first
    | (with_reducible exact frameRow_keeps ..)

theorem execDictAbort_keeps (source : FrameFrom) (s : State) : KeepsRes s (execDictAbort source s) := by
  unfold execDictAbort
  repeat' first
    | (with_reducible exact frameRow_keeps ..)

theorem execSegmentTimeout_keeps (requester : Nat) (s : State) : KeepsRes s (execSegmentTimeout requester s) := by
  unfold execSegmentTimeout
  repeat' first
    | with_reducible exact Keeps.refl _
    | (with_reducible apply Keeps.trans ?_ (State.bumpF_keeps ..))
    | (with_reducible apply Keeps.trans ?_ (State.closeTransfer_keeps ..))
    | with_reducible apply KeepsRes.next
    | split

theorem execMbxControlGo_keeps (function value irq : Nat) (frame : Bytes) (s : State) : KeepsRes s (execMbxControlGo function value irq frame s) := by
  unfold execMbxControlGo
  repeat' first
    | with_reducible exact Keeps.refl _
    | (with_reducible apply Keeps.trans ?_ (State.setMailbox_keeps ..))
    | with_reducible apply KeepsRes.next
    | dsimp only
    | split

theorem execMbxStatusClear_keeps (function value : Nat) (s : State) : KeepsRes s (execMbxStatusClear function value s) := by
  unfold execMbxStatusClear
  repeat' first
    | with_reducible exact Keeps.refl _
    | (with_reducible apply Keeps.trans ?_ (State.setMailbox_keeps ..))
    | with_reducible apply KeepsRes.next
    | dsimp only
    | split

/-! ### FabricTarget -/

theorem State.fabReply_keeps (s : State) (a : Arrived) (r : FabReply) : Keeps s (State.fabReply s a r) := by
  unfold State.fabReply
  repeat' first
    | with_reducible exact Keeps.refl _
    | (with_reducible apply Keeps.trans ?_ (State.sendRecord_keeps ..))

theorem State.fabPassed_keeps (s : State) (a : Arrived) : Keeps s (State.fabPassed s a) := by
  unfold State.fabPassed
  repeat' first
    | with_reducible exact Keeps.refl _
    | (with_reducible apply Keeps.trans ?_ (State.setFab_keeps ..))

theorem State.fabSeen_keeps (s : State) (a : Arrived) : Keeps s (State.fabSeen s a) := by
  unfold State.fabSeen
  repeat' first
    | with_reducible exact Keeps.refl _
    | (with_reducible apply Keeps.trans ?_ (State.setFab_keeps ..))
    | dsimp only
    | split

theorem State.fabWrite_keeps (s : State) (c : Nat) (o : Nat) (b : Bytes) : Keeps s (State.fabWrite s c o b).2 := by
  unfold State.fabWrite
  repeat' first
    | with_reducible exact Keeps.refl _
    | (with_reducible apply Keeps.trans ?_ (State.ctxRead_keeps ..))
    | (with_reducible apply Keeps.trans ?_ (Keeps.of_pair (State.ctxRead_keeps ..) ?_); rotate_right; (with_reducible assumption))
    | (with_reducible apply Keeps.trans ?_ (State.ctxWrite_keeps ..))
    | (with_reducible apply Keeps.trans ?_ (Keeps.of_pair (State.ctxWrite_keeps ..) ?_); rotate_right; (with_reducible assumption))
    | with_reducible apply Keeps.ite_snd
    | with_reducible apply Keeps.ite
    | dsimp only
    | split

theorem State.doLoad_keeps (s : State) (a : Arrived) : Keeps s (State.doLoad s a).2 := by
  unfold State.doLoad
  repeat' first
    | with_reducible exact Keeps.refl _
    | (with_reducible apply Keeps.trans ?_ (State.ctxRead_keeps ..))
    | dsimp only
    | split

theorem State.doStore_keeps (s : State) (a : Arrived) : Keeps s (State.doStore s a).2 := by
  unfold State.doStore
  repeat' first
    | with_reducible exact Keeps.refl _
    | (with_reducible apply Keeps.trans ?_ (Keeps.of_pair (State.fabWrite_keeps ..) ?_); rotate_right; (with_reducible assumption))
    | split

theorem State.doPut_keeps (s : State) (a : Arrived) : Keeps s (State.doPut s a).2 := by
  unfold State.doPut
  repeat' first
    | with_reducible exact Keeps.refl _
    | (with_reducible apply Keeps.trans ?_ (Keeps.of_pair (State.fabWrite_keeps ..) ?_); rotate_right; (with_reducible assumption))
    | dsimp only
    | split

theorem State.doAtomic_keeps (s : State) (a : Arrived) (f : Nat → Option Nat) : Keeps s (State.doAtomic s a f).2 := by
  unfold State.doAtomic
  repeat' first
    | with_reducible exact Keeps.refl _
    | (with_reducible apply Keeps.trans ?_ (State.ctxUpdate_keeps ..))
    | (with_reducible apply Keeps.trans ?_ (Keeps.of_pair (State.ctxUpdate_keeps ..) ?_); rotate_right; (with_reducible assumption))
    | intro _
    | dsimp only
    | split

theorem State.takeRequest_keeps (s : State) (node vc : Nat) (want : FabRecord → Bool) : ∀ v u, (State.takeRequest s node vc want) = some (v, u) → Keeps s u := by
  intro v u h
  unfold State.takeRequest at h
  dsimp only at h
  split at h
  · cases h
  · cases h
    exact (State.takeInbox_keeps _ _ _ _ _ _ ‹_›).trans (State.fabPassed_keeps ..)

theorem State.cachedReply_keeps (s : State) (a : Arrived) (e : FabEntry) : Keeps s (State.cachedReply s a e) := by
  unfold State.cachedReply
  repeat' first
    | with_reducible exact Keeps.refl _
    | (with_reducible apply Keeps.trans ?_ (State.bump_keeps ..))
    | (with_reducible apply Keeps.trans ?_ (State.fabReply_keeps ..))
    | (with_reducible apply Keeps.trans ?_ (State.sramRead_keeps ..))
    | (with_reducible apply Keeps.trans ?_ (Keeps.of_pair (State.sramRead_keeps ..) ?_); rotate_right; (with_reducible assumption))
    | dsimp only
    | split

theorem State.once_keeps (s : State) (a : Arrived) (act : State → Arrived → Performed × State) (h2 : ∀ b0 b1, Keeps b0 (act b0 b1).2) : Keeps s (State.once s a act) := by
  unfold State.once
  repeat' first
    | with_reducible exact Keeps.refl _
    | (with_reducible apply Keeps.trans ?_ (State.bump_keeps ..))
    | (with_reducible apply Keeps.trans ?_ (State.cachedReply_keeps ..))
    | (with_reducible apply Keeps.trans ?_ (State.fabReply_keeps ..))
    | (with_reducible apply Keeps.trans ?_ (State.fabSeen_keeps ..))
    | (with_reducible apply Keeps.trans ?_ (State.setFab_keeps ..))
    | (with_reducible apply Keeps.trans ?_ (State.sramWrote_keeps ..))
    | (with_reducible apply Keeps.trans ?_ (h2 ..))
    | dsimp only
    | split

theorem State.performOnce_keeps (s : State) (node vc : Nat) (want : FabRecord → Bool) (act : State → Arrived → Performed × State) (h4 : ∀ (x0 : State) (x1 : Arrived), Keeps x0 (act x0 x1).2) : Keeps s (State.performOnce s node vc want act) := by
  unfold State.performOnce
  repeat' first
    | with_reducible exact Keeps.refl _
    | with_reducible assumption
    | (with_reducible apply Keeps.trans ?_ (State.once_keeps (h2 := ?_) ..))
    | (with_reducible apply Keeps.trans ?_ (State.takeRequest_keeps _ _ _ _ _ _ ?_); rotate_right; (with_reducible assumption))
    | split

theorem execFabricLoad_keeps (node vc : Nat) (s : State) : KeepsRes s (execFabricLoad node vc s) := by
  unfold execFabricLoad
  repeat' first
    | with_reducible exact Keeps.refl _
    | (with_reducible apply Keeps.trans ?_ (State.doLoad_keeps ..))
    | (with_reducible apply Keeps.trans ?_ (State.fabReply_keeps ..))
    | (with_reducible apply Keeps.trans ?_ (State.fabSeen_keeps ..))
    | (with_reducible apply Keeps.trans ?_ (State.takeRequest_keeps _ _ _ _ _ _ ?_); rotate_right; (with_reducible assumption))
    | with_reducible apply KeepsRes.next
    | dsimp only
    | split

theorem execFabricStore_keeps (node vc : Nat) (s : State) : KeepsRes s (execFabricStore node vc s) := by
  unfold execFabricStore
  repeat' first
    | with_reducible exact Keeps.refl _
    | (with_reducible apply Keeps.trans ?_ (State.doStore_keeps ..))
    | (with_reducible apply Keeps.trans ?_ (State.performOnce_keeps (h4 := ?_) ..))
    | with_reducible apply KeepsRes.next
    | intro _

theorem State.atomicRow_keeps (s : State) (node vc aop : Nat) (f : Nat → Nat → Nat → Nat → Option Nat) : Keeps s (State.atomicRow s node vc aop f) := by
  unfold State.atomicRow
  repeat' first
    | with_reducible exact Keeps.refl _
    | (with_reducible apply Keeps.trans ?_ (State.doAtomic_keeps ..))
    | (with_reducible apply Keeps.trans ?_ (State.performOnce_keeps (h4 := ?_) ..))
    | intro _

theorem execFabricAtomicAdd_keeps (node vc : Nat) (s : State) : KeepsRes s (execFabricAtomicAdd node vc s) := by
  unfold execFabricAtomicAdd
  repeat' first
    | with_reducible exact Keeps.refl _
    | (with_reducible apply Keeps.trans ?_ (State.atomicRow_keeps ..))
    | with_reducible apply KeepsRes.next

theorem execFabricAtomicMin_keeps (node vc : Nat) (s : State) : KeepsRes s (execFabricAtomicMin node vc s) := by
  unfold execFabricAtomicMin
  repeat' first
    | with_reducible exact Keeps.refl _
    | (with_reducible apply Keeps.trans ?_ (State.atomicRow_keeps ..))
    | with_reducible apply KeepsRes.next

theorem execFabricAtomicMax_keeps (node vc : Nat) (s : State) : KeepsRes s (execFabricAtomicMax node vc s) := by
  unfold execFabricAtomicMax
  repeat' first
    | with_reducible exact Keeps.refl _
    | (with_reducible apply Keeps.trans ?_ (State.atomicRow_keeps ..))
    | with_reducible apply KeepsRes.next

theorem execFabricAtomicCas_keeps (node vc : Nat) (s : State) : KeepsRes s (execFabricAtomicCas node vc s) := by
  unfold execFabricAtomicCas
  repeat' first
    | with_reducible exact Keeps.refl _
    | (with_reducible apply Keeps.trans ?_ (State.atomicRow_keeps ..))
    | with_reducible apply KeepsRes.next

theorem execFabricPutChunk_keeps (node vc : Nat) (s : State) : KeepsRes s (execFabricPutChunk node vc s) := by
  unfold execFabricPutChunk
  repeat' first
    | with_reducible exact Keeps.refl _
    | (with_reducible apply Keeps.trans ?_ (State.doPut_keeps ..))
    | (with_reducible apply Keeps.trans ?_ (State.performOnce_keeps (h4 := ?_) ..))
    | with_reducible apply KeepsRes.next
    | intro _

theorem execFabricResolve_keeps (node vc : Nat) (s : State) : KeepsRes s (execFabricResolve node vc s) := by
  unfold execFabricResolve
  repeat' first
    | with_reducible exact Keeps.refl _
    | (with_reducible apply Keeps.trans ?_ (State.fabReply_keeps ..))
    | (with_reducible apply Keeps.trans ?_ (State.takeRequest_keeps _ _ _ _ _ _ ?_); rotate_right; (with_reducible assumption))
    | with_reducible apply KeepsRes.next
    | split

theorem execTombstoneExpiry_keeps (node epoch fseq : Nat) (s : State) : KeepsRes s (execTombstoneExpiry node epoch fseq s) := by
  unfold execTombstoneExpiry
  repeat' first
    | with_reducible exact Keeps.refl _
    | (with_reducible apply Keeps.trans ?_ (State.setFab_keeps ..))
    | with_reducible apply KeepsRes.next

/-! ### FabricThread -/

theorem State.waitReply_keeps (s : State) (f t : Nat) : Keeps s (State.waitReply s f t) := by
  unfold State.waitReply
  repeat' first
    | with_reducible exact Keeps.refl _
    | (with_reducible apply Keeps.trans ?_ (State.switchOut_keeps ..))

theorem State.denied_keeps (s : State) (c : Nat) : Keeps s (State.denied s c) := by
  unfold State.denied
  repeat' first
    | with_reducible exact Keeps.refl _
    | (with_reducible apply Keeps.trans ?_ (State.bump_keeps ..))

theorem execFld_keeps (facet thread : Nat) (s : State) : KeepsRes s (execFld facet thread s) := by
  unfold execFld
  repeat' first
    | with_reducible exact Keeps.refl _
    | (with_reducible apply Keeps.trans ?_ (State.arrive_keeps ..))
    | (with_reducible apply Keeps.trans ?_ (State.bump_keeps ..))
    | (with_reducible apply Keeps.trans ?_ (State.denied_keeps ..))
    | (with_reducible apply Keeps.trans ?_ (State.fabIssue_keeps ..))
    | (with_reducible apply Keeps.trans ?_ (State.insn_keeps (h4 := ?_) ..))
    | (with_reducible apply Keeps.trans ?_ (State.loadEnded_keeps ..))
    | (with_reducible apply Keeps.trans ?_ (State.switchOut_keeps ..))
    | (with_reducible apply Keeps.trans ?_ (State.waitReply_keeps ..))
    | with_reducible apply KeepsRes.next
    | intro _
    | dsimp only
    | split

theorem State.postFailed_keeps (s : State) (f t : Nat) (addr kind : Nat) (st : Status) : Keeps s (State.postFailed s f t addr kind st) := by
  unfold State.postFailed
  repeat' first
    | with_reducible exact Keeps.refl _
    | (with_reducible apply Keeps.trans ?_ (State.noteFailure_keeps ..))
    | (with_reducible apply Keeps.trans ?_ (State.remoteEnded_keeps ..))
    | (with_reducible apply Keeps.trans ?_ (State.setFab_keeps ..))
    | (with_reducible apply Keeps.trans ?_ (State.setThread_keeps ..))
    | dsimp only
    | split

theorem State.posting_keeps (s : State) (f t : Nat) (store : Bool) : Keeps s (State.posting s f t store) := by
  unfold State.posting
  repeat' first
    | with_reducible exact Keeps.refl _
    | (with_reducible apply Keeps.trans ?_ (State.setThread_keeps ..))
    | dsimp only
    | split

theorem execFst_keeps (facet : Nat) (thread : Nat) (s : State) : KeepsRes s (execFst facet thread s) := by
  unfold execFst
  repeat' first
    | with_reducible exact Keeps.refl _
    | (with_reducible apply Keeps.trans ?_ (State.denied_keeps ..))
    | (with_reducible apply Keeps.trans ?_ (State.fabIssue_keeps ..))
    | (with_reducible apply Keeps.trans ?_ (State.finvRange_keeps ..))
    | (with_reducible apply Keeps.trans ?_ (State.goto_keeps ..))
    | (with_reducible apply Keeps.trans ?_ (State.onInsn_keeps (h4 := ?_) ..))
    | (with_reducible apply Keeps.trans ?_ (State.postFailed_keeps ..))
    | (with_reducible apply Keeps.trans ?_ (State.posting_keeps ..))
    | (with_reducible apply Keeps.trans ?_ (State.store_keeps ..))
    | (with_reducible apply Keeps.trans ?_ (State.switchOut_keeps ..))
    | (with_reducible apply Keeps.trans ?_ (State.took_keeps ..))
    | (with_reducible apply Keeps.trans ?_ (State.store_keeps _ _ _ _ (fun h => absurd h (by decide))))
    | with_reducible apply KeepsRes.next
    | with_reducible exact KeepsRes.fault _ _
    | with_reducible exact KeepsRes.refused _ _
    | with_reducible apply Keeps.ite_snd
    | with_reducible apply Keeps.ite
    | intro _
    | dsimp only
    | split

theorem State.fatom_keeps (s : State) (f : Nat) (t : Nat) (aop : Nat) : Keeps s (State.fatom s f t aop) := by
  unfold State.fatom
  repeat' first
    | with_reducible exact Keeps.refl _
    | (with_reducible apply Keeps.trans ?_ (State.arrive_keeps ..))
    | (with_reducible apply Keeps.trans ?_ (State.denied_keeps ..))
    | (with_reducible apply Keeps.trans ?_ (State.fabIssue_keeps ..))
    | (with_reducible apply Keeps.trans ?_ (State.finvRange_keeps ..))
    | (with_reducible apply Keeps.trans ?_ (State.goto_keeps ..))
    | (with_reducible apply Keeps.trans ?_ (State.onInsn_keeps (h4 := ?_) ..))
    | (with_reducible apply Keeps.trans ?_ (State.postFailed_keeps ..))
    | (with_reducible apply Keeps.trans ?_ (State.posting_keeps ..))
    | (with_reducible apply Keeps.trans ?_ (State.sset_keeps ..))
    | (with_reducible apply Keeps.trans ?_ (State.switchOut_keeps ..))
    | (with_reducible apply Keeps.trans ?_ (State.took_keeps ..))
    | (with_reducible apply Keeps.trans ?_ (State.waitReply_keeps ..))
    | with_reducible apply Keeps.ite_snd
    | with_reducible apply Keeps.ite
    | intro _
    | dsimp only
    | split

theorem execFatomAdd_keeps (facet thread : Nat) (s : State) : KeepsRes s (execFatomAdd facet thread s) := by
  unfold execFatomAdd
  repeat' first
    | with_reducible exact Keeps.refl _
    | (with_reducible apply Keeps.trans ?_ (State.fatom_keeps ..))
    | with_reducible apply KeepsRes.next

theorem execFatomMin_keeps (facet thread : Nat) (s : State) : KeepsRes s (execFatomMin facet thread s) := by
  unfold execFatomMin
  repeat' first
    | with_reducible exact Keeps.refl _
    | (with_reducible apply Keeps.trans ?_ (State.fatom_keeps ..))
    | with_reducible apply KeepsRes.next

theorem execFatomMax_keeps (facet thread : Nat) (s : State) : KeepsRes s (execFatomMax facet thread s) := by
  unfold execFatomMax
  repeat' first
    | with_reducible exact Keeps.refl _
    | (with_reducible apply Keeps.trans ?_ (State.fatom_keeps ..))
    | with_reducible apply KeepsRes.next

theorem execFatomCas_keeps (facet thread : Nat) (s : State) : KeepsRes s (execFatomCas facet thread s) := by
  unfold execFatomCas
  repeat' first
    | with_reducible exact Keeps.refl _
    | (with_reducible apply Keeps.trans ?_ (State.fatom_keeps ..))
    | with_reducible apply KeepsRes.next

theorem execFfence_keeps (facet thread : Nat) (s : State) : KeepsRes s (execFfence facet thread s) := by
  unfold execFfence
  repeat' first
    | with_reducible exact Keeps.refl _
    | (with_reducible apply Keeps.trans ?_ (State.arrive_keeps ..))
    | (with_reducible apply Keeps.trans ?_ (State.insn_keeps (h4 := ?_) ..))
    | (with_reducible apply Keeps.trans ?_ (State.sset_keeps ..))
    | (with_reducible apply Keeps.trans ?_ (State.switchOut_keeps ..))
    | with_reducible apply KeepsRes.next
    | intro _
    | dsimp only
    | split

theorem execFinv_keeps (facet thread : Nat) (s : State) : KeepsRes s (execFinv facet thread s) := by
  unfold execFinv
  repeat' first
    | with_reducible exact Keeps.refl _
    | (with_reducible apply Keeps.trans ?_ (State.finvRange_keeps ..))
    | (with_reducible apply Keeps.trans ?_ (State.insn_keeps (h4 := ?_) ..))
    | with_reducible apply KeepsRes.next
    | intro _

/-! ### RouterBack -/

theorem State.markSent_keeps (s : State) (n : Nat) (it : Item) (t : Nat) (a4 : List (Nat × Nat)) : Keeps s (State.markSent s n it t a4).2 := by
  fun_induction State.markSent s n it t a4 <;> try dsimp only
  all_goals
    repeat' first
      | with_reducible exact Keeps.refl _
      | with_reducible assumption
      | (with_reducible apply Keeps.trans ?_ (State.sWrite_keeps ..))
      | (with_reducible apply Keeps.trans ?_ ?_; rotate_right; (with_reducible assumption))

theorem State.sentAgain_keeps (s : State) (n : Nat) (it : Item) (a3 : List Nat) : Keeps s (State.sentAgain s n it a3).2 := by
  induction a3 generalizing s with
  | nil => exact Keeps.refl _
  | cons t ts ih =>
    unfold State.sentAgain
    dsimp only
    refine Keeps.trans ?_ (ih _)
    split
    · exact State.rRead_keeps ..
    · exact (State.rRead_keeps ..).trans (State.markSent_keeps ..)

theorem State.gradRecords_keeps (s : State) (n : Nat) (it : Item) (tag : Nat) (a4 : List (Nat × List (Nat × Nat))) : Keeps s (State.gradRecords s n it tag a4).2 := by
  fun_induction State.gradRecords s n it tag a4 <;> try dsimp only
  all_goals
    repeat' first
      | with_reducible exact Keeps.refl _
      | (with_reducible apply Keeps.trans ?_ (Keeps.of_pair (State.readPayload_keeps ..) ?_); rotate_right; (with_reducible assumption))
      | (with_reducible apply Keeps.trans ?_ ?_; rotate_right; (with_reducible assumption))

theorem State.runBwdRoute_keeps (s : State) (n : Nat) (it : Item) (w : Nat) (a4 : List Placement) : Keeps s (State.runBwdRoute s n it w a4) := by
  unfold State.runBwdRoute
  repeat' first
    | with_reducible exact Keeps.refl _
    | (with_reducible apply Keeps.trans ?_ (Keeps.of_pair (State.acquireBufs_keeps ..) ?_); rotate_right; (with_reducible assumption))
    | (with_reducible apply Keeps.trans ?_ (State.gradRecords_keeps ..))
    | (with_reducible apply Keeps.trans ?_ (State.meet_keeps ..))
    | (with_reducible apply Keeps.trans ?_ (State.sentAgain_keeps ..))
    | (with_reducible apply Keeps.trans ?_ (State.stageRecords_keeps ..))
    | dsimp only
    | split

theorem execBwdRoute_keeps (item : Nat) (s : State) : KeepsRes s (execBwdRoute item s) := by
  unfold execBwdRoute
  repeat' first
    | with_reducible exact Keeps.refl _
    | (with_reducible apply Keeps.trans ?_ (State.routerOp_keeps (h3 := ?_) ..))
    | (with_reducible apply Keeps.trans ?_ (State.runBwdRoute_keeps ..))
    | with_reducible apply KeepsRes.next
    | intro _

theorem State.putGrad_keeps (s : State) (n : Nat) (it : Item) (entry r : Nat) (data scales : Bytes) (weight : Nat) : Keeps s (State.putGrad s n it entry r data scales weight) := by
  unfold State.putGrad
  repeat' first
    | with_reducible exact Keeps.refl _
    | (with_reducible apply Keeps.trans ?_ (State.sWrite_keeps ..))
    | split

theorem State.putZero_keeps (s : State) (n : Nat) (it : Item) (entry r : Nat) : Keeps s (State.putZero s n it entry r) := by
  unfold State.putZero
  repeat' first
    | with_reducible exact Keeps.refl _
    | (with_reducible apply Keeps.trans ?_ (State.putGrad_keeps ..))

theorem State.backRow_keeps (s : State) (n : Nat) (it : Item) (w : Nat) (loc : Nat) (entry : Nat) (x : BackRows) (r : Nat) : Keeps s (State.backRow s n it w loc entry x r).2 := by
  unfold State.backRow
  all_goals try with_reducible apply Keeps.trans ?_ (Keeps.lit _)
  all_goals repeat' first
    | with_reducible exact Keeps.refl _
    | with_reducible exact Keeps.lit _
    | (with_reducible apply Keeps.trans ?_ (State.bump_keeps ..))
    | (with_reducible apply Keeps.trans ?_ (State.meet_keeps ..))
    | (with_reducible apply Keeps.trans ?_ (State.putGrad_keeps ..))
    | (with_reducible apply Keeps.trans ?_ (State.putZero_keeps ..))
    | (with_reducible apply Keeps.trans ?_ (State.rNum_keeps ..))
    | (with_reducible apply Keeps.trans ?_ (Keeps.of_pair (State.rNum_keeps ..) ?_); rotate_right; (with_reducible assumption))
    | (with_reducible apply Keeps.trans ?_ (State.ringRead_keeps ..))
    | (with_reducible apply Keeps.trans ?_ (Keeps.of_pair (State.ringRead_keeps ..) ?_); rotate_right; (with_reducible assumption))
    | dsimp only
    | split
  all_goals try with_reducible apply Keeps.trans ?_ (Keeps.lit _)
  all_goals repeat' first
    | with_reducible exact Keeps.refl _
    | with_reducible exact Keeps.lit _
    | (with_reducible apply Keeps.trans ?_ (State.bump_keeps ..))
    | (with_reducible apply Keeps.trans ?_ (State.meet_keeps ..))
    | (with_reducible apply Keeps.trans ?_ (State.putGrad_keeps ..))
    | (with_reducible apply Keeps.trans ?_ (State.putZero_keeps ..))
    | (with_reducible apply Keeps.trans ?_ (State.rNum_keeps ..))
    | (with_reducible apply Keeps.trans ?_ (Keeps.of_pair (State.rNum_keeps ..) ?_); rotate_right; (with_reducible assumption))
    | (with_reducible apply Keeps.trans ?_ (State.ringRead_keeps ..))
    | (with_reducible apply Keeps.trans ?_ (Keeps.of_pair (State.ringRead_keeps ..) ?_); rotate_right; (with_reducible assumption))
    | dsimp only
    | split

theorem State.backRowsFrom_keeps (s : State) (n : Nat) (it : Item) (w loc entry : Nat) (x : BackRows) (a7 : List Nat) : Keeps s (State.backRowsFrom s n it w loc entry x a7).2 := by
  fun_induction State.backRowsFrom s n it w loc entry x a7 <;> try dsimp only
  all_goals
    repeat' first
      | with_reducible exact Keeps.refl _
      | (with_reducible apply Keeps.trans ?_ (Keeps.of_pair (State.backRow_keeps ..) ?_); rotate_right; (with_reducible assumption))
      | (with_reducible apply Keeps.trans ?_ ?_; rotate_right; (with_reducible assumption))

theorem State.backOne_keeps (s : State) (n : Nat) (it : Item) (w : Nat) (e : Nat × Nat) : Keeps s (State.backOne s n it w e).2 := by
  unfold State.backOne
  repeat' first
    | with_reducible exact Keeps.refl _
    | (with_reducible apply Keeps.trans ?_ (State.backRowsFrom_keeps ..))
    | (with_reducible apply Keeps.trans ?_ (State.bump_keeps ..))
    | (with_reducible apply Keeps.trans ?_ (State.closeQueue_keeps ..))
    | (with_reducible apply Keeps.trans ?_ (State.meet_keeps ..))
    | (with_reducible apply Keeps.trans ?_ (State.rNum_keeps ..))
    | (with_reducible apply Keeps.trans ?_ (State.setRows_keeps ..))
    | (with_reducible apply Keeps.trans ?_ (State.writeCounts_keeps ..))
    | split

theorem State.runBwdConsume_keeps (s : State) (n : Nat) (it : Item) (w : Nat) (a4 : List Placement) : Keeps s (State.runBwdConsume s n it w a4) := by
  unfold State.runBwdConsume
  repeat' first
    | with_reducible exact Keeps.refl _
    | (with_reducible apply Keeps.trans ?_ (State.backOne_keeps ..))
    | (with_reducible apply Keeps.trans ?_ (State.consumeAll_keeps (h1 := ?_) ..))
    | (with_reducible apply Keeps.trans ?_ (State.finish_keeps ..))
    | (with_reducible apply Keeps.trans ?_ (State.hostTable_keeps ..))
    | (with_reducible apply Keeps.trans ?_ (State.meet_keeps ..))
    | (with_reducible apply Keeps.trans ?_ (State.meetWindow_keeps ..))
    | intro _
    | split

theorem execBwdConsume_keeps (item : Nat) (s : State) : KeepsRes s (execBwdConsume item s) := by
  unfold execBwdConsume
  repeat' first
    | with_reducible exact Keeps.refl _
    | (with_reducible apply Keeps.trans ?_ (State.routerOp_keeps (h3 := ?_) ..))
    | (with_reducible apply Keeps.trans ?_ (State.runBwdConsume_keeps ..))
    | with_reducible apply KeepsRes.next
    | intro _

theorem State.backReturns_keeps (s : State) (n : Nat) (it : Item) (tag entry : Nat) (a5 : List Nat) : Keeps s (State.backReturns s n it tag entry a5).2 := by
  fun_induction State.backReturns s n it tag entry a5 <;> try dsimp only
  all_goals
    repeat' first
      | with_reducible exact Keeps.refl _
      | (with_reducible apply Keeps.trans ?_ (Keeps.of_pair (State.rNum_keeps ..) ?_); rotate_right; (with_reducible assumption))
      | (with_reducible apply Keeps.trans ?_ (Keeps.of_pair (State.readPayload_keeps ..) ?_); rotate_right; (with_reducible assumption))
      | (with_reducible apply Keeps.trans ?_ ?_; rotate_right; (with_reducible assumption))

theorem State.runBwdReturn_keeps (s : State) (n : Nat) (it : Item) (w : Nat) (a4 : List Placement) : Keeps s (State.runBwdReturn s n it w a4) := by
  unfold State.runBwdReturn
  repeat' first
    | with_reducible exact Keeps.refl _
    | (with_reducible apply Keeps.trans ?_ (State.backReturns_keeps ..))
    | (with_reducible apply Keeps.trans ?_ (State.hostTable_keeps ..))
    | (with_reducible apply Keeps.trans ?_ (State.returnAll_keeps (h1 := ?_) ..))
    | (with_reducible apply Keeps.trans ?_ (State.stageRecords_keeps ..))
    | intro _

theorem execBwdReturn_keeps (item : Nat) (s : State) : KeepsRes s (execBwdReturn item s) := by
  unfold execBwdReturn
  repeat' first
    | with_reducible exact Keeps.refl _
    | (with_reducible apply Keeps.trans ?_ (State.routerOp_keeps (h3 := ?_) ..))
    | (with_reducible apply Keeps.trans ?_ (State.runBwdReturn_keeps ..))
    | with_reducible apply KeepsRes.next
    | intro _

theorem execBwdCombine_keeps (item : Nat) (s : State) : KeepsRes s (execBwdCombine item s) := by
  unfold execBwdCombine
  repeat' first
    | with_reducible exact Keeps.refl _
    | (with_reducible apply Keeps.trans ?_ (State.routerOp_keeps (h3 := ?_) ..))
    | (with_reducible apply Keeps.trans ?_ (State.runCombine_keeps ..))
    | with_reducible apply KeepsRes.next
    | intro _

/-! ### Vector -/

theorem State.lane1_keeps (s : State) (f t : Nat) (op issue : Nat) (g : Nat → Nat) : Keeps s (State.lane1 s f t op issue g) := by
  unfold State.lane1
  repeat' first
    | with_reducible exact Keeps.refl _
    | (with_reducible apply Keeps.trans ?_ (State.setProg_keeps ..))
    | (with_reducible apply Keeps.trans ?_ (State.vinsn_keeps (h5 := ?_) ..))
    | intro _

theorem State.lane2_keeps (s : State) (f t : Nat) (op issue : Nat) (g : Nat → Nat → Nat) : Keeps s (State.lane2 s f t op issue g) := by
  unfold State.lane2
  repeat' first
    | with_reducible exact Keeps.refl _
    | (with_reducible apply Keeps.trans ?_ (State.setProg_keeps ..))
    | (with_reducible apply Keeps.trans ?_ (State.vinsn_keeps (h5 := ?_) ..))
    | intro _

theorem State.laneCmp_keeps (s : State) (f t op : Nat) (g : Nat → Nat → Bool) : Keeps s (State.laneCmp s f t op g) := by
  unfold State.laneCmp
  repeat' first
    | with_reducible exact Keeps.refl _
    | (with_reducible apply Keeps.trans ?_ (State.setProg_keeps ..))
    | (with_reducible apply Keeps.trans ?_ (State.vinsn_keeps (h5 := ?_) ..))
    | intro _

theorem execVadd_keeps (facet thread : Nat) (s : State) : KeepsRes s (execVadd facet thread s) := by
  unfold execVadd
  repeat' first
    | with_reducible exact Keeps.refl _
    | (with_reducible apply Keeps.trans ?_ (State.lane2_keeps ..))
    | with_reducible apply KeepsRes.next

theorem execVsub_keeps (facet thread : Nat) (s : State) : KeepsRes s (execVsub facet thread s) := by
  unfold execVsub
  repeat' first
    | with_reducible exact Keeps.refl _
    | (with_reducible apply Keeps.trans ?_ (State.lane2_keeps ..))
    | with_reducible apply KeepsRes.next

theorem execVmul_keeps (facet thread : Nat) (s : State) : KeepsRes s (execVmul facet thread s) := by
  unfold execVmul
  repeat' first
    | with_reducible exact Keeps.refl _
    | (with_reducible apply Keeps.trans ?_ (State.lane2_keeps ..))
    | with_reducible apply KeepsRes.next

theorem execVfma_keeps (facet thread : Nat) (s : State) : KeepsRes s (execVfma facet thread s) := by
  unfold execVfma
  repeat' first
    | with_reducible exact Keeps.refl _
    | (with_reducible apply Keeps.trans ?_ (State.setProg_keeps ..))
    | (with_reducible apply Keeps.trans ?_ (State.vinsn_keeps (h5 := ?_) ..))
    | with_reducible apply KeepsRes.next
    | intro _

theorem execVmax_keeps (facet thread : Nat) (s : State) : KeepsRes s (execVmax facet thread s) := by
  unfold execVmax
  repeat' first
    | with_reducible exact Keeps.refl _
    | (with_reducible apply Keeps.trans ?_ (State.lane2_keeps ..))
    | with_reducible apply KeepsRes.next

theorem execVmin_keeps (facet thread : Nat) (s : State) : KeepsRes s (execVmin facet thread s) := by
  unfold execVmin
  repeat' first
    | with_reducible exact Keeps.refl _
    | (with_reducible apply Keeps.trans ?_ (State.lane2_keeps ..))
    | with_reducible apply KeepsRes.next

theorem execVdiv_keeps (facet thread : Nat) (s : State) : KeepsRes s (execVdiv facet thread s) := by
  unfold execVdiv
  repeat' first
    | with_reducible exact Keeps.refl _
    | (with_reducible apply Keeps.trans ?_ (State.lane2_keeps ..))
    | with_reducible apply KeepsRes.next

theorem execVsqrt_keeps (facet thread : Nat) (s : State) : KeepsRes s (execVsqrt facet thread s) := by
  unfold execVsqrt
  repeat' first
    | with_reducible exact Keeps.refl _
    | (with_reducible apply Keeps.trans ?_ (State.lane1_keeps ..))
    | with_reducible apply KeepsRes.next

theorem execVrcp_keeps (facet thread : Nat) (s : State) : KeepsRes s (execVrcp facet thread s) := by
  unfold execVrcp
  repeat' first
    | with_reducible exact Keeps.refl _
    | (with_reducible apply Keeps.trans ?_ (State.lane1_keeps ..))
    | with_reducible apply KeepsRes.next

theorem execVrsqrt_keeps (facet thread : Nat) (s : State) : KeepsRes s (execVrsqrt facet thread s) := by
  unfold execVrsqrt
  repeat' first
    | with_reducible exact Keeps.refl _
    | (with_reducible apply Keeps.trans ?_ (State.lane1_keeps ..))
    | with_reducible apply KeepsRes.next

theorem execVexp_keeps (facet thread : Nat) (s : State) : KeepsRes s (execVexp facet thread s) := by
  unfold execVexp
  repeat' first
    | with_reducible exact Keeps.refl _
    | (with_reducible apply Keeps.trans ?_ (State.lane1_keeps ..))
    | with_reducible apply KeepsRes.next

theorem execVlog_keeps (facet thread : Nat) (s : State) : KeepsRes s (execVlog facet thread s) := by
  unfold execVlog
  repeat' first
    | with_reducible exact Keeps.refl _
    | (with_reducible apply Keeps.trans ?_ (State.lane1_keeps ..))
    | with_reducible apply KeepsRes.next

theorem execVtanh_keeps (facet thread : Nat) (s : State) : KeepsRes s (execVtanh facet thread s) := by
  unfold execVtanh
  repeat' first
    | with_reducible exact Keeps.refl _
    | (with_reducible apply Keeps.trans ?_ (State.lane1_keeps ..))
    | with_reducible apply KeepsRes.next

theorem execVabs_keeps (facet thread : Nat) (s : State) : KeepsRes s (execVabs facet thread s) := by
  unfold execVabs
  repeat' first
    | with_reducible exact Keeps.refl _
    | (with_reducible apply Keeps.trans ?_ (State.lane1_keeps ..))
    | with_reducible apply KeepsRes.next

theorem execVneg_keeps (facet thread : Nat) (s : State) : KeepsRes s (execVneg facet thread s) := by
  unfold execVneg
  repeat' first
    | with_reducible exact Keeps.refl _
    | (with_reducible apply Keeps.trans ?_ (State.lane1_keeps ..))
    | with_reducible apply KeepsRes.next

theorem execVsel_keeps (facet thread : Nat) (s : State) : KeepsRes s (execVsel facet thread s) := by
  unfold execVsel
  repeat' first
    | with_reducible exact Keeps.refl _
    | (with_reducible apply Keeps.trans ?_ (State.setProg_keeps ..))
    | (with_reducible apply Keeps.trans ?_ (State.vinsn_keeps (h5 := ?_) ..))
    | with_reducible apply KeepsRes.next
    | intro _

theorem execVcmplt_keeps (facet thread : Nat) (s : State) : KeepsRes s (execVcmplt facet thread s) := by
  unfold execVcmplt
  repeat' first
    | with_reducible exact Keeps.refl _
    | (with_reducible apply Keeps.trans ?_ (State.laneCmp_keeps ..))
    | with_reducible apply KeepsRes.next

theorem execVcmpeq_keeps (facet thread : Nat) (s : State) : KeepsRes s (execVcmpeq facet thread s) := by
  unfold execVcmpeq
  repeat' first
    | with_reducible exact Keeps.refl _
    | (with_reducible apply Keeps.trans ?_ (State.laneCmp_keeps ..))
    | with_reducible apply KeepsRes.next

theorem execVisnan_keeps (facet thread : Nat) (s : State) : KeepsRes s (execVisnan facet thread s) := by
  unfold execVisnan
  repeat' first
    | with_reducible exact Keeps.refl _
    | (with_reducible apply Keeps.trans ?_ (State.laneCmp_keeps ..))
    | with_reducible apply KeepsRes.next

theorem execViadd_keeps (facet thread : Nat) (s : State) : KeepsRes s (execViadd facet thread s) := by
  unfold execViadd
  repeat' first
    | with_reducible exact Keeps.refl _
    | (with_reducible apply Keeps.trans ?_ (State.lane2_keeps ..))
    | with_reducible apply KeepsRes.next

theorem execVcvti_keeps (facet thread : Nat) (s : State) : KeepsRes s (execVcvti facet thread s) := by
  unfold execVcvti
  repeat' first
    | with_reducible exact Keeps.refl _
    | (with_reducible apply Keeps.trans ?_ (State.lane1_keeps ..))
    | with_reducible apply KeepsRes.next

theorem execVcvtf_keeps (facet thread : Nat) (s : State) : KeepsRes s (execVcvtf facet thread s) := by
  unfold execVcvtf
  repeat' first
    | with_reducible exact Keeps.refl _
    | (with_reducible apply Keeps.trans ?_ (State.lane1_keeps ..))
    | with_reducible apply KeepsRes.next

theorem execViota_keeps (facet thread : Nat) (s : State) : KeepsRes s (execViota facet thread s) := by
  unfold execViota
  repeat' first
    | with_reducible exact Keeps.refl _
    | (with_reducible apply Keeps.trans ?_ (State.setProg_keeps ..))
    | (with_reducible apply Keeps.trans ?_ (State.vinsn_keeps (h5 := ?_) ..))
    | with_reducible apply KeepsRes.next
    | intro _

theorem execVbcast_keeps (facet thread : Nat) (s : State) : KeepsRes s (execVbcast facet thread s) := by
  unfold execVbcast
  repeat' first
    | with_reducible exact Keeps.refl _
    | (with_reducible apply Keeps.trans ?_ (State.setProg_keeps ..))
    | (with_reducible apply Keeps.trans ?_ (State.vinsn_keeps (h5 := ?_) ..))
    | with_reducible apply KeepsRes.next
    | intro _

theorem execVextr_keeps (facet : Nat) (thread : Nat) (s : State) : KeepsRes s (execVextr facet thread s) := by
  unfold execVextr
  repeat' first
    | with_reducible exact Keeps.refl _
    | (with_reducible apply Keeps.trans ?_ (State.sset_keeps ..))
    | (with_reducible apply Keeps.trans ?_ (State.vinsn_keeps (h5 := ?_) ..))
    | with_reducible apply KeepsRes.next
    | with_reducible exact KeepsRes.fault _ _
    | with_reducible exact KeepsRes.refused _ _
    | intro _
    | dsimp only
    | split

theorem execVcadd_keeps (facet thread : Nat) (s : State) : KeepsRes s (execVcadd facet thread s) := by
  unfold execVcadd
  repeat' first
    | with_reducible exact Keeps.refl _
    | (with_reducible apply Keeps.trans ?_ (State.setProg_keeps ..))
    | (with_reducible apply Keeps.trans ?_ (State.vinsn_keeps (h5 := ?_) ..))
    | with_reducible apply KeepsRes.next
    | intro _

theorem State.reduceTo_keeps (s : State) (f t : Nat) (op issue : Nat) (g : Program → Nat → Nat → Nat × Nat) : Keeps s (State.reduceTo s f t op issue g) := by
  unfold State.reduceTo
  repeat' first
    | with_reducible exact Keeps.refl _
    | (with_reducible apply Keeps.trans ?_ (State.sset_keeps ..))
    | (with_reducible apply Keeps.trans ?_ (State.vinsn_keeps (h5 := ?_) ..))
    | intro _

theorem execVcred_keeps (facet thread : Nat) (s : State) : KeepsRes s (execVcred facet thread s) := by
  unfold execVcred
  repeat' first
    | with_reducible exact Keeps.refl _
    | (with_reducible apply Keeps.trans ?_ (State.reduceTo_keeps ..))
    | with_reducible apply KeepsRes.next

theorem execVdadd_keeps (facet thread : Nat) (s : State) : KeepsRes s (execVdadd facet thread s) := by
  unfold execVdadd
  repeat' first
    | with_reducible exact Keeps.refl _
    | (with_reducible apply Keeps.trans ?_ (State.setProg_keeps ..))
    | (with_reducible apply Keeps.trans ?_ (State.vinsn_keeps (h5 := ?_) ..))
    | with_reducible apply KeepsRes.next
    | intro _

theorem execVdred_keeps (facet thread : Nat) (s : State) : KeepsRes s (execVdred facet thread s) := by
  unfold execVdred
  repeat' first
    | with_reducible exact Keeps.refl _
    | (with_reducible apply Keeps.trans ?_ (State.reduceTo_keeps ..))
    | with_reducible apply KeepsRes.next

theorem State.reduceExtreme_keeps (s : State) (f t op : Nat) (min_ : Bool) : Keeps s (State.reduceExtreme s f t op min_) := by
  unfold State.reduceExtreme
  repeat' first
    | with_reducible exact Keeps.refl _
    | (with_reducible apply Keeps.trans ?_ (State.sset_keeps ..))
    | (with_reducible apply Keeps.trans ?_ (State.vinsn_keeps (h5 := ?_) ..))
    | intro _

theorem execVrmax_keeps (facet thread : Nat) (s : State) : KeepsRes s (execVrmax facet thread s) := by
  unfold execVrmax
  repeat' first
    | with_reducible exact Keeps.refl _
    | (with_reducible apply Keeps.trans ?_ (State.reduceExtreme_keeps ..))
    | with_reducible apply KeepsRes.next

theorem execVrmin_keeps (facet thread : Nat) (s : State) : KeepsRes s (execVrmin facet thread s) := by
  unfold execVrmin
  repeat' first
    | with_reducible exact Keeps.refl _
    | (with_reducible apply Keeps.trans ?_ (State.reduceExtreme_keeps ..))
    | with_reducible apply KeepsRes.next

theorem execVrsum_keeps (facet thread : Nat) (s : State) : KeepsRes s (execVrsum facet thread s) := by
  unfold execVrsum
  repeat' first
    | with_reducible exact Keeps.refl _
    | (with_reducible apply Keeps.trans ?_ (State.reduceTo_keeps ..))
    | with_reducible apply KeepsRes.next

theorem State.loadLanes_keeps (s : State) (f t : Nat) (vd mask : Nat) (lanes : List Nat) (poison : Nat) : Keeps s (State.loadLanes s f t vd mask lanes poison) := by
  unfold State.loadLanes
  repeat' first
    | with_reducible exact Keeps.refl _
    | (with_reducible apply Keeps.trans ?_ (State.poisonItem_keeps ..))
    | (with_reducible apply Keeps.trans ?_ (State.setProg_keeps ..))
    | dsimp only
    | split
  all_goals try with_reducible apply Keeps.trans ?_ (Keeps.lit _)
  all_goals repeat' first
    | with_reducible exact Keeps.refl _
    | (with_reducible apply Keeps.trans ?_ (State.setProg_keeps ..))

theorem State.readRow_keeps (s : State) (f : Nat) (a : Nat) (bits : Nat) (m : Nat) : Keeps s (State.readRow s f a bits m).2 := by
  unfold State.readRow
  repeat' first
    | with_reducible exact Keeps.refl _
    | (with_reducible apply Keeps.trans ?_ (State.checkWords_keeps ..))
    | dsimp only
    | split

theorem execVld_keeps (facet : Nat) (thread : Nat) (s : State) : KeepsRes s (execVld facet thread s) := by
  unfold execVld
  repeat' first
    | with_reducible exact Keeps.refl _
    | (with_reducible apply Keeps.trans ?_ (State.bump_keeps ..))
    | (with_reducible apply Keeps.trans ?_ (State.insn_keeps (h4 := ?_) ..))
    | (with_reducible apply Keeps.trans ?_ (State.loadLanes_keeps ..))
    | (with_reducible apply Keeps.trans ?_ (State.readRow_keeps ..))
    | (with_reducible apply Keeps.trans ?_ (Keeps.of_pair (State.readRow_keeps ..) ?_); rotate_right; (with_reducible assumption))
    | (with_reducible apply Keeps.trans ?_ (State.stopProgram_keeps ..))
    | with_reducible apply KeepsRes.next
    | with_reducible exact KeepsRes.fault _ _
    | with_reducible exact KeepsRes.refused _ _
    | with_reducible apply Keeps.ite_snd
    | with_reducible apply Keeps.ite
    | intro _
    | dsimp only
    | split

theorem State.storeWords_keeps (s : State) (c f : Nat) (a3 : List (Nat × Nat)) : Keeps s (State.storeWords s c f a3) := by
  fun_induction State.storeWords s c f a3 <;> try dsimp only
  all_goals
    repeat' first
      | with_reducible exact Keeps.refl _
      | (with_reducible apply Keeps.trans ?_ (State.fmWrite_keeps ..))
      | (with_reducible apply Keeps.trans ?_ ?_; rotate_right; (with_reducible assumption))

theorem State.storeRow_keeps (s : State) (f t : Nat) (a mask : Nat) (x : VSrc) (int : Bool) : Keeps s (State.storeRow s f t a mask x int) := by
  unfold State.storeRow
  repeat' first
    | with_reducible exact Keeps.refl _
    | (with_reducible apply Keeps.trans ?_ (State.stopProgram_keeps ..))
    | (with_reducible apply Keeps.trans ?_ (State.storeWords_keeps ..))
    | dsimp only
    | split

theorem execVst_keeps (facet thread : Nat) (s : State) : KeepsRes s (execVst facet thread s) := by
  unfold execVst
  repeat' first
    | with_reducible exact Keeps.refl _
    | (with_reducible apply Keeps.trans ?_ (State.storeRow_keeps ..))
    | (with_reducible apply Keeps.trans ?_ (State.vinsn_keeps (h5 := ?_) ..))
    | with_reducible apply KeepsRes.next
    | intro _

theorem State.readWords_keeps (s : State) (f m a3 : Nat) (a4 : List Nat) : Keeps s (State.readWords s f m a3 a4).2 := by
  fun_induction State.readWords s f m a3 a4 <;> try dsimp only
  all_goals
    repeat' first
      | with_reducible exact Keeps.refl _
      | with_reducible assumption
      | (with_reducible apply Keeps.trans ?_ (State.fmRead_keeps ..))
      | (with_reducible apply Keeps.trans ?_ ?_; rotate_right; (with_reducible assumption))

theorem execVgather_keeps (facet : Nat) (thread : Nat) (s : State) : KeepsRes s (execVgather facet thread s) := by
  unfold execVgather
  repeat' first
    | with_reducible exact Keeps.refl _
    | (with_reducible apply Keeps.trans ?_ (State.loadLanes_keeps ..))
    | (with_reducible apply Keeps.trans ?_ (State.readWords_keeps ..))
    | (with_reducible apply Keeps.trans ?_ (Keeps.of_pair (State.readWords_keeps ..) ?_); rotate_right; (with_reducible assumption))
    | (with_reducible apply Keeps.trans ?_ (State.stopProgram_keeps ..))
    | (with_reducible apply Keeps.trans ?_ (State.vinsn_keeps (h5 := ?_) ..))
    | with_reducible apply KeepsRes.next
    | with_reducible exact KeepsRes.fault _ _
    | with_reducible exact KeepsRes.refused _ _
    | intro _
    | dsimp only
    | split

theorem execVscatter_keeps (facet thread : Nat) (s : State) : KeepsRes s (execVscatter facet thread s) := by
  unfold execVscatter
  repeat' first
    | with_reducible exact Keeps.refl _
    | (with_reducible apply Keeps.trans ?_ (State.stopProgram_keeps ..))
    | (with_reducible apply Keeps.trans ?_ (State.storeWords_keeps ..))
    | (with_reducible apply Keeps.trans ?_ (State.vinsn_keeps (h5 := ?_) ..))
    | with_reducible apply KeepsRes.next
    | intro _
    | dsimp only
    | split

theorem execVldm_keeps (facet thread : Nat) (s : State) : KeepsRes s (execVldm facet thread s) := by
  unfold execVldm
  repeat' first
    | with_reducible exact Keeps.refl _
    | (with_reducible apply Keeps.trans ?_ (State.fmRead_keeps ..))
    | (with_reducible apply Keeps.trans ?_ (State.poisonItem_keeps ..))
    | (with_reducible apply Keeps.trans ?_ (State.setProg_keeps ..))
    | (with_reducible apply Keeps.trans ?_ (State.stopProgram_keeps ..))
    | (with_reducible apply Keeps.trans ?_ (State.took_keeps ..))
    | (with_reducible apply Keeps.trans ?_ (State.vinsn_keeps (h5 := ?_) ..))
    | with_reducible apply KeepsRes.next
    | intro _
    | dsimp only
    | split

theorem execVdrop_keeps (facet thread : Nat) (s : State) : KeepsRes s (execVdrop facet thread s) := by
  unfold execVdrop
  repeat' first
    | with_reducible exact Keeps.refl _
    | (with_reducible apply Keeps.trans ?_ (State.setProg_keeps ..))
    | (with_reducible apply Keeps.trans ?_ (State.vinsn_keeps (h5 := ?_) ..))
    | with_reducible apply KeepsRes.next
    | intro _

/-! ### VectorStore -/

theorem execVscfg_keeps (facet thread : Nat) (s : State) : KeepsRes s (execVscfg facet thread s) := by
  unfold execVscfg
  repeat' first
    | with_reducible exact Keeps.refl _
    | (with_reducible apply Keeps.trans ?_ (State.setProg_keeps ..))
    | (with_reducible apply Keeps.trans ?_ (State.stopProgram_keeps ..))
    | (with_reducible apply Keeps.trans ?_ (State.vinsn_keeps (h5 := ?_) ..))
    | with_reducible apply KeepsRes.next
    | intro _
    | dsimp only
    | split

theorem State.stagedWords_keeps (s : State) (f : Nat) (b : Band) (r : Nat) (mask : Nat) : Keeps s (State.stagedWords s f b r mask) := by
  unfold State.stagedWords
  repeat' first
    | with_reducible exact Keeps.refl _
    | (with_reducible apply Keeps.trans ?_ (State.sramWrote_keeps ..))
    | (with_reducible apply Keeps.trans ?_ (Keeps.foldl _ _ _ ?_))
    | (with_reducible apply Keeps.trans ?_ (Keeps.foldl_pair _ _ _ ?_))
    | intro _
    | dsimp only
    | split

theorem State.stageRow_keeps (s : State) (f : Nat) (t : Nat) (th : Thread) (p : Program) (g : VCfg) (row : Nat) (k : Nat) (mask : Nat) (x : VSrc) : Keeps s (State.stageRow s f t th p g row k mask x) := by
  unfold State.stageRow
  repeat' first
    | with_reducible exact Keeps.refl _
    | (with_reducible apply Keeps.trans ?_ (State.commitBand_keeps ..))
    | (with_reducible apply Keeps.trans ?_ (State.row_keeps (h5 := ?_) ..))
    | (with_reducible apply Keeps.trans ?_ (State.setBands_keeps ..))
    | (with_reducible apply Keeps.trans ?_ (State.sramWrote_keeps ..))
    | (with_reducible apply Keeps.trans ?_ (State.stagedWords_keeps ..))
    | with_reducible apply Keeps.ite_snd
    | with_reducible apply Keeps.ite
    | intro _
    | dsimp only
    | split

theorem execVstn_keeps (facet thread : Nat) (s : State) : KeepsRes s (execVstn facet thread s) := by
  unfold execVstn
  repeat' first
    | with_reducible exact Keeps.refl _
    | (with_reducible apply Keeps.trans ?_ (State.stageRow_keeps ..))
    | (with_reducible apply Keeps.trans ?_ (State.stopProgram_keeps ..))
    | (with_reducible apply Keeps.trans ?_ (State.vinsn_keeps (h5 := ?_) ..))
    | with_reducible apply KeepsRes.next
    | intro _
    | dsimp only
    | split

theorem execVsflush_keeps (facet : Nat) (thread : Nat) (s : State) : KeepsRes s (execVsflush facet thread s) := by
  unfold execVsflush
  repeat' first
    | with_reducible exact Keeps.refl _
    | (with_reducible apply Keeps.trans ?_ (State.flushBands_keeps ..))
    | (with_reducible apply Keeps.trans ?_ (State.vinsn_keeps (h5 := ?_) ..))
    | with_reducible apply KeepsRes.next
    | with_reducible exact KeepsRes.fault _ _
    | with_reducible exact KeepsRes.refused _ _
    | intro _
    | dsimp only
    | split

theorem State.accNext_keeps (s : State) (f t : Nat) (p : Program) (w : Nat) : Keeps s (State.accNext s f t p w) := by
  unfold State.accNext
  repeat' first
    | with_reducible exact Keeps.refl _
    | (with_reducible apply Keeps.trans ?_ (State.goto_keeps ..))
    | (with_reducible apply Keeps.trans ?_ (State.releaseTile_keeps ..))
    | (with_reducible apply Keeps.trans ?_ (State.setFacet_keeps ..))
    | (with_reducible apply Keeps.trans ?_ (State.setProg_keeps ..))
    | (with_reducible apply Keeps.trans ?_ (State.sset_keeps ..))
    | (with_reducible apply Keeps.trans ?_ (State.switchOut_keeps ..))
    | dsimp only
    | split

theorem execAccnext_keeps (facet thread : Nat) (s : State) : KeepsRes s (execAccnext facet thread s) := by
  unfold execAccnext
  repeat' first
    | with_reducible exact Keeps.refl _
    | (with_reducible apply Keeps.trans ?_ (State.accNext_keeps ..))
    | (with_reducible apply Keeps.trans ?_ (State.bump_keeps ..))
    | (with_reducible apply Keeps.trans ?_ (State.onInsn_keeps (h4 := ?_) ..))
    | with_reducible apply KeepsRes.next
    | intro _

theorem execAccrd_keeps (facet : Nat) (thread : Nat) (s : State) : KeepsRes s (execAccrd facet thread s) := by
  unfold execAccrd
  all_goals try with_reducible apply Keeps.trans ?_ (Keeps.lit _)
  all_goals repeat' first
    | with_reducible exact Keeps.refl _
    | with_reducible exact Keeps.lit _
    | (with_reducible apply Keeps.trans ?_ (State.loadLanes_keeps ..))
    | (with_reducible apply Keeps.trans ?_ (State.setProg_keeps ..))
    | (with_reducible apply Keeps.trans ?_ (State.sramRead_keeps ..))
    | (with_reducible apply Keeps.trans ?_ (Keeps.of_pair (State.sramRead_keeps ..) ?_); rotate_right; (with_reducible assumption))
    | (with_reducible apply Keeps.trans ?_ (State.vinsn_keeps (h5 := ?_) ..))
    | with_reducible apply KeepsRes.next
    | with_reducible exact KeepsRes.fault _ _
    | with_reducible exact KeepsRes.refused _ _
    | intro _
    | dsimp only
    | split
  all_goals try with_reducible apply Keeps.trans ?_ (Keeps.lit _)
  all_goals repeat' first
    | with_reducible exact Keeps.refl _
    | with_reducible exact Keeps.lit _
    | (with_reducible apply Keeps.trans ?_ (State.loadLanes_keeps ..))
    | (with_reducible apply Keeps.trans ?_ (State.setProg_keeps ..))
    | (with_reducible apply Keeps.trans ?_ (State.sramRead_keeps ..))
    | (with_reducible apply Keeps.trans ?_ (Keeps.of_pair (State.sramRead_keeps ..) ?_); rotate_right; (with_reducible assumption))
    | (with_reducible apply Keeps.trans ?_ (State.vinsn_keeps (h5 := ?_) ..))
    | with_reducible apply KeepsRes.next
    | with_reducible exact KeepsRes.fault _ _
    | with_reducible exact KeepsRes.refused _ _
    | intro _
    | dsimp only
    | split

theorem execAccrel_keeps (facet thread : Nat) (s : State) : KeepsRes s (execAccrel facet thread s) := by
  unfold execAccrel
  repeat' first
    | with_reducible exact Keeps.refl _
    | (with_reducible apply Keeps.trans ?_ (State.releaseTile_keeps ..))
    | (with_reducible apply Keeps.trans ?_ (State.setProg_keeps ..))
    | (with_reducible apply Keeps.trans ?_ (State.vinsn_keeps (h5 := ?_) ..))
    | with_reducible apply KeepsRes.next
    | intro _

theorem execXfld_keeps (facet : Nat) (thread : Nat) (s : State) : KeepsRes s (execXfld facet thread s) := by
  unfold execXfld
  repeat' first
    | with_reducible exact Keeps.refl _
    | (with_reducible apply Keeps.trans ?_ (State.loadLanes_keeps ..))
    | (with_reducible apply Keeps.trans ?_ (State.readRow_keeps ..))
    | (with_reducible apply Keeps.trans ?_ (Keeps.of_pair (State.readRow_keeps ..) ?_); rotate_right; (with_reducible assumption))
    | (with_reducible apply Keeps.trans ?_ (State.stopProgram_keeps ..))
    | (with_reducible apply Keeps.trans ?_ (State.vinsn_keeps (h5 := ?_) ..))
    | with_reducible apply KeepsRes.next
    | with_reducible exact KeepsRes.fault _ _
    | with_reducible exact KeepsRes.refused _ _
    | intro _
    | dsimp only
    | split

theorem execXfst_keeps (facet : Nat) (thread : Nat) (s : State) : KeepsRes s (execXfst facet thread s) := by
  unfold execXfst
  repeat' first
    | with_reducible exact Keeps.refl _
    | (with_reducible apply Keeps.trans ?_ (State.stopProgram_keeps ..))
    | (with_reducible apply Keeps.trans ?_ (State.storeRow_keeps ..))
    | (with_reducible apply Keeps.trans ?_ (State.vinsn_keeps (h5 := ?_) ..))
    | with_reducible apply KeepsRes.next
    | with_reducible exact KeepsRes.fault _ _
    | with_reducible exact KeepsRes.refused _ _
    | intro _
    | dsimp only
    | split

theorem State.split3_keeps (s : State) (f t op : Nat) (third : Bool) (g : FVal → FVal → FVal → FVal) : Keeps s (State.split3 s f t op third g) := by
  unfold State.split3
  repeat' first
    | with_reducible exact Keeps.refl _
    | (with_reducible apply Keeps.trans ?_ (State.setProg_keeps ..))
    | (with_reducible apply Keeps.trans ?_ (State.vinsn_keeps (h5 := ?_) ..))
    | intro _

theorem execXfadd_keeps (facet thread : Nat) (s : State) : KeepsRes s (execXfadd facet thread s) := by
  unfold execXfadd
  repeat' first
    | with_reducible exact Keeps.refl _
    | (with_reducible apply Keeps.trans ?_ (State.split3_keeps ..))
    | with_reducible apply KeepsRes.next

theorem execXfmad_keeps (facet thread : Nat) (s : State) : KeepsRes s (execXfmad facet thread s) := by
  unfold execXfmad
  repeat' first
    | with_reducible exact Keeps.refl _
    | (with_reducible apply Keeps.trans ?_ (State.split3_keeps ..))
    | with_reducible apply KeepsRes.next

theorem execXfmul_keeps (facet thread : Nat) (s : State) : KeepsRes s (execXfmul facet thread s) := by
  unfold execXfmul
  repeat' first
    | with_reducible exact Keeps.refl _
    | (with_reducible apply Keeps.trans ?_ (State.split3_keeps ..))
    | with_reducible apply KeepsRes.next

theorem execXfrn_keeps (facet thread : Nat) (s : State) : KeepsRes s (execXfrn facet thread s) := by
  unfold execXfrn
  repeat' first
    | with_reducible exact Keeps.refl _
    | (with_reducible apply Keeps.trans ?_ (State.setProg_keeps ..))
    | (with_reducible apply Keeps.trans ?_ (State.vinsn_keeps (h5 := ?_) ..))
    | with_reducible apply KeepsRes.next
    | intro _

theorem State.tileRow_keeps (s : State) (f base : Nat) (n row : Nat) (col r : Nat) : Keeps s (State.tileRow s f base n row col r).2 := by
  unfold State.tileRow
  repeat' first
    | with_reducible exact Keeps.refl _
    | (with_reducible apply Keeps.trans ?_ (State.fmRead_keeps ..))

theorem State.partTileRows_keeps (s : State) (f : Nat) (x : Combine) (p row : Nat) (col a6 : Nat) : Keeps s (State.partTileRows s f x p row col a6).2 := by
  fun_induction State.partTileRows s f x p row col a6 <;> try dsimp only
  all_goals
    repeat' first
      | with_reducible exact Keeps.refl _
      | with_reducible assumption
      | (with_reducible apply Keeps.trans ?_ (State.tileRow_keeps ..))

theorem State.partTiles_keeps (s : State) (f : Nat) (x : Combine) (row col a5 : Nat) : Keeps s (State.partTiles s f x row col a5).2 := by
  fun_induction State.partTiles s f x row col a5 <;> try dsimp only
  all_goals
    repeat' first
      | with_reducible exact Keeps.refl _
      | with_reducible assumption
      | (with_reducible apply Keeps.trans ?_ (Keeps.of_pair (State.fmRead_keeps ..) ?_); rotate_right; (with_reducible assumption))
      | (with_reducible apply Keeps.trans ?_ (State.partTileRows_keeps ..))

theorem State.combineOne_keeps (s : State) (n : Nat) (it : Item) (x : Combine) (row col : Nat) : Keeps s (State.combineOne s n it x row col) := by
  unfold State.combineOne
  repeat' first
    | with_reducible exact Keeps.refl _
    | (with_reducible apply Keeps.trans ?_ (State.bump_keeps ..))
    | (with_reducible apply Keeps.trans ?_ (State.fmWrite_keeps ..))
    | (with_reducible apply Keeps.trans ?_ (State.meet_keeps ..))
    | (with_reducible apply Keeps.trans ?_ (State.partTiles_keeps ..))
    | (with_reducible apply Keeps.trans ?_ (Keeps.foldl _ _ _ ?_))
    | intro _
    | dsimp only
    | split

theorem State.combineAll_keeps (s : State) (n : Nat) (it : Item) : Keeps s (State.combineAll s n it) := by
  unfold State.combineAll
  repeat' first
    | with_reducible exact Keeps.refl _
    | (with_reducible apply Keeps.trans ?_ (State.combineOne_keeps ..))
    | (with_reducible apply Keeps.trans ?_ (State.finish_keeps ..))
    | (with_reducible apply Keeps.trans ?_ (Keeps.foldl _ _ _ ?_))
    | (with_reducible apply Keeps.trans ?_ (Keeps.foldl_pair _ _ _ ?_))
    | intro _
    | dsimp only
    | split

theorem State.treeCombine_keeps (s : State) (n : Nat) (it : Item) (t : Nat) (th : Thread) : Keeps s (State.treeCombine s n it t th) := by
  unfold State.treeCombine
  repeat' first
    | with_reducible exact Keeps.refl _
    | (with_reducible apply Keeps.trans ?_ (State.awaitFrame_keeps ..))
    | (with_reducible apply Keeps.trans ?_ (State.combineAll_keeps ..))
    | (with_reducible apply Keeps.trans ?_ (State.loadArgs_keeps ..))
    | (with_reducible apply Keeps.trans ?_ (State.refuseVector_keeps ..))
    | dsimp only
    | split

theorem execTreeCombine_keeps (item : Nat) (s : State) : KeepsRes s (execTreeCombine item s) := by
  unfold execTreeCombine
  all_goals try with_reducible apply Keeps.trans ?_ (Keeps.lit _)
  all_goals repeat' first
    | with_reducible exact Keeps.refl _
    | with_reducible exact Keeps.lit _
    | (with_reducible apply Keeps.trans ?_ (State.combineAll_keeps ..))
    | (with_reducible apply Keeps.trans ?_ (State.setThread_keeps ..))
    | (with_reducible apply Keeps.trans ?_ (State.treeCombine_keeps ..))
    | (with_reducible apply Keeps.trans ?_ (State.withItem_keeps (h3 := ?_) ..))
    | with_reducible apply KeepsRes.next
    | with_reducible exact KeepsRes.fault _ _
    | with_reducible exact KeepsRes.refused _ _
    | intro _
    | dsimp only
    | split
  all_goals try with_reducible apply Keeps.trans ?_ (Keeps.lit _)
  all_goals repeat' first
    | with_reducible exact Keeps.refl _
    | with_reducible exact Keeps.lit _
    | (with_reducible apply Keeps.trans ?_ (State.combineAll_keeps ..))
    | (with_reducible apply Keeps.trans ?_ (State.setThread_keeps ..))
    | (with_reducible apply Keeps.trans ?_ (State.treeCombine_keeps ..))
    | (with_reducible apply Keeps.trans ?_ (State.withItem_keeps (h3 := ?_) ..))
    | with_reducible apply KeepsRes.next
    | with_reducible exact KeepsRes.fault _ _
    | with_reducible exact KeepsRes.refused _ _
    | intro _
    | dsimp only
    | split

end Sys2Proof.Machine
end

