-- ==== Sys2Proof/WellFormed.lean ====
section
/-! DEFINITION. Sys2Proof/WellFormed.lean: the commands that name only things the device has. The range of a value that is
written is no part of it: the object's owner checks that and answers. -/

namespace Sys2Proof

/-- Facets 0-191 (01_device_and_step R9). -/
def facetOk (n : Nat) : Bool := decide (n < 192)

/-- Threads T0-T15 of a facet (05_vector_engine_and_sequencer R142). -/
def threadOk (n : Nat) : Bool := decide (n < 16)

/-- Spokes 0-17 (11_spokes R296). -/
def spokeOk (n : Nat) : Bool := decide (n < 18)

/-- Contexts 0-15 (01_device_and_step R14). -/
def ctxOk (n : Nat) : Bool := decide (n < 16)

/-- Physical nodes 0-16,383 (10_lattices_and_mapping R284). -/
def nodeOk (n : Nat) : Bool := decide (n < 16384)

/-- Virtual channels VC0-VC7 (11_spokes R305). -/
def vcOk (n : Nat) : Bool := decide (n < 8)

/-- PCIe functions: PF 0 and VFs 1-15 (19_pins_and_interfaces R536). -/
def functionOk (n : Nat) : Bool := decide (n < 16)

/-- Pins AUXIO0-7 (19_pins_and_interfaces R546). -/
def pinOk (n : Nat) : Bool := decide (n < 8)

/-- The two compute dies (18_clocks_power_reset R510). -/
def dieOk (n : Nat) : Bool := decide (n < 2)

/-- The 48 facet quads (18_clocks_power_reset R503). -/
def quadOk (n : Nat) : Bool := decide (n < 48)

/-- Lattices 0-255 (10_lattices_and_mapping R286). -/
def latticeOk (n : Nat) : Bool := decide (n < 256)

/-- Lanes 0-3 of a spoke, and a mask of them (11_spokes R297). -/
def laneOk (n : Nat) : Bool := decide (n < 4)
def lanesOk (n : Nat) : Bool := decide (n < 16)

/-- MCTP endpoint IDs (19_pins_and_interfaces R539). -/
def eidOk (n : Nat) : Bool := decide (n < 256)

/-- The 41 PLLs (18_clocks_power_reset R527 PLL_STATUS). -/
def pllOk (n : Nat) : Bool := decide (n < 41)

/-- The 12 rails (18_clocks_power_reset R527 RAIL_STATUS). -/
def railOk (n : Nat) : Bool := decide (n < 12)

/-- The 512 pseudo-channels of HBM (13_hbm_and_ecc R354). -/
def pseudoChannelOk (n : Nat) : Bool := decide (n < 512)

/-- Activities 0-6 (20_maintenance_and_telemetry R555). -/
def activityOk (n : Nat) : Bool := decide (n < 7)

/-- Queue numbers are 16 bits (14_queues_and_pools R375). -/
def queueOk (n : Nat) : Bool := decide (n < 65536)

/-- Pool requesters 0-63 (17_object_dictionary R470). -/
def poolRequesterOk (n : Nat) : Bool := decide (n < 64)

/-- A host names a function, a board controller an endpoint (17 R486). -/
def whoOk : Who → Bool
  | .host f => functionOk f
  | .bmc e => eidOk e
  | .tenant _ => true
  | .attested _ => true

/-- An SPDM endpoint is a function or an MCTP endpoint (16_security R449). -/
def spdmEndOk : SpdmEnd → Bool
  | .doe f => functionOk f
  | .mctp e => eidOk e

/-- A frame comes from the mailbox of a function, an MCTP endpoint or a session (17 R484). -/
def frameFromOk : FrameFrom → Bool
  | .mailbox f => functionOk f
  | .mctp e _ => eidOk e
  | .session _ _ => true

/-- An IDE stream is the link's or a function's (16 R462). -/
def streamOk : IdeStream → Bool
  | .link => true
  | .selective f => functionOk f

/-- An engine instance of the ladder exists: 192 facets, stream DMA instances 0-3, and four slices of the router, of the collective engine and of the fabric
agent (01_device_and_step, 18_clocks_power_reset R510). -/
def engineOk : EngineRef → Bool
  | .facet f => facetOk f
  | .dma n => decide (n < 4)
  | .router n => decide (n < 4)
  | .collective n => decide (n < 4)
  | .fabric n => decide (n < 4)
  | .queueManager => true
  | .poolManager => true

/-- The command names only things that the device has. -/
def Instr.wf (i : Instr) : Bool :=
  match i with
  | .beatEdge => true
  | .slotComplete ctx _ _ => ctxOk ctx
  | .lateWaitTimeout ctx _ => ctxOk ctx
  | .beatPeriodNsWrite who _ => whoOk who
  | .beatEpochStartSecWrite who _ => whoOk who
  | .epochStart => true
  | .beatMarkerReceive spoke _ _ _ _ => spokeOk spoke
  | .cadenceLock => true
  | .upstreamLoss => true
  | .holdoverTimeout => true
  | .heartbeatSend spoke => spokeOk spoke
  | .heartbeatReceive spoke _ _ => spokeOk spoke
  | .peerSilent spoke => spokeOk spoke
  | .ppsEdge _ => true
  | .ppsLoss => true
  | .planLoad who ctx => whoOk who && ctxOk ctx
  | .planArm who ctx => whoOk who && ctxOk ctx
  | .stopAtStepEnd who ctx => whoOk who && ctxOk ctx
  | .planHalt who ctx => whoOk who && ctxOk ctx
  | .planUnload who ctx => whoOk who && ctxOk ctx
  | .planFirstStepWrite who ctx _ => whoOk who && ctxOk ctx
  | .dropLedgerRegionWrite who ctx _ _ => whoOk who && ctxOk ctx
  | .windowOutputSend ctx _ => ctxOk ctx
  | .closeMarkerReceive node vc => nodeOk node && vcOk vc
  | .threadIssueNext facet thread => facetOk facet && threadOk thread
  | .facetZeroDone facet => facetOk facet
  | .threadWake facet thread => facetOk facet && threadOk thread
  | .vectorFrameGrant facet => facetOk facet
  | .matmul _ => true
  | .maxIndex _ => true
  | .minIndex _ => true
  | .kLoopEnd facet => facetOk facet
  | .accTileSwap facet => facetOk facet
  | .tileDrainDone facet _ => facetOk facet
  | .runProgram _ => true
  | .treeCombine _ => true
  | .vprogInsnLimitExceeded facet thread => facetOk facet && threadOk thread
  | .sadd facet thread => facetOk facet && threadOk thread
  | .saddi facet thread => facetOk facet && threadOk thread
  | .ssub facet thread => facetOk facet && threadOk thread
  | .smul facet thread => facetOk facet && threadOk thread
  | .sand facet thread => facetOk facet && threadOk thread
  | .sor facet thread => facetOk facet && threadOk thread
  | .sxor facet thread => facetOk facet && threadOk thread
  | .sshl facet thread => facetOk facet && threadOk thread
  | .sshr facet thread => facetOk facet && threadOk thread
  | .ssra facet thread => facetOk facet && threadOk thread
  | .sli facet thread => facetOk facet && threadOk thread
  | .slui facet thread => facetOk facet && threadOk thread
  | .sfadd facet thread => facetOk facet && threadOk thread
  | .sfmul facet thread => facetOk facet && threadOk thread
  | .sfdiv facet thread => facetOk facet && threadOk thread
  | .scmplt facet thread => facetOk facet && threadOk thread
  | .scmpeq facet thread => facetOk facet && threadOk thread
  | .br facet thread => facetOk facet && threadOk thread
  | .brz facet thread => facetOk facet && threadOk thread
  | .jmp facet thread => facetOk facet && threadOk thread
  | .progEnd facet thread => facetOk facet && threadOk thread
  | .srd facet thread => facetOk facet && threadOk thread
  | .vextr facet thread => facetOk facet && threadOk thread
  | .fld facet thread => facetOk facet && threadOk thread
  | .fst facet thread => facetOk facet && threadOk thread
  | .fatomAdd facet thread => facetOk facet && threadOk thread
  | .fatomMin facet thread => facetOk facet && threadOk thread
  | .fatomMax facet thread => facetOk facet && threadOk thread
  | .fatomCas facet thread => facetOk facet && threadOk thread
  | .ffence facet thread => facetOk facet && threadOk thread
  | .finv facet thread => facetOk facet && threadOk thread
  | .sld facet thread => facetOk facet && threadOk thread
  | .sst facet thread => facetOk facet && threadOk thread
  | .vadd facet thread => facetOk facet && threadOk thread
  | .vsub facet thread => facetOk facet && threadOk thread
  | .vmul facet thread => facetOk facet && threadOk thread
  | .vfma facet thread => facetOk facet && threadOk thread
  | .vmax facet thread => facetOk facet && threadOk thread
  | .vmin facet thread => facetOk facet && threadOk thread
  | .vdiv facet thread => facetOk facet && threadOk thread
  | .vsqrt facet thread => facetOk facet && threadOk thread
  | .vrcp facet thread => facetOk facet && threadOk thread
  | .vrsqrt facet thread => facetOk facet && threadOk thread
  | .vexp facet thread => facetOk facet && threadOk thread
  | .vlog facet thread => facetOk facet && threadOk thread
  | .vtanh facet thread => facetOk facet && threadOk thread
  | .vabs facet thread => facetOk facet && threadOk thread
  | .vneg facet thread => facetOk facet && threadOk thread
  | .vsel facet thread => facetOk facet && threadOk thread
  | .vcmplt facet thread => facetOk facet && threadOk thread
  | .vcmpeq facet thread => facetOk facet && threadOk thread
  | .visnan facet thread => facetOk facet && threadOk thread
  | .viadd facet thread => facetOk facet && threadOk thread
  | .vcvti facet thread => facetOk facet && threadOk thread
  | .vcvtf facet thread => facetOk facet && threadOk thread
  | .viota facet thread => facetOk facet && threadOk thread
  | .vbcast facet thread => facetOk facet && threadOk thread
  | .vcadd facet thread => facetOk facet && threadOk thread
  | .vcred facet thread => facetOk facet && threadOk thread
  | .vdadd facet thread => facetOk facet && threadOk thread
  | .vdred facet thread => facetOk facet && threadOk thread
  | .vrmax facet thread => facetOk facet && threadOk thread
  | .vrmin facet thread => facetOk facet && threadOk thread
  | .vrsum facet thread => facetOk facet && threadOk thread
  | .vld facet thread => facetOk facet && threadOk thread
  | .vst facet thread => facetOk facet && threadOk thread
  | .vstn facet thread => facetOk facet && threadOk thread
  | .vscfg facet thread => facetOk facet && threadOk thread
  | .vsflush facet thread => facetOk facet && threadOk thread
  | .vgather facet thread => facetOk facet && threadOk thread
  | .vscatter facet thread => facetOk facet && threadOk thread
  | .vldm facet thread => facetOk facet && threadOk thread
  | .accnext facet thread => facetOk facet && threadOk thread
  | .accrd facet thread => facetOk facet && threadOk thread
  | .accrel facet thread => facetOk facet && threadOk thread
  | .xfld facet thread => facetOk facet && threadOk thread
  | .xfst facet thread => facetOk facet && threadOk thread
  | .xfadd facet thread => facetOk facet && threadOk thread
  | .xfmad facet thread => facetOk facet && threadOk thread
  | .xfmul facet thread => facetOk facet && threadOk thread
  | .xfrn facet thread => facetOk facet && threadOk thread
  | .vdrop facet thread => facetOk facet && threadOk thread
  | .fmCorrectedWriteback _ => true
  | .copy _ => true
  | .storeSparse _ => true
  | .predictMask _ => true
  | .actSave _ => true
  | .actRestore _ => true
  | .fill _ => true
  | .gather _ => true
  | .route _ => true
  | .consume _ => true
  | .return _ => true
  | .combine _ => true
  | .bwdRoute _ => true
  | .bwdConsume _ => true
  | .bwdReturn _ => true
  | .bwdCombine _ => true
  | .dispatchRecordArrive node vc => nodeOk node && vcOk vc
  | .returnRecordArrive node vc => nodeOk node && vcOk vc
  | .bwdDispatchRecordArrive node vc => nodeOk node && vcOk vc
  | .bwdReturnRecordArrive node vc => nodeOk node && vcOk vc
  | .drainCompleteReceive node vc => nodeOk node && vcOk vc
  | .routerCancelWrite who ctx _ => whoOk who && ctxOk ctx
  | .reduce _ => true
  | .reduceScatter _ => true
  | .allReduce _ => true
  | .allGather _ => true
  | .allToAll _ => true
  | .topkSelect _ => true
  | .merge _ => true
  | .mergeAll _ => true
  | .collSend _ => true
  | .collRelay _ => true
  | .collFinish _ => true
  | .contributionRecordArrive node vc => nodeOk node && vcOk vc
  | .treeJoin ctx _ _ _ _ _ => ctxOk ctx
  | .latticeRouteWrite who lattice _ => whoOk who && latticeOk lattice
  | .rankMapCommit who ctx _ => whoOk who && ctxOk ctx
  | .spokeReset who spoke => whoOk who && spokeOk spoke
  | .spokeDisable who spoke => whoOk who && spokeOk spoke
  | .spokeEnable who spoke => whoOk who && spokeOk spoke
  | .spokeLaneLock spoke lanes => spokeOk spoke && lanesOk lanes
  | .spokeFecLock spoke lanes => spokeOk spoke && lanesOk lanes
  | .trainingOsReceive spoke _ => spokeOk spoke
  | .spokeKeysInstalled spoke _ => spokeOk spoke
  | .spokeTrainingTimeout spoke => spokeOk spoke
  | .spokeDownRetrain spoke => spokeOk spoke
  | .flitReceive spoke _ _ _ => spokeOk spoke
  | .flitTransmit spoke => spokeOk spoke
  | .linkRetryReceive spoke _ _ => spokeOk spoke
  | .linkRetryLimit spoke => spokeOk spoke
  | .laneFail spoke lane => spokeOk spoke && laneOk lane
  | .degradeReceive spoke lanes _ _ _ => spokeOk spoke && lanesOk lanes
  | .laneDeskewDone spoke => spokeOk spoke
  | .resetNoticeReceive spoke node _ _ _ => spokeOk spoke && nodeOk node
  | .hupDataReceive _ => true
  | .hupAckReceive _ => true
  | .hupAckTimer node vc => nodeOk node && vcOk vc
  | .hupCloseReceive _ => true
  | .epochNoticeReceive _ => true
  | .genNoticeReceive _ => true
  | .keyxReceive _ => true
  | .markerPacketReceive _ _ _ => true
  | .hupRtoExpiry node vc _ => nodeOk node && vcOk vc
  | .hupGiveup node vc _ => nodeOk node && vcOk vc
  | .spokeRekeyTrigger spoke => spokeOk spoke
  | .keyPhaseGraceEnd spoke => spokeOk spoke
  | .ethLinkUp spoke => spokeOk spoke
  | .ethLinkDown spoke => spokeOk spoke
  | .fabGet _ => true
  | .fabPut _ => true
  | .publish _ => true
  | .publishCloseSend _ => true
  | .invalidate _ => true
  | .fabricLoad node vc => nodeOk node && vcOk vc
  | .fabricStore node vc => nodeOk node && vcOk vc
  | .fabricAtomicAdd node vc => nodeOk node && vcOk vc
  | .fabricAtomicMin node vc => nodeOk node && vcOk vc
  | .fabricAtomicMax node vc => nodeOk node && vcOk vc
  | .fabricAtomicCas node vc => nodeOk node && vcOk vc
  | .fabricPutChunk node vc => nodeOk node && vcOk vc
  | .fabricResolve node vc => nodeOk node && vcOk vc
  | .fabricReplyReceive node vc => nodeOk node && vcOk vc
  | .fabricBusyResend node _ => nodeOk node
  | .fabricReplyTimeout node _ => nodeOk node
  | .tombstoneExpiry node _ _ => nodeOk node
  | .hbmRegionWrite who ctx _ _ => whoOk who && ctxOk ctx
  | .hbmUnitWrittenWrite who _ => whoOk who
  | .hbmRetiredPagesWrite who _ _ _ => whoOk who
  | .mergeIdleWriteback _ => true
  | .patrolScrubRead pseudoChannel _ => pseudoChannelOk pseudoChannel
  | .flipMaskArm who => whoOk who
  | .flipMaskDisarm who => whoOk who
  | .queueCreate who _ => whoOk who
  | .queuePause who queue => whoOk who && queueOk queue
  | .queueResume who queue => whoOk who && queueOk queue
  | .queueReset who queue => whoOk who && queueOk queue
  | .queueDestroy who queue => whoOk who && queueOk queue
  | .sqTailDoorbell function queue _ _ => functionOk function && queueOk queue
  | .cqHeadDoorbell function queue _ _ => functionOk function && queueOk queue
  | .descriptorAccept queue => queueOk queue
  | .itemCompletion _ _ => true
  | .summaryFlush ctx => ctxOk ctx
  | .deferredCqWrite queue => queueOk queue
  | .irqHoldoffExpiry queue => queueOk queue
  | .qmNop _ => true
  | .doorbell _ => true
  | .barrier _ => true
  | .acquire _ => true
  | .release _ => true
  | .transfer _ => true
  | .poolConfigWrite who ctx _ _ => whoOk who && ctxOk ctx
  | .poolRequesterWrite who requester _ _ _ => whoOk who && poolRequesterOk requester
  | .contextReset who ctx => whoOk who && ctxOk ctx
  | .escalationStepTimeout ctx inst _ => ctxOk ctx && engineOk inst
  | .facetResetDone facet _ _ => facetOk facet
  | .contextWithdrawn ctx => ctxOk ctx
  | .facetFatalFault facet _ thread => facetOk facet && threadOk thread
  | .threadStallTimeout facet thread => facetOk facet && threadOk thread
  | .deviceFatalFault _ _ => true
  | .warm who => whoOk who
  | .warmWithDump who => whoOk who
  | .mgmtWatchdogExpiry => true
  | .peerLostWrite who node => whoOk who && nodeOk node
  | .errorFlashCopy => true
  | .errorFlashClear who => whoOk who
  | .facetRetiredWrite who _ _ => whoOk who
  | .crashDumpClear who => whoOk who
  | .bootEntry _ => true
  | .selftestDone _ => true
  | .loaderChecked _ => true
  | .imagesChecked _ _ _ => true
  | .measuredEntry _ => true
  | .enginesInitialised _ => true
  | .bootStepTimeout => true
  | .getVersion endpoint => spdmEndOk endpoint
  | .getCapabilities endpoint => spdmEndOk endpoint
  | .negotiateAlgorithms endpoint _ => spdmEndOk endpoint
  | .getDigests endpoint => spdmEndOk endpoint
  | .getCertificate endpoint _ => spdmEndOk endpoint
  | .challenge endpoint _ => spdmEndOk endpoint
  | .getMeasurements endpoint _ _ => spdmEndOk endpoint
  | .keyExchange endpoint => spdmEndOk endpoint
  | .spdmFinish endpoint _ _ _ => spdmEndOk endpoint
  | .keyUpdate endpoint _ => spdmEndOk endpoint
  | .spdmHeartbeat endpoint _ => spdmEndOk endpoint
  | .endSession endpoint _ => spdmEndOk endpoint
  | .setCertificate endpoint _ _ => spdmEndOk endpoint
  | .spdmHeartbeatTimeout _ => true
  | .ideKmRequest endpoint _ stream _ => spdmEndOk endpoint && streamOk stream
  | .contextClaim _ ctx => ctxOk ctx
  | .contextKey who ctx _ => whoOk who && ctxOk ctx
  | .contextTransferKey who ctx _ => whoOk who && ctxOk ctx
  | .contextKeyNext who ctx _ => whoOk who && ctxOk ctx
  | .contextRelease who ctx => whoOk who && ctxOk ctx
  | .secFuseSvn who _ => whoOk who
  | .secFuseRevoke who _ => whoOk who
  | .secFuseSigPolicy who => whoOk who
  | .debugUnlock who _ => whoOk who
  | .jtagInstructionLoad _ => true
  | .zeroiseTrigger => true
  | .sealSubmitInbound function _ _ _ _ _ => functionOk function
  | .sealSubmitOutbound function _ _ _ => functionOk function
  | .dictRead source => frameFromOk source
  | .dictWrite source _ => frameFromOk source
  | .dictInfo source => frameFromOk source
  | .dictSegment source _ => frameFromOk source
  | .dictAbort source => frameFromOk source
  | .segmentTimeout _ => true
  | .pendingActionDone _ => true
  | .registerWrite who _ _ _ _ _ _ => whoOk who
  | .mbxControlGo function _ _ _ => functionOk function
  | .mbxStatusClear function _ => functionOk function
  | .fwUpdateBegin who _ _ _ => whoOk who
  | .fwUpdateData who _ => whoOk who
  | .fwUpdateFinish who => whoOk who
  | .fwUpdateCancel who => whoOk who
  | .setPreferred who _ _ => whoOk who
  | .flashRestoreDefaults who _ => whoOk who
  | .setEndpointId eid => eidOk eid
  | .getEndpointId eid => eidOk eid
  | .getMctpVersionSupport eid => eidOk eid
  | .getMessageTypeSupport eid => eidOk eid
  | .getVendorDefinedMsgSupport eid => eidOk eid
  | .entdaa _ => true
  | .setdasa _ _ => true
  | .pwrgdRise _ _ _ => true
  | .pwrgdFall => true
  | .sysResetNLow => true
  | .sysResetNRise => true
  | .perstNLow => true
  | .perstNRise => true
  | .thermNLow => true
  | .thermNHigh => true
  | .refQualifyDone => true
  | .pllLockTimeout => true
  | .refLost => true
  | .pllLockLoss pll => pllOk pll
  | .railFault rail => railOk rail
  | .thermalSample _ => true
  | .thermalCeilingRaise die => dieOk die
  | .powerTick _ _ _ _ _ => true
  | .overcurrent die => dieOk die
  | .overcurrentHoldEnd die => dieOk die
  | .quadClockSwitch quad => quadOk quad
  | .avsReply die _ _ => dieOk die
  | .avsTimeout die _ => dieOk die
  | .clkobsWrite who _ _ _ _ => whoOk who
  | .auxioConfigWrite who pin function _ _ _ _ => whoOk who && pinOk pin && functionOk function
  | .trigInEdge pin _ => pinOk pin
  | .ppsOutPulse pin => pinOk pin
  | .traceConfigWrite who _ _ => whoOk who
  | .faultOutClear who => whoOk who
  | .alarmClear who _ => whoOk who
  | .vfEnableWrite _ => true
  | .powerStateWrite function _ => functionOk function
  | .maintUnitDue activity _ => activityOk activity
  | .maintUnitStart activity _ _ => activityOk activity
  | .maintUnitDone activity _ _ _ _ => activityOk activity
  | .maintOverdue activity _ => activityOk activity
  | .spokeRetuneRequest who spoke => whoOk who && spokeOk spoke
  | .powerLoss => true
  | .refclkEdgesPresent => true
  | .pcieLinkUp _ _ _ => true
  | .contextResetDeferredStart ctx => ctxOk ctx

end Sys2Proof
end

