-- ==== Sys2Proof/Tests/Slice0.lean ====
section
/-! SUPPORT. Sys2Proof/Tests/Slice0.lean: small checks of the model against the manual's examples and tables, and states that meet
the hypotheses of the statements. -/

namespace Sys2Proof.Tests

open Sys2Proof.Machine

set_option Elab.async false

/-! ### States the tests start from -/

/-- The device in READY with node 5, all else as after power-on. -/
def ready : State := (State.reset.setReg Obj.DEVICE_STATE 0 dsReady).setReg Obj.NODE_NUMBER 0 5

/-- A plan image of one NOP slot of 4 beats in a step of 8, for context 0: header, slot, facet set. -/
def imageBytes : Bytes :=
  leBytes 64 (0x9020504C * 2 ^ 480 + 0x0100 * 2 ^ 464 + 8 * 2 ^ 424 + 1 * 2 ^ 384 + 1 * 2 ^ 352 + 64 * 2 ^ 288 + 128 * 2 ^ 256
    + 96 * 2 ^ 224 + 128 * 2 ^ 192 + 128 * 2 ^ 160 + 128 * 2 ^ 128 + 7 * 2 ^ 64)
    ++ leBytes 32 (0xFFF * 2 ^ 228 + 0xFFF * 2 ^ 216 + 0 * 2 ^ 168 + 4 * 2 ^ 152) ++ leBytes 32 1

/-- READY with that image at offset 0 of context 0. -/
def planned : State := (ready.ctxWrite 0 0 imageBytes).2

/-- The plan of `planned`, loaded. -/
def loaded : State := (planned.planLoad 0).2

/-- Its plan runs, with its step open. -/
def running : State := (loaded.setReg Obj.PLAN_STATE 0 planRunning).setPlan 0 { loaded.plan 0 with opened := true }

/-- The device in LOCKED as master, with an epoch armed. -/
def locked : State :=
  ((((ready.setReg Obj.CADENCE_STATE 0 csLocked).setReg Obj.BEAT_MASTER_PRIORITY 0 1).setReg Obj.BEAT_MASTER_NODE 0 5).setCad
    { ready.cad with armed := some 9 })

/-- Spoke 0 is UP, to node 6. -/
def spoked : State := (ready.setReg Obj.SPOKE_STATE 0 spUp).setReg Obj.SPOKE_PEER 0 6

/-- A marker of a master at node 6, of beat 40. -/
def marker6 : Marker :=
  { masterNode := 6, masterPriority := 9, hops := 0, beatNumber := 40, edgeSec := 3, edgeNs := 7, turnaround := 0, period := 50000,
    epochStart := 0, lock := 2 }

/-! ### 02_beat_and_time -/

theorem some_pair {α β : Type} (x : Option α × β) (h : x.1.isSome = true) : x = (some (x.1.get h), x.2) :=
  Prod.ext (Option.some_get h).symm rfl

theorem test_plan_image_reads :
    (planned.readImage 0 0).1.map (fun i => (i.header.stepBeats, i.slots.length, i.header.planId)) = some (8, 1, 7) := by decide +kernel

theorem meets_LoadAndArmPlacePlan_load :
    ∃ im r, Takes planned (.host 0) Obj.PLAN_CONTROL 0 true ∧ planned.readImage 0 (planned.reg Obj.PLAN_ADDR 0) = (some im, r)
      ∧ r.loadRefusal 0 im = 0 := by
  have h : (planned.readImage 0 (planned.reg Obj.PLAN_ADDR 0)).1.isSome = true := by decide +kernel
  exact ⟨_, _, by unfold Takes; decide +kernel, some_pair _ h, by decide +kernel +revert⟩

theorem meets_LoadAndArmPlacePlan_arm :
    let s := (loaded.setReg Obj.PLAN_START_BEAT 0 100).setReg Obj.CADENCE_STATE 0 csLocked
    Takes s (.host 0) Obj.PLAN_CONTROL 0 true ∧ s.armRefusal 0 = 0 := by unfold Takes; decide +kernel

theorem meets_PlanLeavesItsState :
    let s := running.setPlan 0 { running.plan 0 with opened := false }
    Takes running (.host 0) Obj.PLAN_CONTROL 0 true ∧ running.planState 0 = planRunning ∧ (running.plan 0).opened = true
      ∧ running.waitsRight ∧ Takes s (.host 0) Obj.PLAN_CONTROL 0 true ∧ s.planState 0 = planRunning
      ∧ (s.plan 0).opened = false ∧ s.waitsRight ∧ Takes loaded (.host 0) Obj.PLAN_CONTROL 0 true
      ∧ loaded.planState 0 ≠ planRunning ∧ loaded.waitsRight := by unfold Takes State.waitsRight; decide +kernel

theorem meets_EdgesAdvanceBeatAndTime :
    locked.Calm ∧ locked.cadState ≠ csStopped ∧ ready.Calm ∧ ready.cadState = csStopped ∧ locked.cad.armed = some 9
      ∧ locked.isMaster = true ∧ ready.isMaster = false ∧ ready.cad.ppsSeen = false ∧ locked.cad.ppsSeen = false
      ∧ locked.reg Obj.PPS_DELAY_NS < 1000000000 := by unfold State.Calm; decide +kernel

/-- R30: after 2^48 - 1 the beat counter wraps to 0. -/
theorem test_beat_wraps :
    (match exec .beatEdge (locked.setReg Obj.BEAT_COUNT 0 (2 ^ 48 - 1)) with | .next t => t.beat | _ => 1) = 0 := by decide +kernel

/-- R31, R473: a period of 3,999 ns is out of range. -/
theorem test_period_range :
    (match exec (.beatPeriodNsWrite (.host 0) 3999) ready with | .next t => t.out | _ => []) = [.answer (.host 0) (Obj.BEAT_PERIOD_NS.key 0) Abort.VALUE_RANGE] := by decide +kernel

theorem meets_CadenceFollowsItsState :
    let s := (spoked.setReg Obj.CADENCE_STATE 0 csAcquiring).setCad { spoked.cad with peers := [(0xFF, marker6)], goodRun := 16 }
    let u := (((spoked.setReg Obj.CADENCE_STATE 0 csLocked).setReg Obj.BEAT_UPSTREAM_SPOKE 0 0).setReg Obj.BEAT_MASTER_NODE 0 6).setCad
      { spoked.cad with peers := [(0, marker6)] }
    Takes ready (.host 0) Obj.BEAT_PERIOD_NS 0 false ∧ Takes ready (.host 0) Obj.BEAT_EPOCH_START_SEC 0 false
      ∧ s.cadState = csAcquiring ∧ 16 ≤ s.cad.goodRun ∧ tfind s.cad.peers (s.reg Obj.BEAT_UPSTREAM_SPOKE) = some marker6
      ∧ (ready.setReg Obj.CADENCE_STATE 0 csHoldover).cadState = csHoldover
      ∧ (locked.setCad { locked.cad with ppsSeen := true }).isMaster = true ∧ u.cad.peers = [(0, marker6)]
      ∧ u.reg Obj.BEAT_UPSTREAM_SPOKE = 0 ∧ u.reg Obj.BEAT_MASTER_PRIORITY = 0 ∧ u.isMaster = false ∧ u.cadState = csLocked := by
  unfold Takes; decide +kernel

theorem meets_MarkersAndHeartbeatsAreFollowed :
    let n := (spoked.setCad { spoked.cad with peers := tset spoked.cad.peers 0 marker6, arrivals := tset spoked.cad.arrivals 0 20 }).elect
    let q := (spoked.setReg Obj.SPOKE_STATE 3 spUp).setCad { spoked.cad with peers := [(0, { marker6 with hops := 0 })] }
    let k := (q.setCad { q.cad with peers := tset q.cad.peers 3 { marker6 with hops := 4 }, arrivals := tset q.cad.arrivals 3 20 }).elect
    let c := (spoked.setReg Obj.CADENCE_STATE 0 csLocked).setCad { spoked.cad with period := 600000 }
    [true].head? = some true ∧ spoked.spokeUp 0 = true ∧ n.isMaster = false ∧ n.reg Obj.BEAT_UPSTREAM_SPOKE = 0 ∧ n.cadState = csStopped
      ∧ marker6.epochStart = 0 ∧ spoked.reg Obj.SPOKE_ASYM_NS 0 = 0 ∧ (c.spoke 0).heartbeats = (0, 0) ∧ q.spokeUp 3 = true ∧ k.reg Obj.BEAT_UPSTREAM_SPOKE ≠ 3
      ∧ c.spokeUp 0 = true ∧ c.cadState ≠ csStopped ∧ 500000 < c.cad.period ∧ (c.spoke 0).paused = false
      ∧ spoked.reg Obj.SPOKE_PEER 0 ≠ 0xFFFF ∧ spoked.nodeLost (spoked.reg Obj.SPOKE_PEER 0) = false
      ∧ (tfind q.cad.peers 0).isSome = true ∧ spoked.hup.tx = []
      ∧ spoked.fab.reqs = [] := by decide +kernel

/-! ### Element programs (05_vector_engine_and_sequencer) -/

/-- A program at address 64 of facet 0, framed, on thread 0. -/
def prog0 : Program := { item := 1, base := 64, framed := true }

/-- Thread 0 of facet 0, of context 0, with that program. -/
def thread0 (p : Program := prog0) : Thread := { ctx := 0, gen := 0, step := 3, slot := 2, items := [1], issued := 1, prog := some p }

/-- The device with an instruction word at that program's start, some scalar registers set, and eight bytes at address 128. -/
def atWord (w : Nat) (regs : Table Nat := [(1, 7), (2, 2 ^ 64 - 3), (4, 0x3F800000), (5, 0x40000000)]) (p : Program := prog0) : State :=
  { ready with
    fm := { ready.fm with mem := (Memory.putN {} 64 (leBytes 8 w ++ leBytes 8 (2 ^ 56))).putN 128 [1, 2, 3, 4, 5, 6, 7, 8] }
    facets := [(0, { threads := [(0, thread0 p)], regs := regs, owner := some (0, 0) })]
    items := [(1, { ctx := 0, gen := 0, origin := .planned 2 0 0, desc := 0x20 * 2 ^ 504, issued := true })]
    nextItem := 2 }

/-- Format S and format V words (R151). -/
def wordS (op sd sa sb imm : Nat) : Nat := op * 2 ^ 56 + sd * 2 ^ 50 + sa * 2 ^ 44 + sb * 2 ^ 38 + imm
def wordV (op vd va vb vc pm sbEn sb : Nat) : Nat :=
  op * 2 ^ 56 + vd * 2 ^ 51 + va * 2 ^ 46 + vb * 2 ^ 41 + vc * 2 ^ 36 + pm * 2 ^ 33 + sbEn * 2 ^ 32 + sb * 2 ^ 26
/-- Format M word (R151). -/
def wordM (op vd sa fmt pm off : Nat) : Nat := op * 2 ^ 56 + vd * 2 ^ 51 + sa * 2 ^ 45 + fmt * 2 ^ 40 + pm * 2 ^ 37 + off

/-- The state after a command, if it goes on. -/
def after (i : Instr) (s : State) : Option State := match exec i s with | .next t => some t | _ => none

/-- Scalar register 3 of thread 0 after a command. -/
def s3 (i : Instr) (s : State) : Option Nat := (after i s).map (fun t => t.sget 0 0 3)

/-- R152: 7 and -3 in s1 and s2, 1.0 and 2.0 in s4 and s5; the result goes to s3. -/
theorem test_scalar_results :
    ∀ e ∈ [(Instr.sadd 0 0, wordS 0x01 3 1 2 0, 4), (.saddi 0 0, wordS 0x02 3 1 0 (2 ^ 32 - 9), 2 ^ 64 - 2),
           (.ssub 0 0, wordS 0x03 3 1 2 0, 10), (.smul 0 0, wordS 0x04 3 1 2 0, 2 ^ 64 - 21), (.sand 0 0, wordS 0x05 3 1 2 0, 5),
           (.sor 0 0, wordS 0x06 3 1 2 0, 2 ^ 64 - 1), (.sxor 0 0, wordS 0x07 3 1 2 0, 2 ^ 64 - 6), (.sshl 0 0, wordS 0x08 3 1 0 4, 112),
           (.sshr 0 0, wordS 0x09 3 2 0 60, 15), (.ssra 0 0, wordS 0x0A 3 2 0 1, 2 ^ 64 - 2), (.sli 0 0, wordS 0x0B 3 0 0 (2 ^ 32 - 1), 2 ^ 64 - 1),
           (.slui 0 0, wordS 0x0C 3 0 0 2, 2 * 2 ^ 32), (.sfadd 0 0, wordS 0x0D 3 4 5 0, 0x40400000), (.sfmul 0 0, wordS 0x0E 3 5 5 0, 0x40800000),
           (.sfdiv 0 0, wordS 0x0F 3 4 5 0, 0x3F000000), (.scmplt 0 0, wordS 0x10 3 2 1 0, 1), (.scmpeq 0 0, wordS 0x11 3 2 1 0, 0),
           (.srd 0 0, wordS 0x16 3 0 0 4, 3), (.sld 0 0, wordS 0x1D 3 1 0 121, 0x0807060504030201)],
      s3 e.1 (atWord e.2.1) = some e.2.2 := by decide +kernel

/-- R142: s0 discards what is written. -/
theorem test_s0_discards : (after (.sli 0 0) (atWord (wordS 0x0B 0 0 0 5))).map (fun t => t.sget 0 0 0) = some 0 := by decide +kernel

/-- R152: SST stores the low word of the address given by SA and the immediate in little-endian order. -/
theorem test_sst_stores :
    (after (.sst 0 0) (atWord (wordS 0x1E 1 0 0 200))).map (fun t => t.fm.mem.getN 200 8) = some [7, 0, 0, 0, 0, 0, 0, 0] := by decide +kernel

/-- A vector register of one value in every lane. -/
def lanes (x : Nat) : List Nat := List.replicate 256 x

/-- v1 = 3.0, v2 = 2.0, v3 = 1.0, v4 = 4.0, v5 = minus infinity, v8 = +infinity; (v10, v11) = 3.0 and (v12, v13) = 2.0 as pairs;
(v14, v15) = 3.0 as a pair of FP64 words. -/
def vprog : Program :=
  { prog0 with v := [(1, lanes 0x40400000), (2, lanes 0x40000000), (3, lanes 0x3F800000), (4, lanes 0x40800000), (5, lanes 0xFF800000),
    (8, lanes 0x7F800000), (10, lanes 0x40400000), (12, lanes 0x40000000), (15, lanes 0x40080000)] }

/-- Lane 5 of a vector register after a command. -/
def lane5 (r : Nat) (i : Instr) (w : Nat) : Option Nat :=
  (after i (atWord w [(1, 7), (2, 2 ^ 64 - 3)] vprog)).bind (fun t => (t.prog? 0 0).map (fun p => (p.vget r).getD 5 0))

/-- R152, R153, R163: hand calculations, lane 5 of v6. -/
theorem test_lanewise_results :
    ∀ e ∈ [(Instr.vadd 0 0, wordV 0x30 6 1 2 0 0 0 0, 0x40A00000), (.vsub 0 0, wordV 0x31 6 1 2 0 0 0 0, 0x3F800000),
           (.vmul 0 0, wordV 0x32 6 1 2 0 0 0 0, 0x40C00000), (.vfma 0 0, wordV 0x33 6 1 2 3 0 0 0, 0x40E00000),
           (.vmax 0 0, wordV 0x34 6 1 2 0 0 0 0, 0x40400000), (.vmin 0 0, wordV 0x35 6 1 2 0 0 0 0, 0x40000000),
           (.vdiv 0 0, wordV 0x36 6 1 2 0 0 0 0, 0x3FC00000), (.vsqrt 0 0, wordV 0x37 6 4 0 0 0 0 0, 0x40000000),
           (.vexp 0 0, wordV 0x3A 6 5 0 0 0 0 0, 0), (.vlog 0 0, wordV 0x3B 6 0 0 0 0 0 0, 0xFF800000),
           (.vtanh 0 0, wordV 0x3C 6 8 0 0 0 0 0, 0x3F800000), (.vabs 0 0, wordV 0x3D 6 5 0 0 0 0 0, 0x7F800000),
           (.vneg 0 0, wordV 0x3E 6 1 0 0 0 0 0, 0xC0400000), (.vsel 0 0, wordV 0x3F 6 1 2 0 0 0 0, 0x40400000),
           (.viadd 0 0, wordV 0x43 6 1 2 0 0 0 0, 0x80400000), (.vcvti 0 0, wordV 0x44 6 1 0 0 0 0 0, 0x4E808000),
           (.vcvtf 0 0, wordV 0x45 6 1 0 0 0 0 0, 3), (.viota 0 0, wordV 0x46 6 0 0 0 0 0 1, 12),
           (.vbcast 0 0, wordV 0x47 6 0 0 0 0 0 1, 7), (.vcadd 0 0, wordV 0x50 6 1 0 0 0 0 0, 0x40400000),
           (.vdadd 0 0, wordV 0x52 6 1 0 0 0 0 0, 0), (.xfadd 0 0, wordV 0x72 6 10 12 0 0 0 0, 0x40A00000),
           (.xfmad 0 0, wordV 0x73 6 10 2 3 0 0 0, 0x40A00000), (.xfmul 0 0, wordV 0x74 6 10 2 0 0 0 0, 0x40C00000),
           (.xfrn 0 0, wordV 0x75 6 10 0 0 0 0 0, 0x40400000)],
      lane5 6 e.1 e.2.1 = some e.2.2 := by decide +kernel

/-- R152: reductions and lane reads into s3 (and a mask register for the compares). -/
theorem test_reductions :
    ∀ e ∈ [(Instr.vrsum 0 0, wordV 0x56 0 1 0 0 0 0 3, 0x44400000), (.vrmax 0 0, wordV 0x54 0 1 0 0 0 0 3, 0x40400000),
           (.vrmin 0 0, wordV 0x55 0 1 0 0 0 0 3, 0x40400000), (.vcred 0 0, wordV 0x51 0 10 0 0 0 0 3, 0x44400000),
           (.vdred 0 0, wordV 0x53 0 14 0 0 0 0 3, 0x4088000000000000), (.vextr 0 0, wordV 0x17 0 9 2 0 0 0 3, 0x40000000)],
      s3 e.1 (atWord e.2.1 [] vprog) = some e.2.2 := by decide +kernel

theorem test_compares :
    ∀ e ∈ [(Instr.vcmplt 0 0, wordV 0x40 1 2 1 0 0 0 0, 2 ^ 256 - 1), (.vcmpeq 0 0, wordV 0x41 1 2 1 0 0 0 0, 0),
           (.visnan 0 0, wordV 0x42 1 2 0 0 0 0 0, 0)],
      (after e.1 (atWord e.2.1 [] vprog)).bind (fun t => (t.prog? 0 0).map (fun p => p.pget 1)) = some e.2.2 := by decide +kernel

theorem meets_MasksKeepTheirLanes : (lanes 0).length = 256 ∧ (vprog.vget 1).length = 256 := by decide +kernel

/-- Every instruction of format V that the lanewise, reduction and split statements name may execute. -/
theorem meets_LanewiseInstructionsCompute :
    ∀ op ∈ [0x17, 0x30, 0x31, 0x32, 0x33, 0x34, 0x35, 0x36, 0x37, 0x38, 0x39, 0x3A, 0x3B, 0x3C, 0x3D, 0x3E, 0x3F, 0x40, 0x41, 0x42, 0x43, 0x44,
        0x45, 0x46, 0x47],
      ∃ w, iOp w = op ∧ (atWord w [] vprog).At 0 0 vprog w := by
  have h : ∀ op ∈ [0x30, 0x31, 0x32, 0x34, 0x35, 0x36, 0x3F, 0x40, 0x41, 0x43],
      iOp (wordV op 2 4 6 0 0 0 0) = op ∧ (atWord (wordV op 2 4 6 0 0 0 0) [] vprog).At 0 0 vprog (wordV op 2 4 6 0 0 0 0) := by
    unfold State.At; decide +kernel
  have h1 : ∀ op ∈ [0x37, 0x38, 0x39, 0x3A, 0x3B, 0x3C, 0x3D, 0x3E, 0x42, 0x44, 0x45],
      iOp (wordV op 2 4 0 0 0 0 0) = op ∧ (atWord (wordV op 2 4 0 0 0 0 0) [] vprog).At 0 0 vprog (wordV op 2 4 0 0 0 0 0) := by
    unfold State.At; decide +kernel
  have h2 : ∀ op ∈ [0x46, 0x47],
      iOp (wordV op 2 0 0 0 0 0 9) = op ∧ (atWord (wordV op 2 0 0 0 0 0 9) [] vprog).At 0 0 vprog (wordV op 2 0 0 0 0 0 9) := by
    unfold State.At; decide +kernel
  have h3 : iOp (wordV 0x17 0 4 6 0 0 0 9) = 0x17 ∧ (atWord (wordV 0x17 0 4 6 0 0 0 9) [] vprog).At 0 0 vprog (wordV 0x17 0 4 6 0 0 0 9) := by
    unfold State.At; decide +kernel
  have h4 : iOp (wordV 0x33 2 4 6 1 0 0 0) = 0x33 ∧ (atWord (wordV 0x33 2 4 6 1 0 0 0) [] vprog).At 0 0 vprog (wordV 0x33 2 4 6 1 0 0 0) := by
    unfold State.At; decide +kernel
  intro op ho
  simp only [List.mem_cons, List.not_mem_nil, or_false] at ho h h1 h2
  rcases ho with rfl | rfl | rfl | rfl | rfl | rfl | rfl | rfl | rfl | rfl | rfl | rfl | rfl | rfl | rfl | rfl | rfl | rfl | rfl | rfl | rfl |
    rfl | rfl | rfl | rfl
  all_goals first
    | exact ⟨_, h3⟩
    | exact ⟨_, h4⟩
    | exact ⟨_, h _ (by decide)⟩
    | exact ⟨_, h1 _ (by decide)⟩
    | exact ⟨_, h2 _ (by decide)⟩

theorem meets_ReductionsAndSplitOperations :
    (∀ op ∈ [0x51, 0x53, 0x54, 0x55, 0x56], (atWord (wordV op 0 4 0 0 0 0 9) [] vprog).At 0 0 vprog (wordV op 0 4 0 0 0 0 9)) ∧
    (∀ op ∈ [0x50, 0x52, 0x75], (atWord (wordV op 2 4 0 0 0 0 0) [] vprog).At 0 0 vprog (wordV op 2 4 0 0 0 0 0)) ∧
    (∀ op ∈ [0x72, 0x74], (atWord (wordV op 2 4 6 0 0 0 0) [] vprog).At 0 0 vprog (wordV op 2 4 6 0 0 0 0)) ∧
    (atWord (wordV 0x73 2 4 6 1 0 0 0) [] vprog).At 0 0 vprog (wordV 0x73 2 4 6 1 0 0 0) := by unfold State.At; decide +kernel

theorem meets_ScalarInstructionsCompute :
    (∀ op ∈ [0x01, 0x03, 0x04, 0x05, 0x06, 0x07, 0x0D, 0x0E, 0x0F, 0x10, 0x11],
      (atWord (wordS op 3 1 2 0)).At 0 0 prog0 (wordS op 3 1 2 0) ∧ iOp (wordS op 3 1 2 0) = op) ∧
    (∀ op ∈ [0x02, 0x08, 0x09, 0x0A], (atWord (wordS op 3 1 0 5)).At 0 0 prog0 (wordS op 3 1 0 5) ∧ iOp (wordS op 3 1 0 5) = op) ∧
    (∀ op ∈ [0x0B, 0x0C, 0x16], (atWord (wordS op 3 0 0 5)).At 0 0 prog0 (wordS op 3 0 0 5) ∧ iOp (wordS op 3 0 0 5) = op) ∧
    (atWord (wordS 0x16 3 0 0 5)).thread? 0 0 = some thread0 ∧ iImm (wordS 0x16 3 0 0 7) < 8 := by unfold State.At; decide +kernel

theorem meets_ControlInstructionsMoveThePc :
    let lim : Program := { prog0 with count := 1073741824 }
    (∀ op ∈ [0x12, 0x13], (atWord (wordS op 0 1 0 1)).At 0 0 prog0 (wordS op 0 1 0 1)) ∧
    (∀ op ∈ [0x14, 0x15], (atWord (wordS op 0 0 0 1)).At 0 0 prog0 (wordS op 0 0 0 1)) ∧
    (atWord 0).thread? 0 0 = some thread0 ∧ thread0.prog = some prog0 ∧ ((atWord 0).facet 0).bands = [] ∧ prog0.held = none ∧ prog0.failing = [] ∧ prog0.combine = false ∧
    (atWord 0 [] lim).thread? 0 0 = some (thread0 lim) ∧ lim.framed = true ∧ (atWord 0).insnLimit 0 ≤ lim.count ∧
    (atWord 0).prog? 0 0 = some prog0 ∧ (atWord 0).GoesOn 0 prog0 1 ∧ facetBytes < prog0.base + 8 * 262144 + 8 ∧
    (atWord 0).Clean 0 (prog0.base + 8 * 0) 8 ∧ insnDefined (ofLE ((atWord 0).fmBytes 0 (prog0.base + 8 * 0) 8)) = false := by
  unfold State.At State.GoesOn State.Clean; decide +kernel

/-- A RUN_PROGRAM descriptor of one instruction at byte 64 (R149). -/
def runDesc : Nat := 0x20 * 2 ^ 504 + 2 * 2 ^ 480 + 1 * 2 ^ 464

/-- Thread 0 of facet 0 holds item 1 with a descriptor; no program runs. -/
def atItem (desc : Nat) (issued : Bool := true) : State :=
  { atWord 0 with
    facets := [(0, { threads := [(0, { thread0 with prog := none, issued := if issued then 1 else 0 })], owner := some (0, 0) })]
    items := [(1, { ctx := 0, gen := 0, origin := .planned 2 0 0, desc := desc, issued := issued })] }

theorem meets_ThreadsTakeTheirPrograms :
    let s := atItem runDesc false
    let u := atItem runDesc
    let th : Thread := { thread0 with prog := none, issued := 0 }
    let ready1 : Thread := { thread0 with wait := .ready }
    let q := { atWord 0 with facets := [(0, { threads := [(0, thread0)], frameQueue := [0] })] }
    s.thread? 0 0 = some th ∧ (s.facet 0).zeroing = false ∧ s.slotZeroing th = false ∧ th.items[th.issued]? = some 1 ∧ (s.item? 1).isSome ∧ th.issued = 0 ∧
    ({ atWord 0 with facets := [(0, { threads := [(0, ready1)] })] } : State).thread? 0 0 = some ready1 ∧ ready1.wait = .ready ∧ u.frameFree 0 = true ∧ q.frameFree 0 = false ∧
    (∃ it ∈ u.item? 1, it.facet = 0 ∧ it.isDone = false ∧ descOpcode it.desc = 0x20 ∧ u.mayStart it = true ∧
      ∃ th ∈ u.thread? 0 0, programCheck th it = 0 ∧ u.threadOf 0 1 = some (0, th) ∧ th.prog = none) ∧
    (q.facet 0).frameQueue = [0] ∧ q.framesUsed 0 < 4 ∧ (∃ th ∈ q.thread? 0 0, th.prog = some prog0) := by decide +kernel

theorem meets_FacetMemoryHoldsItsBytes :
    (({ atWord 0 with facets := [(0, { zeroing := true })] } : State).facet 0).zeroing = true ∧ (atWord 0).fm.mem.wf = true
      ∧ (atWord 0).RowClean 0 128 32 3 ∧ (atWord 0).hbm.armed = false ∧ facetBytes < (facetBytes - 1) + [(1 : Byte), 2].length ∧ (facetBytes - 2) + [(1 : Byte), 2].length ≤ facetBytes := by
  unfold State.RowClean; decide +kernel

theorem meets_ScalarLoadsAndStores :
    (atWord (wordS 0x1D 3 1 0 121)).At 0 0 prog0 (wordS 0x1D 3 1 0 121) ∧ (atWord 0).Clean 0 128 8 ∧
    (atWord (wordS 0x1D 3 2 0 0)).At 0 0 prog0 (wordS 0x1D 3 2 0 0) ∧ facetBytes < (2 ^ 64 - 3) + 8 ∧
    (atWord (wordS 0x1E 3 1 0 121)).At 0 0 prog0 (wordS 0x1E 3 1 0 121) ∧ (atWord 0).spoisoned 0 0 3 = false ∧
    ({ atWord 0 with facets := [(0, { regPoison := [3] })] } : State).spoisoned 0 0 3 = true ∧
    (let s := atWord (wordS 0x1D 3 1 0 121)
     ((s.setFm { s.fm with poison := [16] }).fmRead 0 128 8).1.poison = true ∧ (s.fmRead 0 128 8).1.poison = false ∧ 128 + 8 ≤ facetBytes) := by
  unfold State.At State.Clean; decide +kernel

theorem meets_VectorLoadsTakeTheirBytes :
    (atWord (wordM 0x60 6 1 4 0 121) [(1, 7)] vprog).At 0 0 vprog (wordM 0x60 6 1 4 0 121) ∧
    (atWord (wordV 0x65 6 0 9 0 0 0 1) [(1, 128)] vprog).At 0 0 vprog (wordV 0x65 6 0 9 0 0 0 1) ∧
    (atWord (wordM 0x67 1 1 0 0 121) [(1, 7)] vprog).At 0 0 vprog (wordM 0x67 1 1 0 0 121) ∧
    (atWord (wordM 0x70 6 1 0 0 121) [(1, 7)] vprog).At 0 0 vprog (wordM 0x70 6 1 0 0 121) ∧
    (atWord 0).RowClean 0 128 4 (2 ^ 256 - 1) ∧ ((atWord 0).readRow 0 128 32 5).1.protection = false ∧
    ((atWord 0).readRow 0 (2 ^ 21 - 4) 32 5).1.protection = true ∧ wordsInside (maskedAddrs 3 [128, 132]) = true ∧
    wordsInside (maskedAddrs 3 [128, 2 ^ 21]) = false ∧ ((atWord 0).fmRead 0 128 32).1.poison = false ∧
    (((atWord 0).setFm { (atWord 0).fm with poison := [16] }).fmRead 0 128 32).1.poison = true := by
  unfold State.At State.RowClean; decide +kernel

/-- R147: a word that only masked-off lanes lie in is not read. -/
theorem test_masked_lanes_are_not_read :
    let s := (atWord 0).setFm { (atWord 0).fm with poison := [17] }
    (s.readRow 0 128 32 1).1.poison = false ∧ (s.readRow 0 128 32 5).1.poison = true := by decide +kernel

theorem meets_VectorStoresWriteTheirLanes :
    let a := wordM 0x61 2 1 0 0 121
    let b := wordM 0x61 2 2 10 0 0
    let c := wordV 0x66 0 2 9 0 0 0 1
    let d := wordM 0x71 10 1 0 0 121
    let s := fun w => atWord w [(1, 128), (2, 2 ^ 21 - 4)] vprog
    (s a).At 0 0 vprog a ∧ wordsInside ((bitsOf 256 (vprog.pget (iMPM a))).map (fun i => (s a).maddr 0 0 a + 4 * i)) = true ∧
    (s b).At 0 0 vprog b ∧ wordsInside ((bitsOf 256 (vprog.pget (iMPM b))).map (fun i => (s b).maddr 0 0 b + 4 * i)) = false ∧
    (s c).At 0 0 vprog c ∧ wordsInside (maskedAddrs (vprog.maskV c) ((s c).indexed 0 0 vprog c)) = true ∧
    (s d).At 0 0 vprog d ∧ vprog.vpoison 10 = 0 ∧ vprog.vpoison 11 = 0 ∧ (vprog.vget 11).length = 256 := by
  unfold State.At; decide +kernel

theorem meets_DropoutDrawsItsMask :
    (atWord (wordV 0x78 1 0 0 0 0 0 4) [] vprog).At 0 0 vprog (wordV 0x78 1 0 0 0 0 0 4)
      ∧ (atWord (wordV 0x78 1 0 0 0 0 0 4) [] vprog).thread? 0 0 = some (thread0 vprog) := by unfold State.At; decide +kernel

theorem meets_NarrowingStoreStagesBands :
    let g : VCfg := { data := 4096, scale := 8192, tag := 9216, fmt := 3, block := 32, classG := false, k := 512, m := 64, record := 2 ^ 35 - 1 }
    let p : Program := { vprog with cfg := some g }
    let w := wordV 0x62 0 1 0 0 0 0 4
    (atWord (wordV 0x63 0 0 0 0 0 0 4) [] vprog).At 0 0 vprog (wordV 0x63 0 0 0 0 0 0 4) ∧
    (atWord (wordV 0x64 0 0 0 0 0 0 0) [] vprog).At 0 0 vprog (wordV 0x64 0 0 0 0 0 0 0) ∧
    (let s := atWord w [(4, 256 * 2 ^ 32 + 63)] p
     let b : Band := { cfg := { g with fmt := 4 }, row := 0, k := 0, item := 1, ctx := 0, step := 0, place := 0, buf := 0 }
     (s.facet 0).bands = [] ∧ ((s.setBands 0 [b, b]).facet 0).bands = [b, b] ∧ (b == { b with cfg := g }) = false) ∧
    (atWord w [(4, 256 * 2 ^ 32 + 63)] p).At 0 0 p w ∧ p.cfg = some g ∧ VCfg.inside g = true ∧ 63 < g.m ∧ 256 < g.k ∧ 256 % 256 = 0 := by
  unfold State.At; decide +kernel

theorem meets_HeldTilesAreReadAndCombined :
    let tile : AccTile := { array := 3, row := 0, col := 0, vals := List.replicate 1024 0x3F800000, tag := 8 }
    let b : BackTile := { item := 9, superTile := 2, tile := tile, hold := true }
    let p : Program := { vprog with held := some 9, cur := some 3 }
    let s := fun (w : Nat) (l : List BackTile) => let s := atWord w [] p; s.setFacet 0 { s.facet 0 with back := l }
    let d := 0x21 * 2 ^ 504 + (1 * 2 ^ 32 + 256 * 2 ^ 16 + 192) * 2 ^ 320 + (16 * 2 ^ 48 + 128 * 2 ^ 32 + 16 * 2 ^ 16 + 4) * 2 ^ 384
    (s (wordV 0x68 0 0 0 0 0 0 4) [b]).At 0 0 p (wordV 0x68 0 0 0 0 0 0 4) ∧
    (s (wordV 0x68 0 0 0 0 0 0 4) []).At 0 0 p (wordV 0x68 0 0 0 0 0 0 4) ∧
    (s (wordV 0x69 6 1 0 0 0 0 0) [{ b with taken := true }]).At 0 0 p (wordV 0x69 6 1 0 0 0 0 0) ∧
    (s (wordV 0x6A 0 0 0 0 0 0 0) []).At 0 0 p (wordV 0x6A 0 0 0 0 0 0 0) ∧
    (∃ it ∈ (atItem d).item? 1, (atItem d).frameFree it.facet = true ∧ it.isDone = false ∧ descOpcode it.desc = 0x21 ∧ (atItem d).mayStart it = true
      ∧ ∃ th ∈ (atItem d).thread? 0 0, (atItem d).threadOf it.facet 1 = some (0, th) ∧ th.prog = none ∧ combineCheck th it = 0) ∧
    (let u := (atItem d).setThread 0 0 { thread0 with prog := some { item := 1, base := 0, combine := true, framed := true }, issued := 1 }
     u.threadOf 0 1 = (u.thread? 0 0).map (fun th => (0, th)) ∧ (u.thread? 0 0).any (fun th => th.wait == .no && th.prog.any (fun p => p.combine)) = true) ∧
    (s (wordV 0x69 6 1 0 0 0 0 0) [{ b with taken := true }]).curTile 0 p = some { b with taken := true } ∧
    (s (wordV 0x69 6 1 0 0 0 0 0) []).curTile 0 p = none ∧
    (∃ it ∈ (atItem (0x21 * 2 ^ 504)).item? 1, ∃ th ∈ (atItem (0x21 * 2 ^ 504)).thread? 0 0, combineCheck th it ≠ 0) := by
  unfold State.At; decide +kernel

/-- A MATMUL of one INT8 row by one INT8 column of one element: A at 512, B at 1,024, output at 1,536 (04_matrix_engine R129). -/
def mulDesc : Nat :=
  0x10 * 2 ^ 504 + 9 * 2 ^ 496 + 9 * 2 ^ 488 + 16 * 2 ^ 384 + 32 * 2 ^ 320 + 48 * 2 ^ 256 + (2 ^ 35 - 1) * 2 ^ 157 + (2 ^ 35 - 1) * 2 ^ 122

/-- The facet with 3 and -5 as the operands. -/
def atMul : State := let s := atItem mulDesc; s.setFm { s.fm with mem := (s.fm.mem.put 512 3).put 1024 0xFB }

/-- R108, R111: 3 x -5 = -15 as the INT32 word of the tile. -/
theorem test_matmul_int8 :
    ((after (.matmul 1) atMul).bind (after (.kLoopEnd 0))).bind (fun t => (t.facet 0).mat.bind (fun r => r.tiles.map (fun l =>
      l.map (fun t => (t.array, t.vals.getD 0 0))))) = some [(0, 2 ^ 32 - 15)] := by decide +kernel

theorem meets_MatrixWorkRunsInOrder :
    (∃ it ∈ atMul.item? 1, it.isDone = false ∧ atMul.mayStart it = true ∧ (atMul.facet it.facet).mat = none ∧ descOpcode it.desc = 0x10
      ∧ matrixCheck it.desc = 0 ∧ recordOf (mdARec it.desc) = none ∧ recordOf (mdBRec it.desc) = none ∧ mdAccIn it.desc = false
      ∧ mdDyn it.desc = 0 ∧ mdHold it.desc = false) ∧
    matrixCheck (mulDesc + 1) = 1 ∧ matrixCheck (mulDesc + 2 ^ 407) = 0 ∧ mdDyn (mulDesc + 2 ^ 407) = 1
      ∧ atMul.Clean 0 (mdDynAddr (mulDesc + 2 ^ 407)) 4 ∧ ofLE (atMul.fmBytes 0 (mdDynAddr (mulDesc + 2 ^ 407)) 4) = 0
      ∧ matrixCheck (mulDesc + 2 ^ 504 + 64 * 2 ^ 224) = 0 ∧ matrixCheck (mulDesc + 2 * 2 ^ 504 + 64 * 2 ^ 224) = 0
      ∧ atMul.hbm.armed = false ∧ atMul.fm.mem.wf = true ∧
    (∃ t ∈ after (.matmul 1) atMul, ∃ r ∈ (t.facet 0).mat, r.tiles = none ∧ (t.item? r.item).isSome ∧ (t.facet 0).back = []
      ∧ r.superCount mulDesc ≤ r.superTile + 1) := by
  unfold State.Clean; decide +kernel

/-! ### 06_sparsity, 08_backward_and_training: the stream DMA -/

/-- Facet 0 serves context 0: slot 0 of its running plan runs there. -/
def serving : State := running.setPlan 0 { running.plan 0 with slots := [(0, { phase := .running, facets := 1 })] }

/-- `serving` with a planned item 1 of slot 0, and eight bytes at address 128 of facet 0. -/
def withDesc (d : Nat) : State :=
  { serving with
    fm := { serving.fm with mem := Memory.putN {} 128 [1, 2, 3, 4, 5, 6, 7, 8] }
    items := [(1, { ctx := 0, gen := 0, origin := .planned 0 0 0, desc := d, issued := true })]
    nextItem := 2 }

/-- FILL of 64 bytes at facet address 256 with a word; COPY of 8 bytes from 128 to 256 (R178). -/
def fillDesc : Nat := 0x35 * 2 ^ 504 + 63 * 2 ^ 432 + 0x11223344 * 2 ^ 392 + (apertureBase + 256) * 2 ^ 328
def copyDesc : Nat := 0x30 * 2 ^ 504 + 7 * 2 ^ 432 + (apertureBase + 128) * 2 ^ 392 + (apertureBase + 256) * 2 ^ 328

/-- R178: the word of a FILL is stored in little-endian order over its whole range. -/
theorem test_fill : (after (.fill { item := 1 }) (withDesc fillDesc)).map (fun t => (t.fm.mem.getN 256 5, t.fm.mem.get 319, t.fm.mem.get 320)) =
    some ([0x44, 0x33, 0x22, 0x11, 0x44], 0x11, 0) := by decide +kernel

theorem test_copy : (after (.copy { item := 1 }) (withDesc copyDesc)).map (fun t => t.fm.mem.getN 256 9) = some [1, 2, 3, 4, 5, 6, 7, 8, 0] := by
  decide +kernel

theorem meets_StreamDescriptorsRunToTheirEnd :
    (∃ it ∈ (withDesc fillDesc).item? 1, it.isDone = false ∧ (withDesc fillDesc).mayStart it = true ∧ descOpcode it.desc = 0x35
      ∧ ((withDesc fillDesc).start 1).streamCheck it.ctx it.desc = 0) ∧
    (∃ it ∈ (withDesc copyDesc).item? 1, descOpcode it.desc = 0x30 ∧ ((withDesc copyDesc).start 1).streamCheck it.ctx it.desc = 0
      ∧ sdDyn it.desc = false) ∧
    ((withDesc (fillDesc + 1)).start 1).streamCheck 0 (fillDesc + 1) = 1 ∧
    (withDesc fillDesc).hbm.armed = false ∧ (withDesc fillDesc).fm.mem.wf = true ∧ sdData fillDesc = apertureBase + 256 ∧ sdLength fillDesc = 64
      ∧ 256 % facetBytes + 64 ≤ facetBytes ∧ (withDesc fillDesc).facetServes 0 0 = true ∧ (withDesc copyDesc).Clean 0 128 8 := by
  unfold State.Clean; decide +kernel

/-! ### 12_fabric_memory -/

/-- A fabric address: node and offset (R329). -/
def faddr (node off : Nat) : Nat := node * 2 ^ 50 + off

/-- An element program's word with a fabric address in s1 and 8 in s2. -/
def atFabric (w a : Nat) : State := atWord w [(1, a), (2, 8)]

theorem meets_FabricInstructionsIssueRequests :
    let far := faddr 6 4096
    let own := faddr 5 4096
    let line : FabLine := { ctx := 0, gen := 0, addr := far, bytes := List.replicate 128 7 }
    let held := { atFabric (wordS 0x18 3 1 4 0) far with fab := { lines := [line] } }
    (∀ w ∈ [wordS 0x18 3 1 4 0, wordS 0x18 3 1 4 1, wordS 0x19 3 1 0 0, wordS 0x1B 3 0 0 0, wordS 0x1C 0 1 2 0],
      (atFabric w far).At 0 0 prog0 w ∧ (atFabric w far).thread? 0 0 = some thread0 ∧ (atFabric w far).spoisoned 0 0 1 = false) ∧
    (∀ op ∈ [0, 1, 2, 3], ∀ ty ∈ [0, 1], (atFabric (wordS 0x1A 4 1 2 (16 * ty + op)) far).At 0 0 prog0 (wordS 0x1A 4 1 2 (16 * ty + op))) ∧
    (atFabric 0 far).threadTarget 0 far 8 = some 6 ∧ (atFabric 0 own).threadTarget 0 own 8 = some 5 ∧ (atFabric 0 own).node = 5 ∧
    faOff far < apertureBase ∧ held.lineOf 0 far = some line ∧ (atFabric 0 far).lineOf 0 far = none ∧
    (atFabric 0 (far + 4)).threadTarget 0 (far + 4) 8 = none ∧ thread0.stores.length < 32 ∧
    32 ≤ ({ thread0 with stores := List.range 32 } : Thread).stores.length := by
  unfold State.At; decide +kernel

/-- R334: a STORE record of FSEQ 2 with operand 0x0102, to facet offset 128: the bytes stand most significant first. -/
def storeRec : FabRecord := { op := 1, aop := 0, ty := 0, retry := false, off := apertureBase + 128, fseq := 2, fack := 1, operand := 0x0102, compare := 0, data := [] }

/-- A record of VC4 from node 6 that the flow has delivered. -/
def inboxed (b : Bytes) (s : State := withDesc 0) : State := s.setHup { s.hup with inbox := [{ node := 6, vc := 4, ctx := 0, close := false, bytes := b }] }

/-- R334: OP 1 in bits 255:252, OFFSET in 239:200, FSEQ in 199:168, FACK in 167:136, OPERAND in 127:64. -/
theorem test_store_record_bytes : storeRec.bytes =
    [0x10, 0, 0xFF, 0, 0, 0, 0x80, 0, 0, 0, 2, 0, 0, 0, 1, 0, 0, 0, 0, 0, 0, 0, 1, 2, 0, 0, 0, 0, 0, 0, 0, 0] := by decide +kernel

/-- R332, R336: a STORE writes its eight bytes in little-endian order, once. -/
theorem test_fabric_store :
    (after (.fabricStore 6 4) (inboxed storeRec.bytes)).map (fun t => (t.fm.mem.getN 128 8, t.fab.entries.length)) =
      some ([2, 1, 0, 0, 0, 0, 0, 0], 1) := by decide +kernel

theorem meets_FabricRequestsArePerformedOnce :
    let q := fun (r : FabRecord) => inboxed r.bytes
    let want := fun (op aop : Nat) (r : FabRecord) => r.op == op && (r.op != 2 || r.aop == aop)
    let full := (q storeRec).setReg Obj.FABRIC_RCACHE_ENTRIES 0 0
    let known := (q storeRec).setFab { (q storeRec).fab with entries := [⟨6, 0, 2, 1, 0, 1, 0, 0, 0, false⟩] }
    (∃ e ∈ (q storeRec).takeRequest 6 4 (want 1 0), e.2.fabEntry e.1 = none
      ∧ ¬ e.2.reg Obj.FABRIC_RCACHE_ENTRIES ≤ e.2.fab.entries.length + e.2.fab.horizons.length
      ∧ e.1.record.off = apertureBase + 128 ∧ e.2.facetServes (128 / facetBytes) e.1.ctx = true ∧ e.2.fm.mem.wf = true ∧ e.2.hbm.armed = false) ∧
    (∃ e ∈ full.takeRequest 6 4 (want 1 0), e.2.fabEntry e.1 = none
      ∧ e.2.reg Obj.FABRIC_RCACHE_ENTRIES ≤ e.2.fab.entries.length + e.2.fab.horizons.length) ∧
    (∃ e ∈ known.takeRequest 6 4 (want 1 0), (e.2.fabEntry e.1).isSome) ∧
    (∃ e ∈ (q { storeRec with op := 3, data := List.replicate 32 9 }).takeRequest 6 4 (want 3 0), e.1.record.off % 32 = 0
      ∧ e.1.record.data.length % 32 = 0 ∧ e.1.record.data ≠ []) ∧
    (∀ op ∈ [0, 1, 2, 3], ∃ e ∈ (q { storeRec with op := 2, aop := op, ty := 1 }).takeRequest 6 4 (want 2 op),
      e.1.record.off % atomicSize e.1.record.ty = 0 ∧ e.2.Clean (128 / facetBytes) 128 (atomicSize e.1.record.ty)) ∧
    (∃ e ∈ (q { storeRec with op := 0, operand := 8 }).takeRequest 6 4 (want 0 0), loadFits e.1.record.off e.1.record.operand = true) ∧
    (∃ e ∈ (q { storeRec with op := 4 }).takeRequest 6 4 (want 4 0), e.1.record.fseq = 2) := by
  unfold State.Clean; decide +kernel

/-- A GET of 32 bytes from node 6's offset 0 to facet address 256 (R345). -/
def getDesc (op : Nat) : Nat := op * 2 ^ 504 + 4 * 2 ^ 501 + 32 * 2 ^ 464 + faddr 6 0 * 2 ^ 400 + (apertureBase + 256) * 2 ^ 360

theorem meets_FabricTransfersAndReplies :
    let req : FabReq := { serial := 1, node := 6, fseq := 2, ctx := 0, gen := 0, op := 1, off := 0, why := .store 0 0 1 }
    let rep := fun (busy : Bool) => (beBytes 32 (place 1 252 4 + place (ofBool busy) 240 1 + place 2 200 32))
    let s := fun (r : FabReq) => (inboxed (rep false)).setFab { (inboxed (rep false)).fab with reqs := [r] }
    (∀ op ∈ [0x60, 0x61, 0x63], ∃ it ∈ (withDesc (getDesc op)).item? 1, (withDesc (getDesc op)).fabricCheck it.ctx it.desc = 0
      ∧ descOpcode it.desc = op ∧ (withDesc (getDesc op)).fabTarget it.ctx (fdRemote it.desc) = some 6
      ∧ (withDesc (getDesc op)).inMirrorSlot it = false) ∧
    (withDesc (0x62 * 2 ^ 504 + 4 * 2 ^ 501)).fabricCheck 0 (0x62 * 2 ^ 504 + 4 * 2 ^ 501) = 0 ∧
    (withDesc (getDesc 0x60 + 1)).fabricCheck 0 (getDesc 0x60 + 1) ≠ 0 ∧
    (∃ e ∈ (s req).takeInbox 6 4 fabricsRecord, ∃ r ∈ e.2.req? 6 (replyAt e.1.bytes).fseq, r.op = (replyAt e.1.bytes).op) ∧
    (∃ r ∈ (s { req with busy := true }).req? 6 2, r.dead = false ∧ r.busy = true) ∧
    (∃ r ∈ (s { req with acked := true }).req? 6 2, r.acked = true ∧ r.busy = false ∧ r.resolving = false
      ∧ (s { req with acked := true }).peerGen 6 r.ctx = r.dstGen ∧ r.retries < (s { req with acked := true }).reg Obj.FABRIC_RETRY_LIMIT) ∧
    (∃ r ∈ (s { req with acked := true, retries := 255 }).req? 6 2,
      (s { req with acked := true }).reg Obj.FABRIC_RETRY_LIMIT ≤ r.retries) ∧
    (∃ r ∈ (s { req with acked := true, dstGen := 7 }).req? 6 2, (s { req with acked := true }).peerGen 6 r.ctx ≠ r.dstGen) := by
  decide +kernel

/-! ### 13_hbm_and_ecc, 14_queues_and_pools, 07_expert_routing -/

/-- `serving`, whose context 1 has a region of four units from unit 22,880 on and an EMPTY plan, with a merge entry for sector 9. -/
def regioned : State :=
  let s := (serving.setFields Obj.HBM_REGION 1 [22880, 4]).setHbm
    { serving.hbm with written := [2], merge := [{ sector := 9, bytes := [(3, 7)] }], mem := Memory.putN {} (32 * 9) [1, 2, 3, 4, 5] }
  s.setFm { s.fm with corrected := [5], flips := [(5, (1, 0))] }

/-- R362: the bytes written are merged into the sector, the others stay. -/
theorem test_merge_writeback :
    (after (.mergeIdleWriteback 9) regioned).map (fun t => (t.hbm.mem.getN 288 5, t.hbm.merge)) = some ([1, 2, 3, 7, 5], []) := by
  decide +kernel

theorem meets_HbmFollowsItsCommands :
    Takes regioned (.host 0) Obj.HBM_REGION 1 true ∧ regioned.regionRefusal 1 22881 3 = 0 ∧ regioned.regionRefusal 1 22884 1 ≠ 0 ∧
    Takes regioned (.bmc 8) Obj.HBM_REGION 0 true ∧
    Takes regioned (.host 0) Obj.HBM_UNIT_WRITTEN 0 false ∧ Takes regioned (.host 0) Obj.HBM_RETIRED_PAGES 0 false ∧
    (regioned.mergeEntry 9).isSome ∧ regioned.pageRetired (9 * 32) = false ∧ regioned.hbm.poison = [] ∧ regioned.hbm.flips = [] ∧
    regioned.hbm.armed = false ∧ regioned.hbm.mem.wf = true ∧ regioned.recalibrating (pcStack 511) = false ∧
    regioned.sectorLost 9 = false ∧ (regioned.setHbm { regioned.hbm with poison := [9] }).sectorLost 9 = true ∧ regioned.mergeEntry 8 = none ∧
    (let q := (regioned.setHbm { regioned.hbm with merge := [], flips := [(pcSector 511 2048 / 32, (1, 0))] }).suffer {}
     tfind q.hbm.flips (pcSector 511 2048 / 32) = some (1, 0) ∧ q.sectorLost (pcSector 511 2048 / 32) = false ∧ q.nextScrub 511 8192 0 = some 2048) ∧
    (∃ k ∈ regioned.nextScrub 511 8192 0, regioned.mergeEntry (pcSector 511 k / 32) = none) ∧
    Takes regioned (.host 0) Obj.ECC_FLIP_CONTROL 6 false ∧ regioned.fm.corrected.contains 5 = true := by
  unfold Takes; decide +kernel

/-- A queue record: queue 7 of context 0, in function 0, both rings in the facet memory of facet 0 (R375). -/
def queueRec : Nat := 7 * 2 ^ 496 + 3 * 2 ^ 480 + 3 * 2 ^ 460 + 7 * 2 ^ 438 + 1024 * 2 ^ 376 + 8192 * 2 ^ 336

/-- READY with that queue, one descriptor of an opcode at SQ index 0, and SQ_TAIL 1. -/
def queued (op : Nat) : State :=
  (serving.setQueue 7 { record := queueRec, sqTail := 1 }).setFm
    { serving.fm with mem := Memory.putN {} 1024 (leBytes 64 (op * 2 ^ 504)) }

/-- The one item of that queue, accepted; and finished. -/
def accepted (d : Nat) : State :=
  { (queued 0).setQueue 7 { record := queueRec, sqHead := 1, sqTail := 1 } with
    items := [(0, { ctx := 0, gen := 0, origin := .queued 7 0, desc := d })], nextItem := 1 }
def finished : State :=
  { accepted 0 with items := [(0, { ctx := 0, gen := 0, origin := .queued 7 0, desc := 0, phase := .done .ok .notApplied })] }

theorem meets_QueuesFollowTheirCommands :
    let s := queued 0x80
    Takes serving (.host 0) Obj.QUEUE_CREATE 0 false ∧ serving.queueRefusal (.host 0) queueRec = 0 ∧ s.queueRefusal (.host 0) queueRec ≠ 0 ∧
    Takes s (.host 0) Obj.QUEUE_CONTROL 0 false ∧ (s.queue? 7).isSome ∧ s.controlRefusal (.host 0) 7 = 0 ∧ s.power.perst = false ∧
    s.doorbellTakes 0 7 4 1 = true ∧ s.doorbellTakes 0 7 2 1 = false ∧ (∃ x ∈ s.queue? 7, s.queueHeld 7 x = false) ∧
    (∃ x ∈ (accepted 0).queue? 7, (accepted 0).queueHeld 7 x = true) := by
  unfold Takes; decide +kernel

/-- R380: SQ_TAIL that lies more than the ring's size past SQ_HEAD puts the queue in ERROR, one behind is counted and discarded. -/
theorem test_doorbell :
    (after (.sqTailDoorbell 0 7 4 65) (queued 0)).bind (fun t => (t.queue? 7).map (fun x => (x.state, x.errorCode))) = some (3, 1) ∧
    (after (.sqTailDoorbell 0 7 4 0) (queued 0)).map (fun t => t.reg Obj.DOORBELL_DISCARD_COUNT) = some 1 := by decide +kernel

/-- A queue with a descriptor to accept, and two wrong bits in its record. -/
def badRecord : State :=
  let s := queued 0x80
  s.setFm { s.fm with flaws := [{ cls := 8, inst := 7, word := 3, double := true }] }

/-- 15_faults_and_recovery R410: an uncorrectable word in a queue record resets the context, which raises its generation (R407); nothing is
accepted. -/
theorem test_bad_record : (after (.descriptorAccept 7) badRecord).map (fun t => (t.gen 0, t.nextItem, t.reg Obj.SRAM_UNCORRECTABLE_COUNT 8)) =
    some (1, badRecord.nextItem, 1) := by decide +kernel

theorem meets_QueueItemsComeAndGo :
    let far := (accepted 0).setQueue 7 { record := queueRec, state := 1, holdoff := true, holdoffHit := true, deferred := [] }
    (∃ x ∈ (queued 0x80).queue? 7, (queued 0x80).canAccept 7 x = true ∧ (queued 0x80).turn x = true ∧
      ∃ g ∈ some ((queued 0x80).ctxRead (qrContext x.record) (sqOffset x.record + x.sqHead % sqSize x.record * 64) 64 11).1,
        g.protection = false ∧ g.poison = false ∧ queueOpcode (descOpcode g.num) = true) ∧
    ((queued 0x80).sramRead 8 7 0 8 0 0xFFFF).1 = [] ∧
    (∃ x ∈ badRecord.queue? 7, badRecord.canAccept 7 x = true ∧ badRecord.turn x = true ∧ (badRecord.sramRead 8 7 0 8 (qrContext x.record) 0xFFFF).1 ≠ []) ∧
    (∃ it ∈ finished.item? 0, it.isDone = true ∧ finished.onLadder 0 = false) ∧
    (∃ x ∈ (accepted 0).queue? 7, (accepted 0).canAccept 7 x = false) ∧ (accepted 0).onLadder 0 = false ∧
    ((((queued 0x80).setFm { (queued 0x80).fm with poison := [128] }).ctxRead 0 (sqOffset queueRec) 64 11).1.poison = true) ∧
    finished.planRing 0 = none ∧ (∃ x ∈ far.queue? 7, far.facetServes (qrFacet x.record) (qrContext x.record) = true ∧ x.holdoff = true) ∧
    (∀ op ∈ [0x80, 0x81, 0x82], ∃ it ∈ (accepted (op * 2 ^ 504)).item? 0, it.isDone = false ∧ (accepted (op * 2 ^ 504)).mayStart it = true
      ∧ descOpcode it.desc = op ∧ (accepted (op * 2 ^ 504)).queue? (qdTarget it.desc) = none) ∧
    (∃ x ∈ (accepted (0x81 * 2 ^ 504 + 7 * 2 ^ 488)).queue? 7, x.state = 1) := by
  decide +kernel

/-- READY with one queued item, whose requester 0 of context 0 may hold four buffers of pool 0, which has one free buffer at offset 0,
its ring at 4,096 and its table at 8,192 (R392). -/
def pooled (d : Nat) : State :=
  let s := (accepted d).setFields Obj.POOL_REQUESTER 0 (0 :: (List.replicate 8 0 ++ List.replicate 8 4))
  let s := s.setFields Obj.POOL_REQUESTER 1 (0 :: (List.replicate 8 0 ++ List.replicate 8 4))
  let s := s.setRegF Obj.POOL_CONFIG 0 0 (1 * 2 ^ 192 + 4096 * 2 ^ 152 + 8192 * 2 ^ 112)
  s.setPool 0 0 { cache := [handleOf 0 0 0] }

/-- Its buffer 0 is held by requester `o`. -/
def heldBy (o d : Nat) : State :=
  (((pooled d).setPool 0 0 { held := [0] }).setBufEntry 0 0 0 (entryOf true o 0)).setRegF Obj.POOL_HELD o 0 1

/-- ACQUIRE of 200 bytes with the handle to offset 12,288; RELEASE of handle 0; TRANSFER of handle 0 to requester 1 (R388). -/
def acquireDesc : Nat := 0x83 * 2 ^ 504 + 200 * 2 ^ 424 + 12288 * 2 ^ 384
def transferDesc : Nat := 0x85 * 2 ^ 504 + 1 * 2 ^ 346

theorem acquires : (((pooled acquireDesc).start 0).poolAcquire 0 0 0).1 = some (handleOf 0 0 0) := by
  have h : ((pooled acquireDesc).start 0).acquireQuota 0 0 0 = .grant := by decide +kernel
  have hn : (((pooled acquireDesc).start 0).pool 0 0).freeCount = 1 := by decide +kernel
  have hl : ((((pooled acquireDesc).start 0).refill 0 0).pool 0 0).cache = [handleOf 0 0 0] := by decide +kernel
  have hf : (((pooled acquireDesc).start 0).refill 0 0).fresh 1 = 0 := Nat.mod_one _
  unfold State.poolAcquire
  rw [h, hn]
  dsimp only
  unfold State.takeHandle
  dsimp only
  rw [hl]
  simp only [List.length_singleton, Nat.max_self, hf, List.getElem?_cons_zero]
  decide +kernel

/-- R397: a released handle is free again under the next GEN. -/
theorem test_release : (after (.release 0) (heldBy 0 (0x84 * 2 ^ 504))).map (fun t => (t.pool 0 0).cache) = some [handleOf 0 1 0] := by
  decide +kernel

theorem meets_PoolsKeepTheirOwners_acquire :
    (∃ h, (((pooled acquireDesc).start 0).poolAcquire 0 0 0).1 = some h) ∧ ((pooled acquireDesc).start 0).reqHeld 0 0 + 1 < 2 ^ 32
      ∧ qdSize acquireDesc = 200 ∧ poolFor 200 = some 0 ∧ ((pooled acquireDesc).start 0).inRegion 0 12288 4 = true
      ∧ ((heldBy 0 acquireDesc).poolAcquire 0 0 0).1 = none := by
  refine ⟨⟨_, acquires⟩, ?_⟩; decide +kernel

theorem meets_PoolsKeepTheirOwners :
    let kinds := fun (o d : Nat) (x : HandleIs) => ∃ it ∈ (heldBy o d).item? 0, it.isDone = false ∧ (heldBy o d).mayStart it = true
      ∧ ((heldBy o d).start 0).itemRequester it = 0 ∧ ((heldBy o d).start 0).reqContext 0 = it.ctx
      ∧ (((heldBy o d).start 0).lookHandle it.ctx (qdHandle it.desc) 0).1 = x
    let r := 1 * 2 ^ 192 + 4096 * 2 ^ 152 + 8192 * 2 ^ 112
    kinds 0 (0x84 * 2 ^ 504) (.owned 0) ∧ kinds 1 (0x84 * 2 ^ 504) (.foreign 1) ∧ kinds 0 (0x84 * 2 ^ 504 + 2 ^ 376) .stale ∧
    kinds 0 transferDesc (.owned 0) ∧ qdNewOwner transferDesc = 1 ∧ (heldBy 0 transferDesc).reqContext 1 = 0
      ∧ (heldBy 0 transferDesc).transferQuota 0 0 1 0 = .grant ∧
    Takes serving (.host 0) Obj.POOL_CONFIG 0 true ∧ serving.poolBad 0 0 r = false ∧ planesOverlap [r] 0 = false
      ∧ (serving.pool 0 0).held = [] ∧ serving.minSum 0 0 ≤ prCount r ∧ Takes serving (.host 0) Obj.POOL_REQUESTER 5 false
      ∧ serving.reqContext 5 = 0xFF ∧ (serving.reqHeld 5 0 = 0) ∧ qdSize 0 = 0 ∧ poolFor 4194305 = none ∧ (heldBy 0 0).reqContext 0 = 0
      ∧ (heldBy 0 0).poolBad 0 0 (2 ^ 31) = true ∧ ((heldBy 0 0).pool 0 0).held ≠ []
      ∧ prCount r < (serving.setFields Obj.POOL_REQUESTER 0 (0 :: (List.replicate 8 4 ++ List.replicate 8 4))).minSum 0 0 ∧ 8 < 7 + [0, 0].length
      ∧ (heldBy 0 0).tenantOf 0 0 = false ∧ 0 < (heldBy 0 0).reqHeld 0 0 := by
  unfold Takes; decide +kernel

theorem meets_RoutingKeepsQuotas :
    let a : Placement := { gid := 4, host := 1, epoch := 0, quota := 1, takes := true }
    let b := placeAll [a, { a with gid := 5 }] [] 2 [(0, .ranked [0, 1] []), (1, .ranked [0, 1] [])]
    b.placed.map (fun p => (p.token, p.expert, p.slot)) = [(0, 0, 0), (0, 1, 0)] := by decide +kernel

/-- Context 0, rank 0 at node 5 with rank 1 at node 6, inside a step of a plan whose slot of a class consumes window 0 and produces
window 1, both of ranks 0 and 1 (tags 3 and 4, VC1); the slot's one descriptor is item 0. -/
def exchanging (cls d : Nat) : State :=
  let s := ((running.setReg Obj.LOCAL_RANK 0 0).setRegF Obj.RANK_MAP_ACTIVE 0 0 (2 ^ 15 + 5)).setRegF Obj.RANK_MAP_ACTIVE 0 1 (2 ^ 15 + 6)
  let s := (s.ctxWrite 0 128 (leBytes 64 d)).2
  let p := s.plan 0
  let w : Window := { opens := 0, length := 4, vc := 1, sourceCount := 2, sourceList := 0, tag := 3, reserved := 0 }
  let s := s.setPlan 0 { p with
    image := p.image.map (fun im => { im with windows := [w, { w with tag := 4 }], ranks := [0, 1]
                                              slots := im.slots.map (fun x => { x with winIn := 0, winOut := 1, opClass := cls, opCount := 1 }) })
    slots := [(0, { phase := .running, facets := 1 })] }
  { s with items := [(0, { ctx := 0, gen := 0, origin := .planned 0 0 0, desc := d, issued := true })], nextItem := 1 }

/-- A router descriptor of one token, one expert and rows of one BF16 element, in micro-batch 3 (R199). -/
def routerDesc (op : Nat) : Nat :=
  op * 2 ^ 504 + 3 * 2 ^ 490 + 1 * 2 ^ 474 + (if op = 0x40 then 4096 * 2 ^ 240 + (2 ^ 40 - 1) * 2 ^ 120 else 0)

theorem meets_RouterOperationsRun :
    ∀ op ∈ [0x40, 0x41, 0x42, 0x43, 0x44, 0x45, 0x46, 0x47],
      let s := exchanging 3 (routerDesc op)
      let b := s.start 0
      let c := b.setRouter { b.router with cancelled := [(0, 8)] }
      (exchanging 3 (routerDesc op + 1)).routerCheck { ctx := 0, gen := 0, origin := .planned 0 0 0, desc := routerDesc op + 1 } = 1 ∧
      ∃ it ∈ s.item? 0, it.isDone = false ∧ s.mayStart it = true ∧ descOpcode it.desc = op ∧ b.routerCheck it = 0
        ∧ (b.routerWindow it).isSome ∧ s.memWf ∧ b.isCancelled 0 3 = false ∧ c.isCancelled 0 3 = true
        ∧ (op = 0x40 → ∃ x ∈ some (b.placements 0 it (List.range (rdExperts it.desc))), x.1.any (placementBad it.desc) = false
          ∧ ((x.2.scanSwitches 0 x.1).routeMarks it x.1).1 = true) := by
  unfold State.memWf; decide +kernel

/-- A token record of window 0 from rank 1 at node 6 (R207): KIND, SLOT, BACK. -/
def tokenFrom (kind slot : Nat) (back : Bool) : TokenHeader :=
  { expert := 4, source := 1, kind := kind, slot := slot, micro := 3, layer := 0, epoch := 0, back := back, step := 0, tag := 3 }

/-- R207: EXPERT from bit 232 and SOURCE from bit 218, KIND from bit 216, SLOT from bit 184, the micro-batch from bit 178, BACK at 116, TAG
from bit 32; the record is padded to 32 bytes. -/
theorem test_token_record : tokenRecord (tokenFrom 1 0x0102 true) [] =
    List.replicate 4 0 ++ [3] ++ List.replicate 9 0 ++ [0x10] ++ List.replicate 7 0 ++ [0x0C, 2, 1, 0, 0, 5, 0, 4, 0, 0] := by decide +kernel

/-- `exchanging 3` with a delivered record of VC1, or a close marker, from node 6. -/
def arrived (close : Bool) (b : Bytes) : State :=
  let s := exchanging 3 (routerDesc 0x41)
  s.setHup { s.hup with inbox := [{ node := 6, vc := 1, ctx := 0, close := close, bytes := b }] }

/-- A close marker of window 0 in step 0 from rank 1 with no record (11_spokes R310). -/
def closeBytes : Bytes := beBytes 16 (3 * 2 ^ 80 + 1 * 2 ^ 66)

theorem meets_WindowRecordsArrive :
    let rc := fun (k sl : Nat) (back : Bool) => arrived false (tokenRecord (tokenFrom k sl back) [])
    let here := fun (x : Option (Delivered × State)) => x.any (fun e => (e.2.plan e.1.ctx).image.any (fun im =>
      (im.windowOfTag 3).any (fun y => e.2.takesStep e.1.ctx 0 && (im.sources y.2).contains 1 && (im.windowOfTag 9).isNone
        && (e.2.contribRecord e.1.ctx 0 y.1 1).1)))
    let o : Outgoing := { ctx := 0, step := 0, slot := 0, window := 1, item := none }
    let s := (exchanging 3 0).setPlan 0 { (exchanging 3 0).plan 0 with contribs := [(contribKey 0 0 1, { arrival := .droppedLate })] }
    here ((rc 0 0 false).takeInbox 6 1 (fun d => (rc 0 0 false).routersRecord d (dispatchKind false))) = true ∧
    here ((rc 0 0 true).takeInbox 6 1 (fun d => (rc 0 0 true).routersRecord d (dispatchKind true))) = true ∧
    here ((rc 1 0 false).takeInbox 6 1 (fun d => (rc 1 0 false).routersRecord d (fun h => h.kind == 1 && !h.back))) = true ∧
    here ((rc 1 0 true).takeInbox 6 1 (fun d => (rc 1 0 true).routersRecord d (fun h => h.kind == 1 && h.back))) = true ∧
    here ((rc 2 1 false).takeInbox 6 1 (fun d => (rc 2 1 false).routersRecord d (fun h => h.kind == 2 && h.slot == 1))) = true ∧
    here ((arrived true closeBytes).takeInbox 6 1 (fun d => d.close)) = true ∧ field (ofBE closeBytes) 80 16 = 3 ∧ field (ofBE closeBytes) 66 14 = 1 ∧
    (s.contribRecord 0 0 0 1).1 = false ∧ s.windowOpen o = true ∧ Takes s (.host 0) Obj.ROUTER_CANCEL 0 true ∧ s.isCancelled 0 3 = false
      ∧ s.router.bufs = [] ∧ ∀ x ∈ s.items, x.2.routerOf 0 3 = false := by
  unfold Takes; decide +kernel

/-! ### 09_collectives -/

/-- A collective descriptor of one FP32 element, with no count and no NaN word (R260, R263). -/
def collDesc (op phase : Nat) : Nat := op * 2 ^ 504 + phase * 2 ^ 502 + (2 ^ 40 - 1) * 2 ^ 160 + (2 ^ 40 - 1) * 2 ^ 120 + 64 * 2 ^ 88

/-- The engine has taken item 0. -/
def begun (op phase : Nat) : State :=
  let s := exchanging 4 (collDesc op phase)
  s.setColl { s.coll with begun := [0] }

theorem meets_CollectivesRunTheirPhases :
    (∀ e ∈ [(0x50, 0), (0x51, 0), (0x52, 0), (0x53, 0), (0x54, 0), (0x56, 0), (0x57, 0)],
      ∃ it ∈ (exchanging 4 (collDesc e.1 e.2)).item? 0, it.isDone = false ∧ (exchanging 4 (collDesc e.1 e.2)).mayStart it = true
        ∧ descOpcode it.desc = e.1 ∧ ((exchanging 4 (collDesc e.1 e.2)).start 0).collCheck it = 0
        ∧ (exchanging 4 (collDesc e.1 e.2)).coll.begun = []) ∧
    (∃ it ∈ (exchanging 4 (collDesc 0x50 3)).item? 0, ((exchanging 4 (collDesc 0x50 3)).start 0).collCheck it = 2) ∧
    (∀ e ∈ [(0x50, 0), (0x52, 1), (0x51, 2)], ∃ it ∈ (begun e.1 e.2).item? 0, (begun e.1 e.2).coll.begun.contains 0 = true
      ∧ (begun e.1 e.2).slotWindows it = (some 0, some 1) ∧ ((begun e.1 e.2).geoOf 0 it.desc 0).isSome
      ∧ ((begun e.1 e.2).geoOf 0 it.desc 1).isSome ∧ cdPhase it.desc = e.2) ∧
    (∃ it ∈ (begun 0x50 0).item? 0, (∃ z ∈ some ((begun (0x50) 0).countWord 0 it).1, z.2 = false)) ∧
    (let s := exchanging 4 (collDesc 0x50 2)
     let h : CollHeader := { id := 3, source := 1, pos := 1, kind := 0, elem := 0, tagged := false, visits := 1, step := 0 }
     let a := s.setHup { s.hup with inbox := [{ node := 6, vc := 1, ctx := 0, close := false, bytes := collRecord h [0, 0, 0x80, 0x3F] }] }
     ∃ e ∈ a.takeInbox 6 1 a.engineRecord, ∃ im ∈ (e.2.plan 0).image, ∃ y ∈ im.windowOfTag (collHeaderAt (ofLE (e.1.bytes.take 32))).id,
       e.2.takesStep 0 0 = true ∧ (im.sources y.2).contains 1 = true ∧ (im.consumers y.1).any (fun e => e.2.opClass == 4) = true
         ∧ e.2.contribDropped 0 0 y.1 1 = false) := by
  decide +kernel

/-- The slot finishes a REDUCE in canonical mode, whose two contributions, 1.0 and 2.0, have come whole and lie in two buffers. -/
def leaves : State :=
  let s := (exchanging 4 (collDesc 0x50 2)).setReg Obj.CANONICAL_REDUCTION 0 1
  let s := (s.ctxWrite 0 20480 (leBytes 4 0x3F800000)).2
  let s := (s.ctxWrite 0 20736 (leBytes 4 0x40000000)).2
  let s := s.setPlan 0 { s.plan 0 with
    contribs := [(contribKey 0 0 0, { records := 1, closed := some 1, arrival := .onTime }),
                 (contribKey 0 0 1, { records := 1, closed := some 1, arrival := .onTime })] }
  let n : CollNode := { ctx := 0, step := 0, window := 0, seg := 0, col := 0, lo := 0, buf := some (0, 20480), len := 4, low := 0 }
  s.setColl { s.coll with nodes := [n, { n with lo := 1, buf := some (1, 20736), low := 1 }] }

/-- R266: the node over positions 0 and 1 holds their sum, 3.0, in the left child's buffer. -/
theorem test_tree_join :
    ∃ t ∈ after (.treeJoin 0 0 0 0 0 2) leaves, t.coll.nodes.map (fun n => (n.lo, n.size, n.buf)) = [(0, 2, some (0, 20480))]
      ∧ (t.ctxRead 0 20480 4 8).1.num = 0x40400000 := by
  decide +kernel

theorem meets_TreeJoinsAndSelection :
    let g : Geo := ⟨collDesc 0x50 2, [0, 1], 0, 3⟩
    let s := leaves.setColl { leaves.coll with nodes := leaves.coll.nodes.take 1 }
    let u := s.setPlan 0 { s.plan 0 with contribs := [(contribKey 0 0 0, { arrival := .onTime }), (contribKey 0 0 1, { arrival := .droppedLate })] }
    leaves.openStep 0 = some 0 ∧ (leaves.collDesc 0 0).1 = some (collDesc 0x50 2) ∧
    (∀ t ∈ [(leaves.collDesc 0 0).2, (u.collDesc 0 0).2], t.geoOf 0 (collDesc 0x50 2) 0 = some g ∧ g.copies = false ∧ t.sequential 0 g = false) ∧
    (∃ x ∈ (g.segs (g.lands 0)).find? (fun x => x.index == 0 && x.col == 0),
      (∀ q ∈ [0, 1], (leaves.posState 0 0 0 g q = .present ∧ (leaves.contrib 0 0 0 (g.ranks.getD q 0)).complete = true ∧ leaves.covered 0 0 0 x q = true)) ∧
      leaves.node? 0 0 0 x 0 2 = none ∧ (leaves.node? 0 0 0 x 0 1).isSome ∧ (leaves.node? 0 0 0 x 1 1).isSome ∧
      (u.node? 0 0 0 x 0 1).isSome ∧ u.node? 0 0 0 x 1 1 = none ∧ u.posState 0 0 0 g 1 = .absent
        ∧ u.posState 0 0 0 g 0 = .present ∧ (u.contrib 0 0 0 0).complete = true ∧ u.covered 0 0 0 x 0 = true) ∧
    (∃ it ∈ (exchanging 4 (collDesc 0x55 3 + 2 * 2 ^ 479)).item? 0, it.isDone = false ∧ descOpcode it.desc = 0x55
      ∧ ((exchanging 4 (collDesc 0x55 3 + 2 * 2 ^ 479)).start 0).collCheck it = 0) ∧
    (∃ it ∈ (exchanging 4 (collDesc 0x55 3)).item? 0, ((exchanging 4 (collDesc 0x55 3)).start 0).collCheck it = 0x0A) := by
  decide +kernel

/-- R272: of four entries the two with the largest magnitude are kept; zero is never one of them. -/
theorem test_topk : topkChoice 2 [(0, [1]), (1, [0x80000005]), (2, [0]), (3, [7])] = [(1, [0x80000005]), (3, [7])] := by decide +kernel

/-! ### 10_lattices_and_mapping, 11_spokes -/

/-- Spoke 0 in a state of training, at a step. -/
def training (st step : Nat) : State := let s := ready.setReg Obj.SPOKE_STATE 0 st; s.setSpoke 0 { s.spoke 0 with step := step }

/-- Spoke 14 is an Ethernet chord. -/
def chord (st : Nat) : State := (ready.setReg Obj.SPOKE_STATE 14 st).setReg Obj.SPOKE_MODE 14 1

/-- A peer with the vendor's chain and the same images. -/
def goodPeer : PeerFacts := { vendorChain := true, engineering := false, sameImages := true, sameCustomer := true }

/-- R281: node 6 stands in lattice 0 beside node 5, so it is the peer of one of the fourteen native spokes of node 5 and of no other. -/
theorem test_peer_of_one_spoke : ((List.range 14).filter (fun p => spokePeer 5 p == 6)).length = 1 := by decide +kernel

theorem meets_SpokesTrainStepByStep :
    Takes ready (.host 0) Obj.SPOKE_CONTROL 0 false ∧ ready.node ≠ 0xFFFF ∧ State.reset.node = 0xFFFF ∧
    (∀ st ∈ [1, 2, 3], (training spTraining st).spokeState 0 = spTraining ∧ ((training spTraining st).spoke 0).step = st) ∧
    (training spTraining 1).ethernet 0 = false ∧ (training spTraining 3).miswired 0 (spokePeer 5 0) = false ∧
    (training spTraining 3).miswired 0 5 = true ∧ (training spKeying 4).spokeState 0 = spKeying ∧ ready.peerAccepted goodPeer = true ∧
    ready.peerAccepted { goodPeer with vendorChain := false } = false ∧ (training spDown 0).spokeState 0 = spDown ∧
    (chord spTraining).ethernet 14 = true ∧ (chord spTraining).spokeState 14 = spTraining ∧ (chord spUp).spokeState 14 = spUp ∧
    (spoked.setSpoke 0 { spoked.spoke 0 with txKey := some (1, 2), rxNext := some (3, 4) }).spokeUp 0 = true ∧ (spoked.spoke 0).rekeying = false ∧
    spUp ≠ spDegraded ∧ spDisabled ≠ spUp ∧ (chord spTraining).lanes 14 = 0 ∧ ready.ethernet 0 = false ∧
    ((ready.setReg Obj.SPOKE_STATE 0 spHeld).spokeState 0 = spHeld) := by
  unfold Takes; decide +kernel

/-- A packet of one flit, from node 6 to node 5, of VC1 and context 0. -/
def packet6 : Packet := { type := 0, vc := 1, src := 6, dst := 5, ctx := 0, payload := [1, 2, 3, 4] }

/-- R305: the flit expected is taken; one that lies ahead asks for a retry, once. -/
theorem test_flit_order :
    (∃ t ∈ after (.flitReceive 0 (.flit { lseq := 0, piece := 0, packet := packet6 }) { fec := some 0, crcOk := true } true) spoked, (t.spoke 0).rxLseq = 1) ∧
    (∃ t ∈ after (.flitReceive 0 (.flit { lseq := 7, piece := 0, packet := packet6 }) { fec := some 2, crcOk := true } true) spoked,
      (t.spoke 0).rxLseq = 0 ∧ (t.spoke 0).asked = 1 ∧ t.out.length = 1 ∧ t.reg Obj.SPOKE_FEC_CORRECTED 0 = 2) := by decide +kernel

theorem meets_LinkBlocksMoveFlits :
    let w := spoked.setSpoke 0 { spoked.spoke 0 with waiting := [packet6], credits := fullCredits }
    let m := spoked.setSpoke 0 { spoked.spoke 0 with sending := some (packet6, 0) }
    let r := spoked.setSpoke 0 { spoked.spoke 0 with retryCount := 8, proposal := some (7, 3), readmit := 8 }
    let e := (chord spUp).setSpoke 14 { (chord spUp).spoke 14 with waiting := [packet6] }
    spoked.spokeUp 0 = true ∧ spoked.ethernet 0 = false ∧ packetFlits packet6 = 1 ∧ packetFlits { packet6 with payload := List.replicate 400 0 } = 2 ∧
    lseqBehind 4095 0 = true ∧ lseqBehind 7 0 = false ∧ w.pick 0 = some packet6 ∧ (w.spoke 0).sending = none ∧
    (m.spoke 0).sending = some (packet6, 0) ∧ spoked.pick 0 = none ∧ (e.spoke 14).paused = false ∧ e.spokeUp 14 = true ∧ e.ethernet 14 = true
      ∧ e.pick 14 = some packet6 ∧ [false, true].contains true = true ∧ (r.spoke 0).txLseq = 0 ∧ (w.spoke 0).replay.length < 1024 ∧ 8 ≤ (r.spoke 0).retryCount ∧
    bit ((spoked.setReg Obj.SPOKE_LANES_ACTIVE 0 15).lanes 0) 2 = true ∧
    (let s := spoked.setReg Obj.SPOKE_LANES_ACTIVE 0 15
     ((s.setSpoke 0 { s.spoke 0 with failedLanes := (s.spoke 0).failedLanes ||| (1 <<< 2) }).stopRetunes 0).goodLanes 0 ≠ 0) ∧
    (let s := spoked.setReg Obj.SPOKE_LANES_ACTIVE 0 4
     ((s.setSpoke 0 { s.spoke 0 with failedLanes := 11 ||| (1 <<< 2) }).stopRetunes 0).goodLanes 0 = 0) ∧
    (r.spoke 0).proposal = some (7, 3) ∧ (r.lanes 0 ||| (r.spoke 0).readmit) &&& 8 ≠ 0 ∧
    ((spoked.setSpoke 0 { spoked.spoke 0 with paused := true }).spoke 0).paused = true := by decide +kernel

theorem meets_RoutesAndRankMapsTakeEffect :
    let s := ready.setFields Obj.RANK_MAP_STAGED 0 [2 ^ 15 + 5, 2 ^ 15 + 6]
    let d := ready.setFields Obj.RANK_MAP_STAGED 0 [2 ^ 15 + 5, 2 ^ 15 + 5]
    Takes ready (.host 0) Obj.LATTICE_ROUTE 0 false ∧ ready.routeBad (9 * 2 ^ 52) = true ∧ ready.routeBad (2 ^ 56) = false ∧
    Takes s (.host 0) Obj.RANK_MAP_COMMIT 0 true ∧ s.commitRefusal 0 0xFFFFFFFF = 0 ∧ s.commitRefusal 0 8 = 0 ∧ d.commitRefusal 0 8 ≠ 0 ∧
    (d.stagedMap 0)[0]? = some (2 ^ 15 + 5) ∧ (d.stagedMap 0)[1]? = some (2 ^ 15 + 5) ∧ s.ownRank (s.stagedMap 0) = 0 := by
  unfold Takes; decide +kernel

/-- A packet stands at the front of those that the link layer has put together. -/
def arrivedPacket (k : Packet) : State := spoked.setHup { spoked.hup with arrived := [(0, k)] }

/-- R310, R314: a DATA packet in sequence is delivered; the same SEQ a second time is discarded and counted. -/
theorem test_data_packet :
    let s := (arrivedPacket packet6).setReg Obj.LOCAL_RANK 0 0
    (∃ t ∈ after (.hupDataReceive .link) s, t.hup.inbox.map (fun d => d.bytes) = [[1, 2, 3, 4]]
      ∧ ∃ u ∈ after (.hupDataReceive .link) (t.setHup { t.hup with arrived := [(0, packet6)] }), u.hup.inbox = t.hup.inbox
        ∧ u.reg Obj.HUP_DUP_DISCARD_COUNT = 1) := by decide +kernel

theorem meets_PacketsAreDeliveredInOrder :
    let b := (chord spUp)
    let f : RxFlow := { arrivals := 3 }
    let x : TxFlow := { next := 1, unacked := [{ packet := packet6, sent := true }] }
    (∀ e ∈ [(0, []), (1, List.replicate 32 0), (2, List.replicate 16 0), (3, [0, 1, 0, 0, 0, 0, 0, 0]), (3, [0, 2, 0, 0, 0, 0, 0, 0]), (4, [])],
      let k := { packet6 with type := e.1, payload := e.2 };
      packetBad k true = false ∧ k.dst = ready.node ∧ ((arrivedPacket k).oweCredits 0 k |>.epochGate k).1 = true) ∧
    packetBad { packet6 with type := 5, payload := List.replicate 38 0 } true = false ∧
    (spoked.epochGate { packet6 with dstEpoch := 9 }).1 = false ∧
    b.ethernet 14 = true ∧ b.spokeUp 14 = true ∧ packetBad { packet6 with version := 2 } true = true ∧
    (spoked.rxFlow 6 1).next = packet6.seq ∧ (spoked.rxFlow 6 1).held = [] ∧ packet6.dstGen = spoked.gen 0 ∧ packet6.srcGen = spoked.peerGen 6 0 ∧
    (spoked.setReg Obj.LOCAL_RANK 0 0).unmapped packet6 = false ∧ (spoked.rxFlow 6 1).arrivals < 31 ∧
    1 ≤ ahead 0 255 ∧ ahead 0 255 < 256 ∧ 2 ^ 31 ≤ ahead 0 (2 ^ 32 - 1) ∧
    ((spoked.setRx 6 1 f).rxFlow 6 1).arrivals = 3 ∧ (spoked.rxFlow 6 1).arrivals = 0 ∧
    (((spoked.setTx 6 1 x).txFlow 6 1).unacked.find? (fun u => u.packet.seq == 0 && u.sent)).isSome := by decide +kernel

theorem meets_DuplicatesAreDiscarded :
    let k := { packet6 with seq := 2 ^ 32 - 1 }
    let h := (arrivedPacket { packet6 with seq := 4 }).setRx 6 1 { held := [{ packet6 with seq := 4 }] }
    (arrivedPacket k).hup.arrived = [(0, k)] ∧ (((arrivedPacket k).setHup { (arrivedPacket k).hup with arrived := [] }).oweCredits 0 k |>.epochGate k).1 = true ∧
    2 ^ 31 ≤ ahead (spoked.rxFlow 6 1).next k.seq ∧ (h.rxFlow 6 1).held.any (fun x => x.seq == 4) = true := by decide +kernel

/-! ### 15_faults_and_recovery, 16_security -/

/-- A reset of context 0 is under way; `i` stands at a step of the ladder. -/
def resetting0 (rungs : List Rung) : State := serving.setRcv { serving.rcv with active := [(0, { rungs := rungs, startNs := 5 })] }

theorem meets_ContextResetsWithdrawTheirWork :
    let w : Withdrawal := { rungs := [], startNs := 5 }
    let d := ready.setRcv { ready.rcv with lastReset := [(0, 0)], deferred := [(0, (ready.now, false))] }
    let f := ready.setRcv { ready.rcv with facetResets := [7] }
    Takes ready (.host 0) Obj.CONTEXT_RESET 0 true ∧ tfind (resetting0 []).rcv.active 0 = some w ∧ tfind ready.rcv.active 0 = none ∧
    tfind ready.rcv.lastReset 0 = none ∧ tfind d.rcv.lastReset 0 = some 0 ∧ d.now < 0 + 1000000 ∧ tfind d.rcv.active 0 = none ∧
    (tfind d.rcv.deferred 0).isSome ∧ f.allGone 0 { w with rungs := [{ inst := .facet 7, step := 3 }] } = false ∧
    (ready.setRcv { ready.rcv with active := [(0, w)] }).allGone 0 w = true ∧ ready.waitsRight ∧
    w.stepOf (.facet 0) = 1 ∧ (resetting0 []).facetServes 0 0 = true ∧ (Withdrawal.stepOf { w with rungs := [{ inst := .facet 0, step := 2 }] } (.facet 0) = 2) ∧
    w.stepOf (.router 0) = 1 ∧ dsBoot ≤ ready.devState ∧ ready.rcv.resetting = none ∧ f.rcv.facetResets.contains 7 = true ∧ f.fm.mem.wf = true ∧
    ready.isRetired 0 = false ∧ ((atWord 0).thread? 0 0).isSome ∧ (thread0 prog0).wait = .no := by
  unfold Takes State.waitsRight; decide +kernel

theorem meets_DeviceResetsKeepTheirRecord :
    let r : ErrRec := ⟨1, 2, 0, 0, 0x80, 0, 0, 0, 0, 0, 0, 0, 0, 0, 0, 0, 0⟩
    let l := { ready with log := { ready.log with toFlash := [r] } }
    let k := ready.setFields Obj.FACET_RETIRED 0 [1]
    dsBoot ≤ ready.devState ∧ ready.rcv.resetting = none ∧ ready.rcv.capturing = false ∧ Takes ready (.host 0) Obj.DEVICE_RESET 0 false ∧
    (ready.setRcv { ready.rcv with resetting := some 1 }).rcv.resetting.isSome = true ∧ Takes ready (.host 0) Obj.PEER_LOST 0 false ∧
    ready.nodeLost 9 = false ∧ ready.fab.reqs = [] ∧ l.log.toFlash = [r] ∧ Takes ready (.bmc 8) Obj.ERROR_FLASH_CLEAR 0 false ∧
    Takes ready (.bmc 8) Obj.CRASH_DUMP_CLEAR 0 false ∧ Takes k (.bmc 8) Obj.FACET_RETIRED 0 false ∧
    bit ((ready.written Obj.FACET_RETIRED 0).getD 0 0) 3 = false ∧ bit ((k.written Obj.FACET_RETIRED 0).getD 0 0) 0 = true := by
  unfold Takes; decide +kernel

/-- The manifest header of a genuine image of a kind, with version 1 and no ML-DSA block (16_security R443). -/
def image (kind : Nat) : ImageFacts :=
  { header := 0x4B534C4D * 2 ^ 992 + kind * 2 ^ 984 + 1 * 2 ^ 976 + 1 * 2 ^ 960, vendorHashOk := true, vendorSigOk := true, mldsaOk := false,
    customerOk := false, digestOk := true }

/-- Boot stands at a step. -/
def booting (step : Nat) : State :=
  let s := State.reset.setReg Obj.DEVICE_STATE 0 dsBoot
  s.setSec { s.sec with boot := { step := step, copy := 0 } }

/-- R444: an image of another kind is not genuine, nor is one whose digest is wrong. -/
theorem test_image_checks : (booting 3).imageFails (image 1) 1 = 0 ∧ (booting 3).imageFails (image 2) 1 = 1 ∧
    (booting 3).imageFails { image 1 with vendorSigOk := false } 1 = 2 ∧ (booting 3).imageFails { image 1 with digestOk := false } 1 = 6 := by
  decide +kernel

theorem meets_BootRunsItsSteps :
    let q := ((State.reset.setReg Obj.DEVICE_STATE 0 dsRefQualify).setReg Obj.PLL_STATUS 0 1)
    let m := State.reset.setReg Obj.DEVICE_STATE 0 dsMeasured
    ready.heldInReset = false ∧ { ready with power := { ready.power with sysReset := true } }.heldInReset = true ∧
    q.devState = dsRefQualify ∧ q.reg Obj.PLL_STATUS 0 = 1 ∧ q.heldInReset = false ∧
    dsBoot ≤ ready.devState ∧ (ready.setRcv { ready.rcv with resetting := some 1 }).rcv.resetting.isSome = true ∧
    (∀ n ∈ [1, 3, 4, 5], (booting n).devState = dsBoot ∧ (booting n).bootAt n = true) ∧
    (booting 4).imageFails (image 2) 2 = 0 ∧ (booting 4).imageFails (image 3) 3 = 0 ∧ (booting 4).imageFails (image 4) 4 = 0 ∧
    (booting 4).imageFails (image 4) 3 = 1 ∧ (booting 3).sec.boot.fallback = false ∧ m.devState = dsMeasured ∧ m.rcv.resetting = none ∧
    m.retiredCount = 0 ∧ ready.devState ≠ dsBoot := by decide +kernel

/-- READY with session 0 of a tenant with key 77 over function 0's mailbox, and session 1 that awaits FINISH. -/
def inSession : State := ready.setSec { ready.sec with
  sessions := [(0, { key := some 77, established := true, doe := some 0 }), (1, { doe := some 0 })], nextSession := 2 }

theorem meets_SessionsOpenAndEnd :
    let c := inSession.setReg Obj.PART_VARIANT 2 1
    let o := ((inSession.setReg Obj.CONTEXT_KEY_STATE 2 1).setFields Obj.CONTEXT_OWNER 2 (hashFields 77)).setReg Obj.CONTEXT_KEY_RETENTION 2 1
    inSession.attests = true ∧ inSession.endpointThere (.doe 0) = true ∧ inSession.endpointThere (.mctp 8) = true ∧ c.customer = true ∧
    State.reset.attests = false ∧ (inSession.measurementRecords 0xFF).isSome ∧ (inSession.measurementRecords 3).isSome ∧
    inSession.sessionsServed = true ∧ inSession.sec.sessions.length < 32 ∧
    (∃ x ∈ tfind inSession.sec.sessions 0, x.established = true ∧ x.doe = doeFunction (.doe 0)) ∧
    (∃ x ∈ tfind inSession.sec.sessions 1, x.established = false ∧ x.doe = doeFunction (.doe 0)) ∧
    inSession.streamThere .link = true ∧ inSession.streamThere (.selective 15) = false ∧ o.keyState 2 ≠ 0 ∧ o.ownerKey 2 = 77 ∧
    o.reg Obj.CONTEXT_KEY_RETENTION 2 = 1 ∧ inSession.answers = true ∧ inSession.i3c = true := by decide +kernel

/-- Context 2 is the tenant's, in a key state, with a region of two units. -/
def tenant (ks : Nat) : State :=
  ((inSession.setReg Obj.CONTEXT_KEY_STATE 2 ks).setFields Obj.CONTEXT_OWNER 2 (hashFields 77)).setFields Obj.HBM_REGION 2 [22880, 2]

theorem meets_KeysFollowTheirContext :
    let who := Who.tenant 0
    let svc := inSession.setSec { inSession.sec with sessions := [(3, { established := true, service := true })], images := [(0, { svn := 3 })] }
    inSession.answers = true ∧ inSession.requesterKey 0 = some 77 ∧ inSession.requesterKey 1 = none ∧ inSession.served who Obj.CONTEXT_CLAIM true = true ∧
    inSession.keyState 2 = ksFree ∧ (tenant ksOwned).keyState 2 = ksOwned ∧ halvesEqual (5 * 2 ^ 256 + 5) = true ∧ halvesEqual 5 = false ∧
    (∀ o ∈ [Obj.CONTEXT_KEY, Obj.CONTEXT_TRANSFER_KEY, Obj.CONTEXT_KEY_NEXT, Obj.CONTEXT_RELEASE], Takes (tenant ksKeyed) who o 2 true) ∧
    (tenant ksKeyed).keyState 2 = ksKeyed ∧ (tenant ksKeyed).regF Obj.HBM_REGION 2 1 ≠ 0 ∧
    Takes svc (.bmc 8) Obj.SEC_FUSE_COMMIT 0 false ∧ svc.fusedSvn 1 = 0 ∧ (svc.running 1).svn = 3 ∧ (svc.running 2).svn ≤ svc.fusedSvn 2 ∧
    (∃ e ∈ svc.sec.images, e.2.keyIndex = 0) ∧ (∀ e ∈ svc.sec.images, e.2.keyIndex ≠ 1) ∧ (∃ e ∈ svc.sec.images, e.2.mldsa = false) ∧
    Takes svc (.attested 3) Obj.DEBUG_UNLOCK 0 false ∧ (svc.setReg Obj.PART_VARIANT 2 2).engineering = true ∧ svc.serviceSession (.attested 3) = true ∧
    State.reset.devState < dsBoot := by
  unfold Takes; decide +kernel

theorem meets_DrivingInstructionsZeroise :
    dsBoot ≤ spoked.devState ∧ spoked.rcv.resetting = none ∧ spoked.waitsRight ∧ spoked.spokeUp 0 = true := by unfold State.waitsRight; decide +kernel

/-- R467: a driving JTAG instruction leaves no tenant key, and the device in FAULT. -/
theorem test_zeroise : (after (.jtagInstructionLoad true) ((tenant ksKeyed).setKeys 2 { (tenant ksKeyed).contextKeys 2 with xts := some 5 })).map
    (fun t => (t.devState, t.keyState 2, (t.contextKeys 2).xts)) = some (dsFault, ksFree, none) := by decide +kernel

/-- A sealed chunk of 32 bytes for context 2, inbound with COUNTER 4, or outbound (R463). -/
def sealHeader (out : Bool) : Nat := 2 * 2 ^ 252 + (if out then 2 ^ 251 else 4 * 2 ^ 176) + 64 * 2 ^ 136 + 32 * 2 ^ 123

theorem meets_SealedChunksAreChecked :
    let s := ((tenant ksKeyed).setSec { (tenant ksKeyed).sec with ideLink := true }).setKeys 2 { transfer := some 9, received := some 3 }
    let b : Bytes := List.replicate 32 1
    { s with power := { s.power with perst := true } }.power.perst = true ∧ s.power.perst = false ∧ State.reset.windowServes 0 = false ∧
    s.windowServes 0 = true ∧ sealHeader false < 2 ^ 256 ∧ shContext (sealHeader false) = 2 ∧ sealForm (sealHeader false) 0 = true ∧
    b.length = shLength (sealHeader false) ∧ s.ideSecure 0 = true ∧ shKeyId (sealHeader false) = (s.contextKeys 2).keyId ∧
    (s.contextKeys 2).transfer = some 9 ∧ shCounter (sealHeader false) = 4 ∧ (s.contextKeys 2).received = some 3 ∧ s.sealRange (sealHeader false) = true ∧
    sealForm (sealHeader true) 1 = true ∧ shKeyId (sealHeader true) = 0 ∧ shCounter (sealHeader true) = 0 ∧ s.sealRange (sealHeader true) = true ∧
    sealForm 0 0 = false ∧ sealForm 0 1 = false := by decide +kernel

/-- Its tag is one of 128 bits. -/
theorem meets_SealedChunksAreChecked_tag (key h : Nat) (b : Bytes) : sealTag key h b < 2 ^ 128 := Nat.mod_lt _ (by decide)

theorem meets_FirmwareUpdateRuns :
    let st1 := fun (st got : Nat) => (ready.setFields Obj.FW_UPDATE_STATUS 0 [st, 1, 1, got, 0]).setDict { ready.dict with updateLength := 100 }
    let all := ready.setFlash { ready.flash with genuine := 255 }
    Takes ready (.bmc 8) Obj.FW_UPDATE_CONTROL 0 false ∧ Takes ready (.bmc 8) Obj.FW_UPDATE_DATA 0 false ∧
    ready.regF Obj.FW_UPDATE_STATUS 0 0 = 0 ∧ ready.runningCopy = 0 ∧ (st1 1 64).regF Obj.FW_UPDATE_STATUS 0 0 = 1 ∧
    (st1 1 64).regF Obj.FW_UPDATE_STATUS 0 3 + 36 = (st1 1 64).dict.updateLength ∧ (st1 1 100).regF Obj.FW_UPDATE_STATUS 0 3 = (st1 1 100).dict.updateLength ∧
    (st1 2 100).regF Obj.FW_UPDATE_STATUS 0 0 = 2 ∧ (st1 2 100).answers = true ∧ (st1 2 100).imageFails (image 1) 1 = 0 ∧
    (∀ k ∈ [1, 2, 3, 4], bit all.flash.genuine (4 * 1 + k - 1) = true ∧ bit ready.flash.genuine (4 * 1 + k - 1) = false) ∧
    Takes ready (.bmc 8) Obj.FLASH_RESTORE_DEFAULTS 0 false := by unfold Takes; decide +kernel

theorem meets_FlashCopiesKeepTheirSizes :
    let full := ready.setFlash { ready.flash with lengths := [(5, 32 * 2 ^ 20), (6, 32 * 2 ^ 20)] }
    Takes full (.bmc 8) Obj.FW_UPDATE_CONTROL 0 false ∧ 12 * 2 ^ 20 < 12582913 ∧
    64 * 2 ^ 20 < 1 + (tget 0 full.flash.lengths 5 + tget 0 full.flash.lengths 6 + tget 0 full.flash.lengths 7) - tget 0 full.flash.lengths 7 := by
  unfold Takes; decide +kernel

/-! ### 18_clocks_power_reset, 19_pins_and_interfaces, 20_maintenance_and_telemetry -/

/-- A quad's clock, and its die's confirmed voltage, as they stand. -/
def clocked (quad mhz die mv : Nat) : State :=
  let s := ready.setRegF Obj.CLOCK_DOMAIN_INFO quad 2 (1000 * mhz)
  { s with power := { s.power with volts := [(die, mv)] } }

theorem meets_ThrottlingHoldsItsCeilings :
    let up := clocked 0 1200 0 1100
    let low := clocked 0 1200 0 100
    let down := clocked 0 2100 0 1100
    let lim := down.setReg Obj.FACET_CLOCK_LIMIT_MHZ 0 1500
    dsBoot ≤ ready.devState ∧ up.serving = true ∧ up.quadMHz 0 < up.ceiling 0 ∧ up.volts 0 = 1100 ∧
    low.volts 0 = 100 ∧ low.quadMHz 0 < low.ceiling 0 ∧ tfind low.power.asked 0 = none ∧
    low.regF Obj.AVS_STATUS 0 2 ≠ 1 ∧ lim.ceiling 0 < lim.quadMHz 0 ∧ up.power.switched = [] ∧ ready.rcv.resetting = none ∧
    ready.calibrating 0 = false ∧ ready.power.hot = [] := by decide +kernel

/-- Every frequency's voltage lies between those two (R512). -/
theorem meets_ThrottlingHoldsItsCeilings_volts (f : Nat) : 100 < coreMillivolts f ∧ coreMillivolts f ≤ 1100 := by
  unfold coreMillivolts; omega

/-- R515 and the example below it: above the cap the clock ceiling falls by 25 MHz in the first tick, from the 1,900 MHz of the limit. -/
theorem test_power_cap :
    (after (.powerTick 2000 0 0 [] []) (ready.setReg Obj.POWER_CAP_W 0 1000)).map (fun t => (t.power.capMHz, t.power.capDuty)) = some (1875, 16) := by
  decide +kernel

theorem meets_PowerAndResetPinsAct :
    let q := (State.reset.setReg Obj.DEVICE_STATE 0 dsRefQualify)
    State.reset.devState = dsOff ∧ ready.devState ≠ dsOff ∧ ready.power.down = false ∧ q.devState = dsRefQualify ∧
    { q with power := { q.power with counting := true } }.power.counting = true ∧ (q.setReg Obj.PLL_STATUS 0 1).reg Obj.PLL_STATUS 0 = 1 ∧
    dsBoot ≤ ready.devState ∧ ready.rcv.resetting = none ∧ ready.answers = true ∧ ready.power.perst = false ∧
    ready.functionExists 0 = true ∧ ready.functionExists 3 = false ∧ (ready.setReg Obj.PERST_SCOPE 0 1).reg Obj.PERST_SCOPE = 1 ∧
    ready.reg Obj.PERST_SCOPE ≠ 1 ∧ ready.sec.sessions = [] ∧ tfind ready.flash.store (Obj.DEVICE_STATE.key 0) = none ∧
    tfind ready.flash.store (Obj.SEC_FUSES.key 0) = none ∧ (ready.setRcv { ready.rcv with resetting := some 1, capturing := true }).rcv.capturing = true := by
  decide +kernel

/-- Pin 2 has a function; all eight timers are taken. -/
def pinned (f : Nat) : State := (ready.setFields Obj.AUXIO_CONFIG 2 [f, 0, 1000, 0]).setRegF Obj.AUXIO_STATE 2 0 f
def timersFull : State := ready.setPins { ready.pins with timers := (List.range 8).map (fun n => (n, TimerHolder.internal n)) }

/-- R546, R547: FAULT_OUT displaces PPS_OUT; TRIG_OUT, which ranks below it, does not. -/
theorem test_pin_order :
    (after (.auxioConfigWrite (.host 0) 2 2 0 1000 0 true) (pinned 3)).map (fun t => t.pinOwner 2) = some 2 ∧
    (after (.auxioConfigWrite (.host 0) 2 6 0 1000 0 true) (pinned 3)).map (fun t => (t.pinOwner 2, t.out.length)) = some (3, 1) := by decide +kernel

theorem meets_PinsFollowTheirOwners :
    Takes ready (.host 0) Obj.AUXIO_CONFIG 2 false ∧ ready.pinOwner 2 = 0xFF ∧ (pinned 3).pinOwner 2 = 3 ∧ (pinned 4).pinOwner 2 = 4 ∧
    (pinned 5).pinOwner 2 = 5 ∧ (pinned 5).regF Obj.AUXIO_CONFIG 2 1 = 0 ∧ (∀ n ∈ List.range 8, (tfind timersFull.pins.timers n).isSome = true) ∧
    tfind ready.pins.timers 0 = none ∧ (timersFull.victim 0).isSome ∧ Takes ready (.host 0) Obj.CLKOBS 0 false ∧
    clockKHz 0 ≤ 100000 * 2 ^ 16 ∧ 100000 * 2 ^ 0 < clockKHz 0 ∧ ((pinned 7).setFields Obj.CLKOBS 0 [1, 0, 8, 2]).pinOwner 2 = 7 ∧
    (pinned 4).beat % 2 ^ (pinned 4).regF Obj.AUXIO_CONFIG 2 3 = 0 ∧ Takes ready (.host 0) Obj.TRACE_CONFIG 0 false ∧
    ready.pins.trace.claimed = false ∧ Takes ready (.host 0) Obj.FAULT_OUT_CLEAR 0 false ∧ Takes ready (.host 0) Obj.ALARM_CLEAR 0 false := by
  unfold Takes; decide +kernel

theorem meets_MaintenanceUnitsRun :
    let u : MaintUnit := { activity := 1, resource := 0, dueBeat := 0 }
    let q := { ready with maint := { ready.maint with queue := [u] } }
    let r := { ready with maint := { ready.maint with running := [{ activity := 1, resource := 0, startBeat := 0, startNs := 0 }] } }
    let k := ((tenant ksRotating).setKeys 2 { xts := some 5, next := some 6 })
    ready.serving = true ∧ bit (ready.reg Obj.MAINT_ENABLE) 1 = true ∧ ready.unitExists 1 0 = true ∧ ready.unitExists 1 8 = false ∧
    Takes ready (.host 0) Obj.SPOKE_RETUNE_REQUEST 0 false ∧ bit (ready.reg Obj.MAINT_ENABLE) 2 = true ∧
    bit ((ready.setReg Obj.MAINT_ENABLE 0 0).reg Obj.MAINT_ENABLE) 2 = false ∧ q.maint.queue = [] ++ u :: [] ∧ q.resourceFree 1 0 = true ∧
    q.windowGives 1 0 1000 = true ∧ ready.anyRunning = false ∧ ready.facetUnnamed 7 = true ∧
    r.maint.running.length = 1 ∧ tget 0 r.maint.recalFails 0 = 0 ∧ dsBoot ≤ r.devState ∧ r.rcv.resetting = none ∧
    k.rotatingUnit 22880 = some 2 ∧ k.reg Obj.KEY_ROTATE_CURSOR 2 + 1 < k.regF Obj.HBM_REGION 2 1 ∧
    (k.setReg Obj.KEY_ROTATE_CURSOR 2 1).rotatingUnit 22881 = some 2 := by unfold Takes; decide +kernel

/-! ### 17_object_dictionary -/

/-- A request frame (R477): COMMAND, the flags of byte 30, TRANSFER_ID 0x21, INDEX and SUB, SIZE and DATA. -/
def frame (cmd flags index sub size data : Nat) : Bytes :=
  leBytes 32 ((16 + cmd) * 2 ^ 248 + flags * 2 ^ 240 + 0x21 * 2 ^ 232 + index * 2 ^ 216 + sub * 2 ^ 208 + size * 2 ^ 128 + data)

/-- The frame of "Example: mapping a spare in through the mailbox". -/
def spareFrame : Bytes := leBytes 32 (0x11A0215110030000015100010000000200000000000000000000000000000000 + 0x817F)

/-- Its mailbox in the device in READY. -/
def posted : State := ready.setDict { ready.dict with mailboxes := [(0, { request := spareFrame, busy := true })] }

/-- The example's request in memory order. -/
theorem test_spare_frame : spareFrame = [0x7F, 0x81, 0, 0, 0, 0, 0, 0, 0, 0, 0, 0, 0, 0, 0, 0, 2, 0, 0, 0, 1, 0, 0x51, 1, 0, 0, 3, 0x10, 0x51, 0x21, 0xA0, 0x11] := by
  decide +kernel

/-- Its response has word 7 0x19A02151 and ABORT_CODE 0, and entry 337 of context 3 is staged. -/
theorem test_spare_write : (after (.dictWrite (.mailbox 0) true) posted).map (fun t =>
    ((tget {} t.dict.mailboxes 0).header / 2 ^ 224, field (tget {} t.dict.mailboxes 0).header 96 32, (t.written Obj.RANK_MAP_STAGED 3).getD 337 0)) =
      some (0x19A02151, 0, 0x817F) := by decide +kernel

/-- The same frame again gets the kept response, and is counted. -/
theorem test_spare_repeat : ((after (.dictWrite (.mailbox 0) true) posted).bind (fun t => after (.dictWrite (.mailbox 0) true)
    (t.setDict { t.dict with mailboxes := [(0, { request := spareFrame, busy := true })] }))).map (fun t =>
      ((tget {} t.dict.mailboxes 0).header / 2 ^ 224, t.regF Obj.DICT_STATS 0 2)) = some (0x19A02151, 1) := by decide +kernel

/-- Frames over MCTP from endpoint 8: a READ, a WRITE, INFO, SEGMENT and ABORT of BEAT_PERIOD_NS, and a long READ and WRITE of LATTICE_ROUTE. -/
def from8 (b : Bytes) : FrameFrom := .mctp 8 b
def beatFrame (cmd : Nat) : Bytes :=
  frame cmd (if cmd = 3 then 0 else 0xA0) Obj.BEAT_PERIOD_NS.index 0 (if cmd = 1 then 4 else 0) (if cmd = 1 then 50000 else 0)
def longFrame (cmd : Nat) : Bytes := frame cmd 0 Obj.LATTICE_ROUTE.index 0 (if cmd = 1 then 2048 else 0) 0

/-- A transfer of the endpoint is open. -/
def open8 (write : Bool) (total : Nat) : State :=
  ready.setDict { ready.dict with transfers := [(Who.number (.bmc 8), { who := .bmc 8, write := write, header := ofLE (longFrame (if write then 1 else 0)), total := total, data := [1, 2, 3] })] }

theorem meets_FramesAreAnswered :
    (∀ cmd ∈ [0, 1, 2, 3, 4], ready.frameBytes (from8 (beatFrame cmd)) = some (beatFrame cmd) ∧ 32 ≤ (beatFrame cmd).length
      ∧ hdCommand (ofLE ((beatFrame cmd).take 32)) = cmd ∧ ready.vendorFrame (from8 (beatFrame cmd)) (beatFrame cmd) = false
      ∧ tfind ready.dict.kept (Who.number (.bmc 8)) = none ∧ frameBad (from8 (beatFrame cmd)) 32 (ofLE (beatFrame cmd)) = false
      ∧ (ready.party (from8 (beatFrame cmd)) (ofLE (beatFrame cmd))).code = 0) ∧
    frameBad (from8 (frame 0 0x80 0 0 0 0)) 31 0 = true ∧ State.reset.frameBytes (from8 []) = none ∧
    (let s := ready.setSec { ready.sec with sessions := [(0, { key := some 77, established := true, attested := true })] }
     ((s.setFields Obj.CONTEXT_OWNER 2 (hashFields 77)).setReg Obj.CONTEXT_KEY_STATE 2 1).sessionParty 0 0 false).code = Abort.ROLE_AMBIGUOUS ∧
    (let h := ofLE (beatFrame 0); (ready.checked (.bmc 8) false false (hdIndex h) (hdSub h) 0 0 0).toOption.isSome) ∧
    (let h := ofLE (longFrame 0); (ready.checked (.bmc 8) false false (hdIndex h) (hdSub h) 0 0 0).toOption.map (fun o => o.bytesOf (o.addressed 0 0).2) = some 2048) ∧
    (ready.checked (.bmc 8) false false 0x1FFF 0 0 0 0).toOption.isNone ∧ ready.dictFull 2048 = false ∧ ready.dictFull 4194305 = true ∧
    (let h := ofLE (beatFrame 1); hdExpedited h = true ∧ hdSize h = 4 ∧ (ready.checked (.bmc 8) false true (hdIndex h) (hdSub h) 0 0 4).toOption.isSome
      ∧ (ready.writeBytes (.bmc 8) Obj.BEAT_PERIOD_NS 0 0 0 (leBytes 4 50000) true).1 = 0
      ∧ (ready.writeBytes (.bmc 8) Obj.BEAT_PERIOD_NS 0 0 0 (leBytes 4 50000) true).2.answers = true) ∧
    (let h := ofLE (longFrame 1); hdExpedited h = false ∧ (ready.checked (.bmc 8) false true (hdIndex h) (hdSub h) 0 0 (hdSize h)).toOption.isSome) ∧
    (findObject 0x1FFF 0).toOption.isNone ∧ (findObject (hdIndex (ofLE (beatFrame 2))) 0).toOption.isSome ∧
    (∀ e ∈ [(false, 3), (true, 2048)], ∃ x ∈ tfind (open8 e.1 e.2).dict.transfers (Who.number (.bmc 8)), hdTransfer x.header = hdTransfer (ofLE (beatFrame 3))
      ∧ hdToggle (ofLE (beatFrame 3)) = x.toggle ∧ x.write = e.1) ∧
    hdSize (ofLE (beatFrame 3)) = 0 ∧ tfind ready.dict.transfers (Who.number (.bmc 8)) = none ∧ posted.mailboxReached 0 = true ∧ ready.mailboxReached 3 = false ∧
    (tget {} posted.dict.mailboxes 0).busy = true ∧ (tget {} ready.dict.mailboxes 0).busy = false := by decide +kernel

/-- A write segment of 1,024 bytes over MCTP, and the last one of 3. -/
theorem meets_FramesAreAnswered_segments :
    let full := frame 3 0 0 0 1024 0 ++ List.replicate 1024 5
    let last := frame 3 0x20 0 0 3 0 ++ [1, 2, 3]
    frameBad (from8 full) full.length (ofLE (full.take 32)) = false ∧ (segmentData (from8 full) (ofLE (full.take 32)) full).length = 1024 ∧
    ready.segmentLimit (from8 full) = 1024 ∧ hdLast (ofLE (full.take 32)) = false ∧ hdLast (ofLE (last.take 32)) = true ∧
    (segmentData (from8 last) (ofLE (last.take 32)) last).length = hdSize (ofLE (last.take 32)) := by decide +kernel

theorem meets_RepeatedFramesAreAnsweredOnce :
    let s := ready.setDict { ready.dict with kept := [(Who.number (.bmc 8), { request := beatFrame 1, header := 5 })] }
    ready.frameBytes (from8 (beatFrame 1)) = some (beatFrame 1) ∧ frameOfRow 1 (beatFrame 1) = true ∧ ready.vendorFrame (from8 (beatFrame 1)) (beatFrame 1) = false ∧
    (∃ k ∈ tfind s.dict.kept (Who.number (.bmc 8)), k.request = beatFrame 1) ∧ s.answers = true := by decide +kernel

theorem meets_RegisterWritesReachTheirOwner :
    let w : Write := { who := .bmc 8, o := Obj.POWER_CAP_W, sub := 0, first := 0, fields := [1600], bytes := leBytes 2 1600, flashOk := true }
    State.reset.answers = false ∧ (ready.checked (.bmc 8) false true 0x1FFF 0 0 0 4).toOption.isNone ∧
    (ready.checked (.bmc 8) false true Obj.BEAT_PERIOD_NS.index 0 0 0 4).toOption.isSome ∧ ready.rowWrite w = none ∧ w.o ∈ Obj.table ∧
    valueOk w.o (ready.merged w) = true := by decide +kernel

theorem meets_RefusedWritesChangeNothing :
    ready.answers = true ∧ State.reset.answers = false ∧ ready.rowChecks (.tenant 0) Obj.BEAT_PERIOD_NS 0 false ≠ 0 ∧
    (∃ t ∈ after (.beatPeriodNsWrite (.host 0) 3999) ready, t.out.getLast? = some (.answer (.host 0) (Obj.BEAT_PERIOD_NS.key 0) Abort.VALUE_RANGE)) := by
  decide +kernel

theorem meets_StateKeepsItsForm : State.reset.memWf ∧ State.reset.waitsRight ∧ State.reset.itemsRight
    ∧ ∃ t, step { State.reset with pending := [.beatEdge] } = .next t := by
  refine ⟨by unfold State.memWf; decide +kernel, by unfold State.waitsRight; decide +kernel, by unfold State.itemsRight; decide +kernel, ?_⟩
  unfold step; exact ⟨_, rfl⟩

theorem meets_StepTakesOneCommand : ∃ t, step { State.reset with pending := [.beatEdge] } = .next t := meets_StateKeepsItsForm.2.2.2

theorem test_idle : step State.reset = .next State.reset := rfl

/-! ### 02_beat_and_time, once more -/

theorem meets_SlotsEndAndLateWindowsHalt :
    let e := exchanging 3 0
    let l := e.setPlan 0 { e.plan 0 with judged := [0], next := 0 }
    serving.planState 0 = planRunning ∧ (∃ im ∈ (serving.plan 0).image, (∃ sl ∈ im.slots[0]?, sl.winIn = 0xFFF) ∧ (serving.plan 0).next < im.slots.length) ∧
    (∃ r ∈ tfind (serving.plan 0).slots 0, r.phase = .running ∧ serving.slotItems 0 0 r.step = false) ∧ serving.slotWaits 0 0 = false ∧
    (l.plan 0).opened = true ∧ (l.plan 0).next ≤ 0 ∧ (∃ im ∈ (l.plan 0).image, ∃ sl ∈ im.slots[0]?, (l.plan 0).judged.contains sl.winIn = true
      ∧ (l.lateSources 0 sl.winIn).isEmpty = false) ∧ l.waitsRight ∧ l.itemsRight := by
  unfold State.waitsRight State.itemsRight; decide +kernel

theorem meets_PlanWritesFollowTheState :
    Takes ready (.host 0) Obj.PLAN_FIRST_STEP 0 true ∧ Takes ready (.host 0) Obj.DROP_LEDGER_ADDR 0 true ∧ Takes ready (.host 0) Obj.DROP_LEDGER_ENTRIES 0 true ∧
    4096 % 16 = 0 ∧ 4096 + 64 * (ready.written Obj.DROP_LEDGER_ENTRIES 0).getD 0 0 ≤ ready.regionSize 0 ∧
    (ready.written Obj.DROP_LEDGER_ADDR 0).getD 0 0 + 64 * 2 ^ 10 ≤ ready.regionSize 0 ∧ running.planState 0 = planRunning ∧ ready.planState 0 = planEmpty := by
  unfold Takes; decide +kernel

/-- The ledger entry of the example after R67: KIND 1, WINDOW 0x041, SLOT 0x1F32, SOURCE 0x0032, STEP_BEAT 0x4DC, STEP 0x76. -/
theorem test_ledger_word : leBytes 16 (ledgerWord 1 0x041 0x1F32 0x0032 0 0x4DC 0x76) =
    [0x76, 0, 0, 0, 0xDC, 4, 0, 0, 0, 0, 0x32, 0, 0x32, 0x1F, 0x41, 0x10] := by decide +kernel

/-- The spoke peers of node 0x0765 in the example after R280, and their spokes back. -/
theorem test_spoke_peers : (List.range 14).map (fun p => (spokePeer 0x0765 p, spokeBack 0x0765 p)) =
    [(0x0760, 4), (0x0761, 4), (0x0762, 4), (0x0763, 4), (0x0764, 4), (0x0766, 5), (0x0767, 5), (0x0745, 10), (0x074D, 10), (0x0755, 10),
     (0x075D, 10), (0x076D, 11), (0x0775, 11), (0x077D, 11)] := by decide +kernel

/-- The example after R284: offset 0 of the HBM of node 0x0765 is fabric address 0x1D94_0000_0000_0000. -/
theorem test_fabric_address : faNode 0x1D94000000000000 = 0x0765 ∧ faOff 0x1D94000000000000 = 0 := by decide +kernel

/-- A queue with a 512-entry completion ring at offset 8,192 of facet 0, in its second pass, takes the telemetry of context 0 in step 118. -/
def telemetered : State :=
  ((serving.setQueue 7 { record := queueRec + 3 * 2 ^ 482, cqHead := 0x200, cqTail := 0x200 }).setReg Obj.TELEMETRY_QUEUE 0 7).setReg Obj.STEP_NUMBER 0 118

/-- The FACET_BUSY entry of the example after R566. -/
theorem test_telemetry_entry : (telemetered.telemetryPut 0 3 133 61203840).fm.mem.getN 8192 16 = leBytes 16 0x28180085000000760000000003A5E580 := by
  decide +kernel

/-! ### The manual's worked examples -/

/-- The header of the example after R310, in wire order. -/
theorem test_packet_header : beBytes 32 (packetHeader
    { type := 0, vc := 1, hopLimit := 12, src := 0x025, dst := 0x02A, ctx := 3, srcGen := 2, dstGen := 1, srcEpoch := 5, dstEpoch := 9,
      seq := 0x0001E240, ack := 0x000003E8, last := false, ackValid := true, payload := List.replicate 4096 0 }) =
    [0x10, 0x2C, 0, 0x94, 2, 0xA3, 0, 2, 0, 1, 0, 0, 0, 5, 0, 0, 0, 9, 0, 1, 0xE2, 0x40, 0, 0, 3, 0xE8, 0x80, 4, 0x40, 0, 0, 0] := by
  decide +kernel

/-- The check value of CRC-32C: the CRC of the nine digits in ASCII. -/
theorem test_crc32c : crc32c [0x31, 0x32, 0x33, 0x34, 0x35, 0x36, 0x37, 0x38, 0x39] = 0xE3069283 := by decide +kernel

/-- The FATOM's request record of the example before R341. -/
theorem test_atomic_record_bytes :
    ({ op := 2, aop := 0, ty := 1, retry := false, off := 0x04001000, fseq := 0x106, fack := 0x105, operand := 1, compare := 0, data := [] } :
      FabRecord).bytes = [0x20, 0x10, 0, 4, 0, 0x10, 0, 0, 0, 1, 6, 0, 0, 1, 5, 0, 0, 0, 0, 0, 0, 0, 0, 1, 0, 0, 0, 0, 0, 0, 0, 0] := by decide +kernel

/-- The completion entry of the FILL of the example before R388, in its ring's first pass. -/
theorem test_completion_entry : leBytes 16 (2 ^ 127 + entryWord 0 0 0 0x0123 0x41 512000000 0 0xFF) =
    [0, 0xFF, 0, 0, 0, 0x80, 0x84, 0x1E, 0x41, 0, 0, 0, 0x23, 1, 0, 0x80] := by decide +kernel

/-- The granule of the example after R354: stack 3, channel 15, controller 6, and its byte of the pseudo-channel. -/
theorem test_granule : hbmPc 20199772160 = 0x07B ∧ hbmChannel 20199772160 = 32 * 3 + 15 ∧ hbmController 20199772160 = 6
    ∧ hbmPcByte 20199772160 = 39452672 ∧ hbmPc (20199772160 + 128) = 0x07A := by decide +kernel

/-- The block of "choosing an E4M3 block scale": 920.0, -3.3 and 0.01 under scale 0x80; with 930.0 the scale is 0x81. -/
theorem test_block_scale :
    (narrowBlock 3 true [.ofInt 920, f32 0xC0533333, f32 0x3C23D70A]).scale = 0x80 ∧
    (narrowBlock 3 true [.ofInt 920, f32 0xC0533333, f32 0x3C23D70A]).codes = [0x7E, 0xBD, 0x03] ∧
    (narrowBlock 3 true [.ofInt 930]).scale = 0x81 ∧ (narrowBlock 3 true [.ofInt 930]).codes = [0x77] := by decide +kernel

/-- The split master update of the example after R103, and the compensated sum of the example after R156. -/
theorem test_split_update_and_sum :
    toSplit ((splitVal 0x3F800000 0x40).add (f32 0xAB800000)) = (0x3F7FFFFF, 0xFFFF0080) ∧
    (List.replicate 4 0x33800000).foldl (fun q x => neumaier q.1 q.2 x) (neumaier 0 0 0x3F800000) = (0x3F800000, 0x34800000) := by decide +kernel

/-! ### States that meet the clauses about forms where nothing happens, is refused or goes another way -/

theorem meets_MatrixWorkRunsInOrder_forms :
    let run : MatRun := { item := 1, tExpA := 0, tExpB := 0, m := 1, k := 1, tiles := some [] }
    let s := atMul.setFacet 0 { atMul.facet 0 with mat := some run }
    let b : BackTile := { item := 1, superTile := 0, tile := { array := 3, row := 0, col := 0, vals := [], tag := 0 }, hold := false }
    let d := s.setFacet 0 { s.facet 0 with back := [b] }
    (∃ it ∈ s.item? 1, (s.facet 0).mat = some run ∧ run.tiles = some [] ∧ (s.facet 0).back = [] ∧ run.superCount it.desc ≤ run.superTile + 1
      ∧ it.isDone = false) ∧ (d.facet 0).back = b :: [] ∧ b.hold = false ∧ b.tile.array ≠ 4 ∧
    (∃ x ∈ some (atMul.start 1 |>.payloads 0 (mdLocA mulDesc)), (mdOutputs mulDesc).any (fun o => x.1.any o.meets) = false
      ∧ (x.2.acceptRecord 0 (recordOf (mdARec mulDesc)) (mdAFmt mulDesc) 1).1.refused = false ∧ (x.2.dynCount 0 mulDesc).1.2 = false) := by
  decide +kernel

theorem meets_FabricTransfersAndReplies_forms :
    let m := (exchanging 3 (getDesc 0x61)).setReg Obj.LOCAL_RANK 0 0
    let pub := exchanging 3 (0x62 * 2 ^ 504 + 4 * 2 ^ 501)
    let p := pub.setItem 0 { ctx := 0, gen := 0, origin := .planned 0 0 0, desc := 0x62 * 2 ^ 504 + 4 * 2 ^ 501, phase := .running }
    (withDesc 0).fabTarget 0 (faddr 16383 0) = none ∧ (∃ it ∈ m.item? 0, m.inMirrorSlot it = false) ∧
    (∃ it ∈ p.item? 0, it.phase = .running ∧ (p.issuerOf it).isSome = true ∧ (p.slotWindows it).2 = some 1 ∧ descOpcode it.desc = 0x62
      ∧ (∀ sc ∈ p.issuerOf it, p.publishWaits it.ctx sc = false ∧ p.publishFailure it.ctx sc = none) ∧ p.outgoing = [] ∧ p.unackedOf (.item 0) = false) := by
  decide +kernel

theorem meets_RouterAndCollectiveForms :
    let s := exchanging 4 (collDesc 0x50 2)
    let b := begun 0x50 2
    let a := s.setHup { s.hup with inbox := [{ node := 6, vc := 2, ctx := 0, close := false, bytes := List.replicate 32 0 }] }
    ready.item? 0 = none ∧ ready.takeInbox 6 1 ready.engineRecord = none ∧ ready.takeInbox 6 1 (fun d => d.close) = none ∧
    (b.coll.begun.contains 0 = true ∧ cdPhase (collDesc 0x50 2) ≠ phSend) ∧ ready.openStep 0 = none ∧
    (a.takeInbox 6 2 a.engineRecord).isSome = true ∧ (∃ im ∈ (a.plan 0).image, im.windowOfTag 0 = none) ∧ s.isCancelled 0 3 = false ∧
    isPow2 2 = true ∧ isPow2 3 = false ∧ cdMerges (collDesc 0x50 2) = false ∧ cdMerges (collDesc 0x56 0) = true := by decide +kernel

theorem meets_WindowRecordsArrive_forms :
    let s := arrived false (tokenRecord { tokenFrom 1 0 false with source := 9 } [])
    let t := arrived false (tokenRecord { tokenFrom 0 0 false with tag := 77 } [])
    let r : SubRing := { ctx := 0, step := 0, window := 0, loc := 0, source := 1, filled := [1], base := 4096 }
    (∃ e ∈ s.takeInbox 6 1 (fun d => s.routersRecord d (fun h => h.kind == 1 && !h.back)), ∃ im ∈ (e.2.plan 0).image,
      ∃ y ∈ im.windowOfTag 3, (im.sources y.2).contains 9 = false) ∧
    (t.takeInbox 6 1 (fun d => t.routersRecord d (dispatchKind false))).isSome = true ∧ (∃ im ∈ (t.plan 0).image, im.windowOfTag 77 = none) ∧
    ready.takeInbox 6 1 (fun d => ready.routersRecord d (dispatchKind false)) = none ∧ r.unplaced = false ∧ r.filled ≠ [] := by decide +kernel

theorem meets_PacketsAreDeliveredInOrder_forms :
    let c := chord spUp
    let k := packet6
    let keyed := c.setSpoke 14 { c.spoke 14 with rxKey := some (1, 2) }
    let full := c.setHup { c.hup with transit := [(14, { packet6 with payload := List.replicate 1 0 })] }
    ((arrivedPacket k).inputGood 0 k).1 = true ∧ k.dst = (arrivedPacket k).node ∧ ready.hup.arrived = [] ∧
    ((spoked.setFm { spoked.fm with dead := [{ cls := 7, word := 0, double := true }] }).inputGood 0 k).1 = false ∧
    c.ethernet 14 = true ∧ c.linkUp 14 = true ∧ (c.spoke 14).rxKey = none ∧ (keyed.spoke 14).rxKey.isSome = true ∧
    (chord spKeying).linkUp 14 = true ∧ keyed.chordFull 14 k = false ∧ full.chordFull 14 k = false ∧ k.type ≠ 4 ∧
    packetBad k true = false ∧ packetBad { k with reserved := 1 } true = true ∧ (spoked.rxFlow 6 1).arrivals = 0 ∧
    256 ≤ ahead 0 300 ∧ ahead 0 300 < 2 ^ 31 ∧ (spoked.txFlow 6 1).unacked = [] := by decide +kernel

/-- A full input buffer: 257 datagrams of 4,048 bytes stand in it. -/
theorem meets_PacketsAreDeliveredInOrder_full :
    let c := chord spUp
    (c.setHup { c.hup with transit := List.replicate 257 (14, { packet6 with payload := List.replicate 4048 0 }), stuck := [{ packet6 with payload := List.replicate 4048 0 }] }).chordFull 14 packet6 = true := by
  decide +kernel

theorem meets_DuplicatesAreDiscarded_forms :
    let c := (chord spUp).setSpoke 14 { (chord spUp).spoke 14 with rxKey := some (1, 2) }
    let k := { packet6 with seq := 2 ^ 32 - 1 }
    c.ethernet 14 = true ∧ c.linkUp 14 = true ∧ c.chordFull 14 k = false ∧ (c.spoke 14).rxKey.isSome = true ∧ packetBad k true = false ∧ k.dst = c.node ∧
    ((c.bumpF Obj.SPOKE_RX_BYTES 14 1 4).epochGate k).1 = true ∧ 2 ^ 31 ≤ ahead (c.rxFlow 6 1).next k.seq ∧ ((arrivedPacket k).inputGood 0 k).1 = true := by
  decide +kernel

theorem meets_LinkBlocksMoveFlits_forms :
    let h : LinkHeader := { lack := some 3, creditVc := 1, creditClass := 2, creditCount := 5 }
    let q := spoked.setSpoke 0 { spoked.spoke 0 with asked := 8 }
    (chord spUp).ethernet 14 = true ∧ State.reset.linkUp 0 = false ∧ spoked.linkUp 0 = true ∧ 0 < h.creditCount ∧ 8 ≤ (q.spoke 0).asked ∧
    [false, false].contains true = false ∧ [false, true].takeWhile (fun b => !b) = [false] ∧ spoked.fm.flaws = [] ∧ spoked.fm.dead = [] ∧
    (spoked.spoke 0).sentPackets + 1 < 2 ^ 40 ∧ (spoked.spoke 0).retrying = false ∧ (spoked.spoke 0).paused = false := by decide +kernel

theorem meets_DeviceResetsKeepTheirRecord_forms :
    let k := ready.setFields Obj.FACET_RETIRED 0 [1]
    State.reset.devState < dsBoot ∧ Takes ready (.bmc 8) Obj.FACET_RETIRED 0 false ∧ 2 ^ 192 ≤ 2 ^ 192 ∧ ready.log.toFlash = [] ∧
    Takes k (.bmc 8) Obj.FACET_RETIRED 0 false ∧ tfind ready.flash.store (Obj.DEVICE_EPOCH.key 0) = none ∧ 16384 ≤ 16384 ∧
    (ready.setRcv { ready.rcv with capturing := true }).rcv.capturing = true := by unfold Takes; decide +kernel

theorem meets_BootRunsItsSteps_forms :
    ready.heldInReset = false ∧ ready.devState ≠ dsRefQualify ∧ ready.rcv.resetting = none ∧ ready.bootAt 3 = false ∧ ready.devState ≠ dsBoot ∧
    (booting 4).sec.boot.step ≠ 1 ∧ (booting 1).sec.boot.step = 1 ∧ ((booting 3).setSec { (booting 3).sec with boot := { step := 3, copy := 1, fallback := true } }).sec.boot.fallback = true := by
  decide +kernel

theorem meets_SessionsOpenAndEnd_forms :
    let full := ready.setSec { ready.sec with sessions := (List.range 32).map (fun n => (n, ({} : Session))) }
    let k := inSession.setSec { inSession.sec with sessions := [(5, { key := some 77, established := true })] }
    State.reset.sessionsServed = false ∧ inSession.endpointThere (.doe 3) = false ∧ 32 ≤ full.sec.sessions.length ∧ full.sessionsServed = true ∧
    tfind ready.sec.sessions 9 = none ∧ doeFunction (.mctp 8) ≠ some 0 ∧ State.reset.answers = false ∧ State.reset.i3c = false ∧ ¬ (128 ≤ 127) ∧
    (∀ e ∈ k.sec.sessions, e.1 ≠ 5 → e.2.key ≠ some 77) ∧ (tfind k.sec.sessions 5).any (fun x => x.key == some 77) = true := by decide +kernel

theorem meets_KeysFollowTheirContext_forms :
    let who := Who.tenant 0
    inSession.answers = true ∧ State.reset.answers = false ∧ 15 < 16 ∧ inSession.requesterKey 9 = none ∧
    (tenant ksKeyed).keyState 2 ≠ ksOwned ∧ (tenant ksOwned).keyState 2 ≠ ksKeyed ∧ (tenant ksFree).keyState 2 = ksFree ∧
    Takes (tenant ksKeyed) who Obj.CONTEXT_KEY_NEXT 2 true ∧ ((tenant ksKeyed).setFields Obj.HBM_REGION 2 [0, 0]).regF Obj.HBM_REGION 2 1 = 0 ∧
    (State.reset.setRcv { State.reset.rcv with resetting := some 1 }).rcv.resetting.isSome = true ∧
    (ready.setRegF Obj.SEC_FUSES 0 2 64).fusedSvn 1 = 64 ∧ (ready.setSec { ready.sec with images := [(0, { mldsa := true })] }).sec.images.all (fun e => e.2.mldsa) = true := by
  unfold Takes; decide +kernel

theorem meets_SealedChunksAreChecked_forms :
    (tenant ksKeyed).windowServes 0 = true ∧ ¬ (64 < 64) ∧ 128 ≤ 128 ∧ sealForm (sealHeader false) 1 = false := by decide +kernel

theorem meets_FramesAreAnswered_forms :
    let x : Nat := 0xF000
    let v : Bytes := frame 0 0xA0 x 0 0 0
    let open_ := ready.setSec { ready.sec with unlocked := true }
    let dump := frame 0 0 Obj.CRASH_DUMP_DATA.index 0 0 0
    let none_ := ready.setDict { ready.dict with transfers := [] }
    open_.vendorFrame (from8 v) v = true ∧ frameOfRow 0 (beatFrame 1) = false ∧ (findObject Obj.CRASH_DUMP_DATA.index 0).toOption.isSome = true ∧
    hdIndex (ofLE dump) = Obj.CRASH_DUMP_DATA.index ∧ tfind none_.dict.closed (Who.number (.bmc 8)) = none ∧ bit 4 2 = true ∧ bit 4 0 = false ∧
    hdSize (ofLE (frame 1 0x80 Obj.BEAT_PERIOD_NS.index 0 9 0)) = 9 ∧ hdExpedited (ofLE (frame 1 0x80 Obj.BEAT_PERIOD_NS.index 0 9 0)) = true := by
  decide +kernel

theorem meets_RegisterWritesReachTheirOwner_forms :
    let w := fun (o : ObjDef) (sub : Nat) (l : List Nat) (b : Bytes) =>
      ({ who := .bmc 8, o := o, sub := sub, first := 0, fields := l, bytes := b, flashOk := true } : Write)
    let eth := w Obj.SPOKE_ETH_CONFIG 14 [0, 0] [0]
    let lim := w Obj.FACET_CLOCK_LIMIT_MHZ 0 [1500] (leBytes 2 1500)
    let pri := w Obj.BEAT_MASTER_PRIORITY 0 [3] [3]
    ready.rowWrite lim = none ∧ valueOk lim.o (ready.merged lim) = true ∧ ready.rowWrite pri = none ∧ valueOk pri.o (ready.merged pri) = true ∧
    ready.rowWrite eth = none ∧ eth.o ∈ Obj.table ∧ valueOk Obj.SPOKE_ETH_CONFIG ([0, 0, 0, 48300] ++ List.replicate 9 0 ++ [8, 0]) = false ∧
    valueOk Obj.FACET_CLOCK_LIMIT_MHZ [1510] = false := by decide +kernel

theorem meets_MaintenanceUnitsRun_forms :
    let u : MaintUnit := { activity := 1, resource := 0, dueBeat := 0 }
    let q := { ready with maint := { ready.maint with queue := [{ u with activity := 5 }, u] } }
    q.maint.queue = [{ u with activity := 5 }] ++ u :: [] ∧ (∀ v ∈ [{ u with activity := 5 }], v.activity ≠ 1) ∧
    ready.maint.queue = [] ∧ u.overdue = false ∧ ready.maint.running = [] := by decide +kernel

/-! ### WellFormed: each check refuses a term that breaks it -/

theorem smoke_facet : (Instr.facetZeroDone 192).wf = false ∧ (Instr.facetZeroDone 191).wf = true := by decide +kernel
theorem smoke_thread : (Instr.threadIssueNext 0 16).wf = false ∧ (Instr.threadIssueNext 0 15).wf = true := by decide +kernel
theorem smoke_spoke : (Instr.flitTransmit 18).wf = false ∧ (Instr.flitTransmit 17).wf = true := by decide +kernel
theorem smoke_context : (Instr.contextWithdrawn 16).wf = false ∧ (Instr.contextWithdrawn 15).wf = true := by decide +kernel
theorem smoke_node : (Instr.closeMarkerReceive 16384 1).wf = false ∧ (Instr.closeMarkerReceive 16383 1).wf = true := by decide +kernel
theorem smoke_vc : (Instr.closeMarkerReceive 0 8).wf = false := by decide +kernel
theorem smoke_function : (Instr.sqTailDoorbell 16 0 4 0).wf = false ∧ (Instr.sqTailDoorbell 15 0 4 0).wf = true := by decide +kernel
theorem smoke_queue : (Instr.descriptorAccept 65536).wf = false ∧ (Instr.descriptorAccept 65535).wf = true := by decide +kernel
theorem smoke_pin : (Instr.ppsOutPulse 8).wf = false ∧ (Instr.ppsOutPulse 7).wf = true := by decide +kernel
theorem smoke_die : (Instr.overcurrent 2).wf = false ∧ (Instr.overcurrent 1).wf = true := by decide +kernel
theorem smoke_quad : (Instr.quadClockSwitch 48).wf = false ∧ (Instr.quadClockSwitch 47).wf = true := by decide +kernel
theorem smoke_lattice : (Instr.latticeRouteWrite (.host 0) 256 0).wf = false ∧ (Instr.latticeRouteWrite (.host 0) 255 0).wf = true := by decide +kernel
theorem smoke_lane : (Instr.laneFail 0 4).wf = false ∧ (Instr.laneFail 0 3).wf = true := by decide +kernel
theorem smoke_lanes : (Instr.spokeLaneLock 0 16).wf = false ∧ (Instr.spokeLaneLock 0 15).wf = true := by decide +kernel
theorem smoke_eid : (Instr.setEndpointId 256).wf = false ∧ (Instr.setEndpointId 255).wf = true := by decide +kernel
theorem smoke_pll : (Instr.pllLockLoss 41).wf = false ∧ (Instr.pllLockLoss 40).wf = true := by decide +kernel
theorem smoke_rail : (Instr.railFault 12).wf = false ∧ (Instr.railFault 11).wf = true := by decide +kernel
theorem smoke_pseudo_channel : (Instr.patrolScrubRead 512 {}).wf = false ∧ (Instr.patrolScrubRead 511 {}).wf = true := by decide +kernel
theorem smoke_activity : (Instr.maintUnitDue 7 0).wf = false ∧ (Instr.maintUnitDue 6 0).wf = true := by decide +kernel
theorem smoke_pool_requester : (Instr.poolRequesterWrite (.host 0) 64 0 [] []).wf = false ∧ (Instr.poolRequesterWrite (.host 0) 63 0 [] []).wf = true := by
  decide +kernel
theorem smoke_who : (Instr.planLoad (.host 16) 0).wf = false ∧ (Instr.planLoad (.bmc 256) 0).wf = false ∧ (Instr.planLoad (.tenant 99) 0).wf = true := by
  decide +kernel
theorem smoke_spdm_end : (Instr.getDigests (.doe 16)).wf = false ∧ (Instr.getDigests (.mctp 256)).wf = false := by decide +kernel
theorem smoke_frame_from : (Instr.dictRead (.mailbox 16)).wf = false ∧ (Instr.dictRead (.mctp 256 [])).wf = false := by decide +kernel
theorem smoke_stream : (Instr.ideKmRequest (.doe 0) 0 (.selective 16) true).wf = false := by decide +kernel
theorem smoke_engine : (Instr.escalationStepTimeout 0 (.facet 192) true).wf = false ∧ (Instr.escalationStepTimeout 0 (.dma 4) true).wf = false
    ∧ (Instr.escalationStepTimeout 0 (.router 4) true).wf = false ∧ (Instr.escalationStepTimeout 0 (.collective 4) true).wf = false
    ∧ (Instr.escalationStepTimeout 0 (.fabric 4) true).wf = false := by decide +kernel

end Sys2Proof.Tests
end

section
/-! Duplicates of the transport (11_spokes R312, R314): what sending a packet and acknowledging a flow leave as they were, and the
receiving side's way with a packet whose SEQ has come before. -/

namespace Sys2Proof.Machine

/-! ### Counters -/

@[simp] theorem reg_bump_same (s : State) (o : ObjDef) (sub n : Nat) :
    (s.bump o sub n).reg o sub = satAdd (o.width 0) (s.reg o sub) n := regF_setRegF_same ..

/-- Counting an event leaves the registers under other keys. -/
theorem sameRegs_bump (s : State) (o : ObjDef) (sub n : Nat) : SameRegs s (s.bump o sub n) [o.key sub] :=
  fun _ _ _ h => regF_setRegF_other _ _ _ _ _ _ _ _ (.inl (List.ne_of_not_mem_cons h))

/-- The node's number is no counter. -/
theorem node_bumpF (s : State) {o : ObjDef} (sub i n : Nat) (h : Obj.NODE_NUMBER.index ≠ o.index) : (s.bumpF o sub i n).node = s.node :=
  regF_setRegF_other _ _ _ _ _ _ _ _ (.inl (ObjDef.key_ne h _ _))

/-! ### Sending a packet (R317) -/

/-- A packet that is sent waits on a spoke, or among those that found none. -/
theorem dispatch_cases (s : State) (k : Packet) :
    (∃ p x, (s.dispatch k).2 = s.setSpoke p x) ∨ (s.dispatch k).2 = s.setHup { s.hup with stuck := s.hup.stuck ++ [k] } := by
  unfold State.dispatch
  split
  · exact .inl ⟨_, _, rfl⟩
  · exact .inr rfl

@[simp] theorem dispatch_objs (s : State) (k : Packet) : (s.dispatch k).2.objs = s.objs := by
  obtain ⟨p, x, h⟩ | h := dispatch_cases s k <;> rw [h] <;> rfl

@[simp] theorem dispatch_inbox (s : State) (k : Packet) : (s.dispatch k).2.hup.inbox = s.hup.inbox := by
  obtain ⟨p, x, h⟩ | h := dispatch_cases s k <;> rw [h] <;> rfl

@[simp] theorem dispatch_rxFlow (s : State) (k : Packet) (node vc : Nat) : (s.dispatch k).2.rxFlow node vc = s.rxFlow node vc := by
  obtain ⟨p, x, h⟩ | h := dispatch_cases s k <;> rw [h] <;> rfl

/-- Sending a packet changes nothing beside the spokes and the transport. -/
theorem dispatch_frame (s : State) (k : Packet) :
    (s.dispatch k).2 = { s with spokes := (s.dispatch k).2.spokes, hup := (s.dispatch k).2.hup } := by
  obtain ⟨p, x, h⟩ | h := dispatch_cases s k <;> rw [h] <;> rfl

/-! ### Acknowledging a flow (R312) -/

@[simp] theorem rxFlow_setRx_same (s : State) (node vc : Nat) (f : RxFlow) : (s.setRx node vc f).rxFlow node vc = f :=
  tget_tset_same ..

/-- An acknowledgement starts the count of arrivals anew and sends an ACK packet to the flow's source. -/
theorem sendAck_eq (s : State) (node vc : Nat) :
    ∃ a : Packet, s.sendAck node vc = ((s.setRx node vc { s.rxFlow node vc with arrivals := 0 }).dispatch a).2
      ∧ a.type = 1 ∧ a.dst = node ∧ a.src = s.node ∧ a.vc = vc ∧ a.ackValid = true :=
  ⟨_, rfl, rfl, rfl, rfl, rfl, rfl⟩

@[simp] theorem sendAck_objs (s : State) (node vc : Nat) : (s.sendAck node vc).objs = s.objs := dispatch_objs ..

@[simp] theorem sendAck_inbox (s : State) (node vc : Nat) : (s.sendAck node vc).hup.inbox = s.hup.inbox := dispatch_inbox ..

@[simp] theorem sendAck_rxFlow (s : State) (node vc : Nat) :
    (s.sendAck node vc).rxFlow node vc = { s.rxFlow node vc with arrivals := 0 } :=
  (dispatch_rxFlow ..).trans (rxFlow_setRx_same ..)

/-- An acknowledgement changes nothing beside the spokes and the transport. -/
theorem sendAck_frame (s : State) (node vc : Nat) :
    s.sendAck node vc = { s with spokes := (s.sendAck node vc).spokes, hup := (s.sendAck node vc).hup } := dispatch_frame ..

/-! ### Reception -/

/-- A packet is read from an input buffer: this device stays the node it is. -/
theorem inputGood_node (s : State) (p : Nat) (k : Packet) : (s.inputGood p k).2.node = s.node :=
  ((sramRead_accessed ..).trans (sramWrote_accessed ..)).regs _ _ _ (by decide)

/-- A link's first packet is taken when it is of the kind wanted and its words are good. -/
theorem takePacket_link {s : State} {want : Packet → Bool} {p : Nat} {k : Packet} {r : List (Nat × Packet)}
    (harr : s.hup.arrived = (p, k) :: r) (hwant : want k = true) (hgood : (s.inputGood p k).1 = true) :
    s.takePacket .link want
      = (some (p, k), ((s.inputGood p k).2.setHup { (s.inputGood p k).2.hup with arrived := r }).oweCredits p k) := by
  simp [State.takePacket, harr, hwant, hgood]

/-- An Ethernet chord's packet is taken when it is of the kind wanted, its tag and form are right and the input buffer has room. -/
theorem takePacket_chord {s : State} {want : Packet → Bool} {p : Nat} {k : Packet} (heth : s.ethernet p = true)
    (hup : s.linkUp p = true) (hroom : s.chordFull p k = false) (hkey : (s.spoke p).rxKey.isSome = true)
    (hform : packetBad k true = false) (hwant : want k = true) :
    s.takePacket (.chord p k true) want = (some (p, k), s.bumpF Obj.SPOKE_RX_BYTES p (k.vc % 8) k.payload.length) := by
  have hnone : (s.spoke p).rxKey.isNone = false := by rw [← Option.not_isSome, hkey]; rfl
  simp [State.takePacket, heth, hup, hroom, hnone, hform, hwant]

/-- A packet for this device whose epochs are live brings its acknowledgement, and then acts. -/
theorem receive_here {s b v : State} {src : PacketFrom} {want : Packet → Bool} {p : Nat} {k : Packet} (act : State → Nat → Packet → State)
    (htake : s.takePacket src want = (some (p, k), b)) (hdst : k.dst = b.node) (hgate : b.epochGate k = (true, v)) (htype : k.type ≠ 1) :
    s.receive src want act = act (if k.ackValid then v.ackArrive k.src k.vc k.ack 0 else v) p k := by
  simp [State.receive, htake, hdst, hgate, htype]

/-- The commands that take a packet of a numbered flow, each with the packets it is for (R310). -/
def sequencedForms (src : PacketFrom) (k : Packet) : List (Instr × Bool) :=
  [(.hupDataReceive src, k.type == 0), (.hupCloseReceive src, k.type == 2),
   (.epochNoticeReceive src, k.type == 3 && controlCode k == 1), (.genNoticeReceive src, k.type == 3 && controlCode k == 2)]

/-- Each of these commands puts the packet it is for into its flow. -/
theorem exec_sequencedForms (s : State) {src : PacketFrom} {k : Packet} {e : Instr × Bool} (he : e ∈ sequencedForms src k) (h : e.2 = true) :
    ∃ want : Packet → Bool, want k = true ∧ k.type ≠ 1 ∧ exec e.1 s = .next (s.receive src want (fun s _ k => s.flowArrive k)) := by
  simp only [sequencedForms, List.mem_cons, List.not_mem_nil, or_false] at he
  obtain rfl | rfl | rfl | rfl := he
  · exact ⟨fun k => k.type == 0, h, fun h1 => by simp [h1] at h, rfl⟩
  · exact ⟨fun k => k.type == 2, h, fun h1 => by simp [h1] at h, rfl⟩
  · exact ⟨fun k => k.type == 3 && controlCode k == 1, h, fun h1 => by simp [h1] at h, rfl⟩
  · exact ⟨fun k => k.type == 3 && controlCode k == 2, h, fun h1 => by simp [h1] at h, rfl⟩

/-- A packet whose SEQ is already delivered or held is counted, and its flow is acknowledged (R314). -/
theorem flowArrive_duplicate {s : State} {k : Packet}
    (h : 2 ^ 31 ≤ ahead (s.rxFlow k.src k.vc).next k.seq ∨ ∃ x ∈ (s.rxFlow k.src k.vc).held, x.seq = k.seq) :
    s.flowArrive k = (s.bump Obj.HUP_DUP_DISCARD_COUNT 0).sendAck k.src k.vc := by
  refine if_pos (h.imp id fun ⟨x, hx, hseq⟩ => List.any_eq_true.2 ⟨x, hx, ?_⟩)
  exact beq_iff_eq.2 hseq

/-- Settles O39: such a packet is taken, passes its epochs and reaches its flow, where it is counted and the flow acknowledged; neither
counting nor sending the ACK packet touches what has been delivered. -/
theorem duplicatesAreDiscarded : Obligations.DuplicatesAreDiscarded := by
  intro s b v src p k _ hsrc hdst hgate e he hfor w f hdup
  obtain ⟨want, hwant, htype, hexec⟩ := exec_sequencedForms s he hfor
  have ⟨htake, hnode⟩ : s.takePacket src want = (some (p, k), b) ∧ b.node = s.node := by
    obtain ⟨r, rfl, harr, hgood, rfl⟩ | ⟨rfl, heth, hup, hroom, hkey, hform, rfl⟩ := hsrc
    · exact ⟨takePacket_link harr hwant hgood, inputGood_node s p k⟩
    · exact ⟨takePacket_chord heth hup hroom hkey hform hwant, node_bumpF _ _ _ _ (by decide)⟩
  have hnext : exec e.1 s = .next ((w.bump Obj.HUP_DUP_DISCARD_COUNT 0).sendAck k.src k.vc) := by
    rw [hexec, receive_here _ htake (hdst.trans hnode.symm) hgate htype, flowArrive_duplicate hdup]
  obtain ⟨a, hack, hatype, hadst, hasrc, havc, havalid⟩ := sendAck_eq (w.bump Obj.HUP_DUP_DISCARD_COUNT 0) k.src k.vc
  refine ⟨_, _, a, hnext, sendAck_inbox .., ?count, sendAck_rxFlow .., hack, hatype, hadst, ?source, havc, havalid, ?regs, ?frame⟩
  case count => exact (regF_congr (sendAck_objs ..) ..).trans (reg_bump_same ..)
  case source => exact hasrc.trans (node_bumpF _ _ _ _ (by decide))
  case regs => exact fun o sub i h => (regF_congr (sendAck_objs ..) ..).trans (sameRegs_bump _ _ _ _ _ _ _ h)
  case frame => rw [sendAck_frame]; rfl

end Sys2Proof.Machine
end

section
/-! The sizes of flash images (19_pins_and_interfaces R542): what a BEGIN may do to the lengths of a copy's images. -/

namespace Sys2Proof.Machine

/-! ### Lengths of a copy's images -/

/-- The length of image `kind` of a copy. -/
def State.imageLength (s : State) (copy kind : Nat) : Nat := tget 0 s.flash.lengths (imagePlace copy kind)

/-- The images of a copy beside its loader together. -/
def State.othersLength (s : State) (copy : Nat) : Nat := s.imageLength copy 2 + s.imageLength copy 3 + s.imageLength copy 4

/-- Every image of the two copies has a place of its own (R541). -/
theorem imagePlace_inj {copy kind c k : Nat} (hk : 1 ≤ kind ∧ kind ≤ 4) (hk' : 1 ≤ k ∧ k ≤ 4)
    (h : imagePlace copy kind = imagePlace c k) : copy = c ∧ kind = k := by
  unfold imagePlace at h; omega

/-- A loader is too long beyond 12 MiB. -/
theorem fwTooLong_loader (s : State) (copy length : Nat) : s.fwTooLong 1 copy length = true ↔ 12 * 2 ^ 20 < length := by
  simp [State.fwTooLong]

/-- Another image is too long when it would take the three of its copy beyond 64 MiB: the one that it replaces does not count. -/
theorem fwTooLong_other (s : State) {kind : Nat} (copy length : Nat) (h : 2 ≤ kind ∧ kind ≤ 4) :
    s.fwTooLong kind copy length = true ↔ 64 * 2 ^ 20 < length + s.othersLength copy - s.imageLength copy kind := by
  obtain rfl | rfl | rfl : kind = 2 ∨ kind = 3 ∨ kind = 4 := by omega
  all_goals
    simp [State.fwTooLong, State.othersLength, State.imageLength]
    omega

/-! ### BEGIN -/

/-- A BEGIN of a kind and a copy that are there, too long for its copy, is refused. -/
theorem fwBegin_tooLong {s : State} {kind copy length : Nat} (hk : 1 ≤ kind ∧ kind ≤ 4) (hc : copy ≤ 1) (hl : length < 2 ^ 32)
    (h : s.fwTooLong kind copy length = true) : s.fwBegin kind copy length = (Abort.UPDATE_STATE, s) := by
  have hv : ¬(kind = 0 ∨ 4 < kind ∨ 1 < copy ∨ 2 ^ 32 ≤ length) := by omega
  rw [State.fwBegin, if_neg hv, if_pos (by simp [h])]

/-- What a BEGIN does to the lengths: none changes, or those of an image that fits do. -/
theorem fwBegin_lengths (s : State) (kind copy length : Nat) :
    (s.fwBegin kind copy length).2.flash.lengths = s.flash.lengths ∨
    ((1 ≤ kind ∧ kind ≤ 4) ∧ s.fwTooLong kind copy length = false ∧
      (s.fwBegin kind copy length).2.flash.lengths = tset s.flash.lengths (imagePlace copy kind) length) := by
  unfold State.fwBegin
  split
  · exact .inl rfl
  · split
    · exact .inl rfl
    · split
      · exact .inl rfl
      · rename_i hv hlong _
        exact .inr ⟨by omega, by simp_all, rfl⟩

/-- A row changes the flash as its owner does, or leaves it. -/
theorem row_flash (s : State) (who : Who) (o : ObjDef) (sub : Nat) (b : Bool) (act : State → Nat × State) :
    (s.row who o sub b act).flash = s.flash ∨ (s.row who o sub b act).flash = (act s).2.flash := by
  unfold State.row
  dsimp only
  repeat' split
  · exact .inl rfl
  · exact .inr rfl
  · exact .inl rfl

/-- So does the row that writes it. -/
theorem rowBegin_lengths (s : State) (who : Who) (kind copy length : Nat) :
    let t := s.row who Obj.FW_UPDATE_CONTROL 0 false (fun s => s.fwBegin kind copy length)
    t.flash.lengths = s.flash.lengths ∨
    ((1 ≤ kind ∧ kind ≤ 4) ∧ s.fwTooLong kind copy length = false ∧
      t.flash.lengths = tset s.flash.lengths (imagePlace copy kind) length) := by
  intro t
  obtain h | h : t.flash = s.flash ∨ t.flash = (s.fwBegin kind copy length).2.flash := row_flash ..
  · exact .inl (by rw [h])
  · rw [h]; exact fwBegin_lengths s kind copy length

/-- An image's length after it has been set. -/
theorem imageLength_of_tset {s t : State} {copy kind length c k : Nat} (hk : 1 ≤ kind ∧ kind ≤ 4) (hk' : 1 ≤ k ∧ k ≤ 4)
    (h : t.flash.lengths = tset s.flash.lengths (imagePlace copy kind) length) :
    t.imageLength c k = if c = copy ∧ k = kind then length else s.imageLength c k := by
  unfold State.imageLength
  rw [h, tget_tset]
  by_cases heq : c = copy ∧ k = kind
  · obtain ⟨rfl, rfl⟩ := heq
    rw [if_pos rfl, if_pos ⟨rfl, rfl⟩]
  · rw [if_neg heq, if_neg fun hplace => heq (imagePlace_inj hk' hk hplace)]

/-- A copy within its sizes stays within them when an image that fits takes the place of one. -/
theorem sizes_of_tset {s t : State} {copy kind length c : Nat} (hk : 1 ≤ kind ∧ kind ≤ 4) (hfits : s.fwTooLong kind copy length = false)
    (hset : t.flash.lengths = tset s.flash.lengths (imagePlace copy kind) length)
    (h : s.imageLength c 1 ≤ 12 * 2 ^ 20 ∧ s.othersLength c ≤ 64 * 2 ^ 20) :
    t.imageLength c 1 ≤ 12 * 2 ^ 20 ∧ t.othersLength c ≤ 64 * 2 ^ 20 := by
  have hkept : ∀ k, 1 ≤ k ∧ k ≤ 4 → (c = copy ∧ k = kind) ∨ t.imageLength c k = s.imageLength c k := fun k hk' =>
    (Classical.em (c = copy ∧ k = kind)).imp_right fun hne => (imageLength_of_tset hk hk' hset).trans (if_neg hne)
  have h1 := hkept 1 (by omega)
  have h2 := hkept 2 (by omega)
  have h3 := hkept 3 (by omega)
  have h4 := hkept 4 (by omega)
  unfold State.othersLength at h ⊢
  by_cases hc : c = copy
  · subst hc
    have hnew : t.imageLength c kind = length := (imageLength_of_tset hk hk hset).trans (if_pos ⟨rfl, rfl⟩)
    have hshort : ¬s.fwTooLong kind c length = true := by rw [hfits]; exact Bool.false_ne_true
    obtain rfl | hother : kind = 1 ∨ 2 ≤ kind := by omega
    · have hlen := mt (fwTooLong_loader s c length).2 hshort
      omega
    · have hlen := mt (fwTooLong_other s c length ⟨hother, hk.2⟩).2 hshort
      unfold State.othersLength at hlen
      obtain rfl | rfl | rfl : kind = 2 ∨ kind = 3 ∨ kind = 4 := by omega
      all_goals omega
  · omega

/-- Settles O48: a BEGIN that would break the sizes is refused, and one that is accepted sets the length of an image that fits. -/
theorem flashCopiesKeepTheirSizes : Obligations.FlashCopiesKeepTheirSizes := by
  intro s who kind copy length
  refine ⟨fun ⟨hanswers, hchecks⟩ hc hk1 hk4 hl hlong => ?_, fun t ht c _ hsizes => ?_⟩
  · have hlong' : s.fwTooLong kind copy length = true := by
      obtain ⟨rfl, h⟩ | ⟨h2, h⟩ := hlong
      · exact (fwTooLong_loader ..).2 h
      · exact (fwTooLong_other _ _ _ ⟨h2, hk4⟩).2 h
    rw [exec_fwUpdateBegin, execFwUpdateBegin, State.row_takes _ _ _ _ _ _ hanswers hchecks, fwBegin_tooLong ⟨hk1, hk4⟩ hc hl hlong']
    rfl
  · obtain rfl : s.row who Obj.FW_UPDATE_CONTROL 0 false (fun s => s.fwBegin kind copy length) = t := by
      simpa [execFwUpdateBegin] using ht
    obtain hsame | ⟨hk, hfits, hset⟩ := rowBegin_lengths s who kind copy length
    · simpa only [hsame] using hsizes
    · exact sizes_of_tset hk hfits hset hsizes

end Sys2Proof.Machine
end

section
/-! Zeroisation (16_security R467, 19_pins_and_interfaces R544): what becomes of the keys, the key states of the contexts, the spokes and
the error log. -/

namespace Sys2Proof.Machine

/-! ### Key states that an operation leaves -/

/-- `t` reads CONTEXT_KEY_STATE of every context as `s` does. -/
structure SameKeyStates (s t : State) : Prop where
  keyState : ∀ c, t.keyState c = s.keyState c

theorem SameKeyStates.refl (s : State) : SameKeyStates s s := ⟨fun _ => rfl⟩

theorem SameKeyStates.trans {s t u : State} (h : SameKeyStates s t) (k : SameKeyStates t u) : SameKeyStates s u :=
  ⟨fun c => (k.keyState c).trans (h.keyState c)⟩

theorem SameKeyStates.of_objs {s t : State} (h : t.objs = s.objs) : SameKeyStates s t := ⟨fun _ => reg_congr h ..⟩

theorem SameKeyStates.setRegF (s : State) {o : ObjDef} (sub i v : Nat) (h : Obj.CONTEXT_KEY_STATE.index ≠ o.index) :
    SameKeyStates s (s.setRegF o sub i v) := ⟨fun _ => regF_setRegF_other _ _ _ _ _ _ _ _ (.inl (ObjDef.key_ne h _ _))⟩

theorem SameKeyStates.setFields (s : State) {o : ObjDef} (sub : Nat) (l : List Nat) (h : Obj.CONTEXT_KEY_STATE.index ≠ o.index) :
    SameKeyStates s (s.setFields o sub l) := ⟨fun _ => regF_setFields_other _ _ _ _ _ _ _ (ObjDef.key_ne h _ _)⟩

theorem SameKeyStates.clearReg (s : State) {o : ObjDef} (sub : Nat) (h : Obj.CONTEXT_KEY_STATE.index ≠ o.index) :
    SameKeyStates s (s.clearReg o sub) := ⟨fun _ => regF_clearReg_other _ _ _ _ _ _ (ObjDef.key_ne h _ _)⟩

/-- No access to memory writes a key state. -/
theorem SameKeyStates.accessed {s t : State} (h : Accessed s t) : SameKeyStates s t := ⟨fun _ => h.regs _ _ _ (by decide)⟩

theorem SameKeyStates.log! (s : State) (e : Event) : SameKeyStates s (s.log! e) := .accessed (.log! s e)

theorem SameKeyStates.foldl {α : Type} {g : State → α → State} (l : List α) (s : State) (h : ∀ s a, SameKeyStates s (g s a)) :
    SameKeyStates s (l.foldl g s) :=
  List.foldlRecOn l g (.refl s) fun _ ht a _ => ht.trans (h _ a)

/-! ### Sending leaves the registers -/

@[simp] theorem pump_objs (fuel : Nat) (s : State) (node vc : Nat) : (s.pump node vc fuel).objs = s.objs := by
  induction fuel generalizing s with
  | zero => rfl
  | succ fuel ih =>
    unfold State.pump
    dsimp only
    split
    · rfl
    · rw [ih]; exact dispatch_objs ..

@[simp] theorem enqueuePieces_objs (l : List Bytes) (s : State) (node vc c : Nat) (who : Sender) (rank : Option Nat) (first : Bool) :
    (s.enqueuePieces node vc c who rank first l).objs = s.objs := by
  induction l generalizing s first with
  | nil => rfl
  | cons b l ih =>
    cases l with
    | nil => rfl
    | cons b' l => exact ih ..

@[simp] theorem sendControl_objs (s : State) (node c code value : Nat) : (s.sendControl node c code value).objs = s.objs := by
  unfold State.sendControl
  split
  · rfl
  · exact pump_objs ..

@[simp] theorem sendRecord_objs (s : State) (node vc c : Nat) (b : Bytes) (who : Sender) (rank : Option Nat) :
    (s.sendRecord node vc c b who rank).objs = s.objs := by
  unfold State.sendRecord
  split
  · rfl
  · rw [pump_objs, enqueuePieces_objs]

@[simp] theorem fabSend_objs (s : State) (r : FabReq) (retry : Bool) : (s.fabSend r retry).objs = s.objs := by
  rw [State.fabSend, sendRecord_objs]; rfl

@[simp] theorem fabLaunch_objs (s : State) (r : FabReq) : (s.fabLaunch r).objs = s.objs := by
  rw [State.fabLaunch, fabSend_objs, State.setFab_objs]

@[simp] theorem dropReq_objs (s : State) (r : FabReq) : (s.dropReq r).objs = s.objs := by
  unfold State.dropReq State.fabPump
  split
  · rw [fabLaunch_objs, State.setFab_objs, State.setFab_objs]
  · rfl

/-! ### A context reset leaves every key state (15_faults_and_recovery R411) -/

theorem genNotices_keyStates (s : State) (c : Nat) : SameKeyStates s (s.genNotices c) := by
  unfold State.genNotices
  split
  · exact .refl s
  · exact .foldl _ _ fun _ _ => .of_objs (sendControl_objs ..)

@[simp] theorem finishWith_objs (s : State) (n : Nat) (st : Status) (oc : FabOutcome) : (s.finishWith n st oc).objs = s.objs := by
  have hmeet : (s.meet n st).objs = s.objs := by unfold State.meet; split <;> rfl
  rw [← hmeet]
  unfold State.finishWith State.finish
  repeat' split
  all_goals rfl

theorem failItems_keyStates (s : State) (c : Nat) : SameKeyStates s (s.failItems c) :=
  .foldl _ _ fun _ _ => .of_objs (finishWith_objs ..)

theorem routerForget_keyStates (s : State) (c : Nat) : SameKeyStates s (s.routerForget c) := by
  have hdrains : ∀ t : State, SameKeyStates t (t.countDrains c) := fun _ => .setRegF _ _ _ _ (by decide)
  refine .trans ?_ (hdrains _)
  exact .of_objs rfl

theorem withdrawWork_keyStates (s : State) (c : Nat) : SameKeyStates s (s.withdrawWork c) := by
  have hcoll : ∀ t : State, SameKeyStates t (t.collForget c) := fun _ => .of_objs rfl
  unfold State.withdrawWork
  dsimp only
  refine .trans ?_ (hcoll _)
  refine .trans ?_ (routerForget_keyStates ..)
  refine .trans ?_ (.of_objs (State.setPlan_objs ..))
  refine .trans (t := (s.setFacets _).failItems c) ?_ (.of_objs rfl)
  refine .trans ?_ (failItems_keyStates ..)
  exact .of_objs rfl

theorem withhold_keyStates (s : State) (c p n : Nat) : SameKeyStates s (s.withhold c p n) := by
  unfold State.withhold
  split
  · exact .refl s
  · exact .trans (.of_objs (State.setPool_objs ..)) (.setRegF _ _ _ _ (by decide))

theorem bufEntry_accessed (s : State) (c p i : Nat) : Accessed s (s.bufEntry c p i).2 := by
  unfold State.bufEntry
  dsimp only
  split <;> exact (ctxRead_accessed ..).trans (sramRead_accessed ..)

theorem ctxWrite_keyStates (s : State) (c o : Nat) (b : Bytes) (w : Option Nat) : SameKeyStates s (s.ctxWrite c o b w).2 :=
  .accessed (ctxWrite_accessed ..)

theorem spill_keyStates (s : State) (c p : Nat) : SameKeyStates s (s.spill c p) := by
  unfold State.spill
  dsimp only
  repeat' split
  · exact .refl s
  · exact .trans (.of_objs (State.setPool_objs ..)) (ctxWrite_keyStates ..)
  · exact .trans (.trans (.of_objs (State.setPool_objs ..)) (ctxWrite_keyStates ..)) (ctxWrite_keyStates ..)

theorem freeBuffer_keyStates (s : State) (c p i gen owner : Nat) : SameKeyStates s (s.freeBuffer c p i gen owner) :=
  .trans (.trans (.trans (.of_objs (State.setPool_objs ..)) (spill_keyStates ..)) (ctxWrite_keyStates ..)) (.setRegF _ _ _ _ (by decide))

theorem poolRelease_keyStates (s : State) (c p : Nat) : SameKeyStates s (s.poolRelease c p) := by
  refine .foldl _ _ fun t i => ?_
  have hread := SameKeyStates.accessed (bufEntry_accessed t c p i)
  split
  · rename_i h; rw [h] at hread; exact hread.trans (freeBuffer_keyStates ..)
  · rename_i h; rw [h] at hread; exact hread.trans (.trans (.of_objs (State.setPool_objs ..)) (withhold_keyStates ..))

theorem poolsReset_keyStates (s : State) (c : Nat) : SameKeyStates s (s.poolsReset c) :=
  (SameKeyStates.foldl _ _ fun _ _ => poolRelease_keyStates ..).trans (.foldl _ _ fun _ _ => .setFields _ _ _ (by decide))

theorem fabContextReset_keyStates (s : State) (c : Nat) : SameKeyStates s (s.fabContextReset c) := by
  have hraise : (s.raiseHorizons c).objs = s.objs := by unfold State.raiseHorizons; rfl
  have hwithdraw : ∀ t : State, (t.withdrawPackets c).objs = t.objs := fun _ => rfl
  have hlines : ∀ t : State, (t.dropContextLines c).objs = t.objs := fun _ => rfl
  unfold State.fabContextReset
  refine .trans ?_ (.foldl _ _ fun _ _ => .of_objs (dropReq_objs ..))
  exact .of_objs (by rw [hlines, State.setFab_objs, hwithdraw, hraise])

theorem clearCounters_keyStates (s : State) (c : Nat) : SameKeyStates s (s.clearCounters c) := by
  have hne : ∀ o ∈ contextCounters, Obj.CONTEXT_KEY_STATE.index ≠ o.index := by decide
  refine ⟨fun d => regF_clearCounters s c Obj.CONTEXT_KEY_STATE d 0 fun hmem => ?_⟩
  obtain ⟨o, ho, hkey⟩ := List.mem_map.mp hmem
  exact ObjDef.key_ne (hne o ho) _ _ hkey.symm

theorem dropPendingMap_keyStates (s : State) (c : Nat) : SameKeyStates s (s.dropPendingMap c) :=
  .trans (.of_objs (State.setMaps_objs ..)) (.setRegF _ _ _ _ (by decide))

theorem beginReset_keyStates (s : State) (c cause : Nat) (toFree : Bool) : SameKeyStates s (s.beginReset c cause toFree) := by
  have hpause : ∀ t : State, SameKeyStates t (t.pauseQueues c) := fun _ => .of_objs rfl
  unfold State.beginReset
  dsimp only
  refine .trans ?_ (clearCounters_keyStates ..)
  refine .trans ?_ (dropPendingMap_keyStates ..)
  refine .trans ?_ (.of_objs (State.setMaint_objs ..))
  refine .trans ?_ (fabContextReset_keyStates ..)
  refine .trans ?_ (poolsReset_keyStates ..)
  refine .trans ?_ (withdrawWork_keyStates ..)
  refine .trans ?_ (hpause _)
  refine .trans ?_ (.setRegF _ _ _ _ (by decide))
  refine .trans ?_ (genNotices_keyStates ..)
  refine .trans ?_ (.log! ..)
  refine .trans ?_ (.of_objs (State.setRcv_objs ..))
  refine .trans ?_ (.setRegF _ _ _ _ (by decide))
  exact .setRegF _ _ _ _ (by decide)

/-! ### A context returns to FREE (R457) -/

/-- Contexts that are FREE at `s` are FREE at `t`, as long as only values of objects with that apply time wait for a step. -/
structure KeepsFree (s t : State) : Prop where
  waits : s.waitsRight → t.waitsRight
  free : s.waitsRight → ∀ c, s.keyState c = ksFree → t.keyState c = ksFree

theorem KeepsFree.refl (s : State) : KeepsFree s s := ⟨id, fun _ _ => id⟩

theorem KeepsFree.trans {s t u : State} (h : KeepsFree s t) (k : KeepsFree t u) : KeepsFree s u :=
  ⟨fun hw => k.waits (h.waits hw), fun hw c hc => k.free (h.waits hw) c (h.free hw c hc)⟩

theorem KeepsFree.of_same {s t : State} (h : Keeps s t) (k : SameKeyStates s t) : KeepsFree s t :=
  ⟨h.waits, fun _ c hc => (k.keyState c).trans hc⟩

/-- A context's key state that is no longer listed is FREE, its default. -/
theorem keyState_free_of_tfind {s t : State} {c : Nat} (hfree : s.keyState c = ksFree)
    (h : tfind t.objs (Obj.CONTEXT_KEY_STATE.key c) = none
      ∨ tfind t.objs (Obj.CONTEXT_KEY_STATE.key c) = tfind s.objs (Obj.CONTEXT_KEY_STATE.key c)) : t.keyState c = ksFree := by
  unfold State.keyState State.reg State.regF at *
  obtain h | h := h
  · rw [h]; rfl
  · rw [h]; exact hfree

theorem tfind_eq_none {α : Type} {t : Table α} {k : Nat} (h : ∀ e ∈ t, e.1 ≠ k) : tfind t k = none := by
  induction t with
  | nil => rfl
  | cons e r ih => rw [tfind, if_neg (h e (List.mem_cons_self ..)), ih fun x hx => h x (List.mem_cons_of_mem _ hx)]

/-- A filter that judges an entry by its key leaves it out, or leaves it as it was. -/
theorem tfind_filter_cases {α : Type} {p : Nat × α → Bool} (t : Table α) {k : Nat} (h : ∀ v w, p (k, v) = p (k, w)) :
    tfind (t.filter p) k = none ∨ tfind (t.filter p) k = tfind t k := by
  induction t with
  | nil => exact .inl rfl
  | cons e r ih =>
    obtain ⟨j, v⟩ := e
    by_cases hj : j = k
    · subst hj
      by_cases hp : p (j, v) = true
      · exact .inr (by simp [hp, tfind])
      · refine .inl (tfind_eq_none fun e he hkey => ?_)
        obtain ⟨i, w⟩ := e
        obtain rfl : i = j := hkey
        exact hp ((h v w).trans (List.mem_filter.1 he).2)
    · by_cases hp : p (j, v) = true <;> simpa [hp, hj, tfind] using ih

theorem clearKeyState_keepsFree (s : State) (c : Nat) : KeepsFree s (s.clearReg Obj.CONTEXT_KEY_STATE c) :=
  ⟨(State.clearReg_keeps ..).waits,
    fun _ _ hd => keyState_free_of_tfind hd (tfind_filter_cases s.objs fun _ _ => rfl)⟩

theorem defaultTenantObjects_keepsFree (s : State) (c : Nat) : KeepsFree s (s.defaultTenantObjects c) :=
  ⟨(State.defaultTenantObjects_keeps ..).waits,
    fun _ _ hd => keyState_free_of_tfind hd (tfind_filter_cases s.objs fun _ _ => rfl)⟩

/-- No value of CONTEXT_KEY_STATE waits for a step. -/
theorem keyState_notWaiting {s : State} (h : s.waitsRight) (d : Nat) : ∀ e ∈ s.waitStep, e.1 ≠ Obj.CONTEXT_KEY_STATE.key d := by
  intro e he heq
  have hidx : e.1 / 256 = Obj.CONTEXT_KEY_STATE.index := by rw [heq, ObjDef.key]; omega
  have hwaits := h e he
  rw [hidx] at hwaits
  exact absurd hwaits (by decide +kernel)

theorem planTo_keepsFree (s : State) (c st : Nat) : KeepsFree s (s.planTo c st) := by
  refine ⟨(State.planTo_keeps ..).waits, fun hw d hd => ?_⟩
  have hplan : SameKeyStates s (s.setReg Obj.PLAN_STATE c st) := .setRegF _ _ _ _ (by decide)
  unfold State.planTo
  dsimp only
  refine (regF_settle _ _ _ _ _ ?waits).trans ?state
  case waits => split <;> simpa using keyState_notWaiting hw d
  case state =>
    refine (regF_followPlans _ _ _ _ (ObjDef.key_ne (by decide) _ _) (ObjDef.key_ne (by decide) _ _)).trans ?_
    split
    · exact (hplan.keyState d).trans hd
    · exact ((hplan.trans (.of_objs (State.setMaint_objs ..))).keyState d).trans hd

/-- What CONTEXT_WITHDRAWN and a zeroisation do once a context has lost its work: its key state is cleared, and no other context's
is written but to become FREE. -/
theorem toFree_eq (s : State) (c : Nat) : ∃ (t : State) (p : Plan), KeepsFree s t ∧ s.toFree c
    = ((((t.clearReg Obj.CONTEXT_KEY_STATE c).clearReg Obj.KEY_ROTATE_CURSOR c).defaultTenantObjects c).setPlan c p).planTo c planEmpty := by
  refine ⟨_, _, ?_, rfl⟩
  refine .trans ?_ (.of_same (State.clearReg_keeps ..) (.clearReg _ _ (by decide)))
  refine .trans ?_ (.of_same (State.eraseKeys_keeps ..) (.of_objs rfl))
  refine .trans ?_ (.of_same (State.setSec_keeps ..) (.of_objs rfl))
  exact .of_same (Keeps.foldl _ _ _ fun _ _ => State.closeTransfer_keeps ..) (.foldl _ _ fun _ _ => .of_objs (State.closeTransfer_objs ..))

/-- Once a context's key state has been cleared, it stays FREE. -/
theorem freed_keepsFree (t : State) (c : Nat) (p : Plan) :
    KeepsFree t ((((t.clearReg Obj.KEY_ROTATE_CURSOR c).defaultTenantObjects c).setPlan c p).planTo c planEmpty) := by
  refine .trans ?_ (planTo_keepsFree ..)
  refine .trans ?_ (.of_same (State.setPlan_keeps ..) (.of_objs rfl))
  refine .trans ?_ (defaultTenantObjects_keepsFree ..)
  exact .of_same (State.clearReg_keeps ..) (.clearReg _ _ (by decide))

theorem toFree_keepsFree (s : State) (c : Nat) : KeepsFree s (s.toFree c) := by
  obtain ⟨t, p, ht, heq⟩ := toFree_eq s c
  rw [heq]
  exact (ht.trans (clearKeyState_keepsFree t c)).trans (freed_keepsFree ..)

theorem keyState_toFree {s : State} (hw : s.waitsRight) (c : Nat) : (s.toFree c).keyState c = ksFree := by
  obtain ⟨t, p, ht, heq⟩ := toFree_eq s c
  rw [heq]
  exact (freed_keepsFree ..).free ((clearKeyState_keepsFree t c).waits (ht.waits hw)) c (regF_clearReg_same ..)

/-! ### Contexts that are zeroised -/

/-- A zeroised context reaches `toFree` from a state in which its work is gone. -/
theorem zeroiseContext_cases (s : State) (c : Nat) :
    (s.keyState c = ksFree ∧ s.zeroiseContext c = s) ∨ ∃ t, KeepsFree s t ∧ s.zeroiseContext c = t.toFree c := by
  unfold State.zeroiseContext
  split
  · rename_i h; exact .inl ⟨h, rfl⟩
  · refine .inr ⟨_, ?_, rfl⟩
    split
    · exact .of_same (State.setRcv_keeps id) (.of_objs rfl)
    · exact .of_same (State.beginReset_keeps ..) (beginReset_keyStates ..)

theorem zeroiseContext_keepsFree (s : State) (c : Nat) : KeepsFree s (s.zeroiseContext c) := by
  obtain ⟨-, h⟩ | ⟨t, ht, h⟩ := zeroiseContext_cases s c
  · rw [h]; exact .refl s
  · rw [h]; exact ht.trans (toFree_keepsFree t c)

theorem keyState_zeroiseContext {s : State} (hw : s.waitsRight) (c : Nat) : (s.zeroiseContext c).keyState c = ksFree := by
  obtain ⟨hfree, h⟩ | ⟨t, ht, h⟩ := zeroiseContext_cases s c
  · rw [h]; exact hfree
  · rw [h]; exact keyState_toFree (ht.waits hw) c

/-- A fold over a list reaches what each of its steps does for its own element, when every other step keeps that. -/
theorem foldl_establishes {α : Type} {g : State → α → State} {I : State → Prop} {P : α → State → Prop} (hI : ∀ s a, I s → I (g s a))
    (hdoes : ∀ s a, I s → P a (g s a)) (hkeeps : ∀ s a b, I s → P b s → P b (g s a)) (l : List α) {s : State} (hs : I s) :
    I (l.foldl g s) ∧ ∀ a ∈ l, P a (l.foldl g s) := by
  induction l generalizing s with
  | nil => exact ⟨hs, nofun⟩
  | cons a r ih =>
    obtain ⟨hinv, hrest⟩ := ih (hI s a hs)
    refine ⟨hinv, List.forall_mem_cons.2 ⟨?_, hrest⟩⟩
    exact (List.foldlRecOn (motive := fun t => I t ∧ P a t) r g ⟨hI s a hs, hdoes s a hs⟩
      fun t ⟨ht, hp⟩ b _ => ⟨hI t b ht, hkeeps t b a ht hp⟩).2

/-- After every context of a list has been zeroised, each of them is FREE. -/
theorem keyState_zeroiseContexts {s : State} (hw : s.waitsRight) (l : List Nat) {c : Nat} (hc : c ∈ l) :
    (l.foldl State.zeroiseContext s).keyState c = ksFree :=
  (foldl_establishes (I := State.waitsRight) (P := fun c t => t.keyState c = ksFree) (fun s c => (zeroiseContext_keepsFree s c).waits)
    (fun _ c hw => keyState_zeroiseContext hw c) (fun s c d hw => (zeroiseContext_keepsFree s c).free hw d) l hw).2 c hc

/-! ### Spokes that lose their keys -/

/-- The spoke holds no key in either direction. -/
def Spoke.Keyless (x : Spoke) : Prop := x.txKey = none ∧ x.rxKey = none

theorem spoke_setSpoke (s : State) (p q : Nat) (x : Spoke) : (s.setSpoke p x).spoke q = if q = p then x else s.spoke q := tget_tset ..

/-- What closing a spoke does beside that spoke's own record: the root of trust and the key states stay, and no spoke gets a key. -/
structure SpokeWork (s t : State) : Prop where
  sec : t.sec = s.sec
  keyStates : SameKeyStates s t
  keyless : ∀ q, (s.spoke q).Keyless → (t.spoke q).Keyless

theorem SpokeWork.refl (s : State) : SpokeWork s s := ⟨rfl, .refl s, fun _ => id⟩

theorem SpokeWork.trans {s t u : State} (h : SpokeWork s t) (k : SpokeWork t u) : SpokeWork s u :=
  ⟨k.sec.trans h.sec, h.keyStates.trans k.keyStates, fun q hq => k.keyless q (h.keyless q hq)⟩

/-- The spokes' records are as they were. -/
theorem SpokeWork.of_spokes {s t : State} (hsec : t.sec = s.sec) (hkeys : SameKeyStates s t) (h : t.spokes = s.spokes) : SpokeWork s t :=
  ⟨hsec, hkeys, fun q hq => by unfold State.spoke at *; rwa [h]⟩

theorem SpokeWork.setSpoke (s : State) (p : Nat) {x : Spoke} (h : (s.spoke p).Keyless → x.Keyless) : SpokeWork s (s.setSpoke p x) := by
  refine ⟨rfl, .of_objs rfl, fun q hq => ?_⟩
  rw [spoke_setSpoke]
  split
  · rename_i heq; exact h (heq ▸ hq)
  · exact hq

theorem SpokeWork.foldl {α : Type} {g : State → α → State} (l : List α) (s : State) (h : ∀ s a, SpokeWork s (g s a)) :
    SpokeWork s (l.foldl g s) :=
  List.foldlRecOn l g (.refl s) fun _ ht a _ => ht.trans (h _ a)

theorem SpokeWork.setRegF (s : State) {o : ObjDef} (sub i v : Nat) (h : Obj.CONTEXT_KEY_STATE.index ≠ o.index) :
    SpokeWork s (s.setRegF o sub i v) := .of_spokes rfl (.setRegF _ _ _ _ h) rfl

theorem SpokeWork.log! (s : State) (e : Event) : SpokeWork s (s.log! e) :=
  .of_spokes (State.log!_sec ..) (.log! ..) (State.log!_spokes ..)

theorem dispatch_spokeWork (s : State) (k : Packet) : SpokeWork s (s.dispatch k).2 := by
  unfold State.dispatch
  split
  · exact .setSpoke _ _ id
  · exact .of_spokes rfl (.of_objs rfl) rfl

theorem setSpokeState_spokeWork (s : State) (p state found : Nat) : SpokeWork s (s.setSpokeState p state found) := by
  unfold State.setSpokeState
  split
  · exact .refl s
  · refine .trans ?_ (.log! ..)
    exact .setRegF _ _ _ _ (by decide)

/-- A spoke that stops carrying traffic loses its keys (11_spokes R298), and no other gets one. -/
theorem closeSpoke_eq (s : State) (p state found : Nat) :
    ∃ x : Spoke, x.Keyless ∧ SpokeWork (s.setSpoke p x) (s.closeSpoke p state found) := by
  let x : Spoke := { authTimes := (s.spoke p).authTimes, proposalNumber := (s.spoke p).proposalNumber, heartbeats := (s.spoke p).heartbeats }
  refine ⟨x, ⟨rfl, rfl⟩, ?_⟩
  have hcount : ∀ t : State, SpokeWork t (t.bump Obj.HUP_REROUTE_COUNT 0) := fun _ => .setRegF _ _ _ _ (by decide)
  unfold State.closeSpoke
  dsimp only
  refine .trans ?_ (.foldl _ _ fun _ _ => dispatch_spokeWork ..)
  refine .trans ?_ (.foldl _ _ fun _ _ => (hcount _).trans (dispatch_spokeWork ..))
  refine .trans ?_ (setSpokeState_spokeWork ..)
  refine .trans ?_ (.setRegF _ _ _ _ (by decide))
  exact .setRegF _ _ _ _ (by decide)

/-- What a zeroisation does to a spoke: one that carries traffic goes DOWN, and another loses its keys. -/
def State.zeroiseSpoke (s : State) (p : Nat) : State :=
  if s.spokeUp p then s.spokeDown p else s.setSpoke p { s.spoke p with txKey := none, rxKey := none, rxNext := none, rxOld := none }

theorem zeroiseSpoke_eq (s : State) (p : Nat) : ∃ x : Spoke, x.Keyless ∧ SpokeWork (s.setSpoke p x) (s.zeroiseSpoke p) := by
  unfold State.zeroiseSpoke
  split
  · exact closeSpoke_eq ..
  · exact ⟨_, ⟨rfl, rfl⟩, .refl _⟩

theorem zeroiseSpoke_spokeWork (s : State) (p : Nat) : SpokeWork s (s.zeroiseSpoke p) := by
  obtain ⟨x, hx, h⟩ := zeroiseSpoke_eq s p
  exact .trans (.setSpoke _ _ fun _ => hx) h

theorem zeroiseSpoke_keyless (s : State) (p : Nat) : ((s.zeroiseSpoke p).spoke p).Keyless := by
  obtain ⟨x, hx, h⟩ := zeroiseSpoke_eq s p
  exact h.keyless p (by rwa [spoke_setSpoke, if_pos rfl])

/-- After every spoke of a list has been zeroised, none of them holds a key. -/
theorem keyless_zeroiseSpokes (s : State) (l : List Nat) {p : Nat} (hp : p ∈ l) : ((l.foldl State.zeroiseSpoke s).spoke p).Keyless :=
  (foldl_establishes (I := fun _ => True) (P := fun p t => (t.spoke p).Keyless) (fun _ _ => id) (fun t p _ => zeroiseSpoke_keyless t p)
    (fun t p q _ => (zeroiseSpoke_spokeWork t p).keyless q) l trivial).2 p hp

/-! ### The root of trust and the error log -/

/-- The root of trust without keys: of a context's only the transfer KEY_ID stays (notes/assumptions/98). -/
def Security.zeroised (x : Security) : Security :=
  { x with keys := x.keys.map (fun (e : Nat × ContextKeys) => (e.1, { keyId := e.2.keyId })), serviceKey := none }

theorem contextKeys_zeroised (s : State) (x : Security) (hsec : s.sec = x.zeroised) (c : Nat) :
    ∃ k, s.contextKeys c = { keyId := k } := by
  unfold State.contextKeys
  rw [hsec, Security.zeroised]
  dsimp only
  induction x.keys with
  | nil => exact ⟨0, rfl⟩
  | cons e r ih =>
    rw [List.map_cons, tget]
    split
    · exact ⟨_, rfl⟩
    · exact ih

/-- A record that is added is the newest, also when the oldest leaves (15_faults_and_recovery R404). -/
theorem ErrLog.getLast?_add (l : ErrLog) (r : ErrRec) : (l.add r).ring.getLast? = some r := by
  unfold ErrLog.add
  dsimp only
  split
  · rename_i h
    cases hring : l.ring with
    | nil => simp [hring] at h
    | cons a t => simp
  · simp

/-! ### Zeroisation -/

/-- What a zeroised device is (R467). -/
structure State.Zeroised (t : State) : Prop where
  devState : t.devState = dsFault
  serviceKey : t.sec.serviceKey = none
  contextKeys : ∀ c, ∃ k, t.contextKeys c = { keyId := k }
  keyState : ∀ c, 1 ≤ c → c < 16 → t.keyState c = ksFree
  spokes : ∀ p, p < 18 → (t.spoke p).Keyless
  record : ∃ r, t.log.ring.getLast? = some r ∧ r.code = 0x090

theorem enter_spokeWork (s : State) (st cause : Nat) : SpokeWork s (s.enter st cause) := by
  refine .of_spokes (State.enter_sec ..) ⟨fun _ => ?_⟩ (State.enter_spokes ..)
  exact regF_enter _ _ _ _ _ _ (ObjDef.key_ne (by decide) _ _) (ObjDef.key_ne (by decide) _ _)

/-- The stages of a zeroisation: the contexts become FREE, the keys are erased, the spokes lose theirs, and at last come the record and
FAULT. -/
theorem zeroise_stages {s : State} (hboot : dsBoot ≤ s.devState) (hreset : s.rcv.resetting = none) (hw : s.waitsRight) :
    ∃ contexts spokes : State, (∀ c, 1 ≤ c → c < 16 → contexts.keyState c = ksFree)
      ∧ SpokeWork (contexts.setSec contexts.sec.zeroised) spokes ∧ (∀ p, p < 18 → (spokes.spoke p).Keyless)
      ∧ s.zeroise = (spokes.log! { code := 0x090, sub := 15, info0 := Config.causeCode causeKeys }).enter dsFault 6 := by
  have hruns : ¬(s.devState < dsBoot ∨ s.rcv.resetting.isSome = true) :=
    fun h => h.elim (Nat.not_lt.2 hboot) (by simp [hreset])
  have hfree : ∀ c, 1 ≤ c → c < 16 → ((range2 1 16).foldl State.zeroiseContext (s.bump Obj.ZEROISE_COUNT 0)).keyState c = ksFree := by
    intro c h1 h16
    have hmem : c ∈ range2 1 16 := List.mem_map.2 ⟨c - 1, List.mem_range.2 (by omega), by omega⟩
    exact keyState_zeroiseContexts ((State.bump_keeps ..).waits hw) _ hmem
  refine ⟨_, _, hfree, .foldl (List.range 18) _ zeroiseSpoke_spokeWork, fun p hp => keyless_zeroiseSpokes _ _ (List.mem_range.2 hp), ?_⟩
  rw [State.zeroise, if_neg hruns]
  rfl

theorem zeroise_zeroised {s : State} (hboot : dsBoot ≤ s.devState) (hreset : s.rcv.resetting = none) (hw : s.waitsRight) :
    s.zeroise.Zeroised := by
  obtain ⟨contexts, spokes, hfree, hspokes, hkeyless, heq⟩ := zeroise_stages hboot hreset hw
  have hend : SpokeWork spokes s.zeroise := by rw [heq]; exact .trans (.log! ..) (enter_spokeWork ..)
  have hwork : SpokeWork (contexts.setSec contexts.sec.zeroised) s.zeroise := hspokes.trans hend
  have hsec : s.zeroise.sec = contexts.sec.zeroised := hwork.sec
  constructor
  case devState => rw [heq]; exact devState_enter ..
  case serviceKey => rw [hsec]; rfl
  case contextKeys => exact contextKeys_zeroised _ _ hsec
  case keyState => exact fun c h1 h16 => (hwork.keyStates.keyState c).trans (hfree c h1 h16)
  case spokes => exact fun p hp => hend.keyless p (hkeyless p hp)
  case record =>
    refine ⟨Event.record { code := 0x090, sub := 15, info0 := Config.causeCode causeKeys } spokes, ?_, rfl⟩
    rw [heq, State.enter_log, State.log!_log _ _ (by decide), ErrLog.getLast?_add]

/-- A driving JTAG instruction and ZEROISE_TRIGGER both zeroise; the first is noted beside. -/
theorem exec_zeroises {i : Instr} (h : i ∈ [Instr.jtagInstructionLoad true, .zeroiseTrigger]) (s : State) :
    ∃ x, exec i s = .next (s.setSec x).zeroise := by
  simp only [List.mem_cons, List.not_mem_nil, or_false] at h
  obtain rfl | rfl := h
  · exact ⟨{ s.sec with jtagDrives := true }, by rw [exec_jtagInstructionLoad, execJtagInstructionLoad, if_pos rfl]⟩
  · have hsame : s.setSec s.sec = s := rfl
    exact ⟨s.sec, by rw [hsame, exec_zeroiseTrigger, execZeroiseTrigger]⟩

/-- Settles O45: both commands zeroise the device, and a zeroised device holds no key, has every tenant context FREE, and is in FAULT with
record 0x090 the newest. -/
theorem drivingInstructionsZeroise : Obligations.DrivingInstructionsZeroise := by
  intro s hboot hreset hw i hi
  obtain ⟨x, hexec⟩ := exec_zeroises hi s
  have ht : (s.setSec x).zeroise.Zeroised := zeroise_zeroised hboot hreset hw
  refine ⟨_, hexec, ht.devState, ht.serviceKey, fun c => ?_, ht.keyState, fun p hp _ => ht.spokes p hp, ht.record⟩
  obtain ⟨k, hk⟩ := ht.contextKeys c
  rw [hk]
  exact ⟨rfl, rfl, rfl⟩

end Sys2Proof.Machine
end
